-- ==== Sys2Proof/Word.lean ====
section
/-! DEFINITION. The word types of the part: bytes, 32-bit register dwords, and whole-value
byte strings. Field arithmetic on dwords is in Machine/Flags.lean, byte order in Machine/Bytes.lean. -/

namespace Sys2Proof

/-- One byte, of memory, of a message or of a frame. -/
abbrev Byte := BitVec 8

/-- One 32-bit register of the 16 MiB register space (R9). -/
abbrev Word := BitVec 32

/-- A byte string, byte 0 first. -/
abbrev Bytes := List Byte

end Sys2Proof
end

