-- ==== Sys2Proof/Syntax.lean ====
section
/-! DEFINITION. The commands and events the block takes, one constructor of `Instr` per row of
spec/opcode_table.json, with the data types of their operands. -/

namespace Sys2Proof

/-- The path a register access arrives by (R10, R397): BAR0 of endpoint function 1, a service session
(each session has its own latches, R382), or the control cores. -/
inductive AccessPath where
  | bar0
  | service (session : Nat)
  | cores
  deriving DecidableEq, Repr

/-- What names one NVMe command (R36, R43): its association, queue and CID. Queue 0 is the admin queue. -/
structure Cap where
  assoc : Nat
  qid : Nat
  cid : Nat
  deriving DecidableEq, Repr

/-- The data pointer of a command (R37, R326). -/
inductive DataPtr where
  /-- One in-capsule Data Block descriptor. -/
  | inCapsule (len : Nat)
  /-- One Keyed SGL Data Block descriptor, sub-type 0h: host memory. -/
  | keyed (addr key len : Nat)
  /-- One Keyed SGL Data Block descriptor, sub-type Fh: an ingest window's local key and an offset in it. -/
  | window (key offset len : Nat)
  /-- PRPs, of endpoint function 0 only. -/
  | prp (len : Nat)
  /-- Data Block, Segment and Last Segment descriptors, of endpoint function 0 only. -/
  | segments (len : Nat)
  /-- Any other descriptor, or more than one. -/
  | other
  deriving DecidableEq, Repr

/-- A key as the command carries it: KL of CDW11 [7:0] and the 16 key bytes of CDW2-3 and CDW14-15 (R56). -/
structure KvKey where
  len : Nat
  bytes : Bytes
  deriving DecidableEq, Repr

/-- What one drive read returned. -/
inductive ReadResult where
  | data (bytes : Bytes)
  | unrecovered
  deriving DecidableEq, Repr

/-- What the drive of one member answers to a read of `count` sectors from `sector` on, in the course of a step. -/
structure MediaRead where
  member : Nat
  sector : Nat
  count : Nat
  result : ReadResult
  deriving DecidableEq, Repr

/-- Status of a completed drive command (R98, R100). -/
inductive DriveStatus where
  | success
  | error
  | unrecovered (sectors : List Nat)
  | reservationConflict
  deriving DecidableEq, Repr

/-- A Rill job descriptor (R120). The reserved bytes are one sum: zero when every zero field is zero. -/
structure RillDesc where
  opcode : Nat
  flags : Nat
  pParam : Nat
  winCode : Nat
  stride : Nat
  inputAddr : Nat
  inputLen : Nat
  expected : Nat
  outputAddr : Nat
  outputLen : Nat
  context : Nat
  zeroFields : Nat
  deriving DecidableEq, Repr

/-- A cipher job descriptor (R144). -/
structure CipherDesc where
  opcode : Nat
  queue : Nat
  expEpoch : Nat
  expTenant : Nat
  expNsid : Nat
  expObject : Nat
  nonce : Bytes
  inputLen : Nat
  inputAddr : Nat
  outputAddr : Nat
  context : Nat
  zeroFields : Nat
  deriving DecidableEq, Repr

/-- What a frame carries, as far as R164 and R165 tell frames apart. -/
inductive FrameKind where
  | roce (qpn : Nat)
  /-- An IEEE 1588 message; whether it is an event message, which carries a time stamp, and a Sync (R161, R306). -/
  | ptp (event sync : Bool)
  | raps
  | rack
  | arpNd
  /-- Priorities named and the quanta of each. -/
  | pfc (times : List (Nat × Nat))
  | other
  deriving DecidableEq, Repr

/-- A frame as it arrives on a network port (R160, R164, R165, R168, R170). -/
structure Frame where
  length : Nat
  dmac : Nat
  multicast : Bool
  vid : Nat
  pcp : Option Nat
  dscp : Option Nat
  ecnCapable : Bool
  ecnCe : Bool
  fcsOk : Bool
  kind : FrameKind
  head : Bytes
  deriving DecidableEq, Repr

/-- An R-APS message (R176): request and status bits, version 2. -/
inductive RapsReq where
  | sf | nr | nrRb | ms | fs | event
  deriving DecidableEq, Repr

/-- What an R-APS frame carries beside its request (R176): VLAN, destination address and maintenance level. -/
structure RapsHdr where
  vid : Nat
  dmac : Nat
  mel : Nat
  deriving DecidableEq, Repr

/-- An R-APS frame (R176): its request, and what it carries beside. -/
structure RapsMsg where
  req : RapsReq
  hdr : RapsHdr
  deriving DecidableEq, Repr

/-- The Master's times of a Sync exchange (R307): the origin of the Sync, and the receipt of the Delay_Req. -/
structure PtpTimes where
  t1 : Int
  t4 : Int
  deriving DecidableEq, Repr

/-- A domain that is switched on, and whether the first tests of its core, where it holds one, passed (R157, R301). -/
structure DomainOn where
  domain : Nat
  passed : Bool
  deriving DecidableEq, Repr

/-- What an accumulator request asks for (R243): the message it belongs to, and the Band. -/
structure AccAsk where
  msgId : Nat
  band : Nat
  deriving DecidableEq, Repr

/-- The RoCE v2 operations a packet may carry (R185). -/
inductive RdmaOp where
  | send | sendImm | sendInv | write | writeImm | readReq | flush | atomic | bind
  deriving DecidableEq, Repr

/-- The placement header of a spraying queue pair (R194). -/
structure PlaceHdr where
  firstPsn : Nat
  selective : Bool
  offset : Nat
  rkey : Nat
  target : Nat
  deriving DecidableEq, Repr

/-- A RoCE v2 request packet for one of the part's queue pairs (R190, R194). -/
structure Packet where
  /-- The local address it is sent to. -/
  dmac : Nat
  qpn : Nat
  psn : Nat
  op : RdmaOp
  first : Bool
  last : Bool
  ecnCe : Bool
  /-- RETH of a first packet: address, key, length. -/
  reth : Option (Nat × Nat × Nat)
  imm : Option Nat
  place : Option PlaceHdr
  payload : Bytes
  deriving DecidableEq, Repr

/-- A NAK a host returns (R184, R187, R203). -/
inductive HostNak where
  | sequence (psn : Nat)
  | rnr (delayNs : Nat)
  | remoteAccess
  | invalidRequest
  deriving DecidableEq, Repr

/-- The content of a CM REQ that R183, R193 and R241 look at. -/
structure CmReq where
  mtu : Nat
  responderRes : Nat
  hsqsize : Nat
  assoc : Nat
  qid : Nat
  remoteGid : Nat
  remoteQpn : Nat
  remoteMac : Nat
  vlan : Nat
  /-- The local address the request was sent to. -/
  localMac : Nat
  startPsn : Nat
  /-- Bytes 24-31 of the CM private data. -/
  priv : Bytes
  deriving DecidableEq, Repr

/-- The ordinary work request a triggered work request posts (R201). -/
structure WorkReq where
  /-- 1 SEND, 2 SEND with immediate, 3 RDMA WRITE, as in R227. -/
  kind : Nat
  length : Nat
  imm : Nat
  rkey : Nat
  remote : Nat
  local_ : Nat
  deriving DecidableEq, Repr

/-- One key-value index entry (R65). The key is its first `keyLen` bytes. -/
structure IndexEntry where
  nsid : Nat
  key : Bytes
  legalHold : Bool
  imported : Bool
  spilled : Bool
  valueLen : Nat
  serial : Nat
  member : Nat
  sector : Nat
  retainUntil : Nat
  commitTime : Nat
  epoch : Nat
  storedSectors : Nat
  mode : Nat
  /-- Extents of its commit record (R63), as member, sectors, first sector; the R65 layout does not hold them (assumption 42). -/
  extents : List (Nat × Nat × Nat)
  deriving DecidableEq, Repr

/-- One block map entry (R83); all zero means deallocated. -/
structure MapEntry where
  member : Nat
  unit : Nat
  sector : Nat
  deriving DecidableEq, Repr

/-- One entry of a bed's lost-range list (R112). -/
structure LostRange where
  first : Nat
  last : Nat
  mask : Nat
  cause : Nat
  deriving DecidableEq, Repr

/-- The NVMe commands a slot can hold (R36, R56), as far as later steps need them. -/
inductive NvmeCmd where
  | flush (nsid : Nat)
  | write (nsid slba nlb : Nat) (dptr : DataPtr)
  | read (nsid slba nlb : Nat) (dptr : DataPtr)
  | writeZeroes (nsid slba nlb : Nat)
  | dsm (nsid : Nat) (deallocate : Bool) (ranges : List (Nat × Nat))
  | verify (nsid slba nlb : Nat)
  | store (nsid : Nat) (key : KvKey) (size : Nat) (mustExist mustNotExist : Bool) (dptr : DataPtr)
  | retrieve (nsid : Nat) (key : KvKey) (bufLen : Nat) (dptr : DataPtr)
  | list (nsid : Nat) (key : KvKey) (bufLen : Nat) (dptr : DataPtr)
  | delete (nsid : Nat) (key : KvKey)
  | exist (nsid : Nat) (key : KvKey)
  | hold (nsid : Nat) (key : KvKey) (action : Nat) (until_ : Nat)
  | importRecord (nsid : Nat) (key : KvKey) (bufLen origLen entries : Nat) (dptr : DataPtr)
  | objectInfo (nsid : Nat) (key : KvKey) (bufLen : Nat) (dptr : DataPtr)
  | admin (opcode : Nat)
  deriving DecidableEq, Repr

/-- Head of a record mirror frame or of a write notice (R222). -/
structure MirrorHead where
  bed : Nat
  member : Nat
  kind : Nat
  start : Nat
  count : Nat
  gen : Nat
  assoc : Nat
  qid : Nat
  cid : Nat
  lastMap : Bool
  deriving DecidableEq, Repr

/-- The transport state of a queue pair that a tick delta carries (R227, section 0x03). -/
structure QpCopy where
  index : Nat
  gen : Nat
  expPsn : Nat
  msn : Nat
  reqNext : Nat
  oldest : Nat
  readsOut : Nat
  mtu : Nat
  spray : Nat
  rtt10ns : Nat
  rateMbps : Nat
  assoc : Nat
  remoteGid : Nat
  remoteQpn : Nat
  remoteMac : Nat
  vlan : Nat
  laddr : Nat
  deriving DecidableEq, Repr

/-- A scoreboard entry as a tick delta carries it: an LBA range, a key, or for a List the whole namespace (R227, section 0x02). -/
structure ScoreEntry where
  arrival : Nat
  nsid : Nat
  modifies : Bool
  keys : Bool
  whole : Bool
  first : Nat
  count : Nat
  key : Bytes
  deriving DecidableEq, Repr

/-- One entry of a tick delta, section by section (R226, R227). -/
inductive DeltaEntry where
  | slotTaken (slot arrival serial : Nat) (cap : Cap) (phase : Nat) (cmd : NvmeCmd)
  | slotPhase (slot phase progress : Nat)
  | slotFreed (slot : Nat)
  | scoreAdd (e : ScoreEntry)
  | scoreRemove (e : ScoreEntry)
  | qpChanged (q : QpCopy)
  | qpCreated (q : QpCopy)
  | qpDestroyed (index : Nat)
  | indexPut (e : IndexEntry)
  | indexDel (e : IndexEntry)
  | mapPut (nsid first : Nat) (entries : List MapEntry)
  | bandState (band gen state : Nat)
  | dirtyCleared (band gen : Nat)
  | writeDone (member band gen start count : Nat)
  | digest (band count crcSum fold : Nat)
  | counters (arrival serial fold : Nat)
  | memberState (member state : Nat)
  | bedState (state : Nat)
  | fillSet (mask : Nat) (appends : List Nat)
  | cursor (member cursor queued : Nat)
  | lostRange (r : LostRange)
  | epoch (nsid current floor highest : Nat)
  | windowReg (index key assoc sizeMib : Nat)
  | windowRev (index : Nat)
  | trigPost (entry qp counter threshold : Nat) (wr : WorkReq)
  | trigCounter (counter value lastImm : Nat)
  | trigGone (entry : Nat)
  | unknown (kind : Nat)
  deriving DecidableEq, Repr

/-- One piece of a bed's structures in a JOIN_DATA message (R220). -/
inductive JoinPiece where
  | map (nsid first : Nat) (entries : List MapEntry)
  | bandTable (first : Nat) (entries : List (Nat × Nat × Bool))
  | bitmap (first : Nat) (bits : List Bool)
  | indexPage (entries : List IndexEntry)
  | accumulators (band fold : Nat) (sectors : List (Nat × Bytes × Bytes))
  deriving DecidableEq, Repr

/-- A heartbeat word as received (R231): `crcOk` covers its CRC, `magicOk` its magic. -/
structure HbWord where
  crcOk : Bool
  magicOk : Bool
  state : Nat
  position : Nat
  fault : Bool
  fenced : Bool
  tested : Bool
  healthOk : Bool
  gussetUp : Bool
  detached : Bool
  seq : Nat
  peerMiss : Nat
  owned : Nat
  joined : Nat
  units : Nat
  tickAck : Nat
  deriving DecidableEq, Repr

/-- A Gusset frame as received (R218): `crcOk`, the header's fields, its payload length. -/
structure GussetFrame where
  crcOk : Bool
  kind : Nat
  first : Bool
  last : Bool
  length : Nat
  seq : Nat
  ack : Nat
  bed : Nat
  zeroFields : Nat
  /-- Bytes 0-3 of a type 0x09 payload: the sequence number named by a NAK. -/
  nak : Nat
  /-- Byte 0 of a type 0x0B payload: the type of the control message that begins with this frame (R220). -/
  message : Nat
  deriving DecidableEq, Repr

/-- The header of a rack message that reached the control path (R248). `auth` says that tag, magic and
version are right; all other checks are the receiver's. -/
structure RackHead where
  auth : Bool
  sender : Nat
  epoch : Nat
  sendTime : Nat
  position : Nat
  shelf : Nat
  deriving DecidableEq, Repr

/-- The STATUS body (R249). -/
structure StatusBody where
  target : Nat
  state : Nat
  peerState : Nat
  peerFailed : Bool
  rebuild : Bool
  wakeWanted : Bool
  gussetUp : Bool
  owned : Nat
  drivesOn : Nat
  parked : Nat
  oldestPark : Nat
  ctlPower : Nat
  slotPower : Nat
  drivesNeeded : Nat
  idleSeconds : Nat
  planGen : Nat
  orderId : Nat
  deriving DecidableEq, Repr

/-- What the drive in a slot answers when it is identified (R74, R110). -/
structure DriveInfo where
  linksBoth : Bool
  nsOk : Bool
  sectors : Nat
  zerosOk : Bool
  deallocOk : Bool
  reservOk : Bool
  durable : Bool
  serial : Bytes
  eui : Nat
  /-- SMART critical warning byte of the drive (R98). -/
  smart : Nat
  /-- Bed ID and member index of the valid superblock it carries. -/
  superblock : Option (Nat × Nat)
  deriving DecidableEq, Repr

/-- What a member's valid superblock says (R77), as far as the mount conditions and the recovery look at it. -/
structure Superblock where
  bedId : Nat
  index : Nat
  serial : Bytes
  objSerial : Nat
  fold : Nat
  gen : Nat
  ckptCount : Nat
  ckptTime : Nat
  snapSlot : Nat
  clean : Bool
  deriving DecidableEq, Repr

/-- What one member answers at a mount (R75, R98): the capacity and serial its drive reports, and the 4 KiB sectors of both
copies of its superblock and bed description, `none` for a copy that cannot be read. -/
structure MemberAnswer where
  member : Nat
  sectors : Nat
  serial : Bytes
  super0 : Option Bytes
  super1 : Option Bytes
  desc0 : Option Bytes
  desc1 : Option Bytes
  deriving DecidableEq, Repr

/-- What the members of a bed answer at its mount, in a step that mounts it (R75, R93, R98): each member that answers; for each
index page, what P's and Q's copies hold, `none` where the copy fails its CRC or there is none; for each map page, its 4 KiB as
read from P and from Q; Band table entries as a Band and its 64-bit word (R79); the drives' answers to the reads of the recovery
walk. -/
structure MountAnswer where
  bed : Nat
  members : List MemberAnswer
  index : List (Option (List IndexEntry) × Option (List IndexEntry))
  map : List (Option Bytes × Option Bytes)
  bands : List (Nat × Nat)
  /-- Bands dirty in the peer's MRAM copy of the bitmap, where the peer has one and answers (R92, R93). -/
  peerDirty : Option (List Nat)
  /-- Bands dirty in the newer valid snapshot on P or Q (R92). -/
  snapshot : List Nat
  media : List MediaRead
  deriving DecidableEq, Repr

/-- What a start-up step finds (R318, R319, R320): each field is read only by the step that looks at it. -/
structure StartInfo where
  romOk : Bool
  mramAnswers : Bool
  imageOkA : Bool
  imageOkB : Bool
  kdfOk : Bool
  coresOk : Nat
  /-- Bit c: DDR channel c trains; and the GiB of each channel. -/
  ddrTrained : Nat
  ddrGib : List Nat
  sectionsOk : Bool
  sectionsOtherOk : Bool
  /-- Position in the peer's heartbeat word, when one has been received. -/
  peerPosition : Option Nat
  /-- The 4 KiB of each key store copy as read from the configuration NOR; `none`: as this controller wrote it (R152). -/
  keyCopy0 : Option Bytes
  keyCopy1 : Option Bytes
  deriving DecidableEq, Repr

/-- Where one of the part's 9 supply rails stands (R296): rail number as in PWR_RAIL. -/
structure RailInfo where
  rail : Nat
  ok : Bool
  /-- VDD_PWRDIE: below 2.9 V. -/
  low29 : Bool
  /-- For VDDA_SER and VDDH_SER, the lanes affected: bit n network port n, bit 4 Gusset, bit 8 + s drive port s. -/
  ports : Nat
  deriving DecidableEq, Repr

/-- A PCI Express configuration request to an endpoint function (R327). -/
structure CfgReq where
  fn : Nat
  isWrite : Bool
  offset : Nat
  be : Nat
  value : Word
  deriving DecidableEq, Repr

/-- A memory request to BAR2 (R331, R332). -/
structure Bar2Req where
  isWrite : Bool
  offset : Nat
  length : Nat
  poisoned : Bool
  data : Bytes
  deriving DecidableEq, Repr

/-- What a function 0 read fetches (R335). -/
inductive EptFetch where
  | sqe (qid : Nat)
  | data (cap : Cap)
  deriving DecidableEq, Repr

/-- The authentication and the header of a service message (R379). -/
structure SvcHead where
  session : Nat
  request : Nat
  tagOk : Bool
  force : Bool
  /-- The body length matches its type and operation, and every zero byte is zero (R382). -/
  bodyOk : Bool
  deriving DecidableEq, Repr

/-- The operands of BED create (R382). -/
structure BedCreate where
  bed : Nat
  members : Nat
  hMib : Nat
  fillWidth : Nat
  openMax : Nat
  spillGib : Nat
  eGib : Nat
  eIdx : Nat
  slots : List Nat
  drives : List DriveInfo
  /-- The 64 random bits drawn for the bed ID (R77). -/
  bedId : Nat
  deriving DecidableEq, Repr

/-- The operands of a Connect (R33, R54). -/
structure ConnectReq where
  qid : Nat
  sqsize : Nat
  kato : Nat
  subnqn : Bytes
  hostnqn : Bytes
  /-- Data pointer of the Connect data. -/
  dptr : DataPtr
  deriving DecidableEq, Repr

/-- The value of a Set Features (R37): command Dword 11, or for 81h the data, which the data pointer brings. -/
structure FeatureVal where
  value : Nat
  dptr : DataPtr
  deriving DecidableEq, Repr

/-- The vendor fields of a namespace to create (R55): chunk length and Mode D, each where the request gives it. -/
structure NsVendor where
  chunk : Option Nat
  modeD : Option Bool
  deriving DecidableEq, Repr

/-- The controller list of a namespace attachment (R55), and the data pointer that brings it. -/
structure CtrlList where
  ids : List Nat
  dptr : DataPtr
  deriving DecidableEq, Repr

/-- The ranges of a Dataset Management command (R41), the data pointer that brings them, and what the members return. -/
structure DsmReq where
  ranges : List (Nat × Nat)
  dptr : DataPtr
  media : List MediaRead
  deriving DecidableEq, Repr

/-- What a controller reads of a bed from its members when it registers its key to join (R77, R78, R242): geometry, the
members' slots, sizes and serials. -/
structure BedGeom where
  bed : Nat
  n : Nat
  hMib : Nat
  e : Nat
  eIdx : Nat
  bedId : Nat
  bandCount : Nat
  slots : List Nat
  sectors : List Nat
  serials : List Bytes
  deriving DecidableEq, Repr

/-- A host association of the peer, as its copied Connect and Set Features capsules give it (R226 section 0x01, R238). -/
structure AssocCopy where
  number : Nat
  bed : Nat
  hostNqn : Bytes
  tenant : Nat
  kato : Nat
  /-- Queue IDs, sizes, and the index of each queue's queue pair. -/
  queues : List (Nat × Nat × Nat)
  deriving DecidableEq, Repr

/-- An entry of the peer's namespace table (R55). -/
structure NsCopy where
  nsid : Nat
  kv : Bool
  bed : Nat
  tenant : Nat
  chunk : Nat
  modeD : Bool
  lbas : Nat
  epoch : Nat
  attached : List Nat
  deriving DecidableEq, Repr

/-- What the survivor knows of the peer beside the tick state (R31, R237, R238): its host addresses as VID × 2^48 + MAC,
its associations and its namespaces, and the newest superblock on P or Q of each of its beds by bed number; how they reach
it is not in the spec. -/
structure PeerInfo where
  /-- Part number of the peer (R1, R31). -/
  part : Nat
  addrs : List Nat
  assocs : List AssocCopy
  spaces : List NsCopy
  supers : List (Nat × Superblock)
  deriving DecidableEq, Repr

/-- One controller of the rack table (R246). -/
structure RackEntry where
  serial : Nat
  shelf : Nat
  position : Nat
  eligible : Bool
  rank : Nat
  address : Nat
  deriving DecidableEq, Repr

/-- A transport notice at the standby (R224): kind 1 acknowledgement, 2 request. -/
structure Notice where
  qp : Nat
  kind : Nat
  rtype : Nat
  first : Nat
  last : Nat
  slot : Nat
  deriving DecidableEq, Repr

/-- Operations of a drive command. -/
inductive DriveOp where
  | read | write | flush | dealloc | acquire | preempt | register | report | shutdown | abort | reset
  deriving DecidableEq, Repr

/-- The commands: one constructor for each row of spec/opcode_table.json, in its order, with the row's operands. The meaning
of `x` is `Machine.execX`, whose docstring says what each operand is. -/
inductive Instr where
  /-- REGISTER_WRITE (R7). -/
  | registerWrite (path : AccessPath) (addr : Nat) (be : Nat) (value : Word)
  /-- READ_CLEAR_ACCESS (R9). -/
  | readClearAccess (path : AccessPath) (addr : Nat) (be : Nat)
  /-- LO_READ_LATCH (R397). -/
  | loReadLatch (path : AccessPath) (addr : Nat)
  /-- CONNECT (R33). -/
  | connect (cap : Cap) (req : ConnectReq)
  /-- PROPERTY_GET (R195). -/
  | propertyGet (cap : Cap) (offset : Nat)
  /-- WINDOW_REGISTER (R195). -/
  | windowRegister (cap : Cap)
  /-- WINDOW_REVOKE_PROPERTY (R199). -/
  | windowRevokeProperty (cap : Cap)
  /-- PROPERTY_SET (R36). -/
  | propertySet (cap : Cap) (offset : Nat) (value : Nat)
  /-- DISCONNECT (R34). -/
  | disconnect (cap : Cap)
  /-- KEEP_ALIVE (R34). -/
  | keepAlive (cap : Cap)
  /-- KEEP_ALIVE_EXPIRY (R34). -/
  | keepAliveExpiry (assoc : Nat)
  /-- SLOT_GRANT (R35). -/
  | slotGrant
  /-- GET_LOG_PAGE (R38). -/
  | getLogPage (cap : Cap) (lid : Nat) (offset : Nat) (len : Nat) (dptr : DataPtr)
  /-- IDENTIFY (R36). -/
  | identify (cap : Cap) (cns : Nat) (nsid : Nat) (dptr : DataPtr)
  /-- ABORT (R43). -/
  | abort (cap : Cap) (tqid : Nat) (tcid : Nat)
  /-- SET_FEATURES (R37). -/
  | setFeatures (cap : Cap) (fid : Nat) (v : FeatureVal)
  /-- GET_FEATURES (R37). -/
  | getFeatures (cap : Cap) (fid : Nat) (dptr : DataPtr)
  /-- ASYNCHRONOUS_EVENT_REQUEST (R36). -/
  | asynchronousEventRequest (cap : Cap)
  /-- NAMESPACE_CREATE (R55). -/
  | namespaceCreate (cap : Cap) (kv : Bool) (fourK : Bool) (lbas : Nat) (vendor : NsVendor) (dptr : DataPtr)
  /-- NAMESPACE_DELETE (R69). -/
  | namespaceDelete (cap : Cap) (nsid : Nat)
  /-- NAMESPACE_ATTACHMENT (R55). -/
  | namespaceAttachment (cap : Cap) (nsid : Nat) (attach : Bool) (ctrls : CtrlList)
  /-- SHORT_SELF_TEST (R50). -/
  | shortSelfTest (cap : Cap) (nsid : Nat)
  /-- EXTENDED_SELF_TEST (R50). -/
  | extendedSelfTest (cap : Cap) (nsid : Nat)
  /-- SELF_TEST_ABORT (R50). -/
  | selfTestAbort (cap : Cap)
  /-- SELF_TEST_SLICE (R51). -/
  | selfTestSlice (took : Nat) (last : Bool) (passed : Bool)
  /-- ADMIN_OPCODE_UNSUPPORTED (R36). -/
  | adminOpcodeUnsupported (cap : Cap) (opcode : Nat)
  /-- CREATE_IO_SUBMISSION_QUEUE (R326). -/
  | createIoSubmissionQueue (cap : Cap) (qid : Nat) (size : Nat) (cqid : Nat)
  /-- DELETE_IO_SUBMISSION_QUEUE (R326). -/
  | deleteIoSubmissionQueue (cap : Cap) (qid : Nat)
  /-- CREATE_IO_COMPLETION_QUEUE (R326). -/
  | createIoCompletionQueue (cap : Cap) (qid : Nat) (size : Nat) (vec : Option Nat)
  /-- DELETE_IO_COMPLETION_QUEUE (R326). -/
  | deleteIoCompletionQueue (cap : Cap) (qid : Nat)
  /-- FLUSH (R45). -/
  | flush (cap : Cap) (nsid : Nat)
  /-- WRITE (R41). -/
  | write (cap : Cap) (nsid : Nat) (slba : Nat) (nlb : Nat) (dptr : DataPtr) (data : Bytes) (media : List MediaRead)
  /-- READ (R41). -/
  | read (cap : Cap) (nsid : Nat) (slba : Nat) (nlb : Nat) (dptr : DataPtr) (media : List MediaRead)
  /-- WRITE_ZEROES (R82). -/
  | writeZeroes (cap : Cap) (nsid : Nat) (slba : Nat) (nlb : Nat) (media : List MediaRead)
  /-- DATASET_MANAGEMENT (R36). -/
  | datasetManagement (cap : Cap) (nsid : Nat) (deallocate : Bool) (req : DsmReq)
  /-- VERIFY (R36). -/
  | verify (cap : Cap) (nsid : Nat) (slba : Nat) (nlb : Nat) (media : List MediaRead)
  /-- IO_OPCODE_UNSUPPORTED (R36). -/
  | ioOpcodeUnsupported (cap : Cap) (nsid : Nat) (opcode : Nat)
  /-- WAKE_REQUEST_REPEAT (R47). -/
  | wakeRequestRepeat
  /-- PARK_TIMEOUT (R48). -/
  | parkTimeout (arrival : Nat)
  /-- DARK_CAPSULE_RESPONSE (R49). -/
  | darkCapsuleResponse (n : Nat) (cap : Cap) (keepAlive : Bool)
  /-- STORE (R61). -/
  | store (cap : Cap) (nsid : Nat) (key : KvKey) (size : Nat) (mustExist : Bool) (mustNotExist : Bool) (dptr : DataPtr) (data : Bytes) (media : List MediaRead)
  /-- RETRIEVE (R58). -/
  | retrieve (cap : Cap) (nsid : Nat) (key : KvKey) (bufLen : Nat) (dptr : DataPtr) (media : List MediaRead)
  /-- LIST (R59). -/
  | list (cap : Cap) (nsid : Nat) (key : KvKey) (bufLen : Nat) (dptr : DataPtr) (media : List MediaRead)
  /-- DELETE (R61). -/
  | delete (cap : Cap) (nsid : Nat) (key : KvKey) (media : List MediaRead)
  /-- EXIST (R57). -/
  | exist (cap : Cap) (nsid : Nat) (key : KvKey) (media : List MediaRead)
  /-- SET_LEGAL_HOLD (R69). -/
  | setLegalHold (cap : Cap) (nsid : Nat) (key : KvKey) (media : List MediaRead)
  /-- CLEAR_LEGAL_HOLD (R69). -/
  | clearLegalHold (cap : Cap) (nsid : Nat) (key : KvKey) (media : List MediaRead)
  /-- SET_RETAIN_UNTIL (R69). -/
  | setRetainUntil (cap : Cap) (nsid : Nat) (key : KvKey) (until_ : Nat) (media : List MediaRead)
  /-- IMPORT_RECORD (R70). -/
  | importRecord (cap : Cap) (nsid : Nat) (key : KvKey) (bufLen : Nat) (origLen : Nat) (entries : Nat) (dptr : DataPtr) (data : Bytes) (media : List MediaRead)
  /-- OBJECT_INFO (R71). -/
  | objectInfo (cap : Cap) (nsid : Nat) (key : KvKey) (bufLen : Nat) (dptr : DataPtr) (media : List MediaRead)
  /-- KV_OPCODE_UNSUPPORTED (R56). -/
  | kvOpcodeUnsupported (cap : Cap) (nsid : Nat) (opcode : Nat)
  /-- MAP_DELTA_APPLY (R41). -/
  | mapDeltaApply (arrival : Nat)
  /-- INDEX_DELTA_APPLY (R61). -/
  | indexDeltaApply (arrival : Nat)
  /-- DRIVE_COMMAND_COMPLETION (R98). -/
  | driveCommandCompletion (id : Nat) (status : DriveStatus) (data : Bytes)
  /-- DRIVE_COMMAND_TIMEOUT (R98). -/
  | driveCommandTimeout (id : Nat)
  /-- DRIVE_READY_TIMEOUT (R98). -/
  | driveReadyTimeout (slot : Nat)
  /-- DRIVE_READY (R86). -/
  | driveReady (slot : Nat) (info : DriveInfo)
  /-- MEMBER_UNREACHABLE_TIMEOUT (R98). -/
  | memberUnreachableTimeout (slot : Nat)
  /-- PROXY_COMMAND (R101). -/
  | proxyCommand (id : Nat) (op : DriveOp) (slot : Nat) (sector : Nat) (count : Nat) (data : Bytes)
  /-- REBUILD_FLUSH_COMPLETE (R108). -/
  | rebuildFlushComplete (b : Nat)
  /-- REBUILD_SLICE_COMPLETE (R108). -/
  | rebuildSliceComplete (b : Nat) (media : List MediaRead)
  /-- RECORD_FOLD (R87). -/
  | recordFold (b : Nat) (media : List MediaRead)
  /-- FOLD_WAIT_EXPIRY (R87). -/
  | foldWaitExpiry (b : Nat) (media : List MediaRead)
  /-- MEMBER_IDLE_TIMEOUT (R86). -/
  | memberIdleTimeout (b : Nat) (m : Nat)
  /-- CHECKPOINT_INTERVAL_EXPIRY (R89). -/
  | checkpointIntervalExpiry (b : Nat) (k : Nat)
  /-- CKPT_NOW (R89). -/
  | ckptNow (b : Nat)
  /-- CHECKPOINT_PHASE_COMPLETE (R90). -/
  | checkpointPhaseComplete (b : Nat) (k : Nat) (ok : Bool)
  /-- RESYNC_BAND_COMPLETE (R94). -/
  | resyncBandComplete (b : Nat) (media : List MediaRead)
  /-- RECLAIM (R95). -/
  | reclaim (b : Nat) (media : List MediaRead)
  /-- RILL_JOB_SUBMIT (R121). -/
  | rillJobSubmit (d : RillDesc) (input : Bytes) (host : Bool)
  /-- RILL_JOB_COMPLETE (R119). -/
  | rillJobComplete (core : Nat) (bad : Nat)
  /-- RILL_CORE_NO_PROGRESS (R119). -/
  | rillCoreNoProgress (core : Nat)
  /-- RILL_PAIR_IDLE (R117). -/
  | rillPairIdle (pair : Nat)
  /-- CIPHER_JOB_SUBMIT (R144). -/
  | cipherJobSubmit (d : CipherDesc) (input : Bytes)
  /-- KEY_DERIVATION_COMPLETE (R142). -/
  | keyDerivationComplete
  /-- CIPHER_JOB_COMPLETE (R145). -/
  | cipherJobComplete (core : Nat)
  /-- CIPHER_CORE_NO_PROGRESS (R143). -/
  | cipherCoreNoProgress (core : Nat)
  /-- FRAME_RECEIVE (R164). -/
  | frameReceive (n : Nat) (f : Frame)
  /-- PFC_REFRESH (R166). -/
  | pfcRefresh (n : Nat) (c : Nat)
  /-- PAUSE_EXPIRY (R166). -/
  | pauseExpiry (n : Nat) (c : Nat)
  /-- PAUSE_WATCHDOG_EXPIRY (R167). -/
  | pauseWatchdogExpiry (n : Nat) (c : Nat)
  /-- LOSSLESS_RESTORE_EXPIRY (R167). -/
  | losslessRestoreExpiry (n : Nat) (c : Nat)
  /-- EGRESS_FRAME_END (R210). -/
  | egressFrameEnd (n : Nat)
  /-- LINK_DOWN (R172). -/
  | linkDown (n : Nat) (fec : Bool)
  /-- LINK_UP (R173). -/
  | linkUp (n : Nat)
  /-- LINK_HOLD_EXPIRY (R173). -/
  | linkHoldExpiry (n : Nat)
  /-- BANK_DRAIN_EXPIRY (R175). -/
  | bankDrainExpiry
  /-- RAPS_MESSAGE (R176). -/
  | rapsMessage (n : Nat) (m : RapsMsg)
  /-- RING_HOLDOFF_EXPIRY (R176). -/
  | ringHoldoffExpiry (n : Nat)
  /-- RING_GUARD_EXPIRY (R176). -/
  | ringGuardExpiry
  /-- CM_REQ (R183). -/
  | cmReq (req : CmReq)
  /-- CM_RTU (R183). -/
  | cmRtu (i : Nat)
  /-- CM_REJ (R183). -/
  | cmRej (i : Nat)
  /-- CM_DREQ (R184). -/
  | cmDreq (i : Nat)
  /-- PACKET_RECEIVE (R190). -/
  | packetReceive (p : Packet)
  /-- ACK_TIMER_EXPIRY (R188). -/
  | ackTimerExpiry (i : Nat)
  /-- GAP_TIMEOUT (R192). -/
  | gapTimeout (i : Nat)
  /-- CNP_RECEIVED (R189). -/
  | cnpReceived (i : Nat)
  /-- CC_RATE_INCREASE (R189). -/
  | ccRateIncrease (i : Nat)
  /-- REQUEST_ACK_RECEIVED (R186). -/
  | requestAckReceived (i : Nat) (psn : Nat)
  /-- NAK_RECEIVED (R184). -/
  | nakReceived (i : Nat) (nak : HostNak)
  /-- LOCAL_ACK_TIMEOUT (R187). -/
  | localAckTimeout (i : Nat)
  /-- RNR_RETRY_EXPIRY (R187). -/
  | rnrRetryExpiry (i : Nat)
  /-- QPN_INDEX_RETURN (R181). -/
  | qpnIndexReturn (i : Nat)
  /-- WINDOW_DRAIN_END (R199). -/
  | windowDrainEnd (w : Nat)
  /-- TRIGGERED_WR_POST (R201). -/
  | triggeredWrPost (qp : Nat) (counter : Nat) (threshold : Nat) (wr : WorkReq)
  /-- LOCAL_WR_COMPLETE (R202). -/
  | localWrComplete (counter : Nat)
  /-- REFILL_BOUNDARY (R206). -/
  | refillBoundary
  /-- GCL_COMMIT (R213). -/
  | gclCommit (n : Nat)
  /-- GCL_COMMIT_CANCEL (R213). -/
  | gclCommitCancel (n : Nat)
  /-- GCL_START (R213). -/
  | gclStart (n : Nat)
  /-- GCL_ENTRY_END (R212). -/
  | gclEntryEnd (n : Nat)
  /-- QUEUE_SAMPLE (R215). -/
  | queueSample (n : Nat)
  /-- GUSSET_LINK_UP (R217). -/
  | gussetLinkUp
  /-- GUSSET_LINK_DOWN (R217). -/
  | gussetLinkDown
  /-- GUSSET_RETRAIN_TIMEOUT (R217). -/
  | gussetRetrainTimeout
  /-- GUSSET_DOWN_DETACH (R229). -/
  | gussetDownDetach
  /-- GUSSET_FRAME_RECEIVE (R221). -/
  | gussetFrameReceive (f : GussetFrame)
  /-- GUSSET_LINK_ACK (R221). -/
  | gussetLinkAck (seq : Nat)
  /-- GUSSET_ACK_TIMER (R221). -/
  | gussetAckTimer
  /-- GUSSET_RETRANSMIT_TIMER (R221). -/
  | gussetRetransmitTimer
  /-- RECORD_MIRROR (R222). -/
  | recordMirror (id : Nat) (head : MirrorHead) (bytes : Bytes)
  /-- WINDOW_MIRROR (R196). -/
  | windowMirror (b : Nat) (index : Nat) (offset : Nat) (key : Nat) (bytes : Bytes)
  /-- WRITE_NOTICE (R222). -/
  | writeNotice (head : MirrorHead)
  /-- TRANSPORT_NOTICE (R224). -/
  | transportNotice (b : Nat) (n : Notice)
  /-- FOLD_NOTICE (R223). -/
  | foldNotice (b : Nat) (id : Nat) (fold : Nat)
  /-- TICK_END (R226). -/
  | tickEnd
  /-- TICK_DELTA (R226). -/
  | tickDelta (b : Nat) (tick : Nat) (entries : List DeltaEntry)
  /-- TICK_ACKNOWLEDGEMENT (R228). -/
  | tickAcknowledgement (b : Nat) (tick : Nat)
  /-- TICK_ACK_TIMEOUT (R229). -/
  | tickAckTimeout
  /-- JOIN_REQUEST (R242). -/
  | joinRequest (b : Nat) (msgId : Nat) (serial : Nat) (kcv : Bytes)
  /-- JOIN_DATA (R242). -/
  | joinData (b : Nat) (piece : JoinPiece)
  /-- JOIN_DONE (R242). -/
  | joinDone (b : Nat) (msgId : Nat) (tick : Nat) (fold : Nat)
  /-- JOIN_ACK (R242). -/
  | joinAck (b : Nat)
  /-- DETACH_REQUEST (R229). -/
  | detachRequest (msgId : Nat) (mask : Nat)
  /-- DETACH_DONE (R229). -/
  | detachDone (mask : Nat)
  /-- KEY_CHECK (R153). -/
  | keyCheck (kcv : Bytes) (keyState : Nat) (found : List BedGeom)
  /-- PAIRING (R153). -/
  | pairing (msgId : Nat) (sender : Nat) (iv : Bytes) (wrapped : Bytes) (tag : Bytes) (kcv : Bytes)
  /-- PAIRING_DONE (R153). -/
  | pairingDone (result : Nat)
  /-- HANDOVER (R390). -/
  | handover (b : Nat) (msgId : Nat) (tick : Nat) (info : PeerInfo)
  /-- HANDOVER_ACK (R390). -/
  | handoverAck (b : Nat)
  /-- ACC_REQUEST (R243). -/
  | accRequest (b : Nat) (ask : AccAsk)
  /-- ACC_DATA (R243). -/
  | accData (b : Nat) (band : Nat) (fold : Nat) (sectors : List (Nat × Bytes × Bytes))
  /-- SLOT_REQUEST (R262). -/
  | slotRequest (raises : Nat) (drops : Nat)
  /-- HEARTBEAT_SEND (R230). -/
  | heartbeatSend
  /-- HEARTBEAT_WORD (R232). -/
  | heartbeatWord (path : Nat) (w : HbWord)
  /-- HEARTBEAT_MISS_TICK (R232). -/
  | heartbeatMissTick
  /-- SELF_FENCE (R233). -/
  | selfFence
  /-- TAKEOVER_START (R234). -/
  | takeoverStart (info : PeerInfo) (mounts : List MountAnswer)
  /-- ADDRESS_ANNOUNCE (R237). -/
  | addressAnnounce
  /-- TAKEOVER_PREEMPT (R236). -/
  | takeoverPreempt (b : Nat)
  /-- RECLAIM_CHECK (R239). -/
  | reclaimCheck (b : Nat) (keyThere : Bool)
  /-- STANDBY_SELF_TEST (R243). -/
  | standbySelfTest (passed : Bool)
  /-- CLAIM (R251). -/
  | claim (h : RackHead) (expiry : Nat)
  /-- ACCEPT (R252). -/
  | accept (h : RackHead) (candidate : Nat)
  /-- REFUSE (R252). -/
  | refuse (h : RackHead) (candidate : Nat) (reason : Nat) (highest : Nat)
  /-- RENEW (R250). -/
  | renew (h : RackHead) (expiry : Nat) (planGen : Nat)
  /-- STATUS (R253). -/
  | status (h : RackHead) (b : StatusBody)
  /-- ORDER (R254). -/
  | order (h : RackHead) (id : Nat) (target : Nat) (flag0 : Bool) (planGen : Nat)
  /-- STATE_CHANGE_COMPLETE (R24). -/
  | stateChangeComplete (found : List BedGeom) (mounts : List MountAnswer) (info : PeerInfo)
  /-- DONE (R255). -/
  | done (h : RackHead) (id : Nat) (result : Nat) (state : Nat)
  /-- WAKE (R258). -/
  | wake (h : RackHead) (reason : Nat) (parked : Nat) (oldest : Nat)
  /-- RELEASE (R250). -/
  | release (h : RackHead)
  /-- CLAIM_TIMER (R252). -/
  | claimTimer
  /-- CLAIM_COUNT_END (R252). -/
  | claimCountEnd
  /-- RENEW_TIMER (R253). -/
  | renewTimer
  /-- RENEW_CONFIRM_END (R253). -/
  | renewConfirmEnd
  /-- LEASE_ORDER_LIMIT (R253). -/
  | leaseOrderLimit
  /-- ORDER_REPEAT (R255). -/
  | orderRepeat (i : Nat)
  /-- ORDER_TIMEOUT (R255). -/
  | orderTimeout (i : Nat)
  /-- RAISE_REQUEST (R275). -/
  | raiseRequest (slot : Nat)
  /-- DROP_REQUEST (R275). -/
  | dropRequest (slot : Nat)
  /-- CLEAR_FAULT (R273). -/
  | clearFault (slot : Nat)
  /-- SLOT_TEST (R275). -/
  | slotTest (slot : Nat)
  /-- SLOT_TEST_HOLD_END (R275). -/
  | slotTestHoldEnd (slot : Nat) (vout : Nat) (iout : Nat)
  /-- ASSERT_PWRDIS (R275). -/
  | assertPwrdis (slot : Nat)
  /-- PWRDIS_END (R275). -/
  | pwrdisEnd (slot : Nat)
  /-- SLOT_ENABLE_WRITE (R275). -/
  | slotEnableWrite (slot : Nat) (en : Bool)
  /-- PRESENT_PIN_EDGE (R264). -/
  | presentPinEdge (slot : Nat) (level : Bool)
  /-- PRESENT_DEBOUNCE_EXPIRY (R264). -/
  | presentDebounceExpiry (slot : Nat)
  /-- PRESENT_LOST (R264). -/
  | presentLost (slot : Nat)
  /-- INSERTION_DELAY_EXPIRY (R263). -/
  | insertionDelayExpiry (slot : Nat)
  /-- RAMP_START (R266). -/
  | rampStart (slot : Nat) (vout : Nat)
  /-- JOIN_WAIT_EXPIRY (R268). -/
  | joinWaitExpiry (slot : Nat) (vout : Nat)
  /-- RAMP_FAULT_TIMER_EXPIRY (R266). -/
  | rampFaultTimerExpiry (slot : Nat) (peerLatched : Bool)
  /-- RAMP_MAX_EXPIRY (R266). -/
  | rampMaxExpiry (slot : Nat) (peerLatched : Bool)
  /-- POWER_GOOD (R267). -/
  | powerGood (slot : Nat) (vout : Nat)
  /-- BREAKER_TRIP (R270). -/
  | breakerTrip (slot : Nat) (peerLatched : Bool)
  /-- FAST_TRIP (R270). -/
  | fastTrip (slot : Nat) (peerLatched : Bool)
  /-- MODEL_STEP (R272). -/
  | modelStep (slot : Nat) (vin : Nat) (vout : Nat) (iout : Nat) (dieC : Nat) (limiting : Bool) (peerLatched : Bool)
  /-- GATE_FAULT (R273). -/
  | gateFault (slot : Nat) (peerLatched : Bool)
  /-- VIN_UNDERVOLTAGE (R271). -/
  | vinUndervoltage (vin : Nat)
  /-- VIN_OVERVOLTAGE (R271). -/
  | vinOvervoltage (vin : Nat)
  /-- VIN_RETURN (R271). -/
  | vinReturn (vin : Nat)
  /-- REVERSE_BLOCK (R269). -/
  | reverseBlock (slot : Nat) (vout : Nat)
  /-- REVERSE_BLOCK_CLEAR (R269). -/
  | reverseBlockClear (slot : Nat)
  /-- RETRY_TIMER_EXPIRY (R273). -/
  | retryTimerExpiry (slot : Nat)
  /-- REPEAT_RESET_EXPIRY (R273). -/
  | repeatResetExpiry (slot : Nat)
  /-- STRAP_READ_ROUND (R287). -/
  | strapReadRound (readings : List Nat)
  /-- RAIL_FAULT (R296). -/
  | railFault (info : RailInfo)
  /-- PWRFAIL_ASSERT (R297). -/
  | pwrfailAssert
  /-- PWRFAIL_STEP (R297). -/
  | pwrfailStep
  /-- PWRFAIL_RELEASE (R298). -/
  | pwrfailRelease
  /-- DOMAIN_SWITCH_ON_DONE (R301). -/
  | domainSwitchOnDone (rise : DomainOn)
  /-- REFCLK_LOSS (R304). -/
  | refclkLoss
  /-- REFCLK_RETURN (R304). -/
  | refclkReturn
  /-- HOLDOVER_EXPIRY (R304). -/
  | holdoverExpiry
  /-- PTP_SYNC (R307). -/
  | ptpSync (port : Nat) (times : PtpTimes)
  /-- PTP_SAMPLE_TIMEOUT (R307). -/
  | ptpSampleTimeout
  /-- PPS_IN_PULSE (R308). -/
  | ppsInPulse
  /-- PPS_OUT_SECOND (R308). -/
  | ppsOutSecond
  /-- RESET_SOURCE_ASSERT (R312). -/
  | resetSourceAssert (src : Nat) (reach : Nat)
  /-- RESET_SOURCE_RELEASE (R312). -/
  | resetSourceRelease (src : Nat)
  /-- STRETCH_EXPIRY (R312). -/
  | stretchExpiry (lineLow : Bool)
  /-- SYSRST_HIGH_CONFIRM (R313). -/
  | sysrstHighConfirm
  /-- CORE_EPISODE_TIMEOUT (R314). -/
  | coreEpisodeTimeout
  /-- WATCHDOG_EXPIRY (R311). -/
  | watchdogExpiry (core0 : Bool)
  /-- WATCHDOG_KICK (R322). -/
  | watchdogKick (value : Word)
  /-- RST_CTRL_CORE (R322). -/
  | rstCtrlCore
  /-- RST_CTRL_SYSTEM (R322). -/
  | rstCtrlSystem
  /-- START_UP_STEP (R318). -/
  | startUpStep (info : StartInfo)
  /-- PEP_PERST_EDGE (R324). -/
  | pepPerstEdge (high : Bool)
  /-- ENDPOINT_LINK_DOWN (R337). -/
  | endpointLinkDown
  /-- HOT_RESET (R337). -/
  | hotReset
  /-- CONFIG_REQUEST (R327). -/
  | configRequest (r : CfgReq)
  /-- FUNCTION_LEVEL_RESET (R337). -/
  | functionLevelReset (fn : Nat)
  /-- CONTROLLER_RESET (R337). -/
  | controllerReset
  /-- CONTROLLER_ENABLE (R326). -/
  | controllerEnable (sqSize : Nat) (cqSize : Nat)
  /-- DOORBELL_WRITE (R326). -/
  | doorbellWrite (qid : Nat) (isCq : Bool) (value : Nat)
  /-- BAR2_REQUEST (R331). -/
  | bar2Request (r : Bar2Req)
  /-- PWIN_ENABLE_WRITE (R330). -/
  | pwinEnableWrite (w : Nat) (en : Bool)
  /-- PWIN_MAP_WRITE (R331). -/
  | pwinMapWrite (w : Nat) (rdonly : Bool) (offset : Nat)
  /-- ENDPOINT_COMPLETION_ARRIVE (R336). -/
  | endpointCompletionArrive (tag : Nat) (completer : Nat) (poisoned : Bool)
  /-- ENDPOINT_COMPLETION_TIMEOUT (R335). -/
  | endpointCompletionTimeout (tag : Nat)
  /-- TAG_QUARANTINE_EXPIRY (R336). -/
  | tagQuarantineExpiry (tag : Nat)
  /-- FAULT_EVENT (R342). -/
  | faultEvent (src : Nat) (sev : Nat) (group : Nat) (detail : Nat) (unit : Bytes)
  /-- RECORD_RATE_SECOND_END (R352). -/
  | recordRateSecondEnd (src : Nat)
  /-- QUIET_PERIOD_EXPIRY (R347). -/
  | quietPeriodExpiry (src : Nat)
  /-- ADMISSION_CHECK_COMPLETE (R347). -/
  | admissionCheckComplete (src : Nat) (passed : Bool)
  /-- THM_FENCE (R354). -/
  | thmFence (src : Nat)
  /-- THM_READMIT (R347). -/
  | thmReadmit (src : Nat)
  /-- THM_CLEAR_PERMANENT (R347). -/
  | thmClearPermanent (src : Nat) (path : AccessPath)
  /-- BBX_READ_START (R353). -/
  | bbxReadStart (hi : Nat)
  /-- PMU_SNAP (R360). -/
  | pmuSnap
  /-- PMU_CLR_ALL (R361). -/
  | pmuClrAll
  /-- PMU_FREEZE_WRITE (R360). -/
  | pmuFreezeWrite (freeze : Bool)
  /-- PMU_HIST_CLR (R363). -/
  | pmuHistClr (h : Nat)
  /-- PMU_SAMPLE_READ_START (R368). -/
  | pmuSampleReadStart (q : Nat)
  /-- HELLO (R378). -/
  | hello (client : Bytes) (request : Nat) (tagOk : Bool) (bodyOk : Bool)
  /-- IDENTIFY_MESSAGE (R382). -/
  | identifyMessage (request : Nat) (bodyOk : Bool)
  /-- REG_READ (R382). -/
  | regRead (head : SvcHead) (addr : Nat) (count : Nat)
  /-- REG_WRITE (R382). -/
  | regWrite (head : SvcHead) (addr : Nat) (value : Word)
  /-- SERVICE_RESET_CORE (R382). -/
  | serviceResetCore (head : SvcHead)
  /-- SERVICE_RESET_SYSTEM (R382). -/
  | serviceResetSystem (head : SvcHead)
  /-- CFG_COMMIT (R376). -/
  | cfgCommit (head : SvcHead)
  /-- CFG_RECORD_READ (R382). -/
  | cfgRecordRead (head : SvcHead) (field : Nat) (offset : Nat) (len : Nat)
  /-- CFG_RECORD_WRITE (R382). -/
  | cfgRecordWrite (head : SvcHead) (field : Nat) (offset : Nat) (piece : Bytes) (last : Bool) (addrs : List Nat) (table : List RackEntry) (budget : Word) (allow : Word)
  /-- TIME_SET (R308). -/
  | timeSet (head : SvcHead) (ns : Nat)
  /-- IMAGE_BEGIN (R386). -/
  | imageBegin (head : SvcHead) (length : Nat)
  /-- IMAGE_DATA (R386). -/
  | imageData (head : SvcHead) (offset : Nat) (piece : Bytes)
  /-- IMAGE_END (R386). -/
  | imageEnd (head : SvcHead)
  /-- ACTIVATE (R387). -/
  | activate (head : SvcHead) (target : Nat)
  /-- ACTIVATION_HEALTH_END (R388). -/
  | activationHealthEnd (passed : Bool) (previousOk : Bool)
  /-- SECVER_ADVANCE (R389). -/
  | secverAdvance (head : SvcHead)
  /-- ACTIVITY_START (R371). -/
  | activityStart (head : SvcHead) (code : Nat) (bed : Nat)
  /-- ACTIVITY_WITHDRAW (R373). -/
  | activityWithdraw (head : SvcHead) (handle : Nat)
  /-- ACTIVITY_REPORT (R382). -/
  | activityReport (head : SvcHead)
  /-- DEFERRED_ACTIVITY_START (R371). -/
  | deferredActivityStart (handle : Nat)
  /-- BED_CREATE (R80). -/
  | bedCreate (head : SvcHead) (c : BedCreate)
  /-- BED_DELETE (R382). -/
  | bedDelete (head : SvcHead) (b : Nat)
  /-- BED_ADMIT_MEMBER (R110). -/
  | bedAdmitMember (head : SvcHead) (b : Nat) (m : Nat) (slot : Nat)
  /-- BED_READMIT_READ_ONLY (R114). -/
  | bedReadmitReadOnly (head : SvcHead) (b : Nat)
  /-- BED_REBUILD_INDEX (R65). -/
  | bedRebuildIndex (head : SvcHead) (b : Nat) (media : List MediaRead)
  /-- BED_HANDOVER (R390). -/
  | bedHandover (head : SvcHead) (b : Nat)
  /-- EPOCH_ADVANCE (R154). -/
  | epochAdvance (head : SvcHead) (nsid : Nat)
  /-- EPOCH_REWRAP (R155). -/
  | epochRewrap (head : SvcHead) (nsid : Nat)
  /-- EPOCH_RETIRE (R156). -/
  | epochRetire (head : SvcHead) (nsid : Nat) (e : Nat) (blocks : Nat)
  /-- KEY_PAIRING_SECRET (R153). -/
  | keyPairingSecret (head : SvcHead) (secret : Bytes)
  /-- PAIRING_SECRET_EXPIRY (R153). -/
  | pairingSecretExpiry
  /-- KEY_GENERATE (R153). -/
  | keyGenerate (head : SvcHead)
  /-- KEY_TRANSFER (R153). -/
  | keyTransfer (head : SvcHead) (receiver : Nat)
  /-- KEY_ESCROW_SEND (R153). -/
  | keyEscrowSend (head : SvcHead) (iv : Bytes) (sealed : Bytes) (tag : Bytes) (kcv : Bytes)
  /-- KEY_ZEROIZE (R156). -/
  | keyZeroize (head : SvcHead) (confirm : Nat)
  /-- KEY_STORE_RESET (R156). -/
  | keyStoreReset (head : SvcHead) (confirm : Nat)
  /-- RACK_RECORD_PIECE (R382). -/
  | rackRecordPiece (head : SvcHead) (offset : Nat) (piece : Bytes) (last : Bool) (table : List RackEntry) (budget : Word) (allow : Word)
  /-- RACK_KEY (R246). -/
  | rackKey (head : SvcHead) (key : Bytes)
  /-- RACK_RELEASE (R253). -/
  | rackRelease (head : SvcHead)
  /-- RACK_WAKE (R259). -/
  | rackWake (head : SvcHead)
  /-- TENANT_WRITE_ENTRY (R54). -/
  | tenantWriteEntry (head : SvcHead) (pos : Nat) (id : Nat) (name : Bytes)
  /-- TENANT_DELETE_ENTRY (R382). -/
  | tenantDeleteEntry (head : SvcHead) (pos : Nat)
  /-- TENANT_SUSPEND (R54). -/
  | tenantSuspend (head : SvcHead) (pos : Nat)
  /-- TENANT_RESUME (R54). -/
  | tenantResume (head : SvcHead) (pos : Nat)
  /-- TENANT_ADD_PREFIX (R54). -/
  | tenantAddPrefix (head : SvcHead) (pos : Nat) (pre : Bytes)
  /-- TENANT_CLEAR_PREFIXES (R54). -/
  | tenantClearPrefixes (head : SvcHead) (pos : Nat)
  /-- TENANT_REVOKE_WINDOW (R199). -/
  | tenantRevokeWindow (head : SvcHead) (pos : Nat) (window : Nat)
  /-- UNIT_FENCE (R392). -/
  | unitFence (head : SvcHead) (src : Nat)
  /-- UNIT_READMIT (R392). -/
  | unitReadmit (head : SvcHead) (src : Nat)
  /-- UNIT_CLEAR_PERMANENT (R347). -/
  | unitClearPermanent (head : SvcHead) (src : Nat)
  /-- LANE_RECALIBRATION (R391). -/
  | laneRecalibration (head : SvcHead) (port : Nat)
  /-- DDR_RETIREMENT (R393). -/
  | ddrRetirement (head : SvcHead) (chan : Nat)
  /-- RILL_JOB_BEGIN (R382). -/
  | rillJobBegin (head : SvcHead) (d : RillDesc)
  /-- RILL_JOB_INPUT_PIECE (R382). -/
  | rillJobInputPiece (head : SvcHead) (offset : Nat) (piece : Bytes)
  /-- RILL_JOB_RUN (R122). -/
  | rillJobRun (head : SvcHead)
  /-- RILL_JOB_READ_OUTPUT (R382). -/
  | rillJobReadOutput (head : SvcHead) (offset : Nat) (len : Nat)
  /-- RILL_JOB_END (R382). -/
  | rillJobEnd (head : SvcHead)
  /-- READ_RING (R382). -/
  | readRing (head : SvcHead) (ring : Nat) (first : Nat) (count : Nat)
  /-- BBX_FORMAT (R351). -/
  | bbxFormat (head : SvcHead) (confirm : Nat)
  /-- SERVICE_KEY_FIRST_INSTALL (R378). -/
  | serviceKeyFirstInstall (key : Bytes) (request : Nat) (codeOk : Bool) (tagOk : Bool) (bodyOk : Bool)
  /-- SERVICE_KEY_REPLACE (R382). -/
  | serviceKeyReplace (head : SvcHead) (key : Bytes)
  /-- UART_CONFIRMATION (R378). -/
  | uartConfirmation (codeOk : Bool)
  /-- SERVICE_SESSION_TIMEOUT (R378). -/
  | serviceSessionTimeout (session : Nat)
  /-- DRIVE_PORT_LINK_DOWN (R101). -/
  | drivePortLinkDown (slot : Nat) (peerReaches : Bool)
  /-- DRIVE_PORT_LINK_UP (R101). -/
  | drivePortLinkUp (slot : Nat) (speed : Nat) (width : Nat)
  /-- ENDPOINT_LINK_UP (R324). -/
  | endpointLinkUp (speed : Nat) (width : Nat)
  /-- MRAM_PORT_RETRAINED (R352). -/
  | mramPortRetrained
  /-- SELF_TEST_PAUSE_LIMIT (R52). -/
  | selfTestPauseLimit
  /-- TEMPERATURE_SENSOR_READ (R408). -/
  | temperatureSensorRead (readings : List Nat)
  /-- BMC_MANAGEMENT_COMMAND (R408). -/
  | bmcManagementCommand
  /-- CONSOLE_RESET (R378). -/
  | consoleReset (level : Nat)
  /-- CM_DREP (R183). -/
  | cmDrep (i : Nat)
  /-- SERDES_REFCLK_LOSS (R304). -/
  | serdesRefclkLoss (ref : Nat)
  /-- SERDES_REFCLK_RETURN (R304). -/
  | serdesRefclkReturn (ref : Nat)
  /-- PMU_COUNTER_WRAP (R357). -/
  | pmuCounterWrap (n : Nat)
  deriving DecidableEq, Repr

end Sys2Proof
end

