-- ==== Sys2Proof/Decode.lean ====
section
/-! DEFINITION. The block has no instruction encoding: spec/opcode_table.json gives none of its rows any bits. -/

namespace Sys2Proof

/-- The command a word spells by the opcode table's bits: no row has bits, so no word spells one. -/
def decodeTableWord (_nbits _w : Nat) : Option Instr := none

end Sys2Proof
end

