-- ==== Sys2Proof/Config.lean ====
section
/-! DEFINITION. What the spec leaves open and one implementation fixes, as constants without a body: nothing can
evaluate them, so a statement holds for every value. Each is named in the assumption log. -/

namespace Sys2Proof.Config

/-- The payload Rill's search proposes for one Mode D block, from the Rill tables in force (their slot and version), the window code,
the bytes before the block and the block (R132, R138: the search rules are in the Rill tables and not part of the format).
Assumption 7. -/
opaque rillSearch : Nat × Nat → Nat → Bytes → Bytes → Bytes

/-- The P contribution of one sector of member `m` (R87, R104: the arithmetic of P is not given). Assumption 8. -/
opaque seamP : Nat → Bytes → Bytes

/-- The Q contribution of one sector of member `m` (R87, R108: Q's generator is not given). Assumption 8. -/
opaque seamQ : Nat → Bytes → Bytes

/-- Sum of two parity sectors. Assumption 8. -/
opaque seamAdd : Bytes → Bytes → Bytes

/-- The solved contents of a missing range, from the list of missing members, the one asked for, and the sources read,
each with its member index (R104). Assumption 8. -/
opaque seamSolve : List Nat → Nat → List (Nat × Bytes) → Bytes

/-- Number of the index page that holds a key of a namespace (R65: how keys map to pages is not given). Assumption 9. -/
opaque indexPage : Nat → Bytes → Nat

/-- Number of the map page that holds a logical unit of a namespace: how pages map to the region is not given (R83).
Assumption 9. -/
opaque mapPage : Nat → Nat → Nat

/-- Whether an area of that address and length lies in Basin or Cistern (R121, R144: their device addresses are not
given). Assumption 8. -/
opaque inDevice : Nat → Nat → Bool

/-- The ROM's public ECDSA P-384 key of an index, as a point (R385: the keys are not given). Assumption 10. -/
opaque ecdsaKey : Nat → Nat × Nat

/-- The ROM's public ML-DSA-65 key of an index in its 1,952 bytes (R385). Assumption 10. -/
opaque mldsaKey : Nat → Bytes

/-- The `n`th block of 16 random bytes the part draws (R77, R153, R378). Assumption 11. -/
opaque random16 : Nat → BitVec 128

/-- Byte of the capsule of a command, in-capsule data included, by its arrival number and place: the rows bring a capsule decoded
(R227 section 0x01). Assumption 70. -/
opaque capsuleByte : Nat → Nat → Byte

/-- A value the spec leaves open, the `n`th of its run (assumption 12). -/
opaque freeValue : Nat → Nat

/-- Content of a log page or Identify field the spec names and does not lay out, by page and offset. Assumption 13. -/
opaque pageByte : Nat → Nat → Byte

/-- Bytes that a Cistern channel moves in the time that ends or begins at a moment (R359, events 0xB00 and 0xB01: which
accesses go to which channel is not given). Assumption 41. -/
opaque cisternBytes : Nat → Nat → Nat → Nat

/-- Bobbin engines busy at a moment (R359, occupancy 0xF10: how commands go to engines is not given). Assumption 41. -/
opaque enginesBusy : Nat → Nat

/-- The Bobbin engine of a command, by its arrival number (R367 byte 38). Assumption 41. -/
opaque bobbinEngine : Nat → Nat

/-- The Seam half that takes a fold pass, by its fold number (R359, event 0xA00: how folds go to the halves is not given).
Assumption 41. -/
opaque seamHalf : Nat → Nat

/-- The tenant ID that an identity record names for endpoint function 0 (R54): the spec gives no place for it in any record of
R375. Free value (assumption 66). -/
opaque eptTenant : Bytes → Nat

end Sys2Proof.Config
end

