-- ==== Sys2Proof/Machine/Bytes.lean ====
section
/-! DEFINITION. Byte order (R6) and CRC-32C (R12). -/

namespace Sys2Proof.Machine

/-- `v` as `n` bytes, least significant first (R6). -/
def le : Nat → Nat → Bytes
  | 0, _ => []
  | n + 1, v => BitVec.ofNat 8 v :: le n (v / 256)

/-- The value of a little-endian byte string. -/
def leNat : Bytes → Nat
  | [] => 0
  | b :: bs => b.toNat + 256 * leNat bs

/-- `v` as `n` bytes, most significant first (R6). -/
def be (n v : Nat) : Bytes := (le n v).reverse

/-- The value of a big-endian byte string. -/
def beNat (bs : Bytes) : Nat := leNat bs.reverse

/-- `n` zero bytes. -/
def zeros (n : Nat) : Bytes := List.replicate n 0

/-- `n` bytes of `bs` from `off` on; what lies beyond its end is left out. -/
def slice (bs : Bytes) (off n : Nat) : Bytes := (bs.drop off).take n

/-- `bs` cut or filled with zero bytes to length `n`. -/
def fitTo (n : Nat) (bs : Bytes) : Bytes := bs.take n ++ zeros (n - bs.length)

/-- `bs` filled with zero bytes to a multiple of `n`. -/
def padTo (n : Nat) (bs : Bytes) : Bytes := bs ++ zeros ((n - bs.length % n) % n)

/-- Byte-wise exclusive or, as long as the shorter string. -/
def xorBytes (a b : Bytes) : Bytes := List.zipWith (· ^^^ ·) a b

/-- The `n`th 16 random bytes drawn (assumption 11). -/
def randomBytes (n : Nat) : Bytes := le 16 (Config.random16 n).toNat

/-- Cuts a string into pieces of `n` bytes, the last one shorter; `fuel` bounds the number of pieces. -/
def chunksF (n : Nat) : Nat → Bytes → List Bytes
  | 0, _ => []
  | fuel + 1, bs => if bs.isEmpty then [] else bs.take n :: chunksF n fuel (bs.drop n)

def chunks (n : Nat) (bs : Bytes) : List Bytes := chunksF n (bs.length + 1) bs

def crcBits : Nat → BitVec 32 → BitVec 32
  | 0, c => c
  | n + 1, c => crcBits n (if c.getLsbD 0 then (c >>> 1) ^^^ 0x82F63B78#32 else c >>> 1)

def crcByte (c : BitVec 32) (b : Byte) : BitVec 32 := crcBits 8 (c ^^^ b.zeroExtend 32)

/-- CRC-32C, polynomial 0x1EDC_6F41 (R12), in its reflected form. -/
def crc32c (bs : Bytes) : Nat := (bs.foldl crcByte 0xFFFFFFFF#32 ^^^ 0xFFFFFFFF#32).toNat

/-- Bit `i` of a number used as a set of small numbers. -/
def bit (m i : Nat) : Bool := m.testBit i

/-- Sets or clears bit `i`. -/
def setBit (m i : Nat) (v : Bool) : Nat :=
  if v then m ||| 2 ^ i else if m.testBit i then m - 2 ^ i else m

/-- Number of bits set among the lowest `n`. -/
def popN (n m : Nat) : Nat := ((List.range n).filter (fun i => m.testBit i)).length

/-- The bits set among the lowest `n`, lowest first. -/
def bitsOf (n m : Nat) : List Nat := (List.range n).filter (fun i => m.testBit i)

def b2n (b : Bool) : Nat := if b then 1 else 0

/-- The nearer limit of `lo..hi` where `v` lies outside. -/
def clamp (lo hi v : Nat) : Nat := if v < lo then lo else if hi < v then hi else v

def cdiv (a b : Nat) : Nat := (a + b - 1) / b

end Sys2Proof.Machine
end

