-- ==== Sys2Proof/Machine/Signature.lean ====
section
/-! DEFINITION. The signatures of an image (R12, R385): SHA-384 (FIPS 180-4), ECDSA over P-384 (FIPS 186-5), SHAKE and
ML-DSA-65 verification (FIPS 202, FIPS 204). The ROM's public keys are not given: they are constants without a value
(assumption 10). -/

namespace Sys2Proof.Machine

/-! ### SHA-384 -/

def shaK0 : List (BitVec 64) :=
  [0x428A2F98D728AE22, 0x7137449123EF65CD, 0xB5C0FBCFEC4D3B2F, 0xE9B5DBA58189DBBC,
   0x3956C25BF348B538, 0x59F111F1B605D019, 0x923F82A4AF194F9B, 0xAB1C5ED5DA6D8118,
   0xD807AA98A3030242, 0x12835B0145706FBE, 0x243185BE4EE4B28C, 0x550C7DC3D5FFB4E2,
   0x72BE5D74F27B896F, 0x80DEB1FE3B1696B1, 0x9BDC06A725C71235, 0xC19BF174CF692694]

def shaK1 : List (BitVec 64) :=
  [0xE49B69C19EF14AD2, 0xEFBE4786384F25E3, 0x0FC19DC68B8CD5B5, 0x240CA1CC77AC9C65,
   0x2DE92C6F592B0275, 0x4A7484AA6EA6E483, 0x5CB0A9DCBD41FBD4, 0x76F988DA831153B5,
   0x983E5152EE66DFAB, 0xA831C66D2DB43210, 0xB00327C898FB213F, 0xBF597FC7BEEF0EE4,
   0xC6E00BF33DA88FC2, 0xD5A79147930AA725, 0x06CA6351E003826F, 0x142929670A0E6E70]

def shaK2 : List (BitVec 64) :=
  [0x27B70A8546D22FFC, 0x2E1B21385C26C926, 0x4D2C6DFC5AC42AED, 0x53380D139D95B3DF,
   0x650A73548BAF63DE, 0x766A0ABB3C77B2A8, 0x81C2C92E47EDAEE6, 0x92722C851482353B,
   0xA2BFE8A14CF10364, 0xA81A664BBC423001, 0xC24B8B70D0F89791, 0xC76C51A30654BE30,
   0xD192E819D6EF5218, 0xD69906245565A910, 0xF40E35855771202A, 0x106AA07032BBD1B8]

def shaK3 : List (BitVec 64) :=
  [0x19A4C116B8D2D0C8, 0x1E376C085141AB53, 0x2748774CDF8EEB99, 0x34B0BCB5E19B48A8,
   0x391C0CB3C5C95A63, 0x4ED8AA4AE3418ACB, 0x5B9CCA4F7763E373, 0x682E6FF3D6B2B8A3,
   0x748F82EE5DEFB2FC, 0x78A5636F43172F60, 0x84C87814A1F0AB72, 0x8CC702081A6439EC,
   0x90BEFFFA23631E28, 0xA4506CEBDE82BDE9, 0xBEF9A3F7B2C67915, 0xC67178F2E372532B]

def shaK4 : List (BitVec 64) :=
  [0xCA273ECEEA26619C, 0xD186B8C721C0C207, 0xEADA7DD6CDE0EB1E, 0xF57D4F7FEE6ED178,
   0x06F067AA72176FBA, 0x0A637DC5A2C898A6, 0x113F9804BEF90DAE, 0x1B710B35131C471B,
   0x28DB77F523047D84, 0x32CAAB7B40C72493, 0x3C9EBE0A15C9BEBC, 0x431D67C49C100D4C,
   0x4CC5D4BECB3E42B6, 0x597F299CFC657E2A, 0x5FCB6FAB3AD6FAEC, 0x6C44198C4A475817]

/-- The 80 round constants of SHA-384. -/
def shaK : List (BitVec 64) := shaK0 ++ shaK1 ++ shaK2 ++ shaK3 ++ shaK4

/-- The eight working variables. -/
structure ShaReg where
  a : BitVec 64
  b : BitVec 64
  c : BitVec 64
  d : BitVec 64
  e : BitVec 64
  f : BitVec 64
  g : BitVec 64
  h : BitVec 64
  deriving DecidableEq, Repr

def shaInit : ShaReg :=
  ⟨0xCBBB9D5DC1059ED8, 0x629A292A367CD507, 0x9159015A3070DD17, 0x152FECD8F70E5939,
   0x67332667FFC00B31, 0x8EB44A8768581511, 0xDB0C2E0D64F98FA7, 0x47B5481DBEFA4FA4⟩

/-- Message schedule: `n` further words, the words so far newest first. -/
def shaSchedF : Nat → List (BitVec 64) → List (BitVec 64)
  | 0, w => w
  | n + 1, w =>
    let x := w.getD 14 0
    let y := w.getD 1 0
    let s0 := x.rotateRight 1 ^^^ x.rotateRight 8 ^^^ (x >>> 7)
    let s1 := y.rotateRight 19 ^^^ y.rotateRight 61 ^^^ (y >>> 6)
    shaSchedF n ((s1 + w.getD 6 0 + s0 + w.getD 15 0) :: w)

/-- One round with its constant and word. -/
def shaRound (r : ShaReg) (k w : BitVec 64) : ShaReg :=
  let s1 := r.e.rotateRight 14 ^^^ r.e.rotateRight 18 ^^^ r.e.rotateRight 41
  let t1 := r.h + s1 + ((r.e &&& r.f) ^^^ (~~~r.e &&& r.g)) + k + w
  let s0 := r.a.rotateRight 28 ^^^ r.a.rotateRight 34 ^^^ r.a.rotateRight 39
  let t2 := s0 + ((r.a &&& r.b) ^^^ (r.a &&& r.c) ^^^ (r.b &&& r.c))
  ⟨t1 + t2, r.a, r.b, r.c, r.d + t1, r.e, r.f, r.g⟩

/-- One block of 128 bytes. -/
def shaBlock (r : ShaReg) (blk : Bytes) : ShaReg :=
  let w := (shaSchedF 64 ((chunks 8 blk).map (fun b => BitVec.ofNat 64 (beNat b))).reverse).reverse
  let x := (shaK.zip w).foldl (fun x p => shaRound x p.1 p.2) r
  ⟨r.a + x.a, r.b + x.b, r.c + x.c, r.d + x.d, r.e + x.e, r.f + x.f, r.g + x.g, r.h + x.h⟩

/-- SHA-384 of a byte string. -/
def sha384 (m : Bytes) : Bytes :=
  let p := m ++ [0x80#8]
  let p := p ++ zeros ((240 - p.length % 128) % 128) ++ be 16 (8 * m.length)
  let r := (chunks 128 p).foldl shaBlock shaInit
  ([r.a, r.b, r.c, r.d, r.e, r.f].map (fun v => be 8 v.toNat)).flatten

/-! ### ECDSA P-384 -/

def p384P : Nat := 2 ^ 384 - 2 ^ 128 - 2 ^ 96 + 2 ^ 32 - 1
def p384N : Nat := 0xFFFFFFFFFFFFFFFFFFFFFFFFFFFFFFFFFFFFFFFFFFFFFFFFC7634D81F4372DDF581A0DB248B0A77AECEC196ACCC52973

/-- The base point. -/
def p384G : Nat × Nat :=
  (0xAA87CA22BE8B05378EB1C71EF320AD746E1D3B628BA79B9859F741E082542A385502F25DBF55296C3A545E3872760AB7,
   0x3617DE4A96262C6F5D9E98BF9292DC29F8F41DBD289A147CE9DA3113B5F0B8C00A60B1CE1D7E819D7A431D7C90EA0E5F)

/-- `a ^ e mod m`, from the low `n` bits of `e`. -/
def powModF : Nat → Nat → Nat → Nat → Nat
  | 0, _, _, m => 1 % m
  | n + 1, a, e, m =>
    let r := powModF n (a * a % m) (e / 2) m
    if e % 2 = 1 then a * r % m else r

/-- The inverse modulo a prime below 2^384. -/
def invMod (a m : Nat) : Nat := powModF 384 (a % m) (m - 2) m

/-- Sum of two points of the curve; `none` is the point at infinity. -/
def ecAdd : Option (Nat × Nat) → Option (Nat × Nat) → Option (Nat × Nat)
  | none, q => q
  | p, none => p
  | some (x1, y1), some (x2, y2) =>
    if x1 = x2 && (y1 + y2) % p384P = 0 then none
    else
      let l := if x1 = x2 then (3 * x1 * x1 + p384P - 3) * invMod (2 * y1) p384P % p384P
        else (y2 + p384P - y1) * invMod (x2 + p384P - x1) p384P % p384P
      let x := (l * l + 2 * p384P - x1 - x2) % p384P
      some (x, (l * (x1 + p384P - x) + p384P - y1) % p384P)

/-- Multiple of a point, from the low `n` bits of `k`. -/
def ecMulF : Nat → Nat → Option (Nat × Nat) → Option (Nat × Nat)
  | 0, _, _ => none
  | n + 1, k, q =>
    let r := ecMulF n (k / 2) (ecAdd q q)
    if k % 2 = 1 then ecAdd q r else r

/-- Whether `sig`, r then s in 48 bytes each, is the signature of `m` under public key `key`. -/
def ecdsaVerify (key : Nat × Nat) (m sig : Bytes) : Bool :=
  let r := beNat (sig.take 48)
  let t := beNat (slice sig 48 48)
  if sig.length ≠ 96 || r = 0 || t = 0 || p384N ≤ r || p384N ≤ t then false
  else
    let w := invMod t p384N
    let e := beNat (sha384 m)
    match ecAdd (ecMulF 384 (e * w % p384N) (some p384G)) (ecMulF 384 (r * w % p384N) (some key)) with
    | some (x, _) => x % p384N = r
    | none => false

/-! ### SHAKE -/

def keccakRC : List (BitVec 64) :=
  [0x0000000000000001, 0x0000000000008082, 0x800000000000808A, 0x8000000080008000,
   0x000000000000808B, 0x0000000080000001, 0x8000000080008081, 0x8000000000008009,
   0x000000000000008A, 0x0000000000000088, 0x0000000080008009, 0x000000008000000A,
   0x000000008000808B, 0x800000000000008B, 0x8000000000008089, 0x8000000000008003,
   0x8000000000008002, 0x8000000000000080, 0x000000000000800A, 0x800000008000000A,
   0x8000000080008081, 0x8000000000008080, 0x0000000080000001, 0x8000000080008008]

/-- Rotation of lane x + 5 y. -/
def keccakRot : List Nat :=
  [0, 1, 62, 28, 27, 36, 44, 6, 55, 20, 3, 10, 43, 25, 39, 41, 45, 15, 21, 8, 18, 2, 61, 56, 14]

/-- One round on the 25 lanes. -/
def keccakRound (a : List (BitVec 64)) (rc : BitVec 64) : List (BitVec 64) :=
  let c := (List.range 5).map (fun x => a.getD x 0 ^^^ a.getD (x + 5) 0 ^^^ a.getD (x + 10) 0 ^^^ a.getD (x + 15) 0 ^^^ a.getD (x + 20) 0)
  let d := (List.range 5).map (fun x => c.getD ((x + 4) % 5) 0 ^^^ (c.getD ((x + 1) % 5) 0).rotateLeft 1)
  let a := (List.range 25).map (fun i => a.getD i 0 ^^^ d.getD (i % 5) 0)
  -- lane X + 5 Y of the permuted state comes from x = X + 3 Y, y = X
  let b := (List.range 25).map (fun i =>
    let j := (i % 5 + 3 * (i / 5)) % 5 + 5 * (i % 5)
    (a.getD j 0).rotateLeft (keccakRot.getD j 0))
  (List.range 25).map (fun i =>
    let y := 5 * (i / 5)
    let v := b.getD i 0 ^^^ (~~~(b.getD ((i + 1) % 5 + y) 0) &&& b.getD ((i + 2) % 5 + y) 0)
    if i = 0 then v ^^^ rc else v)

def keccakF (a : List (BitVec 64)) : List (BitVec 64) := keccakRC.foldl keccakRound a

def laneBytes (a : List (BitVec 64)) : Bytes := (a.map (fun v => le 8 v.toNat)).flatten

/-- Absorbs one block. -/
def absorb (a : List (BitVec 64)) (blk : Bytes) : List (BitVec 64) :=
  let l := (chunks 8 blk).map (fun b => BitVec.ofNat 64 (leNat b))
  keccakF ((List.range 25).map (fun i => a.getD i 0 ^^^ l.getD i 0))

/-- `n` blocks of output of `rate` bytes each. -/
def squeeze (rate : Nat) : Nat → List (BitVec 64) → Bytes
  | 0, _ => []
  | n + 1, a => (laneBytes a).take rate ++ squeeze rate n (keccakF a)

/-- The first `n` blocks of SHAKE at a rate: 168 bytes for SHAKE128, 136 for SHAKE256. -/
def shake (rate n : Nat) (m : Bytes) : Bytes :=
  let p := padTo rate (m ++ [0x1F#8])
  let p := p.dropLast ++ [p.getLastD 0 ||| 0x80#8]
  squeeze rate n ((chunks rate p).foldl absorb (List.replicate 25 0))

def shake256 (n : Nat) (m : Bytes) : Bytes := (shake 136 (n / 136 + 1) m).take n

/-! ### ML-DSA-65 -/

def dsaQ : Nat := 8380417

/-- A polynomial of 256 coefficients modulo q, or its values at the 256 roots. -/
abbrev Poly := List Nat

def bitRev8 (k : Nat) : Nat := (List.range 8).foldl (fun r i => 2 * r + k / 2 ^ i % 2) 0

/-- The root of index `i`: 1753 to the power 2 BitRev8(i) + 1. -/
def dsaRoot (i : Nat) : Nat := powModF 10 1753 (2 * bitRev8 i + 1) dsaQ

/-- Values of a polynomial at the 256 roots, in the order of the number-theoretic transform. -/
def ntt (w : Poly) : Poly :=
  (List.range 256).map (fun i => let z := dsaRoot i; w.foldr (fun c v => (c + z * v) % dsaQ) 0)

/-- The polynomial of given values. -/
def nttInv (v : Poly) : Poly :=
  let rs := (List.range 256).map (fun i => powModF 24 (dsaRoot i) (dsaQ - 2) dsaQ)
  let f := powModF 24 256 (dsaQ - 2) dsaQ
  -- coefficient k is f times the sum of v_i root_i^(-k); the powers are carried along
  ((List.range 256).foldl (fun (a : Poly × Poly) _ =>
    (a.1 ++ [f * (a.2.foldl (· + ·) 0) % dsaQ], List.zipWith (fun x r => x * r % dsaQ) a.2 rs)) ([], v)).1

def polyMul (a b : Poly) : Poly := List.zipWith (fun x y => x * y % dsaQ) a b
def polyAdd (a b : Poly) : Poly := List.zipWith (fun x y => (x + y) % dsaQ) a b
def polySub (a b : Poly) : Poly := List.zipWith (fun x y => (x + dsaQ - y) % dsaQ) a b

/-- Fields of `n` bits of a byte string, the first in its lowest bits. -/
def bitFields (n count : Nat) (bs : Bytes) : List Nat :=
  let v := leNat bs
  (List.range count).map (fun i => v >>> (n * i) % 2 ^ n)

/-- An entry of the matrix: 256 values below q from the XOF's 3-byte groups, top bit dropped, larger ones passed over. The output
read is bounded, as FIPS 204 allows. -/
def rejPoly (seed : Bytes) : Poly :=
  let l := (chunks 3 (shake 168 8 seed)).filterMap (fun b =>
    let v := leNat b % 2 ^ 23
    if v < dsaQ then some v else none)
  l.take 256

/-- The matrix entry of row `r` and column `c`. -/
def dsaA (rho : Bytes) (r c : Nat) : Poly := rejPoly (rho ++ [BitVec.ofNat 8 c, BitVec.ofNat 8 r])

/-- Places the remaining signs of the challenge from a stream of positions: `i` is the next place. -/
def ballF : Nat → Nat → Nat → Bytes → Poly → Poly
  | 0, _, _, _, c => c
  | n + 1, i, signs, bs, c =>
    if 256 ≤ i then c else
    match bs with
    | [] => c
    | b :: rest =>
      let j := b.toNat
      if i < j then ballF n i signs rest c
      else
        let c := c.set i (c.getD j 0)
        ballF n (i + 1) (signs / 2) rest (c.set j (if signs % 2 = 1 then dsaQ - 1 else 1))

/-- The challenge polynomial with 49 coefficients of 1 or -1. -/
def sampleInBall (seed : Bytes) : Poly :=
  let s := shake 136 3 seed
  ballF 400 207 (leNat (s.take 8)) (s.drop 8) (List.replicate 256 0)

/-- High part of a coefficient modulo 2 gamma2 = 523,776, adjusted by its hint. -/
def useHint (h : Bool) (r : Nat) : Nat :=
  let g := 523776
  let m := r % g
  let r0 : Int := if g / 2 < m then (m : Int) - g else m
  let (r1, r0) := if (r : Int) - r0 = dsaQ - 1 then (0, r0 - 1) else ((((r : Int) - r0) / g).toNat, r0)
  if h then (if 0 < r0 then (r1 + 1) % 16 else (r1 + 15) % 16) else r1

/-- The positions of one polynomial's hints: rising strictly. -/
def rising : Bytes → Bool
  | a :: b :: l => decide (a.toNat < b.toNat) && rising (b :: l)
  | _ => true

/-- The hints of the 6 polynomials from their 61 bytes; `none` where they are malformed. -/
def hintUnpack (y : Bytes) : Option (List Bytes) :=
  let ends := (y.drop 55).map BitVec.toNat
  let starts := 0 :: ends
  let l := (List.range 6).map (fun i => slice y (starts.getD i 0) (ends.getD i 0 - starts.getD i 0))
  if (List.range 6).all (fun i => starts.getD i 0 ≤ ends.getD i 0 && ends.getD i 0 ≤ 55) && l.all rising
      && (slice y (ends.getD 5 0) (55 - ends.getD 5 0)).all (· = 0) then some l
  else none

/-- Whether `sig` is the ML-DSA-65 signature of `m` with an empty context under public key `pk`. -/
def mldsaVerify (pk m sig : Bytes) : Bool :=
  if pk.length ≠ 1952 || sig.length ≠ 3309 then false else
  let rho := pk.take 32
  let t1 := (List.range 6).map (fun i => bitFields 10 256 (slice pk (32 + 320 * i) 320))
  let ch := sig.take 48
  let zs := (List.range 5).map (fun i => bitFields 20 256 (slice sig (48 + 640 * i) 640))
  match hintUnpack (sig.drop 3248) with
  | none => false
  | some hs =>
    let small := zs.all (fun z => z.all (fun v => decide (((524288 : Int) - v).natAbs < 524288 - 196)))
    let z := zs.map (fun z => ntt (z.map (fun v => (524288 + dsaQ - v) % dsaQ)))
    let mu := shake256 64 (shake256 64 pk ++ [0, 0] ++ m)
    let c := ntt (sampleInBall ch)
    let w := (List.range 6).map (fun r =>
      let az := (List.range 5).foldl (fun a k => polyAdd a (polyMul (dsaA rho r k) (z.getD k []))) (List.replicate 256 0)
      let ct := polyMul c (ntt ((t1.getD r []).map (fun v => v * 8192 % dsaQ)))
      let v := nttInv (polySub az ct)
      let h := (hs.getD r []).map BitVec.toNat
      (v.zipIdx).map (fun x => useHint (h.contains x.2) x.1))
    let w1 := (w.map (fun p => (chunks2 p))).flatten
    small && shake256 48 (mu ++ w1) = ch
where
  /-- Pairs of 4-bit values as bytes, the first in the low half. -/
  chunks2 (p : List Nat) : Bytes :=
    (List.range (p.length / 2)).map (fun i => BitVec.ofNat 8 (p.getD (2 * i) 0 + 16 * p.getD (2 * i + 1) 0))

end Sys2Proof.Machine
end

