-- ==== Sys2Proof/Machine/Crypto.lean ====
section
/-! DEFINITION. AES-256 (FIPS 197), GCM (NIST SP 800-38D), CMAC (NIST SP 800-38B) and the counter-mode key
derivation of R149 and R150, as functions on byte strings. -/

namespace Sys2Proof.Machine

/-- Doubling in the field of AES. -/
def xtime (a : Byte) : Byte := if a.getLsbD 7 then (a <<< 1) ^^^ 0x1B#8 else a <<< 1

/-- Row `r` of the S-box table of FIPS 197: the value of `16 r + c` is byte `c`, lowest byte first. -/
def sboxRow : Nat → Nat
  | 0 => 0x76ABD7FE2B670130C56F6BF27B777C63
  | 1 => 0xC072A49CAFA2D4ADF04759FA7DC982CA
  | 2 => 0x1531D871F1E5A534CCF73F362693FDB7
  | 3 => 0x75B227EBE28012079A059618C323C704
  | 4 => 0x842FE329B3D63B52A05A6E1B1A2C8309
  | 5 => 0xCF584C4A39BECB6A5BB1FC20ED00D153
  | 6 => 0xA89F3C507F02F94585334D43FBAAEFD0
  | 7 => 0xD2F3FF1021DAB6BCF5389D928F40A351
  | 8 => 0x73195D643D7EA7C41744975FEC130CCD
  | 9 => 0xDB0B5EDE14B8EE4688902A22DC4F8160
  | 10 => 0x79E4959162ACD3C25C2406490A3A32E0
  | 11 => 0x08AE7A65EAF4566CA94ED58D6D37C8E7
  | 12 => 0x8A8BBD4B1F74DDE8C6B4A61C2E2578BA
  | 13 => 0x9E1DC186B95735610EF6034866B53E70
  | 14 => 0xDF2855CEE9871E9B948ED9691198F8E1
  | _ => 0x16BB54B00F2D99416842E6BF0D89A18C

/-- The AES S-box. -/
def subByte (a : Byte) : Byte := BitVec.ofNat 8 (sboxRow (a.toNat / 16) >>> (8 * (a.toNat % 16)))

/-- Key schedule: `n` further words, from the words so far, newest first; `i` is the index of the next word. -/
def expandF : Nat → Nat → Byte → List Bytes → List Bytes
  | 0, _, _, ws => ws
  | n + 1, i, rc, ws =>
    let t := ws.headD []
    let old := (ws.drop 7).headD []
    let r := i % 8
    if r = 0 then
      let u := ((t.drop 1) ++ (t.take 1)).map subByte
      let u := xorBytes u [rc, 0, 0, 0]
      expandF n (i + 1) (xtime rc) (xorBytes old u :: ws)
    else if r = 4 then expandF n (i + 1) rc (xorBytes old (t.map subByte) :: ws)
    else expandF n (i + 1) rc (xorBytes old t :: ws)

/-- The 15 round keys of AES-256. -/
def roundKeys (key : Bytes) : List Bytes :=
  let ws := (expandF 52 8 1 ((chunks 4 (fitTo 32 key)).reverse)).reverse
  chunks 16 ws.flatten

/-- ShiftRows on the 16 state bytes in column order. -/
def shiftRows (s : Bytes) : Bytes :=
  [0, 5, 10, 15, 4, 9, 14, 3, 8, 13, 2, 7, 12, 1, 6, 11].map (fun i => s.getD i 0)

def mixColumn (c : Bytes) : Bytes :=
  let a := c.getD 0 0
  let b := c.getD 1 0
  let d := c.getD 2 0
  let e := c.getD 3 0
  [xtime a ^^^ (xtime b ^^^ b) ^^^ d ^^^ e, a ^^^ xtime b ^^^ (xtime d ^^^ d) ^^^ e,
   a ^^^ b ^^^ xtime d ^^^ (xtime e ^^^ e), (xtime a ^^^ a) ^^^ b ^^^ d ^^^ xtime e]

def aesRounds : List Bytes → Bytes → Bytes
  | [], s => s
  | [k], s => xorBytes (shiftRows (s.map subByte)) k
  | k :: ks, s => aesRounds ks (xorBytes ((chunks 4 (shiftRows (s.map subByte))).map mixColumn).flatten k)

/-- One block under the round keys of a key. -/
def aesBlock (rks : List Bytes) (blk : Bytes) : Bytes :=
  match rks with
  | [] => blk
  | k :: ks => aesRounds ks (xorBytes blk k)

/-- AES-256 of one 16-byte block. -/
def aes256 (key blk : Bytes) : Bytes := aesBlock (roundKeys key) blk

/-! ### CMAC and key derivation -/

/-- Doubling in GF(2^128) as CMAC uses it. -/
def cmacDbl (b : Bytes) : Bytes :=
  let v := beNat b * 2
  if v < 2 ^ 128 then be 16 v else be 16 ((v - 2 ^ 128) ^^^ 0x87)

def cmacBlocks (rks : List Bytes) (k1 k2 : Bytes) : List Bytes → Bytes → Bytes
  | [], x => aesBlock rks (xorBytes (xorBytes (0x80#8 :: zeros 15) k2) x)
  | [m], x =>
    if m.length = 16 then aesBlock rks (xorBytes (xorBytes m k1) x)
    else aesBlock rks (xorBytes (xorBytes (fitTo 16 (m ++ [0x80#8])) k2) x)
  | m :: ms, x => cmacBlocks rks k1 k2 ms (aesBlock rks (xorBytes m x))

/-- CMAC-AES-256. -/
def cmac (key msg : Bytes) : Bytes :=
  let rks := roundKeys key
  let k1 := cmacDbl (aesBlock rks (zeros 16))
  cmacBlocks rks k1 (cmacDbl k1) (chunks 16 msg) (zeros 16)

/-- The 256-bit key of R149 and R150: two CMAC iterations over counter, label, zero, context and output length. -/
def kdf (key label context : Bytes) : Bytes :=
  let it := fun (i : Nat) => cmac key (be 4 i ++ label ++ [0] ++ context ++ be 4 256)
  it 1 ++ it 2

/-- Labels of R150. -/
def labelRecord : Bytes := [0x4E, 0x45, 0x44, 0x4B]
def labelWrap : Bytes := [0x4E, 0x45, 0x57, 0x4B]
def labelPairing : Bytes := [0x4E, 0x45, 0x50, 0x54]
def labelSession : Bytes := [0x4E, 0x45, 0x53, 0x53]

/-- The record key (R149). -/
def recordKey (kDomain : Bytes) (tenant nsid epoch : Nat) : Bytes :=
  kdf kDomain labelRecord (be 4 tenant ++ be 4 nsid ++ be 4 epoch)

/-- W_dev, the wrap key of a part (R152). -/
def wrapKey (deviceKey : Bytes) (serial : Nat) : Bytes := kdf deviceKey labelWrap (be 8 serial ++ zeros 4)

/-- The pairing transport key (R153). -/
def transportKey (secret : Bytes) (sender receiver : Nat) : Bytes :=
  kdf secret labelPairing (be 8 sender ++ be 8 receiver)

/-- The session key of the service protocol (R378). -/
def sessionKey (svcKey client device : Bytes) : Bytes := kdf svcKey labelSession (client ++ device)

/-- The key check value of K_domain (R152): 4 bytes in CMAC byte order. -/
def keyCheckValue (kDomain : Bytes) : Bytes := (cmac kDomain ([0x4E, 0x45, 0x4B, 0x43] ++ zeros 12)).take 4

/-! ### GCM -/

def ghashMulF : Nat → BitVec 128 → BitVec 128 → BitVec 128 → BitVec 128
  | 0, _, _, z => z
  | n + 1, x, v, z =>
    let z' := if x.getMsbD 0 then z ^^^ v else z
    let v' := if v.getLsbD 0 then (v >>> 1) ^^^ 0xE1000000000000000000000000000000#128 else v >>> 1
    ghashMulF n (x <<< 1) v' z'

def ghashMul (x y : BitVec 128) : BitVec 128 := ghashMulF 128 x y 0

def ghash (h : BitVec 128) (bs : List Bytes) : BitVec 128 :=
  bs.foldl (fun y b => ghashMul (y ^^^ BitVec.ofNat 128 (beNat (fitTo 16 b))) h) 0

/-- Counter-mode keystream over blocks, from counter `c` on. -/
def gctr (rks : List Bytes) (iv : Bytes) : Nat → List Bytes → Bytes
  | _, [] => []
  | c, b :: bs => xorBytes b (aesBlock rks (iv ++ be 4 c)) ++ gctr rks iv (c + 1) bs

/-- The GCM tag over additional data and ciphertext. -/
def gcmTag (rks : List Bytes) (iv aad ct : Bytes) : Bytes :=
  let h := BitVec.ofNat 128 (beNat (aesBlock rks (zeros 16)))
  let g := ghash h (chunks 16 aad ++ chunks 16 ct ++ [be 8 (8 * aad.length) ++ be 8 (8 * ct.length)])
  xorBytes (be 16 g.toNat) (aesBlock rks (iv ++ be 4 1))

/-- AES-256-GCM with a 96-bit IV: ciphertext and 16-byte tag. -/
def gcmSeal (key iv aad pt : Bytes) : Bytes × Bytes :=
  let rks := roundKeys key
  let ct := gctr rks iv 2 (chunks 16 pt)
  (ct, gcmTag rks iv aad ct)

/-- Opens a ciphertext; `none` when the tag does not verify. -/
def gcmOpen (key iv aad ct tag : Bytes) : Option Bytes :=
  let rks := roundKeys key
  if gcmTag rks iv aad ct = tag then some (gctr rks iv 2 (chunks 16 ct)) else none

end Sys2Proof.Machine
end

