-- ==== Sys2Proof/Machine/RegTypes.lean ====
section
/-! DEFINITION. What a register table says of a register and of its fields (R7). -/

namespace Sys2Proof.Machine

/-- Access classes (R7). -/
inductive Acc where
  | rw | ro | rc | w1c | w1s | wo | rwl | rwq | rwb
  deriving DecidableEq, Repr

/-- The widest reset level a field survives (R310). -/
inductive Kept where
  | no | core | system
  deriving DecidableEq, Repr

/-- One field of a register table: bits [hi:lo], access, reset value, Kept. -/
structure FieldDesc where
  hi : Nat
  lo : Nat
  acc : Acc
  reset : Nat
  kept : Kept
  deriving DecidableEq, Repr

/-- One register, or an array of `d1` by `d2` instances `s1` and `s2` bytes apart. -/
structure RegDesc where
  name : String
  base : Nat
  d1 : Nat
  s1 : Nat
  d2 : Nat
  s2 : Nat
  fields : List FieldDesc
  deriving DecidableEq, Repr

/-- A field of one register instance: its address and its bits. -/
structure Fld where
  addr : Nat
  hi : Nat
  lo : Nat
  deriving DecidableEq, Repr

end Sys2Proof.Machine
end

