-- ==== Sys2Proof/Machine/Regs.lean ====
section
/-! DEFINITION. The register map (R395): every register of the 16 MiB space, with the access class, the reset
value and the Kept mark of each field as the chapters' tables state them (R7, R310), and a name for every field. -/

namespace Sys2Proof.Machine

/-- Registers of the TOP block (R5, R11, R27, R290). -/
def regsTop : List RegDesc :=
  [⟨"TOP_ID", 0x0, 1, 0x1000000, 1, 0x1,
    [⟨31, 16, .ro, 0x7240, .system⟩, ⟨15, 12, .ro, 0x1, .system⟩, ⟨11, 8, .ro, 0x0, .system⟩]⟩,
   ⟨"TOP_CFGERR", 0x10, 1, 0x1000000, 1, 0x1,
    [⟨31, 31, .w1c, 0x0, .core⟩, ⟨30, 30, .ro, 0x0, .core⟩, ⟨27, 24, .ro, 0x0, .core⟩, ⟨23, 0, .ro, 0x0, .core⟩]⟩,
   ⟨"TOP_SHELF", 0x20, 1, 0x1000000, 1, 0x1,
    [⟨27, 24, .ro, 0x0, .system⟩, ⟨23, 23, .ro, 0x0, .system⟩, ⟨22, 22, .ro, 0x0, .system⟩, ⟨21, 21, .ro, 0x0, .system⟩, ⟨20, 16, .ro, 0x0, .system⟩, ⟨11, 8, .ro, 0xF, .core⟩, ⟨7, 4, .ro, 0x3, .core⟩, ⟨3, 0, .ro, 0x3, .core⟩]⟩,
   ⟨"TOP_STRAP", 0x30, 1, 0x1000000, 1, 0x1,
    [⟨31, 31, .ro, 0x0, .system⟩, ⟨23, 20, .ro, 0x0, .system⟩, ⟨19, 16, .ro, 0x0, .system⟩, ⟨15, 0, .ro, 0x0, .system⟩]⟩]

/-- Registers of the CMD block (R53). -/
def regsCmd : List RegDesc :=
  [⟨"CMD_SLOT_STAT", 0x300000, 1, 0x1000000, 1, 0x1,
    [⟨16, 0, .ro, 0x0, .no⟩]⟩,
   ⟨"CMD_SLOT_SHARED", 0x300004, 1, 0x1000000, 1, 0x1,
    [⟨16, 0, .ro, 0x10000, .no⟩]⟩,
   ⟨"CMD_QUEUE_STAT", 0x300008, 1, 0x1000000, 1, 0x1,
    [⟨26, 16, .ro, 0x0, .no⟩, ⟨12, 0, .ro, 0x0, .no⟩]⟩,
   ⟨"CMD_PARK_STAT", 0x30000C, 1, 0x1000000, 1, 0x1,
    [⟨16, 0, .ro, 0x0, .no⟩]⟩,
   ⟨"CMD_CFG", 0x300010, 1, 0x1000000, 1, 0x1,
    [⟨23, 16, .rwl, 0xA, .core⟩, ⟨10, 0, .rwq, 0x400, .core⟩]⟩,
   ⟨"CMD_DST_STAT", 0x300014, 1, 0x1000000, 1, 0x1,
    [⟨31, 31, .ro, 0x0, .no⟩, ⟨30, 30, .ro, 0x0, .no⟩, ⟨29, 28, .ro, 0x0, .no⟩, ⟨19, 16, .ro, 0x0, .no⟩, ⟨6, 0, .ro, 0x0, .no⟩]⟩,
   ⟨"CMD_ABORT_STAT", 0x300018, 1, 0x1000000, 1, 0x1,
    [⟨31, 16, .rc, 0x0, .no⟩, ⟨15, 0, .rc, 0x0, .no⟩]⟩]

/-- Registers of the OBJ block (R72). -/
def regsObj : List RegDesc :=
  [⟨"OBJ_CFG", 0x380000, 1, 0x1000000, 1, 0x1,
    [⟨7, 0, .rwl, 0x20, .core⟩]⟩,
   ⟨"OBJ_IDX_HIT", 0x380004, 1, 0x1000000, 1, 0x1,
    [⟨31, 0, .rc, 0x0, .no⟩]⟩,
   ⟨"OBJ_IDX_MISS", 0x380008, 1, 0x1000000, 1, 0x1,
    [⟨31, 0, .rc, 0x0, .no⟩]⟩,
   ⟨"OBJ_REPLAY", 0x38000C, 1, 0x1000000, 1, 0x1,
    [⟨31, 0, .ro, 0x0, .core⟩]⟩,
   ⟨"OBJ_LIVE_LO", 0x380010, 4, 0x8, 1, 0x1,
    [⟨31, 0, .ro, 0x0, .core⟩]⟩,
   ⟨"OBJ_LIVE_HI", 0x380014, 4, 0x8, 1, 0x1,
    [⟨1, 0, .ro, 0x0, .core⟩]⟩]

/-- Registers of the BED block (R97, R116). -/
def regsBed0 : List RegDesc :=
  [⟨"BED_CFG", 0x400000, 4, 0x100, 1, 0x1,
    [⟨31, 24, .rwl, 0x4, .core⟩, ⟨22, 16, .rwl, 0x40, .core⟩, ⟨15, 8, .rwl, 0x40, .core⟩, ⟨4, 0, .rwl, 0x4, .core⟩]⟩,
   ⟨"BED_CKPT", 0x400004, 4, 0x100, 1, 0x1,
    [⟨31, 31, .wo, 0x0, .no⟩, ⟨23, 16, .rwl, 0x1E, .core⟩, ⟨11, 0, .rwl, 0x258, .core⟩]⟩,
   ⟨"BED_STAT", 0x400008, 4, 0x100, 1, 0x1,
    [⟨28, 24, .ro, 0x0, .core⟩, ⟨20, 16, .ro, 0x0, .core⟩, ⟨15, 8, .ro, 0x0, .core⟩, ⟨2, 2, .ro, 0x0, .core⟩, ⟨1, 1, .ro, 0x0, .core⟩, ⟨0, 0, .ro, 0x0, .core⟩]⟩,
   ⟨"BED_DIRTY", 0x40000C, 4, 0x100, 1, 0x1,
    [⟨24, 0, .ro, 0x0, .core⟩]⟩,
   ⟨"BED_RELOAD", 0x400010, 4, 0x100, 1, 0x1,
    [⟨31, 0, .rc, 0x0, .no⟩]⟩,
   ⟨"BED_GEOM", 0x400014, 4, 0x100, 1, 0x1,
    [⟨28, 24, .ro, 0x0, .core⟩, ⟨23, 16, .ro, 0x0, .core⟩, ⟨15, 0, .ro, 0x0, .core⟩]⟩,
   ⟨"BED_RBCFG", 0x400018, 4, 0x100, 1, 0x1,
    [⟨31, 31, .rwl, 0x1, .core⟩, ⟨23, 16, .rwl, 0x40, .core⟩, ⟨11, 0, .rwl, 0x0, .core⟩]⟩,
   ⟨"BED_RBSTAT", 0x40001C, 4, 0x100, 1, 0x1,
    [⟨31, 31, .ro, 0x0, .core⟩, ⟨30, 30, .ro, 0x0, .core⟩, ⟨12, 8, .ro, 0x1F, .core⟩, ⟨4, 0, .ro, 0x1F, .core⟩]⟩,
   ⟨"BED_RBCUR", 0x400020, 4, 0x100, 1, 0x1,
    [⟨24, 0, .ro, 0x0, .core⟩]⟩,
   ⟨"BED_MSTATE0", 0x400024, 4, 0x100, 1, 0x1,
    [⟨31, 0, .ro, 0x0, .core⟩]⟩,
   ⟨"BED_MSTATE1", 0x400028, 4, 0x100, 1, 0x1,
    [⟨15, 0, .ro, 0x0, .core⟩]⟩,
   ⟨"BED_REPAIR", 0x40002C, 4, 0x100, 1, 0x1,
    [⟨31, 16, .rc, 0x0, .no⟩, ⟨15, 0, .rc, 0x0, .no⟩]⟩]

/-- Registers of the BED block (R97, R116). -/
def regsBed1 : List RegDesc :=
  [⟨"BED_LOST", 0x400030, 4, 0x100, 1, 0x1,
    [⟨31, 31, .ro, 0x0, .system⟩, ⟨12, 0, .ro, 0x0, .system⟩]⟩,
   ⟨"BED_PRESS", 0x400400, 1, 0x1000000, 1, 0x1,
    [⟨6, 0, .rwl, 0x55, .core⟩]⟩]

/-- Registers of the RILL block (R139). -/
def regsRill : List RegDesc :=
  [⟨"RILL_CFG", 0x500000, 1, 0x1000000, 1, 0x1,
    [⟨15, 8, .rwl, 0xFF, .core⟩, ⟨0, 0, .rwl, 0x0, .core⟩]⟩,
   ⟨"RILL_CORE", 0x500004, 1, 0x1000000, 1, 0x1,
    [⟨31, 16, .ro, 0x0, .core⟩, ⟨15, 0, .ro, 0xFFFF, .system⟩]⟩,
   ⟨"RILL_BUSY", 0x500008, 1, 0x1000000, 1, 0x1,
    [⟨15, 0, .ro, 0x0, .no⟩]⟩,
   ⟨"RILL_RERUN", 0x50000C, 1, 0x1000000, 1, 0x1,
    [⟨15, 0, .rc, 0x0, .no⟩]⟩,
   ⟨"RILL_ERRCNT", 0x500010, 9, 0x4, 1, 0x1,
    [⟨15, 0, .rc, 0x0, .no⟩]⟩,
   ⟨"RILL_LASTERR", 0x500040, 1, 0x1000000, 1, 0x1,
    [⟨31, 24, .ro, 0x0, .core⟩, ⟨23, 20, .ro, 0x0, .core⟩, ⟨19, 16, .ro, 0x0, .core⟩, ⟨15, 15, .ro, 0x0, .core⟩]⟩,
   ⟨"RILL_LASTCTX", 0x500044, 1, 0x1000000, 1, 0x1,
    [⟨31, 0, .ro, 0x0, .core⟩]⟩]

/-- Registers of the CPH block (R158). -/
def regsCph : List RegDesc :=
  [⟨"CPH_CFG", 0x580000, 1, 0x1000000, 1, 0x1,
    [⟨7, 0, .rwl, 0xFF, .core⟩]⟩,
   ⟨"CPH_CORE", 0x580004, 1, 0x1000000, 1, 0x1,
    [⟨31, 24, .ro, 0x0, .no⟩, ⟨23, 16, .ro, 0x0, .core⟩, ⟨7, 0, .ro, 0xFF, .system⟩]⟩,
   ⟨"CPH_KEY", 0x580008, 1, 0x1000000, 1, 0x1,
    [⟨31, 30, .ro, 0x0, .system⟩, ⟨29, 29, .ro, 0x0, .system⟩, ⟨28, 28, .ro, 0x0, .core⟩, ⟨27, 26, .ro, 0x0, .system⟩]⟩,
   ⟨"CPH_KCV", 0x58000C, 1, 0x1000000, 1, 0x1,
    [⟨31, 0, .ro, 0x0, .system⟩]⟩,
   ⟨"CPH_CACHE", 0x580010, 1, 0x1000000, 1, 0x1,
    [⟨31, 16, .rc, 0x0, .no⟩, ⟨12, 0, .ro, 0x0, .no⟩]⟩,
   ⟨"CPH_AUTHFAIL", 0x580014, 1, 0x1000000, 1, 0x1,
    [⟨31, 16, .rc, 0x0, .no⟩, ⟨15, 0, .rc, 0x0, .no⟩]⟩,
   ⟨"CPH_LASTFAIL", 0x580018, 1, 0x1000000, 1, 0x1,
    [⟨31, 24, .ro, 0x0, .core⟩, ⟨23, 20, .ro, 0x0, .core⟩, ⟨19, 16, .ro, 0x0, .core⟩, ⟨15, 15, .ro, 0x0, .core⟩]⟩,
   ⟨"CPH_LASTCTX", 0x58001C, 1, 0x1000000, 1, 0x1,
    [⟨31, 0, .ro, 0x0, .core⟩]⟩]

/-- Registers of the NET block (R180). -/
def regsNet : List RegDesc :=
  [⟨"NET_CTRL", 0x100000, 4, 0x10000, 1, 0x1,
    [⟨29, 16, .rwq, 0x2400, .core⟩, ⟨15, 12, .rwq, 0x0, .core⟩, ⟨11, 8, .rwq, 0x0, .core⟩, ⟨3, 3, .rwq, 0x0, .core⟩, ⟨2, 2, .rwq, 0x0, .core⟩, ⟨0, 0, .rw, 0x1, .core⟩]⟩,
   ⟨"NET_STAT", 0x100004, 4, 0x10000, 1, 0x1,
    [⟨7, 4, .ro, 0x0, .no⟩, ⟨2, 2, .ro, 0x0, .no⟩, ⟨1, 1, .ro, 0x0, .no⟩, ⟨0, 0, .ro, 0x0, .no⟩]⟩,
   ⟨"NET_CLASS", 0x100008, 4, 0x10000, 1, 0x1,
    [⟨8, 8, .rwq, 0x1, .core⟩, ⟨7, 0, .rwq, 0x8, .core⟩]⟩,
   ⟨"NET_PCPMAP", 0x10000C, 4, 0x10000, 1, 0x1,
    [⟨23, 0, .rwq, 0xFAC688, .core⟩]⟩,
   ⟨"NET_DSCPMAP", 0x100010, 4, 0x10000, 8, 0x4,
    [⟨23, 0, .rwq, 0x0, .core⟩]⟩,
   ⟨"NET_PFC", 0x100030, 4, 0x10000, 1, 0x1,
    [⟨31, 16, .rwq, 0x400, .core⟩, ⟨15, 0, .rwq, 0x1000, .core⟩]⟩,
   ⟨"NET_ECN", 0x100034, 4, 0x10000, 1, 0x1,
    [⟨16, 16, .rwl, 0x1, .core⟩, ⟨15, 0, .rwl, 0x200, .core⟩]⟩,
   ⟨"NET_CNT", 0x100040, 4, 0x10000, 8, 0x4,
    [⟨31, 0, .rc, 0x0, .no⟩]⟩]

/-- Registers of the BSN block (R180). -/
def regsBsn : List RegDesc :=
  [⟨"BSN_CFG", 0x180000, 1, 0x1000000, 1, 0x1,
    [⟨15, 8, .rwl, 0x14, .core⟩, ⟨0, 0, .rwl, 0x1, .core⟩]⟩,
   ⟨"BSN_POOL", 0x180004, 1, 0x1000000, 1, 0x1,
    [⟨17, 0, .ro, 0x0, .no⟩]⟩,
   ⟨"BSN_BANK", 0x180008, 1, 0x1000000, 1, 0x1,
    [⟨15, 8, .ro, 0x0, .core⟩, ⟨7, 0, .ro, 0x0, .no⟩]⟩,
   ⟨"BSN_RING", 0x180010, 1, 0x1000000, 1, 0x1,
    [⟨23, 23, .rwb, 0x1, .system⟩, ⟨22, 20, .rwb, 0x7, .system⟩, ⟨19, 12, .rwb, 0x1, .system⟩, ⟨11, 0, .rwb, 0xFA0, .system⟩]⟩,
   ⟨"BSN_RINGT", 0x180014, 1, 0x1000000, 1, 0x1,
    [⟨31, 16, .rwl, 0x0, .core⟩, ⟨15, 0, .rwl, 0x1F4, .core⟩]⟩,
   ⟨"BSN_RINGSTAT", 0x180018, 1, 0x1000000, 1, 0x1,
    [⟨7, 4, .ro, 0x0, .no⟩, ⟨3, 2, .ro, 0x3, .no⟩, ⟨1, 0, .ro, 0x3, .no⟩]⟩,
   ⟨"BSN_CAP_CFG", 0x180020, 1, 0x1000000, 1, 0x1,
    [⟨31, 31, .rwl, 0x0, .core⟩, ⟨30, 30, .rwq, 0x0, .core⟩, ⟨8, 0, .rwq, 0x10, .core⟩]⟩,
   ⟨"BSN_CAP_HEAD", 0x180024, 1, 0x1000000, 1, 0x1,
    [⟨31, 0, .ro, 0x0, .no⟩]⟩,
   ⟨"BSN_CAP_LOST", 0x180028, 1, 0x1000000, 1, 0x1,
    [⟨31, 0, .rc, 0x0, .no⟩]⟩,
   ⟨"BSN_CAPF", 0x180040, 8, 0x4, 1, 0x1,
    [⟨31, 31, .rwl, 0x0, .core⟩, ⟨28, 28, .rwl, 0x0, .core⟩, ⟨27, 24, .rwl, 0x0, .core⟩, ⟨23, 16, .rwl, 0x0, .core⟩, ⟨9, 8, .rwl, 0x0, .core⟩, ⟨7, 0, .rwl, 0x0, .core⟩]⟩,
   ⟨"BSN_LADDR_LO", 0x180080, 16, 0x8, 1, 0x1,
    [⟨31, 0, .ro, 0x0, .core⟩]⟩,
   ⟨"BSN_LADDR_HI", 0x180084, 16, 0x8, 1, 0x1,
    [⟨31, 31, .ro, 0x0, .core⟩, ⟨30, 30, .ro, 0x0, .core⟩, ⟨27, 16, .ro, 0x0, .core⟩, ⟨15, 0, .ro, 0x0, .core⟩]⟩]

/-- Registers of the SLU block (R204). -/
def regsSlu : List RegDesc :=
  [⟨"SLU_CFG", 0x200000, 1, 0x1000000, 1, 0x1,
    [⟨31, 24, .rwl, 0x14, .core⟩, ⟨23, 16, .rwl, 0x20, .core⟩, ⟨15, 12, .rwl, 0x5, .core⟩, ⟨9, 8, .rwl, 0x3, .core⟩, ⟨1, 1, .rwl, 0x1, .core⟩, ⟨0, 0, .rwl, 0x1, .core⟩]⟩,
   ⟨"SLU_RETRY", 0x200004, 1, 0x1000000, 1, 0x1,
    [⟨20, 16, .rwl, 0xE, .core⟩, ⟨10, 8, .rwl, 0x7, .core⟩, ⟨2, 0, .rwl, 0x7, .core⟩]⟩,
   ⟨"SLU_QP_STAT", 0x200008, 1, 0x1000000, 1, 0x1,
    [⟨28, 16, .ro, 0x0, .no⟩, ⟨12, 0, .ro, 0x0, .no⟩]⟩,
   ⟨"SLU_HALF", 0x20000C, 1, 0x1000000, 1, 0x1,
    [⟨9, 8, .ro, 0x0, .core⟩, ⟨1, 0, .ro, 0x0, .no⟩]⟩,
   ⟨"SLU_WIN_CFG", 0x200010, 1, 0x1000000, 1, 0x1,
    [⟨31, 31, .rwl, 0x1, .core⟩, ⟨13, 8, .rwq, 0x10, .core⟩, ⟨5, 0, .rwq, 0x8, .core⟩]⟩,
   ⟨"SLU_WIN_STAT", 0x200014, 1, 0x1000000, 1, 0x1,
    [⟨26, 16, .ro, 0x0, .no⟩, ⟨10, 0, .ro, 0x0, .no⟩]⟩,
   ⟨"SLU_TRIG_STAT", 0x200018, 1, 0x1000000, 1, 0x1,
    [⟨30, 16, .ro, 0x0, .no⟩, ⟨15, 0, .rc, 0x0, .no⟩]⟩,
   ⟨"SLU_ACCV_LAST", 0x20001C, 1, 0x1000000, 1, 0x1,
    [⟨27, 16, .ro, 0x0, .core⟩, ⟨7, 0, .ro, 0x0, .core⟩]⟩,
   ⟨"SLU_CNT", 0x200040, 8, 0x4, 1, 0x1,
    [⟨31, 0, .rc, 0x0, .no⟩]⟩]

/-- Registers of the WEIR block (R216). -/
def regsWeir0 : List RegDesc :=
  [⟨"WEIR_CFG", 0x1C0000, 1, 0x1000000, 1, 0x1,
    [⟨0, 0, .rwl, 0x1, .core⟩]⟩,
   ⟨"WEIR_SMP_CFG", 0x1C0004, 1, 0x1000000, 1, 0x1,
    [⟨31, 31, .rwl, 0x1, .core⟩, ⟨15, 0, .rwl, 0x64, .core⟩]⟩,
   ⟨"WEIR_POL_TOTAL", 0x1C0008, 1, 0x1000000, 1, 0x1,
    [⟨31, 0, .rc, 0x0, .no⟩]⟩,
   ⟨"WEIR_SCHED", 0x1C1000, 4, 0x1000, 1, 0x1,
    [⟨7, 0, .rwl, 0x0, .core⟩]⟩,
   ⟨"WEIR_WEIGHT", 0x1C1004, 4, 0x1000, 1, 0x1,
    [⟨3, 0, .rwl, 0x1, .core⟩, ⟨7, 4, .rwl, 0x1, .core⟩, ⟨11, 8, .rwl, 0x1, .core⟩, ⟨15, 12, .rwl, 0x1, .core⟩, ⟨19, 16, .rwl, 0x1, .core⟩, ⟨23, 20, .rwl, 0x1, .core⟩, ⟨27, 24, .rwl, 0x1, .core⟩, ⟨31, 28, .rwl, 0x1, .core⟩]⟩,
   ⟨"WEIR_SHP_RATE", 0x1C1010, 4, 0x1000, 8, 0x8,
    [⟨18, 0, .rwl, 0x0, .core⟩]⟩,
   ⟨"WEIR_SHP_BURST", 0x1C1014, 4, 0x1000, 8, 0x8,
    [⟨14, 0, .rwl, 0x400, .core⟩]⟩,
   ⟨"WEIR_GCL_CTL", 0x1C1080, 4, 0x1000, 1, 0x1,
    [⟨31, 31, .rwl, 0x0, .core⟩, ⟨30, 30, .wo, 0x0, .no⟩, ⟨29, 29, .wo, 0x0, .no⟩, ⟨6, 0, .rwq, 0x1, .core⟩]⟩,
   ⟨"WEIR_GCL_BASE_LO", 0x1C1084, 4, 0x1000, 1, 0x1,
    [⟨31, 0, .rwq, 0x0, .core⟩]⟩,
   ⟨"WEIR_GCL_BASE_HI", 0x1C1088, 4, 0x1000, 1, 0x1,
    [⟨31, 0, .rwq, 0x0, .core⟩]⟩,
   ⟨"WEIR_GCL_CYCLE", 0x1C108C, 4, 0x1000, 1, 0x1,
    [⟨31, 0, .rwq, 0xF4240, .core⟩]⟩,
   ⟨"WEIR_GCL_STAT", 0x1C1090, 4, 0x1000, 1, 0x1,
    [⟨31, 31, .ro, 0x0, .no⟩, ⟨30, 30, .ro, 0x0, .no⟩, ⟨29, 29, .w1c, 0x0, .core⟩, ⟨28, 28, .w1c, 0x0, .core⟩, ⟨27, 27, .ro, 0x1, .no⟩, ⟨21, 16, .ro, 0x0, .no⟩, ⟨15, 0, .rc, 0x0, .no⟩]⟩]

/-- Registers of the WEIR block (R216). -/
def regsWeir1 : List RegDesc :=
  [⟨"WEIR_GCL_START_LO", 0x1C1094, 4, 0x1000, 1, 0x1,
    [⟨31, 0, .ro, 0x0, .core⟩]⟩,
   ⟨"WEIR_GCL_START_HI", 0x1C1098, 4, 0x1000, 1, 0x1,
    [⟨31, 0, .ro, 0x0, .core⟩]⟩,
   ⟨"WEIR_QDEP", 0x1C1100, 4, 0x1000, 8, 0x8,
    [⟨31, 16, .rc, 0x0, .no⟩, ⟨15, 0, .ro, 0x0, .no⟩]⟩,
   ⟨"WEIR_QDLY", 0x1C1104, 4, 0x1000, 8, 0x8,
    [⟨31, 16, .rc, 0x0, .no⟩, ⟨15, 0, .ro, 0x0, .no⟩]⟩,
   ⟨"WEIR_GCL_ADMIN", 0x1C1400, 4, 0x1000, 64, 0x4,
    [⟨31, 24, .rwq, 0xFF, .core⟩, ⟨23, 0, .rwq, 0x14, .core⟩]⟩,
   ⟨"WEIR_GCL_OPER", 0x1C1600, 4, 0x1000, 64, 0x4,
    [⟨31, 24, .ro, 0xFF, .core⟩, ⟨23, 0, .ro, 0x14, .core⟩]⟩,
   ⟨"WEIR_POL_RATE", 0x1C8000, 4096, 0x8, 1, 0x1,
    [⟨31, 31, .rwl, 0x0, .core⟩, ⟨18, 0, .rwl, 0x0, .core⟩]⟩,
   ⟨"WEIR_POL_BURST", 0x1C8004, 4096, 0x8, 1, 0x1,
    [⟨14, 0, .rwl, 0x400, .core⟩]⟩,
   ⟨"WEIR_POL_EXC", 0x1D0000, 4096, 0x4, 1, 0x1,
    [⟨31, 0, .rc, 0x0, .no⟩]⟩]

/-- Registers of the GUS block (R244). -/
def regsGus : List RegDesc :=
  [⟨"GUS_CFG", 0x600000, 1, 0x1000000, 1, 0x1,
    [⟨27, 16, .rwl, 0x3E8, .core⟩, ⟨9, 9, .rwb, 0x1, .system⟩, ⟨8, 8, .rwl, 0x0, .core⟩, ⟨7, 0, .rwl, 0xA, .core⟩]⟩,
   ⟨"GUS_STAT", 0x600004, 1, 0x1000000, 1, 0x1,
    [⟨31, 31, .ro, 0x0, .no⟩, ⟨30, 30, .ro, 0x0, .no⟩, ⟨29, 29, .ro, 0x0, .core⟩, ⟨23, 20, .ro, 0x0, .core⟩, ⟨19, 16, .ro, 0x0, .core⟩, ⟨15, 12, .ro, 0x0, .core⟩, ⟨7, 4, .ro, 0x0, .core⟩]⟩,
   ⟨"GUS_HB", 0x600008, 1, 0x1000000, 1, 0x1,
    [⟨31, 24, .ro, 0x0, .no⟩, ⟨23, 16, .ro, 0x0, .no⟩, ⟨15, 8, .ro, 0x0, .no⟩, ⟨5, 5, .ro, 0x0, .no⟩, ⟨4, 4, .ro, 0x0, .no⟩, ⟨3, 3, .ro, 0x0, .no⟩, ⟨2, 2, .ro, 0x0, .no⟩]⟩,
   ⟨"GUS_PEER_HEALTH", 0x60000C, 1, 0x1000000, 1, 0x1,
    [⟨15, 0, .ro, 0x0, .no⟩]⟩,
   ⟨"GUS_TICK_LO", 0x600010, 1, 0x1000000, 1, 0x1,
    [⟨31, 0, .ro, 0x0, .core⟩]⟩,
   ⟨"GUS_TICKACK_LO", 0x600014, 1, 0x1000000, 1, 0x1,
    [⟨31, 0, .ro, 0x0, .core⟩]⟩,
   ⟨"GUS_ACKLAT", 0x600018, 1, 0x1000000, 1, 0x1,
    [⟨31, 16, .rc, 0x0, .no⟩, ⟨15, 0, .ro, 0x0, .no⟩]⟩,
   ⟨"GUS_TKOVR", 0x60001C, 1, 0x1000000, 1, 0x1,
    [⟨31, 28, .ro, 0x0, .system⟩, ⟨15, 0, .ro, 0x0, .system⟩]⟩,
   ⟨"GUS_CNT", 0x600040, 8, 0x4, 1, 0x1,
    [⟨31, 0, .rc, 0x0, .no⟩]⟩]

/-- Registers of the RACK block (R260). -/
def regsRack : List RegDesc :=
  [⟨"RACK_CFG", 0x680000, 1, 0x1000000, 1, 0x1,
    [⟨31, 24, .rwl, 0xF, .core⟩, ⟨23, 16, .rwl, 0x3C, .core⟩, ⟨11, 8, .rwl, 0x2, .core⟩, ⟨1, 1, .rwl, 0x1, .core⟩, ⟨0, 0, .rwb, 0x1, .system⟩]⟩,
   ⟨"RACK_BUDGET", 0x680004, 1, 0x1000000, 1, 0x1,
    [⟨31, 16, .rwl, 0xFA0, .core⟩, ⟨15, 0, .rwl, 0x1F4, .core⟩]⟩,
   ⟨"RACK_ALLOW", 0x680008, 1, 0x1000000, 1, 0x1,
    [⟨31, 24, .rwl, 0x19, .core⟩, ⟨23, 16, .rwl, 0x34, .core⟩, ⟨15, 8, .rwl, 0xB, .core⟩, ⟨7, 0, .rwl, 0x6, .core⟩]⟩,
   ⟨"RACK_LEASE", 0x68000C, 1, 0x1000000, 1, 0x1,
    [⟨31, 30, .ro, 0x0, .no⟩, ⟨29, 29, .ro, 0x0, .no⟩, ⟨21, 16, .ro, 0x3F, .no⟩, ⟨5, 0, .ro, 0x0, .no⟩]⟩,
   ⟨"RACK_EPOCH_LO", 0x680010, 1, 0x1000000, 1, 0x1,
    [⟨31, 0, .ro, 0x0, .system⟩]⟩,
   ⟨"RACK_EPOCH_HI", 0x680014, 1, 0x1000000, 1, 0x1,
    [⟨31, 0, .ro, 0x0, .system⟩]⟩,
   ⟨"RACK_PLAN", 0x680018, 1, 0x1000000, 1, 0x1,
    [⟨31, 16, .ro, 0x0, .no⟩, ⟨14, 10, .ro, 0x0, .no⟩, ⟨9, 5, .ro, 0x0, .no⟩, ⟨4, 0, .ro, 0x0, .no⟩]⟩,
   ⟨"RACK_ORDER", 0x68001C, 1, 0x1000000, 1, 0x1,
    [⟨31, 28, .ro, 0x0, .core⟩, ⟨27, 24, .ro, 0xF, .core⟩, ⟨23, 0, .ro, 0x0, .core⟩]⟩,
   ⟨"RACK_CNT", 0x680040, 8, 0x4, 1, 0x1,
    [⟨31, 0, .rc, 0x0, .no⟩]⟩]

/-- Registers of the SPC block (R277). -/
def regsSpc0 : List RegDesc :=
  [⟨"SPC_CFG", 0x30000, 1, 0x1000000, 1, 0x1,
    [⟨31, 24, .rwl, 0x55, .core⟩, ⟨23, 16, .rwl, 0x28, .core⟩, ⟨11, 8, .rwl, 0x4, .core⟩, ⟨7, 0, .rwl, 0x32, .core⟩]⟩,
   ⟨"SPC_CFG1", 0x30004, 1, 0x1000000, 1, 0x1,
    [⟨31, 16, .rwl, 0xFA, .core⟩, ⟨15, 0, .rwl, 0x64, .core⟩]⟩,
   ⟨"SPC_WIN", 0x30008, 1, 0x1000000, 1, 0x1,
    [⟨31, 16, .rwl, 0x3390, .core⟩, ⟨15, 0, .rwl, 0x2A30, .core⟩]⟩,
   ⟨"SPC_MODEL0", 0x3000C, 1, 0x1000000, 1, 0x1,
    [⟨31, 16, .rwb, 0xC8, .system⟩, ⟨15, 0, .rwb, 0x28, .system⟩]⟩,
   ⟨"SPC_MODEL1", 0x30010, 1, 0x1000000, 1, 0x1,
    [⟨31, 16, .rwb, 0x190, .system⟩, ⟨15, 0, .rwb, 0x3E8, .system⟩]⟩,
   ⟨"SPC_MODEL2", 0x30014, 1, 0x1000000, 1, 0x1,
    [⟨31, 24, .rwb, 0x96, .system⟩, ⟨23, 16, .rwb, 0x64, .system⟩, ⟨15, 0, .rwb, 0x96, .system⟩]⟩,
   ⟨"SPC_STAT", 0x30018, 1, 0x1000000, 1, 0x1,
    [⟨31, 31, .ro, 0x0, .core⟩, ⟨30, 30, .ro, 0x0, .core⟩, ⟨23, 0, .ro, 0x0, .core⟩]⟩,
   ⟨"SPC_VIN", 0x3001C, 1, 0x1000000, 1, 0x1,
    [⟨31, 24, .ro, 0x0, .no⟩, ⟨23, 16, .ro, 0x0, .no⟩, ⟨15, 0, .ro, 0x0, .no⟩]⟩,
   ⟨"SPC_SLOT_CFG", 0x30100, 24, 0x20, 1, 0x1,
    [⟨31, 31, .rwl, 0x1, .core⟩, ⟨30, 30, .rwl, 0x1, .core⟩, ⟨23, 16, .rwl, 0x50, .core⟩, ⟨15, 8, .rwl, 0x14, .core⟩, ⟨7, 0, .rwl, 0xA, .core⟩]⟩,
   ⟨"SPC_SLOT_STAT", 0x30104, 24, 0x20, 1, 0x1,
    [⟨31, 28, .ro, 0x0, .core⟩, ⟨27, 27, .ro, 0x0, .core⟩, ⟨26, 26, .ro, 0x0, .no⟩, ⟨25, 25, .ro, 0x0, .core⟩, ⟨24, 24, .ro, 0x0, .core⟩, ⟨23, 20, .ro, 0x0, .core⟩, ⟨19, 16, .ro, 0x0, .core⟩, ⟨15, 15, .w1c, 0x0, .core⟩, ⟨14, 14, .w1c, 0x0, .core⟩, ⟨13, 0, .ro, 0x0, .core⟩]⟩,
   ⟨"SPC_SLOT_MEAS", 0x30108, 24, 0x20, 1, 0x1,
    [⟨31, 16, .ro, 0x0, .no⟩, ⟨15, 0, .ro, 0x0, .no⟩]⟩,
   ⟨"SPC_SLOT_TEMP", 0x3010C, 24, 0x20, 1, 0x1,
    [⟨31, 16, .ro, 0x352, .core⟩, ⟨15, 0, .ro, 0x352, .core⟩]⟩]

/-- Registers of the SPC block (R277). -/
def regsSpc1 : List RegDesc :=
  [⟨"SPC_SLOT_CMD", 0x30110, 24, 0x20, 1, 0x1,
    [⟨3, 0, .wo, 0x0, .no⟩]⟩,
   ⟨"SPC_SLOT_CNT", 0x30114, 24, 0x20, 1, 0x1,
    [⟨31, 16, .rc, 0x0, .no⟩, ⟨15, 8, .rc, 0x0, .no⟩]⟩]

/-- Registers of the PWR block (R309). -/
def regsPwr : List RegDesc :=
  [⟨"PWR_RAIL", 0x20000, 1, 0x1000000, 1, 0x1,
    [⟨24, 16, .w1c, 0x0, .system⟩, ⟨8, 0, .ro, 0x0, .no⟩]⟩,
   ⟨"PWR_FAIL", 0x20004, 1, 0x1000000, 1, 0x1,
    [⟨31, 31, .ro, 0x0, .no⟩, ⟨30, 28, .ro, 0x0, .system⟩, ⟨15, 0, .ro, 0x0, .system⟩]⟩,
   ⟨"PWR_DOM_LO", 0x20008, 1, 0x1000000, 1, 0x1,
    [⟨31, 0, .ro, 0x0, .no⟩]⟩,
   ⟨"PWR_DOM_HI", 0x2000C, 1, 0x1000000, 1, 0x1,
    [⟨31, 0, .ro, 0x0, .no⟩]⟩]

/-- Registers of the CLK block (R309). -/
def regsClk : List RegDesc :=
  [⟨"CLK_STAT", 0x20010, 1, 0x1000000, 1, 0x1,
    [⟨31, 31, .ro, 0x0, .no⟩, ⟨30, 30, .ro, 0x0, .no⟩, ⟨29, 29, .ro, 0x0, .no⟩, ⟨28, 28, .ro, 0x0, .no⟩, ⟨27, 27, .ro, 0x0, .no⟩, ⟨26, 26, .ro, 0x0, .no⟩, ⟨15, 0, .rc, 0x0, .no⟩]⟩,
   ⟨"CLK_PTP_CFG", 0x20020, 1, 0x1000000, 1, 0x1,
    [⟨31, 31, .rwl, 0x1, .core⟩, ⟨30, 30, .rwl, 0x0, .core⟩, ⟨23, 16, .rwl, 0x0, .core⟩, ⟨11, 8, .rwl, 0xF, .core⟩, ⟨7, 0, .rwl, 0x1, .core⟩]⟩,
   ⟨"CLK_PTP_STAT", 0x20024, 1, 0x1000000, 1, 0x1,
    [⟨31, 31, .ro, 0x0, .no⟩, ⟨30, 30, .w1c, 0x0, .core⟩, ⟨29, 29, .ro, 0x0, .no⟩, ⟨27, 24, .ro, 0x0, .no⟩, ⟨15, 0, .ro, 0x0, .no⟩]⟩,
   ⟨"CLK_PTP_OFFSET", 0x20028, 1, 0x1000000, 1, 0x1,
    [⟨31, 0, .ro, 0x0, .no⟩]⟩,
   ⟨"CLK_TIME_LO", 0x20030, 1, 0x1000000, 1, 0x1,
    [⟨31, 0, .ro, 0x0, .system⟩]⟩,
   ⟨"CLK_TIME_HI", 0x20034, 1, 0x1000000, 1, 0x1,
    [⟨31, 0, .ro, 0x0, .system⟩]⟩,
   ⟨"CLK_PPS", 0x20038, 1, 0x1000000, 1, 0x1,
    [⟨31, 31, .rwl, 0x1, .core⟩, ⟨9, 0, .rwl, 0x64, .core⟩]⟩]

/-- Registers of the RST block (R322). -/
def regsRst : List RegDesc :=
  [⟨"RST_CAUSE", 0x10000, 1, 0x1000000, 1, 0x1,
    [⟨11, 0, .w1c, 0x1, .system⟩]⟩,
   ⟨"RST_LAST", 0x10004, 1, 0x1000000, 1, 0x1,
    [⟨31, 30, .ro, 0x3, .system⟩, ⟨27, 24, .ro, 0x0, .system⟩, ⟨23, 12, .ro, 0x1, .system⟩, ⟨11, 0, .ro, 0x0, .system⟩]⟩,
   ⟨"RST_COUNT", 0x10008, 1, 0x1000000, 1, 0x1,
    [⟨31, 16, .ro, 0x0, .system⟩, ⟨15, 0, .ro, 0x0, .system⟩]⟩,
   ⟨"RST_CTRL", 0x1000C, 1, 0x1000000, 1, 0x1,
    [⟨31, 16, .wo, 0x0, .no⟩, ⟨1, 0, .wo, 0x0, .no⟩]⟩,
   ⟨"RST_WDT", 0x10010, 1, 0x1000000, 1, 0x1,
    [⟨31, 16, .rwl, 0x3E8, .core⟩, ⟨15, 0, .rwl, 0xFA, .core⟩]⟩,
   ⟨"RST_BOOT", 0x10014, 1, 0x1000000, 1, 0x1,
    [⟨31, 28, .ro, 0x0, .no⟩, ⟨27, 24, .ro, 0x0, .no⟩, ⟨23, 23, .ro, 0x0, .no⟩, ⟨22, 22, .ro, 0x0, .no⟩, ⟨21, 21, .ro, 0x0, .no⟩, ⟨20, 20, .ro, 0x0, .no⟩]⟩]

/-- Registers of the EPT block (R339). -/
def regsEpt : List RegDesc :=
  [⟨"EPT_CFG", 0x700000, 1, 0x1000000, 1, 0x1,
    [⟨31, 31, .rwb, 0x1, .system⟩, ⟨25, 24, .rwb, 0x0, .system⟩, ⟨20, 16, .rwb, 0x1D, .system⟩, ⟨5, 0, .rwb, 0x4, .system⟩]⟩,
   ⟨"EPT_STAT", 0x700004, 1, 0x1000000, 1, 0x1,
    [⟨31, 31, .ro, 0x0, .no⟩, ⟨30, 28, .ro, 0x0, .no⟩, ⟨27, 24, .ro, 0x0, .no⟩, ⟨23, 23, .ro, 0x0, .no⟩, ⟨22, 22, .ro, 0x0, .no⟩, ⟨21, 20, .ro, 0x0, .no⟩, ⟨19, 18, .ro, 0x0, .no⟩, ⟨17, 17, .ro, 0x0, .no⟩]⟩,
   ⟨"EPT_TAGS", 0x700008, 1, 0x1000000, 1, 0x1,
    [⟨31, 16, .ro, 0x0, .no⟩, ⟨15, 0, .ro, 0x0, .no⟩]⟩,
   ⟨"EPT_PWIN_CTL", 0x700010, 8, 0x8, 1, 0x1,
    [⟨31, 31, .rw, 0x0, .core⟩, ⟨30, 30, .ro, 0x0, .no⟩, ⟨29, 29, .w1c, 0x0, .core⟩]⟩,
   ⟨"EPT_PWIN_MAP", 0x700014, 8, 0x8, 1, 0x1,
    [⟨31, 31, .rwq, 0x0, .core⟩, ⟨7, 0, .rwq, 0x0, .core⟩]⟩,
   ⟨"EPT_LASTUC", 0x700050, 1, 0x1000000, 1, 0x1,
    [⟨31, 16, .ro, 0x0, .core⟩, ⟨9, 0, .ro, 0x0, .core⟩]⟩,
   ⟨"EPT_CNT", 0x700060, 8, 0x4, 1, 0x1,
    [⟨31, 0, .rc, 0x0, .no⟩]⟩]

/-- Registers of the THM block (R354). -/
def regsThm : List RegDesc :=
  [⟨"THM_CFG", 0x40000, 1, 0x1000000, 1, 0x1,
    [⟨31, 16, .rwl, 0x3C, .core⟩, ⟨15, 8, .rwl, 0x8, .core⟩, ⟨7, 0, .rwl, 0x10, .core⟩]⟩,
   ⟨"THM_STAT", 0x40004, 1, 0x1000000, 1, 0x1,
    [⟨31, 31, .ro, 0x0, .no⟩, ⟨15, 8, .ro, 0x0, .core⟩, ⟨7, 0, .ro, 0x0, .system⟩]⟩,
   ⟨"THM_LAST", 0x40008, 1, 0x1000000, 1, 0x1,
    [⟨31, 20, .ro, 0x0, .core⟩, ⟨19, 16, .ro, 0x0, .core⟩, ⟨15, 12, .ro, 0x0, .core⟩]⟩,
   ⟨"THM_SRC_SEL", 0x40010, 1, 0x1000000, 1, 0x1,
    [⟨11, 0, .rw, 0x0, .core⟩]⟩,
   ⟨"THM_SRC_STAT", 0x40014, 1, 0x1000000, 1, 0x1,
    [⟨31, 30, .ro, 0x0, .no⟩, ⟨23, 16, .ro, 0x0, .no⟩, ⟨15, 8, .ro, 0x0, .no⟩, ⟨7, 0, .ro, 0xFF, .no⟩]⟩,
   ⟨"THM_SRC_QUIET", 0x40018, 1, 0x1000000, 1, 0x1,
    [⟨15, 0, .ro, 0x0, .no⟩]⟩,
   ⟨"THM_CMD", 0x4001C, 1, 0x1000000, 1, 0x1,
    [⟨31, 16, .wo, 0x0, .no⟩, ⟨15, 12, .wo, 0x0, .no⟩, ⟨11, 0, .wo, 0x0, .no⟩]⟩,
   ⟨"THM_RT_ID", 0x40100, 64, 0x8, 1, 0x1,
    [⟨27, 16, .rwl, 0x0, .core⟩, ⟨11, 0, .rwl, 0x0, .core⟩]⟩,
   ⟨"THM_RT_ACT", 0x40104, 64, 0x8, 1, 0x1,
    [⟨31, 28, .rwl, 0x0, .core⟩, ⟨27, 24, .rwl, 0x0, .core⟩, ⟨23, 16, .rwl, 0x0, .core⟩, ⟨15, 0, .rwl, 0x0, .core⟩]⟩]

/-- Registers of the BBX block (R354). -/
def regsBbx : List RegDesc :=
  [⟨"BBX_NEXT_LO", 0x50000, 1, 0x1000000, 1, 0x1,
    [⟨31, 0, .ro, 0x0, .system⟩]⟩,
   ⟨"BBX_NEXT_HI", 0x50004, 1, 0x1000000, 1, 0x1,
    [⟨31, 0, .ro, 0x0, .system⟩]⟩,
   ⟨"BBX_STAT", 0x50008, 1, 0x1000000, 1, 0x1,
    [⟨31, 31, .ro, 0x0, .no⟩, ⟨30, 30, .ro, 0x0, .no⟩, ⟨15, 0, .rc, 0x0, .no⟩]⟩,
   ⟨"BBX_RD_SEQ_LO", 0x50010, 1, 0x1000000, 1, 0x1,
    [⟨31, 0, .rw, 0x0, .no⟩]⟩,
   ⟨"BBX_RD_SEQ_HI", 0x50014, 1, 0x1000000, 1, 0x1,
    [⟨31, 0, .rw, 0x0, .no⟩]⟩,
   ⟨"BBX_RD_STAT", 0x50018, 1, 0x1000000, 1, 0x1,
    [⟨31, 31, .ro, 0x0, .no⟩, ⟨30, 29, .ro, 0x0, .no⟩]⟩,
   ⟨"BBX_RD_DATA", 0x50040, 16, 0x4, 1, 0x1,
    [⟨31, 0, .ro, 0x0, .no⟩]⟩]

/-- Registers of the PMU block (R369). -/
def regsPmu0 : List RegDesc :=
  [⟨"PMU_CTL", 0x60000, 1, 0x1000000, 1, 0x1,
    [⟨31, 31, .rw, 0x0, .core⟩, ⟨30, 30, .wo, 0x0, .no⟩, ⟨29, 29, .wo, 0x0, .no⟩, ⟨28, 28, .rw, 0x0, .core⟩, ⟨27, 27, .rw, 0x0, .core⟩]⟩,
   ⟨"PMU_OVF", 0x60010, 8, 0x4, 1, 0x1,
    [⟨31, 0, .w1c, 0x0, .core⟩]⟩,
   ⟨"PMU_SMP_CFG", 0x60040, 1, 0x1000000, 1, 0x1,
    [⟨31, 31, .rw, 0x0, .core⟩, ⟨30, 30, .rwq, 0x0, .core⟩, ⟨9, 8, .rwq, 0x0, .core⟩, ⟨3, 0, .rwq, 0x0, .core⟩]⟩,
   ⟨"PMU_SMP_HEAD", 0x60044, 1, 0x1000000, 1, 0x1,
    [⟨31, 0, .ro, 0x0, .no⟩]⟩,
   ⟨"PMU_SMP_LOST", 0x60048, 1, 0x1000000, 1, 0x1,
    [⟨31, 0, .rc, 0x0, .no⟩]⟩,
   ⟨"PMU_SMP_RD_SEQ", 0x6004C, 1, 0x1000000, 1, 0x1,
    [⟨31, 0, .rw, 0x0, .no⟩]⟩,
   ⟨"PMU_SMP_RD_STAT", 0x60050, 1, 0x1000000, 1, 0x1,
    [⟨31, 31, .ro, 0x0, .no⟩, ⟨30, 29, .ro, 0x0, .no⟩]⟩,
   ⟨"PMU_FILT_A", 0x60060, 4, 0x8, 1, 0x1,
    [⟨31, 24, .rwq, 0x0, .core⟩, ⟨23, 16, .rwq, 0x0, .core⟩, ⟨15, 15, .rwq, 0x0, .core⟩, ⟨8, 0, .rwq, 0x0, .core⟩]⟩,
   ⟨"PMU_FILT_B", 0x60064, 4, 0x8, 1, 0x1,
    [⟨31, 31, .rwq, 0x0, .core⟩, ⟨25, 16, .rwq, 0x0, .core⟩, ⟨15, 0, .rwq, 0x0, .core⟩]⟩,
   ⟨"PMU_SMP_RD_DATA", 0x60080, 32, 0x4, 1, 0x1,
    [⟨31, 0, .ro, 0x0, .no⟩]⟩,
   ⟨"PMU_HIST_CFG", 0x60400, 64, 0x4, 1, 0x1,
    [⟨31, 31, .rw, 0x0, .core⟩, ⟨30, 30, .wo, 0x0, .no⟩, ⟨29, 29, .rwq, 0x0, .core⟩, ⟨28, 27, .rwq, 0x0, .core⟩, ⟨26, 24, .rwq, 0x0, .core⟩, ⟨23, 16, .rwq, 0x0, .core⟩, ⟨7, 0, .rwq, 0xFF, .core⟩]⟩,
   ⟨"PMU_CTR_CFG", 0x61000, 256, 0x4, 1, 0x1,
    [⟨31, 31, .rw, 0x0, .core⟩, ⟨30, 30, .rwq, 0x0, .core⟩, ⟨29, 28, .rwq, 0x0, .core⟩, ⟨19, 8, .rwq, 0x0, .core⟩, ⟨7, 0, .rwq, 0xFF, .core⟩]⟩]

/-- Registers of the PMU block (R369). -/
def regsPmu1 : List RegDesc :=
  [⟨"PMU_CTR_THR", 0x61400, 256, 0x4, 1, 0x1,
    [⟨23, 0, .rwq, 0x0, .core⟩]⟩,
   ⟨"PMU_CTR_LO", 0x62000, 256, 0x8, 1, 0x1,
    [⟨31, 0, .rwq, 0x0, .core⟩]⟩,
   ⟨"PMU_CTR_HI", 0x62004, 256, 0x8, 1, 0x1,
    [⟨15, 0, .rwq, 0x0, .core⟩]⟩,
   ⟨"PMU_HIST_BIN", 0x68000, 64, 0x80, 32, 0x4,
    [⟨31, 0, .ro, 0x0, .core⟩]⟩]

/-- Registers of the MNT block (R394). -/
def regsMnt : List RegDesc :=
  [⟨"MNT_ARB_RUN", 0x70000, 1, 0x1000000, 1, 0x1,
    [⟨25, 16, .ro, 0x0, .no⟩, ⟨9, 0, .ro, 0x0, .no⟩]⟩,
   ⟨"MNT_ARB_LAST", 0x70004, 1, 0x1000000, 1, 0x1,
    [⟨31, 28, .ro, 0x0, .core⟩, ⟨27, 24, .ro, 0x0, .core⟩, ⟨23, 20, .ro, 0x0, .core⟩, ⟨19, 18, .ro, 0x0, .core⟩]⟩,
   ⟨"MNT_ACTV", 0x70008, 1, 0x1000000, 1, 0x1,
    [⟨31, 28, .ro, 0x0, .core⟩, ⟨27, 25, .ro, 0x0, .no⟩, ⟨24, 24, .ro, 0x0, .core⟩, ⟨23, 23, .ro, 0x0, .core⟩, ⟨22, 16, .ro, 0x0, .no⟩, ⟨7, 0, .ro, 0x0, .system⟩]⟩,
   ⟨"MNT_DIR", 0x7000C, 1, 0x1000000, 1, 0x1,
    [⟨24, 16, .ro, 0x0, .system⟩, ⟨8, 0, .ro, 0x0, .system⟩]⟩,
   ⟨"MNT_SECVER", 0x70010, 1, 0x1000000, 1, 0x1,
    [⟨31, 16, .ro, 0x0, .system⟩, ⟨15, 0, .ro, 0x0, .system⟩]⟩,
   ⟨"MNT_CFG", 0x70014, 1, 0x1000000, 1, 0x1,
    [⟨31, 31, .ro, 0x0, .core⟩, ⟨15, 8, .ro, 0x0, .system⟩, ⟨7, 0, .ro, 0x0, .system⟩]⟩,
   ⟨"MNT_CFG_GEN", 0x70018, 1, 0x1000000, 1, 0x1,
    [⟨31, 0, .ro, 0x0, .system⟩]⟩,
   ⟨"MNT_SVC", 0x7001C, 1, 0x1000000, 1, 0x1,
    [⟨31, 24, .ro, 0x0, .no⟩, ⟨15, 0, .rc, 0x0, .no⟩]⟩]

/-- Registers of the SEAM block (R398). -/
def regsSeam : List RegDesc :=
  [⟨"SEAM_STAT", 0x480000, 1, 0x1000000, 1, 0x1,
    [⟨9, 8, .ro, 0x0, .core⟩, ⟨1, 0, .ro, 0x0, .no⟩]⟩,
   ⟨"SEAM_FOLDS", 0x480004, 1, 0x1000000, 1, 0x1,
    [⟨31, 0, .rc, 0x0, .no⟩]⟩]

/-- Registers of the DRV block (R399). -/
def regsDrv : List RegDesc :=
  [⟨"DRV_STAT", 0x780000, 24, 0x1000, 1, 0x1,
    [⟨31, 31, .ro, 0x0, .no⟩, ⟨30, 28, .ro, 0x0, .no⟩, ⟨27, 26, .ro, 0x0, .no⟩, ⟨25, 25, .ro, 0x0, .no⟩, ⟨24, 24, .ro, 0x0, .core⟩, ⟨15, 0, .ro, 0x0, .no⟩]⟩,
   ⟨"DRV_CNT", 0x780040, 24, 0x1000, 4, 0x4,
    [⟨31, 0, .rc, 0x0, .no⟩]⟩]

/-- Registers of the DDR block (R400). -/
def regsDdr : List RegDesc :=
  [⟨"DDR_TOTAL", 0x800000, 1, 0x1000000, 1, 0x1,
    [⟨15, 0, .ro, 0x0, .core⟩]⟩,
   ⟨"DDR_STAT", 0x801000, 4, 0x1000, 1, 0x1,
    [⟨31, 31, .ro, 0x0, .core⟩, ⟨30, 30, .ro, 0x0, .core⟩, ⟨29, 29, .ro, 0x0, .system⟩, ⟨28, 28, .ro, 0x0, .no⟩, ⟨15, 0, .ro, 0x0, .core⟩]⟩,
   ⟨"DDR_ECC", 0x801004, 4, 0x1000, 1, 0x1,
    [⟨31, 16, .rc, 0x0, .no⟩, ⟨15, 0, .rc, 0x0, .no⟩]⟩]

/-- Every register of the space (R395). -/
def regTable : List RegDesc :=
  regsTop ++
  regsCmd ++
  regsObj ++
  regsBed0 ++
  regsBed1 ++
  regsRill ++
  regsCph ++
  regsNet ++
  regsBsn ++
  regsSlu ++
  regsWeir0 ++
  regsWeir1 ++
  regsGus ++
  regsRack ++
  regsSpc0 ++
  regsSpc1 ++
  regsPwr ++
  regsClk ++
  regsRst ++
  regsEpt ++
  regsThm ++
  regsBbx ++
  regsPmu0 ++
  regsPmu1 ++
  regsMnt ++
  regsSeam ++
  regsDrv ++
  regsDdr

namespace F

/-- TOP_ID.PART (RO, R5). -/
def TOP_ID_PART : Fld := ⟨0x0, 31, 16⟩
/-- TOP_ID.REV_MAJOR (RO, R5). -/
def TOP_ID_REV_MAJOR : Fld := ⟨0x0, 15, 12⟩
/-- TOP_ID.REV_MINOR (RO, R5). -/
def TOP_ID_REV_MINOR : Fld := ⟨0x0, 11, 8⟩
/-- TOP_CFGERR.VALID (W1C, R11). -/
def TOP_CFGERR_VALID : Fld := ⟨0x10, 31, 31⟩
/-- TOP_CFGERR.MORE (RO, R11). -/
def TOP_CFGERR_MORE : Fld := ⟨0x10, 30, 30⟩
/-- TOP_CFGERR.REASON (RO, R11). -/
def TOP_CFGERR_REASON : Fld := ⟨0x10, 27, 24⟩
/-- TOP_CFGERR.ADDR (RO, R11). -/
def TOP_CFGERR_ADDR : Fld := ⟨0x10, 23, 0⟩
/-- TOP_SHELF.STRAP_CODE (RO, R27). -/
def TOP_SHELF_STRAP_CODE : Fld := ⟨0x20, 27, 24⟩
/-- TOP_SHELF.POSITION (RO, R27). -/
def TOP_SHELF_POSITION : Fld := ⟨0x20, 23, 23⟩
/-- TOP_SHELF.MGR_ELIGIBLE (RO, R27). -/
def TOP_SHELF_MGR_ELIGIBLE : Fld := ⟨0x20, 22, 22⟩
/-- TOP_SHELF.POS_CONFLICT (RO, R27). -/
def TOP_SHELF_POS_CONFLICT : Fld := ⟨0x20, 21, 21⟩
/-- TOP_SHELF.SHELF_INDEX (RO, R27). -/
def TOP_SHELF_SHELF_INDEX : Fld := ⟨0x20, 20, 16⟩
/-- TOP_SHELF.PEER_STATE (RO, R27). -/
def TOP_SHELF_PEER_STATE : Fld := ⟨0x20, 11, 8⟩
/-- TOP_SHELF.TARGET (RO, R27). -/
def TOP_SHELF_TARGET : Fld := ⟨0x20, 7, 4⟩
/-- TOP_SHELF.STATE (RO, R27). -/
def TOP_SHELF_STATE : Fld := ⟨0x20, 3, 0⟩
/-- TOP_STRAP.INVALID (RO, R290). -/
def TOP_STRAP_INVALID : Fld := ⟨0x30, 31, 31⟩
/-- TOP_STRAP.CODE (RO, R290). -/
def TOP_STRAP_CODE : Fld := ⟨0x30, 23, 20⟩
/-- TOP_STRAP.ROUNDS (RO, R290). -/
def TOP_STRAP_ROUNDS : Fld := ⟨0x30, 19, 16⟩
/-- TOP_STRAP.OHMS (RO, R290). -/
def TOP_STRAP_OHMS : Fld := ⟨0x30, 15, 0⟩
/-- RST_CAUSE.SOURCES (W1C, R322). -/
def RST_CAUSE_SOURCES : Fld := ⟨0x10000, 11, 0⟩
/-- RST_LAST.LEVEL (RO, R322). -/
def RST_LAST_LEVEL : Fld := ⟨0x10004, 31, 30⟩
/-- RST_LAST.FIRST (RO, R322). -/
def RST_LAST_FIRST : Fld := ⟨0x10004, 27, 24⟩
/-- RST_LAST.SOURCES (RO, R322). -/
def RST_LAST_SOURCES : Fld := ⟨0x10004, 23, 12⟩
/-- RST_LAST.DURATION (RO, R322). -/
def RST_LAST_DURATION : Fld := ⟨0x10004, 11, 0⟩
/-- RST_COUNT.SYSTEM (RO, R322). -/
def RST_COUNT_SYSTEM : Fld := ⟨0x10008, 31, 16⟩
/-- RST_COUNT.CORE (RO, R322). -/
def RST_COUNT_CORE : Fld := ⟨0x10008, 15, 0⟩
/-- RST_CTRL.KEY (WO, R322). -/
def RST_CTRL_KEY : Fld := ⟨0x1000C, 31, 16⟩
/-- RST_CTRL.LEVEL (WO, R322). -/
def RST_CTRL_LEVEL : Fld := ⟨0x1000C, 1, 0⟩
/-- RST_WDT.C0_MS (RWL, R322). -/
def RST_WDT_C0_MS : Fld := ⟨0x10010, 31, 16⟩
/-- RST_WDT.CX_MS (RWL, R322). -/
def RST_WDT_CX_MS : Fld := ⟨0x10010, 15, 0⟩
/-- RST_BOOT.PHASE (RO, R322). -/
def RST_BOOT_PHASE : Fld := ⟨0x10014, 31, 28⟩
/-- RST_BOOT.FAIL (RO, R322). -/
def RST_BOOT_FAIL : Fld := ⟨0x10014, 27, 24⟩
/-- RST_BOOT.SERVICE_WAIT (RO, R322). -/
def RST_BOOT_SERVICE_WAIT : Fld := ⟨0x10014, 23, 23⟩
/-- RST_BOOT.SLOT (RO, R322). -/
def RST_BOOT_SLOT : Fld := ⟨0x10014, 22, 22⟩
/-- RST_BOOT.CFG_DEFAULTED (RO, R322). -/
def RST_BOOT_CFG_DEFAULTED : Fld := ⟨0x10014, 21, 21⟩
/-- RST_BOOT.SCHEMA_RESET (RO, R322). -/
def RST_BOOT_SCHEMA_RESET : Fld := ⟨0x10014, 20, 20⟩
/-- PWR_RAIL.LOW (W1C, R309). -/
def PWR_RAIL_LOW : Fld := ⟨0x20000, 24, 16⟩
/-- PWR_RAIL.OK (RO, R309). -/
def PWR_RAIL_OK : Fld := ⟨0x20000, 8, 0⟩
/-- PWR_FAIL.ASSERTED (RO, R309). -/
def PWR_FAIL_ASSERTED : Fld := ⟨0x20004, 31, 31⟩
/-- PWR_FAIL.PHASE (RO, R309). -/
def PWR_FAIL_PHASE : Fld := ⟨0x20004, 30, 28⟩
/-- PWR_FAIL.COUNT (RO, R309). -/
def PWR_FAIL_COUNT : Fld := ⟨0x20004, 15, 0⟩
/-- PWR_DOM_LO.ON (RO, R309). -/
def PWR_DOM_LO_ON : Fld := ⟨0x20008, 31, 0⟩
/-- PWR_DOM_HI.ON (RO, R309). -/
def PWR_DOM_HI_ON : Fld := ⟨0x2000C, 31, 0⟩
/-- CLK_STAT.ROOT_LOCK (RO, R309). -/
def CLK_STAT_ROOT_LOCK : Fld := ⟨0x20010, 31, 31⟩
/-- CLK_STAT.ROOT_REF (RO, R309). -/
def CLK_STAT_ROOT_REF : Fld := ⟨0x20010, 30, 30⟩
/-- CLK_STAT.NETA_REF (RO, R309). -/
def CLK_STAT_NETA_REF : Fld := ⟨0x20010, 29, 29⟩
/-- CLK_STAT.NETB_REF (RO, R309). -/
def CLK_STAT_NETB_REF : Fld := ⟨0x20010, 28, 28⟩
/-- CLK_STAT.PCIE_REF (RO, R309). -/
def CLK_STAT_PCIE_REF : Fld := ⟨0x20010, 27, 27⟩
/-- CLK_STAT.HOLDOVER (RO, R309). -/
def CLK_STAT_HOLDOVER : Fld := ⟨0x20010, 26, 26⟩
/-- CLK_STAT.REF_LOSS (RC, R309). -/
def CLK_STAT_REF_LOSS : Fld := ⟨0x20010, 15, 0⟩
/-- CLK_PTP_CFG.EN (RWL, R309). -/
def CLK_PTP_CFG_EN : Fld := ⟨0x20020, 31, 31⟩
/-- CLK_PTP_CFG.SRC (RWL, R309). -/
def CLK_PTP_CFG_SRC : Fld := ⟨0x20020, 30, 30⟩
/-- CLK_PTP_CFG.DOMAIN (RWL, R309). -/
def CLK_PTP_CFG_DOMAIN : Fld := ⟨0x20020, 23, 16⟩
/-- CLK_PTP_CFG.PORTS (RWL, R309). -/
def CLK_PTP_CFG_PORTS : Fld := ⟨0x20020, 11, 8⟩
/-- CLK_PTP_CFG.STEP_US (RWL, R309). -/
def CLK_PTP_CFG_STEP_US : Fld := ⟨0x20020, 7, 0⟩
/-- CLK_PTP_STAT.LOCKED (RO, R309). -/
def CLK_PTP_STAT_LOCKED : Fld := ⟨0x20024, 31, 31⟩
/-- CLK_PTP_STAT.STEPPED (W1C, R309). -/
def CLK_PTP_STAT_STEPPED : Fld := ⟨0x20024, 30, 30⟩
/-- CLK_PTP_STAT.HOLDOVER (RO, R309). -/
def CLK_PTP_STAT_HOLDOVER : Fld := ⟨0x20024, 29, 29⟩
/-- CLK_PTP_STAT.PORT (RO, R309). -/
def CLK_PTP_STAT_PORT : Fld := ⟨0x20024, 27, 24⟩
/-- CLK_PTP_STAT.SINCE_S (RO, R309). -/
def CLK_PTP_STAT_SINCE_S : Fld := ⟨0x20024, 15, 0⟩
/-- CLK_PTP_OFFSET.OFFSET (RO, R309). -/
def CLK_PTP_OFFSET_OFFSET : Fld := ⟨0x20028, 31, 0⟩
/-- CLK_TIME_LO.TIME_LO (RO, R309). -/
def CLK_TIME_LO_TIME_LO : Fld := ⟨0x20030, 31, 0⟩
/-- CLK_TIME_HI.TIME_HI (RO, R309). -/
def CLK_TIME_HI_TIME_HI : Fld := ⟨0x20034, 31, 0⟩
/-- CLK_PPS.OUT_EN (RWL, R309). -/
def CLK_PPS_OUT_EN : Fld := ⟨0x20038, 31, 31⟩
/-- CLK_PPS.WIDTH_MS (RWL, R309). -/
def CLK_PPS_WIDTH_MS : Fld := ⟨0x20038, 9, 0⟩
/-- SPC_CFG.TAMB_C (RWL, R277). -/
def SPC_CFG_TAMB_C : Fld := ⟨0x30000, 31, 24⟩
/-- SPC_CFG.JOIN_WAIT_MS (RWL, R277). -/
def SPC_CFG_JOIN_WAIT_MS : Fld := ⟨0x30000, 23, 16⟩
/-- SPC_CFG.RAMP_PAR (RWL, R277). -/
def SPC_CFG_RAMP_PAR : Fld := ⟨0x30000, 11, 8⟩
/-- SPC_CFG.PRES_DB_MS (RWL, R277). -/
def SPC_CFG_PRES_DB_MS : Fld := ⟨0x30000, 7, 0⟩
/-- SPC_CFG1.INS_DELAY_MS (RWL, R277). -/
def SPC_CFG1_INS_DELAY_MS : Fld := ⟨0x30004, 31, 16⟩
/-- SPC_CFG1.RAMP_MAX_MS (RWL, R277). -/
def SPC_CFG1_RAMP_MAX_MS : Fld := ⟨0x30004, 15, 0⟩
/-- SPC_WIN.VMAX_MV (RWL, R277). -/
def SPC_WIN_VMAX_MV : Fld := ⟨0x30008, 31, 16⟩
/-- SPC_WIN.VMIN_MV (RWL, R277). -/
def SPC_WIN_VMIN_MV : Fld := ⟨0x30008, 15, 0⟩
/-- SPC_MODEL0.R1 (RWB, R277). -/
def SPC_MODEL0_R1 : Fld := ⟨0x3000C, 31, 16⟩
/-- SPC_MODEL0.TAU1 (RWB, R277). -/
def SPC_MODEL0_TAU1 : Fld := ⟨0x3000C, 15, 0⟩
/-- SPC_MODEL1.R2 (RWB, R277). -/
def SPC_MODEL1_R2 : Fld := ⟨0x30010, 31, 16⟩
/-- SPC_MODEL1.TAU2 (RWB, R277). -/
def SPC_MODEL1_TAU2 : Fld := ⟨0x30010, 15, 0⟩
/-- SPC_MODEL2.TRIP_C (RWB, R277). -/
def SPC_MODEL2_TRIP_C : Fld := ⟨0x30014, 31, 24⟩
/-- SPC_MODEL2.RESUME_C (RWB, R277). -/
def SPC_MODEL2_RESUME_C : Fld := ⟨0x30014, 23, 16⟩
/-- SPC_MODEL2.RDSON (RWB, R277). -/
def SPC_MODEL2_RDSON : Fld := ⟨0x30014, 15, 0⟩
/-- SPC_STAT.VIN_OK (RO, R277). -/
def SPC_STAT_VIN_OK : Fld := ⟨0x30018, 31, 31⟩
/-- SPC_STAT.SEQ_RUN (RO, R277). -/
def SPC_STAT_SEQ_RUN : Fld := ⟨0x30018, 30, 30⟩
/-- SPC_STAT.PG (RO, R277). -/
def SPC_STAT_PG : Fld := ⟨0x30018, 23, 0⟩
/-- SPC_VIN.DIE_C (RO, R277). -/
def SPC_VIN_DIE_C : Fld := ⟨0x3001C, 31, 24⟩
/-- SPC_VIN.RAMPING (RO, R277). -/
def SPC_VIN_RAMPING : Fld := ⟨0x3001C, 23, 16⟩
/-- SPC_VIN.VIN_MV (RO, R277). -/
def SPC_VIN_VIN_MV : Fld := ⟨0x3001C, 15, 0⟩
/-- SPC_SLOT_CFG.EN (RWL, R277). -/
def SPC_SLOT_CFG_EN (i : Nat) : Fld := ⟨0x30100 + 0x20 * i, 31, 31⟩
/-- SPC_SLOT_CFG.AUTO_INS (RWL, R277). -/
def SPC_SLOT_CFG_AUTO_INS (i : Nat) : Fld := ⟨0x30100 + 0x20 * i, 30, 30⟩
/-- SPC_SLOT_CFG.BREAKER (RWL, R277). -/
def SPC_SLOT_CFG_BREAKER (i : Nat) : Fld := ⟨0x30100 + 0x20 * i, 23, 16⟩
/-- SPC_SLOT_CFG.INRUSH (RWL, R277). -/
def SPC_SLOT_CFG_INRUSH (i : Nat) : Fld := ⟨0x30100 + 0x20 * i, 15, 8⟩
/-- SPC_SLOT_CFG.SLEW (RWL, R277). -/
def SPC_SLOT_CFG_SLEW (i : Nat) : Fld := ⟨0x30100 + 0x20 * i, 7, 0⟩
/-- SPC_SLOT_STAT.STATE (RO, R277). -/
def SPC_SLOT_STAT_STATE (i : Nat) : Fld := ⟨0x30104 + 0x20 * i, 31, 28⟩
/-- SPC_SLOT_STAT.PRESENT (RO, R277). -/
def SPC_SLOT_STAT_PRESENT (i : Nat) : Fld := ⟨0x30104 + 0x20 * i, 27, 27⟩
/-- SPC_SLOT_STAT.PRES_RAW (RO, R277). -/
def SPC_SLOT_STAT_PRES_RAW (i : Nat) : Fld := ⟨0x30104 + 0x20 * i, 26, 26⟩
/-- SPC_SLOT_STAT.PG (RO, R277). -/
def SPC_SLOT_STAT_PG (i : Nat) : Fld := ⟨0x30104 + 0x20 * i, 25, 25⟩
/-- SPC_SLOT_STAT.JOINED (RO, R277). -/
def SPC_SLOT_STAT_JOINED (i : Nat) : Fld := ⟨0x30104 + 0x20 * i, 24, 24⟩
/-- SPC_SLOT_STAT.CAUSE (RO, R277). -/
def SPC_SLOT_STAT_CAUSE (i : Nat) : Fld := ⟨0x30104 + 0x20 * i, 23, 20⟩
/-- SPC_SLOT_STAT.REPEAT (RO, R277). -/
def SPC_SLOT_STAT_REPEAT (i : Nat) : Fld := ⟨0x30104 + 0x20 * i, 19, 16⟩
/-- SPC_SLOT_STAT.RESEAT (W1C, R277). -/
def SPC_SLOT_STAT_RESEAT (i : Nat) : Fld := ⟨0x30104 + 0x20 * i, 15, 15⟩
/-- SPC_SLOT_STAT.REV (W1C, R277). -/
def SPC_SLOT_STAT_REV (i : Nat) : Fld := ⟨0x30104 + 0x20 * i, 14, 14⟩
/-- SPC_SLOT_STAT.RETRY_S (RO, R277). -/
def SPC_SLOT_STAT_RETRY_S (i : Nat) : Fld := ⟨0x30104 + 0x20 * i, 13, 0⟩
/-- SPC_SLOT_MEAS.VOUT_MV (RO, R277). -/
def SPC_SLOT_MEAS_VOUT_MV (i : Nat) : Fld := ⟨0x30108 + 0x20 * i, 31, 16⟩
/-- SPC_SLOT_MEAS.IOUT_MA (RO, R277). -/
def SPC_SLOT_MEAS_IOUT_MA (i : Nat) : Fld := ⟨0x30108 + 0x20 * i, 15, 0⟩
/-- SPC_SLOT_TEMP.TJ_RB (RO, R277). -/
def SPC_SLOT_TEMP_TJ_RB (i : Nat) : Fld := ⟨0x3010C + 0x20 * i, 31, 16⟩
/-- SPC_SLOT_TEMP.TJ_HS (RO, R277). -/
def SPC_SLOT_TEMP_TJ_HS (i : Nat) : Fld := ⟨0x3010C + 0x20 * i, 15, 0⟩
/-- SPC_SLOT_CMD.OP (WO, R277). -/
def SPC_SLOT_CMD_OP (i : Nat) : Fld := ⟨0x30110 + 0x20 * i, 3, 0⟩
/-- SPC_SLOT_CNT.TRIPS (RC, R277). -/
def SPC_SLOT_CNT_TRIPS (i : Nat) : Fld := ⟨0x30114 + 0x20 * i, 31, 16⟩
/-- SPC_SLOT_CNT.RESEATS (RC, R277). -/
def SPC_SLOT_CNT_RESEATS (i : Nat) : Fld := ⟨0x30114 + 0x20 * i, 15, 8⟩
/-- THM_CFG.QUIET_S (RWL, R354). -/
def THM_CFG_QUIET_S : Fld := ⟨0x40000, 31, 16⟩
/-- THM_CFG.RECOV_MAX (RWL, R354). -/
def THM_CFG_RECOV_MAX : Fld := ⟨0x40000, 15, 8⟩
/-- THM_CFG.REC_RATE (RWL, R354). -/
def THM_CFG_REC_RATE : Fld := ⟨0x40000, 7, 0⟩
/-- THM_STAT.FAULT (RO, R354). -/
def THM_STAT_FAULT : Fld := ⟨0x40004, 31, 31⟩
/-- THM_STAT.FENCED (RO, R354). -/
def THM_STAT_FENCED : Fld := ⟨0x40004, 15, 8⟩
/-- THM_STAT.PERMANENT (RO, R354). -/
def THM_STAT_PERMANENT : Fld := ⟨0x40004, 7, 0⟩
/-- THM_LAST.SOURCE (RO, R354). -/
def THM_LAST_SOURCE : Fld := ⟨0x40008, 31, 20⟩
/-- THM_LAST.SEVERITY (RO, R354). -/
def THM_LAST_SEVERITY : Fld := ⟨0x40008, 19, 16⟩
/-- THM_LAST.REACTION (RO, R354). -/
def THM_LAST_REACTION : Fld := ⟨0x40008, 15, 12⟩
/-- THM_SRC_SEL.ID (RW, R354). -/
def THM_SRC_SEL_ID : Fld := ⟨0x40010, 11, 0⟩
/-- THM_SRC_STAT.STATE (RO, R354). -/
def THM_SRC_STAT_STATE : Fld := ⟨0x40014, 31, 30⟩
/-- THM_SRC_STAT.COUNT (RO, R354). -/
def THM_SRC_STAT_COUNT : Fld := ⟨0x40014, 23, 16⟩
/-- THM_SRC_STAT.RECOV (RO, R354). -/
def THM_SRC_STAT_RECOV : Fld := ⟨0x40014, 15, 8⟩
/-- THM_SRC_STAT.ENTRY (RO, R354). -/
def THM_SRC_STAT_ENTRY : Fld := ⟨0x40014, 7, 0⟩
/-- THM_SRC_QUIET.LEFT_S (RO, R354). -/
def THM_SRC_QUIET_LEFT_S : Fld := ⟨0x40018, 15, 0⟩
/-- THM_CMD.KEY (WO, R354). -/
def THM_CMD_KEY : Fld := ⟨0x4001C, 31, 16⟩
/-- THM_CMD.OP (WO, R354). -/
def THM_CMD_OP : Fld := ⟨0x4001C, 15, 12⟩
/-- THM_CMD.ID (WO, R354). -/
def THM_CMD_ID : Fld := ⟨0x4001C, 11, 0⟩
/-- THM_RT_ID.MASK (RWL, R354). -/
def THM_RT_ID_MASK (i : Nat) : Fld := ⟨0x40100 + 0x8 * i, 27, 16⟩
/-- THM_RT_ID.MATCH (RWL, R354). -/
def THM_RT_ID_MATCH (i : Nat) : Fld := ⟨0x40100 + 0x8 * i, 11, 0⟩
/-- THM_RT_ACT.SEV_ACT (RWL, R354). -/
def THM_RT_ACT_SEV_ACT (i : Nat) : Fld := ⟨0x40104 + 0x8 * i, 31, 28⟩
/-- THM_RT_ACT.EVT_ACT (RWL, R354). -/
def THM_RT_ACT_EVT_ACT (i : Nat) : Fld := ⟨0x40104 + 0x8 * i, 27, 24⟩
/-- THM_RT_ACT.N (RWL, R354). -/
def THM_RT_ACT_N (i : Nat) : Fld := ⟨0x40104 + 0x8 * i, 23, 16⟩
/-- THM_RT_ACT.WINDOW_S (RWL, R354). -/
def THM_RT_ACT_WINDOW_S (i : Nat) : Fld := ⟨0x40104 + 0x8 * i, 15, 0⟩
/-- BBX_NEXT_LO.NEXT (RO, R354). -/
def BBX_NEXT_LO_NEXT : Fld := ⟨0x50000, 31, 0⟩
/-- BBX_NEXT_HI.NEXT (RO, R354). -/
def BBX_NEXT_HI_NEXT : Fld := ⟨0x50004, 31, 0⟩
/-- BBX_STAT.MRAM_OK (RO, R354). -/
def BBX_STAT_MRAM_OK : Fld := ⟨0x50008, 31, 31⟩
/-- BBX_STAT.STAGED (RO, R354). -/
def BBX_STAT_STAGED : Fld := ⟨0x50008, 30, 30⟩
/-- BBX_STAT.SUPPRESSED (RC, R354). -/
def BBX_STAT_SUPPRESSED : Fld := ⟨0x50008, 15, 0⟩
/-- BBX_RD_SEQ_LO.SEQ (RW, R354). -/
def BBX_RD_SEQ_LO_SEQ : Fld := ⟨0x50010, 31, 0⟩
/-- BBX_RD_SEQ_HI.SEQ (RW, R354). -/
def BBX_RD_SEQ_HI_SEQ : Fld := ⟨0x50014, 31, 0⟩
/-- BBX_RD_STAT.READY (RO, R354). -/
def BBX_RD_STAT_READY : Fld := ⟨0x50018, 31, 31⟩
/-- BBX_RD_STAT.RESULT (RO, R354). -/
def BBX_RD_STAT_RESULT : Fld := ⟨0x50018, 30, 29⟩
/-- BBX_RD_DATA.DATA (RO, R354). -/
def BBX_RD_DATA_DATA (i : Nat) : Fld := ⟨0x50040 + 0x4 * i, 31, 0⟩
/-- PMU_CTL.FREEZE (RW, R369). -/
def PMU_CTL_FREEZE : Fld := ⟨0x60000, 31, 31⟩
/-- PMU_CTL.SNAP (WO, R369). -/
def PMU_CTL_SNAP : Fld := ⟨0x60000, 30, 30⟩
/-- PMU_CTL.CLR_ALL (WO, R369). -/
def PMU_CTL_CLR_ALL : Fld := ⟨0x60000, 29, 29⟩
/-- PMU_CTL.OVF_IRQ (RW, R369). -/
def PMU_CTL_OVF_IRQ : Fld := ⟨0x60000, 28, 28⟩
/-- PMU_CTL.SHADOW (RW, R369). -/
def PMU_CTL_SHADOW : Fld := ⟨0x60000, 27, 27⟩
/-- PMU_OVF.OVF (W1C, R369). -/
def PMU_OVF_OVF (i : Nat) : Fld := ⟨0x60010 + 0x4 * i, 31, 0⟩
/-- PMU_SMP_CFG.EN (RW, R369). -/
def PMU_SMP_CFG_EN : Fld := ⟨0x60040, 31, 31⟩
/-- PMU_SMP_CFG.MODE (RWQ, R369). -/
def PMU_SMP_CFG_MODE : Fld := ⟨0x60040, 30, 30⟩
/-- PMU_SMP_CFG.FILT (RWQ, R369). -/
def PMU_SMP_CFG_FILT : Fld := ⟨0x60040, 9, 8⟩
/-- PMU_SMP_CFG.RATE (RWQ, R369). -/
def PMU_SMP_CFG_RATE : Fld := ⟨0x60040, 3, 0⟩
/-- PMU_SMP_HEAD.HEAD (RO, R369). -/
def PMU_SMP_HEAD_HEAD : Fld := ⟨0x60044, 31, 0⟩
/-- PMU_SMP_LOST.LOST (RC, R369). -/
def PMU_SMP_LOST_LOST : Fld := ⟨0x60048, 31, 0⟩
/-- PMU_SMP_RD_SEQ.SEQ (RW, R369). -/
def PMU_SMP_RD_SEQ_SEQ : Fld := ⟨0x6004C, 31, 0⟩
/-- PMU_SMP_RD_STAT.READY (RO, R369). -/
def PMU_SMP_RD_STAT_READY : Fld := ⟨0x60050, 31, 31⟩
/-- PMU_SMP_RD_STAT.RESULT (RO, R369). -/
def PMU_SMP_RD_STAT_RESULT : Fld := ⟨0x60050, 30, 29⟩
/-- PMU_FILT_A.OPCODE (RWQ, R369). -/
def PMU_FILT_A_OPCODE (i : Nat) : Fld := ⟨0x60060 + 0x8 * i, 31, 24⟩
/-- PMU_FILT_A.OPMASK (RWQ, R369). -/
def PMU_FILT_A_OPMASK (i : Nat) : Fld := ⟨0x60060 + 0x8 * i, 23, 16⟩
/-- PMU_FILT_A.ADMIN (RWQ, R369). -/
def PMU_FILT_A_ADMIN (i : Nat) : Fld := ⟨0x60060 + 0x8 * i, 15, 15⟩
/-- PMU_FILT_A.NSID (RWQ, R369). -/
def PMU_FILT_A_NSID (i : Nat) : Fld := ⟨0x60060 + 0x8 * i, 8, 0⟩
/-- PMU_FILT_B.ASSOC_EN (RWQ, R369). -/
def PMU_FILT_B_ASSOC_EN (i : Nat) : Fld := ⟨0x60064 + 0x8 * i, 31, 31⟩
/-- PMU_FILT_B.ASSOC (RWQ, R369). -/
def PMU_FILT_B_ASSOC (i : Nat) : Fld := ⟨0x60064 + 0x8 * i, 25, 16⟩
/-- PMU_FILT_B.MIN_US (RWQ, R369). -/
def PMU_FILT_B_MIN_US (i : Nat) : Fld := ⟨0x60064 + 0x8 * i, 15, 0⟩
/-- PMU_SMP_RD_DATA.DATA (RO, R369). -/
def PMU_SMP_RD_DATA_DATA (i : Nat) : Fld := ⟨0x60080 + 0x4 * i, 31, 0⟩
/-- PMU_HIST_CFG.EN (RW, R369). -/
def PMU_HIST_CFG_EN (i : Nat) : Fld := ⟨0x60400 + 0x4 * i, 31, 31⟩
/-- PMU_HIST_CFG.CLR (WO, R369). -/
def PMU_HIST_CFG_CLR (i : Nat) : Fld := ⟨0x60400 + 0x4 * i, 30, 30⟩
/-- PMU_HIST_CFG.FILT_EN (RWQ, R369). -/
def PMU_HIST_CFG_FILT_EN (i : Nat) : Fld := ⟨0x60400 + 0x4 * i, 29, 29⟩
/-- PMU_HIST_CFG.FILT (RWQ, R369). -/
def PMU_HIST_CFG_FILT (i : Nat) : Fld := ⟨0x60400 + 0x4 * i, 28, 27⟩
/-- PMU_HIST_CFG.UNIT (RWQ, R369). -/
def PMU_HIST_CFG_UNIT (i : Nat) : Fld := ⟨0x60400 + 0x4 * i, 26, 24⟩
/-- PMU_HIST_CFG.SOURCE (RWQ, R369). -/
def PMU_HIST_CFG_SOURCE (i : Nat) : Fld := ⟨0x60400 + 0x4 * i, 23, 16⟩
/-- PMU_HIST_CFG.INST (RWQ, R369). -/
def PMU_HIST_CFG_INST (i : Nat) : Fld := ⟨0x60400 + 0x4 * i, 7, 0⟩
/-- PMU_CTR_CFG.EN (RW, R369). -/
def PMU_CTR_CFG_EN (i : Nat) : Fld := ⟨0x61000 + 0x4 * i, 31, 31⟩
/-- PMU_CTR_CFG.CHAIN (RWQ, R369). -/
def PMU_CTR_CFG_CHAIN (i : Nat) : Fld := ⟨0x61000 + 0x4 * i, 30, 30⟩
/-- PMU_CTR_CFG.MODE (RWQ, R369). -/
def PMU_CTR_CFG_MODE (i : Nat) : Fld := ⟨0x61000 + 0x4 * i, 29, 28⟩
/-- PMU_CTR_CFG.EVENT (RWQ, R369). -/
def PMU_CTR_CFG_EVENT (i : Nat) : Fld := ⟨0x61000 + 0x4 * i, 19, 8⟩
/-- PMU_CTR_CFG.INST (RWQ, R369). -/
def PMU_CTR_CFG_INST (i : Nat) : Fld := ⟨0x61000 + 0x4 * i, 7, 0⟩
/-- PMU_CTR_THR.THRESH (RWQ, R369). -/
def PMU_CTR_THR_THRESH (i : Nat) : Fld := ⟨0x61400 + 0x4 * i, 23, 0⟩
/-- PMU_CTR_LO.LO (RWQ, R369). -/
def PMU_CTR_LO_LO (i : Nat) : Fld := ⟨0x62000 + 0x8 * i, 31, 0⟩
/-- PMU_CTR_HI.HI (RWQ, R369). -/
def PMU_CTR_HI_HI (i : Nat) : Fld := ⟨0x62004 + 0x8 * i, 15, 0⟩
/-- PMU_HIST_BIN.BIN (RO, R369). -/
def PMU_HIST_BIN_BIN (i j : Nat) : Fld := ⟨0x68000 + 0x80 * i + 0x4 * j, 31, 0⟩
/-- MNT_ARB_RUN.DEFERRED (RO, R394). -/
def MNT_ARB_RUN_DEFERRED : Fld := ⟨0x70000, 25, 16⟩
/-- MNT_ARB_RUN.RUNNING (RO, R394). -/
def MNT_ARB_RUN_RUNNING : Fld := ⟨0x70000, 9, 0⟩
/-- MNT_ARB_LAST.VERDICT (RO, R394). -/
def MNT_ARB_LAST_VERDICT : Fld := ⟨0x70004, 31, 28⟩
/-- MNT_ARB_LAST.ARRIVING (RO, R394). -/
def MNT_ARB_LAST_ARRIVING : Fld := ⟨0x70004, 27, 24⟩
/-- MNT_ARB_LAST.RUNNING (RO, R394). -/
def MNT_ARB_LAST_RUNNING : Fld := ⟨0x70004, 23, 20⟩
/-- MNT_ARB_LAST.BED (RO, R394). -/
def MNT_ARB_LAST_BED : Fld := ⟨0x70004, 19, 18⟩
/-- MNT_ACTV.TARGET (RO, R394). -/
def MNT_ACTV_TARGET : Fld := ⟨0x70008, 31, 28⟩
/-- MNT_ACTV.PHASE (RO, R394). -/
def MNT_ACTV_PHASE : Fld := ⟨0x70008, 27, 25⟩
/-- MNT_ACTV.SLOT (RO, R394). -/
def MNT_ACTV_SLOT : Fld := ⟨0x70008, 24, 24⟩
/-- MNT_ACTV.FORCED (RO, R394). -/
def MNT_ACTV_FORCED : Fld := ⟨0x70008, 23, 23⟩
/-- MNT_ACTV.HEALTH_S (RO, R394). -/
def MNT_ACTV_HEALTH_S : Fld := ⟨0x70008, 22, 16⟩
/-- MNT_ACTV.RESULT (RO, R394). -/
def MNT_ACTV_RESULT : Fld := ⟨0x70008, 7, 0⟩
/-- MNT_DIR.TRIAL (RO, R394). -/
def MNT_DIR_TRIAL : Fld := ⟨0x7000C, 24, 16⟩
/-- MNT_DIR.ACTIVE_SLOT (RO, R394). -/
def MNT_DIR_ACTIVE_SLOT : Fld := ⟨0x7000C, 8, 0⟩
/-- MNT_SECVER.FUSED (RO, R394). -/
def MNT_SECVER_FUSED : Fld := ⟨0x70010, 31, 16⟩
/-- MNT_SECVER.RUNNING (RO, R394). -/
def MNT_SECVER_RUNNING : Fld := ⟨0x70010, 15, 0⟩
/-- MNT_CFG.UNCOMMITTED (RO, R394). -/
def MNT_CFG_UNCOMMITTED : Fld := ⟨0x70014, 31, 31⟩
/-- MNT_CFG.SCHEMA_MAJOR (RO, R394). -/
def MNT_CFG_SCHEMA_MAJOR : Fld := ⟨0x70014, 15, 8⟩
/-- MNT_CFG.SCHEMA_MINOR (RO, R394). -/
def MNT_CFG_SCHEMA_MINOR : Fld := ⟨0x70014, 7, 0⟩
/-- MNT_CFG_GEN.GEN (RO, R394). -/
def MNT_CFG_GEN_GEN : Fld := ⟨0x70018, 31, 0⟩
/-- MNT_SVC.SESSIONS (RO, R394). -/
def MNT_SVC_SESSIONS : Fld := ⟨0x7001C, 31, 24⟩
/-- MNT_SVC.BAD_TAG (RC, R394). -/
def MNT_SVC_BAD_TAG : Fld := ⟨0x7001C, 15, 0⟩
/-- NET_CTRL.MAXFRAME (RWQ, R180). -/
def NET_CTRL_MAXFRAME (i : Nat) : Fld := ⟨0x100000 + 0x10000 * i, 29, 16⟩
/-- NET_CTRL.RX_POL (RWQ, R180). -/
def NET_CTRL_RX_POL (i : Nat) : Fld := ⟨0x100000 + 0x10000 * i, 15, 12⟩
/-- NET_CTRL.TX_POL (RWQ, R180). -/
def NET_CTRL_TX_POL (i : Nat) : Fld := ⟨0x100000 + 0x10000 * i, 11, 8⟩
/-- NET_CTRL.LANE_REV (RWQ, R180). -/
def NET_CTRL_LANE_REV (i : Nat) : Fld := ⟨0x100000 + 0x10000 * i, 3, 3⟩
/-- NET_CTRL.LOOPBACK (RWQ, R180). -/
def NET_CTRL_LOOPBACK (i : Nat) : Fld := ⟨0x100000 + 0x10000 * i, 2, 2⟩
/-- NET_CTRL.ENABLE (RW, R180). -/
def NET_CTRL_ENABLE (i : Nat) : Fld := ⟨0x100000 + 0x10000 * i, 0, 0⟩
/-- NET_STAT.FEC_LOCK (RO, R180). -/
def NET_STAT_FEC_LOCK (i : Nat) : Fld := ⟨0x100004 + 0x10000 * i, 7, 4⟩
/-- NET_STAT.HOLD (RO, R180). -/
def NET_STAT_HOLD (i : Nat) : Fld := ⟨0x100004 + 0x10000 * i, 2, 2⟩
/-- NET_STAT.LINK_UP (RO, R180). -/
def NET_STAT_LINK_UP (i : Nat) : Fld := ⟨0x100004 + 0x10000 * i, 1, 1⟩
/-- NET_STAT.POWERED (RO, R180). -/
def NET_STAT_POWERED (i : Nat) : Fld := ⟨0x100004 + 0x10000 * i, 0, 0⟩
/-- NET_CLASS.PFC_EN (RWQ, R180). -/
def NET_CLASS_PFC_EN (i : Nat) : Fld := ⟨0x100008 + 0x10000 * i, 8, 8⟩
/-- NET_CLASS.LOSSLESS (RWQ, R180). -/
def NET_CLASS_LOSSLESS (i : Nat) : Fld := ⟨0x100008 + 0x10000 * i, 7, 0⟩
/-- NET_PCPMAP.MAP (RWQ, R180). -/
def NET_PCPMAP_MAP (i : Nat) : Fld := ⟨0x10000C + 0x10000 * i, 23, 0⟩
/-- NET_DSCPMAP.MAP (RWQ, R180). -/
def NET_DSCPMAP_MAP (i j : Nat) : Fld := ⟨0x100010 + 0x10000 * i + 0x4 * j, 23, 0⟩
/-- NET_PFC.HEADROOM (RWQ, R180). -/
def NET_PFC_HEADROOM (i : Nat) : Fld := ⟨0x100030 + 0x10000 * i, 31, 16⟩
/-- NET_PFC.XOFF (RWQ, R180). -/
def NET_PFC_XOFF (i : Nat) : Fld := ⟨0x100030 + 0x10000 * i, 15, 0⟩
/-- NET_ECN.ECN_EN (RWL, R180). -/
def NET_ECN_ECN_EN (i : Nat) : Fld := ⟨0x100034 + 0x10000 * i, 16, 16⟩
/-- NET_ECN.THRESH (RWL, R180). -/
def NET_ECN_THRESH (i : Nat) : Fld := ⟨0x100034 + 0x10000 * i, 15, 0⟩
/-- NET_CNT.COUNT (RC, R180). -/
def NET_CNT_COUNT (i j : Nat) : Fld := ⟨0x100040 + 0x10000 * i + 0x4 * j, 31, 0⟩
/-- BSN_CFG.PAUSE_WD (RWL, R180). -/
def BSN_CFG_PAUSE_WD : Fld := ⟨0x180000, 15, 8⟩
/-- BSN_CFG.CT_EN (RWL, R180). -/
def BSN_CFG_CT_EN : Fld := ⟨0x180000, 0, 0⟩
/-- BSN_POOL.FREE (RO, R180). -/
def BSN_POOL_FREE : Fld := ⟨0x180004, 17, 0⟩
/-- BSN_BANK.FENCED (RO, R180). -/
def BSN_BANK_FENCED : Fld := ⟨0x180008, 15, 8⟩
/-- BSN_BANK.ON (RO, R180). -/
def BSN_BANK_ON : Fld := ⟨0x180008, 7, 0⟩
/-- BSN_RING.ENABLE (RWB, R180). -/
def BSN_RING_ENABLE : Fld := ⟨0x180010, 23, 23⟩
/-- BSN_RING.MEL (RWB, R180). -/
def BSN_RING_MEL : Fld := ⟨0x180010, 22, 20⟩
/-- BSN_RING.RING_ID (RWB, R180). -/
def BSN_RING_RING_ID : Fld := ⟨0x180010, 19, 12⟩
/-- BSN_RING.RAPS_VID (RWB, R180). -/
def BSN_RING_RAPS_VID : Fld := ⟨0x180010, 11, 0⟩
/-- BSN_RINGT.HOLDOFF_MS (RWL, R180). -/
def BSN_RINGT_HOLDOFF_MS : Fld := ⟨0x180014, 31, 16⟩
/-- BSN_RINGT.GUARD_MS (RWL, R180). -/
def BSN_RINGT_GUARD_MS : Fld := ⟨0x180014, 15, 0⟩
/-- BSN_RINGSTAT.NODE (RO, R180). -/
def BSN_RINGSTAT_NODE : Fld := ⟨0x180018, 7, 4⟩
/-- BSN_RINGSTAT.N1_STATE (RO, R180). -/
def BSN_RINGSTAT_N1_STATE : Fld := ⟨0x180018, 3, 2⟩
/-- BSN_RINGSTAT.N0_STATE (RO, R180). -/
def BSN_RINGSTAT_N0_STATE : Fld := ⟨0x180018, 1, 0⟩
/-- BSN_CAP_CFG.EN (RWL, R180). -/
def BSN_CAP_CFG_EN : Fld := ⟨0x180020, 31, 31⟩
/-- BSN_CAP_CFG.MODE (RWQ, R180). -/
def BSN_CAP_CFG_MODE : Fld := ⟨0x180020, 30, 30⟩
/-- BSN_CAP_CFG.SIZE_MIB (RWQ, R180). -/
def BSN_CAP_CFG_SIZE_MIB : Fld := ⟨0x180020, 8, 0⟩
/-- BSN_CAP_HEAD.WRITTEN (RO, R180). -/
def BSN_CAP_HEAD_WRITTEN : Fld := ⟨0x180024, 31, 0⟩
/-- BSN_CAP_LOST.LOST (RC, R180). -/
def BSN_CAP_LOST_LOST : Fld := ⟨0x180028, 31, 0⟩
/-- BSN_CAPF.EN (RWL, R180). -/
def BSN_CAPF_EN (i : Nat) : Fld := ⟨0x180040 + 0x4 * i, 31, 31⟩
/-- BSN_CAPF.DROPS_ONLY (RWL, R180). -/
def BSN_CAPF_DROPS_ONLY (i : Nat) : Fld := ⟨0x180040 + 0x4 * i, 28, 28⟩
/-- BSN_CAPF.RATE (RWL, R180). -/
def BSN_CAPF_RATE (i : Nat) : Fld := ⟨0x180040 + 0x4 * i, 27, 24⟩
/-- BSN_CAPF.CLASSES (RWL, R180). -/
def BSN_CAPF_CLASSES (i : Nat) : Fld := ⟨0x180040 + 0x4 * i, 23, 16⟩
/-- BSN_CAPF.DIR (RWL, R180). -/
def BSN_CAPF_DIR (i : Nat) : Fld := ⟨0x180040 + 0x4 * i, 9, 8⟩
/-- BSN_CAPF.PORTS (RWL, R180). -/
def BSN_CAPF_PORTS (i : Nat) : Fld := ⟨0x180040 + 0x4 * i, 7, 0⟩
/-- BSN_LADDR_LO.MAC_LO (RO, R180). -/
def BSN_LADDR_LO_MAC_LO (i : Nat) : Fld := ⟨0x180080 + 0x8 * i, 31, 0⟩
/-- BSN_LADDR_HI.VALID (RO, R180). -/
def BSN_LADDR_HI_VALID (i : Nat) : Fld := ⟨0x180084 + 0x8 * i, 31, 31⟩
/-- BSN_LADDR_HI.TAKEN (RO, R180). -/
def BSN_LADDR_HI_TAKEN (i : Nat) : Fld := ⟨0x180084 + 0x8 * i, 30, 30⟩
/-- BSN_LADDR_HI.VID (RO, R180). -/
def BSN_LADDR_HI_VID (i : Nat) : Fld := ⟨0x180084 + 0x8 * i, 27, 16⟩
/-- BSN_LADDR_HI.MAC_HI (RO, R180). -/
def BSN_LADDR_HI_MAC_HI (i : Nat) : Fld := ⟨0x180084 + 0x8 * i, 15, 0⟩
/-- WEIR_CFG.POL_EN (RWL, R216). -/
def WEIR_CFG_POL_EN : Fld := ⟨0x1C0000, 0, 0⟩
/-- WEIR_SMP_CFG.EN (RWL, R216). -/
def WEIR_SMP_CFG_EN : Fld := ⟨0x1C0004, 31, 31⟩
/-- WEIR_SMP_CFG.PERIOD_US (RWL, R216). -/
def WEIR_SMP_CFG_PERIOD_US : Fld := ⟨0x1C0004, 15, 0⟩
/-- WEIR_POL_TOTAL.EXCEED (RC, R216). -/
def WEIR_POL_TOTAL_EXCEED : Fld := ⟨0x1C0008, 31, 0⟩
/-- WEIR_SCHED.WRR (RWL, R216). -/
def WEIR_SCHED_WRR (i : Nat) : Fld := ⟨0x1C1000 + 0x1000 * i, 7, 0⟩
/-- WEIR_WEIGHT.WEIGHT0 (RWL, R216). -/
def WEIR_WEIGHT_WEIGHT0 (i : Nat) : Fld := ⟨0x1C1004 + 0x1000 * i, 3, 0⟩
/-- WEIR_WEIGHT.WEIGHT1 (RWL, R216). -/
def WEIR_WEIGHT_WEIGHT1 (i : Nat) : Fld := ⟨0x1C1004 + 0x1000 * i, 7, 4⟩
/-- WEIR_WEIGHT.WEIGHT2 (RWL, R216). -/
def WEIR_WEIGHT_WEIGHT2 (i : Nat) : Fld := ⟨0x1C1004 + 0x1000 * i, 11, 8⟩
/-- WEIR_WEIGHT.WEIGHT3 (RWL, R216). -/
def WEIR_WEIGHT_WEIGHT3 (i : Nat) : Fld := ⟨0x1C1004 + 0x1000 * i, 15, 12⟩
/-- WEIR_WEIGHT.WEIGHT4 (RWL, R216). -/
def WEIR_WEIGHT_WEIGHT4 (i : Nat) : Fld := ⟨0x1C1004 + 0x1000 * i, 19, 16⟩
/-- WEIR_WEIGHT.WEIGHT5 (RWL, R216). -/
def WEIR_WEIGHT_WEIGHT5 (i : Nat) : Fld := ⟨0x1C1004 + 0x1000 * i, 23, 20⟩
/-- WEIR_WEIGHT.WEIGHT6 (RWL, R216). -/
def WEIR_WEIGHT_WEIGHT6 (i : Nat) : Fld := ⟨0x1C1004 + 0x1000 * i, 27, 24⟩
/-- WEIR_WEIGHT.WEIGHT7 (RWL, R216). -/
def WEIR_WEIGHT_WEIGHT7 (i : Nat) : Fld := ⟨0x1C1004 + 0x1000 * i, 31, 28⟩
/-- WEIR_SHP_RATE.RATE (RWL, R216). -/
def WEIR_SHP_RATE_RATE (i j : Nat) : Fld := ⟨0x1C1010 + 0x1000 * i + 0x8 * j, 18, 0⟩
/-- WEIR_SHP_BURST.BURST (RWL, R216). -/
def WEIR_SHP_BURST_BURST (i j : Nat) : Fld := ⟨0x1C1014 + 0x1000 * i + 0x8 * j, 14, 0⟩
/-- WEIR_GCL_CTL.ENABLE (RWL, R216). -/
def WEIR_GCL_CTL_ENABLE (i : Nat) : Fld := ⟨0x1C1080 + 0x1000 * i, 31, 31⟩
/-- WEIR_GCL_CTL.COMMIT (WO, R216). -/
def WEIR_GCL_CTL_COMMIT (i : Nat) : Fld := ⟨0x1C1080 + 0x1000 * i, 30, 30⟩
/-- WEIR_GCL_CTL.COMMIT_CANCEL (WO, R216). -/
def WEIR_GCL_CTL_COMMIT_CANCEL (i : Nat) : Fld := ⟨0x1C1080 + 0x1000 * i, 29, 29⟩
/-- WEIR_GCL_CTL.LEN (RWQ, R216). -/
def WEIR_GCL_CTL_LEN (i : Nat) : Fld := ⟨0x1C1080 + 0x1000 * i, 6, 0⟩
/-- WEIR_GCL_BASE_LO.BASE_LO (RWQ, R216). -/
def WEIR_GCL_BASE_LO_BASE_LO (i : Nat) : Fld := ⟨0x1C1084 + 0x1000 * i, 31, 0⟩
/-- WEIR_GCL_BASE_HI.BASE_HI (RWQ, R216). -/
def WEIR_GCL_BASE_HI_BASE_HI (i : Nat) : Fld := ⟨0x1C1088 + 0x1000 * i, 31, 0⟩
/-- WEIR_GCL_CYCLE.CYCLE (RWQ, R216). -/
def WEIR_GCL_CYCLE_CYCLE (i : Nat) : Fld := ⟨0x1C108C + 0x1000 * i, 31, 0⟩
/-- WEIR_GCL_STAT.PENDING (RO, R216). -/
def WEIR_GCL_STAT_PENDING (i : Nat) : Fld := ⟨0x1C1090 + 0x1000 * i, 31, 31⟩
/-- WEIR_GCL_STAT.RUNNING (RO, R216). -/
def WEIR_GCL_STAT_RUNNING (i : Nat) : Fld := ⟨0x1C1090 + 0x1000 * i, 30, 30⟩
/-- WEIR_GCL_STAT.LATE (W1C, R216). -/
def WEIR_GCL_STAT_LATE (i : Nat) : Fld := ⟨0x1C1090 + 0x1000 * i, 29, 29⟩
/-- WEIR_GCL_STAT.STEPPED (W1C, R216). -/
def WEIR_GCL_STAT_STEPPED (i : Nat) : Fld := ⟨0x1C1090 + 0x1000 * i, 28, 28⟩
/-- WEIR_GCL_STAT.UNLOCKED (RO, R216). -/
def WEIR_GCL_STAT_UNLOCKED (i : Nat) : Fld := ⟨0x1C1090 + 0x1000 * i, 27, 27⟩
/-- WEIR_GCL_STAT.OPER_ENTRY (RO, R216). -/
def WEIR_GCL_STAT_OPER_ENTRY (i : Nat) : Fld := ⟨0x1C1090 + 0x1000 * i, 21, 16⟩
/-- WEIR_GCL_STAT.OVERRUN (RC, R216). -/
def WEIR_GCL_STAT_OVERRUN (i : Nat) : Fld := ⟨0x1C1090 + 0x1000 * i, 15, 0⟩
/-- WEIR_GCL_START_LO.S_LO (RO, R216). -/
def WEIR_GCL_START_LO_S_LO (i : Nat) : Fld := ⟨0x1C1094 + 0x1000 * i, 31, 0⟩
/-- WEIR_GCL_START_HI.S_HI (RO, R216). -/
def WEIR_GCL_START_HI_S_HI (i : Nat) : Fld := ⟨0x1C1098 + 0x1000 * i, 31, 0⟩
/-- WEIR_QDEP.MAX (RC, R216). -/
def WEIR_QDEP_MAX (i j : Nat) : Fld := ⟨0x1C1100 + 0x1000 * i + 0x8 * j, 31, 16⟩
/-- WEIR_QDEP.LAST (RO, R216). -/
def WEIR_QDEP_LAST (i j : Nat) : Fld := ⟨0x1C1100 + 0x1000 * i + 0x8 * j, 15, 0⟩
/-- WEIR_QDLY.MAX (RC, R216). -/
def WEIR_QDLY_MAX (i j : Nat) : Fld := ⟨0x1C1104 + 0x1000 * i + 0x8 * j, 31, 16⟩
/-- WEIR_QDLY.LAST (RO, R216). -/
def WEIR_QDLY_LAST (i j : Nat) : Fld := ⟨0x1C1104 + 0x1000 * i + 0x8 * j, 15, 0⟩
/-- WEIR_GCL_ADMIN.GATES (RWQ, R216). -/
def WEIR_GCL_ADMIN_GATES (i j : Nat) : Fld := ⟨0x1C1400 + 0x1000 * i + 0x4 * j, 31, 24⟩
/-- WEIR_GCL_ADMIN.INTERVAL (RWQ, R216). -/
def WEIR_GCL_ADMIN_INTERVAL (i j : Nat) : Fld := ⟨0x1C1400 + 0x1000 * i + 0x4 * j, 23, 0⟩
/-- WEIR_GCL_OPER.GATES (RO, R216). -/
def WEIR_GCL_OPER_GATES (i j : Nat) : Fld := ⟨0x1C1600 + 0x1000 * i + 0x4 * j, 31, 24⟩
/-- WEIR_GCL_OPER.INTERVAL (RO, R216). -/
def WEIR_GCL_OPER_INTERVAL (i j : Nat) : Fld := ⟨0x1C1600 + 0x1000 * i + 0x4 * j, 23, 0⟩
/-- WEIR_POL_RATE.ACTION (RWL, R216). -/
def WEIR_POL_RATE_ACTION (i : Nat) : Fld := ⟨0x1C8000 + 0x8 * i, 31, 31⟩
/-- WEIR_POL_RATE.RATE (RWL, R216). -/
def WEIR_POL_RATE_RATE (i : Nat) : Fld := ⟨0x1C8000 + 0x8 * i, 18, 0⟩
/-- WEIR_POL_BURST.BURST (RWL, R216). -/
def WEIR_POL_BURST_BURST (i : Nat) : Fld := ⟨0x1C8004 + 0x8 * i, 14, 0⟩
/-- WEIR_POL_EXC.EXC (RC, R216). -/
def WEIR_POL_EXC_EXC (i : Nat) : Fld := ⟨0x1D0000 + 0x4 * i, 31, 0⟩
/-- SLU_CFG.GAP_MIN_US (RWL, R204). -/
def SLU_CFG_GAP_MIN_US : Fld := ⟨0x200000, 31, 24⟩
/-- SLU_CFG.HOLD_KCELLS (RWL, R204). -/
def SLU_CFG_HOLD_KCELLS : Fld := ⟨0x200000, 23, 16⟩
/-- SLU_CFG.CC_STEP (RWL, R204). -/
def SLU_CFG_CC_STEP : Fld := ⟨0x200000, 15, 12⟩
/-- SLU_CFG.SPRAY_PATHS (RWL, R204). -/
def SLU_CFG_SPRAY_PATHS : Fld := ⟨0x200000, 9, 8⟩
/-- SLU_CFG.SPRAY_EN (RWL, R204). -/
def SLU_CFG_SPRAY_EN : Fld := ⟨0x200000, 1, 1⟩
/-- SLU_CFG.CNP_EN (RWL, R204). -/
def SLU_CFG_CNP_EN : Fld := ⟨0x200000, 0, 0⟩
/-- SLU_RETRY.TIMEOUT (RWL, R204). -/
def SLU_RETRY_TIMEOUT : Fld := ⟨0x200004, 20, 16⟩
/-- SLU_RETRY.RETRY_CNT (RWL, R204). -/
def SLU_RETRY_RETRY_CNT : Fld := ⟨0x200004, 10, 8⟩
/-- SLU_RETRY.RNR_RETRY (RWL, R204). -/
def SLU_RETRY_RNR_RETRY : Fld := ⟨0x200004, 2, 0⟩
/-- SLU_QP_STAT.IN_USE (RO, R204). -/
def SLU_QP_STAT_IN_USE : Fld := ⟨0x200008, 28, 16⟩
/-- SLU_QP_STAT.SPRAYING (RO, R204). -/
def SLU_QP_STAT_SPRAYING : Fld := ⟨0x200008, 12, 0⟩
/-- SLU_HALF.FENCED (RO, R204). -/
def SLU_HALF_FENCED : Fld := ⟨0x20000C, 9, 8⟩
/-- SLU_HALF.ON (RO, R204). -/
def SLU_HALF_ON : Fld := ⟨0x20000C, 1, 0⟩
/-- SLU_WIN_CFG.EN (RWL, R204). -/
def SLU_WIN_CFG_EN : Fld := ⟨0x200010, 31, 31⟩
/-- SLU_WIN_CFG.SIZE_MIB (RWQ, R204). -/
def SLU_WIN_CFG_SIZE_MIB : Fld := ⟨0x200010, 13, 8⟩
/-- SLU_WIN_CFG.POOL_GIB (RWQ, R204). -/
def SLU_WIN_CFG_POOL_GIB : Fld := ⟨0x200010, 5, 0⟩
/-- SLU_WIN_STAT.REGISTERED (RO, R204). -/
def SLU_WIN_STAT_REGISTERED : Fld := ⟨0x200014, 26, 16⟩
/-- SLU_WIN_STAT.REVOKING (RO, R204). -/
def SLU_WIN_STAT_REVOKING : Fld := ⟨0x200014, 10, 0⟩
/-- SLU_TRIG_STAT.POSTED (RO, R204). -/
def SLU_TRIG_STAT_POSTED : Fld := ⟨0x200018, 30, 16⟩
/-- SLU_TRIG_STAT.FIRED (RC, R204). -/
def SLU_TRIG_STAT_FIRED : Fld := ⟨0x200018, 15, 0⟩
/-- SLU_ACCV_LAST.QP_INDEX (RO, R204). -/
def SLU_ACCV_LAST_QP_INDEX : Fld := ⟨0x20001C, 27, 16⟩
/-- SLU_ACCV_LAST.CAUSE (RO, R204). -/
def SLU_ACCV_LAST_CAUSE : Fld := ⟨0x20001C, 7, 0⟩
/-- SLU_CNT.COUNT (RC, R204). -/
def SLU_CNT_COUNT (i : Nat) : Fld := ⟨0x200040 + 0x4 * i, 31, 0⟩
/-- CMD_SLOT_STAT.IN_USE (RO, R53). -/
def CMD_SLOT_STAT_IN_USE : Fld := ⟨0x300000, 16, 0⟩
/-- CMD_SLOT_SHARED.SHARED (RO, R53). -/
def CMD_SLOT_SHARED_SHARED : Fld := ⟨0x300004, 16, 0⟩
/-- CMD_QUEUE_STAT.ASSOC (RO, R53). -/
def CMD_QUEUE_STAT_ASSOC : Fld := ⟨0x300008, 26, 16⟩
/-- CMD_QUEUE_STAT.QUEUES (RO, R53). -/
def CMD_QUEUE_STAT_QUEUES : Fld := ⟨0x300008, 12, 0⟩
/-- CMD_PARK_STAT.PARKED (RO, R53). -/
def CMD_PARK_STAT_PARKED : Fld := ⟨0x30000C, 16, 0⟩
/-- CMD_CFG.DST_GAP (RWL, R53). -/
def CMD_CFG_DST_GAP : Fld := ⟨0x300010, 23, 16⟩
/-- CMD_CFG.QCAP (RWQ, R53). -/
def CMD_CFG_QCAP : Fld := ⟨0x300010, 10, 0⟩
/-- CMD_DST_STAT.RUNNING (RO, R53). -/
def CMD_DST_STAT_RUNNING : Fld := ⟨0x300014, 31, 31⟩
/-- CMD_DST_STAT.PAUSED (RO, R53). -/
def CMD_DST_STAT_PAUSED : Fld := ⟨0x300014, 30, 30⟩
/-- CMD_DST_STAT.TYPE (RO, R53). -/
def CMD_DST_STAT_TYPE : Fld := ⟨0x300014, 29, 28⟩
/-- CMD_DST_STAT.STEP (RO, R53). -/
def CMD_DST_STAT_STEP : Fld := ⟨0x300014, 19, 16⟩
/-- CMD_DST_STAT.PERCENT (RO, R53). -/
def CMD_DST_STAT_PERCENT : Fld := ⟨0x300014, 6, 0⟩
/-- CMD_ABORT_STAT.CAUGHT (RC, R53). -/
def CMD_ABORT_STAT_CAUGHT : Fld := ⟨0x300018, 31, 16⟩
/-- CMD_ABORT_STAT.MISSED (RC, R53). -/
def CMD_ABORT_STAT_MISSED : Fld := ⟨0x300018, 15, 0⟩
/-- OBJ_CFG.IDX_CACHE (RWL, R72). -/
def OBJ_CFG_IDX_CACHE : Fld := ⟨0x380000, 7, 0⟩
/-- OBJ_IDX_HIT.HIT (RC, R72). -/
def OBJ_IDX_HIT_HIT : Fld := ⟨0x380004, 31, 0⟩
/-- OBJ_IDX_MISS.MISS (RC, R72). -/
def OBJ_IDX_MISS_MISS : Fld := ⟨0x380008, 31, 0⟩
/-- OBJ_REPLAY.APPLIED (RO, R72). -/
def OBJ_REPLAY_APPLIED : Fld := ⟨0x38000C, 31, 0⟩
/-- OBJ_LIVE_LO.LIVE_LO (RO, R72). -/
def OBJ_LIVE_LO_LIVE_LO (i : Nat) : Fld := ⟨0x380010 + 0x8 * i, 31, 0⟩
/-- OBJ_LIVE_HI.LIVE_HI (RO, R72). -/
def OBJ_LIVE_HI_LIVE_HI (i : Nat) : Fld := ⟨0x380014 + 0x8 * i, 1, 0⟩
/-- BED_CFG.FREE_MIN (RWL, R97). -/
def BED_CFG_FREE_MIN (i : Nat) : Fld := ⟨0x400000 + 0x100 * i, 31, 24⟩
/-- BED_CFG.SPILL_GIB (RWL, R97). -/
def BED_CFG_SPILL_GIB (i : Nat) : Fld := ⟨0x400000 + 0x100 * i, 22, 16⟩
/-- BED_CFG.OPEN_MAX (RWL, R97). -/
def BED_CFG_OPEN_MAX (i : Nat) : Fld := ⟨0x400000 + 0x100 * i, 15, 8⟩
/-- BED_CFG.FILL_WIDTH (RWL, R97). -/
def BED_CFG_FILL_WIDTH (i : Nat) : Fld := ⟨0x400000 + 0x100 * i, 4, 0⟩
/-- BED_CKPT.CKPT_NOW (WO, R97). -/
def BED_CKPT_CKPT_NOW (i : Nat) : Fld := ⟨0x400004 + 0x100 * i, 31, 31⟩
/-- BED_CKPT.IDLE_S (RWL, R97). -/
def BED_CKPT_IDLE_S (i : Nat) : Fld := ⟨0x400004 + 0x100 * i, 23, 16⟩
/-- BED_CKPT.INTERVAL_S (RWL, R97). -/
def BED_CKPT_INTERVAL_S (i : Nat) : Fld := ⟨0x400004 + 0x100 * i, 11, 0⟩
/-- BED_STAT.AWAKE (RO, R97). -/
def BED_STAT_AWAKE (i : Nat) : Fld := ⟨0x400008 + 0x100 * i, 28, 24⟩
/-- BED_STAT.FILL (RO, R97). -/
def BED_STAT_FILL (i : Nat) : Fld := ⟨0x400008 + 0x100 * i, 20, 16⟩
/-- BED_STAT.OPEN (RO, R97). -/
def BED_STAT_OPEN (i : Nat) : Fld := ⟨0x400008 + 0x100 * i, 15, 8⟩
/-- BED_STAT.RESYNC (RO, R97). -/
def BED_STAT_RESYNC (i : Nat) : Fld := ⟨0x400008 + 0x100 * i, 2, 2⟩
/-- BED_STAT.CKPT (RO, R97). -/
def BED_STAT_CKPT (i : Nat) : Fld := ⟨0x400008 + 0x100 * i, 1, 1⟩
/-- BED_STAT.MOUNTED (RO, R97). -/
def BED_STAT_MOUNTED (i : Nat) : Fld := ⟨0x400008 + 0x100 * i, 0, 0⟩
/-- BED_DIRTY.COUNT (RO, R97). -/
def BED_DIRTY_COUNT (i : Nat) : Fld := ⟨0x40000C + 0x100 * i, 24, 0⟩
/-- BED_RELOAD.RELOADS (RC, R97). -/
def BED_RELOAD_RELOADS (i : Nat) : Fld := ⟨0x400010 + 0x100 * i, 31, 0⟩
/-- BED_GEOM.MEMBERS (RO, R97). -/
def BED_GEOM_MEMBERS (i : Nat) : Fld := ⟨0x400014 + 0x100 * i, 28, 24⟩
/-- BED_GEOM.H_MIB (RO, R97). -/
def BED_GEOM_H_MIB (i : Nat) : Fld := ⟨0x400014 + 0x100 * i, 23, 16⟩
/-- BED_GEOM.BOLTS_K (RO, R97). -/
def BED_GEOM_BOLTS_K (i : Nat) : Fld := ⟨0x400014 + 0x100 * i, 15, 0⟩
/-- BED_RBCFG.AUTO (RWL, R116). -/
def BED_RBCFG_AUTO (i : Nat) : Fld := ⟨0x400018 + 0x100 * i, 31, 31⟩
/-- BED_RBCFG.URE_MAX (RWL, R116). -/
def BED_RBCFG_URE_MAX (i : Nat) : Fld := ⟨0x400018 + 0x100 * i, 23, 16⟩
/-- BED_RBCFG.RATE (RWL, R116). -/
def BED_RBCFG_RATE (i : Nat) : Fld := ⟨0x400018 + 0x100 * i, 11, 0⟩
/-- BED_RBSTAT.ACTIVE (RO, R116). -/
def BED_RBSTAT_ACTIVE (i : Nat) : Fld := ⟨0x40001C + 0x100 * i, 31, 31⟩
/-- BED_RBSTAT.PAUSED (RO, R116). -/
def BED_RBSTAT_PAUSED (i : Nat) : Fld := ⟨0x40001C + 0x100 * i, 30, 30⟩
/-- BED_RBSTAT.QUEUED_IDX (RO, R116). -/
def BED_RBSTAT_QUEUED_IDX (i : Nat) : Fld := ⟨0x40001C + 0x100 * i, 12, 8⟩
/-- BED_RBSTAT.REBUILD_IDX (RO, R116). -/
def BED_RBSTAT_REBUILD_IDX (i : Nat) : Fld := ⟨0x40001C + 0x100 * i, 4, 0⟩
/-- BED_RBCUR.CURSOR (RO, R116). -/
def BED_RBCUR_CURSOR (i : Nat) : Fld := ⟨0x400020 + 0x100 * i, 24, 0⟩
/-- BED_MSTATE0.STATE_0_15 (RO, R116). -/
def BED_MSTATE0_STATE_0_15 (i : Nat) : Fld := ⟨0x400024 + 0x100 * i, 31, 0⟩
/-- BED_MSTATE1.STATE_16_23 (RO, R116). -/
def BED_MSTATE1_STATE_16_23 (i : Nat) : Fld := ⟨0x400028 + 0x100 * i, 15, 0⟩
/-- BED_REPAIR.TAGS (RC, R116). -/
def BED_REPAIR_TAGS (i : Nat) : Fld := ⟨0x40002C + 0x100 * i, 31, 16⟩
/-- BED_REPAIR.SECTORS (RC, R116). -/
def BED_REPAIR_SECTORS (i : Nat) : Fld := ⟨0x40002C + 0x100 * i, 15, 0⟩
/-- BED_LOST.FULL (RO, R116). -/
def BED_LOST_FULL (i : Nat) : Fld := ⟨0x400030 + 0x100 * i, 31, 31⟩
/-- BED_LOST.COUNT (RO, R116). -/
def BED_LOST_COUNT (i : Nat) : Fld := ⟨0x400030 + 0x100 * i, 12, 0⟩
/-- BED_PRESS.PCT (RWL, R97). -/
def BED_PRESS_PCT : Fld := ⟨0x400400, 6, 0⟩
/-- SEAM_STAT.FENCED (RO, R398). -/
def SEAM_STAT_FENCED : Fld := ⟨0x480000, 9, 8⟩
/-- SEAM_STAT.ON (RO, R398). -/
def SEAM_STAT_ON : Fld := ⟨0x480000, 1, 0⟩
/-- SEAM_FOLDS.FOLDS (RC, R398). -/
def SEAM_FOLDS_FOLDS : Fld := ⟨0x480004, 31, 0⟩
/-- RILL_CFG.PAIR_EN (RWL, R139). -/
def RILL_CFG_PAIR_EN : Fld := ⟨0x500000, 15, 8⟩
/-- RILL_CFG.VERIFY (RWL, R139). -/
def RILL_CFG_VERIFY : Fld := ⟨0x500000, 0, 0⟩
/-- RILL_CORE.FENCED (RO, R139). -/
def RILL_CORE_FENCED : Fld := ⟨0x500004, 31, 16⟩
/-- RILL_CORE.PRESENT (RO, R139). -/
def RILL_CORE_PRESENT : Fld := ⟨0x500004, 15, 0⟩
/-- RILL_BUSY.BUSY (RO, R139). -/
def RILL_BUSY_BUSY : Fld := ⟨0x500008, 15, 0⟩
/-- RILL_RERUN.RERUNS (RC, R139). -/
def RILL_RERUN_RERUNS : Fld := ⟨0x50000C, 15, 0⟩
/-- RILL_ERRCNT.COUNT (RC, R139). -/
def RILL_ERRCNT_COUNT (i : Nat) : Fld := ⟨0x500010 + 0x4 * i, 15, 0⟩
/-- RILL_LASTERR.STATUS (RO, R139). -/
def RILL_LASTERR_STATUS : Fld := ⟨0x500040, 31, 24⟩
/-- RILL_LASTERR.CORE (RO, R139). -/
def RILL_LASTERR_CORE : Fld := ⟨0x500040, 23, 20⟩
/-- RILL_LASTERR.OPCODE (RO, R139). -/
def RILL_LASTERR_OPCODE : Fld := ⟨0x500040, 19, 16⟩
/-- RILL_LASTERR.NO_CORE (RO, R139). -/
def RILL_LASTERR_NO_CORE : Fld := ⟨0x500040, 15, 15⟩
/-- RILL_LASTCTX.CONTEXT_LO (RO, R139). -/
def RILL_LASTCTX_CONTEXT_LO : Fld := ⟨0x500044, 31, 0⟩
/-- CPH_CFG.CORE_EN (RWL, R158). -/
def CPH_CFG_CORE_EN : Fld := ⟨0x580000, 7, 0⟩
/-- CPH_CORE.BUSY (RO, R158). -/
def CPH_CORE_BUSY : Fld := ⟨0x580004, 31, 24⟩
/-- CPH_CORE.FENCED (RO, R158). -/
def CPH_CORE_FENCED : Fld := ⟨0x580004, 23, 16⟩
/-- CPH_CORE.PRESENT (RO, R158). -/
def CPH_CORE_PRESENT : Fld := ⟨0x580004, 7, 0⟩
/-- CPH_KEY.STATE (RO, R158). -/
def CPH_KEY_STATE : Fld := ⟨0x580008, 31, 30⟩
/-- CPH_KEY.KAT_FAIL (RO, R158). -/
def CPH_KEY_KAT_FAIL : Fld := ⟨0x580008, 29, 29⟩
/-- CPH_KEY.PEER_MATCH (RO, R158). -/
def CPH_KEY_PEER_MATCH : Fld := ⟨0x580008, 28, 28⟩
/-- CPH_KEY.COPIES (RO, R158). -/
def CPH_KEY_COPIES : Fld := ⟨0x580008, 27, 26⟩
/-- CPH_KCV.KCV (RO, R158). -/
def CPH_KCV_KCV : Fld := ⟨0x58000C, 31, 0⟩
/-- CPH_CACHE.MISS (RC, R158). -/
def CPH_CACHE_MISS : Fld := ⟨0x580010, 31, 16⟩
/-- CPH_CACHE.USED (RO, R158). -/
def CPH_CACHE_USED : Fld := ⟨0x580010, 12, 0⟩
/-- CPH_AUTHFAIL.HEADER (RC, R158). -/
def CPH_AUTHFAIL_HEADER : Fld := ⟨0x580014, 31, 16⟩
/-- CPH_AUTHFAIL.TAG (RC, R158). -/
def CPH_AUTHFAIL_TAG : Fld := ⟨0x580014, 15, 0⟩
/-- CPH_LASTFAIL.STATUS (RO, R158). -/
def CPH_LASTFAIL_STATUS : Fld := ⟨0x580018, 31, 24⟩
/-- CPH_LASTFAIL.CORE (RO, R158). -/
def CPH_LASTFAIL_CORE : Fld := ⟨0x580018, 23, 20⟩
/-- CPH_LASTFAIL.REASON (RO, R158). -/
def CPH_LASTFAIL_REASON : Fld := ⟨0x580018, 19, 16⟩
/-- CPH_LASTFAIL.NO_CORE (RO, R158). -/
def CPH_LASTFAIL_NO_CORE : Fld := ⟨0x580018, 15, 15⟩
/-- CPH_LASTCTX.CONTEXT_LO (RO, R158). -/
def CPH_LASTCTX_CONTEXT_LO : Fld := ⟨0x58001C, 31, 0⟩
/-- GUS_CFG.TICK_US (RWL, R244). -/
def GUS_CFG_TICK_US : Fld := ⟨0x600000, 27, 16⟩
/-- GUS_CFG.QP_GUARD (RWB, R244). -/
def GUS_CFG_QP_GUARD : Fld := ⟨0x600000, 9, 9⟩
/-- GUS_CFG.MODE (RWL, R244). -/
def GUS_CFG_MODE : Fld := ⟨0x600000, 8, 8⟩
/-- GUS_CFG.ACK_TO_MS (RWL, R244). -/
def GUS_CFG_ACK_TO_MS : Fld := ⟨0x600000, 7, 0⟩
/-- GUS_STAT.LINK_UP (RO, R244). -/
def GUS_STAT_LINK_UP : Fld := ⟨0x600004, 31, 31⟩
/-- GUS_STAT.RETRAIN (RO, R244). -/
def GUS_STAT_RETRAIN : Fld := ⟨0x600004, 30, 30⟩
/-- GUS_STAT.PEER_DECLARED (RO, R244). -/
def GUS_STAT_PEER_DECLARED : Fld := ⟨0x600004, 29, 29⟩
/-- GUS_STAT.DETACHED (RO, R244). -/
def GUS_STAT_DETACHED : Fld := ⟨0x600004, 23, 20⟩
/-- GUS_STAT.JOINED (RO, R244). -/
def GUS_STAT_JOINED : Fld := ⟨0x600004, 19, 16⟩
/-- GUS_STAT.FENCED (RO, R244). -/
def GUS_STAT_FENCED : Fld := ⟨0x600004, 15, 12⟩
/-- GUS_STAT.OWNED (RO, R244). -/
def GUS_STAT_OWNED : Fld := ⟨0x600004, 7, 4⟩
/-- GUS_HB.P2_MISS (RO, R244). -/
def GUS_HB_P2_MISS : Fld := ⟨0x600008, 31, 24⟩
/-- GUS_HB.P1_MISS (RO, R244). -/
def GUS_HB_P1_MISS : Fld := ⟨0x600008, 23, 16⟩
/-- GUS_HB.PEER_MISS (RO, R244). -/
def GUS_HB_PEER_MISS : Fld := ⟨0x600008, 15, 8⟩
/-- GUS_HB.PEER_FAULT (RO, R244). -/
def GUS_HB_PEER_FAULT : Fld := ⟨0x600008, 5, 5⟩
/-- GUS_HB.PEER_FENCED (RO, R244). -/
def GUS_HB_PEER_FENCED : Fld := ⟨0x600008, 4, 4⟩
/-- GUS_HB.PEER_TESTED (RO, R244). -/
def GUS_HB_PEER_TESTED : Fld := ⟨0x600008, 3, 3⟩
/-- GUS_HB.PEER_HEALTH_OK (RO, R244). -/
def GUS_HB_PEER_HEALTH_OK : Fld := ⟨0x600008, 2, 2⟩
/-- GUS_PEER_HEALTH.UNITS (RO, R244). -/
def GUS_PEER_HEALTH_UNITS : Fld := ⟨0x60000C, 15, 0⟩
/-- GUS_TICK_LO.SENT (RO, R244). -/
def GUS_TICK_LO_SENT : Fld := ⟨0x600010, 31, 0⟩
/-- GUS_TICKACK_LO.ACKED (RO, R244). -/
def GUS_TICKACK_LO_ACKED : Fld := ⟨0x600014, 31, 0⟩
/-- GUS_ACKLAT.MAX_US (RC, R244). -/
def GUS_ACKLAT_MAX_US : Fld := ⟨0x600018, 31, 16⟩
/-- GUS_ACKLAT.LAST_US (RO, R244). -/
def GUS_ACKLAT_LAST_US : Fld := ⟨0x600018, 15, 0⟩
/-- GUS_TKOVR.CAUSE (RO, R244). -/
def GUS_TKOVR_CAUSE : Fld := ⟨0x60001C, 31, 28⟩
/-- GUS_TKOVR.COUNT (RO, R244). -/
def GUS_TKOVR_COUNT : Fld := ⟨0x60001C, 15, 0⟩
/-- GUS_CNT.COUNT (RC, R244). -/
def GUS_CNT_COUNT (i : Nat) : Fld := ⟨0x600040 + 0x4 * i, 31, 0⟩
/-- RACK_CFG.AWAKE_IDLE_M (RWL, R260). -/
def RACK_CFG_AWAKE_IDLE_M : Fld := ⟨0x680000, 31, 24⟩
/-- RACK_CFG.DORMANT_IDLE_M (RWL, R260). -/
def RACK_CFG_DORMANT_IDLE_M : Fld := ⟨0x680000, 23, 16⟩
/-- RACK_CFG.WAKE_PAR (RWL, R260). -/
def RACK_CFG_WAKE_PAR : Fld := ⟨0x680000, 11, 8⟩
/-- RACK_CFG.DARK_WAKE (RWL, R260). -/
def RACK_CFG_DARK_WAKE : Fld := ⟨0x680000, 1, 1⟩
/-- RACK_CFG.MGR_EN (RWB, R260). -/
def RACK_CFG_MGR_EN : Fld := ⟨0x680000, 0, 0⟩
/-- RACK_BUDGET.DRV_W (RWL, R260). -/
def RACK_BUDGET_DRV_W : Fld := ⟨0x680004, 31, 16⟩
/-- RACK_BUDGET.CTL_W (RWL, R260). -/
def RACK_BUDGET_CTL_W : Fld := ⟨0x680004, 15, 0⟩
/-- RACK_ALLOW.DRIVE_W (RWL, R260). -/
def RACK_ALLOW_DRIVE_W : Fld := ⟨0x680008, 31, 24⟩
/-- RACK_ALLOW.AWAKE_W (RWL, R260). -/
def RACK_ALLOW_AWAKE_W : Fld := ⟨0x680008, 23, 16⟩
/-- RACK_ALLOW.DORMANT_W (RWL, R260). -/
def RACK_ALLOW_DORMANT_W : Fld := ⟨0x680008, 15, 8⟩
/-- RACK_ALLOW.DARK_W (RWL, R260). -/
def RACK_ALLOW_DARK_W : Fld := ⟨0x680008, 7, 0⟩
/-- RACK_LEASE.ROLE (RO, R260). -/
def RACK_LEASE_ROLE : Fld := ⟨0x68000C, 31, 30⟩
/-- RACK_LEASE.VIEW_VALID (RO, R260). -/
def RACK_LEASE_VIEW_VALID : Fld := ⟨0x68000C, 29, 29⟩
/-- RACK_LEASE.HOLDER (RO, R260). -/
def RACK_LEASE_HOLDER : Fld := ⟨0x68000C, 21, 16⟩
/-- RACK_LEASE.VOTES (RO, R260). -/
def RACK_LEASE_VOTES : Fld := ⟨0x68000C, 5, 0⟩
/-- RACK_EPOCH_LO.EPOCH (RO, R260). -/
def RACK_EPOCH_LO_EPOCH : Fld := ⟨0x680010, 31, 0⟩
/-- RACK_EPOCH_HI.EPOCH (RO, R260). -/
def RACK_EPOCH_HI_EPOCH : Fld := ⟨0x680014, 31, 0⟩
/-- RACK_PLAN.CTL_W (RO, R260). -/
def RACK_PLAN_CTL_W : Fld := ⟨0x680018, 31, 16⟩
/-- RACK_PLAN.AWAKE (RO, R260). -/
def RACK_PLAN_AWAKE : Fld := ⟨0x680018, 14, 10⟩
/-- RACK_PLAN.DORMANT (RO, R260). -/
def RACK_PLAN_DORMANT : Fld := ⟨0x680018, 9, 5⟩
/-- RACK_PLAN.DARK (RO, R260). -/
def RACK_PLAN_DARK : Fld := ⟨0x680018, 4, 0⟩
/-- RACK_ORDER.TARGET (RO, R260). -/
def RACK_ORDER_TARGET : Fld := ⟨0x68001C, 31, 28⟩
/-- RACK_ORDER.RESULT (RO, R260). -/
def RACK_ORDER_RESULT : Fld := ⟨0x68001C, 27, 24⟩
/-- RACK_ORDER.ORDER_ID (RO, R260). -/
def RACK_ORDER_ORDER_ID : Fld := ⟨0x68001C, 23, 0⟩
/-- RACK_CNT.COUNT (RC, R260). -/
def RACK_CNT_COUNT (i : Nat) : Fld := ⟨0x680040 + 0x4 * i, 31, 0⟩
/-- EPT_CFG.COMMON_CLK (RWB, R339). -/
def EPT_CFG_COMMON_CLK : Fld := ⟨0x700000, 31, 31⟩
/-- EPT_CFG.BED (RWB, R339). -/
def EPT_CFG_BED : Fld := ⟨0x700000, 25, 24⟩
/-- EPT_CFG.WIN_LOG2 (RWB, R339). -/
def EPT_CFG_WIN_LOG2 : Fld := ⟨0x700000, 20, 16⟩
/-- EPT_CFG.POOL_GIB (RWB, R339). -/
def EPT_CFG_POOL_GIB : Fld := ⟨0x700000, 5, 0⟩
/-- EPT_STAT.LINK_UP (RO, R339). -/
def EPT_STAT_LINK_UP : Fld := ⟨0x700004, 31, 31⟩
/-- EPT_STAT.SPEED (RO, R339). -/
def EPT_STAT_SPEED : Fld := ⟨0x700004, 30, 28⟩
/-- EPT_STAT.WIDTH (RO, R339). -/
def EPT_STAT_WIDTH : Fld := ⟨0x700004, 27, 24⟩
/-- EPT_STAT.F0_WEDGED (RO, R339). -/
def EPT_STAT_F0_WEDGED : Fld := ⟨0x700004, 23, 23⟩
/-- EPT_STAT.F1_WEDGED (RO, R339). -/
def EPT_STAT_F1_WEDGED : Fld := ⟨0x700004, 22, 22⟩
/-- EPT_STAT.F0_DSTATE (RO, R339). -/
def EPT_STAT_F0_DSTATE : Fld := ⟨0x700004, 21, 20⟩
/-- EPT_STAT.F1_DSTATE (RO, R339). -/
def EPT_STAT_F1_DSTATE : Fld := ⟨0x700004, 19, 18⟩
/-- EPT_STAT.PERST (RO, R339). -/
def EPT_STAT_PERST : Fld := ⟨0x700004, 17, 17⟩
/-- EPT_TAGS.QUARANTINED (RO, R339). -/
def EPT_TAGS_QUARANTINED : Fld := ⟨0x700008, 31, 16⟩
/-- EPT_TAGS.OUTSTANDING (RO, R339). -/
def EPT_TAGS_OUTSTANDING : Fld := ⟨0x700008, 15, 0⟩
/-- EPT_PWIN_CTL.EN (RW, R339). -/
def EPT_PWIN_CTL_EN (i : Nat) : Fld := ⟨0x700010 + 0x8 * i, 31, 31⟩
/-- EPT_PWIN_CTL.BUSY (RO, R339). -/
def EPT_PWIN_CTL_BUSY (i : Nat) : Fld := ⟨0x700010 + 0x8 * i, 30, 30⟩
/-- EPT_PWIN_CTL.ERR (W1C, R339). -/
def EPT_PWIN_CTL_ERR (i : Nat) : Fld := ⟨0x700010 + 0x8 * i, 29, 29⟩
/-- EPT_PWIN_MAP.RDONLY (RWQ, R339). -/
def EPT_PWIN_MAP_RDONLY (i : Nat) : Fld := ⟨0x700014 + 0x8 * i, 31, 31⟩
/-- EPT_PWIN_MAP.OFFSET (RWQ, R339). -/
def EPT_PWIN_MAP_OFFSET (i : Nat) : Fld := ⟨0x700014 + 0x8 * i, 7, 0⟩
/-- EPT_LASTUC.COMPLETER_ID (RO, R339). -/
def EPT_LASTUC_COMPLETER_ID : Fld := ⟨0x700050, 31, 16⟩
/-- EPT_LASTUC.TAG (RO, R339). -/
def EPT_LASTUC_TAG : Fld := ⟨0x700050, 9, 0⟩
/-- EPT_CNT.COUNT (RC, R339). -/
def EPT_CNT_COUNT (i : Nat) : Fld := ⟨0x700060 + 0x4 * i, 31, 0⟩
/-- DRV_STAT.LINK_UP (RO, R399). -/
def DRV_STAT_LINK_UP (i : Nat) : Fld := ⟨0x780000 + 0x1000 * i, 31, 31⟩
/-- DRV_STAT.SPEED (RO, R399). -/
def DRV_STAT_SPEED (i : Nat) : Fld := ⟨0x780000 + 0x1000 * i, 30, 28⟩
/-- DRV_STAT.WIDTH (RO, R399). -/
def DRV_STAT_WIDTH (i : Nat) : Fld := ⟨0x780000 + 0x1000 * i, 27, 26⟩
/-- DRV_STAT.POWERED (RO, R399). -/
def DRV_STAT_POWERED (i : Nat) : Fld := ⟨0x780000 + 0x1000 * i, 25, 25⟩
/-- DRV_STAT.FENCED (RO, R399). -/
def DRV_STAT_FENCED (i : Nat) : Fld := ⟨0x780000 + 0x1000 * i, 24, 24⟩
/-- DRV_STAT.OUTSTANDING (RO, R399). -/
def DRV_STAT_OUTSTANDING (i : Nat) : Fld := ⟨0x780000 + 0x1000 * i, 15, 0⟩
/-- DRV_CNT.COUNT (RC, R399). -/
def DRV_CNT_COUNT (i j : Nat) : Fld := ⟨0x780040 + 0x1000 * i + 0x4 * j, 31, 0⟩
/-- DDR_TOTAL.CISTERN_GIB (RO, R400). -/
def DDR_TOTAL_CISTERN_GIB : Fld := ⟨0x800000, 15, 0⟩
/-- DDR_STAT.TRAINED (RO, R400). -/
def DDR_STAT_TRAINED (i : Nat) : Fld := ⟨0x801000 + 0x1000 * i, 31, 31⟩
/-- DDR_STAT.SELF_REFRESH (RO, R400). -/
def DDR_STAT_SELF_REFRESH (i : Nat) : Fld := ⟨0x801000 + 0x1000 * i, 30, 30⟩
/-- DDR_STAT.RETIRED (RO, R400). -/
def DDR_STAT_RETIRED (i : Nat) : Fld := ⟨0x801000 + 0x1000 * i, 29, 29⟩
/-- DDR_STAT.POWERED (RO, R400). -/
def DDR_STAT_POWERED (i : Nat) : Fld := ⟨0x801000 + 0x1000 * i, 28, 28⟩
/-- DDR_STAT.SIZE_GIB (RO, R400). -/
def DDR_STAT_SIZE_GIB (i : Nat) : Fld := ⟨0x801000 + 0x1000 * i, 15, 0⟩
/-- DDR_ECC.UNCORR (RC, R400). -/
def DDR_ECC_UNCORR (i : Nat) : Fld := ⟨0x801004 + 0x1000 * i, 31, 16⟩
/-- DDR_ECC.CORR (RC, R400). -/
def DDR_ECC_CORR (i : Nat) : Fld := ⟨0x801004 + 0x1000 * i, 15, 0⟩

end F

end Sys2Proof.Machine
end

