-- ==== Sys2Proof/Machine/Tab.lean ====
section
/-! DEFINITION. Plain containers of the state: a table by number, kept sorted by its key, and a sparse byte memory
in one canonical form (addresses strictly rising, no entry equal to the zero an unlisted address reads as). -/

namespace Sys2Proof.Machine

/-- A table of like things by number: queue pairs, slots, beds, ports. An absent key is an absent thing. -/
structure Tab (α : Type) where
  entries : List (Nat × α)
  deriving DecidableEq, Repr

/-- A byte memory. An address it does not list reads as zero (assumption 2). -/
structure Mem where
  cells : List Host.Cell
  deriving DecidableEq, Repr

def Tab.empty {α : Type} : Tab α := ⟨[]⟩

def Tab.getL {α : Type} (k : Nat) : List (Nat × α) → Option α
  | [] => none
  | (j, v) :: t => if j = k then some v else Tab.getL k t

def Tab.putL {α : Type} (k : Nat) (v : α) : List (Nat × α) → List (Nat × α)
  | [] => [(k, v)]
  | (j, w) :: t =>
    if k < j then (k, v) :: (j, w) :: t
    else if j = k then (k, v) :: t
    else (j, w) :: Tab.putL k v t

/-- The entry of key `k`. -/
def Tab.get? {α : Type} (t : Tab α) (k : Nat) : Option α := Tab.getL k t.entries

/-- The entry of key `k`, or `d` where there is none. -/
def Tab.getD {α : Type} (t : Tab α) (k : Nat) (d : α) : α := (t.get? k).getD d

def Tab.put {α : Type} (t : Tab α) (k : Nat) (v : α) : Tab α := ⟨Tab.putL k v t.entries⟩

def Tab.del {α : Type} (t : Tab α) (k : Nat) : Tab α := ⟨t.entries.filter (fun e => e.1 != k)⟩

def Tab.has {α : Type} (t : Tab α) (k : Nat) : Bool := (t.get? k).isSome

def Tab.keys {α : Type} (t : Tab α) : List Nat := t.entries.map (·.1)

def Tab.vals {α : Type} (t : Tab α) : List α := t.entries.map (·.2)

def Tab.size {α : Type} (t : Tab α) : Nat := t.entries.length

/-- Changes the entry of key `k` where there is one. -/
def Tab.modify {α : Type} (t : Tab α) (k : Nat) (f : α → α) : Tab α :=
  match t.get? k with
  | some v => t.put k (f v)
  | none => t

/-- Changes every entry. -/
def Tab.mapV {α β : Type} (t : Tab α) (f : Nat → α → β) : Tab β := ⟨t.entries.map (fun e => (e.1, f e.1 e.2))⟩

/-- Keeps the entries that satisfy `p`. -/
def Tab.filterT {α : Type} (t : Tab α) (p : Nat → α → Bool) : Tab α := ⟨t.entries.filter (fun e => p e.1 e.2)⟩

/-- The first entry that satisfies `p`, lowest key first. -/
def Tab.find {α : Type} (t : Tab α) (p : Nat → α → Bool) : Option (Nat × α) :=
  t.entries.find? (fun e => p e.1 e.2)

/-- The lowest key below `n` that has no entry. -/
def Tab.freeKey {α : Type} (t : Tab α) (n : Nat) : Option Nat := (List.range n).find? (fun k => !t.has k)

/-- Puts a thing before the first of a list that `le` lets follow it. -/
def insertBy {α : Type} (le : α → α → Bool) (a : α) : List α → List α
  | [] => [a]
  | b :: t => if le a b then a :: b :: t else b :: insertBy le a t

/-- Sorts a list, keeping the order of equals. -/
def sortBy {α : Type} (le : α → α → Bool) : List α → List α
  | [] => []
  | a :: t => insertBy le a (sortBy le t)

def Mem.empty : Mem := ⟨[]⟩

def Mem.readL (a : Nat) : List Host.Cell → Byte
  | [] => 0
  | (b, v) :: t => if b = a then v else Mem.readL a t

def Mem.eraseL (a : Nat) : List Host.Cell → List Host.Cell
  | [] => []
  | (b, v) :: t => if b = a then t else (b, v) :: Mem.eraseL a t

def Mem.insertL (a : Nat) (v : Byte) : List Host.Cell → List Host.Cell
  | [] => [(a, v)]
  | (b, w) :: t =>
    if a < b then (a, v) :: (b, w) :: t
    else if b = a then (a, v) :: t
    else (b, w) :: Mem.insertL a v t

/-- The byte at `a`. -/
def Mem.read (m : Mem) (a : Nat) : Byte := Mem.readL a m.cells

/-- Writes the byte at `a`, keeping the canonical form. -/
def Mem.write (m : Mem) (a : Nat) (v : Byte) : Mem :=
  ⟨if v = 0 then Mem.eraseL a m.cells else Mem.insertL a v m.cells⟩

/-- The `n` bytes from `a` on. -/
def Mem.readN (m : Mem) (a n : Nat) : Bytes := (List.range n).map (fun i => m.read (a + i))

/-- Writes a byte string from `a` on. -/
def Mem.writeN (m : Mem) (a : Nat) : Bytes → Mem
  | [] => m
  | b :: bs => (m.write a b).writeN (a + 1) bs

/-- Zeroes the bytes `a .. a + n - 1`. -/
def Mem.zero (m : Mem) (a n : Nat) : Mem := ⟨m.cells.filter (fun c => c.1 < a || a + n ≤ c.1)⟩

/-- The canonical form: addresses strictly rise and no listed byte is zero. -/
def Mem.wfFrom : Nat → List Host.Cell → Bool
  | _, [] => true
  | lo, (a, v) :: t => decide (lo ≤ a) && v != 0 && Mem.wfFrom (a + 1) t

def Mem.wf (m : Mem) : Bool := Mem.wfFrom 0 m.cells

end Sys2Proof.Machine
end

