-- ==== Sys2Proof/Machine/State.lean ====
section
/-! DEFINITION. The state of the part as plain data (one structure per unit), the reasons a step can stop, and the
state right after power is applied. A field's docstring names the rule of spec/ that gives it. Times are in ns of
`State.now`, which counts from power-on without a step; a deadline that is `none` is a timer that does not run. -/

namespace Sys2Proof.Machine

/-- No command of this model ends in a fault: what the spec calls an error is a status, a record or a response.
The one constructor is raised by nobody; it is safe. -/
inductive Fault where
  | none
  deriving DecidableEq, Repr

/-- Raised by no meaning of this model; a command without a meaning would be refused by its name, which is safe. -/
inductive Refusal where
  | notModelled (mnemonic : String)
  deriving DecidableEq, Repr

/-- The register space (R7, R395): `vals` the values in force by address, an unlisted address holding its reset value;
`pend` the written copy of a dword with RWL or RWB fields; `latch` the HI half latched per path and pair (R397). -/
structure RegFile where
  vals : Tab Word
  pend : Tab Word
  latch : List (AccessPath × Nat × Word)
  deriving DecidableEq, Repr

/-- What fuses hold (R1, R5, R318 step 1, R385, R389). -/
structure Fuses where
  part : Nat
  serial : Nat
  secVer : Nat
  revoked : Nat
  /-- Stands for the device-unique key, which only the key-derivation unit reads (R318). -/
  deviceKey : Bytes
  deriving DecidableEq, Repr

/-- Power states of a controller (R23), encoded in TOP_SHELF as 0–3. -/
inductive ShelfSt where
  | awake | dormant | dark | held
  deriving DecidableEq, Repr

def ShelfSt.code : ShelfSt → Nat
  | .awake => 0
  | .dormant => 1
  | .dark => 2
  | .held => 3

/-- A state change being carried out (R25, R254): its target, the order that asked for it, and the step of R25 reached
(1 intake stopped, 2 commands complete, 3 checkpoints done, 4 paths off; 0 on the way up). -/
structure Move where
  target : ShelfSt
  orderId : Option Nat
  orderedBy : Nat
  since : Nat
  step : Nat
  deriving DecidableEq, Repr

/-- The controller as a node of its shelf (R13, R16, R24, R27). -/
structure Shelf where
  st : ShelfSt
  move : Option Move
  strapCode : Nat
  strapInvalid : Bool
  strapRounds : Nat
  strapOhms : Nat
  /-- The reading of this episode has produced its code (R287, R312). -/
  strapDone : Bool
  conflict : Bool
  /-- The conflict was found at the end of start-up, so the controller is stopped in Dark (R16). -/
  stopped : Bool
  peerState : Nat
  deriving DecidableEq, Repr

/-- A running reset episode (R312, R313, R314). -/
structure Episode where
  reach : Nat
  first : Nat
  joined : Nat
  asserted : Nat
  began : Nat
  stretchAt : Nat
  stretched : Bool
  /-- The line was released and is being watched: deadline of its 100 µs high. -/
  lineAt : Option Nat
  deadline5 : Option Nat
  deriving DecidableEq, Repr

/-- The reset controller and start-up (R311–R322). `wd` are the watchdog deadlines. -/
structure RstSt where
  episode : Option Episode
  wdCore0 : Option Nat
  wdCores : Option Nat
  /-- End of the episode before the start-up that runs; `none` when none runs. -/
  startAt : Option Nat
  phase : Nat
  fail : Nat
  svcWait : Bool
  slot : Nat
  cfgDefaulted : Bool
  schemaReset : Bool
  keyFail : Bool
  /-- The part drives SYSRST_N low (R313). -/
  sysrstLow : Bool
  deriving DecidableEq, Repr

/-- The power-fail sequence (R297): its t0 and the last step reached. -/
structure PfSeq where
  t0 : Nat
  step : Nat
  /-- Sources of core reach held until step 6 (R298). -/
  heldCore : Nat
  deriving DecidableEq, Repr

/-- Rails, power-fail and power domains (R293–R302). Sets of domains and rails are bit masks. -/
structure PwrSt where
  railOk : Nat
  pf : Option PfSeq
  pfLow : Bool
  pfPhase : Nat
  pfHighAt : Option Nat
  on : Nat
  /-- Domains switching on, with the time each is usable (R301). -/
  rising : List (Nat × Nat)
  waitOn : Nat
  waitOff : Nat
  /-- Domains whose unit still drains before it may switch off (R301 item 3). -/
  draining : Nat
  selfRefresh : Nat
  deriving DecidableEq, Repr

/-- Clocks, timebase and PTP (R303–R308). References: bit 0 root, 1 NETA, 2 NETB, 3 PCIE. -/
structure ClkSt where
  refs : Nat
  rootLock : Bool
  holdover : Bool
  holdAt : Option Nat
  refGoodAt : Option Nat
  locked : Bool
  good : Nat
  bad : Nat
  sampleAt : Option Nat
  port : Nat
  offset : Int
  /-- Frequency adjustment per 100 MHz tick in units of 2^-32 ns (R305). -/
  adj : Int
  /-- Time of day in ns at the next rising edge of PPS_IN, as given (R308, R382). -/
  tod : Option Nat
  /-- A time of day has been given since the reset or the last new source: pulses after it may lock (R308). -/
  todSet : Bool
  /-- End of the present PPS_OUT pulse (R308). -/
  ppsTo : Nat
  deriving DecidableEq, Repr

/-- One fault source (R342, R347). State: 0 in service, 1 fenced, 2 permanently fenced, 3 admission pending. -/
structure SrcSt where
  count : Nat
  wstart : Nat
  state : Nat
  fencedAt : Nat
  quietAt : Option Nat
  checking : Bool
  /-- Device times, in whole seconds, of the re-admissions (R349), oldest first. -/
  recov : List Nat
  /-- A reset reaction of this source is being carried out (R342). -/
  reacting : Bool
  recSec : Nat
  recN : Nat
  recLeft : Nat
  deriving DecidableEq, Repr

/-- A black-box record before its sequence number is given (R350). -/
structure BbRec where
  time : Nat
  source : Nat
  flags : Nat
  severity : Nat
  reaction : Nat
  code : Nat
  context : Bytes
  deriving DecidableEq, Repr

/-- Thimble and the black box (R340–R354). The ring itself lies in `State.mram`. -/
structure ThmSt where
  srcs : Tab SrcSt
  fault : Bool
  /-- Entries of the reaction table that the configuration set fills (R344). -/
  configured : List Nat
  next : Nat
  mramOk : Bool
  staged : List BbRec
  rdStat : Nat
  rdReady : Bool
  rdData : Bytes
  /-- Device times of the last FAULT system episodes, oldest first (R349). -/
  faultHist : List Nat
  /-- Source of each fence record of the MRAM in use, by its index (R349). -/
  recs : Tab Nat
  /-- New Thimble defaults refill the unconfigured entries at the next event (R387, target 0x09). -/
  refill : Bool
  /-- The MRAM was blank at this start-up and has been formatted: what it held of the beds is lost (R92, R351). -/
  formatted : Bool
  deriving DecidableEq, Repr

/-- States of a slot channel (R275), encoded 0–5. -/
inductive ChanSt where
  | off | waiting | ramping | on | fault | disabled
  deriving DecidableEq, Repr

def ChanSt.code : ChanSt → Nat
  | .off => 0
  | .waiting => 1
  | .ramping => 2
  | .on => 3
  | .fault => 4
  | .disabled => 5

/-- Context of a power request (R263). -/
inductive RampCtx where
  | normal | startUp | test | recovery
  deriving DecidableEq, Repr

/-- One slot channel (R261–R276). Model temperatures in nano-degrees above ambient. -/
structure Chan where
  st : ChanSt
  request : Bool
  /-- The request is firmware's, to identify a drive in a free slot (R264, R277 AUTO_INS). -/
  auto : Bool
  present : Bool
  raw : Bool
  dbAt : Option Nat
  lostAt : Option Nat
  ctx : RampCtx
  insAt : Option Nat
  insDone : Bool
  /-- Moment at which the start condition was met, by its turn among the waiting ramps (R265). -/
  met : Option Nat
  joinAt : Option Nat
  joinLooked : Bool
  limitUs : Nat
  rampMaxAt : Option Nat
  joining : Bool
  pg : Bool
  joined : Bool
  rev : Bool
  cause : Nat
  repeat_ : Nat
  retryAt : Option Nat
  pg60At : Option Nat
  d1hs : Nat
  d2hs : Nat
  d1rb : Nat
  d2rb : Nat
  vout : Nat
  iout : Nat
  testing : Bool
  testAt : Option Nat
  pwrdisAt : Option Nat
  /-- The first ramp after a reset or a move to Awake is still to come, and the level was asserted then (R263). -/
  seated : Bool
  deriving DecidableEq, Repr

/-- The slot power die (R261, R271, R277). -/
structure SpcSt where
  chans : Tab Chan
  vin : Nat
  vinIn : Bool
  vinSince : Nat
  seqRun : Bool
  dieC : Nat
  /-- Ramps are held for a sequencer swap (R387, target 0x06). -/
  swapHold : Bool
  deriving DecidableEq, Repr

/-- A tenant (R54); its position in the table is its key. -/
structure Tenant where
  id : Nat
  name : Bytes
  prefixes : List Bytes
  suspended : Bool
  deriving DecidableEq, Repr

/-- A namespace table entry (R55); its NSID is its key. -/
structure Namespace where
  kv : Bool
  bed : Nat
  tenant : Nat
  chunk : Nat
  modeD : Bool
  lbas : Nat
  epoch : Nat
  attached : List Nat
  deriving DecidableEq, Repr

/-- The bed's record of the configuration set (R112, R375). -/
structure BedRec where
  bedId : Nat
  owner : Nat
  lost : List LostRange
  full : Bool
  deriving DecidableEq, Repr

/-- A 256-bit key as the configuration set holds it: encrypted under W_dev, with its tag and the generation its IV comes from (R246,
R378). -/
structure WrappedKey where
  gen : Nat
  wrapped : Bytes
  tag : Bytes
  deriving DecidableEq, Repr

/-- The data records of the configuration set (R375): the running values of the tables and keys. -/
structure CfgData where
  identity : Bytes
  addrs : List Nat
  rackKey : Option WrappedKey
  svcKey : Option WrappedKey
  beds : Tab BedRec
  ns : Tab Namespace
  tenants : Tab Tenant
  eptTenant : Nat
  rack : List RackEntry
  rackBytes : Bytes
  gpio : Bytes
  deriving DecidableEq, Repr

/-- One copy of the configuration set (R375). `fields` are the dwords of register fields by address. -/
structure CfgSet where
  gen : Nat
  serial : Nat
  major : Nat
  minor : Nat
  fields : Tab Word
  data : CfgData
  deriving DecidableEq, Repr

/-- The configuration set (R375–R377): its two copies, the running data records, and the pieces held of a record write. -/
structure CfgSt where
  copy0 : Option CfgSet
  copy1 : Option CfgSet
  data : CfgData
  pieces : Tab Bytes
  deriving DecidableEq, Repr

/-- A host association (R33, R34, R37). `bed` is `none` for the discovery controller. -/
structure Assoc where
  bed : Option Nat
  hostNqn : Bytes
  tenant : Nat
  kato : Nat
  kaAt : Option Nat
  ioLimit : Nat
  ended : Bool
  fn0 : Bool
  tempThr : Nat
  errRec : Nat
  aerCfg : Nat
  hostId : Nat
  aers : List Cap
  aborts : Nat
  changedNs : List Nat
  cc : Nat
  ready : Bool
  /-- Index of the association's ingest window, where it has one (R195). -/
  window : Option Nat
  winSize : Nat
  /-- The latest registration was refused (R195, WINCTL 3). -/
  winRefused : Bool
  qpn : Option Nat
  deriving DecidableEq, Repr

/-- A queue (R33, R35), keyed by `qkey`. -/
structure Queue where
  assoc : Nat
  qid : Nat
  size : Nat
  cqid : Nat
  deriving DecidableEq, Repr

/-- Where a command stands: waiting for a slot (R35), in its slot before the scoreboard, parked (R46), in the
scoreboard before its commit point, past it with work outstanding, in effect or with its data (R41), finished with its
completion held (R45). -/
inductive CmdPhase where
  | waiting | held | parked | board | working | effect | done
  deriving DecidableEq, Repr

/-- What an I/O command still has to do after its records are on their members. -/
structure CmdWork where
  /-- Block writes: the map entries to switch (R82, R83), and whether the map records are still to be written. -/
  mapDelta : List (Nat × MapEntry)
  mapToWrite : Bool
  /-- Key-value commands: the entry to insert, or the removal, and whether the commit record is still to be written. -/
  idxPut : Option IndexEntry
  idxDel : Bool
  commitToWrite : Bool
  commitIssued : Bool
  commitBody : Bytes
  member : Option Nat
  /-- A compaction or rewrap move: the map entries, or the serial of the object, that it moves (R95, R155). -/
  moveFrom : List (Nat × MapEntry)
  moveSerial : Option Nat
  /-- A commit, delete, hold or map record of it has been folded (R90 step 3). -/
  folded : Bool
  /-- What its sample record tells (R367): it was parked, it was resumed after a takeover, stored-form bytes written or read,
  host bytes transferred. -/
  parked : Bool
  resumed : Bool
  stored : Nat
  hostBytes : Nat
  /-- Its commit point is passed while it is still in the scoreboard: its first member write, or for an Exist its first member
  read, has been issued (R43). -/
  begun : Bool
  /-- The value is laid in Bolt-sized pieces, as the threshold stood at its admission, and the Bolt row of the piece in hand
  (R85, R97). -/
  spill : Bool
  bolt : Option Nat
  /-- Index pages whose lookup has been counted (R72). -/
  looked : List Nat
  /-- Path of the jobs that seal its records (R409): 1 ingest, 4 compaction, 5 rewrap. -/
  path : Nat
  deriving DecidableEq, Repr

/-- A command in progress (R35, R40, R41). Its key is its arrival number, but for commands copied from another controller whose
numbers clash with this one's own: those keep their order under higher keys, and `number` is the arrival number that survives
(R40; assumption 62). -/
structure CmdRec where
  number : Nat
  cap : Cap
  nsid : Nat
  cmd : Option NvmeCmd
  capsule : Bytes
  tick : Nat
  time : Nat
  slot : Option Nat
  phase : CmdPhase
  serial : Option Nat
  epoch : Option Nat
  status : Nat
  dw0 : Nat
  dw1 : Nat
  discard : Bool
  isAdmin : Bool
  /-- A refused Connect: no queue exists that holds it (R33, R45). -/
  bare : Bool
  work : CmdWork
  /-- Time spent in each phase of R364, and the time the present phase began. -/
  times : List Nat
  since : Nat
  deriving DecidableEq, Repr

/-- A device self-test (R50–R52). -/
structure SelfTest where
  kind : Nat
  nsid : Nat
  step : Nat
  ran : Nat
  nextAt : Option Nat
  pausedAt : Option Nat
  pausedTotal : Nat
  failedSeg : Nat
  startedBy : Nat
  /-- Sources of the units that steps 2 and 3 have still to test: Rill cores, or the key unit and cipher cores. -/
  todo : List Nat
  /-- The core that the latest slice took out of dispatch, and until when. -/
  held : Option (Nat × Nat)
  /-- Bit `k`: step `k` was skipped, its units being unpowered (R51). -/
  skipped : Nat
  /-- The bed of the subsystem whose namespaces NSID FFFFFFFFh selects (R50). -/
  bed : Option Nat
  deriving DecidableEq, Repr

/-- The command service (R31–R53). -/
structure CmdSt where
  assocs : Tab Assoc
  queues : Tab Queue
  cmds : Tab CmdRec
  /-- Highest arrival number given (R40). -/
  arrival : Nat
  wakeAt : Option Nat
  bucket : Nat
  bucketAt : Nat
  selfTest : Option SelfTest
  /-- The latest 20 self-tests: result, kind, first failing segment, steps skipped (R50, R51). -/
  dstLog : List (Nat × Nat × Nat × Nat)
  /-- Error Information entries, newest first: error count, association, cause (R38, R203). -/
  errLog : List (Nat × Nat × Nat)
  errCount : Nat
  smartWarn : Nat
  temp : Nat
  stopped : Bool
  /-- When the last host I/O command arrived (R249). -/
  lastIo : Nat
  deriving DecidableEq, Repr

/-- A member of a bed (R73, R78). `append` is the append point as a data-area sector offset (R84). -/
structure Member where
  slot : Nat
  st : Nat
  sectors : Nat
  serial : Bytes
  eui : Nat
  append : Nat
  /-- The member holds no free Bolt (R84 rule 5). -/
  full : Bool
  single : Bool
  ures : List Nat
  failedAt : Nat
  idleAt : Option Nat
  descGen : Nat
  /-- The member is switched off once its last command ends (R113 step 5). -/
  offPending : Bool
  /-- Generation of this member's superblock (R77). -/
  sbGen : Nat
  /-- Bands whose range a rebuild has skipped under the lost-range list (R114). -/
  skipped : List Nat
  deriving DecidableEq, Repr

/-- One Band (R79, R88). States: 0 Empty, 1 Open, 2 Checkpointed, 3 Sealed. The accumulators are listed sector by
sector of the Band, P and Q; an unlisted sector is still zero. -/
structure Band where
  gen : Nat
  st : Nat
  retired : Bool
  acc : Option (Tab (Bytes × Bytes))
  lastFold : Nat
  ckptAt : Option Nat
  /-- Folding waits for a checkpoint's write (R90 step 1). -/
  stopped : Bool
  /-- Snapshot of its latest checkpoint as a fold number, and whether a record write was issued after it (R91). -/
  snap : Nat
  sinceSnap : Bool
  /-- A record issued before that snapshot was folded after it. -/
  lateFold : Bool
  /-- A forced close follows the checkpoint that is running or waiting (R100). -/
  closeWanted : Bool
  digCount : Nat
  digSum : Nat
  reloadPending : Bool
  deriving DecidableEq, Repr

/-- A record between its sealing and the end of its member write (R81, R87, R91, R222). Kind as in R222. -/
structure Staged where
  cmd : Nat
  kind : Nat
  member : Nat
  sector : Nat
  band : Nat
  bytes : Bytes
  /-- Link sequence number of its mirror frame while that is not yet acknowledged. -/
  mirror : Option Nat
  /-- Mirror ID of the record (R219); 0 where it was not mirrored. -/
  mirId : Nat
  issued : Bool
  written : Bool
  folded : Bool
  foldNo : Option Nat
  foldAt : Option Nat
  last : Bool
  deriving DecidableEq, Repr

/-- A running checkpoint (R89, R90): its Bands, its snapshot, the phase (2–5) and what its Bands become. -/
structure Ckpt where
  bands : List Nat
  snap : Nat
  phase : Nat
  after : Nat
  free : Bool
  /-- Serials whose commit or map record was folded before the snapshot and is still open (R90 step 3). -/
  waits : List Nat
  /-- Index, map and Band table pages that its last step writes (R90 step 4): pinned until it completes. -/
  idx : List Nat
  maps : List (Nat × Nat)
  tbls : List Nat
  /-- Device time that its superblocks carry. -/
  time : Nat
  deriving DecidableEq, Repr

/-- A rebuild (R108): member, cursor Band, bytes of the Band done, and the time it started. -/
structure Rebuild where
  member : Nat
  cursor : Nat
  slice : Nat
  paused : Bool
  pauseWanted : Bool
  started : Nat
  flushing : Bool
  /-- The metadata extension of a rebuilt P or Q has been written (R107). -/
  metaDone : Bool
  /-- The time before which RATE lets no further slice be written (R109). -/
  nextAt : Option Nat
  deriving DecidableEq, Repr

/-- Compaction of one Bolt row (R95). `step` is the item of R95 reached, `from_` the bed's checkpoint count when its moves
were done. -/
structure Compact where
  row : Nat
  step : Nat
  from_ : Nat
  paused : Bool
  deriving DecidableEq, Repr

/-- A mirrored record or announced write at the standby (R222, R223). -/
structure Mirrored where
  id : Nat
  head : MirrorHead
  bytes : Bytes
  done : Bool
  folded : Bool
  deriving DecidableEq, Repr

/-- An ingest window (R195–R199). `accepted` are the messages accepted before a revocation mark: index and first PSN. -/
structure Win where
  key : Nat
  assoc : Nat
  sizeMib : Nat
  revoking : Bool
  drainAt : Option Nat
  accepted : List (Nat × Nat)
  mem : Mem
  deriving DecidableEq, Repr

/-- A triggered work request (R201). -/
structure Trig where
  entry : Nat
  qp : Nat
  counter : Nat
  threshold : Nat
  wr : WorkReq
  deriving DecidableEq, Repr

/-- What a standby holds of the owner's commands and transport (R222–R228), beside the bed's structures. -/
structure StandbyCopy where
  cmds : Tab CmdRec
  board : List Nat
  qps : Tab QpCopy
  mirrored : List Mirrored
  notices : List Notice
  tick : Nat
  arrival : Nat
  /-- Bands whose digest mismatched and whose accumulators have been asked for (R243). -/
  asked : List Nat
  /-- Bands whose accumulators have just been copied: the owner's next digest of them is taken over. -/
  adopt : List Nat
  joining : Bool
  /-- JOIN_REQUEST has been sent (R220, R242). -/
  requested : Bool
  joinTick : Nat
  lost : List LostRange
  lostFull : Bool
  /-- The owner's windows of the bed, with their contents, triggered requests and counters (R196, R226). -/
  windows : Tab Win
  trigs : List Trig
  counters : Tab (Nat × Nat)
  deriving DecidableEq, Repr

/-- A bed as this controller holds it, as owner or as standby (R73–R116, R233, R242). -/
structure Bed where
  owned : Bool
  /-- This controller is a joined standby of the bed (GUS_STAT.JOINED). -/
  joined : Bool
  /-- As owner: the peer is a joined standby of the bed. -/
  peerJoined : Bool
  /-- As owner: a join copy is under way, so the bed is mirrored and its changes are sent (R242 step 2). -/
  copying : Bool
  detached : Bool
  fenced : Bool
  /-- Left to a peer that took it, or fenced with its key gone, until a join (R239). -/
  left : Bool
  mounted : Bool
  n : Nat
  hMib : Nat
  e : Nat
  eIdx : Nat
  fillW0 : Nat
  openMax0 : Nat
  spill0 : Nat
  bedId : Nat
  created : Nat
  descGen : Nat
  st : Nat
  bandCount : Nat
  members : Tab Member
  fill : List Nat
  bands : Tab Band
  index : List IndexEntry
  map : Tab (Tab MapEntry)
  /-- Map pages (namespace, page) and Band table pages changed since the last checkpoint (R79, R90 step 4). -/
  mapDirty : List (Nat × Nat)
  tblDirty : List Nat
  cached : List Nat
  pinned : List Nat
  serial : Nat
  fold : Nat
  staged : List Staged
  ckpts : List Ckpt
  ckptCount : Nat
  ckptTime : Nat
  /-- Fold number at the snapshot of the last checkpoint whose pages were written (R77, R90 step 4). -/
  ckptSnap : Nat
  snapSlot : Nat
  queued : List Nat
  rebuild : Option Rebuild
  resync : List Nat
  compact : Option Compact
  rewrap : Option Nat
  standby : StandbyCopy
  /-- Ranges announced by the former owner and not reported complete, kept untouched until D + 12 ms (R234). -/
  inFlight : List (Nat × Nat × Nat)
  preemptAt : Option Nat
  reclaimAt : Option Nat
  /-- The bed waits to be mounted at the next move to Awake as after a takeover (R241). -/
  takePending : Bool
  /-- Commands whose mirrored commit, delete or last map record stands after a takeover (R240). -/
  stands : List Cap
  /-- The bed has gone offline, and its description, rebuild and power follow the end of its checkpoints (R113 steps 3–5). -/
  goingOff : Bool
  deriving DecidableEq, Repr

/-- What a drive command is for. -/
inductive DrivePurpose where
  | record (cmd : Nat)
  | parityWrite (band : Nat)
  | metaWrite (kind : Nat)
  | rebuild
  | rebuildFlush
  | resync (band : Nat)
  | repair
  | dealloc
  | reserve
  | proxy (id : Nat)
  | control
  deriving DecidableEq, Repr

/-- A drive command (R98); its number is its key. `st`: 0 its announcement is not yet delivered (R222), 1 it may be issued and
waits for its drive or for the end of a fence, 2 issued. -/
structure DriveCmd where
  op : DriveOp
  bed : Nat
  member : Nat
  slot : Nat
  sector : Nat
  count : Nat
  data : Bytes
  purpose : DrivePurpose
  retried : Bool
  deadline : Nat
  proxied : Bool
  st : Nat
  deriving DecidableEq, Repr

/-- A drive port (R15, R86, R98, R399). -/
structure DrvPort where
  link : Bool
  speed : Nat
  width : Nat
  peerLink : Bool
  ready : Bool
  /-- The 20 s limit of R86 and R98, and whether a reset of the drive's controller started it. -/
  readyAt : Option Nat
  resetting : Bool
  unreachAt : Option Nat
  info : Option DriveInfo
  reserved : Bool
  deriving DecidableEq, Repr

/-- The drives of the shelf as this controller sees them. -/
structure DrvSt where
  ports : Tab DrvPort
  cmds : Tab DriveCmd
  nextId : Nat
  /-- The LED bits last sent on SGPIO, by slot (R14). -/
  leds : Nat
  deriving DecidableEq, Repr

/-- A Rill job (R119, R120). `input` is what its input area holds. -/
structure RillJob where
  desc : RillDesc
  input : Bytes
  core : Nat
  avoid : Option Nat
  first : Nat
  firstCore : Nat
  host : Bool
  /-- Time of dispatch (R363). -/
  since : Nat
  /-- Session and request of a service job (R382). -/
  svc : Option (Nat × Nat)
  deriving DecidableEq, Repr

/-- Rill (R117–R139). `readyAt` is the time a pair takes jobs, `idleAt` the end of its idle millisecond. -/
structure RillSt where
  waiting : List RillJob
  running : Tab RillJob
  readyAt : Tab Nat
  idleAt : Tab Nat
  gated : Nat
  holdNew : Bool
  deriving DecidableEq, Repr

/-- A cipher job (R142, R144). Phase: 0 waits for its key, 1 key ready, 2 on a core, 3 finished and held. -/
structure CphJob where
  id : Nat
  desc : CipherDesc
  input : Bytes
  phase : Nat
  core : Nat
  status : Nat
  reason : Nat
  output : Bytes
  /-- Time of submission or, on a core, of dispatch (R363). -/
  since : Nat
  /-- The core that was lost with the job: it runs again on another (R143). -/
  avoid : Option Nat
  /-- The epoch floor when the job took its key (R156). -/
  floor : Nat
  deriving DecidableEq, Repr

/-- One copy of the key store (R152). `epochs`: floor and highest issued by NSID. -/
structure KeyStore where
  state : Nat
  gen : Nat
  serial : Nat
  kcv : Bytes
  wrapped : Bytes
  tag : Bytes
  epochs : Tab (Nat × Nat)
  deriving DecidableEq, Repr

/-- Cipher cores, scheduler, key unit and key store (R140–R158). `cache` lists tenant, NSID and epoch of the derived
keys, most recently used first; a key itself is derived from K_domain wherever it is used. -/
structure CphSt where
  jobs : List CphJob
  nextId : Nat
  cache : List (Nat × Nat × Nat)
  deriving_ : Option (Nat × Nat × Nat)
  kDomain : Option Bytes
  katFail : Bool
  coreFail : Nat
  noCopy : Bool
  store0 : Option KeyStore
  store1 : Option KeyStore
  peerMatch : Bool
  secret : Option Bytes
  secretAt : Option Nat
  /-- A pairing transfer is under way with this receiver. -/
  pairing : Option Nat
  deriving DecidableEq, Repr

/-- A message sent on Gusset (R218–R227). -/
inductive GMsg where
  | recordMirror (head : MirrorHead) (bytes : Bytes)
  | windowMirror (index offset key : Nat) (bytes : Bytes)
  | writeNotice (head : MirrorHead)
  | transportNotice (n : Notice)
  | foldNotice (id fold : Nat)
  | tickAck (bed tick : Nat)
  | tickDelta (bed tick : Nat) (entries : List DeltaEntry)
  | linkAck (nak : Nat)
  | proxy (id : Nat) (cmd : DriveCmd)
  | proxyResult (id : Nat) (status : DriveStatus) (data : Bytes)
  | control (kind bed msgId : Nat) (body : Bytes)
  | joinPiece (bed msgId sectors : Nat) (piece : JoinPiece)
  | accData (bed msgId sectors band fold : Nat) (acc : List (Nat × Bytes × Bytes))
  | test
  deriving DecidableEq, Repr

/-- What a delivered frame releases (R221, R222, R224). -/
inductive OnDelivery where
  | nothing
  | stagedWrite (bed : Nat)
  | ack (qp psn : Nat)
  | request (qp : Nat)
  | window (qp psn : Nat)
  | drive (id : Nat)
  deriving DecidableEq, Repr

/-- A message sent on Gusset and not yet acknowledged, its first and last frame (R219, R221). -/
structure GTx where
  seq : Nat
  last : Nat
  bed : Nat
  msg : GMsg
  sentAt : Nat
  tries : Nat
  release : OnDelivery
  /-- Its frames have been sent once. -/
  out : Bool
  deriving DecidableEq, Repr

/-- Gusset, the copy tick and the heartbeats (R217–R244). -/
structure GusSt where
  link : Bool
  retrain : Bool
  retrainAt : Option Nat
  downAt : Option Nat
  txSeq : Nat
  rxSeq : Nat
  unacked : List GTx
  ackAt : Option Nat
  nextMsg : Nat
  miss1 : Nat
  miss2 : Nat
  got1 : Bool
  got2 : Bool
  seq1 : Option Nat
  seq2 : Option Nat
  /-- L of R232: time of the last valid word on either path. -/
  lastValid : Option Nat
  lastWord : Option HbWord
  lastGood : Option HbWord
  fault1At : Option Nat
  fault2At : Option Nat
  declared : Bool
  declaredAt : Nat
  hbSeq : Nat
  /-- When the next heartbeat word is sent, and when the next millisecond of the miss counts ends (R230, R232). -/
  hbAt : Nat
  missAt : Nat
  /-- The step of R236 the running takeover has reached, and its t0. -/
  takeT0 : Option Nat
  announced : Nat
  /-- Number of the copy tick that runs, the time it ends, and the ends of ticks not yet acknowledged (R226, R228). -/
  tick : Nat
  tickEndAt : Option Nat
  ends : List (Nat × Nat)
  acked : Nat
  /-- Last tick acknowledged for each bed. -/
  ackedBed : Tab Nat
  ackedLatUs : Nat
  /-- Tick last acknowledged as standby (R231 bytes 10–11). -/
  ackSent : Nat
  detachAsked : Nat
  unitsBad : Nat
  testNext : Nat
  peerKcv : Option Bytes
  /-- Part number of the peer, once it is known (R1, R31; assumption 29). -/
  peerPart : Option Nat
  /-- Entries of the running tick, by bed (R226). -/
  delta : Tab (List DeltaEntry)
  /-- Deltas of the ticks that ended during a core episode: bed, tick, entries (R317). -/
  late : List (Nat × Nat × List DeltaEntry)
  handover : Option Nat
  deriving DecidableEq, Repr

/-- An activity known to the arbiter (R370–R373). State: 0 running, 1 deferred, 2 paused. -/
structure Activity where
  code : Nat
  bed : Option Nat
  st : Nat
  handle : Nat
  forced : Bool
  /-- Target of an activation, Band of a checkpoint, member of an insertion, NSID of a rewrap or of a self-test. -/
  arg : Nat
  /-- Session and request that a later DEFERRED response goes to. -/
  session : Option (Nat × Nat)
  /-- Association that asked for a self-test (R50); 0xFFFF for none. -/
  starter : Nat
  deriving DecidableEq, Repr

/-- Statuses of a service response (R381). -/
inductive SvcStatus where
  | ok | cfgBusy | refused | deferred | badMessage | badField | imageInvalid | rollback | wrongState | noRoom
  | retentionHeld | romOnly
  deriving DecidableEq, Repr

/-- A response of the service protocol (R379, R382). -/
structure SvcResp where
  session : Nat
  request : Nat
  type : Nat
  status : SvcStatus
  body : Bytes
  deriving DecidableEq, Repr

/-- An open session (R378, R379). -/
structure Session where
  key : Bytes
  lastReq : Nat
  responses : List SvcResp
  at_ : Nat
  deriving DecidableEq, Repr

/-- A verified image in a Peruhar slot (R385): versions by target 1–9. -/
structure ImageInfo where
  version : Nat
  secVer : Nat
  major : Nat
  minor : Nat
  sections : Tab Nat
  deriving DecidableEq, Repr

/-- An image install in progress (R386). -/
structure Install where
  session : Nat
  slot : Nat
  length : Nat
  got : Mem
  have_ : List Nat
  blocks : List Nat
  deriving DecidableEq, Repr

/-- A section activation (R387, R388). Phase as MNT_ACTV. -/
structure Activation where
  target : Nat
  phase : Nat
  slot : Nat
  forced : Bool
  healthAt : Option Nat
  failed : Bool
  deriving DecidableEq, Repr

/-- The one open service Rill job (R382). -/
structure SvcJob where
  session : Nat
  desc : RillDesc
  input : Mem
  output : Bytes
  deriving DecidableEq, Repr

/-- A retire of key epochs whose jobs have still to finish (R156): it is answered with the records counted. -/
structure RetireWait where
  session : Nat
  request : Nat
  nsid : Nat
  upTo : Nat
  count : Nat
  deriving DecidableEq, Repr

/-- Maintenance and update (R370–R394). The directory: bit t − 1 of `active` is the slot of target t. -/
structure MntSt where
  acts : List Activity
  nextHandle : Nat
  sessions : Tab Session
  nextSession : Nat
  confirmed : Bool
  install : Option Install
  activation : Option Activation
  images : Tab ImageInfo
  active : Nat
  trial : Nat
  major : Nat
  minor : Nat
  svcJob : Option SvcJob
  rackPieces : Tab Bytes
  randoms : Nat
  retires : List RetireWait
  deriving DecidableEq, Repr

/-- A frame held by Basin for an output (R162, R166, R169). `inPort` is its crossbar input (R163). -/
structure QFrame where
  inPort : Nat
  cls : Nat
  length : Nat
  lossless : Bool
  ce : Bool
  at_ : Nat
  /-- It lies in a bank that is draining toward a state change (R175). -/
  old : Bool
  head : Bytes
  /-- It lies in the through-buffer; else the bank that holds it (R162; assumption 68). -/
  thru : Bool
  bank : Nat
  /-- Cells of its egress queue when it was enqueued (R179). -/
  depth : Nat
  /-- An ECN-capable IP frame; an IEEE 1588 event message (R161, R168, R306). -/
  ecn : Bool
  ptp : Bool
  deriving DecidableEq, Repr

/-- One egress class queue of a network port (R166, R167, R206, R210). `bucket` is the shaper's level in milli-bytes,
`none` a full one. -/
structure EgQueue where
  frames : List QFrame
  pausedTo : Option Nat
  pausedFrom : Option Nat
  /-- PAUSE_WD as it was when the running watchdog started (R180). -/
  wd : Nat
  /-- The pause watchdog has tripped; the time it is lossless again, once the partner's pause has ended. -/
  tripped : Bool
  restoreAt : Option Nat
  bucket : Option Int
  deficit : Nat
  deriving DecidableEq, Repr

/-- A running or pending gate list (R212, R213): entries of gate mask and interval in ns, cycle and start. -/
structure GateList where
  entries : List (Nat × Nat)
  cycle : Nat
  start : Nat
  deriving DecidableEq, Repr

/-- A network port (R159–R177, R205–R215). Ring state as BSN_RINGSTAT: 0 forwarding, 1 blocked on signal failure,
2 blocked until NR-RB, 3 down. `sending` is the frame that is leaving, with the end of its count. -/
structure NetPort where
  link : Bool
  holdAt : Option Nat
  fec : Nat
  ring : Nat
  holdoffAt : Option Nat
  queues : Tab EgQueue
  sending : Option (QFrame × Bool)
  /-- Cells held by arrivals of each class, whether the source is paused, and the next repeat of the pause (R166). -/
  held : Tab Nat
  paused : Nat
  pfcAt : Tab Nat
  oper : Option GateList
  admin : Option GateList
  entry : Nat
  turn : Nat
  /-- Frames of internal sources that crossbar credits hold back, oldest first (R166). -/
  credit : List QFrame
  /-- Frames that NET_CTRL.LOOPBACK has turned round inside the port, oldest first (R180). -/
  loop : List QFrame
  /-- Device time of the last IEEE 1588 event message received for, and sent by, the control path (R161). -/
  rxStamp : Option Nat
  txStamp : Option Nat
  /-- The time the frame that is leaving ends, and the time of the last queue sample (R210, R215). -/
  sendEnd : Nat
  smpAt : Nat
  deriving DecidableEq, Repr

/-- Basin, ring protection, header capture and the tenant policers (R162–R179, R207). -/
structure NetSt where
  ports : Tab NetPort
  node : Nat
  guardAt : Option Nat
  drainAt : Option Nat
  capRing : Tab Bytes
  capCount : Nat
  capSeen : Tab Nat
  capSec : Nat
  capN : Nat
  /-- Policer buckets by tenant position, in milli-bytes; an absent one is full. -/
  pol : Tab Nat
  /-- What waits for the control cores during a core episode, oldest first: the frames of the control-path queues, and the
  Connect capsules and drive completions that arrive meanwhile (R317). -/
  ctl : List Instr
  /-- The front of `ctl` is being taken. -/
  serving : Bool
  deriving DecidableEq, Repr

/-- A message that arrives on a queue pair (R190, R191): its first PSN and, once its first packet is known, its operation,
window and base; its last PSN once that is known. -/
structure RxMsg where
  first : Nat
  op : RdmaOp
  known : Bool
  base : Nat
  rkey : Nat
  imm : Option Nat
  last : Option Nat
  data : Mem
  len : Nat
  deriving DecidableEq, Repr

/-- A request of the queue pair's own (R185–R187). Kind: 1 SEND, 2 SEND with immediate, 3 WRITE, 4 READ. -/
structure TxReq where
  kind : Nat
  first : Nat
  packets : Nat
  length : Nat
  imm : Nat
  rkey : Nat
  remote : Nat
  data : Bytes
  cap : Option Cap
  sentAt : Nat
  counter : Option Nat
  /-- Command slot of the request, for its notice (R224). -/
  slot : Nat
  deriving DecidableEq, Repr

/-- A queue pair (R181–R194). State: 0 being connected, 1 ready, 2 Error, 3 ended and kept from reuse until `freeAt`. -/
structure Qp where
  gen : Nat
  qpn : Nat
  st : Nat
  mtu : Nat
  depth : Nat
  size : Nat
  assoc : Nat
  qid : Nat
  remoteGid : Nat
  remoteQpn : Nat
  remoteMac : Nat
  vlan : Nat
  /-- The local address it is reached by: with it its QPN names it (R238). -/
  localMac : Nat
  paths : Nat
  retryCnt : Nat
  rnrCnt : Nat
  timeout : Nat
  freeAt : Option Nat
  -- responder
  ePsn : Nat
  msn : Nat
  got : List Nat
  held : List Packet
  msgs : List RxMsg
  runLen : Nat
  runAt : Option Nat
  acked : Nat
  /-- PSNs of capsules and FLUSHes whose tick the standby has not acknowledged, with that tick (R188, R200). -/
  ackHold : List (Nat × Nat)
  /-- PSNs of window WRITEs whose mirror copy Gusset has not delivered (R188, R196). -/
  mirHold : List Nat
  gapAt : Option Nat
  nakSent : Bool
  /-- PSNs of the FLUSHes received and not yet acknowledged (R183, R200). -/
  flushes : List Nat
  cnpAt : Option Nat
  -- requester
  sq : List TxReq
  sent : List TxReq
  nextPsn : Nat
  retries : Nat
  rnrLeft : Nat
  ackAt : Option Nat
  rnrAt : Option Nat
  rate : Nat
  rateAt : Option Nat
  rtt : Nat
  sampled : Bool
  /-- The probe of a taken-over queue pair has been sent. -/
  probing : Bool
  /-- A taken-over queue pair awaits its probe's answer: the requests its former owner had announced, with the arrival number of
  their command in place of its slot (R238). -/
  probe : Option (List Notice)
  /-- The Sluice half that serves it, and the time by which its move to the other ends (R182). -/
  half : Nat
  moveBy : Option Nat
  /-- GAP_MIN_US in µs as it was when the gap's age began (R204). -/
  gapMin : Nat
  /-- What the standby was last told of it (R226). -/
  told : Option QpCopy
  deriving DecidableEq, Repr

/-- Sluice (R181–R203). `gens` is the last generation given to each index, `counters` value and last immediate. -/
structure SluSt where
  qps : Tab Qp
  gens : Tab Nat
  windows : Tab Win
  winGen : Nat
  trigs : List Trig
  nextEntry : Nat
  counters : Tab (Nat × Nat)
  heldCells : Nat
  half1 : Bool
  deriving DecidableEq, Repr

/-- An order being carried out or queued (R254, R255). -/
structure OrderRec where
  id : Nat
  target : Nat
  flag0 : Bool
  sender : Nat
  planGen : Nat
  deriving DecidableEq, Repr

/-- An order the manager has sent (R255). -/
structure SentOrder where
  id : Nat
  target : Nat
  flag0 : Bool
  sentAt : Nat
  limitAt : Option Nat
  late : Bool
  deriving DecidableEq, Repr

/-- Rack manager and worker (R245–R259). `view` is the holder's serial and the expiry; `status` the latest report of each
controller, by rack-table index, with its time. Role: 0 worker, 1 candidate, 2 manager. -/
structure RackSt where
  epoch : Nat
  view : Option (Nat × Nat)
  startAt : Nat
  role : Nat
  claimAt : Option Nat
  countAt : Option Nat
  claimed : Nat
  accepts : List Nat
  renewAt : Option Nat
  confirmAt : Option Nat
  renewExpiry : Nat
  replies : List Nat
  confirmed : Nat
  rounds : Nat
  lastSend : Tab Nat
  status : Tab (StatusBody × Nat)
  missed : Tab Nat
  wakes : List (Nat × Nat × Nat)
  orders : Tab SentOrder
  nextOrder : Nat
  planGen : Nat
  running : Option OrderRec
  queued : Option OrderRec
  /-- Orders ended since the epoch began: sender, order ID, result. -/
  done : List (Nat × Nat × Nat)
  owed : List (Nat × Nat × Nat)
  appliedGen : Nat
  darkWakeAt : Option Nat
  /-- Controllers ordered to take over their peer (R256), and unlisted controllers heard (R247). -/
  given : List Nat
  unlisted : List Nat
  deriving DecidableEq, Repr

/-- A read request of endpoint function 0 (R334–R336). -/
structure EptRead where
  fetch : EptFetch
  length : Nat
  deadline : Option Nat
  deriving DecidableEq, Repr

/-- A completion queue of endpoint function 0 (R326, R333): its size, the head the computer wrote, the tail, and its vector. -/
structure EptCq where
  size : Nat
  head : Nat
  tail : Nat
  vec : Option Nat
  deriving DecidableEq, Repr

/-- The host endpoint (R323–R338). `cfg0` and `cfg1` hold what the computer wrote to configuration space, by dword;
`tails` the submission doorbells by queue, `fetched` how far each was fetched; `pool` the peer pool. -/
structure EptSt where
  perstLow : Bool
  link : Bool
  speed : Nat
  width : Nat
  upAt : Option Nat
  crsTo : Option Nat
  wedge0 : Bool
  wedge1 : Bool
  cfg0 : Tab Word
  cfg1 : Tab Word
  tags : Tab EptRead
  quar : Tab Nat
  waitReads : List (EptFetch × Nat)
  tails : Tab Nat
  cqs : Tab EptCq
  fetched : Tab Nat
  pool : Mem
  refusedAt : Tab Nat
  /-- Function 1's MSI-X table by dword, and the pending bits of both functions. -/
  msix1 : Tab Word
  pba0 : Nat
  pba1 : Nat
  deriving DecidableEq, Repr

/-- The performance monitor (R355–R368): counter values, their shadow copy, wrapped counters, counters whose occupancy was
above the threshold, bins (32 h + b), the sample buffer and the samples selected by arrival number. -/
structure PmuSt where
  ctr : Tab Nat
  shadow : Tab Nat
  ovf : Nat
  above : Nat
  bins : Tab Nat
  smpSeen : Nat
  smpWritten : Nat
  /-- Sequence numbers of the records not yet read. -/
  smpUnread : List Nat
  smpRing : Tab Bytes
  smpPicked : List Nat
  smpSec : Nat
  smpN : Nat
  rdStat : Nat
  rdReady : Bool
  rdData : Bytes
  deriving DecidableEq, Repr

/-- NAKs Sluice sends (R185, R192, R203). -/
inductive RdmaNak where
  | sequence | invalidRequest | remoteAccess
  deriving DecidableEq, Repr

/-- Connection management messages Sluice sends (R183, R184). -/
inductive CmKind where
  | rep | rej | drep | dreq
  deriving DecidableEq, Repr

/-- What the part puts out, in one list, newest first (assumption 3): the model's own record of its outputs. -/
inductive Out where
  | completion (cap : Cap) (status dw0 dw1 : Nat)
  | hostData (cap : Cap) (bytes : Bytes)
  /-- A data write of endpoint function 0, with its Relaxed Ordering attribute (R333). -/
  | eptData (cap : Cap) (relaxed : Bool) (bytes : Bytes)
  | drive (id : Nat) (cmd : DriveCmd)
  | gusset (seq bed : Nat) (msg : GMsg) (frames : List Bytes)
  | heartbeat (path : Nat) (word : Bytes)
  | regData (path : AccessPath) (addr : Nat) (value : Word)
  /-- A response of the service protocol and its message with header and tag (R379). -/
  | service (r : SvcResp) (message : Bytes)
  | rillDone (record output : Bytes)
  | cipherDone (record output : Bytes)
  | keyStore (copy : Nat) (image : Bytes)
  | rewrapDone (nsid upTo : Nat)
  | uart (text : Bytes)
  | bmc (bytes : Bytes)
  | msix (fn vector : Nat)
  | pps (high : Bool)
  | led (slot : Nat) (on : Bool)
  | announce (address : Nat)
  | frame (port : Nat) (f : QFrame) (cut : Bool)
  /-- The frame leaving `port` ends after `bytes` bytes, with the inverse of their FCS over them (R171). -/
  | badTail (port : Nat) (bytes : Nat)
  /-- The departure of an event message of IEEE 1588: its time stamp and the residence time added to its correctionField (R161,
  R306). -/
  | ptpSent (port : Nat) (stamp residence : Nat)
  /-- An event message handed to the control path with its time stamp (R161). -/
  | ptpTaken (port : Nat) (stamp : Nat)
  | toUnit (unit : Nat) (length : Nat) (head : Bytes)
  /-- The priorities named, as a mask (R166). -/
  | pfc (port : Nat) (prios : Nat) (quanta : Nat)
  | raps (port : Nat) (req : RapsReq) (hdr : RapsHdr)
  | rdmaAck (qp psn : Nat)
  | rdmaNak (qp psn : Nat) (kind : RdmaNak)
  /-- One packet of a request, with its UDP source port and the placement header of a spraying queue pair (R194). -/
  | rdmaPacket (qp psn kind length : Nat) (udpPort : Option Nat) (place : Option PlaceHdr)
  | cnp (qp : Nat)
  | cm (kind : CmKind) (qp : Nat) (status : Nat) (priv : Bytes)
  | flushed (entry : Nat)
  | rack (index : Nat) (type : Nat) (message : Bytes)
  | cfgAnswer (fn : Nat) (status : Nat) (value : Word)
  | tlp (status : Nat) (data : Bytes)
  | eptRead (tag : Nat) (fetch : EptFetch) (length : Nat) (relaxed : Bool)
  /-- An error message of a function: severity 0 correctable, 1 non-fatal, 2 fatal (R338). -/
  | errMsg (fn severity : Nat)
  deriving DecidableEq, Repr

/-! ### Values after a reset (assumption 1 where the spec gives none) -/

def RegFile.init : RegFile := ⟨.empty, .empty, []⟩

def RstSt.init : RstSt :=
  { episode := none, wdCore0 := none, wdCores := none, startAt := none, phase := 0, fail := 0, svcWait := false
    slot := 0, cfgDefaulted := false, schemaReset := false, keyFail := false, sysrstLow := false }

def PwrSt.init : PwrSt :=
  { railOk := 0x1FF, pf := none, pfLow := false, pfPhase := 0, pfHighAt := none, on := 0, rising := [], waitOn := 0
    waitOff := 0, draining := 0, selfRefresh := 0 }

def ClkSt.init : ClkSt :=
  { refs := 0xF, rootLock := true, holdover := false, holdAt := none, refGoodAt := none, locked := false, good := 0
    bad := 0, sampleAt := none, port := 0, offset := 0, adj := 0, tod := none, todSet := false, ppsTo := 0 }

def SrcSt.init : SrcSt :=
  { count := 0, wstart := 0, state := 0, fencedAt := 0, quietAt := none, checking := false, recov := []
    reacting := false, recSec := 0, recN := 0, recLeft := 0 }

def ThmSt.init : ThmSt :=
  { srcs := .empty, fault := false, configured := [], next := 1, mramOk := false, staged := [], rdStat := 0
    rdReady := false, rdData := [], faultHist := [], recs := .empty, refill := false, formatted := false }

/-- A slot channel after a reset: off, its models at the ambient (R276, R277). -/
def Chan.init : Chan :=
  { st := .off, request := false, auto := false, present := false, raw := false, dbAt := none, lostAt := none
    ctx := .startUp, insAt := none, insDone := false, met := none, joinAt := none, joinLooked := false, limitUs := 0
    rampMaxAt := none, joining := false, pg := false, joined := false, rev := false, cause := 0, repeat_ := 0
    retryAt := none, pg60At := none, d1hs := 0, d2hs := 0, d1rb := 0, d2rb := 0, vout := 0, iout := 0
    testing := false, testAt := none, pwrdisAt := none, seated := false }

def SpcSt.init : SpcSt :=
  { chans := .empty, vin := 0, vinIn := false, vinSince := 0, seqRun := false, dieC := 0, swapHold := false }

def CmdSt.init : CmdSt :=
  { assocs := .empty, queues := .empty, cmds := .empty, arrival := 0, wakeAt := none, bucket := 0, bucketAt := 0
    selfTest := none, dstLog := [], errLog := [], errCount := 0, smartWarn := 0, temp := 0, stopped := false, lastIo := 0 }

def CfgData.init : CfgData :=
  { identity := [], addrs := [], rackKey := none, svcKey := none, beds := .empty, ns := .empty, tenants := .empty
    eptTenant := 0, rack := [], rackBytes := [], gpio := [] }

def CfgSt.init : CfgSt :=
  { copy0 := none, copy1 := none, data := CfgData.init, pieces := .empty }

def CmdWork.init : CmdWork :=
  { mapDelta := [], mapToWrite := false, idxPut := none, idxDel := false, commitToWrite := false
    commitIssued := false, commitBody := [], member := none, moveFrom := [], moveSerial := none, folded := false
    parked := false, resumed := false, stored := 0, hostBytes := 0, begun := false
    spill := false, bolt := none, looked := [], path := 1 }

def Band.init : Band :=
  { gen := 0, st := 0, retired := false, acc := none, lastFold := 0, ckptAt := none, stopped := false, snap := 0
    sinceSnap := false, lateFold := false, closeWanted := false, digCount := 0, digSum := 0, reloadPending := false }

def StandbyCopy.init : StandbyCopy :=
  { cmds := .empty, board := [], qps := .empty, mirrored := [], notices := [], tick := 0, arrival := 0, asked := [], adopt := []
    joining := false, requested := false, joinTick := 0, lost := [], lostFull := false, windows := .empty, trigs := [], counters := .empty }

def Bed.init : Bed :=
  { owned := false, joined := false, peerJoined := false, copying := false, detached := false, fenced := false, left := false
    mounted := false, n := 0, hMib := 64, e := 0, eIdx := 0, fillW0 := 4, openMax0 := 64, spill0 := 64, bedId := 0
    created := 0, descGen := 0, st := 0, bandCount := 0, members := .empty, fill := [], bands := .empty, index := []
    map := .empty, mapDirty := [], tblDirty := [], cached := [], pinned := [], serial := 0, fold := 0, staged := [], ckpts := [], ckptCount := 0
    ckptTime := 0, ckptSnap := 0, snapSlot := 0, queued := [], rebuild := none, resync := [], compact := none
    rewrap := none, standby := StandbyCopy.init, inFlight := [], preemptAt := none, reclaimAt := none
    takePending := false, stands := [], goingOff := false }

def DrvPort.init : DrvPort :=
  { link := false, speed := 0, width := 0, peerLink := true, ready := false, readyAt := none, resetting := false
    unreachAt := none, info := none, reserved := false }

def DrvSt.init : DrvSt := ⟨.empty, .empty, 0, 0⟩

def RillSt.init : RillSt := ⟨[], .empty, .empty, .empty, 0, false⟩

/-- An empty key store as a new part holds it (R153, R390 step 2; assumption 1). -/
def KeyStore.init : KeyStore :=
  { state := 0, gen := 1, serial := 0x000000A100000001, kcv := List.replicate 4 0, wrapped := [], tag := []
    epochs := .empty }

def CphSt.init : CphSt :=
  { jobs := [], nextId := 0, cache := [], deriving_ := none, kDomain := none, katFail := false, coreFail := 0
    noCopy := false, store0 := some KeyStore.init, store1 := some KeyStore.init, peerMatch := false, secret := none, secretAt := none
    pairing := none }

def GusSt.init : GusSt :=
  { link := false, retrain := false, retrainAt := none, downAt := none, txSeq := 0, rxSeq := 0, unacked := []
    ackAt := none, nextMsg := 1, miss1 := 0, miss2 := 0, got1 := false, got2 := false, seq1 := none, seq2 := none
    lastValid := none, lastWord := none, lastGood := none, fault1At := none, fault2At := none, declared := false
    declaredAt := 0, hbSeq := 0, hbAt := 0, missAt := 0, takeT0 := none, announced := 0, tick := 0, tickEndAt := none, ends := []
    acked := 0, ackedBed := .empty, ackedLatUs := 0, ackSent := 0, detachAsked := 0, unitsBad := 0, testNext := 0, peerKcv := none, peerPart := none
    delta := .empty, late := [], handover := none }

def MntSt.init : MntSt :=
  { acts := [], nextHandle := 1, sessions := .empty, nextSession := 1, confirmed := false, install := none
    activation := none, images := .empty, active := 0, trial := 0, major := 1, minor := 0, svcJob := none
    rackPieces := .empty, randoms := 0, retires := [] }

def EgQueue.init : EgQueue :=
  { frames := [], pausedTo := none, pausedFrom := none, tripped := false, restoreAt := none, bucket := none, deficit := 0
    wd := 20 }

def NetPort.init : NetPort :=
  { link := false, holdAt := none, fec := 0, ring := 3, holdoffAt := none, queues := .empty, sending := none, held := .empty
    paused := 0, pfcAt := .empty, oper := none, admin := none, entry := 0, turn := 0, credit := [], loop := []
    rxStamp := none, txStamp := none, sendEnd := 0, smpAt := 0 }

def NetSt.init : NetSt :=
  { ports := .empty, node := 0, guardAt := none, drainAt := none, capRing := .empty, capCount := 0, capSeen := .empty
    capSec := 0, capN := 0, pol := .empty, ctl := [], serving := false }

def SluSt.init : SluSt :=
  { qps := .empty, gens := .empty, windows := .empty, winGen := 0, trigs := [], nextEntry := 0, counters := .empty
    heldCells := 0, half1 := false }

def RackSt.init : RackSt :=
  { epoch := 0, view := none, startAt := 0, role := 0, claimAt := none, countAt := none, claimed := 0, accepts := []
    renewAt := none, confirmAt := none, renewExpiry := 0, replies := [], confirmed := 0, rounds := 0, lastSend := .empty
    status := .empty, missed := .empty, wakes := [], orders := .empty, nextOrder := 1, planGen := 0, running := none
    queued := none, done := [], owed := [], appliedGen := 0, darkWakeAt := none, given := [], unlisted := [] }

def EptSt.init : EptSt :=
  { perstLow := false, link := false, speed := 0, width := 0, upAt := none, crsTo := none, wedge0 := false, wedge1 := false
    cfg0 := .empty, cfg1 := .empty, tags := .empty, quar := .empty, waitReads := [], tails := .empty, cqs := .empty
    fetched := .empty, pool := .empty, refusedAt := .empty, msix1 := .empty, pba0 := 0, pba1 := 0 }

def PmuSt.init : PmuSt :=
  { ctr := .empty, shadow := .empty, ovf := 0, above := 0, bins := .empty, smpSeen := 0, smpWritten := 0, smpUnread := []
    smpRing := .empty, smpPicked := [], smpSec := 0, smpN := 0, rdStat := 0, rdReady := false, rdData := [] }

/-- The fuses of the modelled part: an NE7240 (assumption 1). -/
def Fuses.init : Fuses :=
  { part := 0x7240, serial := 0x000000A100000001, secVer := 0, revoked := 0, deviceKey := List.replicate 32 0x5A#8 }

def Shelf.init : Shelf :=
  { st := .held, move := none, strapCode := 0, strapInvalid := false, strapRounds := 0, strapOhms := 0
    strapDone := false, conflict := false, stopped := false, peerState := 0xF }

/-- The part's state. -/
structure State where
  /-- Time since power-on in ns, the fraction of it not yet counted, and what must be added for device time (R305). -/
  now : Nat
  frac : Nat
  toff : Int
  fuses : Fuses
  regs : RegFile
  shelf : Shelf
  rst : RstSt
  pwr : PwrSt
  clk : ClkSt
  thm : ThmSt
  spc : SpcSt
  cmd : CmdSt
  cfg : CfgSt
  beds : Tab Bed
  drv : DrvSt
  rill : RillSt
  cph : CphSt
  gus : GusSt
  mnt : MntSt
  net : NetSt
  slu : SluSt
  rack : RackSt
  ept : EptSt
  pmu : PmuSt
  mram : Mem
  nor : Mem
  out : List Out
  /-- How many free values have been drawn (assumption 12). -/
  free : Nat
  /-- The commands waiting, first in, first out. -/
  pending : List Instr
  deriving DecidableEq, Repr

/-- Power has just been applied: source 0 holds a power-on episode, the controller is Held (R24, R310, R312). -/
def State.reset : State :=
  { now := 0, frac := 0, toff := 0, fuses := Fuses.init, regs := RegFile.init, shelf := Shelf.init
    rst := { RstSt.init with
      episode := some
        { reach := 3, first := 0, joined := 1, asserted := 1, began := 0, stretchAt := 2000000, stretched := false
          lineAt := none, deadline5 := none }
      sysrstLow := true }
    pwr := PwrSt.init, clk := ClkSt.init, thm := ThmSt.init, spc := SpcSt.init, cmd := CmdSt.init
    cfg := CfgSt.init, beds := .empty, drv := DrvSt.init, rill := RillSt.init, cph := CphSt.init
    gus := GusSt.init, mnt := MntSt.init, net := NetSt.init, slu := SluSt.init, rack := RackSt.init
    ept := EptSt.init, pmu := PmuSt.init, mram := .empty, nor := .empty, out := [], free := 0, pending := [] }

end Sys2Proof.Machine
end

