-- ==== Sys2Proof/Machine/Flags.lean ====
section
/-! DEFINITION. Register fields: reading and writing a field of a dword, reset values, saturating event counters,
the boundary of RWL fields, and what each reset level keeps (R7, R310, R374). -/

namespace Sys2Proof.Machine

/-- Bits [hi:lo] of a dword. -/
def getBits (w : Word) (hi lo : Nat) : Nat := (w.toNat / 2 ^ lo) % 2 ^ (hi + 1 - lo)

/-- The dword with bits [hi:lo] set to `v`. -/
def putBits (w : Word) (hi lo v : Nat) : Word :=
  BitVec.ofNat 32 (w.toNat % 2 ^ lo + (v % 2 ^ (hi + 1 - lo)) * 2 ^ lo + w.toNat / 2 ^ (hi + 1) * 2 ^ (hi + 1))

/-- The instance numbers of a register array at an address. -/
def RegDesc.inst (r : RegDesc) (addr : Nat) : Option (Nat × Nat) :=
  if addr < r.base then none else
  let o := addr - r.base
  let i := o / r.s1
  let j := o % r.s1 / r.s2
  if i < r.d1 && j < r.d2 && i * r.s1 + j * r.s2 = o then some (i, j) else none

/-- The register at an address, with its instance numbers (R395). -/
def findReg (addr : Nat) : Option (RegDesc × Nat × Nat) :=
  regTable.findSome? (fun r => (r.inst addr).map (fun ij => (r, ij.1, ij.2)))

/-- Reset values that depend on the part or on the instance: RILL_CFG.PAIR_EN (R139), CPH_CFG.CORE_EN (R158),
NET_DSCPMAP (R180). -/
def resetOf (part : Nat) (r : RegDesc) (j : Nat) (f : FieldDesc) : Nat :=
  if part = 0x7236 && (r.base = 0x500000 || r.base = 0x580000) && f.acc = .rwl && f.reset = 0xFF then 0x0F
  else if r.base = 0x100010 then
    (if j = 3 then 0x6DB6DB else if j = 5 then 0x180000 else if j = 6 || j = 7 then 0xFFFFFF else 0)
  else f.reset

/-- A dword after a power-on reset. -/
def resetWord (part addr : Nat) : Word :=
  match findReg addr with
  | none => 0
  | some (r, _, j) => r.fields.foldl (fun w f => putBits w f.hi f.lo (resetOf part r j f)) 0

/-- The stored dword in force at an address. -/
def State.reg (s : State) (addr : Nat) : Word := (s.regs.vals.get? addr).getD (resetWord s.fuses.part addr)

/-- The field in force. -/
def State.fld (s : State) (f : Fld) : Nat := getBits (s.reg f.addr) f.hi f.lo

def State.flag (s : State) (f : Fld) : Bool := s.fld f ≠ 0

def State.setReg (s : State) (addr : Nat) (w : Word) : State :=
  { s with regs := { s.regs with vals := s.regs.vals.put addr w } }

/-- Writes a field as the hardware does. -/
def State.setFld (s : State) (f : Fld) (v : Nat) : State := s.setReg f.addr (putBits (s.reg f.addr) f.hi f.lo v)

/-- Adds to an event counter that saturates. -/
def State.bump (s : State) (f : Fld) (n : Nat) : State := s.setFld f (min (2 ^ (f.hi + 1 - f.lo) - 1) (s.fld f + n))

/-- A dword with its RWL and RWB fields taken from `p`. -/
def RegDesc.pendInto (r : RegDesc) (p w : Word) : Word :=
  r.fields.foldl (fun w f => if f.acc = .rwl || f.acc = .rwb then putBits w f.hi f.lo (getBits p f.hi f.lo) else w) w

/-- The dword as written: the pending copy of RWL fields, the stored value of RWB fields (R7, R374). -/
def State.written (s : State) (addr : Nat) : Word :=
  match s.regs.pend.get? addr, findReg addr with
  | some p, some (r, _, _) => r.pendInto p (s.reg addr)
  | _, _ => s.reg addr

/-- At the named boundary the RWL fields of a dword take their pending values (R374). -/
def State.applyRwl (s : State) (addr : Nat) : State :=
  match s.regs.pend.get? addr, findReg addr with
  | some p, some (r, _, _) =>
    let w := r.fields.foldl (fun w f => if f.acc = .rwl then putBits w f.hi f.lo (getBits p f.hi f.lo) else w) (s.reg addr)
    s.setReg addr w
  | _, _ => s

/-- One RWL field takes its pending value at its own boundary. -/
def State.applyFld (s : State) (f : Fld) : State :=
  match s.regs.pend.get? f.addr with
  | some p => s.setFld f (getBits p f.hi f.lo)
  | none => s

def State.applyRwls (s : State) (addrs : List Nat) : State := addrs.foldl State.applyRwl s

/-- The RWB fields of every dword take their stored values, as at a system reset (R7, R321). -/
def State.applyRwb (s : State) : State :=
  s.regs.pend.keys.foldl (fun s addr =>
    match findReg addr with
    | some (r, _, _) =>
      let p := s.written addr
      s.setReg addr (r.fields.foldl (fun w f => if f.acc = .rwb then putBits w f.hi f.lo (getBits p f.hi f.lo) else w) (s.reg addr))
    | none => s) s

/-- Records the first refused register write in TOP_CFGERR (R11). -/
def State.cfgErr (s : State) (reason addr : Nat) : State :=
  if s.flag F.TOP_CFGERR_VALID then s.setFld F.TOP_CFGERR_MORE 1
  else ((s.setFld F.TOP_CFGERR_VALID 1).setFld F.TOP_CFGERR_REASON reason).setFld F.TOP_CFGERR_ADDR addr

/-- Whether a field survives a reset of level 1 core, 2 system, 3 power-on (R310); the RST block survives 1 and 2. -/
def survives (level addr : Nat) (k : Kept) : Bool :=
  if level = 3 then false
  else if 0x10000 ≤ addr && addr < 0x20000 then true
  else match k with
    | .system => true
    | .core => level = 1
    | .no => false

/-- One dword after a reset of the given level. -/
def resetTo (part level addr : Nat) (w : Word) : Word :=
  match findReg addr with
  | none => 0
  | some (r, _, _) =>
    r.fields.foldl (fun acc f => if survives level addr f.kept then putBits acc f.hi f.lo (getBits w f.hi f.lo) else acc)
      (resetWord part addr)

/-- The register space after a reset of the given level. -/
def RegFile.reset (r : RegFile) (part level : Nat) : RegFile :=
  { vals := r.vals.mapV (fun a w => resetTo part level a w)
    pend := if level = 3 then .empty else r.pend.mapV (fun a w => resetTo part level a w)
    latch := if level = 1 then r.latch else [] }

/-- The part is an NE7236 (R1). -/
def State.is36 (s : State) : Bool := s.fuses.part = 0x7236

/-- Number of Rill cores, cipher cores, DDR channels and network ports of the part (R1). -/
def State.nRill (s : State) : Nat := if s.is36 then 8 else 16
def State.nCph (s : State) : Nat := if s.is36 then 4 else 8
def State.nDdr (s : State) : Nat := if s.is36 then 2 else 4
def State.nNet (s : State) : Nat := if s.is36 then 2 else 4

/-- Registers of an absent instance (R2, R396). -/
def State.absentReg (s : State) (addr : Nat) : Bool :=
  s.is36 && ((0x120000 ≤ addr && addr < 0x140000) || (0x1C3000 ≤ addr && addr < 0x1C5000)
    || (0x803000 ≤ addr && addr < 0x805000))

end Sys2Proof.Machine
end

