-- ==== Sys2Proof/Machine/Pmu.lean ====
section
/-! DEFINITION. The performance monitor: counting events and occupancies, wraps, snapshots, histograms (R355–R363). -/

namespace Sys2Proof.Machine

/-- The monitor runs in Awake and Dormant (R355). -/
def State.pmuOn (s : State) : Bool := s.shelf.st = .awake || s.shelf.st = .dormant

def State.ctrEn (s : State) (n : Nat) : Bool := s.flag (F.PMU_CTR_CFG_EN n)

def State.chained (s : State) (n : Nat) : Bool := n % 2 = 1 && s.flag (F.PMU_CTR_CFG_CHAIN n)

def State.cfgTab (s : State) (fn : Nat) : Tab Word := if fn = 0 then s.ept.cfg0 else s.ept.cfg1

def State.wedged (s : State) (fn : Nat) : Bool := if fn = 0 then s.ept.wedge0 else s.ept.wedge1

/-- The link is up, the function is in D0 and not wedged (R328, R337). -/
def State.fnLive (s : State) (fn : Nat) : Bool :=
  s.ept.link && !s.wedged fn && decide (((s.cfgTab fn).getD 0x44 0).toNat % 4 = 0)

/-- A function answers memory requests: Memory Space of its Command register is set too (R327; assumption 23). -/
def State.fnMemory (s : State) (fn : Nat) : Bool := s.fnLive fn && ((s.cfgTab fn).getD 4 0).getLsbD 1

/-- A function sends requests: Bus Master of its Command register is set too (R327; assumption 23). -/
def State.fnMaster (s : State) (fn : Nat) : Bool := s.fnLive fn && ((s.cfgTab fn).getD 4 0).getLsbD 2

/-- The pending bits of a function's MSI-X vectors (R328). -/
def State.pba (s : State) (fn : Nat) : Nat := if fn = 0 then s.ept.pba0 else s.ept.pba1

def State.setPba (s : State) (fn v : Nat) (on : Bool) : State :=
  if fn = 0 then { s with ept := { s.ept with pba0 := setBit s.ept.pba0 v on } }
  else { s with ept := { s.ept with pba1 := setBit s.ept.pba1 v on } }

/-- A vector is masked, by the function mask or by its entry. No command writes an entry of function 0's table, so that its
entries count as open (assumption 23). -/
def State.msixMasked (s : State) (fn v : Nat) : Bool :=
  ((s.cfgTab fn).getD 0x50 0).getLsbD 30 || (fn ≠ 0 && (s.ept.msix1.getD (4 * v + 3) 1).getLsbD 0)

/-- A function sends an MSI-X vector: not while MSI-X is disabled, and only as a pending bit while it is masked or the function
may not send requests (R328, R337). -/
def State.msix (s : State) (fn v : Nat) : State :=
  if !((s.cfgTab fn).getD 0x50 0).getLsbD 31 then s
  else if s.msixMasked fn v || !s.fnMaster fn then s.setPba fn v true
  else { s with out := .msix fn v :: s.out }

/-- Sends the pending vectors that nothing holds back any more (R328). -/
def State.msixFlush (s : State) (fn : Nat) : State :=
  (List.range (if fn = 0 then 64 else 4)).foldl (fun s v =>
    if bit (s.pba fn) v then (s.setPba fn v false).msix fn v else s) s

/-- A wrap of counter `n` sets its PMU_OVF bit, with MSI-X vector 2 where that is enabled (R357). -/
def State.pmuOvf (s : State) (n : Nat) : State :=
  let was := bit s.pmu.ovf n
  let s := { s with pmu := { s.pmu with ovf := setBit s.pmu.ovf n true } }
  if !was && s.flag F.PMU_CTL_OVF_IRQ then s.msix 1 2 else s

/-- Adds to one 48-bit counter; the second value is the number of wraps. -/
def State.ctrAdd (s : State) (n k : Nat) : State × Nat :=
  let v := s.pmu.ctr.getD n 0 + k
  ({ s with pmu := { s.pmu with ctr := s.pmu.ctr.put n (v % 2 ^ 48) } }, v / 2 ^ 48)

/-- Adds `k` to counter `n`; a wrap is carried into a chained odd counter, or sets the OVF bit (R357, R358). -/
def State.pmuAdd (s : State) (n k : Nat) : State :=
  if k = 0 then s else
  let (s, w) := s.ctrAdd n k
  if w = 0 then s
  else if n % 2 = 0 && s.chained (n + 1) then
    if s.ctrEn (n + 1) then
      let (s, w') := s.ctrAdd (n + 1) w
      if w' = 0 then s else s.pmuOvf (n + 1)
    else s
  else s.pmuOvf n

/-- Counters whose configuration is not at its reset value: only these can be enabled. -/
def State.pmuListed (s : State) : List Nat :=
  (s.regs.vals.keys.filter (fun a => 0x61000 ≤ a && a < 0x61400)).map (fun a => (a - 0x61000) / 4)

/-- Counters that count by themselves now (R357, R358, R360). -/
def State.pmuLive (s : State) : List Nat :=
  if s.pmuOn && !s.flag F.PMU_CTL_FREEZE then s.pmuListed.filter (fun n => s.ctrEn n && !s.chained n) else []

def instMatch (want inst : Nat) : Bool := want = 0xFF || want = inst

/-- `k` events of a code at one instance (R357 mode 0, R359). -/
def State.pmuEvent (s : State) (code inst k : Nat) : State :=
  s.pmuLive.foldl (fun s n =>
    if s.fld (F.PMU_CTR_CFG_MODE n) = 0 && s.fld (F.PMU_CTR_CFG_EVENT n) = code && instMatch (s.fld (F.PMU_CTR_CFG_INST n)) inst
    then s.pmuAdd n k else s) s

def sumN (l : List Nat) : Nat := l.foldl (· + ·) 0

/-- Bytes of the Cistern channels in `chans`. -/
def State.cisternBytes (s : State) (chans : List Nat) : Nat := sumN (chans.map (fun c => s.fld (F.DDR_STAT_SIZE_GIB c) * 2 ^ 30))

/-- The DDR channels in service (R302, R400). -/
def State.chansIn (s : State) : List Nat :=
  (List.range s.nDdr).filter (fun c => s.flag (F.DDR_STAT_TRAINED c) && !s.flag (F.DDR_STAT_RETIRED c))

def cellsOf (length : Nat) : Nat := cdiv length 256

def EgQueue.depth (q : EgQueue) : Nat := sumN (q.frames.map (fun f => cellsOf f.length))

def State.nport (s : State) (n : Nat) : NetPort := s.net.ports.getD n NetPort.init

def NetPort.queue (p : NetPort) (c : Nat) : EgQueue := p.queues.getD c EgQueue.init

/-- Cells of the frame that brings a row of the control-path queues (R162): a MAD's frame takes two, the others one; a row that
waits in a buffer of its own takes none. -/
def ctlCells : Instr → Nat
  | .connect _ _ => 0
  | .driveCommandCompletion _ _ _ => 0
  | .cmReq _ => 2
  | .cmRtu _ => 2
  | .cmRej _ => 2
  | .cmDreq _ => 2
  | _ => 1

/-- Cells of the frames that wait for the control cores. -/
def State.ctlHeld (s : State) : Nat := sumN (s.net.ctl.map ctlCells)

/-- Frames that hold cells: those queued for the network outputs and those leaving them from store (R162). -/
def State.heldFrames (s : State) : List QFrame :=
  s.net.ports.vals.flatMap (fun p => p.queues.vals.flatMap EgQueue.frames
    ++ (match p.sending with | some (f, false) => [f] | _ => []))

/-- Basin cells in use (R162). -/
def State.cellsUsed (s : State) : Nat :=
  sumN (s.heldFrames.map (fun f => cellsOf f.length)) + s.slu.heldCells + s.ctlHeld

/-- An occupancy of R359 for one instance. -/
def State.occ1 (s : State) (code i : Nat) : Nat :=
  if code = 0x202 then (s.drv.cmds.filterT (fun _ c => c.slot = i && c.st = 2)).size
  else if code = 0x305 then ((s.nport (i / 8)).queue (i % 8)).depth
  else if code = 0x602 then
    sumN ((s.slu.qps.vals.filter (fun q => q.half = i)).map (fun q => q.held.length))
  else if code = 0x604 then
    sumN ((s.slu.qps.vals.filter (fun q => q.half = i)).map (fun q => (q.sent.filter (·.kind = 4)).length))
  else if code = 0xA01 then match s.beds.get? i with | some b => (b.bands.filterT (fun _ k => k.st = 1)).size | none => 0
  else if code = 0xA02 then
    match s.beds.get? i with
    | some b => (b.members.vals.filter (fun m => match s.spc.chans.get? m.slot with | some c => c.st = .on | none => false)).length
    | none => 0
  else 0

/-- Number of instances a summed occupancy runs over. -/
def occInstances (code : Nat) : Nat :=
  if code = 0x202 then 24 else if code = 0x305 then 32 else if code = 0x602 || code = 0x604 then 2
  else if code = 0xA01 || code = 0xA02 then 4 else 0

/-- The occupancy of a code at an instance, 0xFF all of them (R359). -/
def State.occupancy (s : State) (code inst : Nat) : Nat :=
  if occInstances code ≠ 0 then
    if inst = 0xFF then sumN ((List.range (occInstances code)).map (s.occ1 code))
    else if inst < occInstances code then s.occ1 code inst else 0
  else if inst ≠ 0xFF then 0
  else if code = 0x400 then s.cellsUsed
  else if code = 0x702 then (s.cmd.cmds.filterT (fun _ c => c.slot.isSome)).size
  else if code = 0x703 then (s.cmd.cmds.filterT (fun _ c => c.phase = .board)).size
  else if code = 0x704 then (s.cmd.cmds.filterT (fun _ c => c.phase = .parked)).size
  else if code = 0x802 then s.rill.running.size
  else if code = 0x902 then (s.cph.jobs.filter (fun j => j.phase = 2)).length
  else if code = 0xB02 then sumN (s.beds.vals.map (fun b => sumN (b.staged.map (fun r => r.bytes.length)))) / 1048576
  else if code = 0xF10 then min 16 (Config.enginesBusy s.now)
  else 0

/-- Bytes that the Cistern channels of an instance move in that time (R359). -/
def State.cisternMoved (s : State) (code inst : Nat) : Nat :=
  sumN ((s.chansIn.filter (instMatch inst)).map (fun c => Config.cisternBytes code c s.now))

/-- `k` control clock cycles pass with the state as it is (R357). -/
def State.pmuCycles (s : State) (k : Nat) : State :=
  if k = 0 then s else
  s.pmuLive.foldl (fun s n =>
    let mode := s.fld (F.PMU_CTR_CFG_MODE n)
    let code := s.fld (F.PMU_CTR_CFG_EVENT n)
    if mode = 0 then (if code = 0xF00 then s.pmuAdd n k
      else if code = 0xB00 || code = 0xB01 then s.pmuAdd n (s.cisternMoved code (s.fld (F.PMU_CTR_CFG_INST n))) else s)
    else
      let v := s.occupancy code (s.fld (F.PMU_CTR_CFG_INST n))
      let high := decide (s.fld (F.PMU_CTR_THR_THRESH n) < v)
      if mode = 1 then (if high then s.pmuAdd n k else s)
      else if mode = 2 then s.pmuAdd n (k * v)
      else
        let was := bit s.pmu.above n
        let s := { s with pmu := { s.pmu with above := setBit s.pmu.above n high } }
        if high && !was then s.pmuAdd n 1 else s) s

/-- The units of a histogram in ns (R362). -/
def histUnit (u : Nat) : Nat :=
  if u = 0 then 10 else if u = 1 then 100 else if u = 2 then 1000 else if u = 3 then 10000 else 1000000

/-- The bin of a value (R362). -/
def histBin (v : Nat) : Nat := if v = 0 then 0 else min 31 (v.log2 + 1)

/-- Adds one value to bin `b` of histogram `h`. -/
def State.binAdd (s : State) (h b : Nat) : State :=
  { s with pmu := { s.pmu with bins := s.pmu.bins.put (32 * h + b) (min 0xFFFFFFFF (s.pmu.bins.getD (32 * h + b) 0 + 1)) } }

def State.histListed (s : State) : List Nat :=
  (s.regs.vals.keys.filter (fun a => 0x60400 ≤ a && a < 0x60500)).map (fun a => (a - 0x60400) / 4)

/-- A value of a source goes to every enabled histogram that selects it (R362, R363). `keep h` says whether the
histogram's command filter lets it in. -/
def State.histAdd (s : State) (src inst v : Nat) (keep : Nat → Bool) : State :=
  if !s.pmuOn || s.flag F.PMU_CTL_FREEZE then s else
  s.histListed.foldl (fun s h =>
    if s.flag (F.PMU_HIST_CFG_EN h) && s.fld (F.PMU_HIST_CFG_SOURCE h) = src && keep h
        && (src ≤ 8 || src = 0x12 || src = 0x15 || instMatch (s.fld (F.PMU_HIST_CFG_INST h)) inst)
    then s.binAdd h (histBin (if src = 0x21 then v else v / histUnit (s.fld (F.PMU_HIST_CFG_UNIT h)))) else s) s

/-- Command filter `f` lets a command in, MIN_US apart (R365). -/
def State.filtMatch (s : State) (f opcode nsid assoc : Nat) (admin : Bool) : Bool :=
  let m := s.fld (F.PMU_FILT_A_OPMASK f)
  opcode &&& m = s.fld (F.PMU_FILT_A_OPCODE f) &&& m
    && (s.fld (F.PMU_FILT_A_NSID f) = 0 || s.fld (F.PMU_FILT_A_NSID f) = nsid)
    && (!s.flag (F.PMU_FILT_B_ASSOC_EN f) || s.fld (F.PMU_FILT_B_ASSOC f) = assoc)
    && s.flag (F.PMU_FILT_A_ADMIN f) = admin

/-- Clears counters, shadow, overflow bits and bins (R361). -/
def State.pmuClearAll (s : State) : State :=
  { s with pmu := { s.pmu with ctr := .empty, shadow := .empty, ovf := 0, bins := .empty } }

/-- An address of the monitor while it does not run: it reads 0 and ignores writes (R355). -/
def State.pmuDeaf (s : State) (addr : Nat) : Bool := 0x60000 ≤ addr && addr < 0x70000 && !s.pmuOn

/-- On entry to Dark the monitor is cleared, and its fields take the values they have after a system episode (R310, R355). -/
def State.pmuReset (s : State) : State :=
  { s with pmu := PmuSt.init, regs := { s.regs with vals := s.regs.vals.filterT (fun a _ => !(0x60000 ≤ a && a < 0x70000)) } }

/-- Copies every counter into the shadow (R360). -/
def State.pmuSnap (s : State) : State := { s with pmu := { s.pmu with shadow := s.pmu.ctr } }

end Sys2Proof.Machine
end

