-- ==== Sys2Proof/Machine/Ops.lean ====
section
/-! DEFINITION. The named operations over the state that every unit uses: outputs, time and timers, power domains
(R300, R301), and the black box in MRAM (R348–R353). -/

namespace Sys2Proof.Machine

/-- Adds an output. -/
def State.emit (s : State) (o : Out) : State := { s with out := o :: s.out }

/-- The time a timer of deadline `t` runs out: time never runs back (assumption 4). -/
def State.at (s : State) (t : Nat) : State := { s.pmuCycles (t - s.now) with now := max s.now t }

/-- Device time in ns (R305). -/
def State.dev (s : State) : Nat := ((s.now : Int) + s.toff).toNat

/-- Device time of a moment of this run. -/
def State.devOf (s : State) (t : Nat) : Nat := ((t : Int) + s.toff).toNat

/-- The next free value (assumption 12). -/
def State.draw (s : State) : Nat := Config.freeValue s.free

def State.drawn (s : State) : State := { s with free := s.free + 1 }

def usec (n : Nat) : Nat := n * 1000
def msec (n : Nat) : Nat := n * 1000000
def sec (n : Nat) : Nat := n * 1000000000

/-! ### What waits for the control cores during a core episode (R317; assumption 57) -/

/-- A core episode runs: control cores and Bobbin engines are in reset. -/
def State.coreStop (s : State) : Bool :=
  match s.rst.episode with
  | some ep => ep.reach = 1
  | none => false

/-- Frames for core 0 wait: the cores are in reset, or earlier frames still wait for them and leave first (R169, R317). -/
def State.ctlWaits (s : State) : Bool := s.coreStop || (!s.net.serving && s.net.ctl.any (fun c => 0 < ctlCells c))

/-- A Connect waits: the cores are in reset, or an earlier Connect still waits for them. -/
def State.connectWaits (s : State) : Bool :=
  s.coreStop || (!s.net.serving && s.net.ctl.any (fun c => match c with | .connect _ _ => true | _ => false))

/-- A frame for core 0 waits in the control-path queues; none beyond their 1,024 cells. -/
def State.waitFrame (s : State) (c : Instr) : State :=
  if s.ctlHeld + ctlCells c ≤ 1024 then { s with net := { s.net with ctl := s.net.ctl ++ [c] } } else s

/-- The same for a frame of a known port: a discard is counted there. -/
def State.waitFrameAt (s : State) (n : Nat) (c : Instr) : State :=
  if s.ctlHeld + ctlCells c ≤ 1024 then s.waitFrame c else s.bump (F.NET_CNT_COUNT n 5) 1

def maskWhere (n : Nat) (p : Nat → Bool) : Nat := (List.range n).foldl (fun m i => setBit m i (p i)) 0

/-- What waits in a buffer of its own. -/
def State.waitCores (s : State) (c : Instr) : State := { s with net := { s.net with ctl := s.net.ctl ++ [c] } }

/-! ### The timebase (R305) -/

/-- One 100 MHz tick: 10 ns of elapsed time, and device time further by the fractional adjustment. -/
def State.tick100MHz (s : State) : State :=
  let f : Int := (s.frac : Int) + s.clk.adj
  { s.pmuCycles 10 with now := s.now + 10, toff := s.toff + f / 4294967296, frac := (f % 4294967296).toNat }

/-! ### Power domains (R300, R301) -/

def State.domOn (s : State) (d : Nat) : Bool := bit s.pwr.on d

/-- Starts waiting switch-ons while fewer than 4 domains change, in ascending number (R301 item 1). -/
def startDomainsF : Nat → State → State
  | 0, s => s
  | n + 1, s =>
    if 4 ≤ s.pwr.rising.length then s else
    match (bitsOf 64 s.pwr.waitOn).head? with
    | none => s
    | some d => startDomainsF n { s with pwr := { s.pwr with
        waitOn := setBit s.pwr.waitOn d false, rising := s.pwr.rising ++ [(d, s.now + usec 20)] } }

def State.startDomains (s : State) : State := startDomainsF 64 s

/-- Asks for a domain to be on; a pending switch-off is cancelled (R301 item 4). -/
def State.domRequestOn (s : State) (d : Nat) : State :=
  if s.domOn d then { s with pwr := { s.pwr with draining := setBit s.pwr.draining d false } }
  else if s.pwr.rising.any (·.1 = d) then s
  else State.startDomains { s with pwr := { s.pwr with waitOn := setBit s.pwr.waitOn d true } }

/-- Switches a drained domain off (R301 item 3). -/
def State.domOff (s : State) (d : Nat) : State :=
  { s with pwr := { s.pwr with
      on := setBit s.pwr.on d false, waitOn := setBit s.pwr.waitOn d false, draining := setBit s.pwr.draining d false
      rising := s.pwr.rising.filter (·.1 ≠ d) } }

/-- Marks a domain whose unit has still to drain. -/
def State.domDrain (s : State) (d : Nat) : State :=
  { s with pwr := { s.pwr with draining := setBit s.pwr.draining d true } }

/-! ### The black box (R348–R353) -/

def bbxSlots : Nat := 262080

/-- MRAM address of the slot of a sequence number (R348). -/
def bbxAddr (q : Nat) : Nat := 4096 + 64 * ((q - 1) % bbxSlots)

/-- The 64 bytes of a record (R350). -/
def bbxBytes (r : BbRec) (q : Nat) : Bytes :=
  let b := le 8 r.time ++ le 2 (r.source + r.flags) ++ [BitVec.ofNat 8 r.severity, BitVec.ofNat 8 r.reaction]
    ++ le 4 r.code ++ fitTo 32 r.context ++ le 8 q ++ zeros 4
  b ++ le 4 (crc32c b)

/-- The 4 KiB header (R348). -/
def bbxHeader (serial next fmtTime : Nat) : Bytes :=
  let b := [0x42, 0x4E, 1, 0] ++ le 8 serial ++ le 8 next ++ le 8 fmtTime ++ zeros 4064
  b ++ le 4 (crc32c b)

/-- Rewrites the header's next sequence number (R351). -/
def State.bbxWriteHeader (s : State) : State :=
  { s with mram := s.mram.writeN 0 (bbxHeader s.fuses.serial s.thm.next (leNat (s.mram.readN 20 8))) }

/-- Writes one record under the next sequence number (R351). -/
def State.bbxCommit (s : State) (r : BbRec) : State :=
  let q := s.thm.next
  State.bbxWriteHeader { s with mram := s.mram.writeN (bbxAddr q) (bbxBytes r q), thm := { s.thm with next := q + 1 } }

/-- Drops the oldest record of severity 0–2, or the oldest of all where there is none (R352). -/
def dropStaged (l : List BbRec) : List BbRec :=
  match l.findIdx? (fun r => r.severity ≤ 2) with
  | some i => l.eraseIdx i
  | none => l.drop 1

/-- Writes a record, or stages it while the MRAM port cannot write (R351, R352). -/
def State.bbxPut (s : State) (r : BbRec) : State :=
  if s.thm.mramOk then s.bbxCommit r
  else
    let l := s.thm.staged
    if l.length < 256 then { s with thm := { s.thm with staged := l ++ [r] } }
    else State.bump { s with thm := { s.thm with staged := dropStaged l ++ [r] } } F.BBX_STAT_SUPPRESSED 1

/-- Writes the staged records, with flag 14 (R352). -/
def State.bbxDrain (s : State) : State :=
  let l := s.thm.staged
  l.foldl (fun s r => s.bbxCommit { r with flags := r.flags ||| 0x4000 }) { s with thm := { s.thm with staged := [] } }

/-- Result of reading the record of a sequence number: 0 record, 1 overwritten, 2 not yet written, 3 slot invalid
(R353, R354). -/
def State.bbxRead (s : State) (q : Nat) : Nat × Bytes :=
  if s.thm.next ≤ q then (2, [])
  else if q = 0 || q + bbxSlots < s.thm.next then (1, [])
  else
    let b := s.mram.readN (bbxAddr q) 64
    if leNat (slice b 60 4) = crc32c (b.take 60) && leNat (slice b 48 8) = q then (0, b) else (3, [])

/-! ### The dirty-Band bitmap in MRAM (R91, R349) -/

def dirtyAddr (b k : Nat) : Nat := 0x1000000 + 0x200000 * b + k / 8

def State.dirty (s : State) (b k : Nat) : Bool := (s.mram.read (dirtyAddr b k)).getLsbD (k % 8)

def State.setDirty (s : State) (b k : Nat) (v : Bool) : State :=
  let x := (s.mram.read (dirtyAddr b k)).toNat
  { s with mram := s.mram.write (dirtyAddr b k) (BitVec.ofNat 8 (setBit x (k % 8) v)) }

/-! ### Service responses (R379) -/

def SvcStatus.code : SvcStatus → Nat
  | .ok => 0
  | .cfgBusy => 1
  | .refused => 2
  | .deferred => 3
  | .badMessage => 4
  | .badField => 5
  | .imageInvalid => 6
  | .rollback => 7
  | .wrongState => 8
  | .noRoom => 9
  | .retentionHeld => 10
  | .romOnly => 11

/-- The message of a response: the 20-byte header, the body, and the tag under a key, zero without one (R379, R381). -/
def svcMessage (key : Option Bytes) (r : SvcResp) : Bytes :=
  let m := [0x4E, 0x56, 1, BitVec.ofNat 8 r.type] ++ be 4 r.session ++ be 4 r.request ++ be 2 r.status.code ++ be 2 1
    ++ be 2 r.body.length ++ zeros 2 ++ r.body
  m ++ (match key with | some k => cmac k m | none => zeros 16)

/-- Sends a response, tagged under a key. -/
def State.svcSend (s : State) (key : Option Bytes) (r : SvcResp) : State := s.emit (.service r (svcMessage key r))

/-- Sends a response under its session's key. -/
def State.svcEmit (s : State) (r : SvcResp) : State := s.svcSend ((s.mnt.sessions.get? r.session).map (·.key)) r

/-- A response: kept among its session's last 64, and sent. -/
def State.respondTo (s : State) (r : SvcResp) : State :=
  let s := { s with mnt := { s.mnt with sessions := s.mnt.sessions.modify r.session (fun x =>
    { x with responses := (x.responses ++ [r]).drop (x.responses.length - 63) }) } }
  s.svcEmit r

/-! ### Beds, members and drives: small accessors -/

def State.bed? (s : State) (b : Nat) : Option Bed := s.beds.get? b

def State.setBed (s : State) (b : Nat) (x : Bed) : State := { s with beds := s.beds.put b x }

def State.modBed (s : State) (b : Nat) (f : Bed → Bed) : State := { s with beds := s.beds.modify b f }

def State.port (s : State) (slot : Nat) : DrvPort :=
  s.drv.ports.getD slot DrvPort.init

def State.setPort (s : State) (slot : Nat) (p : DrvPort) : State :=
  { s with drv := { s.drv with ports := s.drv.ports.put slot p } }

def State.mod (s : State) (arr : Nat) (f : CmdRec → CmdRec) : State :=
  { s with cmd := { s.cmd with cmds := s.cmd.cmds.modify arr f } }

/-- Position B (R13, R288). -/
def State.posB (s : State) : Bool := 8 ≤ s.shelf.strapCode

def State.eligible (s : State) : Bool := s.shelf.strapCode / 4 % 2 = 1 && !s.is36

/-- Beds this controller owns, as a list. -/
def State.owned (s : State) : List Nat := (s.beds.entries.filter (fun e => e.2.owned)).map (·.1)

/-- Fault-LED bits of the slots whose bed this controller owns; zeros for every other slot (R14, R99, R285). -/
def State.ledBits (s : State) : Nat :=
  s.beds.vals.foldl (fun w x => if x.owned && !x.fenced then
    x.members.vals.foldl (fun w m => if m.slot < 24 && (m.st = 1 || m.st = 3) then w ||| 2 ^ m.slot else w) w else w) 0

/-- Sends the LED bits that have changed on SGPIO: after a member's failure or admission, and where a bed changes hands. -/
def State.ledSync (s : State) : State :=
  let w := s.ledBits
  let t := (List.range 24).foldl (fun s i => if bit w i = bit s.drv.leds i then s else s.emit (.led i (bit w i))) s
  { t with drv := { t.drv with leds := w } }

/-- The owner runs the bed with a standby that takes part in its tick (R17, R28, R242). -/
def Bed.mirrored (b : Bed) : Bool := b.peerJoined && !b.detached

/-- The configuration set's record of a bed (R112, R375). -/
def State.bedRec (s : State) (b : Nat) : BedRec := s.cfg.data.beds.getD b ⟨0, 0, [], false⟩

end Sys2Proof.Machine
end

