-- ==== Sys2Proof/Machine/Arbiter.lean ====
section
/-! DEFINITION. The maintenance arbiter (R370–R373). Activity states: 0 running, 1 deferred, 2 paused. -/

namespace Sys2Proof.Machine

/-- Verdicts, encoded as MNT_ARB_LAST.VERDICT: 0 co-run, 1 deferred, 2 refused, 3 pause the earlier, 4 absorbed, 5 forced. -/
def verdictRow : Nat → List Nat
  | 1 => [2, 2, 3, 3, 3, 3, 3, 3, 3, 0]
  | 2 => [2, 2, 3, 3, 3, 3, 3, 3, 3, 0]
  | 3 => [1, 1, 1, 1, 0, 1, 1, 5, 0, 1]
  | 4 => [1, 1, 1, 4, 0, 1, 1, 5, 1, 1]
  | 5 => [1, 1, 0, 0, 4, 0, 0, 1, 0, 1]
  | 6 => [1, 1, 0, 0, 0, 2, 0, 0, 0, 1]
  | 7 => [1, 1, 0, 0, 0, 0, 2, 0, 0, 1]
  | 8 => [1, 1, 1, 1, 1, 1, 1, 1, 1, 1]
  | 9 => [1, 1, 1, 1, 0, 0, 0, 1, 1, 1]
  | 10 => [0, 0, 3, 3, 3, 3, 3, 3, 3, 2]
  | _ => []

/-- The matrix of R372: running, arriving. -/
def verdict (running arriving : Nat) : Nat := (verdictRow running).getD (arriving - 1) 0

/-- Scopes overlap: a controller-wide activity meets every bed; checkpoints of different Bands do not meet (R370, R372). -/
def meets (a : Activity) (code : Nat) (bed : Option Nat) (arg : Nat) : Bool :=
  match a.bed, bed with
  | some x, some y => x = y && !(a.code = 5 && code = 5 && a.arg ≠ arg)
  | _, _ => true

/-- An unforced F is a deferral (R371). -/
def settled (v : Nat) (forced : Bool) : Nat := if v = 5 && !forced then 1 else v

/-- Strength of a verdict where several running activities are met: refusal, absorption, deferral, forced, pause, co-run. -/
def strength (v : Nat) : Nat := if v = 2 then 5 else if v = 4 then 4 else if v = 1 then 3 else if v = 5 then 2 else if v = 3 then 1 else 0

/-- The strongest verdict that the running activities give an arriving one, with the activity met. -/
def State.judge (s : State) (code : Nat) (bed : Option Nat) (arg : Nat) (forced : Bool) : Nat × Nat :=
  (s.mnt.acts.filter (fun a => a.st = 0 && meets a code bed arg)).foldl (fun m a =>
    let v := settled (verdict a.code code) forced
    if strength m.1 < strength v then (v, a.code) else if m.2 = 0 then (m.1, a.code) else m) (0, 0)

/-- Notes the verdict in MNT_ARB_LAST. -/
def State.noteVerdict (s : State) (v code running : Nat) (bed : Option Nat) : State :=
  let s := s.setFld F.MNT_ARB_LAST_VERDICT v
  let s := s.setFld F.MNT_ARB_LAST_ARRIVING code
  let s := s.setFld F.MNT_ARB_LAST_RUNNING running
  s.setFld F.MNT_ARB_LAST_BED (bed.getD 0 % 4)

/-- A self-test pauses at its slice boundary (R52). -/
def State.pauseTest (s : State) : State :=
  { s with cmd := { s.cmd with selfTest := s.cmd.selfTest.map (fun t => if t.pausedAt.isSome then t else { t with pausedAt := some s.now }) } }

def State.resumeTest (s : State) : State :=
  { s with cmd := { s.cmd with selfTest := s.cmd.selfTest.map (fun t =>
      match t.pausedAt with
      | some p => { t with pausedAt := none, pausedTotal := t.pausedTotal + (s.now - p), nextAt := some s.now }
      | none => t) } }

def State.setActs (s : State) (l : List Activity) : State := { s with mnt := { s.mnt with acts := l } }

/-- Pauses every running self-test that the arriving activity meets. -/
def State.pauseTests (s : State) (code : Nat) (bed : Option Nat) (arg : Nat) : State :=
  let hit := fun (a : Activity) => a.st = 0 && meets a code bed arg && verdict a.code code = 3
  let dst := s.mnt.acts.any (fun a => hit a && a.code < 3)
  let s := s.setActs (s.mnt.acts.map (fun a => if hit a then { a with st := 2 } else a))
  if dst then s.pauseTest else s

/-- Asks rebuilds and resyncs that a forced activation meets to pause at their next Band boundary (R371 F, R373). -/
def State.wantPause (s : State) : State :=
  let s := s.setActs (s.mnt.acts.map (fun a => if a.code = 4 && a.st = 0 then { a with st := 2 } else a))
  { s with beds := s.beds.mapV (fun _ b => { b with rebuild := b.rebuild.map (fun r => { r with pauseWanted := !r.paused }) }) }

/-- A start reaches the arbiter: the verdict, and the handle of the activity where it runs or is deferred (R371). -/
def State.arrivalOf (s : State) (code : Nat) (bed : Option Nat) (arg : Nat) (forced : Bool) (session : Option (Nat × Nat)) : State × Nat × Nat :=
  let (v, running) := s.judge code bed arg forced
  let s := s.noteVerdict v code running bed
  let h := s.mnt.nextHandle
  let a : Activity := { code := code, bed := bed, st := if v = 1 || v = 5 then 1 else 0, handle := h, forced := forced, arg := arg, session := session, starter := 0xFFFF }
  if v = 2 || v = 4 then (s, v, 0)
  else
    let s := if v = 3 then s.pauseTests code bed arg else s
    let s := if v = 5 then s.wantPause else s
    (State.setActs { s with mnt := { s.mnt with nextHandle := h + 1 } } (s.mnt.acts ++ [a]), v, h)

/-- A start that waits behind others of the same arrival. -/
def State.deferAct (s : State) (code : Nat) (bed : Option Nat) (arg : Nat) : State :=
  let h := s.mnt.nextHandle
  let a : Activity := { code := code, bed := bed, st := 1, handle := h, forced := false, arg := arg, session := none, starter := 0xFFFF }
  State.setActs { s with mnt := { s.mnt with nextHandle := h + 1 } } (s.mnt.acts ++ [a])

/-- A start of the same kind, scope and argument waits already. -/
def State.deferred (s : State) (code : Nat) (bed : Option Nat) (arg : Nat) : Bool :=
  s.mnt.acts.any (fun a => a.code = code && a.bed = bed && a.arg = arg && a.st = 1)

/-- A paused self-test resumes when nothing that paused it still runs (R371 P). -/
def State.resumeTests (s : State) : State :=
  let go := fun (a : Activity) => a.st = 2 && (a.code < 3 || a.code = 10)
    && !s.mnt.acts.any (fun o => o.st = 0 && o.code ≠ 1 && o.code ≠ 2 && o.code ≠ 10 && meets o a.code a.bed a.arg)
  let dst := s.mnt.acts.any (fun a => go a && a.code < 3)
  let s := s.setActs (s.mnt.acts.map (fun a => if go a then { a with st := 0 } else a))
  if dst then s.resumeTest else s

/-- An activity ends: what it paused resumes; deferred starts follow by their own events. -/
def State.actEnd (s : State) (code : Nat) (bed : Option Nat) (arg : Nat) : State :=
  (s.setActs (s.mnt.acts.filter (fun a => !(a.code = code && a.bed = bed && a.arg = arg && a.st ≠ 1)))).resumeTests

/-- The same whatever its argument. -/
def State.actEndAny (s : State) (code : Nat) (bed : Option Nat) : State :=
  (s.setActs (s.mnt.acts.filter (fun a => !(a.code = code && a.bed = bed && a.st ≠ 1)))).resumeTests

/-- An activity of that kind runs on the scope. -/
def State.actOn (s : State) (code : Nat) (bed : Option Nat) : Bool := s.mnt.acts.any (fun a => a.code = code && a.bed = bed && a.st = 0)

/-- What a forced activation paused goes on from its cursor (R371 F). -/
def State.unpause (s : State) : State :=
  let on := s.shelf.st = .awake && s.shelf.move.isNone
  let hit := s.mnt.acts.filter (fun a => a.code = 3 && a.st = 2)
  let s := s.setActs (s.mnt.acts.map (fun a => if (a.code = 3 || a.code = 4) && a.st = 2 then { a with st := 0 } else a))
  { s with beds := s.beds.mapV (fun b x =>
      { x with rebuild := x.rebuild.map (fun r =>
          { r with pauseWanted := false, paused := r.paused && !(on && hit.any (fun a => a.bed = some b)) }) }) }

/-- The slot a target runs from by the directory (R384). -/
def MntSt.slotOf (m : MntSt) (target : Nat) : Nat := if target = 0xFF then m.active % 2 else b2n (bit m.active (target - 1))

/-- The target of an activation has restarted: it has ended for the arbiter and its health window opens (R370, R387); after a
revert the activation is over (R388). -/
def State.actRestarted (s : State) : State :=
  match s.mnt.activation with
  | none => s
  | some a =>
    let s := (s.actEndAny 8 none).unpause
    if a.phase = 5 then State.setFld { s with mnt := { s.mnt with activation := none } } F.MNT_ACTV_RESULT 2
    else { s with mnt := { s.mnt with activation := some { a with phase := 4, healthAt := some (s.now + sec 60), failed := false } } }

/-- A reset abandons the activation (R388). -/
def State.actAbandoned (s : State) : State :=
  if s.mnt.activation.isNone then s
  else State.setFld { (s.actEndAny 8 none).unpause with mnt := { (s.actEndAny 8 none).unpause.mnt with activation := none } } F.MNT_ACTV_RESULT 4

/-- A start that is over as soon as it runs, as an activation waiting for its restart. -/
def Activation.restarting (a : Activation) : Bool := a.phase = 3 || a.phase = 5

end Sys2Proof.Machine
end

