-- ==== Sys2Proof/Machine/RillCodec.lean ====
section
/-! DEFINITION. The Rill stream format: the decoder of R124–R137 with its order of errors, the Mode P encoder of R135
and R136, and the Mode D encoder of R132 around the search that the Rill tables hold. -/

namespace Sys2Proof.Machine

/-- Rill statuses (R137), as numbers 1–9; a result is output bytes or a status. -/
abbrev RillStatus := Nat

def stIllegalCode : RillStatus := 1
def stDistance : RillStatus := 2
def stOverrun : RillStatus := 3
def stTruncated : RillStatus := 4
def stBadHeader : RillStatus := 5
def stCheck : RillStatus := 6
def stResidue : RillStatus := 7
def stOutputSpace : RillStatus := 8
def stBadParameter : RillStatus := 9

/-- Output so far, newest byte first, its length, and the room the output area leaves (R122). -/
structure RillOut where
  rev : Bytes
  produced : Nat
  room : Nat
  deriving DecidableEq, Repr

def emitByte (o : RillOut) (b : Byte) : Except RillStatus RillOut :=
  if o.room = 0 then .error stOutputSpace else .ok ⟨b :: o.rev, o.produced + 1, o.room - 1⟩

def emitBytes (o : RillOut) : Bytes → Except RillStatus RillOut
  | [] => .ok o
  | b :: bs => match emitByte o b with
    | .ok o' => emitBytes o' bs
    | .error e => .error e

/-- Bits of a byte, bit 0 first (R124). -/
def byteBits (b : Byte) : List Bool := (List.range 8).map (fun i => b.getLsbD i)

def toBits (bs : Bytes) : List Bool := (bs.map byteBits).flatten

/-- An n-bit integer, least significant bit first (R124). -/
def readBits : Nat → List Bool → Except RillStatus (Nat × List Bool)
  | 0, bs => .ok (0, bs)
  | _ + 1, [] => .error stTruncated
  | n + 1, b :: bs => match readBits n bs with
    | .ok (v, r) => .ok (b2n b + 2 * v, r)
    | .error e => .error e

/-- A canonical prefix code (R130) as its symbols by length and then number, with the count of each length. -/
structure PCode where
  counts : List Nat
  syms : List Nat
  deriving DecidableEq, Repr

def mkCode (lens : List Nat) : PCode :=
  let idx := List.zip lens (List.range lens.length)
  ⟨(List.range 16).map (fun l => if l = 0 then 0 else (lens.filter (· = l)).length),
   ((List.range 16).drop 1).flatMap (fun l => (idx.filter (fun p => p.1 = l)).map (·.2))⟩

/-- Whether the lengths form a code under R130: complete, or one symbol of length 1; empty where `mayEmpty`. -/
def codeOk (lens : List Nat) (mayEmpty : Bool) : Bool :=
  let nz := lens.filter (· ≠ 0)
  match nz with
  | [] => mayEmpty
  | [l] => l = 1
  | _ => (nz.map (fun l => 2 ^ (15 - l))).sum = 2 ^ 15

/-- Decodes one symbol, most significant code bit first; an unassigned codeword is ILLEGAL_CODE. -/
def decodeSymF : List Nat → List Nat → Nat → Nat → List Bool → Except RillStatus (Nat × List Bool)
  | [], _, _, _, _ => .error stIllegalCode
  | c :: cs, syms, code, first, bits =>
    if (c :: cs).all (· = 0) then .error stIllegalCode else
    match bits with
    | [] => .error stTruncated
    | b :: rest =>
      let code := 2 * code + b2n b
      let first := 2 * first
      if code < first + c then .ok (syms.getD (code - first) 0, rest)
      else decodeSymF cs (syms.drop c) code (first + c) rest

def decodeSym (p : PCode) (bits : List Bool) : Except RillStatus (Nat × List Bool) :=
  decodeSymF (p.counts.drop 1) p.syms 0 0 bits

/-- Value of a length or distance code (R129). -/
def codeValue (c : Nat) (bits : List Bool) : Except RillStatus (Nat × List Bool) :=
  if c < 8 then .ok (c, bits)
  else
    let e := c / 4 - 1
    match readBits e bits with
    | .ok (x, r) => .ok ((4 + c % 4) * 2 ^ e + x, r)
    | .error s => .error s

/-- Order of the code-length code lengths (R131). -/
def clOrder : List Nat := [17, 16, 0, 7, 8, 6, 9, 5, 10, 4, 11, 3, 12, 2, 13, 1, 14, 15]

def readMany (w : Nat) : Nat → List Bool → Except RillStatus (List Nat × List Bool)
  | 0, bs => .ok ([], bs)
  | n + 1, bs => match readBits w bs with
    | .error e => .error e
    | .ok (v, r) => match readMany w n r with
      | .ok (vs, r') => .ok (v :: vs, r')
      | .error e => .error e

/-- The described lengths, newest first; `left` lengths are still to come. `fuel` bounds the number of symbols. -/
def readLens (cl : PCode) : Nat → Nat → List Nat → List Bool → Except RillStatus (List Nat × List Bool)
  | 0, _, acc, bs => .ok (acc, bs)
  | fuel + 1, left, acc, bs =>
    if left = 0 then .ok (acc, bs) else
    match decodeSym cl bs with
    | .error e => .error e
    | .ok (s, r) =>
      if s < 16 then readLens cl fuel (left - 1) (s :: acc) r
      else if s = 16 then
        match acc with
        | [] => .error stBadHeader
        | p :: _ => match readBits 3 r with
          | .error e => .error e
          | .ok (x, r') =>
            if left < 3 + x then .error stBadHeader
            else readLens cl fuel (left - (3 + x)) (List.replicate (3 + x) p ++ acc) r'
      else
        match readBits 7 r with
        | .error e => .error e
        | .ok (x, r') =>
          if left < 3 + x then .error stBadHeader
          else readLens cl fuel (left - (3 + x)) (List.replicate (3 + x) 0 ++ acc) r'

def copyMatch : Nat → Nat → RillOut → Except RillStatus RillOut
  | 0, _, o => .ok o
  | n + 1, d, o => match emitByte o (o.rev.getD (d - 1) 0) with
    | .ok o' => copyMatch n d o'
    | .error e => .error e

/-- Literals and matches up to symbol 256 (R132); `left` bytes of the block are still to come, and the checks
stand in the order of R137. `fuel` bounds the number of symbols. -/
def decodeSyms (ll dist : PCode) (distEmpty : Bool) (hist : Nat) :
    Nat → Nat → RillOut → List Bool → Except RillStatus (Nat × RillOut × List Bool)
  | 0, _, _, _ => .error stTruncated
  | fuel + 1, left, o, bs =>
    match decodeSym ll bs with
    | .error e => .error e
    | .ok (s, r) =>
      if s = 256 then .ok (left, o, r)
      else if s < 256 then
        if left = 0 then .error stOverrun else
        match emitByte o (BitVec.ofNat 8 s) with
        | .error e => .error e
        | .ok o' => decodeSyms ll dist distEmpty hist fuel (left - 1) o' r
      else if distEmpty then .error stIllegalCode
      else match codeValue (s - 257) r with
        | .error e => .error e
        | .ok (lv, r1) =>
          if left < lv + 4 then .error stOverrun else
          match decodeSym dist r1 with
          | .error e => .error e
          | .ok (ds, r2) => match codeValue ds r2 with
            | .error e => .error e
            | .ok (dv, r3) =>
              if min hist o.produced < dv + 1 then .error stDistance else
              match copyMatch (lv + 4) (dv + 1) o with
              | .error e => .error e
              | .ok o' => decodeSyms ll dist distEmpty hist fuel (left - (lv + 4)) o' r3

/-- Bits from `rest` to the next byte boundary, of a payload that had `total` bits. -/
def padBits (total : Nat) (rest : List Bool) : List Bool := rest.take ((8 - (total - rest.length) % 8) % 8)

/-- A Mode D coded payload (R131, R132): output and the bits after the padding. -/
def decodeD (w outLen : Nat) (o : RillOut) (bits : List Bool) : Except RillStatus (RillOut × List Bool) :=
  match readBits 7 bits with
  | .error e => .error e
  | .ok (hlit, b1) => if 60 < hlit then .error stBadHeader else
    match readBits 7 b1 with
    | .error e => .error e
    | .ok (hdist, b2) => if 75 < hdist then .error stBadHeader else
      match readBits 4 b2 with
      | .error e => .error e
      | .ok (hcl, b3) => if 14 < hcl then .error stBadHeader else
        match readMany 3 (hcl + 4) b3 with
        | .error e => .error e
        | .ok (cls, b4) =>
          let clLens := (List.range 18).map (fun s =>
            match (List.zip clOrder cls).find? (fun p => p.1 = s) with
            | some p => p.2
            | none => 0)
          if !codeOk clLens false then .error stBadHeader else
          match readLens (mkCode clLens) (258 + hlit + hdist) (258 + hlit + hdist) [] b4 with
          | .error e => .error e
          | .ok (rev, b5) =>
            let lens := rev.reverse
            let ll := lens.take (257 + hlit)
            let ds := lens.drop (257 + hlit)
            if !codeOk ll false || ll.getD 256 0 = 0 || !codeOk ds true then .error stBadHeader else
            match decodeSyms (mkCode ll) (mkCode ds) (ds.all (· = 0)) (2 ^ (10 + w)) (b5.length + 1) outLen o b5 with
            | .error e => .error e
            | .ok (left, o', b6) =>
              if left ≠ 0 then .error stOverrun else
              let pad := padBits bits.length b6
              if pad.any id then .error stBadHeader else .ok (o', b6.drop pad.length)

/-- The prediction of R134 from the output so far, newest byte first. -/
def predict (pred b s : Nat) (rev : Bytes) : Nat :=
  let x := fun (k : Nat) => if k = 0 then 0 else leNat (((rev.drop ((k - 1) * b)).take b).reverse)
  match pred with
  | 0 => 0
  | 1 => x 1
  | 2 => x s
  | _ => x 1 + x s + 2 ^ (8 * b) - x (s + 1)

def countOnes : Nat → List Bool → Except RillStatus (Nat × List Bool)
  | 0, bs => .ok (0, bs)
  | _ + 1, [] => .error stTruncated
  | n + 1, true :: bs => match countOnes n bs with
    | .ok (q, r) => .ok (q + 1, r)
    | .error e => .error e
  | _ + 1, false :: bs => .ok (0, bs)

/-- One Rice code (R135). -/
def riceDecode (w k : Nat) (bs : List Bool) : Except RillStatus (Nat × List Bool) :=
  match countOnes 16 bs with
  | .error e => .error e
  | .ok (q, r) =>
    if q = 16 then readBits w r
    else match readBits k r with
      | .error e => .error e
      | .ok (x, r') => if 2 ^ w ≤ q * 2 ^ k + x then .error stResidue else .ok (q * 2 ^ k + x, r')

/-- Residue of a zig-zag value, modulo 2^w. -/
def unzig (w z : Nat) : Nat := if z % 2 = 0 then z / 2 else 2 ^ w - (z + 1) / 2

/-- `n` samples of a coded Mode P block; a group head comes before every 256th. -/
def decodeSamples (b pred s : Nat) : Nat → Nat → Nat → RillOut → List Bool → Except RillStatus (RillOut × List Bool)
  | 0, _, _, o, bs => .ok (o, bs)
  | n + 1, i, k, o, bs =>
    let hd : Except RillStatus (Nat × List Bool) := if i % 256 = 0 then readBits 5 bs else .ok (k, bs)
    match hd with
    | .error e => .error e
    | .ok (k, bs) =>
      if 8 * b - 1 < k then .error stBadHeader else
      match riceDecode (8 * b) k bs with
      | .error e => .error e
      | .ok (z, r) =>
        match emitBytes o (le b (predict pred b s o.rev + unzig (8 * b) z)) with
        | .error e => .error e
        | .ok o' => decodeSamples b pred s n (i + 1) k o' r

/-- Whole bytes of a bit list. -/
def bitsToBytes : Nat → List Bool → Bytes
  | 0, _ => []
  | n + 1, bs => BitVec.ofNat 8 ((List.zip (bs.take 8) (List.range 8)).map (fun p => b2n p.1 * 2 ^ p.2)).sum
      :: bitsToBytes n (bs.drop 8)

/-- A Mode P coded payload (R133–R135). -/
def decodeP (b pred s outLen : Nat) (o : RillOut) (bits : List Bool) : Except RillStatus (RillOut × List Bool) :=
  match decodeSamples b pred s (outLen / b) 0 0 o bits with
  | .error e => .error e
  | .ok (o', r) =>
    let pad := padBits bits.length r
    if pad.any id then .error stBadHeader else
    let r := r.drop pad.length
    let have_ := min (outLen % b) (r.length / 8)
    match emitBytes o' (bitsToBytes have_ r) with
    | .error e => .error e
    | .ok o'' => if have_ < outLen % b then .error stTruncated else .ok (o'', r.drop (8 * have_))

/-- The stream header (R126): mode, window code, width in bytes, predictor, stride. -/
structure RillHead where
  mode : Nat
  w : Nat
  b : Nat
  pred : Nat
  s : Nat
  deriving DecidableEq, Repr

def parseHead (bs : Bytes) : Except RillStatus RillHead :=
  if bs.length < 4 then .error stTruncated else
  let b0 := (bs.getD 0 0).toNat
  let b1 := (bs.getD 1 0).toNat
  let s := leNat (slice bs 2 2)
  if b0 = 1 then if 10 < b1 || s ≠ 0 then .error stBadHeader else .ok ⟨1, b1, 1, 0, 0⟩
  else if b0 = 2 then
    if b1 % 4 = 3 || 16 ≤ b1 || (s = 0 && 2 ≤ b1 / 4 % 4) then .error stBadHeader
    else .ok ⟨2, 0, 2 ^ (b1 % 4), b1 / 4 % 4, s⟩
  else .error stBadHeader

/-- Blocks and trailer (R125, R127). `expected` is `none` where the length is not checked. Where R137 gives no order the model takes
these (assumption 67): a block length that breaks R133 before one that would pass the expected length, as both are known with the
header and the first is the parser's own check; a last block that leaves the expected length unreached before a trailer that is
missing or cut, as the trailer "arrives" where the last block ends; bytes left over in a coded block before input that ends within
its P bytes. -/
def decodeBlocks (h : RillHead) (expected : Option Nat) : Nat → RillOut → Bytes → Except RillStatus RillOut
  | 0, _, _ => .error stTruncated
  | fuel + 1, o, bs =>
    if bs.length < 8 then .error stTruncated else
    let by_ := fun (i : Nat) => (bs.getD i 0).toNat
    let outLen := leNat (slice bs 0 2) + 1
    let p := leNat (slice bs 2 3)
    let ty := by_ 5 % 4
    let last := by_ 5 / 4 % 2 = 1
    let chk := (bs.take 6).foldl (· ^^^ ·) 0
    if bs.getD 6 0 ≠ chk || by_ 7 ≠ 0 || 8 ≤ by_ 5 || ty = 3 || (ty ≠ 0 && ty ≠ h.mode) || p = 0 || 65536 < p
        || (ty = 0 && p ≠ outLen) || (h.mode = 2 && !last && outLen % h.b ≠ 0) then .error stBadHeader
    else if (match expected with | some e => decide (e < o.produced + outLen) | none => false) then .error stOverrun
    else
      let body := slice bs 8 p
      let r : Except RillStatus RillOut :=
        if ty = 0 then
          match emitBytes o body with
          | .error e => .error e
          | .ok o' => if body.length < p then .error stTruncated else .ok o'
        else
          let dec := if ty = 1 then decodeD h.w outLen o (toBits body) else decodeP h.b h.pred h.s outLen o (toBits body)
          match dec with
          | .error e => .error e
          | .ok (o', rest) => if rest.length ≠ 0 || body.length < p then .error stBadHeader else .ok o'
      match r with
      | .error e => .error e
      | .ok o' =>
        let rest := bs.drop (8 + p)
        if !last then decodeBlocks h expected fuel o' rest
        else if (match expected with | some e => decide (o'.produced < e) | none => false) then .error stOverrun
        else if rest.length < 4 then .error stTruncated
        else if leNat (rest.take 4) ≠ crc32c o'.rev.reverse then .error stCheck
        else if 4 < rest.length then .error stBadHeader
        else .ok o'

/-- Decodes a stream (R124–R137) into an output area of `room` bytes. -/
def rillDecode (expected : Option Nat) (room : Nat) (bs : Bytes) : Except RillStatus Bytes :=
  match parseHead bs with
  | .error e => .error e
  | .ok h => match decodeBlocks h expected (bs.length + 1) ⟨[], 0, room⟩ (bs.drop 4) with
    | .error e => .error e
    | .ok o => .ok o.rev.reverse

/-! ### Encoders -/

/-- A block with its header (R127). -/
def blockOf (ty : Nat) (last : Bool) (outLen : Nat) (payload : Bytes) : Bytes :=
  let h := le 2 (outLen - 1) ++ le 3 payload.length ++ [BitVec.ofNat 8 (ty + 4 * b2n last)]
  h ++ [h.foldl (· ^^^ ·) 0, 0] ++ payload

/-- The stored form unless the coded form is smaller (R136 step 3). -/
def pickBlock (ty : Nat) (last : Bool) (blk coded : Bytes) : Bytes :=
  if coded.length < blk.length && coded.length ≠ 0 then blockOf ty last blk.length coded
  else blockOf 0 last blk.length blk

/-- The bits of one Rice code, in stream order. -/
def riceBits (w k z : Nat) : List Bool :=
  let lsb := fun (n v : Nat) => (List.range n).map (fun i => v.testBit i)
  if z / 2 ^ k < 16 then List.replicate (z / 2 ^ k) true ++ [false] ++ lsb k z
  else List.replicate 16 true ++ lsb w z

def riceCost (w k : Nat) (zs : List Nat) : Nat :=
  (zs.map (fun z => if z / 2 ^ k < 16 then z / 2 ^ k + 1 + k else 16 + w)).sum

/-- The parameter with the fewest bits, the lowest among those that tie (R135). -/
def bestK (w : Nat) (zs : List Nat) : Nat :=
  ((List.range w).foldl (fun (best : Nat × Nat) k =>
    let c := riceCost w k zs
    if c < best.2 then (k, c) else best) (0, riceCost w 0 zs)).1

/-- Zig-zag residues of the samples of a block, given the bytes before it, newest first. -/
def residues (b pred s : Nat) : Nat → Bytes → Bytes → List Nat
  | 0, _, _ => []
  | n + 1, rev, bs =>
    let x := leNat (bs.take b)
    let m := 2 ^ (8 * b)
    let d := (x + m - predict pred b s rev % m) % m
    let z := if d < m / 2 then 2 * d else 2 * (m - d) - 1
    z :: residues b pred s n ((bs.take b).reverse ++ rev) (bs.drop b)

def groupsOf (fuel : Nat) (zs : List Nat) : List (List Nat) :=
  match fuel with
  | 0 => []
  | n + 1 => if zs.isEmpty then [] else zs.take 256 :: groupsOf n (zs.drop 256)

/-- The coded payload of a Mode P block. -/
def encodePBlock (b pred s : Nat) (rev blk : Bytes) : Bytes :=
  let zs := residues b pred s (blk.length / b) rev blk
  let w := 8 * b
  let bits := (groupsOf (zs.length + 1) zs).flatMap (fun g =>
    let k := bestK w g
    (List.range 5).map (fun i => k.testBit i) ++ g.flatMap (riceBits w k))
  let bits := bits ++ List.replicate ((8 - bits.length % 8) % 8) false
  bitsToBytes (bits.length / 8) bits ++ blk.drop (blk.length / b * b)

/-- Encodes block by block; `enc` gives the coded payload of a block from the bytes before it, newest first. -/
def encodeBlocks (ty : Nat) (enc : Bytes → Bytes → Bytes) : Nat → Bytes → Bytes → Bytes
  | 0, _, _ => []
  | fuel + 1, rev, bs =>
    let blk := bs.take 65536
    let rest := bs.drop 65536
    pickBlock ty rest.isEmpty blk (enc rev blk)
      ++ (if rest.isEmpty then [] else encodeBlocks ty enc fuel (blk.reverse ++ rev) rest)

/-- Mode P, from the parameter byte and the stride (R126, R135, R136). -/
def rillEncodeP (param s : Nat) (bs : Bytes) : Bytes :=
  let b := 2 ^ (param % 4)
  [2, BitVec.ofNat 8 param] ++ le 2 s ++ encodeBlocks 2 (encodePBlock b (param / 4 % 4) s) (bs.length + 1) [] bs
    ++ le 4 (crc32c bs)

/-- A proposal of the search counts only where it decodes to its block (R132, R136); else the block is stored. -/
def encodeDBlock (tables : Nat × Nat) (w : Nat) (rev blk : Bytes) : Bytes :=
  let prop := Config.rillSearch tables w rev.reverse blk
  match decodeD w blk.length ⟨rev, rev.length, blk.length⟩ (toBits prop) with
  | .ok (o, rest) => if rest.isEmpty && o.rev = blk.reverse ++ rev then prop else []
  | .error _ => []

/-- Mode D under the Rill tables in force, with window code `w` (R123, R128, R136, R138). -/
def rillEncodeD (tables : Nat × Nat) (w : Nat) (bs : Bytes) : Bytes :=
  [1, BitVec.ofNat 8 w, 0, 0] ++ encodeBlocks 1 (encodeDBlock tables w) (bs.length + 1) [] bs ++ le 4 (crc32c bs)

/-- The expansion bound (R136). -/
def rillBound (n : Nat) : Nat := n + 8 * cdiv n 65536 + 8

end Sys2Proof.Machine
end

