-- ==== Sys2Proof/Machine/RillUnit.lean ====
section
/-! DEFINITION. Rill as a unit: descriptor checks, dispatch, completion and reruns (R117–R123, R139). -/

namespace Sys2Proof.Machine

/-- A fault source out of service (R347). -/
def State.isFenced (s : State) (src : Nat) : Bool := (s.thm.srcs.getD src SrcSt.init).state ≠ 0

/-- The admission check of an instance runs (R347). -/
def State.checks (s : State) (src : Nat) : Bool := (s.thm.srcs.getD src SrcSt.init).checking

/-- A fence keeps the instance's domain off: while its admission check runs it is powered (R347). -/
def State.fenceOff (s : State) (src : Nat) : Bool := s.isFenced src && !s.checks src

/-- Pair `p` may be powered: present, enabled and with a core that no fence keeps off, in Awake (R117). -/
def State.pairWanted (s : State) (p : Nat) : Bool :=
  s.shelf.st = .awake && 2 * p < s.nRill && bit (s.fld F.RILL_CFG_PAIR_EN) p
    && !(s.fenceOff (0x800 + 2 * p) && s.fenceOff (0x801 + 2 * p))

/-- A slice of the device self-test has taken the core of that source out of dispatch (R52, R157). -/
def State.testHolds (s : State) (src : Nat) : Bool :=
  match s.cmd.selfTest with
  | some t => (match t.held with | some h => h.1 = src && decide (s.now < h.2) | none => false)
  | none => false

/-- Core `n` can take a job now (R117, R119). -/
def State.rillFree (s : State) (n : Nat) : Bool :=
  n < s.nRill && !s.isFenced (0x800 + n) && !s.testHolds (0x800 + n) && s.domOn (24 + n / 2) && bit (s.fld F.RILL_CFG_PAIR_EN) (n / 2)
    && s.rill.readyAt.getD (n / 2) 0 ≤ s.now && !s.rill.running.has n

/-- Whether a descriptor is refused with BAD_PARAMETER (R121). `areasOk`: the areas lie in Basin or Cistern and do
not overlap. -/
def RillDesc.bad (d : RillDesc) (areasOk : Bool) : Bool :=
  let comp := d.opcode = 1 || d.opcode = 2
  (d.opcode = 0 || 4 < d.opcode) || d.zeroFields ≠ 0 || 1 < d.flags || (!comp && d.flags ≠ 0)
    || (comp && (d.inputLen = 0 || 1048576 < d.inputLen)) || (!comp && (d.inputLen < 16 || 1048712 < d.inputLen))
    || (!comp && (d.expected = 0 || (1048576 < d.expected && d.expected ≠ 0xFFFFFFFF))) || (comp && d.expected ≠ 0)
    || (d.opcode = 1 && 10 < d.winCode) || (d.opcode ≠ 1 && d.winCode ≠ 0)
    || (d.opcode = 2 && (d.pParam % 4 = 3 || 16 ≤ d.pParam || (d.stride = 0 && 2 ≤ d.pParam / 4 % 4)))
    || (d.opcode ≠ 2 && (d.pParam ≠ 0 || d.stride ≠ 0)) || !areasOk

/-- The areas of a job as the descriptor names them: no overlap of input and output (R121). -/
def RillDesc.apart (d : RillDesc) : Bool :=
  d.opcode = 4 || d.inputAddr + d.inputLen ≤ d.outputAddr || d.outputAddr + d.outputLen ≤ d.inputAddr

/-- What a job gives on a core (R119–R137): a status (0 OK) and its output. A check has no output area: what it decodes is
bounded by its input only, a block of at least eight bytes giving at most 65,536. -/
def rillRun (tables : Nat × Nat) (d : RillDesc) (input : Bytes) : Nat × Bytes :=
  let exp := if d.expected = 0xFFFFFFFF then none else some d.expected
  let fit := fun (o : Bytes) => if d.outputLen < o.length then (stOutputSpace, ([] : Bytes)) else
    if d.flags % 2 = 1 then
      match rillDecode (some input.length) input.length o with
      | .ok x => if x = input then (0, o) else (stCheck, [])
      | .error e => (e, [])
    else (0, o)
  if d.opcode = 1 then fit (rillEncodeD tables d.winCode input)
  else if d.opcode = 2 then fit (rillEncodeP d.pParam d.stride input)
  else
    match rillDecode exp (if d.opcode = 4 then 65536 * input.length else d.outputLen) input with
    | .ok o => (0, o)
    | .error e => (e, [])

/-- The Rill tables in force: the slot that target 0x05 runs from and its section's version (R138, R387). While an activation has
restarted it, that is the activation's own slot; while one is reverted, still the slot that failed. -/
def State.rillTables (s : State) : Nat × Nat :=
  let own := s.mnt.slotOf 5
  let slot := match s.mnt.activation with
    | some a => if a.target ≠ 5 && a.target ≠ 0xFF then own else if a.phase = 4 then a.slot else if a.phase = 5 then 1 - a.slot else own
    | none => own
  (slot, match s.mnt.images.get? slot with | some i => i.sections.getD 5 0 | none => 0)

/-- The completion record of R120. -/
def rillRecord (status core outLen ctx : Nat) : Bytes :=
  [BitVec.ofNat 8 status, BitVec.ofNat 8 core, 0, 0] ++ le 4 (if status = 0 then outLen else 0) ++ le 8 ctx

/-- Counts and latches a status other than OK (R137, R139). -/
def State.rillError (s : State) (status core opcode ctx : Nat) : State :=
  if status = 0 then s else
  let s := s.bump (F.RILL_ERRCNT_COUNT (status - 1)) 1
  let s := s.setFld F.RILL_LASTERR_STATUS status
  let s := s.setFld F.RILL_LASTERR_CORE (if core = 0xFF then 0 else core)
  let s := s.setFld F.RILL_LASTERR_OPCODE (opcode % 16)
  let s := s.setFld F.RILL_LASTERR_NO_CORE (b2n (core = 0xFF))
  s.setFld F.RILL_LASTCTX_CONTEXT_LO (ctx % 2 ^ 32)

/-- A job's completion record goes to its submitter: a service job's in the response to its run, the output kept for reading
(R382). -/
def State.rillAnswer (s : State) (svc : Option (Nat × Nat)) (record output : Bytes) : State :=
  match svc with
  | none => s.emit (.rillDone record output)
  | some (session, request) =>
    State.respondTo { s with mnt := { s.mnt with svcJob := s.mnt.svcJob.map (fun j =>
      if j.session = session then { j with output := output } else j) } } ⟨session, request, 0x27, .ok, record⟩

/-- A core that may run the job: one it is not lost with, and for a rerun after a decoder status not the first core. Where no
other core is usable the job waits: the spec names no other end for it (R119; assumption 67). -/
def RillJob.mayRun (j : RillJob) (c : Nat) : Bool := j.avoid ≠ some c && (j.first = 0 || j.firstCore ≠ c)

/-- Hands waiting jobs, in order, each to the lowest-numbered idle core (R119). A job that has to wait for a core holds back the
jobs submitted after it. -/
def rillDispatchF : Nat → State → State
  | 0, s => s
  | n + 1, s =>
    if s.rill.holdNew then s else
    match s.rill.waiting with
    | [] => s
    | j :: js =>
      match (List.range 16).find? (fun c => s.rillFree c && j.mayRun c) with
      | none => s
      | some c =>
        rillDispatchF n { s with rill := { s.rill with
          waiting := js, running := s.rill.running.put c { j with core := c, since := s.now }, idleAt := s.rill.idleAt.del (c / 2)
          gated := setBit s.rill.gated (c / 2) false } }

/-- The boundary of RILL_CFG is the next dispatch (R139). -/
def State.rillDispatch (s : State) : State :=
  -- R138: once the running jobs have finished, new tables are loaded and the held jobs go on
  let s := if s.rill.holdNew && s.rill.running.size = 0 then State.actRestarted { s with rill := { s.rill with holdNew := false } } else s
  let s := if s.rill.waiting.isEmpty then s else s.applyRwl 0x500000
  rillDispatchF (s.rill.waiting.length + 1) s

/-- A pair that was not yet ready is: 50 us after its domain switched on it takes the jobs that wait (R117). -/
def State.rillReady (s : State) (core : Nat) : State :=
  match s.rill.readyAt.get? (core / 2) with
  | some t => if s.now < t then (s.at t).rillDispatch else s
  | none => s

/-- After a job has left core `c`: the pair's idle millisecond starts when both cores are idle (R117). -/
def State.rillIdle (s : State) (c : Nat) : State :=
  let p := c / 2
  if s.rill.running.has (2 * p) || s.rill.running.has (2 * p + 1) then s
  else { s with rill := { s.rill with idleAt := s.rill.idleAt.put p (s.now + msec 1) } }

/-- A job's core is lost: the job runs again from its start on another core (R119). -/
def State.rillLoseCore (s : State) (c : Nat) : State :=
  match s.rill.running.get? c with
  | none => s
  | some j =>
    let s := { s with rill := { s.rill with
      running := s.rill.running.del c, waiting := { j with avoid := some c } :: s.rill.waiting } }
    ((s.rillIdle c).bump F.RILL_RERUN_RERUNS 1).rillDispatch

end Sys2Proof.Machine
end

