-- ==== Sys2Proof/Machine/CipherUnit.lean ====
section
/-! DEFINITION. The cipher as a unit: jobs, the derived-key cache, sealing and opening of records (R140–R158). -/

namespace Sys2Proof.Machine

/-- The IV of a record at a member's sector in a Band of the given write generation (R81, R147). -/
def recordIv (member sector gen : Nat) : Bytes :=
  be 12 ((member % 256) * 2 ^ 88 + (sector % 2 ^ 36) * 2 ^ 52 + (gen % 2 ^ 32) * 2 ^ 20)

/-- A 32-byte record header (R63, R81, R82); `b2` and `b3` are bytes 2 and 3. -/
def recordHeader (magic b3 epoch tenant nsid serial stored orig : Nat) : Bytes :=
  le 2 magic ++ [1, BitVec.ofNat 8 b3] ++ le 4 epoch ++ le 4 tenant ++ le 4 nsid ++ le 8 serial ++ le 4 stored ++ le 4 orig

/-- A sealed record, padded to whole sectors (R81, R144). -/
def sealRecord (kDomain iv header pt : Bytes) : Bytes :=
  let key := recordKey kDomain (leNat (slice header 8 4)) (leNat (slice header 12 4)) (leNat (slice header 4 4))
  let (ct, tag) := gcmSeal key iv header pt
  padTo 4096 (header ++ ct ++ tag)

def magicData : Nat := 0x4E45
def magicCommit : Nat := 0x4E43
def magicMap : Nat := 0x4E4D

/-- Statuses of a cipher job (R144): 0 OK, 0x10 AUTH_FAIL, 0x11 KEY_UNAVAILABLE, 0x12 EPOCH_RETIRED, with a reason. -/
structure CphResult where
  status : Nat
  reason : Nat
  out : Bytes
  deriving DecidableEq, Repr

/-- What an open or check expects of the header (R144, R145). -/
structure Expect where
  epoch : Nat
  tenant : Nat
  nsid : Nat
  object : Nat
  deriving DecidableEq, Repr

/-- The checks of an open, in the order of R145. `floor` gives the epoch floor of a namespace. -/
def openRecord (kDomain : Option Bytes) (floor : Nat) (iv : Bytes) (ex : Expect) (rec : Bytes) : CphResult :=
  let magic := leNat (slice rec 0 2)
  let l := leNat (slice rec 24 4)
  let epoch := leNat (slice rec 4 4)
  if !(magic = magicData || magic = magicCommit || magic = magicMap) || rec.getD 2 0 ≠ 1 || rec.length < 48 + l then
    ⟨0x10, 2, []⟩
  else if leNat (slice rec 8 4) ≠ ex.tenant || leNat (slice rec 12 4) ≠ ex.nsid || leNat (slice rec 16 8) ≠ ex.object
      || (ex.epoch ≠ 0 && epoch ≠ ex.epoch) then ⟨0x10, 2, []⟩
  else if epoch < floor then ⟨0x12, 0, []⟩
  else match kDomain with
    | none => ⟨0x11, 0, []⟩
    | some kd =>
      let key := recordKey kd (leNat (slice rec 8 4)) (leNat (slice rec 12 4)) epoch
      match gcmOpen key iv (rec.take 32) (slice rec 32 l) (slice rec (32 + l) 16) with
      | some pt => ⟨0, 0, pt⟩
      | none => ⟨0x10, 1, []⟩

/-- K_domain as jobs may use it: installed and the key unit has passed its test (R145 order 4, R157). -/
def State.keyNow (s : State) : Option Bytes := if s.cph.katFail || s.cph.noCopy then none else s.cph.kDomain

/-- The key store in force: the valid copy with the higher generation (R152). -/
def State.store (s : State) : Option KeyStore :=
  match s.cph.store0, s.cph.store1 with
  | some a, some b => if a.gen < b.gen then some b else some a
  | some a, none => some a
  | none, b => b

/-- Epoch floor and highest issued epoch of a namespace (R152, R154). -/
def State.epochsOf (s : State) (nsid : Nat) : Nat × Nat :=
  match s.store with
  | some k => k.epochs.getD nsid (0, 0)
  | none => (0, 0)

/-- Bytes 0–23 of a key store copy, its additional data (R152). -/
def KeyStore.aad (k : KeyStore) : Bytes :=
  [0x4B, 0x4E, 1, BitVec.ofNat 8 k.state] ++ le 8 k.gen ++ le 8 k.serial ++ k.kcv

def KeyStore.iv (k : KeyStore) : Bytes := le 8 k.gen ++ zeros 4

/-- K_domain of a copy, under the part's wrap key; `none` where it is not installed or its tag is wrong. -/
def KeyStore.unwrap (k : KeyStore) (deviceKey : Bytes) (serial : Nat) : Option Bytes :=
  if k.state = 1 then gcmOpen (wrapKey deviceKey serial) k.iv k.aad k.wrapped k.tag else none

/-- A valid copy: its serial is this part's and, when installed, its tag is correct (R152). -/
def KeyStore.ok (k : KeyStore) (deviceKey : Bytes) (serial : Nat) : Bool :=
  k.serial = serial && (k.state ≠ 1 || (k.unwrap deviceKey serial).isSome)

/-- The 4 KiB of a copy that are used (R152). -/
def KeyStore.image (k : KeyStore) : Bytes :=
  let table := ((List.range 256).map (fun i => let e := k.epochs.getD (i + 1) (0, 0); le 4 e.1 ++ le 4 e.2)).flatten
  let b := fitTo 4092 (k.aad ++ fitTo 32 k.wrapped ++ fitTo 16 k.tag ++ zeros 16 ++ table)
  b ++ le 4 (crc32c b)

/-- What a copy as read holds: `none` where its CRC or its magic is wrong (R152). -/
def keyStoreOf (d : Bytes) : Option KeyStore :=
  if d.length ≠ 4096 || leNat (d.take 2) ≠ 0x4E4B || leNat (slice d 4092 4) ≠ crc32c (d.take 4092) then none
  else some
    { state := (d.getD 3 0).toNat, gen := leNat (slice d 4 8), serial := leNat (slice d 12 8), kcv := slice d 20 4, wrapped := slice d 24 32
      tag := slice d 56 16
      epochs := (List.range 256).foldl (fun t i =>
        let e := (leNat (slice d (88 + 8 * i) 4), leNat (slice d (92 + 8 * i) 4))
        if e = (0, 0) then t else t.put (i + 1) e) .empty }

/-- Generation of a copy; one that is not valid goes first. -/
def genOf (c : Option KeyStore) : Nat := match c with | some k => k.gen | none => 0

/-- Writes the key store to the configuration NOR: the copy with the lower generation first, then the other (R152). -/
def State.writeCopies (s : State) (k : KeyStore) : State :=
  let first := if genOf s.cph.store1 < genOf s.cph.store0 then 1 else 0
  let s := (s.emit (.keyStore first k.image)).emit (.keyStore (1 - first) k.image)
  { s with cph := { s.cph with store0 := some k, store1 := some k, noCopy := false } }

/-- Writes the key store: both copies with the next generation, an installed K_domain wrapped anew (R152). -/
def State.putStore (s : State) (k : KeyStore) : State :=
  let g := (match s.store with | some o => o.gen | none => 0) + 1
  let kd := match s.cph.kDomain with | some d => some d | none => k.unwrap s.fuses.deviceKey s.fuses.serial
  let k := { k with gen := g, serial := s.fuses.serial }
  let k := match k.state, kd with
    | 1, some d =>
      let (ct, tag) := gcmSeal (wrapKey s.fuses.deviceKey s.fuses.serial) k.iv k.aad d
      { k with wrapped := ct, tag := tag }
    | _, _ => k
  s.writeCopies k

/-- Core `n` can take a job now (R140, R142). -/
def State.cphFree (s : State) (n : Nat) : Bool :=
  n < s.nCph && !s.isFenced (0x900 + n) && !bit s.cph.coreFail n && !s.testHolds (0x900 + n) && s.domOn (32 + n) && bit (s.fld F.CPH_CFG_CORE_EN) n
    && !s.cph.jobs.any (fun j => j.phase = 2 && j.core = n)

/-- Key context of a job: tenant, NSID, epoch, from the header it carries (R144). -/
def CphJob.keyCtx (j : CphJob) : Nat × Nat × Nat :=
  (leNat (slice j.input 8 4), leNat (slice j.input 12 4), leNat (slice j.input 4 4))

/-- A descriptor the scheduler refuses (R144). -/
def CipherDesc.bad (d : CipherDesc) (input : Bytes) (areasOk : Bool) : Bool :=
  (d.opcode = 0 || 3 < d.opcode) || 15 < d.queue || d.zeroFields ≠ 0
    || (d.opcode = 1 && (d.expEpoch ≠ 0 || d.expTenant ≠ 0 || d.expNsid ≠ 0 || d.expObject ≠ 0
        || d.inputLen ≠ 32 + leNat (slice input 24 4) || 1048712 < leNat (slice input 24 4)))
    || (d.opcode ≠ 1 && (d.inputLen = 0 || d.inputLen % 4096 ≠ 0)) || !areasOk

/-- Completion record of a cipher job (R144). -/
def cphRecord (j : CphJob) : Bytes :=
  [BitVec.ofNat 8 j.status, BitVec.ofNat 8 j.core, BitVec.ofNat 8 j.reason, 0]
    ++ le 4 (if j.status = 0 then j.output.length else 0) ++ le 8 j.desc.context

/-- Releases finished completions of one queue in submission order (R142 item 4). -/
def cphReleaseQ : Nat → Nat → State → State
  | 0, _, s => s
  | n + 1, q, s =>
    match s.cph.jobs.find? (fun j => j.desc.queue = q) with
    | none => s
    | some j =>
      if j.phase ≠ 3 then s
      else cphReleaseQ n q
        (State.emit { s with cph := { s.cph with jobs := s.cph.jobs.filter (fun x => x.id ≠ j.id) } }
          (.cipherDone (cphRecord j) j.output))

def State.cphRelease (s : State) (q : Nat) : State := cphReleaseQ (s.cph.jobs.length + 1) q s

def State.cphJob (s : State) (id : Nat) (f : CphJob → CphJob) : State :=
  { s with cph := { s.cph with jobs := s.cph.jobs.map (fun j => if j.id = id then f j else j) } }

/-- Moves a key to the front of the derived-key cache; a full cache replaces the least recently used key that no job
references (R151). `none` when every entry is referenced. -/
def State.cacheKey (s : State) (k : Nat × Nat × Nat) : Option State :=
  let c := s.cph.cache.filter (· ≠ k)
  if c.length < 4096 then some { s with cph := { s.cph with cache := k :: c } }
  else
    let used := (s.cph.jobs.filter (fun j => j.phase ≠ 3)).map CphJob.keyCtx
    match c.reverse.find? (fun x => !used.contains x) with
    | some old => some { s with cph := { s.cph with cache := k :: c.filter (· ≠ old) } }
    | none => none

/-- Keys of retired epochs leave the cache once no job uses them (R151). -/
def State.pruneKeys (s : State) : State :=
  let used := (s.cph.jobs.filter (fun j => j.phase ≠ 3)).map CphJob.keyCtx
  { s with cph := { s.cph with cache := s.cph.cache.filter (fun k => (s.epochsOf k.2.1).1 ≤ k.2.2 || used.contains k) } }

/-- Looks up the key of a job of the part's own; on a miss it is derived (R142 item 2, R151). -/
def State.useKey (s : State) (k : Nat × Nat × Nat) : State :=
  if s.keyNow.isNone then s
  else if s.cph.cache.contains k then (s.cacheKey k).getD s
  else
    let s := (s.pmuEvent 0x901 0xFF 1).bump F.CPH_CACHE_MISS 1
    (s.cacheKey k).getD s

/-- Starts the next derivation where the unit is idle (R142 item 2). -/
def State.cphDerive (s : State) : State :=
  match s.cph.deriving_ with
  | some _ => s
  | none =>
    match s.cph.jobs.find? (fun j => j.phase = 0) with
    | none => s
    | some j => { s with cph := { s.cph with deriving_ := some j.keyCtx } }

/-- The oldest job with its key that some idle core may run, and the lowest-numbered such core (R142 item 3, R143). -/
def State.cphNext (s : State) : Option (Nat × Nat) :=
  s.cph.jobs.findSome? (fun j =>
    if j.phase = 1 then ((List.range 8).find? (fun c => s.cphFree c && j.avoid ≠ some c)).map (fun c => (j.id, c)) else none)

/-- Hands ready jobs to idle cores, the oldest first (R142 item 3). -/
def cphDispatchF : Nat → State → State
  | 0, s => s
  | n + 1, s =>
    match s.cphNext with
    | some (id, c) => cphDispatchF n (s.cphJob id (fun x => { x with phase := 2, core := c, since := s.now }))
    | none => s

/-- The boundary of CPH_CFG is the next dispatch (R158). -/
def State.cphDispatch (s : State) : State :=
  let s := if s.cph.jobs.any (·.phase = 1) then s.applyRwl 0x580000 else s
  cphDispatchF (s.cph.jobs.length + 1) s

/-- A core is lost: its job runs again on another core (R143). -/
def State.cphLoseCore (s : State) (c : Nat) : State :=
  let back := fun (j : CphJob) => if j.phase = 2 && j.core = c then { j with phase := 1, avoid := some c } else j
  State.cphDispatch { s with cph := { s.cph with jobs := s.cph.jobs.map back } }

/-- Counts and latches a job that did not complete with OK (R158). -/
def State.cphFail (s : State) (status reason core ctx : Nat) : State :=
  if status = 0 then s else
  let s := if status = 0x10 then
      (if reason = 1 then s.bump F.CPH_AUTHFAIL_TAG 1 else s.bump F.CPH_AUTHFAIL_HEADER 1) else s
  let s := s.setFld F.CPH_LASTFAIL_STATUS status
  let s := s.setFld F.CPH_LASTFAIL_CORE (if core = 0xFF then 0 else core)
  let s := s.setFld F.CPH_LASTFAIL_REASON reason
  let s := s.setFld F.CPH_LASTFAIL_NO_CORE (b2n (core = 0xFF))
  s.setFld F.CPH_LASTCTX_CONTEXT_LO (ctx % 2 ^ 32)

/-! ### Answers to a retire of key epochs (R156, R382) -/

/-- The EPOCH response body: NSID, current epoch, floor, highest issued, records counted. -/
def State.epochBody (s : State) (nsid count : Nat) : Bytes :=
  let cur := match s.cfg.data.ns.get? nsid with | some n => n.epoch | none => 0
  be 4 nsid ++ be 4 cur ++ be 4 (s.epochsOf nsid).1 ++ be 4 (s.epochsOf nsid).2 ++ be 8 count

/-- A job has taken its key under an epoch of the namespace at or below `e`, which was not retired then, and has not finished. -/
def State.epochBusy (s : State) (nsid e : Nat) : Bool :=
  s.cph.jobs.any (fun j => j.keyCtx.2.1 = nsid && j.keyCtx.2.2 ≤ e && j.floor ≤ j.keyCtx.2.2 && (j.phase = 1 || j.phase = 2))

/-- Answers the retires whose jobs have finished. -/
def State.retireAnswers (s : State) : State :=
  let done := s.mnt.retires.filter (fun r => !s.epochBusy r.nsid r.upTo)
  let s := { s with mnt := { s.mnt with retires := s.mnt.retires.filter (fun r => s.epochBusy r.nsid r.upTo) } }
  (done.foldl (fun s r => s.respondTo ⟨r.session, r.request, 0x22, .ok, s.epochBody r.nsid r.count⟩) s).pruneKeys

end Sys2Proof.Machine
end

