-- ==== Sys2Proof/Machine/EptUnit.lean ====
section
/-! DEFINITION. The host endpoint as a unit: configuration space (R327–R329), the reads function 0 sends and their tags (R333–R336),
its completion queues. Reset values of configuration bits the manual does not list are those of PCI Express (assumption 23). -/

namespace Sys2Proof.Machine

/-! ### Configuration space (R327, R328, R329) -/

/-- What a function's configuration space holds at a dword: the read-only bits, the writable bits and their reset value, and the
bits that a written 1 clears. -/
structure CfgDword where
  ro : Nat
  rw : Nat
  reset : Nat
  w1c : Nat
  deriving DecidableEq, Repr

def roWord (v : Nat) : CfgDword := ⟨v, 0, 0, 0⟩

/-- Writable low bits of a BAR of 2^k bytes, in its low dword and in its high one. -/
def barMask (k : Nat) (high : Bool) : Nat :=
  if high then 0xFFFFFFFF - (2 ^ (k - 32) - 1) else if k < 32 then 0xFFFFFFFF - (2 ^ k - 1) else 0

/-- Window size of BAR2 as applied (R339). -/
def State.winLog2 (s : State) : Nat := clamp 27 33 (s.fld F.EPT_CFG_WIN_LOG2)
def State.poolGib (s : State) : Nat := min 32 (s.fld F.EPT_CFG_POOL_GIB)

/-- Link Status and Capabilities of the link. -/
def State.linkStatus (s : State) : Nat := s.ept.speed + 16 * s.ept.width + 4096 * s.fld F.EPT_CFG_COMMON_CLK

/-- The dword at an offset of a function's configuration space. -/
def State.cfgDword (s : State) (fn o : Nat) : CfgDword :=
  let one := fn ≠ 0
  if o = 0 then roWord (0x1D9B + 0x10000 * (if one then 0x7241 else 0x7240))
  else if o = 4 then ⟨0x100000, 0x546, 0, 0xE9000000⟩
  else if o = 8 then roWord (0x10 + 0x100 * (if one then 0x088000 else 0x010802))
  else if o = 0xC then ⟨0x800000, 0xFF, 0, 0⟩
  else if o = 0x10 then ⟨4, barMask (if one then 24 else 14) false, 0, 0⟩
  else if o = 0x14 then ⟨0, 0xFFFFFFFF, 0, 0⟩
  else if (o = 0x18 || o = 0x1C) && one && 0 < s.poolGib then
    (if o = 0x18 then ⟨0xC, barMask (s.winLog2 + 3) false, 0, 0⟩ else ⟨0, barMask (max 32 (s.winLog2 + 3)) true, 0, 0⟩)
  else if o = 0x2C then roWord (0x1D9B + 0x10000 * (if s.is36 then 0x7236 else 0x7240))
  else if o = 0x34 then roWord 0x40
  else if o = 0x3C then ⟨0, 0xFF, 0, 0⟩
  else if o = 0x40 then roWord 0x00035001
  else if o = 0x44 then ⟨8, 3, 0, 0⟩
  else if o = 0x50 then ⟨0x6011 + 0x10000 * (if one then 3 else 63), 0xC0000000, 0, 0⟩
  else if o = 0x54 then roWord (if one then 0x708000 else 0x2000)
  else if o = 0x58 then roWord (if one then 0x709000 else 0x3000)
  else if o = 0x60 then roWord 0x00020010
  else if o = 0x64 then roWord (2 + 2 ^ 5 + 2 ^ 15 + 2 ^ 28)
  else if o = 0x68 then ⟨0, 0x71FF, 0x2010, 0xF0000⟩
  else if o = 0x6C then roWord (5 + 16 * 4 + 2 * 2 ^ 10)
  else if o = 0x70 then ⟨0x10000 * s.linkStatus, 0xCB, 0, 0⟩
  else if o = 0x84 then roWord (0xF + 2 ^ 4 + 2 ^ 16 + 2 ^ 17)
  else if o = 0x88 then ⟨0, 0x101F, 0, 0⟩
  else if o = 0x8C then roWord 0x3E
  else if o = 0x90 then ⟨0, 0xF, 5, 0⟩
  else if o = 0x100 then roWord 0x14820001
  else if o = 0x104 then ⟨0, 0, 0, 0x1FF030⟩
  else if o = 0x108 then ⟨0, 0x1FF030, 0, 0⟩
  else if o = 0x10C then ⟨0, 0x1FF030, 0x62030, 0⟩
  else if o = 0x110 then ⟨0, 0, 0, 0x31C1⟩
  else if o = 0x114 then ⟨0, 0x31C1, 0x2000, 0⟩
  else if o = 0x148 then roWord (if one then 0x00010003 else 0x15810003)
  else if o = 0x14C then roWord (s.fuses.serial % 2 ^ 32)
  else if o = 0x150 then roWord (s.fuses.serial / 2 ^ 32)
  else if one then roWord 0
  else if o = 0x158 then roWord 0x17010019
  else if o = 0x170 then roWord 0x18010025
  else if o = 0x174 then ⟨1, 0x80000000, 0x80000000, 0⟩
  else if o = 0x180 then roWord 0x1B010026
  else if o = 0x1B0 then roWord 0x1E01002A
  else if o = 0x1E0 then roWord 0x00010027
  else roWord 0

def State.setCfgTab (s : State) (fn : Nat) (t : Tab Word) : State :=
  if fn = 0 then { s with ept := { s.ept with cfg0 := t } } else { s with ept := { s.ept with cfg1 := t } }

/-- What a configuration read returns. -/
def State.cfgRead (s : State) (fn o : Nat) : Word :=
  let d := s.cfgDword fn o
  BitVec.ofNat 32 d.ro ||| (((s.cfgTab fn).getD o (BitVec.ofNat 32 d.reset)) &&& BitVec.ofNat 32 (d.rw + d.w1c))

/-- The bits a byte-enable mask names. -/
def beMask (be : Nat) : Nat := sumN ((List.range 4).map (fun i => if bit be i then 0xFF * 2 ^ (8 * i) else 0))

/-- A configuration write: writable bits take the value, W1C bits written 1 clear. PowerState takes only D0 and D3hot. -/
def State.cfgWrite (s : State) (fn o be : Nat) (v : Word) : State :=
  let d := s.cfgDword fn o
  let m := BitVec.ofNat 32 (beMask be)
  let old := (s.cfgTab fn).getD o (BitVec.ofNat 32 d.reset)
  let rw := BitVec.ofNat 32 d.rw &&& m
  let rw := if o = 0x44 && (v.toNat % 4 = 1 || v.toNat % 4 = 2) then 0 else rw
  let new := ((old &&& ~~~rw) ||| (v &&& rw)) &&& ~~~(v &&& m &&& BitVec.ofNat 32 d.w1c)
  s.setCfgTab fn ((s.cfgTab fn).put o new)

/-- Sets bits of a configuration dword that the function itself sets. -/
def State.cfgSet (s : State) (fn o m : Nat) : State :=
  s.setCfgTab fn ((s.cfgTab fn).put o ((s.cfgTab fn).getD o (BitVec.ofNat 32 (s.cfgDword fn o).reset) ||| BitVec.ofNat 32 m))

/-- An error message, where Device Control (or SERR# Enable, for an uncorrectable error) allows it; a message for an uncorrectable
error under SERR# Enable sets Signaled System Error (R338). -/
def State.errMsg (s : State) (fn sev : Nat) : State :=
  let serr := (s.cfgRead fn 4).getLsbD 8
  if (s.cfgRead fn 0x68).getLsbD sev || (sev ≠ 0 && serr) then
    (if sev ≠ 0 && serr then s.cfgSet fn 4 (2 ^ 30) else s).emit (.errMsg fn sev)
  else s

/-- An uncorrectable error of AER at status bit `b` (R332, R335, R336, R338): its status bits, and its message unless it is
masked, at the severity the computer programmed. Unsupported Request (20) and Unexpected Completion (16) are advisory where they
are non-fatal: they are reported as correctable. What the spec does not say of the bits follows PCI Express (assumption 23). -/
def State.aerSet (s : State) (fn b : Nat) : State :=
  let fatal := (s.cfgRead fn 0x10C).getLsbD b
  let masked := (s.cfgRead fn 0x108).getLsbD b
  let advisory := !fatal && (b = 20 || b = 16)
  let s := s.cfgSet fn 0x104 (2 ^ b)
  let s := s.cfgSet fn 0x68 (2 ^ (16 + (if fatal then 2 else if advisory then 0 else 1)) + (if b = 20 then 2 ^ 19 else 0))
  let s := if b = 12 then s.cfgSet fn 4 (2 ^ 31) else s
  let s := if advisory then s.cfgSet fn 0x110 (2 ^ 13) else s
  if masked || (b = 20 && !(s.cfgRead fn 0x68).getLsbD 3) then s
  else if advisory then (if (s.cfgRead fn 0x114).getLsbD 13 then s else s.errMsg fn 0)
  else s.errMsg fn (if fatal then 2 else 1)

/-! ### Function 0's reads (R334, R335) -/

/-- Completion timeout in ns; `none` while it is disabled. -/
def State.eptTimeout (s : State) : Option Nat :=
  let v := (s.ept.cfg0.getD 0x88 0).toNat
  if v / 16 % 2 = 1 then none
  else
    let c := v % 16
    some (if c = 1 then usec 100 else if c = 2 then msec 10 else if c = 5 then msec 55 else if c = 6 then msec 210
      else if c = 9 then msec 900 else if c = 10 then msec 3500 else if c = 13 then sec 13 else if c = 14 then sec 64 else msec 50)

/-- Tags that may be used (R334). -/
def State.eptTags (s : State) : Nat :=
  if (s.ept.cfg0.getD 0x88 0).toNat / 4096 % 2 = 1 then 768
  else if (s.ept.cfg0.getD 0x68 (BitVec.ofNat 32 0x2010)).toNat / 256 % 2 = 1 then 256 else 32

/-- Bytes of the completion buffer that outstanding reads hold. -/
def State.eptHeld (s : State) : Nat := sumN (s.ept.tags.vals.map (·.length))

/-- Enable Relaxed Ordering of function 0 (R333). -/
def State.eptRelaxed (s : State) : Bool := (s.cfgRead 0 0x68).getLsbD 4

/-- Issues waiting reads in order, while function 0 may send requests, a tag is free and the buffer has room. -/
def eptPumpF : Nat → State → State
  | 0, s => s
  | n + 1, s =>
    match s.ept.waitReads with
    | [] => s
    | (f, len) :: rest =>
      match (List.range s.eptTags).find? (fun t => !s.ept.tags.has t && !s.ept.quar.has t) with
      | none => s
      | some t =>
        if !s.fnMaster 0 || 262144 < s.eptHeld + len then s
        else
          let r : EptRead := { fetch := f, length := len, deadline := s.eptTimeout.map (s.now + ·) }
          eptPumpF n (State.emit { s with ept := { s.ept with waitReads := rest, tags := s.ept.tags.put t r } } (.eptRead t f len s.eptRelaxed))

def State.eptPump (s : State) : State := eptPumpF (s.ept.waitReads.length + 1) s

/-- Largest read request in bytes: 128 to 4,096 as Device Control gives it (R328). -/
def State.eptMaxRead (s : State) : Nat :=
  min 4096 (128 * 2 ^ ((s.ept.cfg0.getD 0x68 (BitVec.ofNat 32 0x2010)).toNat / 4096 % 8))

/-- Asks for a read, in requests of at most the largest size. -/
def State.eptFetch (s : State) (f : EptFetch) (len : Nat) : State :=
  let k := s.eptMaxRead
  let ps := (List.range (cdiv len k)).map (fun i => (f, min k (len - k * i)))
  State.eptPump { s with ept := { s.ept with waitReads := s.ept.waitReads ++ ps } }

/-- Data of a command is still being read. -/
def State.eptReading (s : State) (c : Cap) : Bool :=
  s.ept.tags.vals.any (fun r => r.fetch = .data c) || s.ept.waitReads.any (fun w => w.1 = .data c)

/-! ### Its completion queues (R326, R333) -/

def EptCq.full (q : EptCq) : Bool := (q.tail + 1) % max 1 q.size = q.head

/-- One entry is posted, then the vector is sent where MSI-X is enabled. -/
def State.eptPost (s : State) (cq : Nat) : State :=
  match s.ept.cqs.get? cq with
  | none => s
  | some q =>
    let s := { s with ept := { s.ept with cqs := s.ept.cqs.put cq { q with tail := (q.tail + 1) % max 1 q.size } } }
    match q.vec with
    | some v => s.msix 0 v
    | none => s

end Sys2Proof.Machine
end

