-- ==== Sys2Proof/Machine/Wire.lean ====
section
/-! DEFINITION. What goes over Gusset, byte by byte: frames, message heads, the sections of a tick delta, control messages
(R218–R220, R222, R224, R227). -/

namespace Sys2Proof.Machine

def entryWord (e : MapEntry) : Nat := e.member * 2 ^ 56 + e.unit * 2 ^ 52 + e.sector

/-- One index entry (R65). -/
def entryBytes (e : IndexEntry) : Bytes :=
  fitTo 16 e.key ++ [BitVec.ofNat 8 e.key.length, BitVec.ofNat 8 (b2n e.legalHold + 2 * b2n e.imported + 4 * b2n e.spilled), 0, 0]
    ++ le 4 e.valueLen ++ le 8 e.serial ++ le 8 (e.member * 2 ^ 56 + e.sector) ++ le 8 e.retainUntil ++ le 8 e.commitTime
    ++ le 4 e.epoch ++ zeros 4

/-- An index page that holds these entries: its header's other bytes are not laid out by the spec (assumption 13). -/
def entriesPage (pg : Nat) (es : List IndexEntry) : Bytes :=
  let body := fitTo 4032 ((es.map entryBytes).flatten)
  let hd := (List.range 60).map (fun i => Config.pageByte pg i)
  hd ++ le 4 (crc32c (hd ++ zeros 4 ++ body)) ++ body

/-- One Band table entry (R79). -/
def bandWord (gen st : Nat) (retired : Bool) : Nat := gen % 2 ^ 32 + (st % 4) * 2 ^ 32 + b2n retired * 2 ^ 34

/-- One lost range as a bed record holds it, little-endian (R112). -/
def lostBytes (r : LostRange) : Bytes := le 4 r.first ++ le 4 r.last ++ le 4 r.mask ++ le 4 r.cause

def n8 (n : Nat) : Byte := BitVec.ofNat 8 n

/-! ### The mirror (R222, R224) -/

/-- Head of a record mirror frame and of a write notice (R222). -/
def mirrorBytes (h : MirrorHead) : Bytes :=
  let cap := h.kind = 2 || h.kind = 3
  [n8 h.member, n8 h.kind, 0, 0] ++ be 8 h.start ++ be 4 h.count ++ be 4 (if h.kind ≤ 3 || h.kind = 0xB then h.gen else 0)
    ++ (if cap then be 4 h.assoc ++ be 2 h.qid ++ be 2 h.cid else zeros 8) ++ [n8 (b2n h.lastMap), 0, 0, 0]

/-- A transport notice (R224). -/
def noticeBytes (n : Notice) : Bytes :=
  let req := n.kind = 2
  be 2 n.qp ++ [n8 n.kind, n8 (if req then n.rtype else 0)] ++ be 4 (if req then n.first else n.last)
    ++ be 4 (if req then n.last else 0) ++ be 4 (if req then n.slot else 0)

/-! ### The tick delta (R227) -/

/-- An entry after its head: kind, the sub-field of byte 1, the entry's bytes. -/
def deltaEntry (kind sub : Nat) (body : Bytes) : Bytes := [n8 kind, n8 sub] ++ be 2 (4 + body.length) ++ body

/-- Code of a path MTU. -/
def mtuCode (n : Nat) : Nat := if 4096 ≤ n then 5 else if 2048 ≤ n then 4 else 3

def qpBytes (q : QpCopy) : Bytes :=
  be 2 q.index ++ be 2 q.gen ++ be 4 q.expPsn ++ be 4 q.msn ++ be 4 q.reqNext ++ be 4 q.oldest ++ be 2 q.readsOut
    ++ [n8 (mtuCode q.mtu), n8 q.spray] ++ be 4 q.rtt10ns ++ be 4 q.rateMbps ++ be 4 q.assoc

def scoreBytes (e : ScoreEntry) : Bytes :=
  be 4 e.nsid ++ be 8 e.arrival
    ++ (if e.keys then fitTo 16 e.key ++ [n8 e.key.length] else be 8 e.first ++ be 8 e.count ++ [0]) ++ zeros 3

def scoreFlags (e : ScoreEntry) : Nat := b2n e.modifies + 2 * b2n e.keys + 4 * b2n e.whole

/-- Section of a delta entry (R227). -/
def DeltaEntry.section : DeltaEntry → Nat
  | .slotTaken _ _ _ _ _ _ => 1
  | .slotPhase _ _ _ => 1
  | .slotFreed _ => 1
  | .scoreAdd _ => 2
  | .scoreRemove _ => 2
  | .qpChanged _ => 3
  | .qpCreated _ => 3
  | .qpDestroyed _ => 3
  | .indexPut _ => 4
  | .indexDel _ => 4
  | .mapPut _ _ _ => 5
  | .bandState _ _ _ => 6
  | .dirtyCleared _ _ => 6
  | .writeDone _ _ _ _ _ => 6
  | .digest _ _ _ _ => 7
  | .counters _ _ _ => 8
  | .memberState _ _ => 9
  | .bedState _ => 9
  | .fillSet _ _ => 9
  | .cursor _ _ _ => 9
  | .lostRange _ => 9
  | .epoch _ _ _ _ => 10
  | .windowReg _ _ _ _ => 10
  | .windowRev _ => 10
  | .trigPost _ _ _ _ _ => 10
  | .trigCounter _ _ _ => 10
  | .trigGone _ => 10
  | .unknown _ => 11

/-- Bytes of in-capsule data of a command (R36). -/
def inCapsule : NvmeCmd → Nat
  | .write _ _ _ (.inCapsule n) => n
  | .store _ _ _ _ _ (.inCapsule n) => n
  | .importRecord _ _ _ _ _ (.inCapsule n) => n
  | _ => 0

/-- One entry of a delta in its bytes. The capsule a slot holds reached this model decoded: its bytes are open
(`Config.capsuleByte`, assumption 70). -/
def DeltaEntry.bytes : DeltaEntry → Bytes
  | .slotTaken sl arr ser cap ph c =>
    let n := 64 + inCapsule c
    deltaEntry 1 ph (be 4 sl ++ be 8 arr ++ be 8 ser ++ be 2 cap.assoc ++ be 2 cap.qid ++ be 2 cap.cid ++ be 2 n
      ++ padTo 4 ((List.range n).map (Config.capsuleByte arr)))
  | .slotPhase sl ph n => deltaEntry 2 ph (be 4 sl ++ be 8 n)
  | .slotFreed sl => deltaEntry 3 0 (be 4 sl)
  | .scoreAdd e => deltaEntry 1 (scoreFlags e) (scoreBytes e)
  | .scoreRemove e => deltaEntry 2 (scoreFlags e) (scoreBytes e)
  | .qpChanged q => deltaEntry 1 0 (qpBytes q)
  | .qpCreated q => deltaEntry 2 0 (qpBytes q ++ be 16 q.remoteGid ++ be 4 q.remoteQpn ++ be 6 q.remoteMac ++ be 2 q.vlan ++ be 4 q.laddr)
  | .qpDestroyed i => deltaEntry 3 0 (be 2 i ++ zeros 34)
  | .indexPut e => deltaEntry 1 0 (be 4 e.nsid ++ entryBytes e)
  | .indexDel e => deltaEntry 2 0 (be 4 e.nsid ++ entryBytes e)
  | .mapPut ns u es => deltaEntry 1 0 (be 4 ns ++ be 8 u ++ be 4 es.length ++ zeros 4 ++ (es.map (fun e => le 8 (entryWord e))).flatten)
  | .bandState k g st => deltaEntry 1 st (be 4 k ++ be 4 g ++ zeros 12)
  | .dirtyCleared k g => deltaEntry 2 0 (be 4 k ++ be 4 g ++ zeros 12)
  | .writeDone m k g st n => deltaEntry 3 m (be 4 k ++ be 4 g ++ be 4 n ++ be 8 st)
  | .digest k c u f => deltaEntry 1 0 (be 4 k ++ be 4 c ++ be 4 u ++ be 8 f)
  | .counters a sr f => deltaEntry 1 0 (be 8 a ++ be 8 sr ++ be 8 f)
  | .memberState m st => deltaEntry 1 m [n8 st, 0, 0, 0]
  | .bedState st => deltaEntry 2 0 [n8 st, 0, 0, 0]
  | .fillSet mask as => deltaEntry 3 0 (be 4 mask ++ (as.map (be 8)).flatten)
  | .cursor m cur q => deltaEntry 4 m (be 4 cur ++ [n8 q, 0, 0, 0])
  | .lostRange r => deltaEntry 5 0 (lostBytes r)
  | .epoch ns cur fl hi => deltaEntry 1 0 (be 4 ns ++ be 4 cur ++ be 4 fl ++ be 4 hi)
  | .windowReg i key a sz => deltaEntry 2 0 (be 2 i ++ zeros 2 ++ be 4 key ++ be 4 a ++ be 4 sz)
  | .windowRev i => deltaEntry 3 0 (be 2 i ++ zeros 2)
  | .trigPost e qp c th w => deltaEntry 4 0 (be 2 e ++ be 2 qp ++ be 2 c ++ [n8 w.kind, 0] ++ be 4 th ++ be 4 w.length
      ++ be 4 w.imm ++ be 4 w.rkey ++ be 8 w.remote ++ be 8 w.local_)
  | .trigCounter c v im => deltaEntry 5 0 (be 2 c ++ zeros 2 ++ be 4 v ++ be 4 im)
  | .trigGone e => deltaEntry 6 0 (be 2 e ++ zeros 2)
  | .unknown k => deltaEntry k 0 []

/-- The sections of a delta; a section with no entry is left out. -/
def deltaBytes (es : List DeltaEntry) : Bytes :=
  (List.range 10).flatMap (fun i =>
    let l := (es.filter (fun e => DeltaEntry.section e = i + 1)).flatMap DeltaEntry.bytes
    if l.isEmpty then [] else [n8 (i + 1), 0, 0, 0] ++ be 4 (8 + l.length) ++ l)

/-! ### Control messages (R220) -/

/-- The accumulators of a Band of `h` sectors: P and then Q. -/
def accBytes (h : Nat) (l : List (Nat × Bytes × Bytes)) : Bytes :=
  let at_ := fun (k : Nat) => (l.find? (fun e => e.1 = k)).map (·.2)
  ((List.range h).flatMap (fun k => match at_ k with | some e => fitTo 4096 e.1 | none => zeros 4096))
    ++ ((List.range h).flatMap (fun k => match at_ k with | some e => fitTo 4096 e.2 | none => zeros 4096))

/-- Body of a JOIN_DATA message: structure, namespace or Band, byte offset within the structure, the bytes. -/
def pieceBytes (h : Nat) : JoinPiece → Bytes
  | .map ns u es => [1, 0, 0, 0] ++ be 4 ns ++ be 8 (8 * u) ++ (es.map (fun e => le 8 (entryWord e))).flatten
  | .bandTable k l => [2, 0, 0, 0] ++ be 4 0 ++ be 8 (8 * k) ++ (l.map (fun e => le 8 (bandWord e.1 e.2.1 e.2.2))).flatten
  | .bitmap k l => [3, 0, 0, 0] ++ be 4 0 ++ be 8 (k / 8)
      ++ le (cdiv (k % 8 + l.length) 8) (l.zipIdx.foldl (fun v e => v + b2n e.1 * 2 ^ (k % 8 + e.2)) 0)
  | .indexPage es =>
    let ns := match es with | e :: _ => e.nsid | [] => 0
    let pg := match es with | e :: _ => Config.indexPage e.nsid e.key | [] => 0
    [4, 0, 0, 0] ++ be 4 ns ++ be 8 (4096 * pg) ++ entriesPage pg es
  | .accumulators k _ l => [5, 0, 0, 0] ++ be 4 k ++ be 8 0 ++ accBytes h l

/-- Length of that body. -/
def pieceLen (h : Nat) : JoinPiece → Nat
  | .map _ _ es => 16 + 8 * es.length
  | .bandTable _ l => 16 + 8 * l.length
  | .bitmap k l => 16 + cdiv (k % 8 + l.length) 8
  | .indexPage _ => 16 + 4096
  | .accumulators _ _ _ => 16 + 8192 * h

/-- Head of a control message: type, message ID. -/
def controlHead (kind msgId : Nat) : Bytes := [n8 kind, 0, 0, 0] ++ be 4 msgId

/-! ### Proxied commands (R101) -/

/-- NVMe opcode of a drive operation, in the I/O set but for Abort (R12). -/
def DriveOp.opcode : DriveOp → Nat
  | .read => 0x02
  | .write => 0x01
  | .flush => 0x00
  | .dealloc => 0x09
  | .register => 0x0D
  | .report => 0x0E
  | .acquire => 0x11
  | .preempt => 0x11
  | .abort => 0x08
  | .shutdown => 0xFF
  | .reset => 0xFF

/-- A proxied NVMe command: opcode, CID, NSID 1, and of a read or write its first sector and 0-based count; its data follows. -/
def proxyBytes (id : Nat) (c : DriveCmd) : Bytes :=
  [n8 (DriveOp.opcode c.op), 0] ++ le 2 id ++ le 4 1 ++ zeros 32 ++ le 8 c.sector ++ le 4 (c.count - 1) ++ zeros 12 ++ c.data

/-- Its completion: CID, and the status in bits [31:17] of the last dword. -/
def proxyDone (id : Nat) (st : DriveStatus) (data : Bytes) : Bytes :=
  let code := match st with | .success => 0 | .error => 0x006 | .unrecovered _ => 0x281 | .reservationConflict => 0x083
  zeros 12 ++ le 2 id ++ le 2 (2 * code) ++ data

/-! ### Messages and frames (R218, R219) -/

/-- Frame type of a message (R219). -/
def GMsg.kind : GMsg → Nat
  | .recordMirror _ _ => 1
  | .windowMirror _ _ _ _ => 2
  | .writeNotice _ => 3
  | .transportNotice _ => 4
  | .foldNotice _ _ => 5
  | .tickDelta _ _ _ => 6
  | .tickAck _ _ => 7
  | .linkAck _ => 9
  | .proxy _ _ => 0xA
  | .proxyResult _ _ _ => 0xA
  | .control _ _ _ _ => 0xB
  | .joinPiece _ _ _ _ => 0xB
  | .accData _ _ _ _ _ _ => 0xB
  | .test => 0xC

/-- The bytes of a message (R219, R220). -/
def GMsg.bytes : GMsg → Bytes
  | .recordMirror h b => mirrorBytes h ++ b
  | .windowMirror i off key b => be 2 i ++ be 4 off ++ be 4 key ++ b
  | .writeNotice h => mirrorBytes h
  | .transportNotice n => noticeBytes n
  | .foldNotice id f => be 4 id ++ be 8 f
  | .tickDelta _ t es => be 8 t ++ deltaBytes es
  | .tickAck _ t => be 8 t
  | .linkAck n => be 4 n
  | .proxy id c => proxyBytes id c
  | .proxyResult id st d => proxyDone id st d
  | .control k _ i b => controlHead k i ++ b
  | .joinPiece _ i h p => controlHead 2 i ++ pieceBytes h p
  | .accData _ i h k f l => controlHead 0xD i ++ be 4 k ++ zeros 4 ++ be 8 f ++ accBytes h l
  | .test => []

/-- Their number. -/
def GMsg.size : GMsg → Nat
  | .joinPiece _ _ h p => 8 + pieceLen h p
  | .accData _ _ h _ _ _ => 24 + 8192 * h
  | m => (GMsg.bytes m).length

/-- Frames a message takes (R219). -/
def GMsg.frames (m : GMsg) : Nat := max 1 (cdiv (GMsg.size m) 9152)

/-- A Gusset frame: header, payload, padding, CRC-32C. `flags`: [0] first fragment, [1] last, [2] retransmission (R218). -/
def frameBytes (kind flags seq ack bed : Nat) (payload : Bytes) : Bytes :=
  let w := padTo 4 ([n8 kind, n8 flags] ++ be 2 payload.length ++ be 4 seq ++ be 4 ack ++ [n8 bed, 0, 0, 0] ++ payload)
  w ++ be 4 (crc32c w)

/-- The frames of a message whose first one has link sequence number `seq`; types 0x08 and 0x09 carry none. -/
def GMsg.wire (m : GMsg) (seq ack bed : Nat) (again : Bool) : List Bytes :=
  let l := if (GMsg.size m) = 0 then [[]] else chunks 9152 (GMsg.bytes m)
  l.zipIdx.map (fun e =>
    frameBytes (GMsg.kind m) (b2n (decide (e.2 = 0)) + 2 * b2n (decide (e.2 + 1 = l.length)) + 4 * b2n again)
      (if GMsg.kind m = 8 || GMsg.kind m = 9 then 0 else seq + e.2) ack bed e.1)

end Sys2Proof.Machine
end

