-- ==== Sys2Proof/Machine/NetUnit.lean ====
section
/-! DEFINITION. Basin and Weir as units: classes, the buffer, pauses, gates, shapers, class selection, discards and
header capture (R159–R179, R205–R215). -/

namespace Sys2Proof.Machine

def State.setNet (s : State) (n : Nat) (p : NetPort) : State :=
  { s with net := { s.net with ports := s.net.ports.put n p } }

def State.setQueue (s : State) (n c : Nat) (q : EgQueue) : State :=
  let p := s.nport n
  s.setNet n { p with queues := p.queues.put c q }

def State.egq (s : State) (n c : Nat) : EgQueue := (s.nport n).queue c

/-- The port's domain is on (R160). -/
def State.netPowered (s : State) (n : Nat) : Bool := n < s.nNet && s.domOn (40 + n)

/-- The port is up and its hold has ended (R172, R173). -/
def State.netUp (s : State) (n : Nat) : Bool :=
  let p := s.nport n
  s.netPowered n && s.flag (F.NET_CTRL_ENABLE n) && p.link && p.holdAt.isNone

def State.maxFrame (s : State) (n : Nat) : Nat := clamp 1518 9216 (s.fld (F.NET_CTRL_MAXFRAME n))

/-- Class of a priority code point, of a DSCP (R165). -/
def State.pcpClass (s : State) (n p : Nat) : Nat := s.fld (F.NET_PCPMAP_MAP n) / 8 ^ (p % 8) % 8
def State.dscpClass (s : State) (n d : Nat) : Nat := s.fld (F.NET_DSCPMAP_MAP n (d / 8 % 8)) / 8 ^ (d % 8) % 8

/-- Class of a received frame (R165). -/
def State.frameClass (s : State) (n : Nat) (f : Frame) : Nat :=
  match f.pcp, f.dscp with
  | some p, _ => s.pcpClass n p
  | none, some d => s.dscpClass n d
  | none, none => 0

/-- The class is lossless on the port; a tripped queue is not (R165, R167). -/
def State.losslessOn (s : State) (n c : Nat) : Bool := bit (s.fld (F.NET_CLASS_LOSSLESS n)) c

/-! ### Header capture (R178, R179) -/

/-- The 128 bytes of a capture record. -/
def capBytes (time port flags outPort reason length filter cells seq : Nat) (head : Bytes) : Bytes :=
  le 8 time ++ [BitVec.ofNat 8 port, BitVec.ofNat 8 flags, BitVec.ofNat 8 outPort, BitVec.ofNat 8 reason]
    ++ le 2 length ++ [BitVec.ofNat 8 filter, 0] ++ le 4 cells ++ le 4 seq ++ zeros 8 ++ fitTo 96 head

/-- What happened to a frame, as a capture record tells it (R179). -/
structure CapInfo where
  port : Nat
  egress : Bool
  cut : Bool
  dropped : Bool
  fcsBad : Bool
  cls : Nat
  out : Nat
  reason : Nat
  length : Nat
  cells : Nat
  head : Bytes
  deriving DecidableEq, Repr

/-- An enabled filter matches (R178). -/
def State.capMatch (s : State) (x : CapInfo) (f : Nat) : Bool :=
  s.flag (F.BSN_CAPF_EN f) && bit (s.fld (F.BSN_CAPF_PORTS f)) x.port && bit (s.fld (F.BSN_CAPF_CLASSES f)) x.cls
    && bit (s.fld (F.BSN_CAPF_DIR f)) (b2n x.egress) && (x.dropped || !s.flag (F.BSN_CAPF_DROPS_ONLY f))

/-- The lowest-numbered filter that takes the frame: each filter takes every 2^RATE-th of its matches. -/
def capPick (s : State) (x : CapInfo) : Nat → Nat → State × Option Nat
  | 0, _ => (s, none)
  | n + 1, f =>
    if s.capMatch x f then
      let k := s.net.capSeen.getD f 0
      let s := { s with net := { s.net with capSeen := s.net.capSeen.put f (k + 1) } }
      if (k + 1) % 2 ^ s.fld (F.BSN_CAPF_RATE f) = 0 then (s, some f) else capPick s x n (f + 1)
    else capPick s x n (f + 1)

def State.capSize (s : State) : Nat := 8192 * clamp 1 256 (s.fld F.BSN_CAP_CFG_SIZE_MIB)

/-- Writes the capture record of one frame and direction (R178). -/
def State.capture (s : State) (x : CapInfo) : State :=
  let was := s.flag F.BSN_CAP_CFG_EN
  let s := s.applyRwls [0x180020, 0x180040, 0x180044, 0x180048, 0x18004C, 0x180050, 0x180054, 0x180058, 0x18005C]
  let s := if !was && s.flag F.BSN_CAP_CFG_EN then { s with net := { s.net with capCount := 0, capRing := .empty, capSeen := .empty } } else s
  if !s.flag F.BSN_CAP_CFG_EN || s.shelf.st = .dark || s.shelf.st = .held then s else
  match capPick s x 8 0 with
  | (s, none) => s
  | (s, some f) =>
    let sec' := s.dev / sec 1
    let s := if s.net.capSec = sec' then s else { s with net := { s.net with capSec := sec', capN := 0 } }
    let full := s.flag F.BSN_CAP_CFG_MODE && s.capSize ≤ s.net.capCount
    if full || 8000000 ≤ s.net.capN then s.bump F.BSN_CAP_LOST_LOST 1
    else
      let q := s.net.capCount + 1
      let flags := b2n x.egress + 2 * b2n x.cut + 4 * b2n x.dropped + 8 * b2n x.fcsBad + 16 * b2n (decide (96 < x.length)) + 32 * x.cls
      let r := capBytes s.dev x.port flags x.out x.reason x.length f x.cells q x.head
      { s with net := { s.net with capRing := s.net.capRing.put (s.net.capCount % s.capSize) r, capCount := q, capN := s.net.capN + 1 } }

/-- NET_CNT index of a discard reason, at the input (R180). -/
def reasonIndex (r : Nat) : Option Nat :=
  if r = 1 then some 1 else if r = 2 || r = 3 || r = 6 || r = 0xC then some 5 else if r = 4 then some 4
  else if r = 5 then some 0 else if r = 0xA then some 2 else none

/-- A frame that came in at crossbar port `n` is discarded with a reason; the counters are those of a network port. -/
def State.dropIn (s : State) (n : Nat) (f : Frame) (cls out reason : Nat) : State :=
  let s := match reasonIndex reason with
    | some i => if n < 4 then s.bump (F.NET_CNT_COUNT n i) 1 else s
    | none => s
  s.capture ⟨n, false, false, true, !f.fcsOk, cls, out, reason, f.length, 0, f.head⟩

/-! ### Buffer and pauses (R162, R166) -/

def State.bankOk (s : State) (k : Nat) : Bool := (s.thm.srcs.getD (0x400 + k) SrcSt.init).state = 0

/-- Banks that take new frames: powered, not fenced, and not draining toward a switch-off (R162, R175). -/
def State.banksIn (s : State) : List Nat :=
  (List.range 8).filter (fun k => s.domOn (51 + k) && s.bankOk k && (s.net.drainAt.isNone || k < 2))

/-- A bank holds frames still. -/
def State.bankBusy (s : State) (k : Nat) : Bool :=
  s.heldFrames.any (fun f => !f.thru && f.bank = k)
    || s.net.ports.vals.any (fun p => match p.sending with | some (f, true) => !f.thru && f.bank = k | _ => false)

/-- Banks of the pool: a fenced one leaves it once its frames have drained (R162). -/
def State.banksPool (s : State) : List Nat :=
  (List.range 8).filter (fun k => s.domOn (51 + k) && (s.bankOk k || s.bankBusy k))

/-- Free cells of the powered banks (R162, R180). -/
def State.bankFree (s : State) : Nat :=
  24576 * s.banksPool.length - sumN ((s.heldFrames.filter (fun f => !f.thru)).map (fun f => cellsOf f.length)) - s.slu.heldCells

/-- Free cells for a frame from `inPort` to `out`: the control path's 1,024 cells of the through-buffer, the direction's 3,584
in Dark, else the banks (R162, R174, R175). -/
def State.poolFree (s : State) (inPort out : Nat) : Nat :=
  if inPort = 7 then
    1024 - sumN ((s.heldFrames.filter (fun f => f.inPort = 7)).map (fun f => cellsOf f.length)) - s.ctlHeld
  else if s.shelf.st = .dark then
    3584 - sumN (((s.nport out).queues.vals.flatMap EgQueue.frames ++ (match (s.nport out).sending with | some (f, false) => [f] | _ => [])
      |>.filter (fun f => f.thru && f.inPort ≠ 7)).map (fun f => cellsOf f.length))
  else s.bankFree

/-- XON of a port (R166). -/
def State.xoff (s : State) (n : Nat) : Nat := clamp 512 32768 (s.fld (F.NET_PFC_XOFF n))
def State.xon (s : State) (n : Nat) : Nat := s.xoff n - 256
def State.headroom (s : State) (n : Nat) : Nat := clamp 256 8192 (s.fld (F.NET_PFC_HEADROOM n))

/-- Sends a PFC frame: it names every priority mapped to the class (R166). -/
def State.sendPfc (s : State) (n c quanta : Nat) : State :=
  let s := s.emit (.pfc n (maskWhere 8 (fun p => s.pcpClass n p = c)) quanta)
  if quanta = 0 then s else s.pmuEvent 0x304 n 1

/-- A lossless arrival holds cells at its input; the count passing XOFF sends a pause (R166). -/
def State.holdCells (s : State) (n c k : Nat) : State :=
  let p := s.nport n
  let v := p.held.getD c 0 + k
  let s := s.setNet n { p with held := p.held.put c v }
  if s.xoff n < v && !bit p.paused c && s.flag (F.NET_CLASS_PFC_EN n) then
    let p := s.nport n
    (s.setNet n { p with paused := setBit p.paused c true, pfcAt := p.pfcAt.put c (s.now + usec 40) }).sendPfc n c 0xFFFF
  else s

/-- Cells held for a network input are free again; at XON or below the pause ends (R166). -/
def State.freeCells (s : State) (n c k : Nat) : State :=
  if 4 ≤ n then s else
  let p := s.nport n
  let v := p.held.getD c 0 - k
  let s := s.setNet n { p with held := if v = 0 then p.held.del c else p.held.put c v }
  if bit p.paused c && v ≤ s.xon n then
    let p := s.nport n
    (s.setNet n { p with paused := setBit p.paused c false, pfcAt := p.pfcAt.del c }).sendPfc n c 0
  else s

def State.freeFrame (s : State) (f : QFrame) : State :=
  if f.lossless then s.freeCells f.inPort f.cls (cellsOf f.length) else s

/-- Discards the frames of one egress queue that satisfy `p`, with a reason, counted at index `i` of the port. -/
def State.flushQueue (s : State) (n c reason i : Nat) (p : QFrame → Bool) : State :=
  let q := s.egq n c
  let gone := q.frames.filter p
  let s := s.setQueue n c { q with frames := q.frames.filter (fun f => !p f) }
  let s := s.bump (F.NET_CNT_COUNT n i) gone.length
  gone.foldl (fun s f =>
    (s.freeFrame f).capture ⟨n, true, false, true, false, f.cls, n, reason, f.length, f.depth, f.head⟩) s

/-! ### Gates (R212) -/

/-- Gate mask at a position of a cycle: entry number, mask and the time left in the entry. -/
def gateAt (cycle : Nat) : List (Nat × Nat) → Nat → Nat → Nat → Nat × Nat × Nat
  | [], e, _, _ => (e, 0xFF, cycle)
  | [(g, _)], e, from_, pos => (e, g, cycle - max from_ pos)
  | (g, iv) :: rest, e, from_, pos =>
    if pos < from_ + iv then (e, g, min (from_ + iv) cycle - pos) else gateAt cycle rest (e + 1) (from_ + iv) pos

/-- Time until the gate of class `c` closes, walking at most `fuel` entries; `none` where it never does. -/
def untilClosed (g : GateList) (c : Nat) : Nat → Nat → Option Nat
  | 0, _ => none
  | fuel + 1, pos =>
    let (_, mask, left) := gateAt g.cycle g.entries 0 0 (pos % g.cycle)
    if !bit mask c then some 0
    else match untilClosed g c fuel (pos + left) with
      | none => none
      | some t => some (left + t)

/-- Position of a list in its cycle: (now − S) mod CYCLE, also where a step has taken the time back before S (R214). -/
def State.gclPos (s : State) (g : GateList) : Nat := (((s.dev : Int) - (g.start : Int)) % (g.cycle : Int)).toNat

/-- The entry a list is in: its number, gates and the time left in it. -/
def State.gclNow (s : State) (g : GateList) : Nat × Nat × Nat := gateAt g.cycle g.entries 0 0 (s.gclPos g)

/-- How long the class's gate stays open from now on: `some 0` closed, `none` without end (R212). -/
def State.gateOpen (s : State) (n c : Nat) : Option Nat :=
  match (s.nport n).oper with
  | none => none
  | some g =>
    if !s.flag (F.WEIR_GCL_CTL_ENABLE n) then none else untilClosed g c 130 (s.gclPos g)

def openFor (g : Option Nat) (t : Nat) : Bool := match g with | none => true | some k => 0 < k && t ≤ k

/-- Time of `len` bytes and their 20 bytes of preamble and gap at 400 Gb/s, in ns, rounded up (R209, R212). -/
def frameTime (len : Nat) : Nat := cdiv ((len + 20) * 8) 400

/-! ### Shapers and class selection (R206, R209, R210) -/

def burstBytes (kib : Nat) : Nat := clamp 9 16384 kib * 1024 * 1000

/-- Level of a class's shaper bucket in milli-bytes; a bucket not listed is full. -/
def State.shpLevel (s : State) (n c : Nat) : Int :=
  match (s.egq n c).bucket with
  | some b => b
  | none => (burstBytes (s.fld (F.WEIR_SHP_BURST_BURST n c)) : Int)

def State.shpOn (s : State) (n c : Nat) : Bool := s.fld (F.WEIR_SHP_RATE_RATE n c) ≠ 0

/-- Charges a starting frame to its class's bucket (R209). -/
def State.shpCharge (s : State) (n c len : Nat) : State :=
  if !s.shpOn n c then s else
  let q := s.egq n c
  let floor : Int := -(((s.maxFrame n + 20) * 1000 : Nat) : Int)
  s.setQueue n c { q with bucket := some (max floor (s.shpLevel n c - (((len + 20) * 1000 : Nat) : Int))) }

/-- A class may start a frame of `len` bytes now (R210). -/
def State.classMay (s : State) (n c len : Nat) : Bool :=
  openFor (s.gateOpen n c) (frameTime len) && (!s.shpOn n c || 0 ≤ s.shpLevel n c) && (s.egq n c).pausedTo.isNone

/-- The class's head frame may start now. -/
def State.classReady (s : State) (n c : Nat) : Bool :=
  match (s.egq n c).frames with
  | [] => false
  | f :: _ => s.classMay n c f.length

def State.isWrr (s : State) (n c : Nat) : Bool := bit (s.fld (F.WEIR_SCHED_WRR n)) c

def State.weight (s : State) (n c : Nat) : Nat := max 1 ((s.reg (0x1C1004 + 0x1000 * n)).toNat / 16 ^ c % 16)

/-- Deficit round robin among the weighted classes, from the class whose turn it is (R210). -/
def wrrPick (n : Nat) : Nat → State → Option (Nat × State)
  | 0, _ => none
  | fuel + 1, s =>
    let p := s.nport n
    let c := p.turn % 8
    let q := p.queue c
    let next := fun (s : State) =>
      let p := s.nport n
      let d := (p.turn + 1) % 8
      let s := s.setNet n { p with turn := d }
      if s.isWrr n d && s.classReady n d then
        let q := s.egq n d
        s.setQueue n d { q with deficit := q.deficit + s.weight n d * 256 }
      else if (s.egq n d).frames.isEmpty then s.setQueue n d { s.egq n d with deficit := 0 } else s
    match q.frames with
    | [] => wrrPick n fuel (next (s.setQueue n c { q with deficit := 0 }))
    | f :: _ =>
      if s.isWrr n c && s.classReady n c && f.length ≤ q.deficit then
        some (c, s.setQueue n c { q with deficit := q.deficit - f.length })
      else wrrPick n fuel (next s)

/-- The class that sends next: the highest eligible strict class, else the weighted ones (R210). -/
def State.pickClass (s : State) (n : Nat) : Option (Nat × State) :=
  match ((List.range 8).reverse).find? (fun c => !s.isWrr n c && s.classReady n c) with
  | some c => some (c, s)
  | none => if (List.range 8).any (fun c => s.isWrr n c && s.classReady n c) then wrrPick n 400 s else none

/-- A frame starts to leave: on the link, or with LOOPBACK back into the port. An event message of IEEE 1588 is time-stamped; one
in transit carries its residence time on (R161, R180, R306). -/
def State.sendFrame (s : State) (n : Nat) (f : QFrame) (cut : Bool) : State :=
  let s := s.shpCharge n f.cls f.length
  let p := s.nport n
  let back := s.flag (F.NET_CTRL_LOOPBACK n)
  let s := s.setNet n { p with
    sending := some (f, cut), sendEnd := s.now + frameTime f.length, loop := if back then p.loop ++ [f] else p.loop
    txStamp := if f.ptp && f.inPort = 7 then some s.dev else p.txStamp }
  let s := if back then s else s.emit (.frame n f cut)
  let s := if f.ptp then s.emit (.ptpSent n s.dev (if f.inPort < 4 then s.now - f.at_ else 0)) else s
  let s := (s.pmuEvent 0x302 n 1).pmuEvent 0x303 n f.length
  s.capture ⟨n, true, cut, false, false, f.cls, n, 0, f.length, f.depth, f.head⟩

/-- Selects and starts the next frame where the port is idle and up (R210, R216). -/
def State.startNext (s : State) (n : Nat) : State :=
  if (s.nport n).sending.isSome || !s.netUp n then s else
  let s := s.applyRwls [0x1C1000 + 0x1000 * n, 0x1C1004 + 0x1000 * n, 0x1C1080 + 0x1000 * n]
  match s.pickClass n with
  | none => s
  | some (c, s) =>
    let q := s.egq n c
    match q.frames with
    | [] => s
    | f :: fs => (s.setQueue n c { q with frames := fs, deficit := if fs.isEmpty then 0 else q.deficit }).sendFrame n f false

/-! ### Queueing for a network output (R164–R170) -/

/-- Weir and the output let a transit frame cut through (R170, R211). -/
def State.mayCut (s : State) (inPort out cls : Nat) : Bool :=
  s.flag F.BSN_CFG_CT_EN && ((inPort = 0 && out = 1) || (inPort = 1 && out = 0)) && (s.egq out cls).frames.isEmpty
    && !(s.egq out cls).tripped
    && (s.nport out).sending.isNone && s.netUp out && s.classMay out cls (s.maxFrame out)
    && (!s.shpOn out cls || (((s.maxFrame out + 20) * 1000 : Nat) : Int) ≤ s.shpLevel out cls)

/-- The other ring port. -/
def ringPeer (n : Nat) : Nat := if n = 0 then 1 else 0

/-- A blocked ring port passes only R-APS frames (R177). -/
def State.ringBlocks (s : State) (out : Nat) (f : Frame) : Bool :=
  out < 2 && s.flag F.BSN_RING_ENABLE && (s.nport out).ring ≠ 0 && f.kind ≠ .raps

/-- The frame as Basin keeps it. `lossless` is its kind at the input: the class's mark at the ingress port, or for an internal
source, which has none, at the output (R165, R166). -/
def State.asQueued (s : State) (inPort out cls : Nat) (f : Frame) : QFrame :=
  { inPort := inPort, cls := cls, length := f.length, lossless := s.losslessOn (if inPort < 4 then inPort else out) cls
    ce := f.ecnCe, at_ := s.now, old := false, head := f.head, thru := false, bank := 0, depth := 0, ecn := f.ecnCapable
    ptp := match f.kind with | .ptp e _ => e | _ => false }

/-- Where a frame is kept: the through-buffer for the control path and in Dark, else a bank that takes frames; which of them is
left open (R162, R175; assumption 68). -/
def State.placeFrame (s : State) (x : QFrame) : State × QFrame :=
  if x.inPort = 7 || s.shelf.st = .dark then (s, { x with thru := true })
  else (s.drawn, { x with bank := s.banksIn.getD (s.draw % s.banksIn.length) 0 })

/-- A frame enters its egress queue, marked where the queue is deep (R168, R179). -/
def State.putQueue (s : State) (out : Nat) (x : QFrame) : State :=
  let q := s.egq out x.cls
  let s := s.applyRwl (0x100034 + 0x10000 * out)
  let mark := s.flag (F.NET_ECN_ECN_EN out) && s.fld (F.NET_ECN_THRESH out) < q.depth && x.ecn
  let (s, x) := s.placeFrame { x with ce := x.ce || mark, depth := q.depth }
  let s := s.setQueue out x.cls { q with frames := q.frames ++ [x] }
  let s := if x.lossless && x.inPort < 4 then s.holdCells x.inPort x.cls (cellsOf x.length) else s
  let s := s.capture ⟨x.inPort, false, false, false, false, x.cls, out, 0, x.length, x.depth, x.head⟩
  s.startNext out

/-- Queues a stored frame for a network output, or discards it (R166–R168, R172, R177). -/
def State.enqueue (s : State) (inPort out cls : Nat) (f : Frame) : State :=
  let drop := fun (reason : Nat) => s.dropIn inPort f cls out reason
  let k := cellsOf f.length
  let q := s.egq out cls
  let x := s.asQueued inPort out cls f
  let full := s.poolFree inPort out < k
  if !s.netUp out then drop 1
  else if s.ringBlocks out f then drop 8
  else if q.tripped then drop 0xC
  else if !x.lossless && 16384 < q.depth then drop 2
  else if !x.lossless && full then drop 3
  else if x.lossless && full
      && (s.shelf.st = .dark || s.xoff inPort + s.headroom inPort < (s.nport inPort).held.getD cls 0 + k) then drop 4
  else s.putQueue out x

/-! ### Frames of the internal consumers (R164, R166) -/

/-- Crossbar credits let an internal source's frame in: its queue is not beyond the limit and its cells are free (R166;
assumption 68). -/
def State.hasCredit (s : State) (out : Nat) (x : QFrame) : Bool :=
  (s.egq out x.cls).depth ≤ 16384 && cellsOf x.length ≤ s.poolFree x.inPort out
    && !(s.nport out).credit.any (fun y => y.cls = x.cls)

/-- An internal source's frame enters its queue, or is held back until it may. -/
def State.offer (s : State) (out : Nat) (x : QFrame) : State :=
  if s.hasCredit out x then s.putQueue out x
  else s.setNet out { s.nport out with credit := (s.nport out).credit ++ [x] }

/-- Frames that were held back go in as far as they may. -/
def State.takeCredits (s : State) (out : Nat) : State :=
  let c := (s.nport out).credit
  if c.isEmpty then s else c.foldl (fun s x => s.offer out x) (s.setNet out { s.nport out with credit := [] })

/-- A frame of an internal source goes to the output its descriptor names: discarded where that is down or held, blocked or
tripped, else offered to Basin (R164, R167, R172, R177). -/
def State.sendInternal (s : State) (inPort out cls : Nat) (f : Frame) : State :=
  let s := { s with free := s.free + 96 }
  if !s.netUp out then s.dropIn inPort f cls out 1
  else if s.ringBlocks out f then s.dropIn inPort f cls out 8
  else if (s.egq out cls).tripped then s.dropIn inPort f cls out 0xC
  else s.offer out (s.asQueued inPort out cls f)

/-- The frame would be taken: its output is up and passes it. -/
def State.mayLeave (s : State) (out : Nat) (f : Frame) : Bool := s.netUp out && !s.ringBlocks out f

/-- The output port that an internal consumer names: of the ports that are up and may carry the frame the first, in the order N0
to N3; where there is none, N0 (assumption 68). -/
def State.outPorts (s : State) : List Nat :=
  (List.range s.nNet).filter (fun n => s.netUp n && (2 ≤ n || !s.flag F.BSN_RING_ENABLE || (s.nport n).ring = 0))

def State.outPort (s : State) : Nat := s.outPorts.headD 0

/-- A frame the part makes itself: its length with the FCS, its class' priority in its VLAN tag, and a head that begins with its
destination address; what follows in the head is left open (assumption 12). -/
def State.ownFrame (s : State) (length dmac vid pcp : Nat) (ecn : Bool) (kind : FrameKind) : Frame :=
  { length := max 64 length, dmac := dmac, multicast := dmac / 2 ^ 40 % 2 = 1, vid := vid, pcp := some pcp, dscp := none
    ecnCapable := ecn, ecnCe := false, fcsOk := true, kind := kind
    head := be 6 dmac ++ (List.range (min 96 (max 64 length) - 6)).map (fun k => BitVec.ofNat 8 (Config.freeValue (s.free + k))) }

/-- A message of the control path leaves by `out` in `cls`; it is told of where its frame is taken (R164). -/
def State.sendCtl (s : State) (out cls : Nat) (f : Frame) (o : Out) : State :=
  let s := if s.mayLeave out f then s.emit o else s
  s.sendInternal 7 out cls f

/-- The key that a wrapped one of the configuration set holds: key 1 is the rack key, 2 the service key (R246, R378; assumption 71). -/
def State.openKey (s : State) (which : Nat) (k : WrappedKey) : Bytes :=
  (gcmOpen (wrapKey s.fuses.deviceKey s.fuses.serial) (le 8 k.gen ++ le 4 which) (le 8 s.fuses.serial) k.wrapped k.tag).getD []

/-- The rack key. -/
def State.rackKeyNow (s : State) : Bytes := match s.cfg.data.rackKey with | some k => s.openKey 1 k | none => []

/-- A rack message: its 32-byte header, its body and its tag under the rack key (R248). -/
def State.rackBytes (s : State) (type : Nat) (body : Bytes) : Bytes :=
  let shelf := match s.cfg.data.rack.find? (fun e => e.serial = s.fuses.serial) with | some e => e.shelf | none => 0x1F
  let w := be 2 0x4E52 ++ [1, n8 type] ++ be 8 s.fuses.serial ++ be 8 s.rack.epoch ++ be 8 s.dev ++ be 2 body.length
    ++ [n8 (128 * b2n s.posB + shelf), 0] ++ body
  w ++ cmac s.rackKeyNow w

/-- A rack message of type `type` to the controller at place `dest` of the rack table, 0xFFFE for every listed one: UDP over IPv6, in
class 7 (R248). The next hop's address is left open (assumption 12). -/
def State.rackSend (s : State) (dest type : Nat) (body : Bytes) : State :=
  let out := s.outPort
  let mac := s.draw % 2 ^ 40
  let s := s.drawn
  let f := s.ownFrame (14 + 40 + 8 + 32 + body.length + 16 + 4) mac 0 7 false .rack
  let n := if dest = 0xFFFE then (s.cfg.data.rack.filter (·.serial ≠ s.fuses.serial)).length else 1
  let s := if s.mayLeave out f then s.emit (.rack dest type (s.rackBytes type body)) else s
  (List.range n).foldl (fun s _ => s.sendInternal 7 out 7 f) s

/-! ### Transit (R170, R171) -/

/-- A frame whose head has left by cut-through and that turns out bad ends with the inverted FCS after `bytes` bytes (R171). -/
def State.badTail (s : State) (out bytes : Nat) : State := (s.bump (F.NET_CNT_COUNT out 3) 1).emit (.badTail out bytes)

/-- A transit frame: cut through or stored (R170, R171). A frame whose first 256 bytes are all of it has no tail left to cut
through. -/
def State.transit (s : State) (inPort out cls : Nat) (f : Frame) : State :=
  let s := if (s.nport out).sending.isSome then s else s.applyRwl (0x1C1080 + 0x1000 * out)
  if s.mayCut inPort out cls && 256 < f.length && !s.ringBlocks out f then
    let long := s.maxFrame inPort < f.length
    let len := min f.length (s.maxFrame inPort)
    let s := if f.fcsOk then s else s.bump (F.NET_CNT_COUNT inPort 0) 1
    let s := s.capture ⟨inPort, false, true, false, !f.fcsOk, cls, out, 0, f.length, 0, f.head⟩
    let (s, x) := s.placeFrame { s.asQueued inPort out cls f with length := len, lossless := false }
    let s := s.sendFrame out x true
    if long || !f.fcsOk then s.badTail out (len - 4) else s
  else if f.length < 64 || s.maxFrame inPort < f.length then s.dropIn inPort f cls out 6
  else if !f.fcsOk then s.dropIn inPort f cls out 5
  else s.enqueue inPort out cls f

/-! ### Uncorrectable cell errors (R162) -/

/-- A queued frame is taken out of its queue and discarded with reason 0x0D. -/
def State.loseQueued (s : State) (n c i : Nat) : State :=
  let q := s.egq n c
  match q.frames[i]? with
  | none => s
  | some f =>
    ((s.setQueue n c { q with frames := q.frames.eraseIdx i }).freeFrame f).capture
      ⟨n, true, false, true, false, c, n, 0xD, f.length, f.depth, f.head⟩

/-- A frame that is leaving ends before its bad cell; how much of it has left is left open (assumption 12). -/
def State.loseLeaving (s : State) (n : Nat) : State :=
  match (s.nport n).sending with
  | none => s
  | some (f, _) => State.drawn (s.badTail n (256 * (s.draw % cellsOf f.length)))

/-- What holds cells of bank `k`, or of the through-buffer for 8: a place in an egress queue, or a leaving frame (no class). -/
def State.cellHolders (s : State) (k : Nat) : List (Nat × Option (Nat × Nat)) :=
  let here := fun (f : QFrame) => if k = 8 then f.thru else !f.thru && f.bank = k
  (List.range 4).flatMap (fun n =>
    let p := s.nport n
    (List.range 8).flatMap (fun c =>
      (((p.queue c).frames.zipIdx).filter (fun x => here x.1)).map (fun x => (n, some (c, x.2))))
      ++ (match p.sending with | some (f, _) => if here f then [(n, none)] else [] | none => []))

/-- An uncorrectable error in a cell of bank `k` discards the frame it lies in, or ends it where it is leaving; which frame's
cell it is is left open (R162, R171; assumption 68). -/
def State.cellError (s : State) (k : Nat) : State :=
  let l := s.cellHolders k
  match l[s.draw % l.length]? with
  | some (n, some (c, i)) => (s.drawn.loseQueued n c i).takeCredits n
  | some (n, none) => s.drawn.loseLeaving n
  | none => s

/-! ### Ports going down (R172) -/

/-- The port goes down: queues flushed, pauses toward sources released, its own pauses end; what credits held back for it is
discarded, and what is leaving is lost. -/
def State.portDown (s : State) (n : Nat) : State :=
  let s := (List.range 8).foldl (fun s c => s.flushQueue n c 0xA 2 (fun _ => true)) s
  let p := s.nport n
  let s := p.credit.foldl (fun s f => s.capture ⟨f.inPort, false, false, true, false, f.cls, n, 1, f.length, 0, f.head⟩) s
  let s := match p.sending with
    | some (f, _) => (s.freeFrame f).bump (F.NET_CNT_COUNT n 2) 1
    | none => s
  let p := s.nport n
  s.setNet n { p with
    link := false, fec := 0, holdAt := none, sending := none, paused := 0, pfcAt := .empty, credit := [], loop := []
    queues := p.queues.mapV (fun _ q => { q with pausedTo := none, pausedFrom := none, tripped := false, restoreAt := none }) }

/-- The port's domain has switched on: every bucket starts full (R205). -/
def State.portOn (s : State) (n : Nat) : State :=
  let p := s.nport n
  s.setNet n { p with queues := p.queues.mapV (fun _ q => { q with bucket := none }) }

/-! ### Ring protection (R176, R177) -/

def State.ringSt (s : State) (n st : Nat) : State := s.setNet n { s.nport n with ring := st }

/-- What the ring's R-APS frames carry: BSN_RING.RAPS_VID, 01-19-A7-00-00-RING_ID and BSN_RING.MEL (R176). -/
def State.rapsHdr (s : State) : RapsHdr :=
  { vid := s.fld F.BSN_RING_RAPS_VID, dmac := 0x0119A7000000 + s.fld F.BSN_RING_RING_ID, mel := s.fld F.BSN_RING_MEL }

/-- Sends an R-APS message in class 7 on ring ports; a port that is down or held takes none (R172, R176). -/
def State.raps (s : State) (q : RapsReq) (ports : List Nat) : State :=
  let h := s.rapsHdr
  ports.foldl (fun s n => s.sendCtl n 7 (s.ownFrame 64 h.dmac h.vid 7 false .raps) (.raps n q h)) s

/-- Signal failure of a ring port: it is blocked, R-APS(SF) goes out on the other, the node is in Protection, and the other
port forwards unless it has failed itself. -/
def State.ringFail (s : State) (n : Nat) : State :=
  if !s.flag F.BSN_RING_ENABLE then s else
  let m := ringPeer n
  let s := s.setNet n { s.nport n with ring := (if s.netPowered n then 1 else 3), holdoffAt := none }
  let s := if (s.nport m).ring = 2 then s.ringSt m 0 else s
  State.raps { s with net := { s.net with node := 1 } } .sf [m]

/-- A ring port's link is gone: the hold-off runs, or the failure is raised at once (R176). -/
def State.ringDown (s : State) (n : Nat) : State :=
  let s := s.applyRwl 0x180014
  let h := min 10000 (s.fld F.BSN_RINGT_HOLDOFF_MS) / 100 * 100
  let s := s.ringSt n 3
  if h = 0 then s.ringFail n else s.setNet n { s.nport n with holdoffAt := some (s.now + msec h) }

/-- The signal failure of a ring port clears (R173): it stays blocked until NR-RB, the node is Pending, the guard timer
starts, and R-APS(NR) goes out on both ring ports. -/
def State.ringClear (s : State) (n : Nat) : State :=
  if !s.flag F.BSN_RING_ENABLE then s.ringSt n 0 else
  let s := s.applyRwl 0x180014
  let g := clamp 10 2000 (s.fld F.BSN_RINGT_GUARD_MS)
  let s := s.setNet n { s.nport n with ring := 2, holdoffAt := none }
  State.raps { s with net := { s.net with node := 4, guardAt := some (s.now + msec g) } } .nr [0, 1]

/-- The link of a port is lost (R172, R173): counted, a frame cutting through from it ended, the port down, a ring port's signal
failure watched. How much of the cut frame had arrived, beyond its first 256 bytes, is left open (R171; assumption 12). -/
def State.linkLost (s : State) (n : Nat) : State :=
  if !(s.nport n).link then s
  else
    let s := s.bump (F.NET_CNT_COUNT n 6) 1
    let o := ringPeer n
    let s := match (s.nport o).sending with
      | some (f, true) =>
        if n < 2 && f.inPort = n then State.drawn (s.badTail o (256 + s.draw % (f.length - 256 + 1))) else s
      | _ => s
    let s := s.portDown n
    if n < 2 then s.ringDown n else s

/-! ### The local address table (R164, R180) -/

def State.laddr (s : State) (i : Nat) : Option (Nat × Nat) :=
  if s.flag (F.BSN_LADDR_HI_VALID i) then
    some (s.fld (F.BSN_LADDR_HI_MAC_HI i) * 2 ^ 32 + s.fld (F.BSN_LADDR_LO_MAC_LO i), s.fld (F.BSN_LADDR_HI_VID i))
  else none

def State.isLocal (s : State) (mac vid : Nat) : Bool := (List.range 16).any (fun i => s.laddr i = some (mac, vid))

/-- The established queue pair that a local address and a QPN name (R238). -/
def State.findQpn (s : State) (qpn mac : Nat) : Option (Nat × Qp) := s.slu.qps.find (fun _ q => q.qpn = qpn && q.localMac = mac && q.st = 1)

/-- Enters an address in the first free entry of the table; a full table takes none. -/
def State.addLaddr (s : State) (mac vid : Nat) (taken : Bool) : State :=
  if s.isLocal mac vid then s else
  match (List.range 16).find? (fun i => (s.laddr i).isNone) with
  | none => s
  | some i =>
    let s := (s.setFld (F.BSN_LADDR_LO_MAC_LO i) mac).setFld (F.BSN_LADDR_HI_MAC_HI i) (mac / 2 ^ 32)
    ((s.setFld (F.BSN_LADDR_HI_VID i) vid).setFld (F.BSN_LADDR_HI_TAKEN i) (b2n taken)).setFld (F.BSN_LADDR_HI_VALID i) 1

/-- Enters the controller's own host addresses, each VID × 2^48 + MAC (R164, R237; assumption 14). -/
def State.putOwnAddrs (s : State) : State :=
  s.cfg.data.addrs.foldl (fun s a => s.addLaddr (a % 2 ^ 48) (a / 2 ^ 48 % 4096) false) s

/-- Removes the addresses taken from the peer (R180). -/
def State.dropTaken (s : State) : State :=
  (List.range 16).foldl (fun s i => if s.flag (F.BSN_LADDR_HI_TAKEN i) then s.setReg (0x180084 + 8 * i) 0 else s) s

/-! ### Policers (R207, R208) -/

def State.polLevel (s : State) (t : Nat) : Nat :=
  match s.net.pol.get? t with
  | some v => v
  | none => burstBytes (s.fld (F.WEIR_POL_BURST_BURST t))

/-- A frame of tenant position `t` is checked: the new state, and whether it conforms (R208). -/
def State.police (s : State) (t len : Nat) : State × Bool :=
  if 1000 * len ≤ s.polLevel t then
    ({ s with net := { s.net with pol := s.net.pol.put t (s.polLevel t - 1000 * len) } }, true)
  else ((s.bump (F.WEIR_POL_EXC_EXC t) 1).bump F.WEIR_POL_TOTAL_EXCEED 1, false)

/-- One refill of a bucket: the level capped at the burst in force after the boundary (R206). -/
def refillPol (old new rate lvl : Nat) : Nat := min new (min old lvl + 1024 * rate)

end Sys2Proof.Machine
end

