-- ==== Sys2Proof/Machine/GusUnit.lean ====
section
/-! DEFINITION. Gusset as a unit: reliable sending, the changes a tick delta will carry, and what waits for the standby
(R218–R228). -/

namespace Sys2Proof.Machine

/-- Capture records of Gusset frames at crossbar port 6 (R163, R178). They carry no class of their own and count as class 0
(assumption 68). -/
def State.gusFrames (s : State) (egress : Bool) (frames : List (Nat × Bytes)) : State :=
  frames.foldl (fun s f => s.capture ⟨6, egress, false, false, false, 0, if egress then 6 else 7, 0, f.1, 0, f.2⟩) s

/-- A Gusset message leaves by crossbar port 6, with the highest sequence number received in order (R218). -/
def State.putGusset (s : State) (seq bed : Nat) (m : GMsg) (again : Bool) : State :=
  let l := m.wire seq s.gus.rxSeq bed again
  (s.emit (.gusset seq bed m l)).gusFrames true (l.map (fun f => (f.length, f.take 96)))

/-- Sends a message reliably: its frames take the next link sequence numbers, and it is kept until the last of them is
acknowledged (R218, R219, R221). -/
def State.gusSend (s : State) (bed : Nat) (m : GMsg) (rel : OnDelivery) : State :=
  let q := s.gus.txSeq + 1
  let l := s.gus.txSeq + GMsg.frames m
  let s := { s with gus := { s.gus with txSeq := l, unacked := s.gus.unacked ++ [({ seq := q, last := l, bed := bed, msg := m, sentAt := s.now, tries := 0, release := rel, out := s.gus.link } : GTx)] } }
  if s.gus.link then (State.putGusset { s with gus := { s.gus with ackAt := none } } q bed m false).pmuEvent 0xC00 0xFF m.size else s

/-- Slots of members that are reached through the peer (R101). -/
def State.viaPeer (s : State) : List Nat :=
  (s.beds.vals.flatMap (fun x => (x.members.vals.filter (·.single)).map (·.slot))).eraseDups

/-- The peer proxies no more: members it alone reached are unreachable, and the 5 s of R98 begin (R101). -/
def State.proxyLost (s : State) : State :=
  { s with drv := { s.drv with ports := s.viaPeer.foldl (fun t k =>
      t.put k (let p := t.getD k DrvPort.init; if p.link || p.unreachAt.isSome then p else { p with unreachAt := some (s.now + sec 5) })) s.drv.ports } }

/-- The peer proxies again. -/
def State.proxyBack (s : State) : State :=
  { s with drv := { s.drv with ports := s.viaPeer.foldl (fun t k => t.modify k (fun p => { p with unreachAt := none })) s.drv.ports } }

/-- The link is down until it trains again; a retrain of more than 10 ms is an event (R217). -/
def State.gusRetrain (s : State) : State :=
  if !s.gus.link then s
  else State.bump { s.proxyLost with gus := { s.gus with link := false, retrain := true, retrainAt := some (s.now + msec 10), downAt := some s.now } } (F.GUS_CNT_COUNT 2) 1

/-- Sends a control message, under a new message ID (R220). -/
def State.gusControl (s : State) (bed kind : Nat) (body : Bytes) : State :=
  let i := s.gus.nextMsg
  State.gusSend { s with gus := { s.gus with nextMsg := i + 1 } } bed (.control kind bed i body) .nothing

/-- A control message that answers one keeps its message ID. -/
def State.gusAnswer (s : State) (bed kind msgId : Nat) (body : Bytes) : State :=
  s.gusSend bed (.control kind bed msgId body) .nothing

/-- Sends a piece of a control message that is laid out by its kind, under a new message ID (R220). -/
def State.gusPiece (s : State) (bed sectors : Nat) (p : JoinPiece) : State :=
  let i := s.gus.nextMsg
  State.gusSend { s with gus := { s.gus with nextMsg := i + 1 } } bed (.joinPiece bed i sectors p) .nothing

/-- The owner's changes and writes of the bed go to the peer: it runs mirrored, or a join copy is under way, in Awake
(R45, R226, R242). -/
def State.copied (s : State) (b : Nat) : Bool :=
  s.shelf.st = .awake && (match s.bed? b with | some x => x.owned && (x.mirrored || x.copying) | none => false)

/-- What is done for the bed waits for the standby: a joined standby takes part in the tick (R45, R228, R242). -/
def State.ticked (s : State) (b : Nat) : Bool :=
  s.shelf.st = .awake && (match s.bed? b with | some x => x.owned && x.mirrored | none => false)

/-- Notes a change for the bed's next tick delta (R226). -/
def State.delta (s : State) (b : Nat) (e : DeltaEntry) : State :=
  if s.copied b then { s with gus := { s.gus with delta := s.gus.delta.put b (s.gus.delta.getD b [] ++ [e]) } } else s

/-- What arrived in tick `t` for bed `b` still waits for the standby (R45, R228). -/
def State.tickWaits (s : State) (b t : Nat) : Bool := s.ticked b && s.gus.ackedBed.getD b 0 < t

end Sys2Proof.Machine
end

