-- ==== Sys2Proof/Machine/Status.lean ====
section
/-! DEFINITION. Completion statuses of NVMe commands: [14] DNR, [10:8] status code type, [7:0] status code
(R33, R36–R39, R57, R411). -/

namespace Sys2Proof.Machine.Status

def ok : Nat := 0
def invalidOpcode : Nat := 0x4001
def invalidField : Nat := 0x4002
def dataTransferError : Nat := 0x0004
def internalError : Nat := 0x0006
def abortRequested : Nat := 0x0007
def invalidNamespace : Nat := 0x400B
def sglLength : Nat := 0x400F
def sglType : Nat := 0x4011
def writeProtected : Nat := 0x4020
def capacityExceeded : Nat := 0x0081
def namespaceNotReady : Nat := 0x0082
def abortLimit : Nat := 0x0103
def invalidLogPage : Nat := 0x4109
def invalidFormat : Nat := 0x410A
def nsInsufficientCapacity : Nat := 0x4115
def nsidUnavailable : Nat := 0x4116
def controllerListInvalid : Nat := 0x411C
def selfTestInProgress : Nat := 0x011D
def controllerBusy : Nat := 0x0181
def connectInvalidParameters : Nat := 0x4182
def connectInvalidHost : Nat := 0x4184
def invalidKeySize : Nat := 0x4186
def keyDoesNotExist : Nat := 0x4187
def unrecoveredError : Nat := 0x4188
def keyExists : Nat := 0x4189
def unrecoveredRead : Nat := 0x4281
def accessDenied : Nat := 0x4286
def bedOffline : Nat := 0x4701
def shelfDark : Nat := 0x0702
def parkTimeout : Nat := 0x0703
def retentionHeld : Nat := 0x4704
def transformFailed : Nat := 0x0705
def authUnrecovered : Nat := 0x4706

end Sys2Proof.Machine.Status
end

