-- ==== Sys2Proof/Machine/CmdUnit.lean ====
section
/-! DEFINITION. The command service as a unit: arrival numbers, slots, phases, completion and release (R35–R48). -/

namespace Sys2Proof.Machine

/-- Key of a queue in the queue table. -/
def qkey (assoc qid : Nat) : Nat := assoc * 65536 + qid

def State.assoc? (s : State) (a : Nat) : Option Assoc := s.cmd.assocs.get? a

def State.modAssoc (s : State) (a : Nat) (f : Assoc → Assoc) : State :=
  { s with cmd := { s.cmd with assocs := s.cmd.assocs.modify a f } }

def State.cmd? (s : State) (arr : Nat) : Option CmdRec := s.cmd.cmds.get? arr

/-- The command in progress that a CAP names (R43). -/
def State.findCap (s : State) (c : Cap) : Option (Nat × CmdRec) := s.cmd.cmds.find (fun _ r => r.cap = c)

/-- The bed of an association's subsystem. Associations from 65,536 on stand for the beds' own internal commands, the moves
of R95 and R155. -/
def State.bedOf (s : State) (c : Cap) : Option Nat :=
  if 65536 ≤ c.assoc then some (c.assoc - 65536) else
  match s.assoc? c.assoc with
  | some a => a.bed
  | none => none

/-! ### Slots (R35) -/

def State.inUse (s : State) (k : Nat) : Nat :=
  (s.cmd.cmds.filterT (fun _ r => r.slot.isSome && qkey r.cap.assoc r.cap.qid = k)).size

/-- The shared count of R35. -/
def State.shared (s : State) : Nat := 65536 - sumN (s.cmd.queues.keys.map (fun k => max (s.inUse k) 4))

def State.qcap (s : State) : Nat := clamp 4 1024 (s.fld F.CMD_CFG_QCAP)

/-- A queue may take a slot (R35 rules 3 and 4); during a core episode complete capsules wait in their buffers (R317), and
from step 2 of the power-fail sequence on none takes one (R297). -/
def State.mayTake (s : State) (k : Nat) : Bool :=
  if s.coreStop || s.cmd.stopped then false else
  match s.cmd.queues.get? k with
  | none => false
  | some q => s.inUse k < 4 || (0 < s.shared && s.inUse k < min s.qcap q.size)

/-- The capsules of a queue still waiting for a slot, in arrival order. -/
def State.waitingOf (s : State) (k : Nat) : List Nat :=
  (s.cmd.cmds.filterT (fun _ r => r.phase = .waiting && qkey r.cap.assoc r.cap.qid = k)).keys

/-- The lowest slot number not in use. -/
def State.freeSlot (s : State) : Nat :=
  let used := s.cmd.cmds.vals.filterMap (·.slot)
  match (List.range (used.length + 1)).find? (fun i => !used.contains i) with
  | some i => i
  | none => 0

/-- Phase of R364 that a command phase is charged to. -/
def CmdPhase.charge : CmdPhase → Nat
  | .waiting => 0
  | .board => 1
  | .held => 2
  | .working => 4
  | .effect => 4
  | .done => 5
  | .parked => 7

def addAt (l : List Nat) (i v : Nat) : List Nat :=
  (List.range 8).map (fun j => l.getD j 0 + (if j = i then v else 0))

/-- Moves a command to a phase; the time of the phase it leaves is charged (R364). -/
def State.setPhase (s : State) (arr : Nat) (p : CmdPhase) : State :=
  s.mod arr (fun r => { r with
    phase := p, times := addAt r.times (if s.coreStop then 7 else r.phase.charge) (s.now - r.since), since := s.now
    work := { r.work with parked := r.work.parked || p = .parked } })

/-- At either end of a core episode the time so far is charged; the episode itself is a pause (R364). -/
def State.chargeAll (s : State) : State := s.cmd.cmds.keys.foldl (fun s arr =>
  match s.cmd? arr with | some r => s.setPhase arr r.phase | none => s) s

/-- Opcode of a command. -/
def NvmeCmd.opcode : NvmeCmd → Nat
  | .flush _ => 0
  | .write _ _ _ _ => 1
  | .read _ _ _ _ => 2
  | .writeZeroes _ _ _ => 8
  | .dsm _ _ _ => 9
  | .verify _ _ _ => 0xC
  | .store _ _ _ _ _ _ => 1
  | .retrieve _ _ _ _ => 2
  | .list _ _ _ _ => 6
  | .delete _ _ => 0x10
  | .exist _ _ => 0x14
  | .hold _ _ _ _ => 0x80
  | .importRecord _ _ _ _ _ _ => 0x81
  | .objectInfo _ _ _ _ => 0x82
  | .admin o => o

def NvmeCmd.isKv : NvmeCmd → Bool
  | .store _ _ _ _ _ _ => true
  | .retrieve _ _ _ _ => true
  | .list _ _ _ _ => true
  | .delete _ _ => true
  | .exist _ _ => true
  | .hold _ _ _ _ => true
  | .importRecord _ _ _ _ _ _ => true
  | .objectInfo _ _ _ _ => true
  | _ => false

def CmdRec.opcode (r : CmdRec) : Nat :=
  match r.cmd with
  | some c => NvmeCmd.opcode c
  | none => (r.capsule.getD 0 0).toNat

/-- Notes a command of a copied bed for the tick delta (R226 section 0x01). -/
def State.cmdDelta (s : State) (arr : Nat) : State :=
  match s.cmd? arr with
  | none => s
  | some r =>
    match r.slot, s.bedOf r.cap with
    | some sl, some b => s.delta b (.slotTaken sl r.number (r.serial.getD 0) r.cap r.phase.charge (r.cmd.getD (.admin r.opcode)))
    | _, _ => s

/-- Gives a waiting capsule a slot. -/
def State.grant (s : State) (arr : Nat) : State :=
  let sl := s.freeSlot
  let s := (s.setPhase arr .held).mod arr (fun r => { r with slot := some sl })
  let s := s.cmdDelta arr
  s.pmuEvent 0x700 0xFF 1

/-- The waiting capsule that takes the next slot: the lowest arrival number among the head capsules of the queues that may
take one (R35 rule 6). -/
def State.nextGrant (s : State) : Option Nat :=
  let heads := s.cmd.queues.keys.filterMap (fun k => if s.mayTake k then (s.waitingOf k).head? else none)
  heads.foldl (fun m a => match m with | none => some a | some b => some (min a b)) none

/-- Free slots go to the waiting capsules, one after the other (R35 rule 6). -/
def State.grantsF : Nat → State → State
  | 0, s => s
  | n + 1, s => match s.nextGrant with | some arr => grantsF n (s.grant arr) | none => s

def State.grants (s : State) : State := State.grantsF (s.cmd.cmds.filterT (fun _ r => r.phase = .waiting)).size s

/-- The command has not reached its commit point (R43). -/
def CmdRec.catchable (r : CmdRec) : Bool :=
  !r.work.begun && (match r.phase with
    | .waiting => true
    | .held => true
    | .parked => true
    | .board => true
    | _ => false)

/-- A command chosen for sampling: it matches the sampling filter and is every 2^RATE-th that does (R366). -/
def State.samplePick (s : State) (arr : Nat) (r : CmdRec) : State :=
  if !s.pmuOn || !s.flag F.PMU_SMP_CFG_EN then s
  else if !s.filtMatch (s.fld F.PMU_SMP_CFG_FILT) r.opcode r.nsid r.cap.assoc r.isAdmin then s
  else
    let k := s.pmu.smpSeen + 1
    { s with pmu := { s.pmu with
        smpSeen := k
        smpPicked := if k % 2 ^ s.fld F.PMU_SMP_CFG_RATE = 0 then s.pmu.smpPicked ++ [arr] else s.pmu.smpPicked } }

/-- A capsule becomes complete: it takes the next arrival number and, where it is its turn, a slot (R35, R40). -/
def State.arrive (s : State) (cap : Cap) (nsid : Nat) (cmd : Option NvmeCmd) (capsule : Bytes) (isAdmin : Bool) : State × Nat :=
  let arr := s.cmd.arrival + 1
  let r : CmdRec :=
    { number := arr, cap := cap, nsid := nsid, cmd := cmd, capsule := capsule, tick := s.gus.tick, time := s.now, slot := none
      phase := .waiting, serial := none, epoch := none, status := 0, dw0 := 0, dw1 := 0, discard := false
      isAdmin := isAdmin, bare := false, work := CmdWork.init, times := [], since := s.now }
  let s := { s with cmd := { s.cmd with arrival := arr, cmds := s.cmd.cmds.put arr r, lastIo := if isAdmin then s.cmd.lastIo else s.now } }
  let s := s.samplePick arr r
  (s.grants, arr)

/-! ### Completion and release (R45) -/

/-- The completion queue of endpoint function 0 that a command's completion goes to. -/
def State.cqOf (s : State) (c : Cap) : Option Nat :=
  match s.assoc? c.assoc with
  | some a => if a.fn0 then (s.cmd.queues.get? (qkey c.assoc c.qid)).map (·.cqid) else none
  | none => none

/-- The completion queue has no free entry, or function 0 may send no request (R326, R337). -/
def State.cqFull (s : State) (c : Cap) : Bool :=
  match s.cqOf c with
  | some k => !s.fnMaster 0 || (match s.ept.cqs.get? k with | some q => q.full | none => false)
  | none => false

/-- The completion of a command waits for its tick, that of every bed where it names none (R45), for the end of a fence of its bed (R233), for a free entry of its
completion queue on endpoint function 0 (R326), and for the end of a core episode (R317). -/
def State.held (s : State) (r : CmdRec) : Bool :=
  (match s.bedOf r.cap with
   | some b => s.tickWaits b r.tick || (match s.bed? b with | some x => x.fenced | none => false)
   | none => s.beds.keys.any (fun b => s.tickWaits b r.tick)) || s.cqFull r.cap || s.coreStop

/-- The 128-byte sample record of a command (R367). -/
def sampleBytes (s : State) (arr : Nat) (r : CmdRec) (times : List Nat) (q : Nat) (ended : Bool) : Bytes :=
  let kv := match r.cmd with | some c => NvmeCmd.isKv c | none => false
  let fn0 := match s.assoc? r.cap.assoc with | some a => a.fn0 | none => false
  let (lba, cnt, key) := match r.cmd with
    | some (.write _ l n _) => (l, n, [])
    | some (.read _ l n _) => (l, n, [])
    | some (.writeZeroes _ l n) => (l, n, [])
    | some (.verify _ l n) => (l, n, [])
    | some (.store _ k sz _ _ _) => (r.serial.getD 0, sz, k.bytes)
    | some (.retrieve _ k _ _) => (0, 0, k.bytes)
    | some (.delete _ k) => (r.serial.getD 0, 0, k.bytes)
    | some (.exist _ k) => (0, 0, k.bytes)
    | some (.hold _ k _ _) => (r.serial.getD 0, 0, k.bytes)
    | some (.importRecord _ k _ n _ _) => (r.serial.getD 0, n, k.bytes)
    | some (.objectInfo _ k _ _) => (0, 0, k.bytes)
    | some (.list _ k _ _) => (0, 0, k.bytes)
    | _ => (0, 0, [])
  let flags := b2n r.isAdmin + 2 * b2n kv + 4 * b2n fn0 + 8 * b2n r.work.parked
    + 16 * b2n (decide (r.status = Status.abortRequested)) + 32 * b2n ended + 64 * b2n r.work.resumed
  le 8 (s.devOf r.time) ++ le 2 r.cap.assoc ++ le 2 r.cap.qid ++ le 2 r.cap.cid
    ++ [BitVec.ofNat 8 r.opcode, BitVec.ofNat 8 flags] ++ le 4 r.nsid ++ le 2 (if ended then 0 else r.status) ++ zeros 2
    ++ le 8 lba ++ le 4 cnt ++ [BitVec.ofNat 8 ((s.bedOf r.cap).getD 0xFF), BitVec.ofNat 8 (r.work.member.getD 0xFF),
      BitVec.ofNat 8 (Config.bobbinEngine arr % 16), 0]
    ++ le 8 r.number ++ (times.map (fun t => le 4 (min 0xFFFFFFFF (t / 10)))).flatten
    ++ le 8 r.work.stored ++ le 8 r.work.hostBytes ++ le 8 r.tick ++ fitTo 16 key ++ le 4 q ++ zeros 4

/-- Writes the sample record of a selected command at its release (R366). -/
def State.sampleWrite (s : State) (arr : Nat) (r : CmdRec) (times : List Nat) (ended : Bool) : State :=
  if !s.pmu.smpPicked.contains arr then s else
  let s := { s with pmu := { s.pmu with smpPicked := s.pmu.smpPicked.filter (· ≠ arr) } }
  let f := s.fld F.PMU_SMP_CFG_FILT
  if !s.pmuOn || !s.flag F.PMU_SMP_CFG_EN || (s.now - r.time) / 1000 < s.fld (F.PMU_FILT_B_MIN_US f) then s else
  let sc := s.dev / sec 1
  let s := if s.pmu.smpSec = sc then s else { s with pmu := { s.pmu with smpSec := sc, smpN := 0 } }
  if 1000000 ≤ s.pmu.smpN || (s.flag F.PMU_SMP_CFG_MODE && 4096 ≤ s.pmu.smpUnread.length) then s.bump F.PMU_SMP_LOST_LOST 1
  else
    let q := s.pmu.smpWritten + 1
    { s with pmu := { s.pmu with
        smpWritten := q, smpUnread := s.pmu.smpUnread.filter (fun x => q < x + 4096) ++ [q], smpN := s.pmu.smpN + 1
        smpRing := s.pmu.smpRing.put ((q - 1) % 4096) (sampleBytes s arr r times q ended) } }

/-- Histograms and samples of a command that is released (R363–R366). -/
def State.pmuCommand (s : State) (arr : Nat) (r : CmdRec) (ended : Bool) : State :=
  let times := addAt r.times (if s.coreStop then 7 else r.phase.charge) (s.now - r.since)
  let keep := fun (s : State) (h : Nat) => !s.flag (F.PMU_HIST_CFG_FILT_EN h)
    || s.filtMatch (s.fld (F.PMU_HIST_CFG_FILT h)) r.opcode r.nsid r.cap.assoc r.isAdmin
  let s := if ended then s else
    (List.range 8).foldl (fun s i => s.histAdd (i + 1) 0xFF (times.getD i 0) (keep s)) (s.histAdd 0 0xFF (s.now - r.time) (keep s))
  s.sampleWrite arr r times ended

/-- A finished association whose last command is gone returns its queues (R34). -/
def State.assocSweep (s : State) (a : Nat) : State :=
  match s.assoc? a with
  | some x =>
    if x.ended && !(s.cmd.cmds.vals.any (fun r => r.cap.assoc = a)) then
      { s with cmd := { s.cmd with assocs := s.cmd.assocs.del a, queues := s.cmd.queues.filterT (fun _ q => q.assoc ≠ a) } }
    else s
  | none => s

/-- The key bytes of a command. -/
def kvBytes (k : KvKey) : Bytes := k.bytes.take k.len

/-- LBA range of a block command, as first and count. -/
def NvmeCmd.ranges : NvmeCmd → List (Nat × Nat)
  | .write _ a n _ => [(a, n)]
  | .read _ a n _ => [(a, n)]
  | .writeZeroes _ a n => [(a, n)]
  | .dsm _ _ rs => rs
  | .verify _ a n => [(a, n)]
  | _ => []

def NvmeCmd.modifies : NvmeCmd → Bool
  | .write _ _ _ _ => true
  | .writeZeroes _ _ _ => true
  | .dsm _ d _ => d
  | .store _ _ _ _ _ _ => true
  | .delete _ _ => true
  | .hold _ _ _ _ => true
  | .importRecord _ _ _ _ _ _ => true
  | _ => false

def NvmeCmd.key? : NvmeCmd → Option Bytes
  | .store _ k _ _ _ _ => some (kvBytes k)
  | .retrieve _ k _ _ => some (kvBytes k)
  | .delete _ k => some (kvBytes k)
  | .exist _ k => some (kvBytes k)
  | .hold _ k _ _ => some (kvBytes k)
  | .importRecord _ k _ _ _ _ => some (kvBytes k)
  | .objectInfo _ k _ _ => some (kvBytes k)
  | _ => none

def NvmeCmd.isList : NvmeCmd → Bool
  | .list _ _ _ _ => true
  | _ => false

/-- What the scoreboard holds of a command: its key, its LBA ranges one by one, or for a List the whole namespace (R41, R60,
R227). -/
def CmdRec.scores (r : CmdRec) : List ScoreEntry :=
  match r.cmd with
  | none => []
  | some c =>
    let e : ScoreEntry := { arrival := r.number, nsid := r.nsid, modifies := NvmeCmd.modifies c, keys := NvmeCmd.isKv c, whole := NvmeCmd.isList c
                            first := 0, count := 0, key := (NvmeCmd.key? c).getD [] }
    if NvmeCmd.isKv c || (NvmeCmd.ranges c).isEmpty then [e] else (NvmeCmd.ranges c).map (fun a => { e with first := a.1, count := a.2 })

/-- Takes a command out of its slot and the scoreboard; the slot goes to the oldest waiting capsule (R35 rule 6). -/
def State.dropCmd (s : State) (arr : Nat) : State :=
  match s.cmd? arr with
  | none => s
  | some r =>
    let s := match s.bedOf r.cap, r.slot with
      | some b, some sl => (r.scores.foldl (fun (s : State) e => s.delta b (.scoreRemove e)) s).delta b (.slotFreed sl)
      | _, _ => s
    State.grants (State.assocSweep { s with cmd := { s.cmd with cmds := s.cmd.cmds.del arr } } r.cap.assoc)

/-- The queue pair of a queue. -/
def State.qpOf (s : State) (c : Cap) : Option (Nat × Qp) :=
  s.slu.qps.find (fun _ q => q.assoc = c.assoc && q.qid = c.qid && q.st = 1)

end Sys2Proof.Machine
end

