-- ==== Sys2Proof/Machine/SluUnit.lean ====
section
/-! DEFINITION. Sluice as a unit: queue pairs, acknowledgement, requests, ingest windows, triggered work requests, and the
end of an association (R34, R181–R203). -/

namespace Sys2Proof.Machine

def psnMod : Nat := 16777216

/-- Distance from PSN `a` up to PSN `b`. -/
def psnDist (a b : Nat) : Nat := (b + psnMod - a % psnMod) % psnMod

def psnAdd (a k : Nat) : Nat := (a + k) % psnMod

def State.modQp (s : State) (i : Nat) (f : Qp → Qp) : State :=
  { s with slu := { s.slu with qps := s.slu.qps.modify i f } }

def State.qp? (s : State) (i : Nat) : Option Qp := s.slu.qps.get? i

/-- The engine of half `h` is not fenced. -/
def State.halfOk (s : State) (h : Nat) : Bool := (s.thm.srcs.getD (0x600 + h) SrcSt.init).state = 0

/-- The half that is to serve queue pair `i` (R182): half 1, while it is on and not about to switch off, the odd ones; a fenced
engine none. -/
def State.halfTarget (s : State) (i : Nat) : Nat :=
  if s.slu.half1 && !bit s.pwr.draining 60 && s.halfOk 1 && (i % 2 = 1 || !s.halfOk 0) then 1 else 0

/-- The half that serves queue pair `i` now. -/
def State.halfOf (s : State) (i : Nat) : Nat :=
  match s.qp? i with
  | some q => (match q.moveBy with | some t => if t ≤ s.now then s.halfTarget i else q.half | none => q.half)
  | none => s.halfTarget i

/-- A message boundary: no message has arrived in part. -/
def Qp.between (q : Qp) : Bool := q.msgs.isEmpty && q.held.isEmpty

/-- Moves a queue pair to the half that is to serve it: at a message boundary, within 1 ms at most, or at once from a fenced
engine. The move itself takes no time here, so that no arriving frame waits in Basin for its end (R182; assumption 69). -/
def State.moveQp (s : State) (i : Nat) : State :=
  match s.qp? i with
  | none => s
  | some q =>
    let h := s.halfTarget i
    if q.half = h then s.modQp i (fun q => { q with moveBy := none })
    else if q.between || !s.halfOk q.half || (match q.moveBy with | some t => decide (t ≤ s.now) | none => false) then
      s.modQp i (fun q => { q with half := h, moveBy := none })
    else s.modQp i (fun q => { q with moveBy := some (q.moveBy.getD (s.now + msec 1)) })

/-- A half has switched on, is about to switch off, or its engine's fence has changed. -/
def State.moveQps (s : State) : State := s.slu.qps.keys.foldl State.moveQp s

/-- Queue pairs that half 1 serves still. -/
def State.half1Busy (s : State) : Bool :=
  s.slu.qps.vals.any (fun q => q.half = 1 && (match q.moveBy with | some t => decide (s.now < t) | none => false))

/-- The bed a queue pair's association serves. -/
def State.qpBed (s : State) (q : Qp) : Option Nat := match s.assoc? q.assoc with | some a => a.bed | none => none

/-- The queue pair serves a self-fenced bed: nothing goes out on it (R233). -/
def State.qpFenced (s : State) (q : Qp) : Bool :=
  match s.qpBed q with
  | some b => (match s.bed? b with | some x => x.fenced | none => false)
  | none => false

/-- The queue pair runs mirrored: its notices precede its messages (R224). -/
def State.qpCopied (s : State) (q : Qp) : Option Nat :=
  match s.qpBed q with
  | some b => if s.copied b then some b else none
  | none => none

/-- A queue pair's state as a tick delta carries it (R226 section 0x03, R227): the local address by its place in the address table. -/
def State.qpCopy (s : State) (i : Nat) (q : Qp) : QpCopy :=
  { index := i, gen := q.gen, expPsn := q.ePsn, msn := q.msn, reqNext := q.nextPsn
    oldest := (match q.sent with | r :: _ => r.first | [] => q.nextPsn)
    readsOut := (q.sent.filter (·.kind = 4)).length, mtu := q.mtu, spray := q.paths, rtt10ns := q.rtt / 10, rateMbps := q.rate
    assoc := q.assoc, remoteGid := q.remoteGid, remoteQpn := q.remoteQpn, remoteMac := q.remoteMac, vlan := q.vlan
    laddr := ((List.range 16).find? (fun k => s.laddr k = some (q.localMac, q.vlan))).getD 0 }

/-- A queue pair that serves a bed is new to the bed's standby (R226). -/
def State.qpTell (s : State) (b i : Nat) (q : Qp) : State :=
  let c := s.qpCopy i q
  (s.modQp i (fun q => { q with told := some c })).delta b (.qpCreated c)

/-- The queue pairs of a bed that have changed since the standby was last told of them (R226). -/
def State.qpChanges (s : State) (b : Nat) : State :=
  s.slu.qps.entries.foldl (fun s e =>
    let c := s.qpCopy e.1 e.2
    if e.2.st = 1 && s.qpBed e.2 = some b && e.2.told.isSome && e.2.told ≠ some c then
      (s.modQp e.1 (fun q => { q with told := some c })).delta b (.qpChanged c)
    else s) s

/-! ### Frames (R164, R181, R194) -/

/-- Bytes of a RoCE v2 frame about its extension headers and payload: Ethernet with its VLAN tag, IPv4 or IPv6 after the kind of
the remote GID, UDP, BTH, the placement header of a spraying queue pair, ICRC and FCS (R181, R194; assumption 69). -/
def Qp.frameLen (q : Qp) (ext payload : Nat) : Nat :=
  14 + (if q.vlan = 0 then 0 else 4) + (if q.remoteGid / 2 ^ 32 = 0xFFFF then 20 else 40) + 8 + 12
    + (if q.paths = 0 then 0 else 20) + ext + 4 * cdiv payload 4 + 4 + 4

/-- The port of path `p`: the p-th of those that are up and may carry the queue pair; without spraying always the first
(R194; assumption 68). -/
def State.qpPort (s : State) (q : Qp) (p : Nat) : Nat :=
  let l := s.outPorts
  if q.paths = 0 || l.isEmpty then s.outPort else l.getD (p % l.length) 0

/-- UDP source port of path `p` of a spraying queue pair (R194). -/
def udpPort (i p : Nat) : Nat := 49152 + 4 * i + p

/-- Hands Basin a frame of queue pair `i` on path `p`; `o` tells of it where it is taken (R164). -/
def State.sendQp (s : State) (i p ext payload : Nat) (o : Out) : State :=
  match s.qp? i with
  | none => s
  | some q =>
    let out := s.qpPort q p
    let f := s.ownFrame (q.frameLen ext payload) q.remoteMac q.vlan 3 true (.roce q.remoteQpn)
    let s := if s.mayLeave out f then s.emit o else s
    s.sendInternal (4 + s.halfOf i) out 3 f

def State.putAck (s : State) (i psn : Nat) : State := s.sendQp i 0 4 0 (.rdmaAck i psn)
def State.putNak (s : State) (i psn : Nat) (k : RdmaNak) : State := s.sendQp i 0 4 0 (.rdmaNak i psn k)
def State.putCnp (s : State) (i : Nat) : State := s.sendQp i 0 16 0 (.cnp i)

/-- Sends packet `k` of a request: paths are taken in turn, and every packet of a spraying queue pair carries a placement header
(R194). An RDMA READ is one packet. -/
def State.putPacket (s : State) (i : Nat) (r : TxReq) (sel : Bool) (k : Nat) : State :=
  match s.qp? i with
  | none => s
  | some q =>
    let off := k * q.mtu
    let n := if r.kind = 4 then 0 else min q.mtu (r.length - off)
    let p := if q.paths = 0 then 0 else k % q.paths
    let ext := (if (r.kind = 3 && k = 0) || r.kind = 4 then 16 else 0) + (if r.kind = 2 && k + 1 = r.packets then 4 else 0)
    let win := r.kind = 3 || r.kind = 4
    let h : PlaceHdr :=
      { firstPsn := r.first, selective := sel, offset := off, rkey := if win then r.rkey else 0, target := if win then r.remote + off else 0 }
    s.sendQp i p ext n (.rdmaPacket i (psnAdd r.first k) r.kind n (if q.paths = 0 then none else some (udpPort i p))
      (if q.paths = 0 then none else some h))

/-- Sends a request's packets. -/
def State.putRequest (s : State) (i : Nat) (r : TxReq) : State :=
  if r.kind = 4 then s.putPacket i r false 0 else (List.range r.packets).foldl (fun s k => s.putPacket i r false k) s

/-- A connection management MAD of 256 bytes, from QP1 on half 0, or on the other half while its engine is fenced (R182, R183). -/
def State.putCm (s : State) (mac vlan gid : Nat) (o : Out) : State :=
  let out := s.outPort
  let len := 14 + (if vlan = 0 then 0 else 4) + (if gid / 2 ^ 32 = 0xFFFF then 20 else 40) + 8 + 12 + 8 + 256 + 4 + 4
  let f := s.ownFrame len mac vlan 3 true (.roce 1)
  let s := if s.mayLeave out f then s.emit o else s
  s.sendInternal (if s.halfOk 0 then 4 else 5) out 3 f

/-! ### Acknowledging (R188, R224, R228) -/

/-- The highest PSN that may be acknowledged: all that is in sequence below the first held capsule, FLUSH or window WRITE. -/
def State.ackable (s : State) (q : Qp) : Nat :=
  let waits := (q.ackHold.filter (fun h => match s.qpBed q with | some b => s.tickWaits b h.2 | none => false)).map (·.1)
  let d := (waits ++ q.mirHold).foldl (fun m p => min m (psnDist q.acked p)) (psnDist q.acked q.ePsn)
  psnAdd q.acked d

/-- Sends the ACK that may go out now; on a copied queue pair the notice goes first (R188, R224). -/
def State.sendAck (s : State) (i : Nat) : State :=
  match s.qp? i with
  | none => s
  | some q =>
    let a := s.ackable q
    if a = q.acked || s.qpFenced q || s.cmd.stopped then s
    else
      let psn := psnAdd a (psnMod - 1)
      let left := psnDist a q.ePsn
      let s := s.modQp i (fun q => { q with
        acked := a, runLen := left, runAt := if left = 0 then none else some (s.now + usec 4)
        flushes := q.flushes.filter (fun f => psnDist a f < 8388608)
        ackHold := q.ackHold.filter (fun h => psnDist a h.1 < 8388608) })
      match s.qpCopied q with
      | some b => s.gusSend b (.transportNotice ⟨i, 1, 0, psn, 0, 0⟩) (.ack i psn)
      | none => s.putAck i psn

/-- Tries again every queue pair with something in sequence and not acknowledged. -/
def State.ackAll (s : State) : State :=
  s.slu.qps.keys.foldl (fun s i =>
    match s.qp? i with
    | some q => if q.st = 1 && q.acked ≠ q.ePsn then s.sendAck i else s
    | none => s) s

/-! ### Requests (R185–R187) -/

/-- Port or ports are Sluice's choice; a READ beyond the initiator depth waits in the send queue (R186). -/
def txReady (q : Qp) (r : TxReq) : Bool := r.kind ≠ 4 || (q.sent.filter (·.kind = 4)).length < q.depth

/-- Local ACK timeout of a queue pair in ns: 4.096 µs × 2^TIMEOUT (R187). -/
def ackTimeout (q : Qp) : Nat := 4096 * 2 ^ q.timeout

/-- Reads outstanding in all. -/
def State.readsOut (s : State) : Nat := sumN (s.slu.qps.vals.map (fun q => (q.sent.filter (·.kind = 4)).length))

/-- Sends waiting requests in order while they may go (R186). -/
def txPumpF : Nat → Nat → State → State
  | 0, _, s => s
  | n + 1, i, s =>
    match s.qp? i with
    | none => s
    | some q =>
      match q.sq with
      | [] => s
      | r :: rs =>
        if q.st ≠ 1 || s.qpFenced q || (q.probe.isSome && (!q.probing || !q.sent.isEmpty)) || q.rnrAt.isSome || !txReady q r || (r.kind = 4 && 16384 ≤ s.readsOut) then s
        else
          let k := max 1 (cdiv r.length q.mtu)
          let r := { r with first := q.nextPsn, packets := k, sentAt := s.now }
          let s := s.modQp i (fun q => { q with
            sq := rs, sent := q.sent ++ [r], nextPsn := psnAdd q.nextPsn k
            ackAt := some (q.ackAt.getD (s.now + ackTimeout q)) })
          let s := match s.qpCopied q with
            | some b =>
              s.gusSend b (.transportNotice ⟨i, 2, (if r.kind = 3 then 1 else if r.kind = 4 then 2 else 3), r.first,
                psnAdd r.first (k - 1), r.slot⟩) (.request i)
            | none => s.putRequest i r
          txPumpF n i s

def State.txPump (s : State) (i : Nat) : State :=
  match s.qp? i with
  | some q => txPumpF q.sq.length i s
  | none => s

/-- Queue pairs whose requests waited for the READs of others try again (R186). -/
def State.txPumpAll (s : State) : State :=
  s.slu.qps.keys.foldl (fun s i => match s.qp? i with | some q => if q.sq.isEmpty then s else s.txPump i | none => s) s

/-- A request enters the tail of a send queue; one longer than 8 MiB is issued in pieces (R185). -/
def State.post (s : State) (i : Nat) (r : TxReq) : State :=
  let n := max 1 (cdiv r.length 8388608)
  let r := { r with slot := match r.cap with | some c => (match s.findCap c with | some (_, x) => x.slot.getD 0 | none => 0) | none => 0 }
  let pieces := (List.range n).map (fun j =>
    { r with length := min 8388608 (r.length - j * 8388608), remote := r.remote + j * 8388608
             data := slice r.data (j * 8388608) 8388608 })
  State.txPump (s.modQp i (fun q => { q with sq := q.sq ++ pieces })) i

def txReq (kind length remote rkey imm : Nat) (data : Bytes) (cap : Option Cap) : TxReq :=
  { kind := kind, first := 0, packets := 0, length := length, imm := imm, rkey := rkey, remote := remote, data := data
    cap := cap, sentAt := 0, counter := none, slot := 0 }

/-- Bytes that a command exchanges with its host (R367). -/
def State.noteHost (s : State) (c : Cap) (n : Nat) : State :=
  match s.findCap c with
  | some (arr, _) => s.mod arr (fun r => { r with work := { r.work with hostBytes := r.work.hostBytes + n } })
  | none => s

/-- Sends data to the host: RDMA WRITEs on the command's queue pair, or plain on endpoint function 0 while it may send requests
(R185, R333, R337). -/
def State.toHost (s : State) (c : Cap) (d : DataPtr) (bytes : Bytes) : State :=
  let s := s.noteHost c bytes.length
  if (match s.assoc? c.assoc with | some a => a.fn0 | none => false) then
    (if bytes.isEmpty || !s.fnMaster 0 then s else s.emit (.eptData c s.eptRelaxed bytes)) else
  let s := if bytes.isEmpty then s else s.emit (.hostData c bytes)
  match s.qpOf c, d with
  | some (i, _), .keyed addr key _ => if bytes.isEmpty then s else s.post i (txReq 3 bytes.length addr key 0 bytes (some c))
  | _, _ => s

/-- The RDMA READ that fetches a command's data, or the reads of endpoint function 0 (R185, R334). -/
def State.fromHost (s : State) (c : Cap) (d : DataPtr) (len : Nat) : State :=
  let s := s.noteHost c len
  if (match s.assoc? c.assoc with | some a => a.fn0 | none => false) then (if len = 0 then s else s.eptFetch (.data c) len) else
  match s.qpOf c, d with
  | some (i, _), .keyed addr key _ => if len = 0 then s else s.post i (txReq 4 len addr key 0 [] (some c))
  | _, _ => s

/-! ### Triggered work requests (R201, R202) -/

def signed32 (x : Nat) : Int := if x % 4294967296 < 2147483648 then (x % 4294967296 : Nat) else (x % 4294967296 : Nat) - 4294967296

/-- Entries of the table; a request that found them all in use waits in Bobbin, numbered from here on (R201). -/
def trigEntries : Nat := 16384

/-- Fires every waiting request of a counter that is due, in posting order; one that waits in Bobbin is posted directly (R201,
R202). -/
def State.fireTrigs (s : State) (n : Nat) : State :=
  let v := (s.slu.counters.getD n (0, 0)).1
  let due := s.slu.trigs.filter (fun t => t.counter = n && 0 ≤ signed32 (v + 4294967296 - t.threshold % 4294967296))
  due.foldl (fun s t =>
    let s := { s with slu := { s.slu with trigs := s.slu.trigs.filter (fun x => x.entry ≠ t.entry) } }
    let s := if t.entry < trigEntries then s.bump F.SLU_TRIG_STAT_FIRED 1 else s
    let s := match s.qp? t.qp with
      | some q => match s.qpBed q with | some b => s.delta b (.trigGone t.entry) | none => s
      | none => s
    s.post t.qp (txReq t.wr.kind t.wr.length t.wr.remote t.wr.rkey t.wr.imm [] none)) s

/-- Counter `n` advances by 1, with an immediate where one arrived (R202). -/
def State.countUp (s : State) (n : Nat) (imm : Option Nat) : State :=
  let c := s.slu.counters.getD n (0, 0)
  let v := ((c.1 + 1) % 4294967296, imm.getD c.2)
  let s := { s with slu := { s.slu with counters := s.slu.counters.put n v } }
  let s := match s.slu.windows.get? n with
    | some w => match (match s.assoc? w.assoc with | some a => a.bed | none => none) with
      | some b => s.delta b (.trigCounter n v.1 v.2)
      | none => s
    | none => s
  s.fireTrigs n

/-- Flushes, with an error to their poster, the requests that satisfy `p` (R202). -/
def State.flushTrigs (s : State) (p : Trig → Bool) : State :=
  let gone := s.slu.trigs.filter p
  (gone.filter (·.entry < trigEntries)).foldl (fun s t => s.emit (.flushed t.entry)) { s with slu := { s.slu with trigs := s.slu.trigs.filter (fun t => !p t) } }

/-! ### Ingest windows (R195–R199) -/

def State.winSize (s : State) : Nat := clamp 1 32 (s.fld F.SLU_WIN_CFG_SIZE_MIB)
def State.winPool (s : State) : Nat := min 1024 (clamp 1 32 (s.fld F.SLU_WIN_CFG_POOL_GIB) * 1024 / s.winSize)

/-- Window index of a key (R195). -/
def keyIndex (key : Nat) : Nat := key % 1024

/-- The window a key names now, where it is registered. A window taken over from the peer keeps its key and is listed from
1,024 on (R196). -/
def State.winOf (s : State) (key : Nat) : Option (Nat × Win) := s.slu.windows.find (fun _ w => w.key = key)

/-- Its place in the table. -/
def State.winAt (s : State) (key : Nat) : Nat := match s.winOf key with | some (i, _) => i | none => keyIndex key

/-- Deregistration is complete: the window returns to the pool, its counter is 0 and its triggered requests are flushed
(R199 step 4, R202). -/
def State.winFinish (s : State) (i : Nat) : State :=
  match s.slu.windows.get? i with
  | none => s
  | some w =>
    let s := match (match s.assoc? w.assoc with | some a => a.bed | none => none) with
      | some b => s.delta b (.windowRev i)
      | none => s
    let s := s.modAssoc w.assoc (fun a => { a with window := none })
    let s := { s with slu := { s.slu with windows := s.slu.windows.del i, counters := s.slu.counters.del i } }
    s.flushTrigs (fun t => t.counter = i)

/-- Marks a window revoking; with no accepted message to drain it ends at once (R199). -/
def State.winRevoke (s : State) (i : Nat) : State :=
  match s.slu.windows.get? i with
  | none => s
  | some w =>
    if w.revoking then s
    else
      let acc := s.slu.qps.entries.flatMap (fun e =>
        (e.2.msgs.filter (fun m => m.known && m.rkey = w.key && (m.op = .write || m.op = .writeImm))).map (fun m => (e.1, m.first)))
      let w := { w with revoking := true, drainAt := some (s.now + usec 100), accepted := acc }
      let s := { s with slu := { s.slu with windows := s.slu.windows.put i w } }
      if acc.isEmpty then s.winFinish i else s

/-! ### Ends (R34, R184) -/

/-- A queue pair is destroyed: its index is kept from use for 100 ms, and its triggered requests are flushed (R181, R202). -/
def State.qpDestroy (s : State) (i : Nat) : State :=
  match s.qp? i with
  | none => s
  | some q =>
    if q.st = 3 then s
    else
      let s := match s.qpBed q with | some b => s.delta b (.qpDestroyed i) | none => s
      let cells := sumN (q.held.map (fun p => cellsOf (p.payload.length + 62)))
      let s := { s with slu := { s.slu with heldCells := s.slu.heldCells - cells } }
      let s := s.modQp i (fun q => { q with
        st := 3, freeAt := some (s.now + msec 100), sq := [], sent := [], held := [], msgs := [], got := [], runAt := none
        gapAt := none, ackAt := none, rnrAt := none, rateAt := none, ackHold := [], mirHold := [] })
      s.flushTrigs (fun t => t.qp = i)

/-- An association ends: commands before their commit point are dropped, the others run on and their completions are
discarded; its windows are revoked and its queue pairs end (R34, R184, R199). A Disconnect whose own completion waits for its tick
keeps its slot and its queue pair till then (R45). -/
def State.endAssoc (s : State) (a : Nat) : State :=
  match s.assoc? a with
  | none => s
  | some x =>
    let s := s.modAssoc a (fun x => { x with ended := true, kaAt := none, aers := [] })
    let s := match x.window with | some w => s.winRevoke w | none => s
    let own := s.cmd.cmds.vals.filter (fun r => r.bare && r.cap.assoc = a)
    let s := (s.slu.qps.entries.filter (fun e => e.2.assoc = a && !own.any (fun r => r.cap.qid = e.2.qid))).foldl (fun s e => s.qpDestroy e.1) s
    let s := s.cmd.cmds.keys.foldl (fun s arr =>
      match s.cmd? arr with
      | some r =>
        if r.cap.assoc ≠ a || r.bare then s
        else if !r.catchable && r.phase ≠ .done then s.mod arr (fun r => { r with discard := true })
        else (s.pmuCommand arr r true).dropCmd arr
      | none => s) s
    s.assocSweep a

/-- A queue pair enters Error: its association ends (R184). -/
def State.qpError (s : State) (i : Nat) : State :=
  match s.qp? i with
  | none => s
  | some q =>
    let s := s.modQp i (fun q => { q with st := 2 })
    if (s.assoc? q.assoc).isSome then (s.endAssoc q.assoc).qpDestroy i else s.qpDestroy i

/-- Whether CM may give out a queue pair index: below 4,096, or half of them under QP_GUARD (R183, R241). -/
def State.qpLimit (s : State) : Nat := if s.flag F.GUS_CFG_QP_GUARD then 2048 else 4096

def Qp.init : Qp :=
  { gen := 1, qpn := 0, st := 0, mtu := 1024, depth := 1, size := 0, assoc := 0, qid := 0, remoteGid := 0, remoteQpn := 0
    remoteMac := 0, vlan := 0, paths := 0, retryCnt := 0, rnrCnt := 0, timeout := 14, freeAt := none, ePsn := 0, msn := 0
    got := [], held := [], msgs := [], runLen := 0, runAt := none, acked := 0, ackHold := [], mirHold := [], gapAt := none
    nakSent := false, flushes := [], cnpAt := none, sq := [], sent := [], nextPsn := 0, retries := 0, rnrLeft := 0, ackAt := none
    rnrAt := none, rate := 400000, rateAt := none, rtt := 5000, sampled := false, probe := none, half := 0, moveBy := none, gapMin := 20, localMac := 0, told := none, probing := false }

/-- The generation an index is given next: it rises by 1 and wraps from 4,095 to 1 (R181). -/
def State.nextGen (s : State) (i : Nat) : Nat := s.slu.gens.getD i 0 % 4095 + 1

end Sys2Proof.Machine
end

