-- ==== Sys2Proof/Machine/Finish.lean ====
section
/-! DEFINITION. The end of a command: its completion, held for its tick or released to the host as a response SEND
(R45, R185, R224). -/

namespace Sys2Proof.Machine

/-- The 16-byte completion of a command. -/
def completionBytes (r : CmdRec) : Bytes :=
  le 4 r.dw0 ++ le 4 r.dw1 ++ zeros 2 ++ le 2 r.cap.qid ++ le 2 r.cap.cid ++ le 2 (r.status * 2)

/-- The response SEND of a command on its queue pair (R185). -/
def State.sendResponse (s : State) (r : CmdRec) : State :=
  match s.qpOf r.cap with
  | some (i, _) => s.post i (txReq 1 16 0 0 0 (completionBytes r) (some r.cap))
  | none => s

/-- The queue pair of a Disconnect ends with the Disconnect's own completion (R184). -/
def State.endBare (s : State) (r : CmdRec) : State :=
  if r.bare && (match s.assoc? r.cap.assoc with | some a => a.ended | none => false) then
    (match s.qpOf r.cap with | some (i, _) => s.qpDestroy i | none => s) else s

/-- Releases a completion: it goes to the host, and the slot is free (R45). -/
def State.release (s : State) (arr : Nat) : State :=
  match s.cmd? arr with
  | none => s
  | some r =>
    let gone := !r.bare && (r.discard || (match s.assoc? r.cap.assoc with | some a => a.ended | none => true))
    let s := s.pmuCommand arr r gone
    let s := if gone then s else
      let s := ((s.emit (.completion r.cap r.status r.dw0 r.dw1)).sendResponse r).pmuEvent 0x701 0xFF 1
      match s.cqOf r.cap with | some k => s.eptPost k | none => s
    (s.endBare r).dropCmd arr

/-- The command's own work has finished: its completion is released, or waits for its tick (R45). -/
def State.finish (s : State) (arr status dw0 dw1 : Nat) : State :=
  let s := (s.setPhase arr .done).mod arr (fun r => { r with status := status, dw0 := dw0, dw1 := dw1 })
  match s.cmd? arr with
  | none => s
  | some r => if s.held r then s else s.release arr

/-- Releases every finished completion that waits no more, in arrival order (R45, R228). -/
def State.releaseAll (s : State) : State :=
  s.cmd.cmds.keys.foldl (fun s arr =>
    match s.cmd? arr with
    | some r => if r.phase = .done && !s.held r then s.release arr else s
    | none => s) s

/-- A command that arrives and ends within one step: an admin command that needs no member, or a refusal. -/
def State.answer (s : State) (cap : Cap) (nsid : Nat) (cmd : NvmeCmd) (isAdmin : Bool) (status dw0 dw1 : Nat) : State :=
  match s.findCap cap with
  | some (arr, r) => if r.slot.isSome && !s.coreStop then s.finish arr status dw0 dw1 else s.mod arr (fun r => { r with cmd := some cmd })
  | none =>
    let (s, arr) := s.arrive cap nsid (some cmd) [] isAdmin
    match s.cmd? arr with
    | some r => if r.slot.isSome then s.finish arr status dw0 dw1 else s
    | none => s

/-- Posts an asynchronous event where one is outstanding: Dword 0 of its completion (R36). -/
def State.aer (s : State) (a dw0 : Nat) : State :=
  match s.assoc? a with
  | some x =>
    match x.aers with
    | c :: cs =>
      let s := s.modAssoc a (fun x => { x with aers := cs })
      match s.findCap c with
      | some (arr, _) => s.finish arr 0 dw0 0
      | none => s
    | [] => s
  | none => s

end Sys2Proof.Machine
end

