-- ==== Sys2Proof/Machine/Units.lean ====
section
/-! DEFINITION. What a fence, a re-admission, a reset and a power state do to the units: domains (R300–R302), self-fences
(R233), wedges (R337), and state lost with a unit. -/

namespace Sys2Proof.Machine

/-! ### Power domains of a state (R300) -/

/-- The state whose domains are powered: the higher of the present one and the one being moved to. -/
def State.powerSt (s : State) : ShelfSt :=
  match s.shelf.move with
  | some m => if m.target.code < s.shelf.st.code then m.target else s.shelf.st
  | none => s.shelf.st

/-- A drive slot is powered by either path: our channel is on, or its output carries a voltage in the window. -/
def State.slotPowered (s : State) (k : Nat) : Bool :=
  match s.spc.chans.get? k with
  | some c => c.st = .on || s.fld F.SPC_WIN_VMIN_MV ≤ c.vout
  | none => false

/-- Cipher core `c` may be powered: present, enabled, not kept off by Thimble or by its known-answer tests (R140, R157). -/
def State.cphWanted (s : State) (c : Nat) : Bool :=
  c < s.nCph && bit (s.fld F.CPH_CFG_CORE_EN) c && !s.fenceOff (0x900 + c) && (!bit s.cph.coreFail c || s.checks (0x900 + c))

/-- Domain `d` is on in the present state (R300). -/
def State.domWanted (s : State) (d : Nat) : Bool :=
  let p := s.powerSt
  let low := p = .awake || p = .dormant
  let started := fun (k : Nat) => s.rst.startAt.isSome && k ≤ s.rst.phase
  if d < 24 then p = .awake && s.slotPowered d && !s.fenceOff (0x200 + d)
  else if d < 32 then
    p = .awake && 2 * (d - 24) < s.nRill && bit (s.fld F.RILL_CFG_PAIR_EN) (d - 24)
      && !(s.fenceOff (0x800 + 2 * (d - 24)) && s.fenceOff (0x801 + 2 * (d - 24)))
  else if d < 40 then
    -- R140: PD32, with the scheduler and the key unit, is on whenever any cipher core domain is
    p = .awake && (s.cphWanted (d - 32) || (d = 32 && (List.range 8).any s.cphWanted))
  else if d < 44 then
    d - 40 < s.nNet && (p = .awake || (d < 42 && (p ≠ .held || started 9))) && !s.fenceOff (0x300 + (d - 40)) && !s.fenceOff (0x500 + (d - 40))
  else if d = 44 then low || started 9
  else if d < 47 then p = .awake && !s.fenceOff (0xA00 + (d - 45))
  else if d = 47 then low || started 7
  else if d < 51 then
    (p = .awake || started 7) && d - 47 < s.nDdr && s.flag (F.DDR_STAT_TRAINED (d - 47))
      && (!s.flag (F.DDR_STAT_RETIRED (d - 47)) || s.checks (0xB00 + (d - 47)))
  else if d < 59 then (p = .awake || (d < 53 && p = .dormant)) && !s.fenceOff (0x400 + (d - 51))
  else if d = 59 then low
  else if d = 60 then p = .awake && !s.fenceOff 0x601
  else if d = 61 then low && !s.ept.perstLow
  else if d = 62 then low
  else if d = 63 then low || started 4
  else false

/-- A domain that holds the instance of a source. -/
def domainOf (src : Nat) : Option Nat :=
  if 0x200 ≤ src && src ≤ 0x217 then some (src - 0x200)
  else if 0x300 ≤ src && src ≤ 0x303 then some (40 + (src - 0x300))
  else if 0x400 ≤ src && src ≤ 0x407 then some (51 + (src - 0x400))
  else if 0x500 ≤ src && src ≤ 0x503 then some (40 + (src - 0x500))
  else if src = 0x600 then some 59
  else if src = 0x601 then some 60
  else if 0x800 ≤ src && src ≤ 0x80F then some (24 + (src - 0x800) / 2)
  else if 0x900 ≤ src && src ≤ 0x907 then some (32 + (src - 0x900))
  else if src = 0xA00 || src = 0xA01 then some (45 + (src - 0xA00))
  else if 0xB00 ≤ src && src ≤ 0xB03 then some (47 + (src - 0xB00))
  else if src = 0xE00 || src = 0xE01 || src = 0xE02 then some 61
  else if 0xF10 ≤ src && src ≤ 0xF1F then some 62
  else if 0xF01 ≤ src && src ≤ 0xF03 then some 63
  else none

/-- The shelf state powers the domain of a source, its own fence apart (R347). -/
def State.domWantedFor (s : State) (src : Nat) : Bool :=
  match domainOf src with
  | none => true
  | some d =>
    State.domWanted { s with thm := { s.thm with srcs := s.thm.srcs.put src { s.thm.srcs.getD src SrcSt.init with checking := true } } } d

/-- Admissions that are pending begin their check once the state powers their domain, and a check whose domain the state powers no
more is pending again (R347). -/
def State.pendingChecks (s : State) : State :=
  { s with thm := { s.thm with srcs := s.thm.srcs.mapV (fun src x =>
      if x.state = 3 && s.domWantedFor src then { x with state := 1, checking := true }
      else if x.checking && !s.domWantedFor src then { x with state := 3, checking := false } else x) } }

/-- The unit of a domain has drained (R301 item 3). -/
def State.drained (s : State) (d : Nat) : Bool :=
  if 24 ≤ d && d < 32 then !s.rill.running.has (2 * (d - 24)) && !s.rill.running.has (2 * (d - 24) + 1)
  else if 32 ≤ d && d < 40 then !s.cph.jobs.any (fun j => (d = 32 && j.phase ≠ 3) || (j.phase = 2 && j.core = d - 32))
  else if d = 60 then !s.half1Busy
  else if 51 ≤ d && d < 59 then s.net.drainAt.isNone && !s.bankBusy (d - 51)
  else true

/-! ### The endpoint (R337) -/

/-- Outstanding read tags are quarantined as though they had timed out (R336, R337). -/
def State.quarantineAll (s : State) : State :=
  let t := s.now + 2 * (s.eptTimeout.getD (msec 50))
  { s with ept := { s.ept with
      quar := s.ept.tags.keys.foldl (fun q k => q.put k t) s.ept.quar, tags := .empty, waitReads := [] } }

/-- The association of endpoint function 0. -/
def State.fn0Assoc (s : State) : Option Nat := (s.cmd.assocs.find (fun _ a => a.fn0 && !a.ended)).map (·.1)

/-- Function 0 loses its queues and its commands end as an association's do (R337). -/
def State.fn0Reset (s : State) : State :=
  let s := s.quarantineAll
  let s := match s.fn0Assoc with | some a => s.endAssoc a | none => s
  { s with ept := { s.ept with tails := .empty, cqs := .empty, fetched := .empty } }

/-- Disables every peer window (R337). -/
def State.winsOff (s : State) : State := (List.range 8).foldl (fun s w => s.setFld (F.EPT_PWIN_CTL_EN w) 0) s

/-- Hot reset, link down or fundamental reset: both functions return to reset values and wedges clear (R337). -/
def State.eptReset (s : State) : State :=
  let s := s.fn0Reset.winsOff
  { s with ept := { s.ept with cfg0 := .empty, cfg1 := .empty, msix1 := .empty, pba0 := 0, pba1 := 0, wedge0 := false, wedge1 := false, crsTo := none } }

/-- The endpoint link is gone. -/
def State.eptDown (s : State) : State :=
  let s := s.eptReset
  { s with ept := { s.ept with link := false, speed := 0, width := 0, upAt := none } }

/-! ### Switching domains -/

/-- What is lost or set when a domain switches off. -/
def State.domOffEffect (s : State) (d : Nat) : State :=
  if 40 ≤ d && d < 44 then s.portDown (d - 40)
  else if 47 ≤ d && d < 51 then
    let s := s.setFld (F.DDR_STAT_SELF_REFRESH (d - 47)) 1
    if d = 47 then { s with net := { s.net with capRing := .empty } } else s
  else if d = 32 then { s with cph := { s.cph with cache := [] } }
  else if d = 44 then { s with gus := { s.gus with link := false, retrain := false, retrainAt := none } }
  else if d = 60 then State.moveQps { s with slu := { s.slu with half1 := false } }
  else if d = 61 then s.eptDown
  else if d < 24 then s.setPort d { s.port d with link := false, ready := false }
  else if d < 32 then
    { s with rill := { s.rill with
        readyAt := s.rill.readyAt.del (d - 24), idleAt := s.rill.idleAt.del (d - 24), gated := setBit s.rill.gated (d - 24) false } }
  else s

/-- Brings every domain to what the state asks for: drained ones off first, then switch-ons in ascending number, no more
than 4 at once (R301); pending admission checks begin where they may (R347). -/
def State.syncDomains (s : State) : State :=
  let s := s.pendingChecks
  let s := (List.range 64).foldl (fun s d =>
    if s.domWanted d then s
    else if s.domOn d then
      let s := if d = 60 then (s.domDrain 60).moveQps else s
      (if s.drained d then (s.domOffEffect d).domOff d else s.domDrain d)
    else if s.pwr.rising.any (·.1 = d) || bit s.pwr.waitOn d then s.domOff d
    else s) s
  (List.range 64).foldl (fun s d => if s.domWanted d then s.domRequestOn d else s) s

/-- A Rill pair or cipher core that is to be off has finished its job (R117, R140, R143). -/
def State.coreIdleOff (s : State) : Bool := (List.range 16).any (fun i => bit s.pwr.draining (24 + i) && s.drained (24 + i))

/-- A new PAIR_EN or CORE_EN in force powers its pairs and cores, and a disabled one is off once its last job has finished (R117,
R119, R140, R143). -/
def State.coresSynced (old s : State) : State :=
  if s.fld F.RILL_CFG_PAIR_EN = old.fld F.RILL_CFG_PAIR_EN && s.fld F.CPH_CFG_CORE_EN = old.fld F.CPH_CFG_CORE_EN && !s.coreIdleOff then s
  else s.syncDomains

/-- The domain a firmware section's target needs (R387): the section is loaded once it is on. -/
def targetDomain (target : Nat) : Option Nat :=
  if target = 2 then some 62 else if target = 3 then some 59 else if target = 4 then some 51 else if target = 5 then some 24 else none

/-- The target's domain is on; Rill tables wait for the first pair that switches on (R138). -/
def State.targetOn (s : State) (target : Nat) : Bool :=
  if target = 5 then (List.range 8).any (fun p => s.domOn (24 + p))
  else match targetDomain target with | some d => s.domOn d | none => true

/-- A section that waited for its target's domain is loaded and checked when that switches on (R387). -/
def State.loadTarget (s : State) (d : Nat) : State :=
  match s.mnt.activation with
  | some a =>
    if a.restarting && (if a.target = 5 then 24 ≤ d && d < 32 else targetDomain a.target = some d) && s.rst.episode.isNone then s.actRestarted else s
  | none => s

/-- A domain has become usable: its unit's pending work proceeds (R301 item 2). -/
def State.domUsable (s : State) (d : Nat) : State :=
  let s := { s with pwr := { s.pwr with on := setBit s.pwr.on d true, rising := s.pwr.rising.filter (·.1 ≠ d) } }
  let s := (s.startDomains).loadTarget d
  if 24 ≤ d && d < 32 then
    -- R117: the pair takes jobs 50 us later; its idle millisecond starts
    { s with rill := { s.rill with readyAt := s.rill.readyAt.put (d - 24) (s.now + usec 50), idleAt := s.rill.idleAt.put (d - 24) (s.now + msec 1) } }
  else if 32 ≤ d && d < 40 then s.cphDerive.cphDispatch
  else if 40 ≤ d && d < 44 then s.portOn (d - 40)
  else if 47 ≤ d && d < 51 then s.setFld (F.DDR_STAT_SELF_REFRESH (d - 47)) 0
  else if d = 59 then { s with net := { s.net with pol := .empty } }
  else if d = 60 then State.moveQps { s with slu := { s.slu with half1 := true } }
  else if d = 61 then { s with ept := { s.ept with upAt := some (s.now + msec 20) } }
  else s

/-! ### Fences -/

/-- Self-fences one bed (R233): its completions held for hosts and what it received and did not acknowledge are dropped, and
the controller's own addresses leave the address table. -/
def State.selfFenceBed (s : State) (b : Nat) : State :=
  match s.bed? b with
  | none => s
  | some x =>
    if x.fenced then s
    else
      let s := (s.setBed b { x with fenced := true }).ledSync
      let s := s.bump (F.GUS_CNT_COUNT 7) 1
      let s := s.cmd.cmds.keys.foldl (fun s arr =>
        match s.cmd? arr with
        | some r => if r.phase = .done && s.bedOf r.cap = some b then s.dropCmd arr else s
        | none => s) s
      let s := s.slu.qps.keys.foldl (fun s i =>
        match s.qp? i with
        | some q =>
          if s.qpBed q = some b then
            s.modQp i (fun q => { q with ePsn := q.acked, got := [], held := [], msgs := [], runLen := 0, runAt := none
                                         gapAt := none, ackHold := [], mirHold := [] })
          else s
        | none => s) s
      (List.range 16).foldl (fun s i =>
        if s.flag (F.BSN_LADDR_HI_VALID i) && !s.flag (F.BSN_LADDR_HI_TAKEN i) then s.setReg (0x180084 + 8 * i) 0 else s) s

/-- The controller stops being a standby and drops the tick state it held (R346). -/
def State.dropStandby (s : State) : State :=
  { s with beds := s.beds.mapV (fun _ b => if b.owned then b else { b with joined := false, standby := StandbyCopy.init }) }

/-- The unit behind a source leaves service (R343). -/
def State.fenceUnit (s : State) (src : Nat) : State :=
  if 0x800 ≤ src && src ≤ 0x80F then s.rillLoseCore (src - 0x800)
  else if 0x900 ≤ src && src ≤ 0x907 then s.cphLoseCore (src - 0x900)
  else if (0x300 ≤ src && src ≤ 0x303) || (0x500 ≤ src && src ≤ 0x503) then
    s.linkLost (src % 4)
  else if 0x200 ≤ src && src ≤ 0x217 then
    let k := src - 0x200
    let s := s.setPort k { s.port k with link := false }
    { s with beds := s.beds.mapV (fun _ b => { b with members := b.members.mapV (fun _ m => if m.slot = k then { m with single := true } else m) }) }
  else if src = 0x600 || src = 0x601 then s.moveQps
  else if src = 0xE00 then { s with ept := { s.ept with wedge0 := true } }
  else if src = 0xE01 then { s with ept := { s.ept with wedge1 := true } }
  else if src = 0xE02 then { s with ept := { s.ept with wedge0 := true, wedge1 := true } }
  else s

/-- The unit behind a source is in service again: waiting work may use it. -/
def State.readmitUnit (s : State) (src : Nat) : State :=
  if 0x800 ≤ src && src ≤ 0x80F then s.rillDispatch
  else if 0x900 ≤ src && src ≤ 0x907 then
    State.cphDispatch { s with cph := { s.cph with coreFail := setBit s.cph.coreFail (src - 0x900) false } }
  else if src = 0x600 || src = 0x601 then s.moveQps
  else if 0xB01 ≤ src && src ≤ 0xB03 then s.setFld (F.DDR_STAT_RETIRED (src - 0xB00)) 0
  else s

/-- Thimble retires DDR channel `c`: its contents are lost and restored (R343, R393). With a joined standby all of it comes back from
the standby's copy and mirror, and is as it was; without one the Open Bands are dirty and take a resync, while the map, the
index and the staged records come back as they were. The copy of a standby waits for the owner's accumulators. What lies on a
channel is not given: every Open Band that no checkpoint holds does (assumption 39). -/
def State.retireDdr (s : State) (c : Nat) : State :=
  let s := s.setFld (F.DDR_STAT_RETIRED c) 1
  s.beds.entries.foldl (fun s e =>
    let x := e.2
    if !x.owned then
      s.setBed e.1 { x with bands := x.bands.mapV (fun _ k => if k.acc.isSome then { k with acc := none, reloadPending := true } else k) }
    else if x.peerJoined then s
    else
      let ks := (x.bands.filterT (fun _ k => k.acc.isSome && !k.stopped)).keys
      let s := ks.foldl (fun s k => s.setDirty e.1 k true) s
      let s := s.setBed e.1 { x with
        bands := x.bands.mapV (fun k y => if ks.contains k then { y with acc := none } else y), resync := (x.resync ++ ks).eraseDups }
      if ks.isEmpty || s.mnt.acts.any (fun a => a.code = 4 && a.bed = some e.1) then s else (s.arrivalOf 4 (some e.1) 0 false none).1) s

/-! ### Resets -/

/-- A controller reset ends a running self-test with result 2h (R52). -/
def State.selfTestReset (s : State) : State :=
  match s.cmd.selfTest with
  | some t => { s with cmd := { s.cmd with selfTest := none, dstLog := ((2, t.kind, t.failedSeg, t.skipped) :: s.cmd.dstLog).take 20 } }
  | none => s

/-- Network, Sluice, rack and endpoint state after a system or power-on reset. The lease epoch lies in MRAM; the pins stay
as they are; the endpoint link is down (R250, R310, R324). -/
def State.resetNet (s : State) (_level : Nat) : State :=
  { s with
    net := NetSt.init, slu := SluSt.init
    rack := { RackSt.init with
      epoch := s.rack.epoch, startAt := s.now
      owed := (match s.rack.running with | some o => [(o.sender, o.id, 2)] | none => [])
        ++ (match s.rack.queued with | some o => [(o.sender, o.id, 2)] | none => []) ++ s.rack.owed }
    ept := { EptSt.init with perstLow := s.ept.perstLow } }

/-- The running activation restarts its target by the core episode of source 11 (R387). -/
def State.byCoreReset (s : State) : Bool :=
  match s.mnt.activation with
  | some a => a.restarting && (a.target = 1 || a.target = 2)
  | none => false

/-- Sends the deltas of the ticks that ended during the episode, in tick order (R317). -/
def State.sendLate (s : State) : State :=
  let l := s.gus.late
  let s := l.foldl (fun s (d : Nat × Nat × List DeltaEntry) =>
    (s.gusSend d.1 (.tickDelta d.1 d.2.1 d.2.2) .nothing).setFld F.GUS_TICK_LO_SENT (d.2.1 % 2 ^ 32)) s
  { s with gus := { s.gus with late := [] } }

/-- A core episode is over: the deltas and completions due during it are sent (R317), and an activation that asked for it has
restarted its target. -/
def State.afterCoreEpisode (s : State) : State :=
  let s := s.sendLate.releaseAll
  if s.byCoreReset then s.actRestarted else s

end Sys2Proof.Machine
end

