-- ==== Sys2Proof/Machine/Reset.lean ====
section
/-! DEFINITION. The reset controller: what each level resets (R310), how sources join and widen an episode (R311–R314),
and its end. -/

namespace Sys2Proof.Machine

/-- Thimble after a system or power-on reset: ordinary fences, counters and FAULT are cleared, permanent fences and
recovery histories are reapplied (R347); a power-on episode loses the staging queue (R352). -/
def ThmSt.afterReset (t : ThmSt) (level : Nat) : ThmSt :=
  { t with
    srcs := (t.srcs.filterT (fun _ x => x.state = 2 || !x.recov.isEmpty)).mapV
      (fun _ x => { SrcSt.init with state := if x.state = 2 then 2 else 0, fencedAt := x.fencedAt, recov := x.recov })
    fault := false, mramOk := false, formatted := false, configured := []
    staged := if level = 3 then [] else t.staged
    rdStat := 0, rdReady := false, rdData := [] }

/-- What a bed keeps through a reset: what lies on its members; all that was in Cistern is lost (R310). -/
def Bed.afterReset (b : Bed) : Bed :=
  { Bed.init with
    n := b.n, hMib := b.hMib, e := b.e, eIdx := b.eIdx, fillW0 := b.fillW0, openMax0 := b.openMax0, spill0 := b.spill0
    bedId := b.bedId, created := b.created, descGen := b.descGen, st := b.st, bandCount := b.bandCount
    members := b.members.mapV (fun _ m => { m with idleAt := none, ures := m.ures, single := false })
    fill := b.fill, bands := b.bands.mapV (fun _ k => { k with
      acc := none, ckptAt := none, stopped := false, lateFold := false, closeWanted := false })
    snapSlot := b.snapSlot, ckptCount := b.ckptCount, ckptTime := b.ckptTime, ckptSnap := b.ckptSnap
    queued := b.queued, rebuild := b.rebuild.map (fun r => { r with slice := 0, paused := true, flushing := false, nextAt := none }) }

/-- The slot channels after a system or power-on reset (R276): latches, timers, models and requests are cleared. The
pins stay as they are, and a level that was debounced present is remembered for R263. -/
def SpcSt.afterReset (p : SpcSt) : SpcSt :=
  { SpcSt.init with
    vin := p.vin, vinIn := p.vinIn, vinSince := p.vinSince, dieC := p.dieC
    chans := p.chans.mapV (fun _ c => { Chan.init with raw := c.raw, seated := c.present }) }

/-- The activation of a whole image restarts by the system episode it requests (R387). -/
def MntSt.wholeRestart (m : MntSt) (level : Nat) : Bool :=
  level = 2 && (match m.activation with | some a => a.target = 0xFF && a.restarting | none => false)

/-- Maintenance after a reset: sessions and a running install end; an activation or a health window is abandoned
(R298, R388), but for that of a whole image in its own episode. -/
def MntSt.afterReset (m : MntSt) (level : Nat) : MntSt :=
  { m with acts := [], sessions := .empty, install := none, activation := if m.wholeRestart level then m.activation else none
           svcJob := none, rackPieces := .empty, retires := []
           confirmed := false }

/-- The data records after a reset: those of the valid copy with the higher generation (R320). -/
def CfgSt.newer (c : CfgSt) : Option CfgSet :=
  match c.copy0, c.copy1 with
  | some a, some b => if a.gen < b.gen then some b else some a
  | some a, none => some a
  | none, b => b

def CfgSt.afterReset (c : CfgSt) : CfgSt :=
  { c with data := (match c.newer with | some x => x.data | none => CfgData.init), pieces := .empty }

/-- A drive port after a system or power-on reset: its link is down and its drive holds no reservation of ours. -/
def DrvPort.afterReset (p : DrvPort) : DrvPort :=
  { p with link := false, ready := false, readyAt := none, unreachAt := none, reserved := false }

/-- Operating state of every unit after a system (2) or power-on (3) reset (R310). -/
def State.resetUnits (s : State) (level : Nat) : State :=
  let s := if s.mnt.activation.isSome && !s.mnt.wholeRestart level then s.setFld F.MNT_ACTV_RESULT 4 else s
  let s := s.selfTestReset
  { s with
    regs := s.regs.reset s.fuses.part level
    shelf := { s.shelf with st := .held, move := none, conflict := s.shelf.conflict && level = 2, stopped := false, peerState := 0xF, strapDone := false,
                            strapRounds := 0 }
    rst := { s.rst with wdCore0 := none, wdCores := none, startAt := none, sysrstLow := true }
    pwr := { s.pwr with pf := none, on := 0, rising := [], waitOn := 0, waitOff := 0, draining := 0, selfRefresh := 0,
                        pfPhase := if level = 3 then 0 else s.pwr.pfPhase }
    clk := { s.clk with locked := false, good := 0, bad := 0, sampleAt := none, ppsTo := 0, tod := none, todSet := false,
                        adj := if level = 3 then 0 else s.clk.adj }
    toff := if level = 3 then -(s.now : Int) else s.toff
    frac := if level = 3 then 0 else s.frac
    thm := s.thm.afterReset level
    spc := s.spc.afterReset
    cmd := { CmdSt.init with dstLog := s.cmd.dstLog, errLog := s.cmd.errLog, errCount := s.cmd.errCount }
    cfg := s.cfg.afterReset
    beds := s.beds.mapV (fun _ b => b.afterReset)
    drv := { DrvSt.init with ports := s.drv.ports.mapV (fun _ p => p.afterReset) }
    rill := RillSt.init
    cph := { s.cph with jobs := [], cache := [], deriving_ := none, kDomain := none, katFail := false, coreFail := 0,
                        peerMatch := false, secret := none, secretAt := none, pairing := none }
    gus := GusSt.init
    mnt := s.mnt.afterReset level
    pmu := PmuSt.init }.resetNet level

/-- The running episode reaches a level: registers and units take the states of that level (R310, R312, R316). -/
def State.enterLevel (s : State) (level : Nat) : State :=
  if level = 1 then
    let s := if s.byCoreReset then s else s.actAbandoned
    { s with regs := s.regs.reset s.fuses.part 1 }
  else s.resetUnits level

/-- Sources of R311 that are released one control clock cycle after they assert. -/
def momentary (src : Nat) : Bool := 6 ≤ src

/-- Before the end of start-up a source takes at least system reach (R311). -/
def State.reachOf (s : State) (reach : Nat) : Nat :=
  if s.rst.episode.isNone && s.rst.phase < 10 && reach < 2 then 2 else reach

/-- Sets the source's bit in RST_CAUSE. -/
def State.causeBit (s : State) (src : Nat) : State :=
  s.setFld F.RST_CAUSE_SOURCES (setBit (s.fld F.RST_CAUSE_SOURCES) src true)

/-- A reset source asserts with the given reach (R298, R311, R312). -/
def State.resetAssert (s : State) (src reach : Nat) : State :=
  let reach := s.reachOf reach
  match s.rst.episode with
  | none =>
    if reach = 1 && s.pwr.pf.isSome then
      { s with pwr := { s.pwr with pf := s.pwr.pf.map (fun p => { p with heldCore := setBit p.heldCore src true }) } }
    else
      let ep : Episode :=
        { reach := reach, first := src, joined := setBit 0 src true
          asserted := if momentary src then 0 else setBit 0 src true
          began := s.now, stretchAt := s.now + msec 2, stretched := false, lineAt := none
          deadline5 := if reach = 1 then some (s.now + msec 5) else none }
      let s := (if reach = 1 then s.chargeAll else s).enterLevel reach
      let s := if reach = 3 then s.setFld F.RST_CAUSE_SOURCES 0 else s
      let s := s.causeBit src
      { s with rst := { s.rst with episode := some ep } }
  | some ep =>
    if ep.reach < reach then
      let ep' : Episode :=
        { ep with reach := reach, joined := setBit ep.joined src true
                  asserted := if momentary src then ep.asserted else setBit ep.asserted src true
                  stretchAt := s.now + msec 2, stretched := false, lineAt := none, deadline5 := none }
      let s := s.enterLevel reach
      let s := if reach = 3 then s.setFld F.RST_CAUSE_SOURCES (ep'.joined) else s.causeBit src
      { s with rst := { s.rst with episode := some ep' } }
    else
      let ep' : Episode :=
        { ep with joined := setBit ep.joined src true
                  asserted := if momentary src then ep.asserted else setBit ep.asserted src true }
      { s.causeBit src with rst := { s.rst with episode := some ep' } }

/-- Context of the episode record: RST_LAST, RST_CAUSE (R350 group 0x20). -/
def State.episodeCtx (s : State) : Bytes := le 4 (s.reg 0x10004).toNat ++ le 4 (s.reg 0x10000).toNat

/-- The episode record, source 0x003 (R315, R410). -/
def State.episodeRecord (s : State) : State :=
  s.bbxPut ⟨s.dev, 0x003, (if s.clk.locked then 0 else 0x1000), 0, 0, 0x20000000, s.episodeCtx⟩

/-- Ends the episode where every joined source is released, the stretch has run and, for a wide reach, the strap has its
code (R312); a system or power-on episode starts start-up (R318). -/
def State.tryEnd (s : State) : State :=
  match s.rst.episode with
  | none => s
  | some ep =>
    if ep.asserted ≠ 0 || !ep.stretched || (2 ≤ ep.reach && !s.shelf.strapDone) then s
    else
      let s := s.setFld F.RST_LAST_LEVEL ep.reach
      let s := s.setFld F.RST_LAST_FIRST ep.first
      let s := s.setFld F.RST_LAST_SOURCES ep.joined
      let s := s.setFld F.RST_LAST_DURATION (min 0xFFF ((s.now - ep.began) / usec 100))
      let s := if ep.reach = 1 then s.bump F.RST_COUNT_CORE 1 else if ep.reach = 2 then s.bump F.RST_COUNT_SYSTEM 1 else s
      let s := if ep.reach = 1 then s.chargeAll else s
      let s := { s with rst := { s.rst with episode := none, sysrstLow := false }
                        thm := { s.thm with srcs := s.thm.srcs.mapV (fun _ x => { x with reacting := false }) } }
      if ep.reach = 1 then s.episodeRecord.afterCoreEpisode
      else
        let s := if ep.reach = 3 then { s with toff := -(s.now : Int), frac := 0 } else s
        { s with rack := { s.rack with startAt := s.now }
                 rst := { s.rst with startAt := some s.now, phase := 0, fail := 0, svcWait := false, slot := 0
                                     cfgDefaulted := false, schemaReset := false, keyFail := false } }

end Sys2Proof.Machine
end

