-- ==== Sys2Proof/Machine/Thimble.lean ====
section
/-! DEFINITION. Thimble: listed sources, counting, reactions, FAULT, fences, admission and the records they write
(R340–R352). -/

namespace Sys2Proof.Machine

/-- The ranges of R340. -/
def sourceRanges : List (Nat × Nat) :=
  [(0x000, 0x003), (0x100, 0x118), (0x200, 0x217), (0x300, 0x303), (0x400, 0x409), (0x500, 0x504), (0x600, 0x602),
   (0x700, 0x701), (0x800, 0x80F), (0x900, 0x909), (0xA00, 0xA01), (0xA10, 0xA27), (0xA30, 0xA33), (0xB00, 0xB05),
   (0xC00, 0xC04), (0xD00, 0xD20), (0xE00, 0xE05), (0xF00, 0xF03), (0xF10, 0xF1F), (0xF21, 0xF29)]

/-- Instances an NE7236 does not have (R1, R2). -/
def absentSources : List (Nat × Nat) := [(0x808, 0x80F), (0x904, 0x907), (0x302, 0x303), (0x502, 0x503), (0xB02, 0xB03)]

def inRanges (l : List (Nat × Nat)) (x : Nat) : Bool := l.any (fun r => r.1 ≤ x && x ≤ r.2)

/-- Whether the source is ever raised on this part (R340). -/
def State.listed (s : State) (src : Nat) : Bool := inRanges sourceRanges src && !(s.is36 && inRanges absentSources src)

def State.srcSt (s : State) (src : Nat) : SrcSt := s.thm.srcs.getD src SrcSt.init

def State.setSrc (s : State) (src : Nat) (x : SrcSt) : State := { s with thm := { s.thm with srcs := s.thm.srcs.put src x } }

/-- QUIET_S, RECOV_MAX and REC_RATE as applied (R354). -/
def State.quietS (s : State) : Nat := max 10 (s.fld F.THM_CFG_QUIET_S)
def State.recovMax (s : State) : Nat := clamp 1 32 (s.fld F.THM_CFG_RECOV_MAX)
def State.recRate (s : State) (src : Nat) : Nat := if src = 0xE05 then 1 else max 1 (s.fld F.THM_CFG_REC_RATE)

def matchesEntry (src mask m : Nat) : Bool := mask ≠ 0 && src &&& mask = m

/-- The reaction-table entry a source takes: the lowest-numbered that matches (R344). -/
def State.entryOf (s : State) (src : Nat) : Option Nat :=
  (List.range 64).find? (fun e => matchesEntry src (s.fld (F.THM_RT_ID_MASK e)) (s.fld (F.THM_RT_ID_MATCH e)))

/-- At an event the pending fields of THM_CFG apply, and those of the entries that match its source (R354). -/
def State.thmBoundary (s : State) (src : Nat) : State :=
  let es := (List.range 64).filter (fun e =>
    let w := s.written (0x40100 + 8 * e)
    matchesEntry src (getBits w 27 16) (getBits w 11 0)
      || matchesEntry src (s.fld (F.THM_RT_ID_MASK e)) (s.fld (F.THM_RT_ID_MATCH e)))
  (s.applyRwl 0x40000).applyRwls (es.flatMap (fun e => [0x40100 + 8 * e, 0x40104 + 8 * e]))

/-! ### Records -/

/-- Flags of a record (R349): 12 the timebase is not locked, 13 the reaction was taken in AON without firmware, which the model has
of FAULT alone (assumption 73). -/
def State.recFlags (s : State) (react : Nat) : Nat := (if s.clk.locked then 0 else 0x1000) + (if react = 6 then 0x2000 else 0)

/-- The summary record of a source for a second in which records were left out (R352). -/
def State.summary (s : State) (src : Nat) : State :=
  let x := s.srcSt src
  if x.recLeft = 0 then s
  else
    let s := s.setSrc src { x with recLeft := 0 }
    s.bbxPut ⟨s.dev, src, s.recFlags 0 + 0x8000, 0, 0, 0, le 4 x.recLeft⟩

/-- Writes the record of an event, within the rate of its source (R350–R352), and notes it in THM_LAST (R354). -/
def State.record (s : State) (src sev react code : Nat) (ctx : Bytes) : State :=
  let s := if sev = 0 then s else
    ((s.setFld F.THM_LAST_SOURCE src).setFld F.THM_LAST_SEVERITY sev).setFld F.THM_LAST_REACTION react
  let r : BbRec := ⟨s.dev, src, s.recFlags react, sev, react, code, ctx⟩
  if 3 ≤ sev then s.bbxPut r
  else
    let now := s.dev / sec 1
    let s := if (s.srcSt src).recSec = now then s else (s.summary src).setSrc src { s.srcSt src with recSec := now, recN := 0, recLeft := 0 }
    let x := s.srcSt src
    if s.recRate src ≤ x.recN then
      (s.setSrc src { x with recLeft := x.recLeft + 1 }).bump F.BBX_STAT_SUPPRESSED 1
    else (s.setSrc src { x with recN := x.recN + 1 }).bbxPut r

/-! ### The MRAM copies of two-copy structures (R349) -/

/-- Writes a structure of `n` bytes kept as two copies `n` bytes apart from `base` on: the copy with the lower
generation takes the body, the next generation and its CRC. -/
def State.twoCopies (s : State) (base n : Nat) (body : Bytes) (genOff : Nat) : State :=
  let g0 := leNat (s.mram.readN (base + genOff) 8)
  let g1 := leNat (s.mram.readN (base + n + genOff) 8)
  let g := max g0 g1 + 1
  let b := fitTo genOff body ++ le 8 g
  let b := fitTo (n - 4) b
  { s with mram := s.mram.writeN (if g0 ≤ g1 then base else base + n) (b ++ le 4 (crc32c b)) }

/-- The FAULT history (R346, R349). -/
def State.putFaultHist (s : State) : State :=
  s.twoCopies 0x18000C0 64 ((s.thm.faultHist.map (le 8)).flatten) 24

/-- The bytes of one fence record before its generation (R349). -/
def fenceBody (src : Nat) (x : SrcSt) : Bytes :=
  le 2 src ++ [BitVec.ofNat 8 (if x.state = 2 then 2 else if x.state = 0 then 0 else 1), BitVec.ofNat 8 x.recov.length]
    ++ le 8 x.fencedAt ++ zeros 4 ++ (x.recov.map (le 4)).flatten

/-- Writes one fence record through: the copies of record `i` lie in two tables of 512 records. -/
def State.putFenceAt (s : State) (i src : Nat) : State :=
  let a0 := 0x1810000 + 256 * i
  let a1 := 0x1830000 + 256 * i
  let g0 := leNat (s.mram.readN (a0 + 244) 8)
  let g1 := leNat (s.mram.readN (a1 + 244) 8)
  let x := s.srcSt src
  let body := fitTo 244 (if x.state = 0 && x.recov.isEmpty then [0xFF, 0xFF] else fenceBody src x) ++ le 8 (max g0 g1 + 1)
  { s with mram := s.mram.writeN (if g0 ≤ g1 then a0 else a1) (body ++ le 4 (crc32c body)) }

/-- Frees the records of the sources that are in service and hold no re-admission of the preceding 24 h (R349). -/
def State.freeFences (s : State) : State :=
  s.thm.recs.entries.foldl (fun s e =>
    let x := s.srcSt e.2
    if x.state = 0 && x.recov.all (fun t => decide (t + 86400 ≤ s.dev / sec 1)) then
      let s := (s.setSrc e.2 { x with recov := [] }).putFenceAt e.1 e.2
      { s with thm := { s.thm with recs := s.thm.recs.del e.1 } }
    else s) s

/-- Writes a source's fence state and recovery history to its record, taking a free one at its first fence and freeing
those that hold nothing any more (R347, R349). The part has fewer than 512 sources, so that one is always free. -/
def State.putFence (s : State) (src : Nat) : State :=
  let s := s.freeFences
  let x := s.srcSt src
  match s.thm.recs.find (fun _ v => v = src) with
  | some (i, _) =>
    let s := s.putFenceAt i src
    if x.state = 0 && x.recov.isEmpty then { s with thm := { s.thm with recs := s.thm.recs.del i } } else s
  | none =>
    if x.state = 0 && x.recov.isEmpty then s
    else match s.thm.recs.freeKey 512 with
      | some i => State.putFenceAt { s with thm := { s.thm with recs := s.thm.recs.put i src } } i src
      | none => s

/-! ### Fences and needed units -/

/-- Re-admissions of the preceding 24 h (R347). -/
def State.recov24 (s : State) (src : Nat) : List Nat := (s.srcSt src).recov.filter (fun t => s.dev / sec 1 < t + 86400)

/-- Context of groups 0x10–0x13 (R350). -/
def State.fenceCtx (s : State) (src : Nat) : Bytes := le 4 (s.recov24 src).length ++ le 4 s.quietS

/-- The groups of needed units (R345). -/
def neededGroups : List (Nat × Nat) :=
  [(0x800, 0x80F), (0x900, 0x907), (0x600, 0x601), (0xA00, 0xA01), (0xF10, 0xF1F), (0x400, 0x401), (0xB00, 0xB00)]

/-- An instance in service: present, enabled and not fenced. -/
def State.inService (s : State) (src : Nat) : Bool :=
  s.listed src && (s.srcSt src).state = 0
    && (if 0x800 ≤ src && src ≤ 0x80F then bit (s.fld F.RILL_CFG_PAIR_EN) ((src - 0x800) / 2)
        else if 0x900 ≤ src && src ≤ 0x907 then bit (s.fld F.CPH_CFG_CORE_EN) (src - 0x900) else true)

/-- Taking the instance out would leave none of a needed unit in service (R345). -/
def State.lastNeeded (s : State) (src : Nat) : Bool :=
  (s.srcSt src).state = 0 && neededGroups.any (fun g =>
    g.1 ≤ src && src ≤ g.2 && !(List.range (g.2 + 1 - g.1)).any (fun i => g.1 + i ≠ src && s.inService (g.1 + i)))

/-- Takes the instance out of service and starts its quiet period (R343, R347). -/
def State.fenceSrc (s : State) (src : Nat) (perm : Bool) : State :=
  let x := s.srcSt src
  let s := s.setSrc src { x with
    state := if perm then 2 else 1, fencedAt := s.dev, count := 0, checking := false, recov := s.recov24 src
    quietAt := if perm then none else some (s.now + sec s.quietS) }
  ((s.putFence src).fenceUnit src).syncDomains

/-- Restarts the quiet period of a fenced instance (R342, R347). -/
def State.requiet (s : State) (src : Nat) : State :=
  let x := s.srcSt src
  if x.state = 1 || x.state = 3 then s.setSrc src { x with state := 1, quietAt := some (s.now + sec s.quietS), checking := false } else s

/-! ### FAULT (R346) -/

/-- A single-controller shelf, or every bed detached: no valid word was ever received, or the peer is declared failed. -/
def State.alone (s : State) : Bool :=
  s.gus.lastValid.isNone || s.gus.declared || (s.owned.all (fun b => match s.bed? b with | some x => x.detached | none => true)
    && !s.owned.isEmpty)

/-- The FAULT reaction, its record written (R346, R349). -/
def State.faultNow (s : State) : State :=
  if s.alone then
    let h := (s.thm.faultHist ++ [s.dev])
    let s := { s with thm := { s.thm with faultHist := h.drop (h.length - 3) } }
    s.putFaultHist.resetAssert 8 2
  else
    let s := s.owned.foldl State.selfFenceBed s
    State.dropStandby { s with thm := { s.thm with fault := true } }

/-- Group and detail of the unit's fence record: 0x10 fence, 0x12 permanent. -/
def fenceCode (act : Nat) : Nat := if act = 3 then 0x12000000 else 0x10000000

/-- The default reaction table (R344): match, mask, N, window, event action, severe action. -/
def thmDefaults : List (Nat × Nat × Nat × Nat × Nat × Nat) :=
  [(0x001, 0xFFF, 1, 1, 5, 5), (0x002, 0xFFF, 1, 1, 5, 5), (0x408, 0xFFE, 1, 1, 5, 5), (0x602, 0xFFF, 1, 1, 6, 6),
   (0x700, 0xFFE, 1, 1, 6, 6), (0xB04, 0xFFF, 1, 1, 6, 6), (0x800, 0xFF0, 3, 600, 1, 2), (0x900, 0xFF8, 3, 600, 1, 2),
   (0x400, 0xFF8, 16, 3600, 0, 2), (0x300, 0xFFC, 8, 60, 1, 2), (0x500, 0xFFC, 8, 60, 1, 2), (0x200, 0xFE0, 4, 600, 1, 2),
   (0x600, 0xFFE, 3, 600, 1, 2), (0xA00, 0xFFE, 3, 600, 1, 2), (0xB00, 0xFFC, 255, 3600, 0, 7), (0xF10, 0xFF0, 3, 600, 1, 2),
   (0xF00, 0xFFF, 1, 1, 5, 5), (0xF00, 0xFFC, 16, 3600, 4, 5), (0x908, 0xFFF, 16, 3600, 4, 5), (0xE00, 0xFFE, 8, 60, 0, 2),
   (0xE02, 0xFFF, 8, 60, 0, 2)]

/-- Fills entry `e` of the reaction table. -/
def State.putEntry (s : State) (e : Nat) (d : Nat × Nat × Nat × Nat × Nat × Nat) : State :=
  let s := s.setFld (F.THM_RT_ID_MATCH e) d.1
  let s := s.setFld (F.THM_RT_ID_MASK e) d.2.1
  let s := s.setFld (F.THM_RT_ACT_N e) d.2.2.1
  let s := s.setFld (F.THM_RT_ACT_WINDOW_S e) d.2.2.2.1
  let s := s.setFld (F.THM_RT_ACT_EVT_ACT e) d.2.2.2.2.1
  s.setFld (F.THM_RT_ACT_SEV_ACT e) d.2.2.2.2.2

/-- The defaults section fills every entry without a configured record (R344). -/
def State.putDefaults (s : State) : State :=
  let s := { s with thm := { s.thm with refill := false } }
  (List.range 64).foldl (fun s e =>
    if s.thm.configured.contains e then s else s.putEntry e (thmDefaults.getD e (0, 0, 0, 0, 0, 0))) s

/-- The class of sources whose events fail an activation of a target within its health window (R388, assumption 25). -/
def ownClass (target src : Nat) : Bool :=
  target = 0xFF || src = 0xF20 + target ||
  (if target = 1 then 0xF00 ≤ src && src ≤ 0xF0F
   else if target = 2 then 0xF10 ≤ src && src ≤ 0xF1F
   else if target = 3 then src / 256 = 6
   else if target = 4 then 0x400 ≤ src && src ≤ 0x409
   else if target = 5 then src / 256 = 8
   else if target = 6 then src / 256 = 1
   else if target = 7 then src / 256 = 0xE
   else false)

/-- An event of severity 3 or 4 fails the activation whose class it belongs to (R388). -/
def State.failActivation (s : State) (src : Nat) : State :=
  { s with mnt := { s.mnt with activation := s.mnt.activation.map (fun a => if ownClass a.target src then { a with failed := true } else a) } }

/-- The reaction that is taken: no second reset or FAULT of a source while one is carried out (R342), a fence beyond the
recovery limit is permanent (R347), and the last needed instance gives FAULT at severity 4 (R345). -/
def State.resolve (s : State) (src sev act : Nat) : Nat × Nat :=
  if (act = 4 || act = 5 || act = 6) && (s.srcSt src).reacting then (sev, 0)
  else
    let act := if act = 2 && ((s.srcSt src).state = 2 || s.recovMax ≤ (s.recov24 src).length) then 3 else act
    if (act = 2 || act = 3 || act = 7) && s.lastNeeded src then (4, 6) else (sev, act)

/-- Carries out a reaction (R343). Retry is the unit's own recovery. -/
def State.react (s : State) (src act : Nat) : State :=
  if act = 2 then s.fenceSrc src false
  else if act = 3 then s.fenceSrc src true
  else if act = 4 then (s.setSrc src { s.srcSt src with reacting := true }).resetAssert 8 1
  else if act = 5 then (s.setSrc src { s.srcSt src with reacting := true }).resetAssert 8 2
  else if act = 6 then s.faultNow
  else if act = 7 then (s.retireDdr (src - 0xB00)).syncDomains
  else s

/-- N and WINDOW_S as applied (R354). -/
def State.entryN (s : State) (e : Nat) : Nat := max 1 (s.fld (F.THM_RT_ACT_N e))
def State.entryWindow (s : State) (e : Nat) : Nat := max 1 (s.fld (F.THM_RT_ACT_WINDOW_S e))

/-- The context of an event's record (R350): groups 0x01–0x05 hold the count after the event, N, the start of the window, and the
unit detail `ctx`; the context of every other group is `ctx` as it is. -/
def State.evCtx (s : State) (src code : Nat) (ctx : Bytes) : Bytes :=
  if 1 ≤ code / 0x1000000 && code / 0x1000000 ≤ 5 then
    let n := match s.entryOf src with | some e => s.entryN e | none => 0
    let x := s.srcSt src
    le 4 x.count ++ le 4 n ++ le 8 (if x.count = 0 then 0 else s.devOf x.wstart) ++ ctx.take 16
  else ctx

/-- An event of severity 3 or 4 of a source that entry `e` matches (R342). -/
def State.severe (s : State) (src sev e code : Nat) (ctx : Bytes) : State :=
  let s := (s.setSrc src { s.srcSt src with count := 0 }).failActivation src
  let (sev, act) := s.resolve src sev (s.fld (F.THM_RT_ACT_SEV_ACT e))
  let s := if act = 2 || act = 3 then s.record src sev act (fenceCode act) (s.fenceCtx src) else s.record src sev act code (s.evCtx src code ctx)
  s.react src act

/-- A counted event of severity 1 or 2 (R342). -/
def State.counted (s : State) (src sev e code : Nat) (ctx : Bytes) : State :=
  let x := s.srcSt src
  let fresh := x.count = 0 || sec (s.entryWindow e) ≤ s.now - x.wstart
  let c := (if fresh then 0 else x.count) + 1
  let x := { x with wstart := if fresh then s.now else x.wstart, count := c }
  let s := s.setSrc src x
  let full := s.evCtx src code ctx
  if s.entryN e ≤ c then (s.record src sev 0 code full).severe src 3 e code ctx
  else
    let (sev, act) := s.resolve src sev (s.fld (F.THM_RT_ACT_EVT_ACT e))
    (s.record src sev act code full).react src act

/-- An event reaches Thimble (R342, R344, R347). `code` is group and detail, `ctx` the context, or the unit detail of groups
0x01–0x05 (R350). -/
def State.raise (s : State) (src sev code : Nat) (ctx : Bytes) : State :=
  if !s.listed src then s else
  let s := (if s.thm.refill then s.putDefaults else s).thmBoundary src
  match s.entryOf src with
  | none =>
    if sev = 0 then s.record src sev 0 code (s.evCtx src code ctx)
    else ((if 3 ≤ sev then s.failActivation src else s).record src sev 0 code (s.evCtx src code ctx)).requiet src
  | some e =>
    if sev = 0 then s.record src sev 0 code (s.evCtx src code ctx)
    else if 3 ≤ sev then s.severe src sev e code ctx
    else if (s.srcSt src).state ≠ 0 then (s.record src sev 0 code (s.evCtx src code ctx)).requiet src
    else s.counted src sev e code ctx

/-! ### Admission (R347) -/

/-- The instance returns to service: its re-admission time joins its history, with reaction 0x8. -/
def State.readmit (s : State) (src : Nat) : State :=
  let h := s.recov24 src ++ [s.dev / sec 1]
  let s := s.setSrc src { s.srcSt src with state := 0, quietAt := none, checking := false, count := 0, recov := h.drop (h.length - 32) }
  let s := (s.putFence src).record src 0 8 0x11000000 (s.fenceCtx src)
  (s.readmitUnit src).syncDomains

/-- Starts the admission check, which powers the instance, or leaves it pending while its domain is off in this state. -/
def State.startCheck (s : State) (src : Nat) : State :=
  (s.setSrc src { s.srcSt src with state := 3, quietAt := none, checking := false }).syncDomains

/-- The check of a fenced instance ends. A failure is an event of severity 3, which fences it again. -/
def State.endCheck (s : State) (src : Nat) (passed : Bool) : State :=
  let x := s.srcSt src
  if !x.checking then s
  else if passed then s.readmit src
  else
    let s := s.setSrc src { x with checking := false }
    let perm := s.recovMax ≤ (s.recov24 src).length
    ((s.failActivation src).record src 3 (if perm then 3 else 2) 0x06000000 []).fenceSrc src perm

/-- A service fence: operation 1 of THM_CMD (R354). `none` where it would leave no needed instance, or the source is
not one of this part's. -/
def State.serviceFence (s : State) (src : Nat) : Option State :=
  if !s.listed src || s.lastNeeded src || src = 0xB00 then none
  else
    let act := if (s.srcSt src).state = 2 || s.recovMax ≤ (s.recov24 src).length then 3 else 2
    some ((s.record src 3 act (fenceCode act) (s.fenceCtx src)).fenceSrc src (act = 3))

/-- A DDR channel was retired: it stays out until operation 2 (R393). -/
def State.ddrRetired (s : State) (src : Nat) : Bool :=
  0xB01 ≤ src && src ≤ 0xB03 && s.flag (F.DDR_STAT_RETIRED (src - 0xB00))

/-- Operation 2: the admission check of a fenced instance, or the training and pattern pass of a retired DDR channel, at once
(R347, R393). -/
def State.serviceReadmit (s : State) (src : Nat) : State :=
  if (s.srcSt src).state = 1 || (s.srcSt src).state = 3 || s.ddrRetired src then s.startCheck src else s

/-- Operation 3 through the service protocol: clears a permanent fence and the recovery history, then the check. -/
def State.clearPermanent (s : State) (src : Nat) : State :=
  if (s.srcSt src).state ≠ 2 then s
  else
    let s := s.setSrc src { s.srcSt src with state := 1, recov := [] }
    ((s.putFence src).record src 0 0 0x13000000 (s.fenceCtx src)).startCheck src

/-- A cipher core has failed its known-answer tests: it is fenced (R157). -/
def State.coreKatFail (s : State) (c : Nat) : State :=
  let s := { s with cph := { s.cph with coreFail := setBit s.cph.coreFail c true } }
  ((s.cphLoseCore c).raise (0x900 + c) 3 0x06000000 (le 4 3)).syncDomains

/-- Records of group 0x22 and the like, of source 0x003 (R410). -/
def State.note (s : State) (group : Nat) (ctx : Bytes) : State := s.raise 0x003 0 (group * 0x1000000) ctx

end Sys2Proof.Machine
end

