-- ==== Sys2Proof/Machine/Heartbeat.lean ====
section
/-! DEFINITION. The heartbeat word (R230, R231), the tick state in MRAM (R226, R349), and the supply words of black-box
records (R350). -/

namespace Sys2Proof.Machine

abbrev Outcome := Host.Outcome State Fault Refusal

/-- FAULT stands in every word sent (R231, R297, R314, R346). -/
def State.hbFault (s : State) : Bool :=
  s.thm.fault || (match s.pwr.pf with | some p => 3 ≤ p.step | none => false)

def bedMask (s : State) (p : Bed → Bool) : Nat :=
  s.beds.entries.foldl (fun m e => if p e.2 then setBit m e.1 true else m) 0

/-- A standby that has detached the owner's beds, or an owner that asks for it, shows it in its word (R229). -/
def State.hbDetached (s : State) : Bool := s.gus.detachAsked ≠ 0 || s.beds.vals.any (fun b => !b.owned && b.detached)

/-- The 16 bytes of a heartbeat word (R231). -/
def State.hbWord (s : State) (seq : Nat) : Bytes :=
  let tested := s.flag F.GUS_CFG_MODE
  let bad := if tested then s.gus.unitsBad else 0
  let b3 := 128 * b2n s.posB + 64 * b2n s.hbFault + 32 * b2n (s.beds.vals.any (·.fenced)) + 16 * b2n tested
    + 8 * b2n (bad = 0) + 4 * b2n s.gus.link + 2 * b2n s.hbDetached
  let w := be 2 0x4E48 ++ [BitVec.ofNat 8 (16 + s.shelf.st.code), BitVec.ofNat 8 b3] ++ be 2 seq
    ++ [BitVec.ofNat 8 (min 255 (min s.gus.miss1 s.gus.miss2)),
        BitVec.ofNat 8 (16 * bedMask s (·.owned) + bedMask s (·.joined))]
    ++ be 2 bad ++ be 2 s.gus.ackSent
  w ++ be 4 (crc32c w)

/-- The heartbeat pair runs: in every state but Held, and from step 9 of start-up on (R230, R316, R318). -/
def State.hbOn (s : State) : Bool := s.shelf.st ≠ .held || (s.rst.episode.isNone && 9 ≤ s.rst.phase)

/-- Sends a word with the next sequence number on the paths that work now: path 1 with the Gusset link up, path 2 in every
state but Held (R230). -/
def State.sendWord (s : State) : State :=
  let q := (s.gus.hbSeq + 1) % 65536
  let s := { s with gus := { s.gus with hbSeq := q } }
  let w := s.hbWord q
  let s := if s.gus.link then (s.emit (.heartbeat 1 w)).gusFrames true [(36, frameBytes 8 3 0 s.gus.rxSeq 0xFF w)] else s
  s.emit (.heartbeat 2 w)

/-- Sends a word at once on path 1 only: on path 2 the next own slot's carries the same (R297 step 3). -/
def State.sendWordOne (s : State) : State :=
  let q := (s.gus.hbSeq + 1) % 65536
  let s := { s with gus := { s.gus with hbSeq := q } }
  let w := s.hbWord q
  if s.gus.link then (s.emit (.heartbeat 1 w)).gusFrames true [(36, frameBytes 8 3 0 s.gus.rxSeq 0xFF w)] else s

/-- The tick state of one bed: tick number, counters, cursors and append offsets (R226, R349). -/
def State.tickStateBytes (s : State) (b : Bed) : Bytes :=
  let rb := match b.rebuild with | some r => r.member | none => 0xFF
  let cur := match b.rebuild with | some r => r.cursor | none => 0
  le 8 s.gus.tick ++ le 8 s.cmd.arrival ++ le 8 b.serial ++ le 8 b.fold
    ++ [BitVec.ofNat 8 rb, BitVec.ofNat 8 (b.queued.headD 0xFF), 0, 0] ++ le 4 cur ++ zeros 24
    ++ ((List.range 24).map (fun i => le 8 (match b.members.get? i with | some m => m.append | none => 0))).flatten

/-- Writes the tick state of every owned bed to MRAM. -/
def State.putTickStates (s : State) : State :=
  s.owned.foldl (fun s b =>
    match s.bed? b with
    | some x => s.twoCopies (0x1801000 + 0x1000 * b) 2048 (s.tickStateBytes x) 2036
    | none => s) s

/-- PWR_RAIL, PWR_FAIL and CLK_STAT as they read now (R309). -/
def State.railWord (s : State) : Word := putBits (s.reg 0x20000) 8 0 s.pwr.railOk
def State.failWord (s : State) : Word := putBits (putBits (s.reg 0x20004) 31 31 (b2n s.pwr.pfLow)) 30 28 s.pwr.pfPhase
def State.clkWord (s : State) : Word :=
  putBits (putBits (putBits (putBits (putBits (putBits (s.reg 0x20010) 31 31 (b2n s.clk.rootLock)) 30 30 (b2n (bit s.clk.refs 0)))
    29 29 (b2n (bit s.clk.refs 1))) 28 28 (b2n (bit s.clk.refs 2))) 27 27 (b2n (bit s.clk.refs 3))) 26 26 (b2n s.clk.holdover)

/-- Context of group 0x07 (R350). -/
def State.supplyCtx (s : State) : Bytes := le 4 s.railWord.toNat ++ le 4 s.failWord.toNat ++ le 4 s.clkWord.toNat

/-- An event of source 0x000: supplies, references, power-fail (R410). -/
def State.supplyEvent (s : State) (detail : Nat) : State := s.raise 0x000 3 (0x07000000 + detail) s.supplyCtx

end Sys2Proof.Machine
end

