-- ==== Sys2Proof/Machine/CfgUnit.lean ====
section
/-! DEFINITION. The configuration set: which fields it holds, its commit and its reading at start-up (R320, R321,
R374–R377). -/

namespace Sys2Proof.Machine

/-- Registers whose fields the set holds: those software can configure (assumption 14: the schema table that maps field
IDs to fields is not in the spec). -/
def RegDesc.inSet (r : RegDesc) : Bool :=
  r.fields.any (fun f => f.acc = .rwl || f.acc = .rwb || f.acc = .rwq || f.acc = .rw)

/-- Bits of a dword that the set holds. -/
def setBits (r : RegDesc) (w : Word) : Word :=
  r.fields.foldl (fun x f => if f.acc = .rwl || f.acc = .rwb || f.acc = .rwq || f.acc = .rw
    then putBits x f.hi f.lo (getBits w f.hi f.lo) else x) 0

/-- The dwords of register fields that a commit writes: every written or changed one (R376). -/
def State.cfgFields (s : State) : Tab Word :=
  (s.regs.vals.keys ++ s.regs.pend.keys).foldl (fun t a =>
    match findReg a with
    | some (r, _, _) => if r.inSet then t.put a (setBits r (s.written a)) else t
    | none => t) .empty

/-- Length of a set in bytes: header, records, CRC (R375). -/
def cfgSize (fields : Tab Word) (d : CfgData) : Nat :=
  68 + 8 * fields.size + (4 + d.identity.length + 16 * d.addrs.length) + 68
    + sumN (d.beds.vals.map (fun b => 24 + 12 * b.lost.length)) + 4 + 512 * d.ns.size
    + sumN (d.tenants.vals.map (fun t => 40 + t.name.length + sumN (t.prefixes.map List.length)))
    + 4 + d.rackBytes.length + 32 * d.rack.length + 4 + d.gpio.length

/-- Generation of the next commit. -/
def CfgSt.nextGen (c : CfgSt) : Nat :=
  (match c.newer with | some x => x.gen | none => 0) + 1

/-- Wraps a key of the configuration set under W_dev in the manner of K_domain: AES-256-GCM, the IV from the set's generation and the
key's number, the serial as additional data (R152, R246, R378; assumption 71). Key 1 is the rack key, 2 the service key. -/
def State.wrapKeyAs (s : State) (which : Nat) (key : Bytes) : WrappedKey :=
  let g := s.cfg.nextGen
  let r := gcmSeal (wrapKey s.fuses.deviceKey s.fuses.serial) (le 8 g ++ le 4 which) (le 8 s.fuses.serial) key
  ⟨g, r.1, r.2⟩

/-- Writes the whole set to both copies under the next generation; `none` (NO_ROOM) above 4 MiB (R376). -/
def State.writeSet (s : State) (f : Tab Word) (d : CfgData) : Option State :=
  if 4194304 < cfgSize f d then none
  else
    let c : CfgSet := { gen := s.cfg.nextGen, serial := s.fuses.serial, major := s.mnt.major, minor := s.mnt.minor, fields := f, data := d }
    some (State.note { s with cfg := { s.cfg with copy0 := some c, copy1 := some c, data := d } } 0x30 (le 4 c.gen))

/-- CFG_COMMIT: the running values become the committed ones. -/
def State.cfgCommit (s : State) : Option State := s.writeSet s.cfgFields s.cfg.data

/-- Committed values of the register fields. -/
def CfgSt.fields (c : CfgSt) : Tab Word := match c.newer with | some x => x.fields | none => .empty

/-- A running value differs from its committed value (R376). -/
def State.uncommitted (s : State) : Bool :=
  s.cfgFields.entries.any (fun e => (s.cfg.fields.get? e.1).getD
    (match findReg e.1 with | some (r, _, _) => setBits r (resetWord s.fuses.part e.1) | none => 0) ≠ e.2)

/-- An operation that commits its data records by its own rule (R376). -/
def State.commitData (s : State) (d : CfgData) : Option State := s.writeSet s.cfg.fields d

/-- The same for what must take effect whatever the set's room: without it the running record changes alone. -/
def State.commitOr (s : State) (d : CfgData) : State :=
  match s.commitData d with
  | some s => s
  | none => { s with cfg := { s.cfg with data := d } }

/-- Puts the fields of a set in force, then the RWB values written since and not committed (R320, R321). -/
def State.loadFields (s : State) (f : Tab Word) : State :=
  let s := f.entries.foldl (fun s e =>
    match findReg e.1 with
    | some (r, _, _) =>
      let into := fun (w : Word) (all : Bool) => r.fields.foldl (fun x d =>
        if (all && (d.acc = .rwb || d.acc = .rwq || d.acc = .rw)) || d.acc = .rwl then putBits x d.hi d.lo (getBits e.2 d.hi d.lo) else x) w
      let s := s.setReg e.1 (into (s.reg e.1) true)
      match s.regs.pend.get? e.1 with
      | some p => { s with regs := { s.regs with pend := s.regs.pend.put e.1 (into p false) } }
      | none => s
    | none => s) s
  s.applyRwb

/-- Data records a schema reset keeps (R377). -/
def CfgData.kept (d : CfgData) : CfgData := { d with rack := [], rackBytes := [], gpio := [] }

/-- The configuration set is read, once (R319, R320, R321). -/
def State.readConfig (s : State) : State :=
  if s.shelf.strapCode % 2 = 1 then
    { s with regs := { s.regs with pend := .empty }, cfg := { s.cfg with data := CfgData.init }, rst := { s.rst with cfgDefaulted := true } }
  else match s.cfg.newer with
    | none => State.applyRwb { s with cfg := { s.cfg with data := CfgData.init }, rst := { s.rst with cfgDefaulted := true, fail := 4 } }
    | some c =>
      if c.major ≠ s.mnt.major then
        State.applyRwb { s with cfg := { s.cfg with data := c.data.kept }, rst := { s.rst with schemaReset := true } }
      else
        let es := (List.range 64).filter (fun e => c.fields.has (0x40100 + 8 * e) || c.fields.has (0x40104 + 8 * e))
        State.loadFields { s with cfg := { s.cfg with data := c.data }, thm := { s.thm with configured := es } } c.fields

end Sys2Proof.Machine
end

