-- ==== Sys2Proof/Machine/Power.lean ====
section
/-! DEFINITION. Commands of the supplies, power domains and clocks (R293–R309). -/

namespace Sys2Proof.Machine

/-- Rail numbers of PWR_RAIL (R309): 0 VDD_CORE, 1 VDD_AON, 2 VDD_SRAM, 3 VDDA_SER, 4 VDDH_SER, 5 VDDQ_DDR, 6 VDD_IO,
7 VDD_PWRDIE, 8 VSLOT. -/
def railSource (r : Nat) (low29 : Bool) : Option (Nat × Nat) :=
  if r < 3 then some (1, 3) else if r = 5 || r = 6 || (r = 7 && low29) then some (2, 2) else none

/-- The slot power die turns every gate off in hardware (R296). -/
def SpcSt.gatesOff (p : SpcSt) : SpcSt :=
  { p with chans := p.chans.mapV (fun _ c => { c with st := (if c.st = .on || c.st = .ramping then .off else c.st), pg := false, joined := false, iout := 0 }) }

/-- A rail out of tolerance for 10 µs (R296). -/
def State.railLow (s : State) (i : RailInfo) : State :=
  let s := { s with pwr := { s.pwr with railOk := setBit s.pwr.railOk i.rail false } }
  let s := s.setFld F.PWR_RAIL_LOW (setBit (s.fld F.PWR_RAIL_LOW) i.rail true)
  let s := s.supplyEvent i.rail
  match railSource i.rail i.low29 with
  | some (src, reach) =>
    let s := if i.rail = 7 then { s with spc := s.spc.gatesOff } else s
    s.resetAssert src reach
  | none =>
    if i.rail = 3 || i.rail = 4 then
      let s := (bitsOf 4 i.ports).foldl State.linkLost s
      let s := if bit i.ports 4 then s.gusRetrain else s
      { s with drv := { s.drv with ports := s.drv.ports.mapV (fun k p => if bit i.ports (8 + k) then { p with link := false } else p) } }
    else s

/-- RAIL_FAULT: the supervisor of a rail reports it out of tolerance, or back in it. -/
def execRailFault (info : RailInfo) (s : State) : Outcome :=
  .next (if 8 < info.rail then s
    else if info.ok then { s with pwr := { s.pwr with railOk := setBit s.pwr.railOk info.rail true } }
    else s.railLow info)

/-- PWRFAIL_ASSERT: a low of more than 2 µs starts the sequence, or is recorded only, in Held or during an episode (R297,
R298). -/
def execPwrfailAssert (s : State) : Outcome :=
  let s := { s with pwr := { s.pwr with pfLow := true } }
  if s.rst.episode.isSome || s.shelf.st = .held then .next (s.supplyEvent 0x20)
  else if s.pwr.pf.isSome then .next s
  else
    let t0 := s.now
    let s := s.at (t0 + usec 2)
    .next (State.bump { s with pwr := { s.pwr with pf := some ⟨t0, 1, 0⟩, pfPhase := 1 } } F.PWR_FAIL_COUNT 1)

/-- Times of the steps of R297 after t0. -/
def pfTime (step : Nat) : Nat :=
  if step = 2 then usec 10 else if step = 3 then usec 20 else if step = 4 then usec 200 else if step = 5 then usec 600
  else msec 1

/-- Carries out one step of the power-fail sequence (R297). -/
def State.pfStep (s : State) (p : PfSeq) : State :=
  let k := p.step + 1
  let s := s.at (p.t0 + pfTime k)
  let s := { s with pwr := { s.pwr with pf := some { p with step := k } } }
  if k = 2 then { s with cmd := { s.cmd with stopped := true } }
  else if k = 3 then s.sendWordOne
  else if k = 4 then (State.supplyEvent s 0x20 |> fun s => { s with pwr := { s.pwr with pfPhase := 2 } })
  else if k = 5 then (State.putTickStates s |> fun s => { s with pwr := { s.pwr with pfPhase := 3 } })
  else
    let s := { s with pwr := { s.pwr with pfPhase := 4 } }
    let s := { s with pwr := { s.pwr with pf := none } }
    (bitsOf 12 p.heldCore).foldl (fun s src => s.resetAssert src 1) (s.resetAssert 4 2)

/-- PWRFAIL_STEP: the next timed step of the running sequence. -/
def execPwrfailStep (s : State) : Outcome :=
  match s.pwr.pf with
  | some p => .next (s.pfStep p)
  | none => .next s

/-- Clears a joined source that is no longer asserted (R312). -/
def State.releaseSource (s : State) (src : Nat) : State :=
  match s.rst.episode with
  | some ep => State.tryEnd { s with rst := { s.rst with episode := some { ep with asserted := setBit ep.asserted src false } } }
  | none => s

/-- PWRFAIL_RELEASE: PWRFAIL_N has been high for 100 ms (R298). -/
def execPwrfailRelease (s : State) : Outcome :=
  .next (State.releaseSource { s with pwr := { s.pwr with pfLow := false } } 4)

/-- A cipher core that is switched on has run its known-answer tests; one that failed is fenced before it takes a job (R157). -/
def State.coreTested (s : State) (domain : Nat) (passed : Bool) : State :=
  if 32 ≤ domain && domain < 40 && !passed then s.coreKatFail (domain - 32) else s

/-- DOMAIN_SWITCH_ON_DONE: a switched-on domain is usable (R301). `passed` is the outcome of a cipher core's tests. -/
def execDomainSwitchOnDone (rise : DomainOn) (s : State) : Outcome :=
  match s.pwr.rising.find? (fun e => e.1 = rise.domain) with
  | some (_, t) =>
    let s := (s.at t).coreTested rise.domain rise.passed
    .next (if rise.passed || s.domWanted rise.domain then s.domUsable rise.domain else s)
  | none => .next s

/-- REFCLK_LOSS: ROOT_REFCLK is absent or off: holdover (R304). -/
def execRefclkLoss (s : State) : Outcome :=
  if !bit s.clk.refs 0 then .next s
  else
    let s := { s with clk := { s.clk with refs := setBit s.clk.refs 0 false, rootLock := false, holdover := true, holdAt := some (s.now + msec 100), refGoodAt := none } }
    .next ((s.bump F.CLK_STAT_REF_LOSS 1).supplyEvent 0x10)

/-- REFCLK_RETURN: the PLL locks again without a reset; after an episode of source 5 the reference must first be good for
10 ms (R304). -/
def execRefclkReturn (s : State) : Outcome :=
  .next { s with clk := { s.clk with refs := setBit s.clk.refs 0 true, rootLock := true, holdover := false, holdAt := none, refGoodAt := some (s.now + msec 10) } }

/-- HOLDOVER_EXPIRY: the reference has not come back within 100 ms (R304). -/
def execHoldoverExpiry (s : State) : Outcome :=
  match s.clk.holdAt with
  | some t =>
    let s := s.at t
    .next (State.resetAssert { s with clk := { s.clk with holdAt := none } } 5 2)
  | none => .next s

/-- Ports a SerDes reference serves (R303): 1 REFCLK_NETA, 2 REFCLK_NETB, 3 REFCLK_PCIE. -/
def State.refDown (s : State) (ref : Nat) : State :=
  if ref = 1 then
    let s := [0, 1].foldl State.linkLost s
    s.gusRetrain
  else if ref = 2 then [2, 3].foldl State.linkLost s
  else
    { s with drv := { s.drv with ports := s.drv.ports.mapV (fun _ p => { p with link := false }) } }

/-- SERDES_REFCLK_LOSS: the ports the reference serves go down, with a Thimble event and no reset (R304). -/
def execSerdesRefclkLoss (ref : Nat) (s : State) : Outcome :=
  if ref = 0 || 3 < ref || !bit s.clk.refs ref then .next s
  else
    let s := { s with clk := { s.clk with refs := setBit s.clk.refs ref false } }
    let s := s.bump F.CLK_STAT_REF_LOSS 1
    .next ((s.refDown ref).supplyEvent 0)

/-- SERDES_REFCLK_RETURN: the ports may train again (R304). -/
def execSerdesRefclkReturn (ref : Nat) (s : State) : Outcome :=
  if ref = 0 || 3 < ref then .next s
  else .next { s with clk := { s.clk with refs := setBit s.clk.refs ref true } }

/-! ### Timebase and PTP (R305–R308) -/

/-- Every gate list takes its position again after a step of the timebase of more than 1 µs (R214). -/
def State.gclStepped (s : State) : State :=
  (List.range s.nNet).foldl State.startNext <| (List.range s.nNet).foldl (fun s n =>
    let p := s.nport n
    if p.oper.isNone && p.admin.isNone then s
    else
      let p := match p.oper with | some g => { p with entry := (s.gclNow g).1 } | none => p
      let s := s.setNet n p
      match p.admin with
      | some g =>
        if g.start ≤ s.dev then
          (s.setNet n { p with oper := some g, admin := none, entry := (s.gclNow g).1 }).setFld (F.WEIR_GCL_STAT_STEPPED n) 1
        else if p.oper.isSome then s.setFld (F.WEIR_GCL_STAT_STEPPED n) 1 else s
      | none => s.setFld (F.WEIR_GCL_STAT_STEPPED n) 1) s

/-- The timebase steps so that an offset of the device from its master becomes zero (R307). -/
def State.stepTime (s : State) (offset : Int) : State :=
  let s := { s with toff := s.toff - offset, frac := 0 }
  let s := s.setFld F.CLK_PTP_STAT_STEPPED 1
  if offset.natAbs ≤ 1000 then s else s.gclStepped

/-- Largest frequency adjustment, ± 500 ppm of 10 ns, in units of 2^-32 ns (R305). -/
def adjMax : Nat := 21474836

/-- The slew: an adjustment within ± 500 ppm that the spec does not fix (R307; assumption 12). -/
def State.slew (s : State) : State :=
  let a : Int := (s.draw % (2 * adjMax + 1) : Nat) - (adjMax : Int)
  State.drawn { s with clk := { s.clk with adj := a } }

/-- Saturates a sample for CLK_PTP_OFFSET (R309). -/
def satOffset (o : Int) : Int := max (-2147483647) (min 2147483647 o)

/-- One offset sample: counts toward locking and clearing the lock, then step or slew (R307). -/
def State.sample (s : State) (offset : Int) (mayStep : Bool) : State :=
  let d := offset.natAbs
  let good := if d ≤ 1000 then s.clk.good + 1 else 0
  let bad := if 10000 < d then s.clk.bad + 1 else 0
  let was := s.clk.locked
  let locked := if 8 ≤ good then true else if 3 ≤ bad then false else was
  let s := { s with clk := { s.clk with good := good, bad := bad, locked := locked, sampleAt := some s.now, offset := satOffset offset } }
  if mayStep && !was then s.stepTime offset else s.slew

/-- The offset of a Sync exchange (R161, R306): the master sent its Sync at `t1` and received the Delay_Req at `t4`, both with
their corrections in; the port stamped the Sync's arrival and the Delay_Req's departure. A message that no row has brought is
stamped now. -/
def State.ptpOffset (s : State) (port : Nat) (t1 t4 : Int) : Int :=
  let p := s.nport port
  let t2 : Int := (p.rxStamp.getD s.dev : Nat)
  let t3 : Int := (p.txStamp.getD s.dev : Nat)
  ((t2 - t1) - (t4 - t3)) / 2

/-- PTP_SYNC: a Sync exchange on a port yields an offset sample (R306, R307). -/
def execPtpSync (port : Nat) (times : PtpTimes) (s : State) : Outcome :=
  if s.ctlWaits then .next (s.waitFrameAt port (.ptpSync port times)) else
  let s := s.applyRwl 0x20020
  if !s.flag F.CLK_PTP_CFG_EN || s.flag F.CLK_PTP_CFG_SRC || !bit (s.fld F.CLK_PTP_CFG_PORTS) port || !s.netUp port then .next s
  else
    let limit := max 1 (s.fld F.CLK_PTP_CFG_STEP_US) * 1000
    let offset := s.ptpOffset port times.t1 times.t4
    let s := { s with clk := { s.clk with port := port } }
    let s := s.setNet port { s.nport port with rxStamp := none, txStamp := none }
    .next (s.sample offset (decide (limit < offset.natAbs)))

/-- PTP_SAMPLE_TIMEOUT: 60 s without a sample (R307). -/
def execPtpSampleTimeout (s : State) : Outcome :=
  match s.clk.sampleAt with
  | some t =>
    let s := s.at (t + sec 60)
    .next { s with clk := { s.clk with locked := false, good := 0, bad := 0 } }
  | none => .next s

/-- How far device time is from the nearest whole second. -/
def nearSecond (dev : Nat) : Int :=
  let r := dev % 1000000000
  if r < 500000000 then (r : Int) else (r : Int) - 1000000000

/-- PPS_IN_PULSE: with SRC = 1, the first pulse after a time of day sets the second, the others give samples; without a time
of day none of them counts toward the lock (R308). -/
def execPpsInPulse (s : State) : Outcome :=
  let s := s.applyRwl 0x20020
  if !s.flag F.CLK_PTP_CFG_EN || !s.flag F.CLK_PTP_CFG_SRC then .next s
  else match s.clk.tod with
    | some t =>
      let s := { s with clk := { s.clk with tod := none, sampleAt := some s.now } }
      .next (s.stepTime ((s.dev : Int) - (sec (t / 1000000000) : Nat)))
    | none =>
      let u := s.sample (nearSecond s.dev) false
      .next (if s.clk.todSet then u else { u with clk := { u.clk with good := 0, locked := s.clk.locked && u.clk.locked } })

/-- PPS_OUT_SECOND: at a whole second PPS_OUT rises while LOCKED and OUT_EN are 1 (R308). -/
def execPpsOutSecond (s : State) : Outcome :=
  let s := s.applyRwl 0x20038
  if s.clk.locked && s.flag F.CLK_PPS_OUT_EN then
    let w := clamp 1 999 (s.fld F.CLK_PPS_WIDTH_MS)
    .next (State.emit { s with clk := { s.clk with ppsTo := s.now + msec w } } (.pps true))
  else .next s

end Sys2Proof.Machine
end

