-- ==== Sys2Proof/Machine/ResetCmds.lean ====
section
/-! DEFINITION. Commands of the strap, the reset controller and start-up (R287–R289, R311–R322). -/

namespace Sys2Proof.Machine

/-! ### Records of start-up -/

/-- RST_BOOT as it reads now (R322). -/
def State.bootWord (s : State) : Nat :=
  s.rst.phase * 0x10000000 + s.rst.fail * 0x1000000 + b2n s.rst.svcWait * 0x800000 + s.rst.slot * 0x400000
    + b2n s.rst.cfgDefaulted * 0x200000 + b2n s.rst.schemaReset * 0x100000

/-- A start-up failure or override, source 0x003 (R350, R410). -/
def State.bootEvent (s : State) (detail : Nat) : State :=
  s.raise 0x003 0 (0x21000000 + detail) (le 4 s.bootWord ++ le 4 (s.reg 0x30).toNat)

/-! ### The strap (R287–R289) -/

/-- Window of a reading, as a strap code; readings under 200 Ω or from 16 kΩ have none. -/
def strapWindow (ohm : Nat) : Option Nat := if ohm < 200 || 16000 ≤ ohm then none else some (ohm / 1000)

/-- The code of a round in which all readings agree. -/
def roundCode (l : List Nat) : Option Nat :=
  match l with
  | [] => none
  | x :: _ => match strapWindow x with
    | some c => if l.all (fun y => strapWindow y = some c) then some c else none
    | none => none

/-- The reading is over: its code, or code 3 with INVALID and an event (R287, R289). -/
def State.strapEnd (s : State) (code : Nat) (invalid : Bool) (rounds mean : Nat) : State :=
  let s := { s with shelf := { s.shelf with
    strapCode := code, strapInvalid := invalid, strapRounds := rounds, strapOhms := mean, strapDone := true } }
  let s := s.setFld F.TOP_SHELF_STRAP_CODE code
  let s := s.setFld F.TOP_SHELF_POSITION (code / 8)
  let s := s.setFld F.TOP_SHELF_MGR_ELIGIBLE (b2n s.eligible)
  let s := s.setFld F.TOP_STRAP_INVALID (b2n invalid)
  let s := s.setFld F.TOP_STRAP_CODE code
  let s := s.setFld F.TOP_STRAP_ROUNDS rounds
  let s := s.setFld F.TOP_STRAP_OHMS (min 0xFFFF mean)
  State.tryEnd (if invalid then s.bootEvent 0 else s)

/-- STRAP_READ_ROUND: the 8 readings, in ohms, of one round. -/
def execStrapReadRound (readings : List Nat) (s : State) : Outcome :=
  let wide := match s.rst.episode with | some ep => decide (2 ≤ ep.reach) | none => false
  if readings.length ≠ 8 || !wide || s.shelf.strapDone then .next s
  else
    let n := s.shelf.strapRounds + 1
    let mean := sumN readings / 8
    let s := { s with shelf := { s.shelf with strapRounds := n } }
    .next (match roundCode readings with
      | some c => s.strapEnd c false n mean
      | none =>
        if readings.all (· < 200) || readings.all (16000 ≤ ·) || n = 10 then s.strapEnd 3 true n mean else s)

/-! ### Sources and episodes (R311–R314) -/

/-- Reach of a source where it is fixed (R311); 8–10 take the reach they name. -/
def fixedReach (src reach : Nat) : Nat :=
  if src ≤ 1 then 3 else if src ≤ 6 then 2 else if src = 7 || src = 11 then 1 else clamp 1 2 reach

/-- RESET_SOURCE_ASSERT: a source asserts; `reach` counts for sources 8–10. A low on SYSRST_N cannot be seen while the
part drives the line (R313). -/
def execResetSourceAssert (src reach : Nat) (s : State) : Outcome :=
  .next (if 11 < src || (src = 3 && s.rst.sysrstLow) then s else s.resetAssert src (fixedReach src reach))

/-- RESET_SOURCE_RELEASE: an asserted source is released; that of the lost reference once ROOT_REFCLK has been good for 10 ms (R304). -/
def execResetSourceRelease (src : Nat) (s : State) : Outcome :=
  if src ≠ 5 then .next (s.releaseSource src)
  else match s.clk.refGoodAt with
    | some t => .next ((s.at t).releaseSource 5)
    | none => .next s

/-- STRETCH_EXPIRY: the 2 ms stretch has run; SYSRST_N is released, and `lineLow` says that another device holds it
(R312, R313). -/
def execStretchExpiry (lineLow : Bool) (s : State) : Outcome :=
  match s.rst.episode with
  | none => .next s
  | some ep =>
    if ep.stretched then .next s
    else
      let s := s.at ep.stretchAt
      let wide := 2 ≤ ep.reach
      let ep := { ep with
        stretched := true
        asserted := if wide && lineLow then setBit ep.asserted 3 true else ep.asserted
        joined := if wide && lineLow then setBit ep.joined 3 true else ep.joined
        lineAt := if wide then some (s.now + usec 100) else none }
      let s := if wide && lineLow then s.causeBit 3 else s
      .next (State.tryEnd { s with rst := { s.rst with episode := some ep, sysrstLow := false } })

/-- SYSRST_HIGH_CONFIRM: the line has read high for 100 µs; source 3 counts as released (R313). -/
def execSysrstHighConfirm (s : State) : Outcome :=
  .next (if s.rst.sysrstLow then s else s.releaseSource 3)

/-- CORE_EPISODE_TIMEOUT: a core episode has lasted 5 ms (R314). -/
def execCoreEpisodeTimeout (s : State) : Outcome :=
  match s.rst.episode with
  | some ep =>
    match ep.deadline5 with
    | some t =>
      let s := s.at t
      let s := s.owned.foldl State.selfFenceBed s
      .next { s with thm := { s.thm with fault := true }
                     rst := { s.rst with episode := some { ep with deadline5 := none } } }
    | none => .next s
  | none => .next s

/-- WATCHDOG_EXPIRY: the watchdog of core 0, or one of the others (R311). -/
def execWatchdogExpiry (core0 : Bool) (s : State) : Outcome :=
  if core0 then
    match s.rst.wdCore0 with
    | some t =>
      let s := s.at t
      .next (State.resetAssert { s with rst := { s.rst with wdCore0 := none } } 6 2)
    | none => .next s
  else
    match s.rst.wdCores with
    | some t =>
      let s := s.at t
      .next (State.resetAssert { s with rst := { s.rst with wdCores := none } } 7 1)
    | none => .next s

/-- A kick of every watchdog; the written periods apply, none under 10 ms (R322). -/
def State.kick (s : State) (value : Word) : State :=
  let s := { s with regs := { s.regs with pend := s.regs.pend.put 0x10010 value } }
  let s := s.applyRwl 0x10010
  { s with rst := { s.rst with
      wdCore0 := some (s.now + msec (max 10 (s.fld F.RST_WDT_C0_MS)))
      wdCores := some (s.now + msec (max 10 (s.fld F.RST_WDT_CX_MS))) } }

/-- WATCHDOG_KICK: a write of RST_WDT. -/
def execWatchdogKick (value : Word) (s : State) : Outcome := .next (s.kick value)

/-- RST_CTRL_CORE: RST_CTRL with the key and LEVEL 1. -/
def execRstCtrlCore (s : State) : Outcome := .next (s.resetAssert 9 1)

/-- RST_CTRL_SYSTEM: RST_CTRL with the key and LEVEL 2. -/
def execRstCtrlSystem (s : State) : Outcome := .next (s.resetAssert 9 2)

/-! ### Start-up (R318–R321) -/

/-- Start-up stops in service-wait, with a FAIL code and an event (R319). -/
def State.stopBoot (s : State) (fail : Nat) : State :=
  State.bootEvent { s with rst := { s.rst with fail := fail, svcWait := true } } fail

/-- A failure after which start-up goes on. -/
def State.failBoot (s : State) (fail : Nat) : State :=
  State.bootEvent { s with rst := { s.rst with fail := fail } } fail

def blank2 (b : Bytes) : Bool := b.all (· = 0)

/-- The tick-state header (R349). -/
def tickHeader (serial : Nat) : Bytes :=
  let b := [0x54, 0x4E, 1, 0] ++ le 8 serial ++ zeros 48
  b ++ le 4 (crc32c b)

def State.blackHeaderOk (s : State) : Bool :=
  let b := s.mram.readN 0 4096
  leNat (b.take 2) = 0x4E42 && leNat (slice b 4 8) = s.fuses.serial && leNat (slice b 4092 4) = crc32c (b.take 4092)

def State.tickHeaderOk (s : State) : Bool :=
  let b := s.mram.readN 0x1800000 64
  leNat (b.take 2) = 0x4E54 && leNat (slice b 4 8) = s.fuses.serial && leNat (slice b 60 4) = crc32c (b.take 60)

/-- Formats a blank MRAM (R349). -/
def State.formatMram (s : State) : State :=
  let m := (Mem.empty.writeN 0 (bbxHeader s.fuses.serial 1 s.dev)).writeN 0x1800000 (tickHeader s.fuses.serial)
  { s with mram := m, thm := { s.thm with next := 1, recs := .empty } }

/-- Advances past valid records that the header does not count (R351). -/
def recoverSeq (s : State) : Nat → Nat → Nat
  | 0, q => q
  | n + 1, q =>
    let b := s.mram.readN (bbxAddr q) 64
    if leNat (slice b 60 4) = crc32c (b.take 60) && leNat (slice b 48 8) = q then recoverSeq s n (q + 1) else q

/-- The FAULT history stops the controller: three episodes within 24 h (R346). -/
def State.faultStop (s : State) : Bool :=
  3 ≤ s.thm.faultHist.length && (match s.thm.faultHist.getLast?, s.thm.faultHist.head? with
    | some b, some a => b ≤ a + sec 86400
    | _, _ => false)

/-- Step 2: the MRAM's headers, the episode record, then the stops. Without a good header the episode record waits in the staging
queue (R318, R319, R351, R352). -/
def State.boot2 (s : State) (i : StartInfo) : State :=
  if !i.mramAnswers then s.episodeRecord.stopBoot 6
  else
    let blank := s.mram.readN 0 2 = zeros 2 && s.mram.readN 0x1800000 2 = zeros 2
    if !blank && (!s.blackHeaderOk || !s.tickHeaderOk) then s.episodeRecord.stopBoot 6
    else
      let s := if blank then s.formatMram
        else { s with thm := { s.thm with next := recoverSeq s 256 (leNat (s.mram.readN 12 8)) } }
      let s := s.bbxWriteHeader
      let s := { s with thm := { s.thm with mramOk := true, formatted := blank } }
      let s := s.episodeRecord.bbxDrain
      let s := { s with rst := { s.rst with phase := 2 } }
      -- the eligibility of an NE7236's strap code is overridden (R3)
      let s := if s.is36 && bit s.shelf.strapCode 2 then s.bootEvent 0 else s
      if s.faultStop then s.stopBoot 9
      else if s.shelf.strapCode / 2 % 2 = 1 || s.shelf.strapInvalid then { s with rst := { s.rst with svcWait := true } }
      else s

/-- The image slot that runs: the active one where it verifies, else the other (R318 step 3, R319). -/
def bootSlot (active : Nat) (a b : Bool) : Option Nat :=
  if active = 0 then (if a then some 0 else if b then some 1 else none)
  else (if b then some 1 else if a then some 0 else none)

/-- An image's security version is not below the fused one, as far as it is known (R318 step 3, R389). -/
def State.secVerOk (s : State) (slot : Nat) : Bool :=
  match s.mnt.images.get? slot with | some x => s.fuses.secVer ≤ x.secVer | none => true

/-- Step 3: the slot that starts. A whole image on trial is tried first; any other section on trial is treated as failed
(R318, R387, R388). -/
def State.boot3 (s : State) (i : StartInfo) : State :=
  let want := match s.mnt.activation with
    | some a => if a.phase = 3 then a.slot else s.mnt.active % 2
    | none => s.mnt.active % 2
  match bootSlot want (i.imageOkA && s.secVerOk 0) (i.imageOkB && s.secVerOk 1) with
  | none => s.stopBoot 2
  | some n =>
    let trial := match s.mnt.activation with | some a => if a.phase = 3 && a.slot = n then s.mnt.trial else 0 | none => 0
    let v := match s.mnt.images.get? n with | some x => (x.major, x.minor) | none => (s.mnt.major, s.mnt.minor)
    { s with rst := { s.rst with slot := n, phase := 3 }, mnt := { s.mnt with trial := trial, major := v.1, minor := v.2 } }

/-- The end of start-up ends the restart of a whole image: its health window opens, or the revert is over; an image that did
not start has failed (R387, R388). -/
def State.wholeStarted (s : State) : State :=
  match s.mnt.activation with
  | none => s
  | some a =>
    if a.phase = 3 && a.slot ≠ s.rst.slot then State.setFld { s with mnt := { s.mnt with activation := none } } F.MNT_ACTV_RESULT 2
    else s.actRestarted

/-- Step 5: known-answer tests, then K_domain is unwrapped; the other copy is rewritten where it is invalid or older. -/
def State.boot5 (s : State) (i : StartInfo) : State :=
  let v := fun (read : Option Bytes) (c : Option KeyStore) =>
    (match read with | some d => keyStoreOf d | none => c).filter (fun k => k.ok s.fuses.deviceKey s.fuses.serial)
  let s := { s with cph := { s.cph with store0 := v i.keyCopy0 s.cph.store0, store1 := v i.keyCopy1 s.cph.store1, katFail := !i.kdfOk
                                        coreFail := (2 ^ s.nCph - 1) - i.coresOk % 2 ^ s.nCph } }
  let s := match s.store with
    | some k =>
      -- the other copy is rewritten where it is invalid or older
      let s := if s.cph.store0 ≠ some k then s.emit (.keyStore 0 k.image) else if s.cph.store1 ≠ some k then s.emit (.keyStore 1 k.image) else s
      { s with cph := { s.cph with store0 := some k, store1 := some k, noCopy := false
                                   kDomain := if i.kdfOk then k.unwrap s.fuses.deviceKey s.fuses.serial else none } }
    | none => { s with cph := { s.cph with noCopy := true, kDomain := none } }
  let s := { s with rst := { s.rst with phase := 5 } }
  let s := (bitsOf 8 s.cph.coreFail).foldl (fun s c => s.raise (0x900 + c) 3 0x06000000 []) s
  let s := if i.kdfOk then s else s.raise 0x909 3 0x06000000 []
  if !i.kdfOk || s.cph.noCopy then State.failBoot { s with rst := { s.rst with keyFail := true } } 3 else s

/-- Step 7: DDR training; MRAM structures are read (R318). -/
def State.boot7 (s : State) (i : StartInfo) : State :=
  let s := (List.range 4).foldl (fun s c =>
    let up := c < s.nDdr && bit i.ddrTrained c
    let s := s.setFld (F.DDR_STAT_TRAINED c) (b2n up)
    s.setFld (F.DDR_STAT_SIZE_GIB c) (if up then i.ddrGib.getD c 0 else 0)) s
  if !bit i.ddrTrained 0 then s.stopBoot 5
  else
    let e0 := leNat (s.mram.readN 0x1800040 8)
    let e1 := leNat (s.mram.readN 0x1800080 8)
    { s with rst := { s.rst with phase := 7 }, rack := { s.rack with epoch := max s.rack.epoch (max e0 e1) } }

/-- A present pin whose raw level is asserted when the sequencer starts begins its debounce (R264, R276). -/
def State.startDebounce (s : State) : State :=
  let db := msec (s.fld F.SPC_CFG_PRES_DB_MS)
  { s with spc := { s.spc with chans := s.spc.chans.mapV (fun _ c => if c.raw && !c.present then { c with dbAt := some (s.now + db) } else c) } }

/-- Step 8: the firmware sections and the Thimble defaults; the sequencer runs (R318, R319, R344). -/
def State.boot8 (s : State) (i : StartInfo) : State :=
  if !i.sectionsOk && !i.sectionsOtherOk then s.stopBoot 7
  else
    let s := if i.sectionsOk then s else s.failBoot 7
    let s := s.putDefaults
    State.startDebounce { s with rst := { s.rst with phase := 8 }, spc := { s.spc with seqRun := true } }

/-- Answers the orders that a reset ended, once the controller is listed (R255). -/
def State.sendOwed (s : State) : State :=
  let l := s.cfg.data.rack
  if !l.any (fun e => e.serial = s.fuses.serial) then s
  else
    let s := s.rack.owed.foldl (fun s o =>
      s.rackSend ((l.findIdx? (fun e => e.serial = o.1)).getD 0xFFFF) 7
        (be 4 o.2.1 ++ [BitVec.ofNat 8 o.2.2, BitVec.ofNat 8 s.shelf.st.code, 0, 0])) s
    { s with rack := { s.rack with done := s.rack.owed ++ s.rack.done, owed := [] } }

/-- Step 10: the position check; Dormant, or Dark with no bed (R16, R318). A schema reset is committed (R377). -/
def State.boot10 (s : State) (i : StartInfo) : State :=
  let same := match i.peerPosition with | some p => decide (p = s.shelf.strapCode / 8) | none => false
  let s := { s with rst := { s.rst with phase := 10, startAt := none } }
  let s := if s.rst.schemaReset then (match s.cfgCommit with | some s => s | none => s) else s
  let s :=
    if same then
      State.failBoot { s with
        shelf := { s.shelf with st := .dark, conflict := true, stopped := true }
        cmd := { s.cmd with bucket := 1000, bucketAt := s.dev } } 8
    else { s with shelf := { s.shelf with st := .dormant, conflict := false } }
  let s := s.note 0x22 [BitVec.ofNat 8 3, BitVec.ofNat 8 s.shelf.st.code]
  s.sendOwed.putOwnAddrs.syncDomains.wholeStarted

/-- One start-up step, with what it finds. -/
def State.bootStep (s : State) (i : StartInfo) : State :=
  let k := s.rst.phase + 1
  let done := fun (s : State) => { s with rst := { s.rst with phase := k } }
  if k = 1 then
    (if i.romOk then done s else { s.failBoot 1 with rst := { (s.failBoot 1).rst with startAt := none } })
  else if k = 2 then s.boot2 i
  else if k = 3 then s.boot3 i
  else if k = 4 then State.syncDomains (done s)
  else if k = 5 then s.boot5 i
  else if k = 6 then
    let s := s.readConfig
    let s := done s
    if s.rst.fail = 4 then s.bootEvent 4 else s
  else if k = 7 then (s.boot7 i).syncDomains
  else if k = 8 then s.boot8 i
  else if k = 9 then State.syncDomains (done s)
  else s.boot10 i

/-- START_UP_STEP: the next step of R318. -/
def execStartUpStep (info : StartInfo) (s : State) : Outcome :=
  .next (if s.rst.startAt.isNone || s.rst.svcWait || s.rst.episode.isSome || 10 ≤ s.rst.phase then s else s.bootStep info)

end Sys2Proof.Machine
end

