-- ==== Sys2Proof/Machine/SpcUnit.lean ====
section
/-! DEFINITION. The slot channels as a unit: start conditions, ramps, trips, the MOSFET models (R261–R277). -/

namespace Sys2Proof.Machine

def State.chan (s : State) (k : Nat) : Chan := s.spc.chans.getD k Chan.init

def State.setChan (s : State) (k : Nat) (c : Chan) : State := { s with spc := { s.spc with chans := s.spc.chans.put k c } }

/-! ### Ranges of the configuration (R277) -/

def State.rampPar (s : State) : Nat := clamp 1 8 (s.fld F.SPC_CFG_RAMP_PAR)
def State.joinWaitMs (s : State) : Nat := clamp 25 255 (s.fld F.SPC_CFG_JOIN_WAIT_MS)
def State.presDbMs (s : State) : Nat := clamp 10 255 (s.fld F.SPC_CFG_PRES_DB_MS)
def State.insDelayMs (s : State) : Nat := clamp 50 5000 (s.fld F.SPC_CFG1_INS_DELAY_MS)
def State.rampMaxMs (s : State) : Nat := clamp 30 1000 (s.fld F.SPC_CFG1_RAMP_MAX_MS)
def State.vminMv (s : State) : Nat := clamp 10000 12000 (s.fld F.SPC_WIN_VMIN_MV)
def State.vmaxMv (s : State) : Nat := clamp 12000 14000 (s.fld F.SPC_WIN_VMAX_MV)
def State.tripC (s : State) : Nat := clamp 100 175 (s.fld F.SPC_MODEL2_TRIP_C)
def State.resumeC (s : State) : Nat := min (s.tripC - 20) (s.fld F.SPC_MODEL2_RESUME_C)
def State.tambC (s : State) : Nat := min 125 (s.fld F.SPC_CFG_TAMB_C)

/-- Junction temperatures of the models, hot-swap and reverse-blocking, in nano-degrees (R272). -/
def State.tjHs (s : State) (c : Chan) : Nat := s.tambC * 1000000000 + c.d1hs + c.d2hs
def State.tjRb (s : State) (c : Chan) : Nat := s.tambC * 1000000000 + c.d1rb + c.d2rb

/-- Slots whose present level has been debounced. -/
def Chan.driving (c : Chan) : Bool := c.st = .on || c.st = .ramping

/-- The controller may power slots: Awake or moving to it, and not stopped by a position conflict (R16, R23). -/
def State.mayPower (s : State) : Bool := s.powerSt = .awake && !s.shelf.stopped && s.spc.seqRun

/-- The start condition of a waiting channel is met: it takes its turn, by the moment and at one moment by the slot (R265). -/
def State.chanMet (s : State) (k : Nat) : State := s.setChan k { s.chan k with met := some (s.now * 32 + k), insAt := none }

/-- The insertion delay starts where the present level and VIN allow it; otherwise it waits for them (R263). -/
def State.startIns (s : State) (k : Nat) : State :=
  let c := s.chan k
  s.setChan k { c with met := none, insAt := if c.present && s.spc.vinIn then some (s.now + msec s.insDelayMs) else none }

/-- A channel enters Waiting in a context (R263). -/
def State.wait (s : State) (k : Nat) (ctx : RampCtx) : State :=
  let s := s.setChan k { s.chan k with st := .waiting, ctx := ctx, met := none, insAt := none, joinAt := none, joinLooked := false }
  let c := s.chan k
  if ctx = .normal then
    (if !c.present then s
     else if s.spc.vinIn then s.chanMet k
     else s.setChan k { s.chan k with ctx := .recovery })
  else s.startIns k

/-- No channel is Ramping: the sequencer's new section runs (R387, target 0x06). -/
def State.swapDone (s : State) : State :=
  if s.spc.swapHold && s.spc.chans.vals.all (fun c => c.st ≠ .ramping) then State.actRestarted { s with spc := { s.spc with swapHold := false } } else s

/-- The gates of a channel go off; the drive keeps what the other path gives it (R262). -/
def State.gateOff (s : State) (k : Nat) (st : ChanSt) : State :=
  let c := s.chan k
  let s := s.setChan k { c with
    st := st, pg := false, joined := false, joining := false, iout := 0, limitUs := 0, rampMaxAt := none, lostAt := none
    pg60At := none, testing := false, testAt := none, met := none, insAt := none, joinAt := none, joinLooked := false }
  s.swapDone.syncDomains

/-- A cause that is not latched (8, 9, 0xA) turns the path off (R264, R271). -/
def State.softOff (s : State) (k cause : Nat) : State :=
  let s := s.setChan k { s.chan k with cause := cause }
  if (s.chan k).request then (s.gateOff k .waiting).wait k .recovery else s.gateOff k .off

/-- SPC_SLOT_STAT, SPC_SLOT_MEAS and SPC_VIN as they read now (R277). -/
def State.slotStatWord (s : State) (k : Nat) : Nat :=
  let c := s.chan k
  let left := match c.retryAt with | some t => min 16383 (cdiv (t - s.now) (sec 1)) | none => 0
  c.st.code * 0x10000000 + b2n c.present * 0x8000000 + b2n c.raw * 0x4000000 + b2n c.pg * 0x2000000 + b2n c.joined * 0x1000000
    + (c.cause % 16) * 0x100000 + (min 15 c.repeat_) * 0x10000 + s.fld (F.SPC_SLOT_STAT_RESEAT k) * 0x8000 + s.fld (F.SPC_SLOT_STAT_REV k) * 0x4000 + left

def State.slotMeasWord (s : State) (k : Nat) : Nat := (s.chan k).vout % 65536 * 65536 + (s.chan k).iout % 65536

def State.ramps (s : State) : Nat := (s.spc.chans.filterT (fun _ c => c.st = .ramping && !c.joining)).size

def State.vinWord (s : State) : Nat := s.spc.dieC % 256 * 0x1000000 + s.ramps * 0x10000 + s.spc.vin % 65536

/-- A latched cause 1–7 (R273): recorded, REPEAT counted, the retry timer started. -/
def State.latch (s : State) (k cause : Nat) : State :=
  let s := s.gateOff k .fault
  let c := s.chan k
  let r := min 15 (c.repeat_ + 1)
  let s := s.setChan k { c with cause := cause, repeat_ := r, retryAt := some (s.now + sec (min 320 (10 * 2 ^ (r - 1)))) }
  let s := s.bump (F.SPC_SLOT_CNT_TRIPS k) 1
  s.raise (0x100 + k) 2 (0x08000000 + cause) (le 4 (s.slotStatWord k) ++ le 4 (s.slotMeasWord k) ++ le 4 s.vinWord)

/-- A fault of the die as a whole (R273). -/
def State.dieFault (s : State) : State := s.raise 0x118 3 0x08000010 (le 4 0 ++ le 4 0 ++ le 4 s.vinWord)

/-- Raises the power request of a slot (R263, R275). -/
def State.raiseReq (s : State) (k : Nat) (auto : Bool) : State :=
  let c := s.chan k
  if c.request || 24 ≤ k then s
  else
    let s := s.setChan k { c with request := true, auto := auto }
    if c.st = .off then s.wait k (if c.seated then .startUp else .normal) else s

/-- Drops it, and turns the path off. With no request a slot test runs on. -/
def State.dropReq (s : State) (k : Nat) : State :=
  if !(s.chan k).request && (s.chan k).testing then s else
  let s := s.setChan k { s.chan k with request := false, auto := false }
  let st := (s.chan k).st
  if st = .fault || st = .disabled then s else s.gateOff k .off

/-- Both models are below the resume level (R272). -/
def State.cool (s : State) (k : Nat) : Bool :=
  s.tjHs (s.chan k) ≤ s.resumeC * 1000000000 && s.tjRb (s.chan k) ≤ s.resumeC * 1000000000

/-- No other waiting channel that would ramp has an earlier turn (R265). -/
def State.myTurn (s : State) (k : Nat) : Bool :=
  match (s.chan k).met with
  | none => false
  | some n => !(s.spc.chans.entries.any (fun e => e.1 ≠ k && e.2.st = .waiting && s.cool e.1 && e.2.vout < 500 && e.2.joinAt.isNone
      && (match e.2.met with | some m => decide (m < n) | none => false)))

/-- The channel leaves Waiting: a ramp, or a join of an output that is up (R266, R268). -/
def State.ramp (s : State) (k : Nat) (join : Bool) : State :=
  let c := s.chan k
  s.setChan k { c with
    st := .ramping, joining := join, joined := join, met := none, joinAt := none, joinLooked := false, limitUs := 0
    seated := false, rampMaxAt := some (s.now + msec s.rampMaxMs) }

/-- What a channel whose conditions are met does on what it sees of VOUT (R268). -/
def State.look (s : State) (k vout : Nat) : State :=
  let s := s.setChan k { s.chan k with vout := vout }
  if 10500 ≤ vout then s.ramp k true
  else if vout < 500 then
    if s.posB && !(s.chan k).joinLooked then
      s.setChan k { s.chan k with joinAt := some (s.now + msec s.joinWaitMs) }
    else if s.ramps < s.rampPar && s.myTurn k then s.ramp k false
    else s
  else s.setChan k { s.chan k with joinAt := none }

/-- One pole of a model over 10 µs: `x` is where it tends to, `k` its time constant in steps. -/
def pole (d x k : Nat) : Nat := if d ≤ x then d + (x - d) / k else d - (d - x) / k

/-- The models of a channel over one 10 µs step (R272). -/
def State.stepModel (s : State) (k vin vout i : Nat) : Chan :=
  let c := s.chan k
  let on := c.driving
  let rd := s.fld F.SPC_MODEL2_RDSON
  let ph := if on then max (i * (vin - vout)) (i * i * rd / 100000) else 0
  let pr := if on then i * i * rd / 100000 else 0
  let r1 := s.fld F.SPC_MODEL0_R1 * 10
  let r2 := s.fld F.SPC_MODEL1_R2 * 100
  let k1 := 10 * max 1 (s.fld F.SPC_MODEL0_TAU1)
  let k2 := 100 * max 1 (s.fld F.SPC_MODEL1_TAU2)
  { c with d1hs := pole c.d1hs (ph * r1) k1, d2hs := pole c.d2hs (ph * r2) k2
           d1rb := pole c.d1rb (pr * r1) k1, d2rb := pole c.d2rb (pr * r2) k2, vout := vout, iout := if on then i else 0 }

end Sys2Proof.Machine
end

