-- ==== Sys2Proof/Machine/BedUnit.lean ====
section
/-! DEFINITION. Beds as a unit: geometry (R80), the dirty-Band bitmap (R91), placement (R84), drive commands and their
announcements (R98, R101, R222), folding (R87, R88), checkpoints (R89, R90), member failure and bed states (R98–R113). -/

namespace Sys2Proof.Machine

/-! ### Geometry (R73, R80) -/

/-- Band height in sectors. -/
def Bed.h (b : Bed) : Nat := b.hMib * 256

/-- First sector of a member's data area. -/
def Bed.base (b : Bed) (m : Nat) : Nat := if m < 2 then 262144 * (1 + b.e) else 262144

/-- Band of a member's sector. -/
def Bed.bandOf (b : Bed) (m sector : Nat) : Nat := (sector - b.base m) / b.h

def Bed.dataMembers (b : Bed) : List Nat := (List.range b.n).drop 2

def Bed.band (b : Bed) (k : Nat) : Band := b.bands.getD k Band.init

def Bed.setBand (b : Bed) (k : Nat) (x : Band) : Bed := { b with bands := b.bands.put k x }

/-- The Band table page of Band `k` has changed (R79). -/
def Bed.touchBand (b : Bed) (k : Nat) : Bed := { b with tblDirty := (k / 512 :: b.tblDirty).eraseDups }

def Bed.memberSt (b : Bed) (m : Nat) : Nat := match b.members.get? m with | some x => x.st | none => 1

def Bed.modMember (b : Bed) (m : Nat) (f : Member → Member) : Bed := { b with members := b.members.modify m f }

/-- The member's range of Band `k` is missing (R102). -/
def Bed.missing (b : Bed) (m k : Nat) : Bool :=
  match b.memberSt m with
  | 0 => false
  | 2 => !(match b.rebuild with | some r => r.member = m && decide (k < r.cursor) | none => false)
  | _ => true

def Bed.missingAt (b : Bed) (k : Nat) : List Nat := (List.range b.n).filter (fun m => b.missing m k)

/-- Members failed, removed or rebuilding. -/
def Bed.downCount (b : Bed) : Nat := ((List.range b.n).filter (fun m => b.memberSt m ≠ 0)).length

/-- Bands per Bolt, and the Bands of a Bolt row (R80). -/
def Bed.perBolt (b : Bed) : Nat := 262144 / b.h
def Bed.rowBands (b : Bed) (row : Nat) : List Nat := (List.range b.perBolt).map (fun i => row * b.perBolt + i)
def Bed.rows (b : Bed) : Nat := b.bandCount / max 1 b.perBolt
def Bed.rowFree (b : Bed) (row : Nat) : Bool := (b.rowBands row).all (fun k => (b.band k).st = 0 && !(b.band k).retired)

/-- Band height, extension and Bolt count a creation gives (R80): `none` where it is refused. -/
def bedBands (hMib e : Nat) (caps : List Nat) : Option Nat :=
  let h := hMib * 256
  let pq := (caps.take 2).map (fun c => c - 262144 * (1 + e))
  let d := (caps.drop 2).map (fun c => c - 262144)
  let least := (pq ++ d).foldl min (2 ^ 36)
  let bolts := least / 262144
  let k := bolts * (262144 / max 1 h)
  if bolts < 4 || 2 ^ 24 < k then none else some k

def State.dirtyBands (s : State) (b : Nat) : List Nat :=
  match s.bed? b with
  | some x => (List.range x.bandCount).filter (fun k => s.dirty b k)
  | none => []

/-- The Band has valid parity (R103). -/
def State.parityValid (s : State) (b k : Nat) (x : Bed) : Bool :=
  (x.band k).st = 0 || !s.dirty b k || (x.owned && (x.band k).acc.isSome)

/-! ### Drive commands (R86, R98, R101) -/

def Bed.slotOf (b : Bed) (m : Nat) : Nat := match b.members.get? m with | some x => x.slot | none => 255

/-- The drive of a member takes commands: ready on our link, or reached through the peer. -/
def State.reachable (s : State) (x : Bed) (m : Nat) : Bool :=
  match x.members.get? m with
  | some y => (y.st = 0 || y.st = 2) && ((s.port y.slot).ready || (y.single && s.gus.link))
  | none => false

/-- Asks the standby to raise or drop slot requests as the owner does (R262, R220 kind 0x0E). -/
def State.slotRequest (s : State) (b raise_ drop : Nat) : State :=
  if s.copied b then s.gusControl b 0x0E (be 4 raise_ ++ be 4 drop) else s

/-- JOIN_REQUEST of a bed that is to be joined, once no registration of this controller's key is under way on its members
(R220, R242). -/
def State.joinAsk (s : State) (b : Nat) : State :=
  match s.bed? b with
  | none => s
  | some x =>
    let busy := s.drv.cmds.vals.any (fun c => c.bed = b && c.op == .register && c.st = 2 && (s.port c.slot).ready)
    if !x.standby.joining || x.standby.requested || busy then s
    else (s.setBed b { x with standby := { x.standby with requested := true } }).gusControl b 1
      (be 8 s.fuses.serial ++ (match s.store with | some k => k.kcv | none => zeros 4))

/-- Asks for the power of a member that is needed; its 20 s limit starts (R86). A missing member is never woken (R107), and the
limit of a single-path one is not judged on the link that it has lost (R101). -/
def State.wakeMember (s : State) (b m : Nat) : State :=
  match s.bed? b with
  | none => s
  | some x =>
    if x.memberSt m ≠ 0 && x.memberSt m ≠ 2 then s
    else
      let s := s.setBed b (x.modMember m (fun y => { y with idleAt := none, offPending := false }))
      let k := x.slotOf m
      if 24 ≤ k || (s.port k).ready then s
      else
        let s := if (s.chan k).request then s else (s.raiseReq k false).slotRequest b (2 ^ k) 0
        let p := s.port k
        let peers := (match x.members.get? m with | some y => y.single | none => false) && s.gus.link
        if peers || p.readyAt.isSome then s else s.setPort k { p with readyAt := some (s.now + sec 20), resetting := false }

/-- A write notice's kind for what a write carries (R222). -/
def DrivePurpose.kind : DrivePurpose → Nat
  | .record _ => 1
  | .parityWrite _ => 4
  | .metaWrite k => k
  | .rebuild => 4
  | .rebuildFlush => 4
  | .resync _ => 4
  | .repair => 0x0B
  | .dealloc => 4
  | .reserve => 4
  | .proxy _ => 4
  | .control => 4

/-- Enters a drive command, not yet issued, under the next number. -/
def State.newDrive (s : State) (b m : Nat) (op : DriveOp) (sector count : Nat) (data : Bytes) (why : DrivePurpose) : State :=
  match s.bed? b with
  | none => s
  | some x =>
    let slot := x.slotOf m
    let viaPeer := (match x.members.get? m with | some y => y.single | none => false) && s.gus.link
    let id := s.drv.nextId
    let c : DriveCmd :=
      { op := op, bed := b, member := m, slot := slot, sector := sector, count := count, data := data, purpose := why
        retried := false, deadline := s.now + sec 8, proxied := viaPeer, st := 0 }
    { s with drv := { s.drv with cmds := s.drv.cmds.put id c, nextId := id + 1 } }

/-- The bed is self-fenced: no drive command of its own goes to its members (R233). -/
def State.fencedBed (s : State) (b : Nat) : Bool := match s.bed? b with | some x => x.fenced | none => false

def DrivePurpose.forPeer : DrivePurpose → Bool
  | .proxy _ => true
  | _ => false

/-- A drive command of a fenced bed waits; so does one for a drive that is not ready, which is powered, and one into a range
the former owner may still be writing (R86, R233, R234). -/
def State.driveWaits (s : State) (c : DriveCmd) : Bool :=
  (s.fencedBed c.bed && !DrivePurpose.forPeer c.purpose && !(c.op == DriveOp.report) && !(c.op == DriveOp.preempt))
    || (!c.proxied && !(s.port c.slot).ready)
    || (c.op == DriveOp.write && (match s.bed? c.bed with
        | some x => x.inFlight.any (fun r => r.1 = c.member && decide (c.sector < r.2.1 + r.2.2) && decide (r.2.1 < c.sector + c.count))
        | none => false))

/-- From step 2 of the power-fail sequence on no new member write and no command to or for the peer is issued (R297). -/
def State.driveStopped (s : State) (c : DriveCmd) : Bool :=
  s.cmd.stopped && (c.op == DriveOp.write || c.proxied || (match c.purpose with | .proxy _ => true | _ => false))

/-- Issues a drive command on the part's own link or, single-path, through the peer (R101). -/
def State.issueDrive (s : State) (id : Nat) : State :=
  match s.drv.cmds.get? id with
  | none => s
  | some c =>
    if s.driveWaits c || s.driveStopped c then
      let s := { s with drv := { s.drv with cmds := s.drv.cmds.put id { c with st := 1 } } }
      if s.fencedBed c.bed || s.cmd.stopped then s else s.wakeMember c.bed c.member
    else
    let s := { s with drv := { s.drv with cmds := s.drv.cmds.put id { c with deadline := s.now + sec 8, st := 2 } } }
    let s := s.modBed c.bed (fun x => x.modMember c.member (fun y => { y with idleAt := none }))
    let s := (s.pmuEvent 0x200 c.slot 1).pmuEvent 0x201 c.slot (c.count * 4096)
    if c.proxied then s.gusSend c.bed (.proxy id c) .nothing
    else (s.bump (F.DRV_CNT_COUNT c.slot 0) 1).emit (.drive id c)

/-- Issues one drive command to a member at once. -/
def State.driveCmd (s : State) (b m : Nat) (op : DriveOp) (sector count : Nat) (data : Bytes) (why : DrivePurpose) : State :=
  let id := s.drv.nextId
  (s.newDrive b m op sector count data why).issueDrive id

/-- A write of other than a record is announced by a write notice, and issued once the notice is delivered (R222). -/
def State.announcedWrite (s : State) (b m sector : Nat) (data : Bytes) (why : DrivePurpose) : State :=
  let count := data.length / 4096
  let gen := match why, s.bed? b with
    | .repair, some x => (x.band (x.bandOf m sector)).gen
    | _, _ => 0
  let id := s.drv.nextId
  let s := s.newDrive b m .write sector count data why
  if s.copied b then s.gusSend b (.writeNotice ⟨b, m, why.kind, sector, count, gen, 0, 0, 0, false⟩) (.drive id)
  else s.issueDrive id

/-- Issues the writes of staged records whose announcement has been delivered; the dirty bit is set first (R91, R222). -/
def State.issueStaged (s : State) (b : Nat) : State :=
  match s.bed? b with
  | none => s
  | some x =>
    x.staged.foldl (fun s r =>
      match s.bed? b with
      | none => s
      | some y =>
        if r.issued || r.mirror.isSome || y.memberSt r.member ≠ 0 || y.fenced then s
        else if !s.reachable y r.member then s.wakeMember b r.member
        else
          let s := s.setDirty b r.band true
          let s := s.driveCmd b r.member .write r.sector (r.bytes.length / 4096) r.bytes (.record r.cmd)
          let s := s.mod r.cmd (fun q => { q with work := { q.work with begun := true } })
          s.modBed b (fun z =>
            { z with staged := z.staged.map (fun q => if q.cmd = r.cmd && q.member = r.member && q.sector = r.sector then { q with issued := true } else q)
                     bands := z.bands.modify r.band (fun k => { k with sinceSnap := true }) })) s

/-- Puts a sealed record into staging and mirrors it (R81, R222). -/
def State.stage (s : State) (b : Nat) (r : Staged) (cap : Cap) : State :=
  match s.bed? b with
  | none => s
  | some x =>
    let s := s.applyFld F.BED_PRESS_PCT
    let r := { r with foldAt := some (s.now + usec 50) }
    if s.copied b then
      let hd : MirrorHead :=
        ⟨b, r.member, r.kind, r.sector, r.bytes.length / 4096, (x.band r.band).gen, cap.assoc, cap.qid, cap.cid, r.last⟩
      let q := s.gus.txSeq + 1
      let s := s.setBed b { x with staged := x.staged ++ [{ r with mirror := some q, mirId := q }] }
      s.gusSend b (.recordMirror hd r.bytes) (.stagedWrite b)
    else (s.setBed b { x with staged := x.staged ++ [r] }).issueStaged b

def State.intervalS (s : State) (b : Nat) : Nat := clamp 60 3600 (s.fld (F.BED_CKPT_INTERVAL_S b))
def State.idleS (s : State) (b : Nat) : Nat := max 5 (s.fld (F.BED_CKPT_IDLE_S b))

def upSt (st : Nat) : Bool := st = 0 || st = 2
def downSt (st : Nat) : Bool := st = 1 || st = 3

/-- Asks both slot paths of a member to switch off (R99 step 5): ours, and the peer's through a slot request. -/
def State.memberOff (s : State) (b slot : Nat) : State :=
  let s := if slot < 24 then s.dropReq slot else s
  s.slotRequest b 0 (2 ^ slot)

/-- The last command of a member has ended: its idle time begins (R86), or it is switched off where that is due (R113). -/
def State.noteIdle (s : State) (b m : Nat) : State :=
  if s.drv.cmds.vals.any (fun c => c.bed = b && c.member = m) then s
  else
    let due := match (s.bed? b).bind (fun x => x.members.get? m) with | some y => y.offPending | none => false
    if due then
      State.memberOff (s.modBed b (fun x => x.modMember m (fun y => { y with offPending := false, idleAt := none }))) b
        (match s.bed? b with | some x => x.slotOf m | none => 255)
    else
      let t := s.now + sec (s.idleS b)
      s.modBed b (fun x => x.modMember m (fun y => if upSt y.st then { y with idleAt := some t } else y))

/-- A write needs the fill set powered (R86). -/
def State.wakeFill (s : State) (b : Nat) : State :=
  match s.bed? b with
  | none => s
  | some x => x.fill.foldl (fun s m => if s.reachable x m then s.noteIdle b m else s.wakeMember b m) s

/-! ### Placement (R84, R85) -/

/-- Active data members that are not full, by append offset and index. -/
def Bed.byAppend (b : Bed) : List (Nat × Nat) :=
  let l := (b.members.entries.filter (fun e => 2 ≤ e.1 && e.2.st = 0 && !e.2.full)).map (fun e => (e.2.append, e.1))
  sortBy (fun x y => decide (x.1 < y.1) || (x.1 = y.1 && decide (x.2 ≤ y.2))) l

/-- W: 1 to the number of active data members (R84, R97). -/
def State.fillWidth (s : State) (b : Nat) (x : Bed) : Nat :=
  let act := (x.members.entries.filter (fun e => 2 ≤ e.1 && e.2.st = 0)).length
  min act (max 1 (s.fld (F.BED_CFG_FILL_WIDTH b)))

/-- Brings the fill set to its width: the highest append offsets leave, the lowest join (R84 rule 6). -/
def State.fixFill (s : State) (b : Nat) : State :=
  let s := s.applyFld (F.BED_CFG_FILL_WIDTH b)
  match s.bed? b with
  | none => s
  | some x =>
    let w := s.fillWidth b x
    let keep := x.fill.filter (fun m => x.memberSt m = 0 && !(match x.members.get? m with | some y => y.full | none => true))
    let order := x.byAppend.map (·.2)
    let inSet := order.filter (fun m => keep.contains m)
    let f := if w < inSet.length then inSet.take w
      else inSet ++ (order.filter (fun m => !keep.contains m)).take (w - inSet.length)
    s.setBed b { x with fill := f }

/-- Lowest-numbered Bolt of a member whose row is Empty (R84 rules 3 and 4): not one that holds records of the member which
have still to be folded, nor the one it has just filled. -/
def Bed.freeBolt (b : Bed) (m now : Nat) : Option Nat :=
  (List.range b.rows).find? (fun r => b.rowFree r && r ≠ now && !b.staged.any (fun q => q.member = m && q.band / max 1 b.perBolt = r))

/-- The fill member of the lowest append offset (R84 rule 1). -/
def Bed.nextFill (b : Bed) : Option Nat :=
  let l := b.byAppend.map (·.2)
  match l.find? (fun m => b.fill.contains m) with
  | some m => some m
  | none => l.head?

/-- The current Bolt `row` of a member is full: the member takes its lowest-numbered free Bolt, or has none and is full (R84
rules 3 and 5). It leaves the fill set, and the active data member with the lowest append offset, itself counted, joins. -/
def Bed.boltFull (b : Bed) (m row : Nat) : Bed :=
  let was := b.fill.contains m
  let b := match b.freeBolt m row with
    | some r => b.modMember m (fun y => { y with append := r * 262144 })
    | none => b.modMember m (fun y => { y with full := true })
  if !was then b
  else
    let rest := b.fill.filter (· ≠ m)
    { b with fill := rest ++ ((b.byAppend.map (·.2)).find? (fun i => !rest.contains i)).toList }

/-- Moves a member's append point to where its next record of `count` sectors starts: a record never spans a Band (R81), and a
Band end may be the Bolt's end (R84 rule 3). -/
def Bed.makeRoom (b : Bed) (m count : Nat) : Bed :=
  match b.members.get? m with
  | none => b
  | some y =>
    if y.full then b
    else
      let o := if b.h < y.append % b.h + count then (y.append / b.h + 1) * b.h else y.append
      if o / 262144 = y.append / 262144 then b.modMember m (fun y => { y with append := o }) else b.boltFull m (y.append / 262144)

/-- A place of `count` sectors on member `m`: its data-area offset, and the bed with the append point moved on. -/
def Bed.alloc (b : Bed) (m count : Nat) : Option Nat × Bed :=
  let b := b.makeRoom m count
  match b.members.get? m with
  | none => (none, b)
  | some y =>
    if y.full then (none, b)
    else
      let next := y.append + count
      let b := b.modMember m (fun y => { y with append := next })
      (some y.append, if next % 262144 = 0 then b.boltFull m (y.append / 262144) else b)

/-- The first of some members that has room: the member, the offset and the bed with its append point moved on. A write finds
no space only where no data member has any (R84 rule 5). -/
def Bed.allocOn (b : Bed) (count : Nat) : List Nat → Option (Nat × Nat × Bed)
  | [] => none
  | m :: ms =>
    match b.alloc m count with
    | (some o, x) => some (m, o, x)
    | (none, x) => x.allocOn count ms

/-- The member of the next Bolt-sized piece of a spilled value: the next fill member in placement order, which gives it a whole
Bolt and leaves the rest of the one it is in unwritten (R85; assumption 65). -/
def Bed.nextPiece (b : Bed) (m : Nat) : Nat × Bed :=
  let l := (b.byAppend.map (·.2)).filter b.fill.contains
  let j := ((l.find? (· ≠ m)).getD (l.headD m))
  match b.members.get? j with
  | none => (j, b)
  | some y =>
    if y.append % 262144 = 0 then (j, b)
    else match b.freeBolt j (y.append / 262144) with
      | some r => (j, b.modMember j (fun y => { y with append := r * 262144 }))
      | none => (j, b)

/-! ### Folding (R87, R88, R223) -/

/-- Accumulators after the record's sectors are folded in. -/
def foldSectors (m off : Nat) : List Bytes → Tab (Bytes × Bytes) → Tab (Bytes × Bytes)
  | [], t => t
  | d :: ds, t =>
    let (p, q) := t.getD off (zeros 4096, zeros 4096)
    foldSectors m (off + 1) ds (t.put off (fitTo 4096 (Config.seamAdd p (Config.seamP m d)), fitTo 4096 (Config.seamAdd q (Config.seamQ m d))))

/-- Folds a record into a Band: accumulators, digest and last fold (R87, R223). -/
def Bed.foldInto (b : Bed) (m sector : Nat) (bytes : Bytes) (no : Nat) : Bed :=
  let k := b.bandOf m sector
  let x := b.band k
  let off := (sector - b.base m) % b.h
  let acc := match x.acc with | some t => t | none => .empty
  b.setBand k { x with
    acc := some (foldSectors m off (chunks 4096 bytes) acc), lastFold := max x.lastFold no
    digCount := (x.digCount + 1) % 2 ^ 32, digSum := (x.digSum + crc32c bytes) % 2 ^ 32 }

def Bed.openCount (b : Bed) : Nat := (b.bands.entries.filter (fun e => e.2.st = 1)).length

/-- The open Band limit (R88). -/
def State.openMax (s : State) (b : Nat) (x : Bed) : Nat :=
  max (clamp 8 128 (s.fld (F.BED_CFG_OPEN_MAX b))) (2 * s.fillWidth b x)

/-- Notes a Band's state in the next tick delta (R226). -/
def State.bandDelta (s : State) (b k : Nat) : State :=
  match s.bed? b with
  | some x => s.delta b (.bandState k (x.band k).gen (x.band k).st)
  | none => s

/-! ### Cistern (R65, R72, R88) -/

/-- Index pages changed since the last checkpoint that completed: pinned (R65). -/
def Bed.pinnedPages (b : Bed) : List Nat := (b.pinned ++ b.ckpts.flatMap (·.idx)).eraseDups

/-- Every Open Band of a bed. -/
def Bed.openBands (b : Bed) : List Nat := (b.bands.entries.filter (fun e => e.2.st = 1)).map (·.1)

/-- Bytes of staging, and of the accumulators of the Open Bands that `p` counts. -/
def State.stagingUsed (s : State) : Nat := sumN (s.beds.vals.map (fun x => sumN (x.staged.map (fun r => r.bytes.length))))
def State.accsUsed (s : State) (p : Bed → Nat → Bool) : Nat :=
  sumN (s.beds.vals.map (fun x => (x.openBands.filter (p x)).length * (2 * x.h * 4096)))

/-- Bytes in Cistern that R88 counts: staging, accumulators of Open Bands not being closed, pinned index pages. -/
def State.cisternUsed (s : State) : Nat :=
  s.stagingUsed + s.accsUsed (fun x k => !((x.ckpts.filter (·.free)).flatMap (·.bands)).contains k)
    + sumN (s.beds.vals.map (fun x => x.pinnedPages.length * 4096))

/-- BED_PRESS.PCT of the installed Cistern is exceeded (R88, R97). -/
def State.pressed (s : State) : Bool :=
  decide (s.cisternBytes s.chansIn * clamp 50 95 (s.fld F.BED_PRESS_PCT) < s.cisternUsed * 100)

/-- Pages that the one index cache of all beds holds (R65, R72): IDX_CACHE GiB, and no more than the installed Cistern less
staging and accumulators. -/
def State.idxPages (s : State) : Nat :=
  min (max 1 (s.fld F.OBJ_CFG_IDX_CACHE) * 262144) ((s.cisternBytes s.chansIn - s.stagingUsed - s.accsUsed (fun _ _ => true)) / 4096)

/-- Releases unpinned pages beyond the cache: the bed that has just read one keeps its own first, each bed those read last
(assumption 65). -/
def State.trimCache (s : State) (b : Nat) : State :=
  let room := s.idxPages - sumN (s.beds.vals.map (fun x => x.pinnedPages.length))
  ((b :: s.beds.keys.filter (· ≠ b)).foldl (fun (acc : State × Nat) c =>
    match acc.1.bed? c with
    | some x => (acc.1.setBed c { x with cached := x.cached.take acc.2 }, acc.2 - x.cached.length)
    | none => acc) (s, room)).1

/-! ### Checkpoints (R89, R90) -/

/-- Commands with a commit, delete, hold or map record that is folded and whose delta has not applied (R90 step 3). -/
def State.foldedOpen (s : State) (b : Nat) : List Nat :=
  (s.cmd.cmds.filterT (fun _ r => s.bedOf r.cap = some b && r.phase = .working && r.work.commitIssued && r.work.folded)).keys

/-- Starts a checkpoint of the given Bands: snapshot S, folding into them stops, their accumulators go to P and Q
(R90 steps 1 and 2). Bands already under a checkpoint absorb it. -/
def State.startCkpt (s : State) (b : Nat) (ks : List Nat) (after : Nat) (free : Bool) : State :=
  match s.bed? b with
  | none => s
  | some x =>
    let busy := x.ckpts.flatMap (·.bands)
    let ks := ks.filter (fun k => !busy.contains k && (x.band k).st = 1 && !s.deferred 5 (some b) k)
    let (s, v, _) := if ks.isEmpty || x.st = 4 then (s, 2, 0) else s.arrivalOf 5 (some b) (ks.headD 0) false none
    if v = 1 then (ks.drop 1).foldl (fun s k => s.deferAct 5 (some b) k) s
    else if v ≠ 0 && v ≠ 3 then s
    else
      let c : Ckpt := { bands := ks, snap := x.fold, phase := 2, after := after, free := free, waits := s.foldedOpen b, idx := [], maps := [], tbls := [], time := 0 }
      let x := { x with ckpts := x.ckpts ++ [c] }
      let x := ks.foldl (fun x k => x.setBand k { x.band k with
        stopped := true, snap := x.fold, sinceSnap := false, lateFold := false, closeWanted := (x.band k).closeWanted && !free }) x
      let s := s.setBed b x
      let s := [0, 1].foldl (fun s m => if x.memberSt m = 0 || x.memberSt m = 2 then s.wakeMember b m else s) s
      ks.foldl (fun s k =>
        match (x.band k).acc with
        | none => s
        | some t => t.entries.foldl (fun s e =>
            [0, 1].foldl (fun s m =>
              if x.memberSt m = 0 || x.memberSt m = 2 then
                s.announcedWrite b m (x.base m + k * x.h + e.1) (if m = 0 then e.2.1 else e.2.2) (.parityWrite k)
              else s) s) s) s

/-- A checkpoint of every Open Band; where none is Open it writes the changed pages, bitmap and superblocks alone (R95 step 3). -/
def State.startPages (s : State) (b : Nat) : State :=
  match s.bed? b with
  | none => s
  | some x =>
    if !x.openBands.isEmpty then s.startCkpt b x.openBands 1 false
    else if !x.ckpts.isEmpty || x.st = 4 || s.deferred 5 (some b) 0 then s
    else
      let (s, v, _) := s.arrivalOf 5 (some b) 0 false none
      if v ≠ 0 && v ≠ 3 then s
      else
        let c : Ckpt := { bands := [], snap := x.fold, phase := 2, after := 1, free := false, waits := s.foldedOpen b, idx := [], maps := [], tbls := [], time := 0 }
        let s := s.modBed b (fun x => { x with ckpts := x.ckpts ++ [c] })
        [0, 1].foldl (fun s m => if x.memberSt m = 0 || x.memberSt m = 2 then s.wakeMember b m else s) s

/-- The Open Band with the oldest last fold among those with no record waiting to fold (R88). -/
def Bed.oldestOpen (b : Bed) : Option Nat :=
  let wait := (b.staged.filter (fun r => !r.folded)).map (·.band)
  let l := b.bands.entries.filter (fun e => e.2.st = 1 && !e.2.stopped && !wait.contains e.1)
  (l.foldl (fun m e => match m with | none => some e | some f => if e.2.lastFold < f.2.lastFold then some e else some f) none).map (·.1)

/-- A forced close of Bands (R88). -/
def State.forceClose (s : State) (b : Nat) (ks : List Nat) : State := s.startCkpt b ks 2 true

/-! ### Starting and resuming a rebuild (R108, R109) -/

/-- Queues a member for its rebuild: members rebuild in the order in which they failed (R108). -/
def Bed.enqueue (b : Bed) (m : Nat) : Bed :=
  let at_ := fun (i : Nat) => match b.members.get? i with | some y => y.failedAt | none => 0
  { b with queued := sortBy (fun i j => decide (at_ i ≤ at_ j)) (b.queued.filter (· ≠ m) ++ [m]) }

/-- The first queued member that has its replacement. -/
def Bed.nextQueued (b : Bed) : Option Nat := b.queued.find? (fun m => b.memberSt m = 2)

/-- Powers every member of the bed that is present (R86, R109). -/
def State.wakeAll (s : State) (b : Nat) : State :=
  match s.bed? b with
  | none => s
  | some x => (List.range x.n).foldl (fun s i => s.wakeMember b i) s

/-- Starts the rebuild of the first queued member that has been replaced, where none runs (R108); every present member is
powered (R109). -/
def State.startRebuild (s : State) (b : Nat) : State :=
  match s.bed? b with
  | none => s
  | some x =>
    match x.rebuild, x.nextQueued with
    | none, some m =>
      let ms := x.queued.filter (· ≠ m)
      let s := s.setBed b { x with
        queued := ms
        rebuild := some { member := m, cursor := 0, slice := 0, paused := s.shelf.st ≠ .awake, pauseWanted := false, started := s.dev, flushing := false, metaDone := false, nextAt := none } }
      (s.wakeAll b).delta b (.cursor m 0 (ms.headD 0xFF))
    | _, _ => s

/-- A rebuild passes the arbiter and starts where none runs (R108, R109). -/
def State.tryRebuild (s : State) (b : Nat) : State :=
  match s.bed? b with
  | none => s
  | some x =>
    if x.rebuild.isSome || x.nextQueued.isNone || x.st = 3 || !x.owned || s.mnt.acts.any (fun a => a.code = 3 && a.bed = some b) then s
    else
      let (s, v, _) := s.arrivalOf 3 (some b) (x.nextQueued.getD 0) false none
      if v = 0 || v = 3 then s.startRebuild b else s

/-- A paused rebuild goes on, or a queued one starts (R109). -/
def State.resumeRebuild (s : State) (b : Nat) : State :=
  match s.bed? b with
  | none => s
  | some x =>
    match x.rebuild with
    | some r =>
      let (s, v, _) := s.arrivalOf 3 (some b) r.member false none
      if v = 0 || v = 3 then State.wakeAll (s.modBed b (fun y => { y with rebuild := some { r with paused := false, pauseWanted := false } })) b else s
    | none => s.tryRebuild b

/-! ### Member failure and bed states (R98–R102, R112, R113) -/

/-- Context of group 0x50 (R350). -/
def bedCtx (b m slot k1 k2 sector serial : Nat) : Bytes :=
  [BitVec.ofNat 8 b, BitVec.ofNat 8 m, BitVec.ofNat 8 slot, 0] ++ le 4 k1 ++ le 4 k2 ++ le 8 sector ++ le 8 serial

/-- A bed event, source 0xA30 + b or 0xA10 + slot (R410). -/
def State.bedEvent (s : State) (src sev detail : Nat) (ctx : Bytes) : State := s.raise src sev (0x50000000 + detail) ctx

/-- A bed description sector (R78). -/
def descBytes (x : Bed) : Bytes :=
  let ent := fun (m : Nat) => match x.members.get? m with
    | some y => [BitVec.ofNat 8 y.slot, BitVec.ofNat 8 m, BitVec.ofNat 8 (min m 2), BitVec.ofNat 8 y.st] ++ zeros 4 ++ le 8 y.sectors
        ++ fitTo 20 y.serial ++ le 8 y.eui ++ zeros 20
    | none => zeros 64
  let w := le 2 0x4E42 ++ [1, BitVec.ofNat 8 x.n] ++ le 4 x.hMib ++ le 4 x.e ++ le 4 x.eIdx ++ le 4 x.bandCount
    ++ [BitVec.ofNat 8 x.fillW0, BitVec.ofNat 8 x.openMax0, BitVec.ofNat 8 x.spill0, BitVec.ofNat 8 x.st] ++ le 8 x.bedId
    ++ le 8 x.created ++ le 8 x.descGen ++ zeros 16 ++ ((List.range 24).map ent).flatten
  let w := fitTo 4092 w
  w ++ le 4 (crc32c w)

/-- Writes the bed description to every powered member, under the next generation (R75, R99 step 3). -/
def State.putDesc (s : State) (b : Nat) : State :=
  match s.bed? b with
  | none => s
  | some x =>
    let l := (List.range x.n).filter (s.reachable x)
    let x := { x with descGen := x.descGen + 1, members := x.members.mapV (fun m y =>
      if l.contains m then { y with descGen := x.descGen + 1 } else y) }
    l.foldl (fun s m => (s.announcedWrite b m 8 (descBytes x) (.metaWrite 10)).announcedWrite b m 16 (descBytes x) (.metaWrite 10)) (s.setBed b x)

/-- Bed states from best to worst: a bed re-admitted read-only is better off than an offline one (R113, R114). -/
def bedRank (st : Nat) : Nat := if st = 3 then 4 else if st = 4 then 3 else st

/-- Changes the bed state, with its event (R102, R410): severity 0 where it improves, 3 where it worsens. The description of a
bed that goes offline is written later (R113 step 4). -/
def State.bedState (s : State) (b st : Nat) : State :=
  match s.bed? b with
  | none => s
  | some x =>
    if x.st = st then s
    else
      let s := s.setBed b { x with st := st }
      let s := s.bedEvent (0xA30 + b) (if bedRank st < bedRank x.st then 0 else 3) (0x30 + st) (bedCtx b 0xFF 0xFF 0 0 0 0)
      (if st = 3 then s else s.putDesc b).delta b (.bedState st)

/-- Adds lost ranges to the list, written through (R112). -/
def State.addLost (s : State) (b : Nat) (rs : List LostRange) : State :=
  rs.foldl (fun s r =>
    let d := s.bedRec b
    let s := if 4096 ≤ d.lost.length then s.commitOr { s.cfg.data with beds := s.cfg.data.beds.put b { d with full := true } }
      else s.commitOr { s.cfg.data with beds := s.cfg.data.beds.put b { d with lost := d.lost ++ [r] } }
    (s.bedEvent (0xA30 + b) 3 (0x40 + r.cause) (bedCtx b 0xFF 0xFF r.first r.last 0 0)).delta b (.lostRange r)) s

/-- Commands of a bed, by arrival. -/
def State.cmdsOf (s : State) (b : Nat) : List Nat :=
  (s.cmd.cmds.filterT (fun _ r => s.bedOf r.cap = some b)).keys

/-- Steps 4 and 5 of R113, once the checkpoints of step 3 have ended: the description with state 3 is written, every rebuild
stops, and each member is switched off when its last command ends. -/
def State.settleOffline (s : State) (b : Nat) : State :=
  match s.bed? b with
  | none => s
  | some x =>
    if !x.goingOff || !x.ckpts.isEmpty || s.mnt.acts.any (fun a => a.code = 5 && a.bed = some b && a.st = 1) then s
    else
      let s := (s.setBed b { x with goingOff := false, rebuild := x.rebuild.map (fun r => { r with paused := true }) }).putDesc b
      let s := (s.modBed b (fun x => { x with members := x.members.mapV (fun _ y => { y with offPending := true }) })).actEndAny 3 (some b)
      (List.range x.n).foldl (fun s m => s.noteIdle b m) s

/-- The bed goes offline: it refuses new I/O, and every command not yet in effect ends (R113). -/
def State.offline (s : State) (b : Nat) (lost : List LostRange) : State :=
  let s := s.addLost b lost
  match s.bed? b with
  | none => s
  | some x =>
    if x.st = 3 || x.st = 4 then s
    else
      let s := (s.cmdsOf b).foldl (fun s arr =>
        match s.cmd? arr with
        | some r => if !r.isAdmin && (r.phase = .board || r.phase = .working || r.phase = .held) then s.finish arr Status.bedOffline 0 0 else s
        | none => s) s
      let s := (s.bedState b 3).startCkpt b x.openBands 2 true
      (s.modBed b (fun x => { x with goingOff := true })).settleOffline b

/-- Runs of consecutive Bands of a list that lose the same members. -/
def runsOf (f : Nat → Nat) : List Nat → List (Nat × Nat)
  | [] => []
  | k :: ks =>
    match runsOf f ks with
    | (a, z) :: t => if a = k + 1 && f a = f k then (k, z) :: t else (k, k) :: (a, z) :: t
    | [] => [(k, k)]

/-- Ranges lost once a member is missing: Bands with more missing ranges than parity covers, or with no valid parity
(R103, R113). -/
def State.lostBands (s : State) (b : Nat) (x : Bed) : List Nat × List Nat :=
  let ks := x.bands.keys.filter (fun k => (x.band k).st ≠ 0)
  (ks.filter (fun k => 2 < (x.missingAt k).length),
   ks.filter (fun k => 1 ≤ (x.missingAt k).length && (x.missingAt k).length ≤ 2 && !s.parityValid b k x))

def maskOf (l : List Nat) : Nat := l.foldl (fun m i => setBit m i true) 0

/-- The lost-range entries of some Bands, one for each run (R112). -/
def Bed.lostRuns (b : Bed) (cause : Nat) (ks : List Nat) : List LostRange :=
  (runsOf (fun k => maskOf (b.missingAt k)) ks).map (fun z => ⟨z.1, z.2, maskOf (b.missingAt z.1), cause⟩)

/-- The bed state that the member states give (R102). -/
def Bed.stateFor (b : Bed) : Nat := if b.downCount = 0 then 0 else if b.downCount = 1 then 1 else 2

/-- The bed state is judged again after a member change (R102, R103, R113). -/
def State.judgeBed (s : State) (b : Nat) : State :=
  match s.bed? b with
  | none => s
  | some x =>
    if x.st = 3 then s
    else
      let (l3, l4) := s.lostBands b x
      if x.st = 4 then
        -- a bed re-admitted read-only stays so; what was not listed is added (R114)
        let new := fun (k : Nat) => !(x.missingAt k).all (fun m => (s.bedRec b).lost.any (fun r => r.first ≤ k && k ≤ r.last && bit r.mask m))
        s.addLost b (x.lostRuns 1 (l3.filter new) ++ x.lostRuns 4 (l4.filter new))
      else if !l3.isEmpty || !l4.isEmpty || 2 < x.downCount then s.offline b (x.lostRuns 1 l3 ++ x.lostRuns 4 l4)
      else s.bedState b x.stateFor

/-- A record of a failed member stays covered by parity: its Band is force-closed at once, and the record counts as written
once that checkpoint ends (R100). -/
def State.coverStaged (s : State) (b m : Nat) : State :=
  match s.bed? b with
  | none => s
  | some x =>
    let ks := ((x.staged.filter (fun r => r.member = m && r.folded && !r.written)).map (·.band)).eraseDups
    -- a Band under a checkpoint, or waiting for one, is force-closed as soon as that ends
    let s := s.modBed b (fun x => ks.foldl (fun x k => x.setBand k { x.band k with closeWanted := true }) x)
    s.forceClose b ks

/-- A member is declared failed or removed (R98, R99). Cause as in R410: 1–9. -/
def State.memberFail (s : State) (b m cause : Nat) : State :=
  match s.bed? b with
  | none => s
  | some x =>
    match x.members.get? m with
    | none => s
    | some y =>
      if !x.owned || (y.st ≠ 0 && y.st ≠ 2) then s
      else
        let st := if cause = 6 then 3 else 1
        let was := y.st
        let x := x.modMember m (fun y => { y with st := st, failedAt := s.dev, idleAt := none, single := false, skipped := [] })
        let ended := was = 2 && (match x.rebuild with | some r => r.member = m | none => false)
        let x := { x with
          fill := x.fill.filter (· ≠ m)
          queued := x.queued.filter (· ≠ m)
          rebuild := if ended then none else x.rebuild }
        let x := if x.rebuild.isSome then x.enqueue m else x
        let s := s.setBed b x
        let s := { s with drv := { s.drv with cmds := s.drv.cmds.filterT (fun _ c => !(c.bed = b && c.member = m)) } }
        let s := s.fixFill b
        let s := s.bedEvent (0xA10 + y.slot) 3 (0x10 + cause) (bedCtx b m y.slot 0 0 0 0)
        let s := (s.putDesc b).delta b (.memberState m st)
        let s := s.judgeBed b
        let s := (s.memberOff b y.slot).ledSync
        let s := s.coverStaged b m
        if ended then (s.actEndAny 3 (some b)).tryRebuild b else s

/-- Counts a drive read command with an unrecovered error toward URE_MAX in 24 h (R98, R105). -/
def State.countUre (s : State) (b m : Nat) : State :=
  let s := s.applyFld (F.BED_RBCFG_URE_MAX b)
  match s.bed? b with
  | none => s
  | some x =>
    match x.members.get? m with
    | none => s
    | some y =>
      let s := if y.slot < 24 then s.bump (F.DRV_CNT_COUNT y.slot 2) 1 else s
      let l := (y.ures.filter (fun t => s.dev < t + sec 86400)) ++ [s.dev]
      let s := s.setBed b (x.modMember m (fun y => { y with ures := l }))
      if max 1 (s.fld (F.BED_RBCFG_URE_MAX b)) ≤ l.length then s.memberFail b m 3 else s

end Sys2Proof.Machine
end

