-- ==== Sys2Proof/Machine/OwnJobs.lean ====
section
/-! DEFINITION. The Rill and cipher jobs that the device submits itself (R119, R121–R123, R142, R151, R409): when they may run, what
they give, and what they count. Such a job runs within the step of its command and takes no time (assumption 41); where it could
not be dispatched, the command waits and is taken up again. -/

namespace Sys2Proof.Machine

/-- A job of the part's own (R123, R139, R158, R409): of Rill or of the cipher, its status, its reason or opcode, its path where
that is not the command's, its serial or object reference, tenant, NSID and epoch of its key, the bytes it takes in and gives. -/
structure OwnJob where
  rill : Bool
  status : Nat
  why : Nat
  path : Nat
  ref : Nat
  key : Nat × Nat × Nat
  input : Nat
  output : Nat
  deriving DecidableEq, Repr

/-! ### Rill -/

/-- Window code of a namespace's chunk size (R123, R128). -/
def winCode (chunk : Nat) : Nat := (min 1048576 chunk).log2 - 10

/-- The descriptor of an own job (R120): its areas lie in the device and apart. -/
def ownRill (opcode flags w expected room : Nat) (input : Bytes) : RillDesc :=
  { opcode := opcode, flags := flags, pParam := 0, winCode := w, stride := 0, inputAddr := 0, inputLen := input.length
    expected := expected, outputAddr := 0, outputLen := room, context := 0, zeroFields := 0 }

/-- Status and output of an own job: its descriptor is checked as every other is (R121). -/
def rillOwn (tables : Nat × Nat) (d : RillDesc) (input : Bytes) : Nat × Bytes :=
  if RillDesc.bad d true then (stBadParameter, []) else rillRun tables d input

/-- A decompression, or a check that writes no output (R123). -/
def rillRestore (opcode expected : Nat) (stream : Bytes) : Nat × Bytes :=
  rillOwn (0, 0) (ownRill opcode 0 0 expected (if opcode = 4 then 0 else expected) stream) stream

/-- The ingest job of one chunk: VERIFY as it is applied, and an area of the expansion bound (R122, R123, R136). -/
def State.ingestRun (s : State) (chunk : Nat) (bytes : Bytes) : Nat × Bytes :=
  rillOwn s.rillTables (ownRill 1 (b2n (s.flag F.RILL_CFG_VERIFY)) (winCode chunk) 0 (rillBound bytes.length) bytes) bytes

/-- The next Rill dispatch, which applies RILL_CFG (R139), and whether `n` own jobs on different cores may be part of it: none is
held by an activation (R138), no earlier job waits, and the cores are idle (R119). -/
def State.rillTurn (s : State) (n : Nat) : State × Bool :=
  if s.rill.holdNew then (s, false)
  else
    let t := s.coresSynced (s.applyRwl 0x500000)
    (t, t.rill.waiting.isEmpty && decide (n ≤ ((List.range 16).filter t.rillFree).length))

/-! ### The cipher -/

/-- The submission queue of a command's jobs: that of its Bobbin engine. Firmware, which serves no command, has queue 15 (R142). -/
def State.queueOf (s : State) (arr : Nat) : Nat :=
  match s.cmd? arr with
  | some r => if r.discard && r.slot.isNone then 15 else Config.bobbinEngine r.number % 16
  | none => 15

/-- The same, from the context of a job: the command is the one in its slot. -/
def State.queueBy (s : State) (by_ : Nat) : Nat :=
  match s.cmd.cmds.entries.find? (fun e => e.2.slot = some (by_ % 65536)) with
  | some e => s.queueOf e.1
  | none => 15

/-- The next cipher dispatch, which applies CPH_CFG (R158), and whether own jobs of a queue under these keys may be part of it: each
key is at hand or the key unit is idle and the cache has room, no earlier job of the queue or for a core is open, and a core is idle
(R142, R151). -/
def State.cphTurn (s : State) (q : Nat) (keys : List (Nat × Nat × Nat)) : State × Bool :=
  let t := s.coresSynced (s.applyRwl 0x580000)
  let key := fun (k : Nat × Nat × Nat) => t.keyNow.isNone || t.cph.cache.contains k || (t.cph.deriving_.isNone && (t.cacheKey k).isSome)
  (t, keys.all key && !t.cph.jobs.any (fun j => j.desc.queue = q || j.phase = 1) && (List.range 8).any t.cphFree)

/-- The key context of a command's seals (R149, R154). -/
def State.sealKey (s : State) (arr : Nat) : Nat × Nat × Nat :=
  match s.cmd? arr with
  | some r => ((match s.cfg.data.ns.get? r.nsid with | some n => n.tenant | none => 0), r.nsid, r.epoch.getD 1)
  | none => (0, 0, 0)

/-- The turn of a command's next seal. -/
def State.sealTurn (s : State) (arr : Nat) : State × Bool := s.cphTurn (s.queueOf arr) [s.sealKey arr]

/-- The turn of a command that compresses and seals (R123). -/
def State.ingestTurn (s : State) (arr : Nat) (rill : Bool) : State × Bool :=
  let a := s.sealTurn arr
  if rill then ((a.1.rillTurn 1).1, a.2 && (a.1.rillTurn 1).2) else a

/-! ### What a job counts -/

/-- Command slot and path of the jobs of a command, bits [31:0] of R409's context without the bed. -/
def State.jobBy (s : State) (arr path : Nat) : Nat :=
  (match s.cmd? arr with | some r => r.slot.getD 0xFFFF | none => 0xFFFF) % 65536 + path * 16777216

/-- The bytes that a core takes in and gives (R359). -/
def State.rillBytes (s : State) (c : Nat) (f : OwnJob) : State := (s.pmuEvent 0x800 c f.input).pmuEvent 0x801 c f.output

/-- An own decompression, or a verified compression, that ends with a decoder status runs once more on another core (R119). -/
def OwnJob.reruns (f : OwnJob) : Bool := f.rill && (f.why = 3 || f.why = 1) && 1 ≤ f.status && f.status ≤ 7

/-- Cores that an own job of Rill takes one after the other. -/
def OwnJob.cores (f : OwnJob) : Nat := if f.status = stBadParameter then 0 else if f.reruns then 2 else 1

/-- A job refused by its descriptor check, which runs on no core (R121, R144). -/
def OwnJob.refused (f : OwnJob) : Bool := if f.rill then f.status = stBadParameter else f.status = 0x10 && f.why = 3

/-- A Rill job on the idle cores `free`. -/
def State.rillJob (s : State) (free : List Nat) (ctx : Nat) (f : OwnJob) : State :=
  if f.refused then s.rillError f.status 0xFF f.why ctx
  else
    let c := free.headD 0
    let s := s.rillBytes c f
    if f.reruns then
      let c := (free.drop 1).headD c
      ((s.bump F.RILL_RERUN_RERUNS 1).rillBytes c f).rillError f.status c f.why ctx
    else s.rillError f.status c f.why ctx

/-- A cipher job on core `c`; the refusal of a descriptor is fault source 0x908 (R144). -/
def State.cipherJob (s : State) (c ctx : Nat) (f : OwnJob) : State :=
  if f.refused then (s.cphFail f.status f.why 0xFF ctx).raise 0x908 2 0x05000000 (le 8 ctx)
  else
    let s := ((s.useKey f.key).pmuEvent 0x900 c f.input).cphFail f.status f.why c ctx
    if f.status = 0x12 then s.pruneKeys else s

/-- A job of the part's own on the core that takes the next job: its bytes, its key, and what is counted and latched where it
does not complete with OK (R137, R151, R158, R359, R409). -/
def State.ownJob (s : State) (by_ b : Nat) (f : OwnJob) : State :=
  let ctx := by_ % 65536 + b % 4 * 65536 + (if f.path = 0 then by_ / 16777216 else f.path) * 16777216 + f.ref % 2 ^ 32 * 2 ^ 32
  if f.rill then s.rillJob ((List.range 16).filter s.rillFree) ctx f
  else s.cipherJob (((List.range 8).find? s.cphFree).getD 0) ctx f

/-- The chunks of an ingest are compressed, in order (R123): the mode and stored bytes of each record, or `none` where a job's status
is not OK. A stream that is not shorter than its chunk is not stored. -/
def State.ingestAll (arr b : Nat) (n : Namespace) : List (Nat × Bytes) → State → State × Option (List (Nat × Bytes))
  | [], s => (s, some [])
  | (ref, bytes) :: rest, s =>
    let r := if n.modeD then s.ingestRun n.chunk bytes else (0, bytes)
    let s := if n.modeD then s.ownJob (s.jobBy arr 1) b ⟨true, r.1, 1, 0, ref, (0, 0, 0), bytes.length, r.2.length⟩ else s
    if r.1 ≠ 0 then (s, none)
    else
      let q := State.ingestAll arr b n rest s
      (q.1, q.2.map (fun l => (if r.2.length < bytes.length then (1, r.2) else (0, bytes)) :: l))

/-! ### Known-answer rounds (R138, R157) -/

/-- Context of the jobs of a self-test: no command, path 0x09 (R409). -/
def testCtx : Nat := 0xFFFF + 0x09000000

/-- A round on a Rill core: its streams are as they are to be, one of them ending with each of the statuses 1 to 7 (R138). The jobs of
a round that fails are counted nowhere: which of them differs is not given (assumption 67). -/
def State.rillRound (s : State) (c : Nat) (passed : Bool) : State :=
  if passed then (List.range 7).foldl (fun s i => s.rillError (i + 1) c 3 testCtx) s
  else s.raise (0x800 + c) 3 0x06000000 (le 4 2)

/-- A round on a cipher core: a seal, an open, and an open with one ciphertext bit inverted, which is to end with AUTH_FAIL,
reason 1 (R157). -/
def State.cphRound (s : State) (c : Nat) (passed : Bool) : State :=
  if passed then s.cphFail 0x10 1 c testCtx else s.coreKatFail c

/-- The test of the key-derivation unit (R157). -/
def State.kdfRound (s : State) (passed : Bool) : State :=
  if passed then s else State.raise { s with cph := { s.cph with katFail := true } } 0x909 3 0x06000000 (le 4 3)

/-- A round on the core or key unit of a source. -/
def State.katRound (s : State) (src : Nat) (passed : Bool) : State :=
  if src = 0x909 then s.kdfRound passed
  else if src / 256 = 8 then s.rillRound (src - 0x800) passed
  else s.cphRound (src - 0x900) passed

end Sys2Proof.Machine
end

