-- ==== Sys2Proof/Machine/ReadPath.lean ====
section
/-! DEFINITION. Reading: the index and the block map, ranges missing or unreadable solved by Seam, records whose tag fails,
repairs (R58, R65, R83, R103–R106, R114, R123, R146). -/

namespace Sys2Proof.Machine

/-! ### Keys and the index (R59, R65) -/

/-- Order of keys: unsigned bytes from byte 0, the shorter of two of which one is a prefix first (R59). -/
def keyLt : Bytes → Bytes → Bool
  | [], [] => false
  | [], _ :: _ => true
  | _ :: _, [] => false
  | a :: as, b :: bs => if a = b then keyLt as bs else decide (a.toNat < b.toNat)

/-- Order of index entries: namespace, then key. -/
def entryLt (a b : IndexEntry) : Bool := decide (a.nsid < b.nsid) || (a.nsid = b.nsid && keyLt a.key b.key)

def idxFind (l : List IndexEntry) (nsid : Nat) (key : Bytes) : Option IndexEntry := l.find? (fun e => e.nsid = nsid && e.key = key)

def idxDel (l : List IndexEntry) (nsid : Nat) (key : Bytes) : List IndexEntry := l.filter (fun e => !(e.nsid = nsid && e.key = key))

/-- Inserts or replaces an entry at its place. -/
def idxPut (l : List IndexEntry) (e : IndexEntry) : List IndexEntry :=
  let r := idxDel l e.nsid e.key
  r.filter (fun x => entryLt x e) ++ e :: r.filter (fun x => !entryLt x e)

/-! ### What the drives answered -/

def mediaGet (l : List MediaRead) (m sector count : Nat) : Option ReadResult :=
  l.findSome? (fun r =>
    if r.member = m && r.sector ≤ sector && sector + count ≤ r.sector + r.count then
      some (match r.result with
        | .data d => .data (slice d ((sector - r.sector) * 4096) (count * 4096))
        | .unrecovered => .unrecovered)
    else none)

/-- A page as read passes its CRC-32C, which ends its header (R65, R83). -/
def pageGood (d : Bytes) : Bool := leNat (slice d 60 4) = crc32c (d.take 60 ++ zeros 4 ++ d.drop 64)

/-- P or Q holds a metadata extension: it is active, or rebuilding and its extension has been written (R107). -/
def Bed.metaAt (x : Bed) (m : Nat) : Bool :=
  x.memberSt m = 0 || (match x.rebuild with | some r => r.member = m && r.metaDone | none => false)

/-- P and Q are both missing, and the metadata extension of a rebuilt one is not yet written (R107). -/
def Bed.noMeta (x : Bed) : Bool := !x.metaAt 0 && !x.metaAt 1

/-- What P or Q answered for an index page: nothing yet, a copy that is good, or one that failed; a missing member has none. -/
def pageCopy (x : Bed) (m pg : Nat) (media : List MediaRead) : Option (Option Bytes) :=
  if !x.metaAt m then some none
  else match mediaGet media m (262144 + pg) 1 with
    | none => none
    | some (.data d) => some (if pageGood d then some d else none)
    | some .unrecovered => some none

/-- Counts the lookup of a page, once for each command however often it is taken up again (R72). -/
def State.countLook (s : State) (arr pg : Nat) (hit : Bool) : State :=
  match s.cmd? arr with
  | some r =>
    if r.work.looked.contains pg then s
    else (s.bump (if hit then F.OBJ_IDX_HIT_HIT else F.OBJ_IDX_MISS_MISS) 1).mod arr (fun r => { r with work := { r.work with looked := pg :: r.work.looked } })
  | none => s

/-- Looks a key's page up: in the cache, or from P or Q; a copy that failed is rewritten from the other (R65). The answer is
`none` while no drive has answered (the member that is asked is woken); otherwise a status, 0 where the page is at hand. -/
def State.indexLook (s : State) (arr b : Nat) (x : Bed) (nsid : Nat) (key : Bytes) (media : List MediaRead) : State × Option Nat :=
  let pg := Config.indexPage nsid key
  if x.cached.contains pg || x.pinnedPages.contains pg then (s.countLook arr pg true, some 0)
  else
    let s := s.countLook arr pg false
    let got := fun (s : State) => (s.modBed b (fun y => { y with cached := pg :: y.cached })).trimCache b
    let mend := fun (s : State) (m : Nat) (d : Bytes) =>
      if x.metaAt m then s.announcedWrite b m (262144 + pg) d (.metaWrite 5) else s
    match pageCopy x 0 pg media, pageCopy x 1 pg media with
    | some (some d), some none => (mend (got s) 1 d, some 0)
    | some none, some (some d) => (mend (got s) 0 d, some 0)
    | some (some _), _ => (got s, some 0)
    | _, some (some _) => (got s, some 0)
    | some none, some none => if x.noMeta then (s, some Status.namespaceNotReady) else (s.bedEvent (0xA30 + b) 3 0x04 (bedCtx b 0xFF 0xFF 0 0 (262144 + pg) 0), some Status.unrecoveredError)
    | none, some none => (s.wakeMember b 0, none)
    | some none, none => (s.wakeMember b 1, none)
    | none, none => (if s.reachable x 1 && !s.reachable x 0 then s.wakeMember b 1 else s.wakeMember b 0, none)

/-- The answers of two lookups: a page that is not to be had, else some drive that is awaited, else both pages at hand. -/
def lookJoin (a b : Option Nat) : Option Nat :=
  match a, b with
  | some 0, b => b
  | some st, _ => some st
  | none, some (st + 1) => some (st + 1)
  | none, _ => none

/-- One key for each index page that holds some of the keys. -/
def pageKeys (nsid : Nat) (ks : List Bytes) : List Bytes :=
  ks.foldl (fun l k => if l.any (fun j => Config.indexPage nsid j = Config.indexPage nsid k) then l else l ++ [k]) []

/-- Looks up every page that holds some of the keys. -/
def State.indexLooks (s : State) (arr b nsid : Nat) (ks : List Bytes) (media : List MediaRead) : State × Option Nat :=
  (pageKeys nsid ks).foldl (fun acc k =>
    match acc.1.bed? b with
    | none => acc
    | some x =>
      let r := acc.1.indexLook arr b x nsid k media
      (r.1, lookJoin acc.2 r.2)) (s, some 0)

/-! ### Ranges (R103–R105) -/

/-- A range as it was obtained: not yet (drives have not answered), bytes with what was written back and which reads were
unrecovered, or not covered by parity. -/
inductive Fetched where
  | wait (members : List Nat)
  | got (bytes : Bytes) (repairs : List (Nat × Nat × Bytes)) (ures : List Nat)
  | lost (members : List Nat)
  deriving DecidableEq, Repr

/-- Bytes of a source at a data-area offset: an Open Band's parity comes from the accumulators (R104 step 2). -/
def sourceBytes (x : Bed) (k m off count : Nat) (media : List MediaRead) : Option ReadResult :=
  match (x.band k).acc, decide (m < 2) with
  | some t, true => some (.data (((List.range count).map (fun i =>
      let e := t.getD (off % x.h + i) (zeros 4096, zeros 4096)
      if m = 0 then e.1 else e.2)).flatten))
  | _, _ => mediaGet media m (x.base m + off) count

/-- Sources for the missing ranges (R104 step 1): `none` where parity does not cover them. -/
def solveSources (x : Bed) (miss : List Nat) (target : Nat) : Option (List Nat) :=
  let need := (miss.filter (2 ≤ ·)).length
  let data := x.dataMembers.filter (fun m => !miss.contains m)
  let p := !miss.contains 0 && target ≠ 0
  let q := !miss.contains 1 && target ≠ 1
  if need = 0 then some data
  else if need = 1 then (if p then some (0 :: data) else if q then some (1 :: data) else none)
  else if need = 2 && p && q then some (0 :: 1 :: data)
  else none

/-- Solves one member's range at an offset; a source that is unreadable is missing too. -/
def solveF (x : Bed) (k : Nat) (target off count : Nat) (media : List MediaRead) : Nat → List Nat → List Nat → Fetched
  | 0, miss, _ => .lost miss
  | n + 1, miss, ures =>
    match solveSources x miss target with
    | none => .lost miss
    | some srcs =>
      let got := srcs.map (fun m => (m, sourceBytes x k m off count media))
      match (got.filter (fun g => g.2.isNone)).map (·.1) with
      | w :: ws => .wait (w :: ws)
      | [] =>
        match got.find? (fun g => g.2 = some .unrecovered) with
        | some (u, _) => solveF x k target off count media n (miss ++ [u]) (ures ++ [u])
        | none =>
          let bytes := (List.range count).map (fun i => fitTo 4096 (Config.seamSolve miss target
            (got.map (fun g => (g.1, match g.2 with | some (.data d) => slice d (4096 * i) 4096 | _ => [])))))
          .got bytes.flatten [] ures

/-- Members whose sectors were unreadable are solved too and written back (R105, R111). -/
def repairsOf (x : Bed) (k off count : Nat) (media : List MediaRead) (miss us : List Nat) : List (Nat × Nat × Bytes) :=
  us.filterMap (fun u => match solveF x k u off count media 1 (miss ++ us) [] with
    | .got d _ _ => some (u, x.base u + off, d)
    | _ => none)

/-- Solves one member's range, with what is written back. -/
def solveRange (x : Bed) (k m off count : Nat) (media : List MediaRead) (miss us : List Nat) : Fetched :=
  match solveF x k m off count media 4 miss us with
  | .got d _ us => .got d (repairsOf x k off count media miss us) us
  | o => o

/-- Two neighbouring ranges as one. -/
def Fetched.append : Fetched → Fetched → Fetched
  | .lost l, _ => .lost l
  | _, .lost l => .lost l
  | .wait l, .wait k => .wait (l ++ k).eraseDups
  | .wait l, _ => .wait l
  | _, .wait l => .wait l
  | .got d r u, .got e q v => .got (d ++ e) (r ++ q) (u ++ v).eraseDups

/-- A range is taken whole where nothing in it has to be repaired, else sector by sector: a missing range is counted at one
offset (R104, R105, R111). -/
def bySector (media : List MediaRead) (f : Nat → Nat → Fetched) (at_ count : Nat) : Fetched :=
  let each := (List.range count).foldl (fun a i => Fetched.append a (f (at_ + i) 1)) (.got [] [] [])
  match f at_ count with
  | .got d [] us => .got d [] us
  | .wait ms => if media.isEmpty then .wait ms else each
  | o => if count ≤ 1 then o else each

/-- The member's range of Band `k` is in the lost-range list of a bed re-admitted read-only (R114). -/
def State.inLostList (s : State) (b : Nat) (x : Bed) (k m : Nat) : Bool :=
  x.st = 4 && (s.bedRec b).lost.any (fun r => r.first ≤ k && k ≤ r.last && bit r.mask m)

/-- A rebuild has left the member's listed range out: it holds zeros in place of the lost data (R114). -/
def State.leftOut (s : State) (b : Nat) (x : Bed) (k m : Nat) : Bool :=
  s.inLostList b x k m && !x.missing m k && (match x.members.get? m with | some y => y.skipped.contains k | none => true)

/-- Members whose range of the Band is missing, or was left out for good. -/
def State.missAt (s : State) (b : Nat) (x : Bed) (k : Nat) : List Nat :=
  x.missingAt k ++ (List.range x.n).filter (s.leftOut b x k)

/-- Reads a range of one member, degraded or repaired where need be, taken as one. -/
def State.fetchRange (s : State) (b : Nat) (x : Bed) (m sector count : Nat) (media : List MediaRead) : Fetched :=
  let k := x.bandOf m sector
  let off := sector - x.base m
  let miss := s.missAt b x k
  let solve := fun (l u : List Nat) =>
    if 2 ≤ m && !s.parityValid b k x then Fetched.lost l
    else solveRange x k m off count media l u
  if miss.contains m then solve miss []
  else match mediaGet media m sector count with
    | none => .wait [m]
    | some (.data d) => .got d [] []
    | some .unrecovered => if s.inLostList b x k m then .lost (miss ++ [m]) else solve (miss ++ [m]) [m]

/-- Reads a range of one member, degraded or repaired where need be. -/
def State.fetch (s : State) (b : Nat) (x : Bed) (m sector count : Nat) (media : List MediaRead) : Fetched :=
  bySector media (fun o n => s.fetchRange b x m o n media) sector count

/-- Cause of R112 for a range that parity does not cover: no valid parity (4), else an unreadable sector (2). -/
def State.lossCause (s : State) (b : Nat) (x : Bed) (m k : Nat) : Nat := if 2 ≤ m && !s.parityValid b k x then 4 else 2

/-! ### Records -/

/-- What reading records gave: their bytes and status, the last record as read, the jobs that ran, the sectors repaired (R105),
the ranges written back after a tag failure and the records whose tag was repaired or not (R106), the drives still awaited, whether
its jobs wait for their turn, and what parity could not cover (cause of R112, Band, members). -/
structure ReadOut where
  status : Nat
  data : Bytes
  raw : Bytes
  jobs : List OwnJob
  repairs : List (Nat × Nat × Bytes)
  mends : List (Nat × Nat × Bytes)
  tags : List (Nat × Nat)
  badTags : List (Nat × Nat)
  waits : List Nat
  held : Bool
  lost : Option (Nat × Nat × List Nat)
  deriving DecidableEq, Repr

def ReadOut.init : ReadOut := ⟨0, [], [], [], [], [], [], [], [], false, none⟩

/-- Drives have not answered, or its jobs have not had their turn. -/
def ReadOut.waiting (o : ReadOut) : Bool := o.held || !o.waits.isEmpty

/-- Whether opening a record takes a Rill job (R123). -/
def rillRan (hdr : Bytes) : Bool :=
  leNat (hdr.take 2) = magicData && (hdr.getD 3 0).toNat % 4 ≠ 0

/-- The plaintext of an opened record after Rill (R123), or the status it does not decode with (0 where no job ran). Only a
chunk record is ever compressed; byte 3 of another says what kind it is (R81). -/
def restore (hdr pt : Bytes) : Except RillStatus Bytes :=
  let mode := (hdr.getD 3 0).toNat % 4
  let orig := leNat (slice hdr 28 4)
  if leNat (hdr.take 2) ≠ magicData || mode = 0 then .ok pt
  else if mode = 3 then .error 0
  else match rillRestore 3 orig pt with
    | (0, o) => .ok o
    | (e, _) => .error e

/-- Tenant, NSID and epoch that a record's header names, under which its key is looked up (R142, R151). -/
def keyOf (rec : Bytes) : Nat × Nat × Nat :=
  (leNat (slice rec 8 4), leNat (slice rec 12 4), leNat (slice rec 4 4))

/-- Sets of ranges to count as missing, one try after the other, for a record whose tag fails (R106). A record that is itself
on the one missing member was solved from P already: Q is left (assumption 43). -/
def tagTries (x : Bed) (miss : List Nat) (m : Nat) : List (List Nat) :=
  if miss.contains m then [[0, m]] else
  match miss with
  | [] => [[m], [0, m]] ++ (x.dataMembers.filter (· ≠ m)).map (fun d => [d, m])
  | [a] => if a < 2 then [[a, m]] else [[a, m]]
  | _ => []

/-- An open or check job of the part's own: its descriptor is checked first (R144). -/
def State.openOwn (s : State) (iv : Bytes) (ex : Expect) (rec : Bytes) : CphResult :=
  if rec.length = 0 || rec.length % 4096 ≠ 0 then ⟨0x10, 3, []⟩
  else openRecord s.keyNow (s.epochsOf ex.nsid).1 iv ex rec

/-- Status of a restore whose open ends with a cipher status that nothing reconstructs, 0 where it opened or has a header or tag
mismatch (R146). -/
def restoreStatus (r : CphResult) : Nat :=
  if r.status = 0x12 then Status.accessDenied
  else if r.status = 0x11 then Status.namespaceNotReady
  else if r.status = 0x10 && r.reason = 3 then Status.internalError
  else 0

/-- The first try that verifies, with what is written back; the drives awaited; the checks that failed. -/
def tryTags (s : State) (x : Bed) (k m sector count : Nat) (iv : Bytes) (ex : Expect) (media : List MediaRead) :
    List (List Nat) → List Nat → List OwnJob → Option (Bytes × List (Nat × Nat × Bytes)) × List Nat × List OwnJob
  | [], w, fs => (none, w, fs)
  | miss :: ts, w, fs =>
    let off := sector - x.base m
    match solveF x k m off count media 1 miss [] with
    | .got d _ _ =>
      let r := s.openOwn iv ex d
      let fs := fs ++ [⟨false, r.status, r.reason, 8, ex.object, keyOf d, d.length, 0⟩]
      if r.status = 0 then
        -- the record is sealed again and written back in place, byte for byte: path 0x0A (R106, R123, R409)
        let fs := if x.missing m k then fs else fs ++ [⟨false, 0, 0, 0xA, ex.object, keyOf d, 32 + r.out.length, d.length⟩]
        let other := miss.filterMap (fun o =>
          if o ≠ m && 2 ≤ o && !x.missing o k then
            match solveF x k o off count media 1 miss [] with
            | .got e _ _ => if sourceBytes x k o off count media = some (.data e) then none else some (o, x.base o + off, e)
            | _ => none
          else none)
        (some (d, (m, sector, d) :: other), w, fs)
      else tryTags s x k m sector count iv ex media ts w fs
    | .wait ms => tryTags s x k m sector count iv ex media ts (w ++ ms) fs
    | .lost _ => tryTags s x k m sector count iv ex media ts w fs

/-- Reads and opens one record: its plaintext (R58, R104–R106, R146). -/
def State.openRead (s : State) (b : Nat) (x : Bed) (m sector : Nat) (ex : Expect) (media : List MediaRead) : ReadOut :=
  let o := ReadOut.init
  let k := x.bandOf m sector
  let iv := recordIv m sector (x.band k).gen
  match s.fetch b x m sector 1 media with
  | .wait ms => { o with waits := ms }
  | .lost ms => { o with status := Status.bedOffline, lost := some (s.lossCause b x m k, k, ms) }
  | .got h _ _ =>
    let l := leNat (slice h 24 4)
    let count := if l ≤ 1048712 then cdiv (48 + l) 4096 else 1
    match s.fetch b x m sector count media with
    | .wait ms => { o with waits := ms }
    | .lost ms => { o with status := Status.bedOffline, lost := some (s.lossCause b x m k, k, ms) }
    | .got d reps _ =>
      let o := { o with repairs := reps }
      let r := s.openOwn iv ex d
      let o := { o with jobs := [⟨false, r.status, r.reason, 0, ex.object, keyOf d, d.length, 0⟩] }
      if r.status = 0 then { o with data := r.out, raw := d }
      else if restoreStatus r ≠ 0 then { o with status := restoreStatus r }
      else
        let miss := s.missAt b x k
        if 2 ≤ miss.length then { o with status := Status.bedOffline, lost := some (3, k, miss ++ [m]) }
        else
          match tryTags s x k m sector count iv ex media (tagTries x miss m) [] o.jobs with
          | (some (d, reps), _, fs) =>
            { o with mends := reps.filter (fun r => !miss.contains r.1)
                     tags := if miss.contains m then [] else [(m, sector)], jobs := fs, raw := d
                     data := (s.openOwn iv ex d).out }
          | (none, [], fs) => { o with status := Status.authUnrecovered, badTags := [(m, sector)], jobs := fs }
          | (none, ws, _) => { o with waits := ws }

/-- The same, and decompressed (R123). -/
def State.readRecord (s : State) (b : Nat) (x : Bed) (m sector : Nat) (ex : Expect) (media : List MediaRead) : ReadOut :=
  let o := s.openRead b x m sector ex media
  if o.status ≠ 0 || o.waiting then o
  else match restore o.raw o.data with
    | .ok p =>
      { o with data := p
               jobs := if rillRan o.raw then o.jobs ++ [⟨true, 0, 3, 0, ex.object, (0, 0, 0), o.data.length, p.length⟩] else o.jobs }
    | .error e =>
      { o with status := Status.unrecoveredRead, data := []
               jobs := if e = 0 then o.jobs else o.jobs ++ [⟨true, e, 3, 0, ex.object, (0, 0, 0), o.data.length, 0⟩] }

def ReadOut.join (a b : ReadOut) : ReadOut :=
  { status := if a.status ≠ 0 then a.status else b.status, data := a.data ++ b.data, raw := b.raw, jobs := a.jobs ++ b.jobs
    repairs := a.repairs ++ b.repairs
    mends := a.mends ++ b.mends, tags := a.tags ++ b.tags, badTags := a.badTags ++ b.badTags, waits := a.waits ++ b.waits
    held := a.held || b.held, lost := if a.lost.isSome then a.lost else b.lost }

/-- A record of a listed range of a bed re-admitted read-only (R114): the member is missing there, or a rebuild has left
its range out. -/
def State.listedLost (s : State) (b : Nat) (x : Bed) (m sector : Nat) : Bool :=
  let k := x.bandOf m sector
  s.inLostList b x k m && (x.missing m k || s.leftOut b x k m)

/-- One 64 KiB logical unit of a block namespace (R83). -/
def State.readUnit (s : State) (b : Nat) (x : Bed) (nsid tenant u : Nat) (media : List MediaRead) : ReadOut :=
  match (x.map.getD nsid .empty).get? u with
  | none => { ReadOut.init with data := zeros 65536 }
  | some e =>
    if s.listedLost b x e.member e.sector then { ReadOut.init with status := Status.bedOffline }
    else
      let o := s.readRecord b x e.member e.sector ⟨0, tenant, nsid, u - e.unit⟩ media
      { o with data := slice o.data (e.unit * 65536) 65536 }

/-- Sectors of a run that hold records: a sector without a record magic is skipped (R81). -/
def State.readRun (s : State) (b : Nat) (x : Bed) (ex : Expect) (m : Nat) (media : List MediaRead) : Nat → Nat → Nat → ReadOut × Bool
  | 0, _, _ => (ReadOut.init, false)
  | fuel + 1, sector, stop =>
    if stop ≤ sector then (ReadOut.init, false)
    else match s.fetch b x m sector 1 media with
      | .wait ms => ({ ReadOut.init with waits := ms }, false)
      | .lost ms => ({ ReadOut.init with status := Status.bedOffline, lost := some (s.lossCause b x m (x.bandOf m sector), x.bandOf m sector, ms) }, false)
      | .got h _ _ =>
        if leNat (h.take 2) ≠ magicData then s.readRun b x ex m media fuel (sector + 1) stop
        else if s.listedLost b x m sector then ({ ReadOut.init with status := Status.bedOffline }, false)
        else
          let o := s.readRecord b x m sector ex media
          let n := cdiv (48 + leNat (slice h 24 4)) 4096
          let (rest, last) := if !o.waits.isEmpty then (ReadOut.init, false) else s.readRun b x ex m media fuel (sector + max 1 n) stop
          (o.join rest, if stop ≤ sector + max 1 n || rest.data.isEmpty then bit (h.getD 3 0).toNat 2 || last else last)

/-- The body of a commit record (R63): its extents, as member, count, start. -/
def commitExtents (body : Bytes) : List (Nat × Nat × Nat) :=
  (List.range (leNat (slice body 18 2))).map (fun i =>
    let v := leNat (slice body (64 + 8 * i) 8)
    (v / 2 ^ 56 % 256, v / 2 ^ 36 % 2 ^ 20, v % 2 ^ 36))

/-- The value of an object: its commit record, then the runs its extents name, one after the other (R58, R63, R64, R86). -/
def State.readObject (s : State) (b : Nat) (x : Bed) (tenant : Nat) (e : IndexEntry) (media : List MediaRead) : ReadOut :=
  let ex : Expect := ⟨e.epoch, tenant, e.nsid, e.serial⟩
  if s.listedLost b x e.member e.sector then { ReadOut.init with status := Status.bedOffline }
  else
    let c := s.readRecord b x e.member e.sector ex media
    if c.status ≠ 0 || !c.waits.isEmpty then c
    else
      let (o, last) := (commitExtents c.data).foldl (fun (acc : ReadOut × Bool) r =>
        if !acc.1.waits.isEmpty then acc else
        let (n, l) := s.readRun b x ex r.1 media (r.2.1 + 1) r.2.2 (r.2.2 + r.2.1)
        (acc.1.join n, l)) ({ c with data := [] }, e.valueLen = 0)
      if o.status ≠ 0 || !o.waits.isEmpty then o
      else if o.data.length ≠ e.valueLen || !last then { o with status := Status.unrecoveredRead }
      else o

/-! ### What reading leaves behind -/

/-- Counts the drive reads that answered in the course of a step (R357, R399), and each that reported an unrecovered error once
toward URE_MAX (R98, R105). -/
def State.countReads (s : State) (b : Nat) (media : List MediaRead) : State :=
  match s.bed? b with
  | none => s
  | some x => media.foldl (fun s r =>
      let s := s.noteIdle b r.member
      let k := x.slotOf r.member
      let s := ((s.bump (F.DRV_CNT_COUNT k 0) 1).pmuEvent 0x200 k 1).pmuEvent 0x201 k (r.count * 4096)
      if r.result = .unrecovered then s.countUre b r.member else s) s

/-- The jobs of a read have their turn, all of them or none (R119, R142): a read that has to wait leaves nothing and is taken up
again. -/
def State.readTurn (s : State) (q : Nat) (o : ReadOut) : State × ReadOut :=
  if !o.waits.isEmpty then (s, o)
  else
    let keys := (o.jobs.filter (fun f => !f.rill)).map (·.key)
    let c := if keys.isEmpty then (s, true) else s.cphTurn q keys.eraseDups
    let n := (o.jobs.filter (·.rill)).foldl (fun m f => max m f.cores) 0
    let r := if n = 0 then (c.1, true) else c.1.rillTurn n
    (r.1, if c.2 && r.2 then o else { ReadOut.init with held := true })

/-- Stored-form bytes that a command has read (R367): the records that opened, once nothing is awaited. -/
def State.noteRead (s : State) (arr : Nat) (o : ReadOut) : State :=
  if o.waiting then s else
  let n := sumN ((o.jobs.filter (fun f => !f.rill && f.status = 0)).map (·.input))
  s.mod arr (fun r => { r with work := { r.work with stored := r.work.stored + n } })

/-- Write-backs and counts of a read (R98, R105, R106, R158), and the bed going offline where parity did not cover it (R113,
R114). A read that waits counts its jobs when it is taken up again. -/
def State.afterRead (s : State) (b serial by_ : Nat) (o : ReadOut) : State :=
  let s := if o.waits.isEmpty then o.jobs.foldl (fun s f => s.ownJob by_ b f) s else s
  let s := (o.repairs.eraseDups ++ o.mends.eraseDups).foldl (fun s r => s.announcedWrite b r.1 r.2.1 r.2.2 .repair) s
  let s := o.repairs.eraseDups.foldl (fun s r =>
    match s.bed? b with
    | some x => (s.bump (F.BED_REPAIR_SECTORS b) (r.2.2.length / 4096)).bedEvent (0xA10 + x.slotOf r.1) 2 0x01 (bedCtx b r.1 (x.slotOf r.1) 0 0 r.2.1 0)
    | none => s) s
  let s := o.tags.eraseDups.foldl (fun s t =>
    match s.bed? b with
    | some x => (s.bump (F.BED_REPAIR_TAGS b) 1).bedEvent (0xA10 + x.slotOf t.1) 2 0x02 (bedCtx b t.1 (x.slotOf t.1) 0 0 t.2 serial)
    | none => s) s
  let s := o.badTags.eraseDups.foldl (fun s t =>
    match s.bed? b with
    | some x => s.bedEvent (0xA10 + x.slotOf t.1) 3 0x03 (bedCtx b t.1 (x.slotOf t.1) 0 0 t.2 serial)
    | none => s) s
  -- R146: a descriptor of the part's own that was refused is a firmware fault of the engine that made it (assumption 67)
  let s := if o.status = Status.internalError then s.raise (0xF10 + s.queueBy by_) 2 0x05000000 (le 8 serial) else s
  let s := if o.status = Status.unrecoveredRead then s.bedEvent (0xA30 + b) 3 0x05 (bedCtx b 0xFF 0xFF 0 0 0 serial) else s
  let s := o.waits.eraseDups.foldl (fun s m => s.wakeMember b m) s
  match o.lost, s.bed? b with
  | some (cause, k, ms), some x =>
    let r : LostRange := ⟨k, k, maskOf ms, cause⟩
    if x.st ≠ 4 then s.offline b [r]
    else if ms.all (s.inLostList b x k) then s
    else s.addLost b [r]
  | _, _ => s

end Sys2Proof.Machine
end

