-- ==== Sys2Proof/Machine/Fold.lean ====
section
/-! DEFINITION. Folding a record: its Band is made ready, its sectors go into the accumulators under the next fold number
(R87, R88, R94, R223). -/

namespace Sys2Proof.Machine

/-- Removes what is written and folded. A record folded into a Band whose resync has still to run is kept for its result
(R94). -/
def Bed.sweepStaged (x : Bed) : Bed := { x with staged := x.staged.filter (fun r => !(r.written && r.folded) || x.resync.contains r.band) }

/-- Accumulators of a reopened Band, from its P and Q ranges. -/
def accOf (p q : Bytes) : Tab (Bytes × Bytes) :=
  ((chunks 4096 p).zip (chunks 4096 q)).zipIdx.foldl (fun t e => if e.1 = (zeros 4096, zeros 4096) then t else t.put e.2 e.1) .empty

/-- Makes the Band of a record ready for its fold: an Empty one starts at zero, a Checkpointed one reads P and Q; at the open
Band limit the oldest is force-closed first (R88). One that waits for its resync needs no accumulators (R94). The second
component says whether the fold may go on. -/
def State.openBand (s : State) (b k : Nat) (media : List MediaRead) : State × Bool :=
  match s.bed? b with
  | none => (s, false)
  | some x =>
    let y := x.band k
    if y.stopped then (s, false)
    else if y.st = 1 && y.acc.isSome then (s, true)
    else if x.resync.contains k && y.st ≠ 0 then (s, true)
    else
      let s := if y.st = 1 then s else s.applyFld (F.BED_CFG_OPEN_MAX b)
      if y.st ≠ 1 && s.openMax b x ≤ x.openCount then
        (if x.ckpts.any (·.free) then s else match x.oldestOpen with | some o => s.forceClose b [o] | none => s, false)
      else
        let begin_ := fun (s : State) (acc : Tab (Bytes × Bytes)) =>
          (s.modBed b (fun x => (x.setBand k { x.band k with
            st := 1, acc := some acc, lastFold := max (x.band k).lastFold x.fold, ckptAt := some (s.now + sec (s.intervalS b))
            reloadPending := false }).touchBand k)).bandDelta b k
        if y.st = 0 then (begin_ s .empty, true)
        else
          match s.fetch b x 0 (x.base 0 + k * x.h) x.h media, s.fetch b x 1 (x.base 1 + k * x.h) x.h media with
          | .got p rp _, .got q rq _ =>
            let s := s.afterRead b 0 0 { ReadOut.init with repairs := rp ++ rq }
            (begin_ (if y.st = 1 then s else s.bump (F.BED_RELOAD_RELOADS b) 1) (accOf p q), true)
          | .lost ms, _ => (s.offline b [⟨k, k, maskOf ms, 2⟩], false)
          | _, .lost ms => (s.offline b [⟨k, k, maskOf ms, 2⟩], false)
          | _, _ => ((s.wakeMember b 0).wakeMember b 1 |>.modBed b (fun x => x.setBand k { x.band k with reloadPending := true }), false)

/-- The Seam half that takes a fold: the other one takes every fold while one is fenced (R343, R359). -/
def State.foldHalf (s : State) (no : Nat) : Nat :=
  if s.isFenced 0xA00 then 1 else if s.isFenced 0xA01 then 0 else Config.seamHalf no % 2

/-- Folds one staged record, whose Band is ready: it takes the next fold number; the standby and the digest follow (R87, R223). -/
def State.foldRec (s : State) (b : Nat) (r : Staged) : State :=
  match s.bed? b with
  | none => s
  | some x =>
    let no := x.fold + 1
    let same := fun (q : Staged) => q.cmd = r.cmd && q.member = r.member && q.sector = r.sector
    let y := x.band r.band
    let late := y.lateFold || x.staged.any (fun q => same q && q.issued)
    let x := if x.resync.contains r.band && y.acc.isNone then
        x.setBand r.band { y with
          lastFold := no, digCount := (y.digCount + 1) % 2 ^ 32, digSum := (y.digSum + crc32c r.bytes) % 2 ^ 32 }
      else x.foldInto r.member r.sector r.bytes no
    let x := x.setBand r.band { x.band r.band with lateFold := late }
    let x := { x with
      fold := no, staged := x.staged.map (fun q => if same q then { q with folded := true, foldNo := some no, foldAt := none } else q) }
    let s := s.setBed b x.sweepStaged
    let s := if r.kind = 1 then s else s.mod r.cmd (fun q => { q with work := { q.work with folded := true } })
    let s := (s.bump F.SEAM_FOLDS_FOLDS 1).pmuEvent 0xA00 (s.foldHalf no) 1
    let s := if s.copied b then s.gusSend b (.foldNotice r.mirId no) .nothing else s
    s.delta b (.digest r.band (x.band r.band).digCount (x.band r.band).digSum no)

end Sys2Proof.Machine
end

