-- ==== Sys2Proof/Machine/IoUnit.lean ====
section
/-! DEFINITION. The I/O command path: scoreboard, records of a write, map and commit records, effects, parking (R41, R46–R48,
R60–R64, R68, R81–R85, R107). -/

namespace Sys2Proof.Machine

/-! ### The scoreboard (R40, R41, R60) -/

def overlap (a b : Nat × Nat) : Bool := decide (a.1 < b.1 + b.2) && decide (b.1 < a.1 + a.2)

/-- Two commands of one namespace conflict (R41 rule 1, R60). -/
def conflicts (a b : NvmeCmd) : Bool :=
  (NvmeCmd.modifies a || NvmeCmd.modifies b) &&
  (if NvmeCmd.isKv a || NvmeCmd.isKv b then
     (NvmeCmd.isList a && NvmeCmd.modifies b) || (NvmeCmd.isList b && NvmeCmd.modifies a)
       || (match NvmeCmd.key? a, NvmeCmd.key? b with | some k, some l => k = l | _, _ => false)
   else (NvmeCmd.ranges a).any (fun r => (NvmeCmd.ranges b).any (overlap r)))

/-- Some earlier command of the namespace is not yet in the scoreboard, or conflicts and is neither in effect nor has its
data (R41 rules 4 and 5). -/
def State.blocked (s : State) (arr : Nat) : Bool :=
  match s.cmd? arr with
  | none => false
  | some r =>
    s.cmd.cmds.entries.any (fun e =>
      e.1 < arr && e.2.nsid = r.nsid && !e.2.isAdmin &&
      (match e.2.phase with
       | .effect => false
       | .done => false
       | .waiting => true
       | .held => true
       | .parked => true
       | _ => match e.2.cmd, r.cmd with | some c, some d => conflicts c d | _, _ => true))

/-- Bytes of the value that a Store or Import Record brings. -/
def NvmeCmd.valueLen : NvmeCmd → Nat
  | .store _ _ n _ _ _ => n
  | .importRecord _ _ _ n _ _ => n
  | _ => 0

/-- At its admission a Store takes the spill threshold as it then stands (R85, R97). -/
def State.judgeSpill (s : State) (b arr : Nat) (c : NvmeCmd) : State :=
  if NvmeCmd.valueLen c = 0 then s
  else
    let s := s.applyFld (F.BED_CFG_SPILL_GIB b)
    s.mod arr (fun q => { q with work := { q.work with
      spill := decide (clamp 1 64 (s.fld (F.BED_CFG_SPILL_GIB b)) * 1073741824 < NvmeCmd.valueLen c) } })

/-- An earlier command that modifies some unit of the list is not yet in effect: a merge with the unit's data waits for it, as the
new map entry covers the whole unit (R82). -/
def State.unitShared (s : State) (arr : Nat) (us : List Nat) : Bool :=
  match s.cmd? arr with
  | none => false
  | some r =>
    s.cmd.cmds.entries.any (fun e =>
      e.1 < arr && e.2.nsid = r.nsid && !e.2.isAdmin && e.2.phase ≠ .effect && e.2.phase ≠ .done &&
      (match e.2.cmd with
       | some c => NvmeCmd.modifies c && (NvmeCmd.ranges c).any (fun a => us.any (fun u => decide (a.1 < (u + 1) * 16) && decide (u * 16 < a.1 + a.2)))
       | none => false))

/-- A modifying command takes its serial and key epoch when it enters the scoreboard (R68, R154). -/
def State.enterBoard (s : State) (arr : Nat) : State :=
  match s.cmd? arr with
  | none => s
  | some r =>
    match s.bedOf r.cap, r.cmd with
    | some b, some c =>
      let s := r.scores.foldl (fun s e => s.delta b (.scoreAdd e)) ((s.setPhase arr .board).judgeSpill b arr c)
      if NvmeCmd.modifies c && r.serial.isNone then
        match s.bed? b, s.cfg.data.ns.get? r.nsid with
        | some x, some n =>
          let sr := x.serial + 1
          (s.setBed b { x with serial := sr }).mod arr (fun q => { q with serial := some sr, epoch := some n.epoch })
        | _, _ => s
      else s
    | _, _ => s

/-! ### Parking (R46, R47) -/

def State.parkedCount (s : State) : Nat := (s.cmd.cmds.filterT (fun _ r => r.phase = .parked)).size

/-- Age of the oldest parked command in units of 100 ms (R249). -/
def State.oldestPark (s : State) : Nat :=
  let ages := (s.cmd.cmds.filterT (fun _ r => r.phase = .parked)).vals.map (fun r => (s.now - r.time) / msec 100)
  min 0xFFFF (ages.foldl max 0)

/-- Sends a wake request to the manager (R47, R249, R259). -/
def State.sendWake (s : State) (reason : Nat) : State :=
  (s.rackSend 0xFFFF 8 ([BitVec.ofNat 8 reason, 0] ++ be 2 (min 0xFFFF s.parkedCount) ++ be 2 s.oldestPark ++ zeros 2)).bump
    (F.RACK_CNT_COUNT 4) 1

/-! ### The responder of a Dark controller (R49, R259) -/

/-- Restarts an association's keep-alive timer. -/
def State.keepAlive (s : State) (a : Nat) : State :=
  s.modAssoc a (fun x => { x with kaAt := if x.kato = 0 then none else some (s.now + msec x.kato) })

/-- Level of the responder's token bucket (R49). -/
def State.darkTokens (s : State) : Nat := min 1000 (s.cmd.bucket + (s.dev - s.cmd.bucketAt) / 100000)

/-- A capsule refused in Dark asks for a wake, at most once per 10 s (R259). -/
def State.darkWake (s : State) : State :=
  let s := s.applyFld F.RACK_CFG_DARK_WAKE
  let due := match s.rack.darkWakeAt with | some t => decide (t ≤ s.now) | none => true
  if s.flag F.RACK_CFG_DARK_WAKE && due then State.sendWake { s with rack := { s.rack with darkWakeAt := some (s.now + sec 10) } } 2 else s

/-- The responder's answer leaves by port `n`: a SEND of a 16-byte completion from the control path. -/
def State.darkAnswer (s : State) (n : Nat) (cap : Cap) (status : Nat) : State :=
  let mac := s.draw % 2 ^ 40
  s.drawn.sendCtl n 3 (s.drawn.ownFrame (14 + 40 + 8 + 12 + 16 + 4 + 4) mac 0 3 true (.roce 0)) (.completion cap status 0 0)

/-- A capsule of ring port `n` at the responder: it takes a token and is answered, or finds the bucket empty and is dropped at
ingress; none comes from a port that is down, and one from a blocked port is discarded. The discard for want of a token, reason
0x0B, is counted with the port's lossy discards: no index of NET_CNT names it (R174; assumption 63). -/
def State.darkCapsule (s : State) (n : Nat) (cap : Cap) (keepAlive : Bool) : State :=
  let k := s.darkTokens
  if !s.netPowered n || !(s.nport n).link || (n < 2 && s.flag F.BSN_RING_ENABLE && (s.nport n).ring ≠ 0) then s
  else if k = 0 then s.bump (F.NET_CNT_COUNT n 5) 1
  else
    let at_ := if k = 1000 then s.dev else s.cmd.bucketAt + (s.dev - s.cmd.bucketAt) / 100000 * 100000
    let s := { s with cmd := { s.cmd with bucket := k - 1, bucketAt := at_ } }
    if keepAlive then (s.keepAlive cap.assoc).darkAnswer n cap 0
    else s.darkWake.darkAnswer n cap Status.shelfDark

def State.park (s : State) (arr : Nat) : State :=
  let first := s.parkedCount = 0
  let s := s.setPhase arr .parked
  if first then State.sendWake { s with cmd := { s.cmd with wakeAt := some (s.now + sec 2) } } 1 else s

/-! ### Records of a write (R63, R81, R82, R123) -/

/-- The member of a command's next run: its own, else the fill member of the lowest append offset (R84 rules 1 and 2). -/
def CmdRec.runMember (r : CmdRec) (x : Bed) : Option Nat :=
  match r.work.member with
  | some m => if x.memberSt m = 0 && !(match x.members.get? m with | some y => y.full | none => true) then some m else x.nextFill
  | none => x.nextFill

/-- The member of the next record: that of the run, or where a spilled value's piece has reached its Bolt's end that of the next
piece (R84, R85). -/
def Bed.pieceAt (x : Bed) (r : CmdRec) (m count : Nat) : Nat × Bed :=
  match r.work.spill, r.work.bolt with
  | true, some row =>
    let y := x.makeRoom m count
    if (match y.members.get? m with | some z => !z.full && z.append / 262144 = row | none => false) then (m, x) else y.nextPiece m
  | _, _ => (m, x)

/-- Seals one record at the next place of the command's member and stages it: its member and sector, or `none` where no
space is free (R84 rule 5). A map record is folded as it is sealed, so that it carries the number of its own fold (R82, R87;
assumption 65): its Band is ready. -/
def State.putRecord (s : State) (b arr kind : Nat) (magic flags orig : Nat) (ref : Nat) (pt : Bytes) (last : Bool) :
    Option (State × Nat × Nat) :=
  match s.bed? b, s.cmd? arr with
  | some x, some r =>
    match s.keyNow, s.cfg.data.ns.get? r.nsid, r.runMember x with
    | some kd, some n, some m0 =>
      let count := cdiv (48 + pt.length) 4096
      let (m, x) := x.pieceAt r m0 count
      match x.allocOn count (m :: (x.byAppend.map (·.2)).filter (· ≠ m)) with
      | none => none
      | some (m, o, x) =>
        let sector := x.base m + o
        let k := o / x.h
        let hdr := recordHeader magic flags (r.epoch.getD 1) n.tenant r.nsid ref pt.length orig
        let rec_ := sealRecord kd (recordIv m sector (x.band k).gen) hdr pt
        let s := s.setBed b x
        let s := s.mod arr (fun q => { q with work := { q.work with member := some m, bolt := some (o / 262144), stored := q.work.stored + rec_.length } })
        let st : Staged :=
          { cmd := arr, kind := kind, member := m, sector := sector, band := k, bytes := rec_, mirror := none, mirId := 0, issued := false
            written := false, folded := false, foldNo := none, foldAt := none, last := last }
        let s := s.ownJob (s.jobBy arr r.work.path) b ⟨false, 0, 0, 0, ref, (n.tenant, r.nsid, r.epoch.getD 1), 32 + pt.length, rec_.length⟩
        let s := s.stage b st r.cap
        some (if kind = 3 then s.foldRec b st else s, m, sector)
    | _, _, _ => none
  | _, _ => none

/-- Cuts a write into records: runs of units within one chunk-aligned window (R82). -/
def recordUnits (per : Nat) : Nat → Nat → Nat → List (Nat × Nat)
  | 0, _, _ => []
  | fuel + 1, u, stop =>
    if stop ≤ u then []
    else
      let n := min (stop - u) (per - u % per)
      (u, n) :: recordUnits per fuel (u + n) stop

/-- Ends a command with a status and no further effect; what it staged and not yet issued is dropped. -/
def State.refuse (s : State) (b arr status : Nat) : State :=
  let s := s.modBed b (fun x => { x with staged := x.staged.filter (fun r => r.cmd ≠ arr || r.issued) })
  s.finish arr status 0 0

/-- The first seal of a command ends with KEY_UNAVAILABLE, and the command with TRANSFORM_FAILED (R146, R152). -/
def State.noKey (s : State) (b arr : Nat) : State :=
  let ref := match s.cmd? arr with | some r => r.serial.getD 0 | none => 0
  (s.ownJob (s.jobBy arr 1) b ⟨false, 0x11, 0, 0, ref, (0, 0, 0), 0, 0⟩).refuse b arr Status.transformFailed

/-- Writes the data records of a block write: first unit, units, mode and stored bytes of each. -/
def putUnits (b arr : Nat) : List (Nat × Nat × Nat × Bytes) → State → List (Nat × MapEntry) → Option (State × List (Nat × MapEntry))
  | [], s, es => some (s, es)
  | (u, k, mode, pt) :: rest, s, es =>
    match s.putRecord b arr 1 magicData mode (k * 65536) u pt false with
    | none => none
    | some (s, m, sector) => putUnits b arr rest s (es ++ (List.range k).map (fun i => (u + i, ⟨m, i, sector⟩)))

/-- Pieces of a write's map entries, each for one map record (R82). -/
def mapPieces : Nat → List (Nat × MapEntry) → List (List (Nat × MapEntry))
  | 0, _ => []
  | fuel + 1, l =>
    if l.length ≤ 496 then (if l.isEmpty then [] else [l])
    else
      let first := match l with | e :: _ => e.1 | [] => 0
      let cut := 496 - (first + 496) % 4
      l.take cut :: mapPieces fuel (l.drop cut)

/-- Map entries of consecutive units, piece by piece: a move may leave gaps. -/
def moveRuns : Nat → List (Nat × MapEntry) → List (List (Nat × MapEntry))
  | 0, _ => []
  | fuel + 1, l =>
    match l with
    | [] => []
    | e :: _ =>
      let run := (l.zipIdx.takeWhile (fun p => p.1.1 = e.1 + p.2)).map (·.1)
      mapPieces (run.length + 1) run ++ moveRuns fuel (l.drop run.length)

/-- Body of a map record (R82). -/
def mapBody (es : List (Nat × MapEntry)) (foldNo time : Nat) : Bytes :=
  let first := match es with | e :: _ => e.1 | [] => 0
  fitTo 4048 (le 8 first ++ le 2 es.length ++ zeros 6 ++ le 8 foldNo ++ le 8 time ++ zeros 32
    ++ (es.map (fun e => le 8 (entryWord e.2))).flatten)

/-- Body of a commit, delete or hold record (R63). -/
def commitBody (key : Bytes) (legal imported : Bool) (extents : List (Nat × Nat × Nat)) (valueLen target time retain : Nat) : Bytes :=
  fitTo 4048 (fitTo 16 key ++ [BitVec.ofNat 8 key.length, BitVec.ofNat 8 (b2n legal + 2 * b2n imported)] ++ le 2 extents.length
    ++ le 4 valueLen ++ le 8 target ++ le 8 time ++ le 8 retain ++ zeros 16
    ++ (extents.map (fun e => le 8 (e.1 * 2 ^ 56 + e.2.1 * 2 ^ 36 + e.2.2))).flatten)

/-- Puts the commit time into a body (R63). -/
def timedBody (body : Bytes) (t : Nat) : Bytes := body.take 32 ++ le 8 t ++ body.drop 40

/-- A moved object's body with the hold its source has now (R95 step 1). -/
def heldBody (body : Bytes) (e : IndexEntry) : Bytes :=
  body.take 17 ++ [BitVec.ofNat 8 (b2n e.legalHold + 2 * b2n e.imported)] ++ slice body 18 22 ++ le 8 e.retainUntil ++ body.drop 48

/-- Adds a record to a value's extents: runs stay whole over what a record skips at a Band end (R64, R81). -/
def addExtent (l : List (Nat × Nat × Nat)) (m sector count : Nat) : List (Nat × Nat × Nat) :=
  match l.reverse with
  | (m', c, st) :: t =>
    if m' = m && st + c ≤ sector && sector ≤ st + c + 256 && (sector - 262144) / 262144 = (st - 262144) / 262144
      then t.reverse ++ [(m, sector + count - st, st)]
    else l ++ [(m, count, sector)]
  | [] => [(m, count, sector)]

/-! ### Conditions and refusals -/

/-- An object is held (R69). -/
def State.objHeld (s : State) (e : IndexEntry) : Bool :=
  e.legalHold || (decide (0 < e.retainUntil) && (!s.clk.locked || decide (s.dev < e.retainUntil)))

/-- No bed takes new writes while the peer is there in Dormant or Dark: owner and standby are to be Awake both, or the peer Held
or absent (R17, R26). -/
def State.bedTakes (s : State) : Bool := (s.shelf.peerState ≠ 1 && s.shelf.peerState ≠ 2) || s.gus.declared

/-- Status with which a bed refuses a command outright (R107, R113, R114), 0 where it does not. -/
def Bed.refuses (x : Bed) (modifies : Bool) : Nat :=
  if x.st = 3 then Status.bedOffline
  else if x.st = 4 && modifies then Status.writeProtected
  else if x.noMeta && modifies then Status.namespaceNotReady
  else 0

/-- The index region has no free page for a key that needs a new one (R76). -/
def Bed.noIndexRoom (x : Bed) (nsid : Nat) (key : Bytes) : Bool :=
  decide (x.eIdx * 262144 ≤ x.index.length) &&
    (let used := (x.index.map (fun e => Config.indexPage e.nsid e.key)).eraseDups
     decide (x.eIdx * 262144 ≤ used.length) && !used.contains (Config.indexPage nsid key))

/-! ### Effects -/

def State.setIndex (s : State) (b : Nat) (l : List IndexEntry) : State :=
  let s := s.modBed b (fun x => { x with index := l })
  (s.setFld (F.OBJ_LIVE_LO_LIVE_LO b) (l.length % 2 ^ 32)).setFld (F.OBJ_LIVE_HI_LIVE_HI b) (l.length / 2 ^ 32)

/-- The records of a command are all on their members (or covered, R100). -/
def Bed.cmdWritten (x : Bed) (arr kind : Nat) : Bool := x.staged.all (fun r => r.cmd ≠ arr || r.kind ≠ kind || r.written)

def mapPut (t : Tab MapEntry) (es : List (Nat × MapEntry)) : Tab MapEntry :=
  es.foldl (fun t e => if entryWord e.2 = 0 then t.del e.1 else t.put e.1 e.2) t

/-- The first of some members with room for `n` records in one Band. -/
def Bed.roomOn (x : Bed) (n : Nat) : List Nat → Option (Nat × Bed)
  | [] => none
  | m :: ms =>
    let y := x.makeRoom m n
    if (match y.members.get? m with | some z => z.full | none => true) then y.roomOn n ms else some (m, y)

/-- Moves the append point of a write's member to a Band with room for its map records, and makes that Band ready (R82, R84, R88;
assumption 65): `none` where no space is free, otherwise whether the records may be put. -/
def State.mapRoom (s : State) (b arr n : Nat) : Option (State × Bool) :=
  match s.bed? b, s.cmd? arr with
  | some x, some r =>
    match r.runMember x with
    | none => none
    | some m0 =>
      match x.roomOn n (m0 :: (x.byAppend.map (·.2)).filter (· ≠ m0)) with
      | none => none
      | some (m, y) =>
        let s := (s.setBed b y).mod arr (fun q => { q with work := { q.work with member := some m } })
        some (s.openBand b ((match y.members.get? m with | some z => z.append | none => 0) / y.h) [])
  | _, _ => none

/-- An internal command of a compaction or rewrap, for which no host waits (R95, R155). -/
def CmdRec.isMove (r : CmdRec) : Bool := !r.work.moveFrom.isEmpty || r.work.moveSerial.isSome

/-- Commit or map records of a command that may issue them now: conflicts resolved and data records written (R61, R82). -/
def State.advance (s : State) (b arr : Nat) : State :=
  match s.cmd? arr, s.bed? b with
  | some r, some x =>
    if (r.phase ≠ .board && r.phase ≠ .working) || s.blocked arr || s.eptReading r.cap || r.work.commitIssued || !x.cmdWritten arr 1
        || !(r.work.mapToWrite || r.work.commitToWrite) then s
    else
    -- the record that follows is sealed: its job has its turn, and a move's waits for the key (R142, R146)
    let (s, go) := s.sealTurn arr
    if !go || (s.keyNow.isNone && r.isMove) then s
    else if s.keyNow.isNone then s.noKey b arr
    else if r.work.mapToWrite && !r.work.moveFrom.isEmpty
        && !(r.work.moveFrom.any (fun e => (x.map.getD r.nsid .empty).get? e.1 = some e.2)) then
      s.refuse b arr 0
    else if r.work.commitToWrite && (match r.work.moveSerial with
        | some q => !x.index.any (fun e => e.nsid = r.nsid && e.serial = q) | none => false) then
      s.refuse b arr 0
    else if r.work.mapToWrite then
      -- a move keeps only the units whose source is still in place (R95 step 1)
      let keep := r.work.mapDelta.filter (fun e => r.work.moveFrom.isEmpty || r.work.moveFrom.any (fun f => f.1 = e.1 && (x.map.getD r.nsid .empty).get? f.1 = some f.2))
      let s := s.mod arr (fun q => { q with work := { q.work with mapDelta := keep } })
      let ps := moveRuns (keep.length + 1) keep
      let n := ps.length
      match s.mapRoom b arr n with
      | none => s.refuse b arr Status.capacityExceeded
      | some (s, false) => s
      | some (s, true) =>
      let s := s.mod arr (fun q => { q with work := { q.work with mapToWrite := false, commitIssued := true } })
      let s := s.setPhase arr .working
      let step := fun (acc : Option State) (p : List (Nat × MapEntry) × Nat) =>
        match acc with
        | none => none
        | some s =>
          let body := mapBody p.1 ((match s.bed? b with | some x => x.fold | none => 0) + 1) s.dev
          (s.putRecord b arr 3 magicMap 0 4048 (r.serial.getD 0) body (p.2 + 1 = n)).map (·.1)
      match (ps.zipIdx).foldl step (some s) with
      | some s => s
      | none => s.refuse b arr Status.capacityExceeded
    else if r.work.commitToWrite then
      let live := fun (k : Bytes) => idxFind x.index r.nsid k
      let fail := fun (st : Nat) => s.refuse b arr st
      let issue := fun (kind : Nat) (body : Bytes) (w : CmdWork) =>
        let s := s.mod arr (fun q => { q with work := { w with commitToWrite := false, commitIssued := true, member := (if kind = 1 then q.work.member else x.fill.foldl (fun m i => match m with | none => some i | some j => some (min i j)) none) } })
        let s := s.setPhase arr .working
        match s.putRecord b arr 2 magicCommit kind 4048 (r.serial.getD 0) body false with
        | some (s, m, sector) =>
          s.mod arr (fun q => { q with work := { q.work with idxPut := q.work.idxPut.map (fun e => if kind = 1 then { e with member := m, sector := sector, storedSectors := e.storedSectors + 1 } else e) } })
        | none => s.refuse b arr Status.capacityExceeded
      if r.work.moveSerial.isSome then
        match x.index.find? (fun e => e.nsid = r.nsid && r.work.moveSerial = some e.serial) with
        | some e => issue 1 (heldBody r.work.commitBody e) { r.work with
            idxPut := r.work.idxPut.map (fun p => { p with legalHold := e.legalHold, retainUntil := e.retainUntil }) }
        | none => fail 0
      else
      match r.cmd with
      | some (.store _ k _ me mne _) =>
        match live (kvBytes k) with
        | some e =>
          if mne then fail Status.keyExists
          else if s.objHeld e then fail Status.retentionHeld
          else issue 1 (timedBody r.work.commitBody s.dev) { r.work with idxPut := r.work.idxPut.map (fun p => { p with commitTime := s.dev }) }
        | none =>
          if me then fail Status.keyDoesNotExist
          else if 2 ^ 33 ≤ x.index.length || x.noIndexRoom r.nsid (kvBytes k) then fail Status.capacityExceeded
          else issue 1 (timedBody r.work.commitBody s.dev) { r.work with idxPut := r.work.idxPut.map (fun p => { p with commitTime := s.dev }) }
      | some (.importRecord _ k _ _ _ _) =>
        match live (kvBytes k) with
        | some _ => fail Status.keyExists
        | none =>
          if 2 ^ 33 ≤ x.index.length || x.noIndexRoom r.nsid (kvBytes k) then fail Status.capacityExceeded
          else issue 1 (timedBody r.work.commitBody s.dev) { r.work with idxPut := r.work.idxPut.map (fun p => { p with commitTime := s.dev }) }
      | some (.delete _ k) =>
        match live (kvBytes k) with
        | none => fail Status.keyDoesNotExist
        | some e =>
          if s.objHeld e then fail Status.retentionHeld
          else issue 2 (commitBody e.key e.legalHold e.imported [] e.valueLen e.serial s.dev e.retainUntil) { r.work with idxPut := some e, idxDel := true }
      | some (.hold _ k action t) =>
        match live (kvBytes k) with
        | none => fail Status.keyDoesNotExist
        | some e =>
          if action = 2 && t < e.retainUntil then fail Status.retentionHeld
          else
            let e' := { e with
              legalHold := if action = 0 then true else if action = 1 then false else e.legalHold
              retainUntil := if action = 2 then t else e.retainUntil }
            issue 3 (commitBody e.key e'.legalHold e.imported [] e.valueLen e.serial s.dev e'.retainUntil) { r.work with idxPut := some e', idxDel := false }
      | _ => s
    else s
  | _, _ => s

/-- Lets every command of a bed go on, in arrival order. -/
def State.advanceAll (s : State) (b : Nat) : State := (s.cmdsOf b).foldl (fun s arr => s.advance b arr) s

/-- The command has taken effect or has its data; its completion follows (R41, R45). -/
def State.effect (s : State) (b arr dw0 : Nat) : State := ((s.setPhase arr .effect).finish arr 0 dw0 0).advanceAll b

/-- The map delta of a write applies, in one step (R41 rule 2). -/
def State.applyMap (s : State) (b arr : Nat) : State :=
  match s.cmd? arr, s.bed? b with
  | some r, some x =>
    if r.phase ≠ .working || !r.work.commitIssued || r.work.mapDelta.isEmpty || !x.cmdWritten arr 3 || s.blocked arr then s
    else
      let t := mapPut (x.map.getD r.nsid .empty) r.work.mapDelta
      let x' : Bed := { x with map := x.map.put r.nsid t, mapDirty := (r.work.mapDelta.map (fun (e : Nat × MapEntry) => (r.nsid, e.1 / 504)) ++ x.mapDirty).eraseDups, ckpts := x.ckpts.map (fun c => { c with waits := c.waits.filter (· ≠ arr) }) }
      let s := s.setBed b x'.sweepStaged
      let s := (moveRuns (r.work.mapDelta.length + 1) r.work.mapDelta).foldl (fun s p =>
        s.delta b (.mapPut r.nsid (match p with | e :: _ => e.1 | [] => 0) (p.map (·.2)))) s
      s.effect b arr 0
  | _, _ => s

/-- Pinned pages beyond the cache start a checkpoint as Cistern pressure does (R65, R88). -/
def State.pinPressure (s : State) (b : Nat) : State :=
  match s.bed? b with
  | none => s
  | some x =>
    if sumN (s.beds.vals.map (fun y => y.pinnedPages.length)) ≤ s.idxPages then s
    else match x.oldestOpen with
      | some k => s.forceClose b [k]
      | none => s.startPages b

/-- The index delta of a commit, delete or hold record applies (R61 step 5). -/
def State.applyIndex (s : State) (b arr : Nat) : State :=
  match s.cmd? arr, s.bed? b with
  | some r, some x =>
    if r.phase ≠ .working || !r.work.commitIssued || r.work.idxPut.isNone || !x.cmdWritten arr 2 || s.blocked arr then s
    else
      match r.work.idxPut with
      | none => s
      | some e =>
        let s := s.setIndex b (if r.work.idxDel then idxDel x.index e.nsid e.key else idxPut x.index e)
        let s := s.modBed b (fun y =>
          let y' : Bed := { y with
            pinned := (Config.indexPage e.nsid e.key :: y.pinned).eraseDups
            ckpts := y.ckpts.map (fun c => { c with waits := c.waits.filter (· ≠ arr) }) }
          y'.sweepStaged)
        let s := s.delta b (if r.work.idxDel then .indexDel e else .indexPut e)
        (s.effect b arr 0).pinPressure b
  | _, _ => s

/-! ### The way of a capsule to its command -/

/-- A move to that state is being carried out. -/
def State.movingTo (s : State) (t : ShelfSt) : Bool :=
  match s.shelf.move with
  | some m => decide (m.target = t)
  | none => false

/-- The bed and namespace a command names, from its association's subsystem (R33, R55). -/
def State.target (s : State) (cap : Cap) (nsid : Nat) : Option (Nat × Namespace) :=
  match s.assoc? cap.assoc, s.cfg.data.ns.get? nsid with
  | some a, some n => if a.bed = some n.bed && n.attached.contains cap.assoc then some (n.bed, n) else none
  | _, _ => none

/-- Where an I/O command stands after it has arrived or is taken up again: refused, waiting, parked, or in the scoreboard and
free to run. -/
inductive Taken where
  | stop (s : State)
  | go (s : State) (arr bed : Nat) (n : Namespace)

/-- The command is for a bed that is self-fenced or being handed over: its capsule is dropped (R233, R390). -/
def State.capFenced (s : State) (cap : Cap) : Bool :=
  match s.bedOf cap with
  | some b => s.fencedBed b || s.gus.handover = some b
  | none => false

/-- Some earlier command of the namespace has not entered the scoreboard: a later one waits before it (R41 rule 5). -/
def State.earlierOut (s : State) (arr nsid : Nat) : Bool :=
  s.cmd.cmds.entries.any (fun e => e.1 < arr && e.2.nsid = nsid && !e.2.isAdmin &&
    (e.2.phase = .waiting || e.2.phase = .held || e.2.phase = .parked))

/-- A new write that has to wait for the peer's state (R26): one that has not entered the scoreboard, or was parked and has not
yet issued a member write. -/
def State.writeWaits (s : State) (r : CmdRec) (c : NvmeCmd) : Bool :=
  NvmeCmd.modifies c && !s.bedTakes && !r.work.begun && (r.phase = .held || r.phase = .parked || r.work.parked)

/-- Intake has stopped for the command: in Dormant, and on the way out of Awake for one that arrived after the change began (R25)
or has been waiting for the peer. -/
def State.intakeOff (s : State) (r : CmdRec) (c : NvmeCmd) : Bool :=
  s.shelf.st = .dormant || (match s.shelf.move with
    | some m => (m.target = .dormant || m.target = .dark) && r.phase = .held && (decide (m.since ≤ r.time) || s.writeWaits r c)
    | none => false)

/-- Takes an I/O command in (R35, R40, R41 rule 5, R46, R49): `bad` is the status of a field check that its own bytes fail. -/
def State.take (s : State) (cap : Cap) (nsid : Nat) (c : NvmeCmd) (bad : Nat) : Taken :=
  if s.capFenced cap || s.shelf.st = .held then .stop s
  else if s.shelf.st = .dark && (s.findCap cap).isNone then .stop (s.darkCapsule s.outPort cap false)
  else
  let (s, arr) := match s.findCap cap with
    | some (arr, _) => (s.mod arr (fun r => { r with cmd := some c, nsid := nsid }), arr)
    | none => s.arrive cap nsid (some c) [] false
  match s.cmd? arr with
  | none => .stop s
  | some r =>
    if s.coreStop || r.slot.isNone || r.phase = .effect || r.phase = .done then .stop s
    else if s.shelf.st = .dark then .stop (s.finish arr Status.shelfDark 0 0)
    else if s.intakeOff r c then
      (if r.phase = .parked then .stop s
       else if s.movingTo .dark then .stop (s.finish arr Status.shelfDark 0 0)
       else .stop (s.park arr))
    else if bad ≠ 0 then .stop (s.finish arr bad 0 0)
    else match s.target cap nsid with
      | none => .stop (s.finish arr Status.invalidNamespace 0 0)
      | some (b, n) =>
        match s.bed? b with
        | none => .stop (s.finish arr Status.namespaceNotReady 0 0)
        | some x =>
          let refuse := x.refuses (NvmeCmd.modifies c)
          -- the effect of the former owner's record stands (R240)
          if x.stands.contains cap then
            .stop ((s.setBed b { x with stands := x.stands.filter (· ≠ cap) }).finish arr 0 0 0)
          else if refuse ≠ 0 && r.phase ≠ .working then .stop (s.finish arr refuse 0 0)
          else if s.writeWaits r c || ((r.phase = .held || r.phase = .parked) && s.earlierOut arr nsid) then .stop s
          else
            let s := if r.phase = .held || r.phase = .parked then s.enterBoard arr else s
            .go s arr b n

/-- The same where drives answered reads in the course of the step: they were issued and are counted. -/
def State.takeR (s : State) (media : List MediaRead) (cap : Cap) (nsid : Nat) (c : NvmeCmd) (bad : Nat) : Taken :=
  match s.take cap nsid c bad with
  | .stop s => .stop s
  | .go s arr b n =>
    let s := s.countReads b media
    -- a member may have failed by the reads that it answered, and the bed gone offline
    match s.cmd? arr with
    | some r => if r.phase = .board || r.phase = .working then .go s arr b n else .stop s
    | none => .stop s

/-- Marks the commit point of a read: its first data goes to the host (R43). -/
def State.beginWork (s : State) (arr : Nat) : State :=
  match s.cmd? arr with
  | some r => if r.phase = .board then (s.setPhase arr .working).cmdDelta arr else s
  | none => s

end Sys2Proof.Machine
end

