-- ==== Sys2Proof/Machine/Ckpt.lean ====
section
/-! DEFINITION. What checkpoints, mounts and rebuilds write, folding as a sequence, moves of compaction and rewrap, the
mount and the recovery walk (R66, R67, R77–R79, R87–R95, R100, R155). -/

namespace Sys2Proof.Machine

/-! ### Selvage structures (R65, R75–R79, R83) -/

/-- A superblock sector (R77). -/
def superBytes (x : Bed) (b m owner : Nat) (clean : Bool) : Bytes :=
  let ser := match x.members.get? m with | some y => y.serial | none => []
  let gen := match x.members.get? m with | some y => y.sbGen | none => 0
  let role := if m = 0 then 0 else if m = 1 then 1 else 2
  let w := le 2 0x4E53 ++ [1, BitVec.ofNat 8 role, BitVec.ofNat 8 b, BitVec.ofNat 8 m, 0, 0] ++ le 8 x.bedId ++ le 8 owner
    ++ fitTo 20 ser ++ zeros 4 ++ le 8 gen ++ le 8 x.serial ++ le 8 x.ckptSnap
    ++ le 8 x.ckptCount ++ le 8 x.ckptTime ++ [BitVec.ofNat 8 x.snapSlot, BitVec.ofNat 8 (b2n clean)]
  let w := fitTo 4092 w
  w ++ le 4 (crc32c w)

/-- An index page (R65). -/
def indexPageBytes (x : Bed) (pg : Nat) : Bytes := entriesPage pg (x.index.filter (fun e => Config.indexPage e.nsid e.key = pg))

/-- A map page (R83). -/
def mapPageBytes (x : Bed) (nsid p : Nat) : Bytes :=
  let t := x.map.getD nsid .empty
  let body := ((List.range 504).map (fun i => le 8 (match t.get? (p * 504 + i) with | some e => entryWord e | none => 0))).flatten
  let hd := le 4 nsid ++ zeros 4 ++ le 8 (p * 504) ++ zeros 44
  hd ++ le 4 (crc32c (hd ++ zeros 4 ++ body)) ++ body

/-- A Band table page (R79). -/
def tablePage (x : Bed) (p : Nat) : Bytes :=
  ((List.range 512).map (fun i =>
    let k := x.band (p * 512 + i)
    le 8 (bandWord k.gen k.st k.retired))).flatten

/-- Parity members that are present (R107). -/
def Bed.parityMembers (x : Bed) : List Nat := [0, 1].filter (fun m => x.memberSt m = 0 || x.memberSt m = 2)

/-- Writes both superblock copies of a member, under the next generation of its own (R77); `f` gives what they say of the last
checkpoint. -/
def State.putSuper (s : State) (b m : Nat) (clean : Bool) (f : Bed → Bed) : State :=
  match s.bed? b with
  | none => s
  | some x =>
    let x := x.modMember m (fun y => { y with sbGen := y.sbGen + 1 })
    let w := superBytes (f x) b m (s.bedRec b).owner clean
    ((s.setBed b x).announcedWrite b m 0 w (.metaWrite 9)).announcedWrite b m 262143 w (.metaWrite 9)

/-- The dirty-Band bitmap as it lies in MRAM, for a snapshot slot. -/
def State.bitmapBytes (s : State) (b : Nat) : Bytes := s.mram.readN (0x1000000 + 0x200000 * b) 0x200000

/-- What the superblocks say once a checkpoint has completed: its snapshot, count, time and bitmap slot (R77). -/
def Bed.checkpointed (x : Bed) (snap time : Nat) : Bed :=
  { x with snapSlot := 1 - x.snapSlot % 2, ckptCount := x.ckptCount + 1, ckptTime := time, ckptSnap := snap }

/-- Writes the pages changed since the last checkpoint, the bitmap into the slot not written last, and both superblock copies, to
each parity member present (R90 step 4, R107). -/
def State.putPages (s : State) (b snap : Nat) : State :=
  match s.bed? b with
  | none => s
  | some x =>
    let s := x.parityMembers.foldl (fun s m =>
      let s := x.pinned.foldl (fun s pg => s.announcedWrite b m (262144 + pg) (indexPageBytes x pg) (.metaWrite 5)) s
      let s := x.mapDirty.foldl (fun s p =>
        s.announcedWrite b m (262144 * (1 + x.eIdx) + Config.mapPage p.1 p.2) (mapPageBytes x p.1 p.2) (.metaWrite 6)) s
      let s := x.tblDirty.foldl (fun s p => s.announcedWrite b m (2048 + p) (tablePage x p) (.metaWrite 7)) s
      s.announcedWrite b m (1024 + 512 * (1 - x.snapSlot % 2)) (s.bitmapBytes b) (.metaWrite 8)) s
    x.parityMembers.foldl (fun s m => s.putSuper b m false (fun x => x.checkpointed snap s.dev)) s

/-- The last writes of a checkpoint begin (R90 step 4): its pages stay pinned until they have completed, and nothing is said of it
before then (R65, R66). -/
def State.ckptMeta (s : State) (b : Nat) (c : Ckpt) : State :=
  (s.putPages b c.snap).modBed b (fun x => { x with
    ckpts := x.ckpts.map (fun e => if e.bands = c.bands then { c with phase := 4, idx := x.pinned, maps := x.mapDirty, tbls := x.tblDirty, time := s.dev } else e)
    pinned := [], mapDirty := [], tblDirty := [] })

/-- Step 5: the dirty bits of the Bands clear where every record written was folded before S and its write has completed, and
none was issued after S (R91). -/
def State.clearDirty (s : State) (b : Nat) (c : Ckpt) : State :=
  c.bands.foldl (fun s k =>
    match s.bed? b with
    | none => s
    | some x =>
      let y := x.band k
      if y.sinceSnap || y.lateFold || x.staged.any (fun r => r.band = k && r.issued && !(r.written && r.folded)) then s
      else (s.setDirty b k false).delta b (.dirtyCleared k y.gen)) s

/-- Some of the commands have neither applied their delta nor failed (R90 step 3). -/
def State.stillOpen (s : State) (l : List Nat) : Bool :=
  l.any (fun arr => match s.cmd? arr with | some r => decide (r.phase = .working) | none => false)

/-- A checkpoint that waits for an earlier one writes its pages when its turn comes: they write in the order of their snapshots,
so that F_S never falls (assumption 65). -/
def State.ckptGo (s : State) (b : Nat) : State :=
  match s.bed? b with
  | none => s
  | some x =>
    match x.ckpts.head? with
    | some c => if c.phase = 3 && !s.stillOpen c.waits then s.ckptMeta b c else s
    | none => s

/-- A checkpoint has ended, in full or not: the next one goes on, forced closes that waited for it start, and an offline bed
settles (R90, R100, R113). -/
def State.ckptOver (s : State) (b : Nat) (c : Ckpt) : State :=
  let s := s.modBed b (fun x => { x with ckpts := x.ckpts.filter (fun d => d.bands ≠ c.bands) })
  let s := (s.actEnd 5 (some b) (c.bands.headD 0)).ckptGo b
  let again := match s.bed? b with | some x => c.bands.filter (fun k => (x.band k).closeWanted && (x.band k).st = 1) | none => []
  (s.forceClose b again).settleOffline b

/-- A checkpoint is complete: its pages are clean, Bands take their next state; records covered for a failed member count as
written (R65, R77, R88, R90, R100). -/
def State.endCkpt (s : State) (b : Nat) (c : Ckpt) : State :=
  let s := s.modBed b (fun x => { x.checkpointed c.snap c.time with cached := (c.idx ++ x.cached).eraseDups })
  let s := c.bands.foldl (fun s k =>
    match s.bed? b with
    | none => s
    | some x =>
      let y := x.band k
      let moved := c.snap < y.lastFold
      let st := if moved && c.after ≠ 3 then 1 else c.after
      let y := { y with st := st, stopped := false, ckptAt := if st = 1 then some (s.now + sec (s.intervalS b)) else none
                        acc := if c.free && !moved then none else y.acc }
      let x := x.setBand k y
      let x := if st = 1 then x else x.touchBand k
      let x : Bed := { x with staged := x.staged.map (fun (r : Staged) =>
        if r.band = k && r.folded && decide (r.foldNo.getD 0 ≤ c.snap) && x.memberSt r.member ≠ 0 then { r with written := true } else r) }
      (s.setBed b x.sweepStaged).bandDelta b k) s
  ((s.trimCache b).ckptOver b c).advanceAll b

/-- A checkpoint ends before its step 5 (R90): its pages are changed still, and its Bands' intervals begin again (R66, R89). -/
def State.failCkpt (s : State) (b : Nat) (c : Ckpt) : State :=
  let t := some (s.now + sec (s.intervalS b))
  let s := s.modBed b (fun x => { x with
    pinned := (c.idx ++ x.pinned).eraseDups, mapDirty := (c.maps ++ x.mapDirty).eraseDups, tblDirty := (c.tbls ++ x.tblDirty).eraseDups
    bands := x.bands.mapV (fun k y => if c.bands.contains k then { y with stopped := false, ckptAt := if y.st = 1 then t else none } else y) })
  (s.ckptOver b c).advanceAll b

/-- The writes of a phase have completed: the next step of R90. A failed write ends the checkpoint without step 5. -/
def State.ckptNext (s : State) (b : Nat) (c : Ckpt) (ok : Bool) : State :=
  let s := { s with drv := { s.drv with cmds := s.drv.cmds.filterT (fun _ d => !(d.bed = b && (match d.purpose with | .parityWrite k => c.bands.contains k | .metaWrite _ => decide (c.phase = 4) | _ => false))) } }
  if !ok then s.failCkpt b c
  else if c.phase = 4 then (s.clearDirty b c).endCkpt b c
  else
    let s := if c.phase ≠ 2 then s else s.modBed b (fun x => { x with
      bands := x.bands.mapV (fun k y => if c.bands.contains k then { y with stopped := false } else y)
      ckpts := x.ckpts.map (fun e => if e.bands = c.bands then { e with phase := 3 } else e) })
    (s.ckptGo b).advanceAll b

/-- Bands that every data member's append offset has passed: their closing checkpoint starts (R88, R89). Failed, rebuilding and
full members are data members too, and count by the append offset they have. -/
def State.closePassed (s : State) (b : Nat) : State :=
  match s.bed? b with
  | none => s
  | some x =>
    let least := (x.members.entries.filter (fun e => 2 ≤ e.1)).foldl (fun m e => min m e.2.append) (2 ^ 40)
    let wait := (x.staged.filter (fun r => !r.folded)).map (·.band)
    let ks := x.openBands.filter (fun k => (k + 1) * x.h ≤ least && !(x.band k).stopped && !wait.contains k)
    ks.foldl (fun s k => s.startCkpt b [k] 3 true) s

/-! ### Folding as a sequence (R87, R88) -/

/-- Folds the first of some staged records whose Band can take it: one that has to wait does not hold up the records of other
Bands (R87, R88). -/
def State.foldFirst (s : State) (b : Nat) (media : List MediaRead) : List Staged → List Nat → State
  | [], _ => s
  | r :: rs, waits =>
    if waits.contains r.band then s.foldFirst b media rs waits
    else
      let (s, go) := s.openBand b r.band media
      if !go then s.foldFirst b media rs (r.band :: waits)
      else
        let s := s.foldRec b r
        -- a record of a member that has failed is covered by parity alone (R100)
        if (match s.bed? b with | some x => decide (x.memberSt r.member ≠ 0) | none => false) then s.forceClose b [r.band] else s

/-- Folds the first record of the bed that can be folded (R87), and takes up the Bands whose P and Q ranges were awaited. -/
def State.foldNext (s : State) (b : Nat) (media : List MediaRead) : State :=
  match s.bed? b with
  | none => s
  | some x =>
    if !x.owned then s
    else
      let s := s.foldFirst b media (x.staged.filter (fun r => !r.folded)) []
      let s := if media.isEmpty then s else
        (x.bands.keys.filter (fun k => (x.band k).reloadPending)).foldl (fun s k => (s.openBand b k media).1) s
      (s.advanceAll b).closePassed b

/-! ### Moves of compaction and rewrap (R95, R155) -/

/-- Records that a namespace's map names, once each: member, sector, first unit. -/
def mapRecords (t : Tab MapEntry) : List (Nat × Nat × Nat) :=
  (t.entries.map (fun e => (e.2.member, e.2.sector, e.1 - e.2.unit))).eraseDups

/-- Opens an internal command of a bed in the scoreboard (R95 step 1). -/
def State.openMove (s : State) (b nsid path : Nat) (c : NvmeCmd) : State × Nat :=
  let arr := s.cmd.arrival + 1
  let r : CmdRec :=
    { number := arr, cap := ⟨65536 + b, 0, arr % 65536⟩, nsid := nsid, cmd := some c, capsule := [], tick := s.gus.tick, time := s.now, slot := none
      phase := .held, serial := none, epoch := none, status := 0, dw0 := 0, dw1 := 0, discard := true, isAdmin := false, bare := false
      work := { CmdWork.init with path := path }, times := [], since := s.now }
  (State.enterBoard { s with cmd := { s.cmd with arrival := arr, cmds := s.cmd.cmds.put arr r } } arr, arr)

/-- A move's read, where the seal that follows has its key and its turn too; else the move is taken up again later (R142, R146). -/
def State.moveTurn (s : State) (n : Namespace) (nsid : Nat) (o : ReadOut) : State × ReadOut :=
  let t := s.cphTurn 15 [(n.tenant, nsid, n.epoch)]
  if o.status = 0 && o.waits.isEmpty && (!t.2 || s.keyNow.isNone) then (t.1, { ReadOut.init with held := true })
  else s.readTurn 15 o

/-- Moves the live units of one block record to a new place, re-sealed under the current epoch and not recompressed. -/
def State.moveUnits (s : State) (path b : Nat) (x : Bed) (nsid : Nat) (n : Namespace) (m sector u : Nat) (media : List MediaRead) : State :=
  let live := ((x.map.getD nsid .empty).entries.filter (fun e => e.2.member = m && e.2.sector = sector))
  if s.cmd.cmds.vals.any (fun r => r.cap.assoc = 65536 + b && r.work.moveFrom.any (fun e => e.2.member = m && e.2.sector = sector)) then s
  else
    let (s, o) := s.moveTurn n nsid (s.openRead b x m sector ⟨0, n.tenant, nsid, u⟩ media)
    let s := s.afterRead b u (s.jobBy 0 path) o
    if o.status ≠ 0 || o.waiting then s
    else
      let d := o.raw
      let k := leNat (slice d 28 4) / 65536
      let (s, arr) := s.openMove b nsid path (.write nsid (u * 16) (k * 16) .other)
      match (s.fixFill b).putRecord b arr 1 magicData ((d.getD 3 0).toNat) (leNat (slice d 28 4)) u o.data false with
      | none => s.refuse b arr Status.capacityExceeded
      | some (s, m', sec') =>
        (s.mod arr (fun q => { q with work := { q.work with
          mapDelta := live.map (fun e => (e.1, { e.2 with member := m', sector := sec' })), mapToWrite := true, moveFrom := live } })).advance b arr

/-- Opened chunk records of an object, in order: flags, original length, stored bytes, last; and what reading them gave. -/
def State.rawRun (s : State) (b : Nat) (x : Bed) (ex : Expect) (m : Nat) (media : List MediaRead) : Nat → Nat → Nat → List (Nat × Nat × Bytes × Bool) × ReadOut
  | 0, _, _ => ([], ReadOut.init)
  | fuel + 1, sector, stop =>
    if stop ≤ sector then ([], ReadOut.init)
    else match s.fetch b x m sector 1 media with
      | .got h _ _ =>
        if leNat (h.take 2) ≠ magicData then s.rawRun b x ex m media fuel (sector + 1) stop
        else
          let n := cdiv (48 + leNat (slice h 24 4)) 4096
          let o := s.openRead b x m sector ex media
          let (r, w) := s.rawRun b x ex m media fuel (sector + max 1 n) stop
          let fl := (o.raw.getD 3 0).toNat
          ((fl - (if bit fl 2 then 4 else 0), leNat (slice o.raw 28 4), o.data, bit fl 2) :: r, o.join w)
      | .wait ms => ([], { ReadOut.init with waits := ms })
      | .lost ms => ([], { ReadOut.init with status := Status.bedOffline, lost := some (2, x.bandOf m sector, ms) })

/-- The opened records of an object, by the extents of its commit record (R63). -/
def State.rawObject (s : State) (b : Nat) (x : Bed) (ex : Expect) (media : List MediaRead) (c : ReadOut) : List (Nat × Nat × Bytes × Bool) × ReadOut :=
  (commitExtents c.data).foldl (fun (acc : List (Nat × Nat × Bytes × Bool) × ReadOut) r =>
    let (l, w) := s.rawRun b x ex r.1 media (r.2.1 + 1) r.2.2 (r.2.2 + r.2.1)
    (acc.1 ++ l, acc.2.join w)) ([], c)

/-- The internal Store of a move: the records re-sealed at new places, and the commit record that waits for them. -/
def State.storeMoved (s : State) (path b : Nat) (e : IndexEntry) (raw : List (Nat × Nat × Bytes × Bool)) : State :=
  let (s, arr) := s.openMove b e.nsid path (.store e.nsid ⟨e.key.length, e.key⟩ e.valueLen true false .other)
  let sr := match s.cmd? arr with | some r => r.serial.getD 0 | none => 0
  let ep := match s.cmd? arr with | some r => r.epoch.getD 1 | none => 1
  let put := raw.foldl (fun (acc : Option (State × List (Nat × Nat × Nat) × Nat)) q =>
    match acc with
    | none => none
    | some (s, ext, k) =>
      match s.putRecord b arr 1 magicData (q.1 + (if q.2.2.2 then 4 else 0)) q.2.1 sr q.2.2.1 false with
      | none => none
      | some (s, m, sector) =>
        let cnt := cdiv (48 + q.2.2.1.length) 4096
        some (s, addExtent ext m sector cnt, k + cnt)) (some (s.fixFill b, [], 0))
  match put with
  | none => s.refuse b arr Status.capacityExceeded
  | some (s, ext, k) =>
    let body := commitBody e.key e.legalHold e.imported ext e.valueLen sr e.commitTime e.retainUntil
    (s.mod arr (fun q => { q with work := { q.work with
      idxPut := some { e with serial := sr, epoch := ep, storedSectors := k, extents := ext, spilled := q.work.spill }, idxDel := false, commitToWrite := true
      commitBody := body, moveSerial := some e.serial } })).advance b arr

/-- Moves one object by an internal Store: it takes a new serial and keeps key, value, hold and times (R95 step 1). -/
def State.moveObject (s : State) (path b : Nat) (x : Bed) (n : Namespace) (e : IndexEntry) (media : List MediaRead) : State :=
  if s.cmd.cmds.vals.any (fun r => r.cap.assoc = 65536 + b && r.work.moveSerial = some e.serial) then s
  else
    let ex : Expect := ⟨e.epoch, n.tenant, e.nsid, e.serial⟩
    let c := s.readRecord b x e.member e.sector ex media
    let by_ := s.jobBy 0 path
    let r := if c.status ≠ 0 || c.waiting then ([], c) else s.rawObject b x ex media c
    let (s, o) := s.moveTurn n e.nsid r.2
    let s := s.afterRead b e.serial by_ o
    if o.status ≠ 0 || o.waiting then s else s.storeMoved path b e r.1

/-- Sectors of an object, chunk runs and commit record, that lie in a Bolt row (R95). -/
def Bed.objectIn (x : Bed) (row : Nat) (e : IndexEntry) : Nat :=
  let inRow := fun (m sector : Nat) => decide (2 ≤ m ∧ (sector - x.base m) / 262144 = row)
  sumN ((e.extents.filter (fun r => inRow r.1 r.2.2)).map (fun r => r.2.1)) + b2n (inRow e.member e.sector)

/-- Live sectors of a Bolt row, as records that index and map name (R95); a block unit counts as its 16 sectors uncompressed,
because the map does not hold a record's length (assumption 42). -/
def Bed.liveIn (x : Bed) (row : Nat) : Nat :=
  16 * sumN (x.map.vals.map (fun t => (t.entries.filter (fun e => decide (2 ≤ e.2.member ∧ (e.2.sector - x.base e.2.member) / 262144 = row))).length))
    + sumN (x.index.map (x.objectIn row))

/-- The Sealed or Checkpointed row with the fewest live sectors. -/
def Bed.bestRow (x : Bed) : Option Nat :=
  let ok := (List.range x.rows).filter (fun r =>
    (x.rowBands r).any (fun k => (x.band k).st ≠ 0) && (x.rowBands r).all (fun k => (x.band k).st ≠ 1 && !(x.band k).retired))
  ok.foldl (fun m r => match m with | none => some r | some o => if x.liveIn r < x.liveIn o then some r else some o) none

def Bed.freeRows (x : Bed) : Nat := ((List.range x.rows).filter x.rowFree).length

/-- Starts the compaction of a row. -/
def State.beginCompact (s : State) (b : Nat) : State :=
  match s.bed? b with
  | none => s
  | some x =>
    match x.compact, x.bestRow with
    | none, some r => s.setBed b { x with compact := some { row := r, step := 1, from_ := 0, paused := false } }
    | _, _ => s

/-- The compaction check: free rows below FREE_MIN start one (R95, R97). -/
def State.checkCompact (s : State) (b : Nat) : State :=
  let s := s.applyFld (F.BED_CFG_FREE_MIN b)
  match s.bed? b with
  | none => s
  | some x =>
    if x.compact.isSome || !x.owned || x.st = 3 || x.st = 4 || max 1 (s.fld (F.BED_CFG_FREE_MIN b)) ≤ x.freeRows || x.bestRow.isNone
      || s.mnt.acts.any (fun a => a.code = 6 && a.bed = some b) then s
    else
      let (s, v, _) := s.arrivalOf 6 (some b) 0 false none
      if v = 0 || v = 3 then s.beginCompact b else s

/-- Moves of every live record of the row (R95 steps 1 and 2): the fill set, P and Q are powered, and the members they are read
from (R86). -/
def State.moveRow (s : State) (b row : Nat) (media : List MediaRead) : State :=
  let s := (((s.fixFill b).wakeFill b).wakeMember b 0).wakeMember b 1
  match s.bed? b with
  | none => s
  | some x =>
    let inRow := fun (m sector : Nat) => 2 ≤ m && (sector - x.base m) / 262144 = row
    let s := x.map.entries.foldl (fun s t =>
      match s.cfg.data.ns.get? t.1 with
      | some n => ((mapRecords t.2).filter (fun r => inRow r.1 r.2.1)).foldl (fun s r => s.moveUnits 4 b x t.1 n r.1 r.2.1 r.2.2 media) s
      | none => s) s
    (x.index.filter (fun e => x.objectIn row e ≠ 0)).foldl (fun s e =>
      match s.cfg.data.ns.get? e.nsid with
      | some n => s.moveObject 4 b x n e media
      | none => s) s

/-- Steps 4–6: the row's ranges are deallocated on every member and its Bands become Empty with a new generation. -/
def State.reclaimRow (s : State) (b row : Nat) : State :=
  match s.bed? b with
  | none => s
  | some x =>
    let s := (x.rowBands row).foldl (fun s k => s.setDirty b k true) s
    let s := (List.range x.n).foldl (fun s m => s.driveCmd b m .dealloc (x.base m + row * 262144) 262144 [] .dealloc) s
    let s := (x.rowBands row).foldl (fun s k =>
      let s := s.modBed b (fun x =>
        let y := x.band k
        let y : Band := if 0xFFFFFFFF ≤ y.gen then { y with retired := true } else { Band.init with gen := y.gen + 1 }
        (x.setBand k y).touchBand k)
      s.bandDelta b k) s
    let s := match s.bed? b with
      | some y => y.parityMembers.foldl (fun s m => y.tblDirty.foldl (fun (s : State) p => s.announcedWrite b m (2048 + p) (tablePage y p) (.metaWrite 7)) s) s
      | none => s
    let s := s.modBed b (fun x => { x with
      tblDirty := [], compact := none
      members := x.members.mapV (fun m y => if y.full then
        (match x.freeBolt m x.rows with | some r => { y with full := false, append := r * 262144 } | none => y) else y) })
    let s := (x.rowBands row).foldl (fun s k => (s.setDirty b k false).delta b (.dirtyCleared k (x.band k).gen)) s
    s.actEndAny 6 (some b)

/-! ### Mount and recovery (R67, R92, R93, R98) -/

/-- What the recovery walk of one member's Band finds, in sector order (R67, R93): serial, kind, body, epoch, place. A record
that does not open has kind 0xFF and the status and reason as its body: it is skipped (R146). -/
structure Walked where
  serial : Nat
  kind : Nat
  tenant : Nat
  nsid : Nat
  epoch : Nat
  member : Nat
  sector : Nat
  body : Bytes
  deriving DecidableEq, Repr

def walkBand (kd : Option Bytes) (floor : Nat → Nat) (x : Bed) (m gen : Nat) (media : List MediaRead) : Nat → Nat → Nat → List Walked
  | 0, _, _ => []
  | fuel + 1, sector, stop =>
    if stop ≤ sector then []
    else match mediaGet media m sector 1 with
      | some (.data h) =>
        let mg := leNat (h.take 2)
        if mg = magicData then walkBand kd floor x m gen media fuel (sector + max 1 (cdiv (48 + leNat (slice h 24 4)) 4096)) stop
        else if mg = magicCommit || mg = magicMap then
          let ns := leNat (slice h 12 4)
          let o := openRecord kd (floor ns) (recordIv m sector gen) ⟨0, leNat (slice h 8 4), ns, leNat (slice h 16 8)⟩ h
          let rest := walkBand kd floor x m gen media fuel (sector + 1) stop
          if o.status = 0 then
            ⟨leNat (slice h 16 8), if mg = magicMap then 0x10 else (h.getD 3 0).toNat, leNat (slice h 8 4), ns, leNat (slice h 4 4), m, sector, o.out⟩ :: rest
          else ⟨leNat (slice h 16 8), 0xFF, leNat (slice h 8 4), ns, leNat (slice h 4 4), m, sector, [BitVec.ofNat 8 o.status, BitVec.ofNat 8 o.reason]⟩ :: rest
        else walkBand kd floor x m gen media fuel (sector + 1) stop
      | _ => walkBand kd floor x m gen media fuel (sector + 1) stop

/-- Counts the jobs of a walk (R146, R158), path 6 of R409; kind 0xFF is a record that did not open. -/
def State.walkJobs (s : State) (b : Nat) (ws : List Walked) : State :=
  ws.foldl (fun s w =>
    let (st, why) := if w.kind = 0xFF then ((w.body.getD 0 0).toNat, (w.body.getD 1 0).toNat) else (0, 0)
    s.ownJob (s.jobBy 0 6) b ⟨false, st, why, 0, w.serial, (w.tenant, w.nsid, w.epoch), 4096, 0⟩) s

/-- The compression mode of a recovered object: that of its first chunk record, where the walk has read it; else Mode P for an
imported value and the namespace's own for another, none for a value of size 0 (R71; assumption 65). -/
def modeFound (media : List MediaRead) (modeD : Bool) (body : Bytes) : Nat :=
  match commitExtents body with
  | [] => 0
  | (m, _, sector) :: _ =>
    match mediaGet media m sector 1 with
    | some (.data h) => if leNat (h.take 2) = magicData then (h.getD 3 0).toNat % 4 else if bit (body.getD 17 0).toNat 1 then 2 else b2n modeD
    | _ => if bit (body.getD 17 0).toNat 1 then 2 else b2n modeD

/-- A value whose runs lie on more than one member was laid in pieces (R85; assumption 65). -/
def spilledFound (body : Bytes) : Bool := decide (1 < ((commitExtents body).map (·.1)).eraseDups.length)

/-- Applies one kept commit, delete or hold record to the index (R67): the index, and whether the record was applied. -/
def replayOne (media : List MediaRead) (modeD : Nat → Bool) (l : List IndexEntry) (w : Walked) : List IndexEntry × Bool :=
  let key := (w.body.take 16).take (w.body.getD 16 0).toNat
  let fl := (w.body.getD 17 0).toNat
  let target := leNat (slice w.body 24 8)
  let old := idxFind l w.nsid key
  if w.kind = 1 then
    let e : IndexEntry :=
      { nsid := w.nsid, key := key, legalHold := bit fl 0, imported := bit fl 1, spilled := spilledFound w.body, valueLen := leNat (slice w.body 20 4)
        serial := w.serial, member := w.member, sector := w.sector, retainUntil := leNat (slice w.body 40 8)
        commitTime := leNat (slice w.body 32 8), epoch := w.epoch
        storedSectors := 1 + sumN ((commitExtents w.body).map (·.2.1)), mode := modeFound media (modeD w.nsid) w.body
        extents := commitExtents w.body }
    match old with
    | some o => if o.serial < w.serial then (idxPut l e, true) else (l, false)
    | none => (idxPut l e, true)
  else match old with
    | some o =>
      if o.serial ≠ target then (l, false)
      else if w.kind = 2 then (idxDel l w.nsid key, true)
      else (idxPut l { o with legalHold := bit fl 0, retainUntil := leNat (slice w.body 40 8) }, true)
    | none => (l, false)

/-- Applies kept records in the order given: the index, and the number applied (R67). -/
def replayIndex (media : List MediaRead) (modeD : Nat → Bool) (l : List IndexEntry) (ws : List Walked) : List IndexEntry × Nat :=
  ws.foldl (fun acc w =>
    let r := replayOne media modeD acc.1 w
    (r.1, acc.2 + b2n r.2)) (l, 0)

/-- The namespace compresses what it stores (R55). -/
def State.modeDOf (s : State) (nsid : Nat) : Bool := match s.cfg.data.ns.get? nsid with | some n => n.modeD | none => false

/-- What the commit records of every Band that is not Empty say (R65, R67). -/
def State.scanBed (s : State) (x : Bed) (media : List MediaRead) : List Walked :=
  let floor := fun (n : Nat) => (s.epochsOf n).1
  let ks := (List.range x.bandCount).filter (fun k => (x.band k).st ≠ 0)
  ks.flatMap (fun k => x.dataMembers.flatMap (fun m =>
    walkBand s.keyNow floor x m (x.band k).gen media (x.h + 1) (x.base m + k * x.h) (x.base m + (k + 1) * x.h)))

/-- The index they make, in serial order. -/
def State.scanIndex (s : State) (media : List MediaRead) (ws : List Walked) : List IndexEntry :=
  (replayIndex media s.modeDOf [] ((sortBy (fun p q => decide (p.serial ≤ q.serial)) ws).filter (fun w => w.kind ≠ 0x10 && w.kind ≠ 0xFF))).1

/-- Applies one kept map record over the map (R93 step 4). -/
def replayMap (t : Tab (Tab MapEntry)) (w : Walked) : Tab (Tab MapEntry) :=
  let first := leNat (w.body.take 8)
  let n := leNat (slice w.body 8 2)
  let es := (List.range n).map (fun i =>
    let v := leNat (slice w.body (64 + 8 * i) 8)
    (first + i, (⟨v / 2 ^ 56 % 256, v / 2 ^ 52 % 16, v % 2 ^ 36⟩ : MapEntry)))
  t.put w.nsid (mapPut (t.getD w.nsid .empty) es)

/-- Append offsets persisted in the tick state of a bed: the copy with the higher generation (R349). -/
def State.tickCopy (s : State) (b : Nat) : Bytes :=
  let a := s.mram.readN (0x1801000 + 0x1000 * b) 2048
  let c := s.mram.readN (0x1801800 + 0x1000 * b) 2048
  if leNat (slice a 2036 8) < leNat (slice c 2036 8) then c else a

/-- Dirty Bands at a mount after an unclean stop, in the order of their resync: the union of the bits in both MRAM copies, one
of them where the other is lost, and every Band that is not Empty where both are, those of the snapshot first (R92–R94). -/
def State.mountDirty (s : State) (b : Nat) (x : Bed) (a : MountAnswer) : List Nat :=
  let own := if s.thm.formatted then [] else (List.range x.bandCount).filter (fun k => s.dirty b k)
  match a.peerDirty with
  | some p => (List.range x.bandCount).filter (fun k => own.contains k || p.contains k)
  | none =>
    if !s.thm.formatted then own
    else
      let all := (List.range x.bandCount).filter (fun k => s.dirty b k || (x.band k).st ≠ 0)
      all.filter a.snapshot.contains ++ all.filter (fun k => !a.snapshot.contains k)

/-- A 4 KiB structure whose magic and CRC-32C are right (R75). -/
def sectorGood (magic : Nat) (d : Bytes) : Bool :=
  d.length = 4096 && leNat (d.take 2) = magic && leNat (slice d 4092 4) = crc32c (d.take 4092)

/-- Of two copies of a structure, the valid one with the higher generation, which lies at byte `at_` (R75). -/
def newerCopy (magic at_ : Nat) (a b : Option Bytes) : Option Bytes :=
  match a.filter (sectorGood magic), b.filter (sectorGood magic) with
  | some d, some e => some (if leNat (slice d at_ 8) < leNat (slice e at_ 8) then e else d)
  | some d, none => some d
  | none, e => e

/-- The fields of a superblock (R77). -/
def superOf (d : Bytes) : Superblock :=
  { bedId := leNat (slice d 8 8), index := (d.getD 5 0).toNat, serial := slice d 24 20, objSerial := leNat (slice d 56 8)
    fold := leNat (slice d 64 8), gen := leNat (slice d 48 8), ckptCount := leNat (slice d 72 8), ckptTime := leNat (slice d 80 8)
    snapSlot := (d.getD 88 0).toNat % 2, clean := d.getD 89 0 = 1 }

/-- The superblock of a member: `none` where neither copy is valid. -/
def superFound (a : MemberAnswer) : Option Superblock := (newerCopy 0x4E53 48 a.super0 a.super1).map superOf

/-- The bed description with the highest valid generation across all members (R75, R99 step 3). -/
def descFound (a : MountAnswer) : Option Bytes :=
  a.members.foldl (fun o m => newerCopy 0x4E42 40 o (newerCopy 0x4E42 40 m.desc0 m.desc1)) none

/-- The bed as a description says (R78), where that is newer than what is known. -/
def Bed.described (x : Bed) (d : Bytes) : Bed :=
  if leNat (slice d 40 8) ≤ x.descGen then x
  else
    let n := (d.getD 3 0).toNat
    let ent := fun (t : Tab Member) (m : Nat) =>
      let e := slice d (64 + 64 * m) 64
      let y := t.getD m { slot := 255, st := 0, sectors := 0, serial := [], eui := 0, append := 0, full := false, single := false, ures := []
                          failedAt := 0, idleAt := none, descGen := 0, offPending := false, sbGen := 0, skipped := [] }
      t.put m { y with slot := (e.getD 0 0).toNat, st := (e.getD 3 0).toNat % 4, sectors := leNat (slice e 8 8), serial := slice e 16 20, eui := leNat (slice e 36 8) }
    { x with
      n := n, hMib := leNat (slice d 4 4), e := leNat (slice d 8 4), eIdx := leNat (slice d 12 4), bandCount := leNat (slice d 16 4)
      fillW0 := (d.getD 20 0).toNat, openMax0 := (d.getD 21 0).toNat, spill0 := (d.getD 22 0).toNat, st := (d.getD 23 0).toNat
      bedId := leNat (slice d 24 8), created := leNat (slice d 32 8), descGen := leNat (slice d 40 8)
      members := (List.range n).foldl ent x.members }

/-- The conditions of R98, cause 9, on one member's answer: a valid superblock of this bed and place, the drive of the member
table, and its capacity. -/
def Bed.mounts (x : Bed) (m : Nat) (y : Member) (a : MemberAnswer) : Bool :=
  match superFound a with
  | some sb => sb.bedId = x.bedId && sb.index = m && fitTo 20 a.serial = fitTo 20 y.serial && decide (y.sectors ≤ a.sectors)
  | none => false

/-- One page, from P or, where it fails its CRC there, from Q (R93 step 1). -/
def Bed.pageOf {α : Type} (x : Bed) (c : Option α × Option α) : Option α :=
  match if x.metaAt 0 then c.1 else none with
  | some d => some d
  | none => if x.metaAt 1 then c.2 else none

/-- Entries of a map page (R83). -/
def mapPageRead (t : Tab (Tab MapEntry)) (d : Bytes) : Tab (Tab MapEntry) :=
  let nsid := leNat (d.take 4)
  let first := leNat (slice d 8 8)
  t.put nsid (mapPut (t.getD nsid .empty) ((List.range 504).map (fun i =>
    let v := leNat (slice d (64 + 8 * i) 8)
    (first + i, (⟨v / 2 ^ 56 % 256, v / 2 ^ 52 % 16, v % 2 ^ 36⟩ : MapEntry)))))

/-- The structures as they lie on P and Q and in the tick state: index, map, Band table, counters, append offsets, and the cursor
of a rebuild (R77, R79, R93, R108, R349). -/
def State.loadBed (s : State) (b : Nat) (x : Bed) (a : MountAnswer) : Bed :=
  let sup := a.members.filterMap (fun m => (superFound m).map (fun v => (m.member, v)))
  let sbs := (sup.filter (fun p => p.1 < 2)).map (·.2)
  let all := sup.map (·.2)
  let top := sbs.foldl (fun o v => match o with | none => some v | some w => if w.ckptCount < v.ckptCount then some v else o) none
  let t := s.tickCopy b
  let good := fun (d : Option Bytes) => d.filter pageGood
  { x with
    bands := a.bands.foldl (fun t k =>
      let st := k.2 / 2 ^ 32 % 4
      t.put k.1 { Band.init with gen := k.2 % 2 ^ 32, st := if st = 1 then 2 else st, retired := bit k.2 34 }) .empty
    index := ((a.index.filterMap x.pageOf).flatten).foldl idxPut []
    map := (a.map.filterMap (fun c => x.pageOf (good c.1, good c.2))).foldl mapPageRead .empty
    cached := [], pinned := [], staged := [], ckpts := []
    fold := max x.fold (max (sbs.foldl (fun m v => max m v.fold) 0) (leNat (slice t 24 8)))
    serial := max (all.foldl (fun m v => max m v.objSerial) x.serial) (leNat (slice t 16 8))
    ckptSnap := match top with | some v => v.fold | none => 0
    snapSlot := match top with | some v => v.snapSlot | none => x.snapSlot
    ckptCount := match top with | some v => v.ckptCount | none => x.ckptCount
    ckptTime := match top with | some v => v.ckptTime | none => x.ckptTime
    members := x.members.mapV (fun i y => { y with
      append := max y.append (leNat (slice t (64 + 8 * i) 8))
      sbGen := match sup.find? (fun p => p.1 = i) with | some p => max y.sbGen p.2.gen | none => y.sbGen })
    rebuild := x.rebuild.map (fun r => if (t.getD 32 0).toNat = r.member then { r with cursor := leNat (slice t 36 4), slice := 0, flushing := false } else r) }

/-- Mounts a bed as its owner (R75, R93, R98): its description is the newest there is, members are judged by their superblocks, the
structures are taken from P or Q, and after an unclean stop the dirty Bands are walked and queued for resync. -/
def State.mountBed (s : State) (a : MountAnswer) : State :=
  let b := a.bed
  match s.bed? b with
  | none => s
  | some x =>
    if x.mounted || s.keyNow.isNone && s.rst.keyFail then s
    else
      let x := match descFound a with | some d => x.described d | none => x
      let s := (s.setBed b { x with owned := true, fenced := false, left := false, mounted := true }).ledSync
      let s := s.countReads b a.media
      let s := x.members.entries.foldl (fun s e =>
        if e.2.st ≠ 0 && e.2.st ≠ 2 then s
        else match a.members.find? (fun p => p.member = e.1) with
          | some p => if x.mounts e.1 e.2 p then s else s.memberFail b e.1 9
          | none => s) s
      match s.bed? b with
      | none => s
      | some x =>
        -- an index page of which both copies fail is for the service command (R65)
        let s := if a.index.any (fun c => (x.pageOf c).isNone) then s.bedEvent (0xA30 + b) 3 0x04 (bedCtx b 0xFF 0xFF 0 0 0 0) else s
        let x := s.loadBed b x a
        let all := a.members.filterMap superFound
        if !all.isEmpty && all.all (·.clean) then (s.setIndex b x.index |>.setBed b x).judgeBed b
        else
          let dirty := s.mountDirty b x a
          let s := dirty.foldl (fun s k => s.setDirty b k true) s
          let floor := fun (n : Nat) => (s.epochsOf n).1
          let ws := dirty.flatMap (fun k => x.dataMembers.flatMap (fun m =>
            walkBand s.keyNow floor x m (x.band k).gen a.media (x.h + 1) (x.base m + k * x.h) (x.base m + (k + 1) * x.h)))
          let s := s.walkJobs b ws
          let ws := sortBy (fun p q => decide (p.serial ≤ q.serial)) (ws.filter (fun w => w.kind ≠ 0xFF))
          let kept := ws.filter (fun w => w.kind ≠ 0x10)
          let maps := ws.filter (fun w => w.kind = 0x10)
          let idx := replayIndex a.media s.modeDOf x.index kept
          let mp := (maps.filter (fun w => x.ckptSnap < leNat (slice w.body 16 8))).foldl replayMap x.map
          let s := s.setFld F.OBJ_REPLAY_APPLIED idx.2
          let s := s.setBed b { x with
            index := idx.1, map := mp, serial := ws.foldl (fun m w => max m w.serial) x.serial, resync := dirty
            pinned := (kept.map (fun w => Config.indexPage w.nsid ((w.body.take 16).take (w.body.getD 16 0).toNat))).eraseDups
            mapDirty := (maps.flatMap (fun w =>
              (List.range (leNat (slice w.body 8 2))).map (fun i => (w.nsid, (leNat (w.body.take 8) + i) / 504)))).eraseDups }
          let s := (s.setIndex b idx.1).judgeBed b
          if dirty.isEmpty then s else (s.arrivalOf 4 (some b) 0 false none).1

/-- Writes the superblocks of every member at a mount or a clean unmount, on data members with the bitmap snapshot (R75, R77). -/
def State.superAll (s : State) (b : Nat) (clean : Bool) : State :=
  match s.bed? b with
  | none => s
  | some x =>
    ((List.range x.n).filter (fun m => x.memberSt m = 0 || x.memberSt m = 2)).foldl (fun s m =>
      let t := s.putSuper b m clean id
      if m < 2 then t else t.announcedWrite b m 1024 (s.bitmapBytes b) (.metaWrite 8)) s

end Sys2Proof.Machine
end

