-- ==== Sys2Proof/Machine/IoCmds.lean ====
section
/-! DEFINITION. I/O commands of block and key-value namespaces (R36, R41–R45, R56–R71, R82, R107). The operands are the
command's fields, the data fetched for it, and what the drives answer in the course of the step. -/

namespace Sys2Proof.Machine

/-! ### Data pointers (R37, R197) -/

/-- Status of a data pointer for a transfer of `len` bytes; 0 where it is accepted. A descriptor shorter than the transfer
is a Data SGL Length Invalid (assumption 15). -/
def State.dptrBad (s : State) (cap : Cap) (d : DataPtr) (len : Nat) : Nat :=
  let fn0 := match s.assoc? cap.assoc with | some a => a.fn0 | none => false
  match d with
  | .inCapsule n => if fn0 then Status.sglType else if n < len || 8192 < n then Status.sglLength else 0
  | .keyed _ _ n => if fn0 then Status.sglType else if n < len then Status.sglLength else 0
  | .window key off n =>
    if fn0 then Status.sglType
    else match s.winOf key with
      | some (_, w) =>
        if w.assoc ≠ cap.assoc || w.revoking then Status.accessDenied
        else if w.sizeMib * 1048576 < off + n || n < len then Status.sglLength else 0
      | none => Status.accessDenied
  | .prp n => if !fn0 then Status.sglType else if n < len then Status.sglLength else 0
  | .segments n => if !fn0 then Status.sglType else if n < len then Status.sglLength else 0
  | .other => Status.sglType

/-- The bytes a command transfers in: a window's own bytes, or what the fetch returned. -/
def State.fetched (s : State) (d : DataPtr) (len : Nat) (data : Bytes) : Bytes :=
  match d with
  | .window key off _ => match s.winOf key with | some (_, w) => w.mem.readN off len | none => fitTo len data
  | _ => fitTo len data

/-- LBA Out of Range (assumption 15). -/
def lbaRange : Nat := 0x4080

/-- Range check of a block command. -/
def State.lbaBad (s : State) (nsid slba nlb : Nat) : Nat :=
  match s.cfg.data.ns.get? nsid with
  | some n => if n.kv then Status.invalidOpcode else if nlb = 0 || 65536 < nlb then Status.invalidField else if n.lbas < slba + nlb then lbaRange else 0
  | none => 0

def firstBad (a b : Nat) : Nat := if a ≠ 0 then a else b

/-! ### Block commands -/

/-- A write that has entered the scoreboard: its data is fetched, sealed, staged and written to new space (R41 rule 4, R82). -/
def State.runWrite (s : State) (arr b : Nat) (n : Namespace) (cap : Cap) (slba nlb : Nat) (d : DataPtr) (data : Bytes) (media : List MediaRead) : State :=
  match s.cmd? arr, s.bed? b with
  | some r, some x =>
    if r.phase ≠ .board || !r.work.mapDelta.isEmpty then s.advance b arr
    else
      let u0 := slba / 16
      let u1 := (slba + nlb + 15) / 16
      let cutHead := slba % 16 ≠ 0
      let cutTail := (slba + nlb) % 16 ≠ 0
      let cut := (if cutHead then [u0] else []) ++ (if cutTail then [u1 - 1] else [])
      let (t, go) := s.ingestTurn arr n.modeD
      if !cut.isEmpty && (s.blocked arr || s.unitShared arr cut) then s
      else if !go then t
      else if t.keyNow.isNone then t.noKey b arr
      else
        let s := t
        let old := fun (u : Nat) => s.readUnit b x r.nsid n.tenant u media
        let o0 := if cutHead then old u0 else ReadOut.init
        let o1 := if cutTail && (u1 - 1 ≠ u0 || !cutHead) then old (u1 - 1) else if cutTail then o0 else ReadOut.init
        let (s, o) := s.readTurn (s.queueOf arr) { o0.join o1 with data := [] }
        let s := (s.afterRead b (r.serial.getD 0) (s.jobBy arr 2) o).noteRead arr o
        if o.waiting then s
        else if o.status ≠ 0 then s.refuse b arr o.status
        else
          let s := (s.fromHost cap d (nlb * 4096)).wakeFill b
          let host := s.fetched d (nlb * 4096) data
          let head := if cutHead then o0.data.take (slba % 16 * 4096) else []
          let tail := if cutTail then o1.data.drop ((slba + nlb) % 16 * 4096) else []
          let all := head ++ host ++ tail
          let recs := recordUnits (max 1 (n.chunk / 65536)) (u1 - u0 + 1) u0 u1
          let (s, cs) := State.ingestAll arr b n (recs.map (fun p => (p.1, slice all ((p.1 - u0) * 65536) (p.2 * 65536)))) (s.fixFill b)
          match cs with
          | none => s.refuse b arr Status.transformFailed
          | some cs =>
          match putUnits b arr ((recs.zip cs).map (fun p => (p.1.1, p.1.2, p.2))) s [] with
          | none => s.refuse b arr Status.capacityExceeded
          | some (s, es) =>
            (s.mod arr (fun q => { q with work := { q.work with mapDelta := es, mapToWrite := true } })).advance b arr
  | _, _ => s

/-- WRITE. -/
def execWrite (cap : Cap) (nsid slba nlb : Nat) (dptr : DataPtr) (data : Bytes) (media : List MediaRead) (s : State) : Outcome :=
  match s.takeR media cap nsid (.write nsid slba nlb dptr) (firstBad (s.lbaBad nsid slba nlb) (s.dptrBad cap dptr (nlb * 4096))) with
  | .stop s => .next s
  | .go s arr b n => .next (s.runWrite arr b n cap slba nlb dptr data media)

/-- Units that a block range covers, read and joined. -/
def State.readUnits (s : State) (b : Nat) (x : Bed) (nsid tenant : Nat) (media : List MediaRead) (u0 k : Nat) : ReadOut :=
  (List.range k).foldl (fun o i => o.join (s.readUnit b x nsid tenant (u0 + i) media)) ReadOut.init

/-- A read or verify that may run: its records are read and tag-checked (R41 rule 3, R43). -/
def State.runRead (s : State) (arr b : Nat) (n : Namespace) (cap : Cap) (slba nlb : Nat) (d : Option DataPtr) (media : List MediaRead) : State :=
  match s.cmd? arr, s.bed? b with
  | some r, some x =>
    if s.blocked arr then s
    else
      let u0 := slba / 16
      let (s, o) := s.readTurn (s.queueOf arr) (s.readUnits b x r.nsid n.tenant media u0 ((slba + nlb + 15) / 16 - u0))
      let s := (s.afterRead b 0 (s.jobBy arr (if d.isNone then 3 else 2)) o).noteRead arr o
      if o.held then s
      else if !o.waits.isEmpty then (if d.isNone then s.beginWork arr else s)
      else if o.status ≠ 0 then s.finish arr o.status 0 0 |>.advanceAll b
      else
        let s := s.beginWork arr
        let s := match d with
          | some p => s.toHost cap p (slice o.data (slba % 16 * 4096) (nlb * 4096))
          | none => s
        s.effect b arr 0
  | _, _ => s

/-- READ. -/
def execRead (cap : Cap) (nsid slba nlb : Nat) (dptr : DataPtr) (media : List MediaRead) (s : State) : Outcome :=
  match s.takeR media cap nsid (.read nsid slba nlb dptr) (firstBad (s.lbaBad nsid slba nlb) (s.dptrBad cap dptr (nlb * 4096))) with
  | .stop s => .next s
  | .go s arr b n => .next (s.runRead arr b n cap slba nlb (some dptr) media)

/-- VERIFY: the range is read and tag-checked and nothing is transferred. -/
def execVerify (cap : Cap) (nsid slba nlb : Nat) (media : List MediaRead) (s : State) : Outcome :=
  match s.takeR media cap nsid (.verify nsid slba nlb) (s.lbaBad nsid slba nlb) with
  | .stop s => .next s
  | .go s arr b n => .next (s.runRead arr b n cap slba nlb none media)

/-- Map entries that deallocate ranges: whole units become zero (R82, R83). -/
def zeroUnits (rs : List (Nat × Nat)) : List (Nat × MapEntry) :=
  let us := rs.flatMap (fun r => (List.range ((r.1 + r.2) / 16 - (r.1 + 15) / 16)).map (fun i => (r.1 + 15) / 16 + i))
  us.eraseDups.map (fun u => (u, ⟨0, 0, 0⟩))

/-- Map records with zero entries. A unit that a range covers only in part keeps its other blocks, and a later read has zeros on
the overlap (R41): it is merged as a write's is (R82; assumption 16). -/
def State.runZero (s : State) (arr b : Nat) (n : Namespace) (rs : List (Nat × Nat)) (media : List MediaRead) : State :=
  match s.cmd? arr, s.bed? b with
  | some r, some x =>
    if r.phase ≠ .board || r.work.mapToWrite || !r.work.mapDelta.isEmpty then s.advance b arr
    else
      let rs := rs.filter (fun r => r.2 ≠ 0)
      let es := zeroUnits rs
      -- partly covered units: merged with their current data and written
      let parts := (rs.flatMap (fun r =>
          (if r.1 % 16 ≠ 0 then [r.1 / 16] else []) ++ (if (r.1 + r.2) % 16 ≠ 0 then [(r.1 + r.2) / 16] else []))).eraseDups
      let parts := parts.filter (fun u => !es.any (fun e => e.1 = u))
      let parts := parts.filter (fun u => (x.map.getD r.nsid .empty).has u)
      if !parts.isEmpty && (s.blocked arr || s.unitShared arr parts) then s
      else
        let (t, go) := if parts.isEmpty then (s, true) else s.ingestTurn arr n.modeD
        if !go then t
        else if !parts.isEmpty && t.keyNow.isNone then t.noKey b arr
        else
        let (s, o) := t.readTurn (t.queueOf arr) (parts.foldl (fun o u => o.join (t.readUnit b x r.nsid n.tenant u media)) ReadOut.init)
        let s := (s.afterRead b (r.serial.getD 0) (s.jobBy arr 2) o).noteRead arr o
        if o.waiting then s
        else if o.status ≠ 0 then s.refuse b arr o.status
        else
          let inR := fun (lba : Nat) => rs.any (fun r => r.1 ≤ lba && lba < r.1 + r.2)
          let blank := fun (i u : Nat) => ((List.range 16).map (fun j =>
            if inR (u * 16 + j) then zeros 4096 else slice o.data (i * 65536 + j * 4096) 4096)).flatten
          let (s, cs) := State.ingestAll arr b n ((parts.zipIdx).map (fun p => (p.1, blank p.2 p.1))) (s.fixFill b)
          match cs with
          | none => s.refuse b arr Status.transformFailed
          | some cs =>
          match putUnits b arr ((parts.zip cs).map (fun p => (p.1, 1, p.2))) s [] with
          | none => s.refuse b arr Status.capacityExceeded
          | some (s, l) =>
            let all := sortBy (fun a c => decide (a.1 ≤ c.1)) (es ++ l)
            if all.isEmpty then (if s.blocked arr then s else s.effect b arr 0)
            else (s.mod arr (fun q => { q with work := { q.work with mapDelta := all, mapToWrite := true } })).advance b arr
  | _, _ => s

/-- WRITE_ZEROES. -/
def execWriteZeroes (cap : Cap) (nsid slba nlb : Nat) (media : List MediaRead) (s : State) : Outcome :=
  match s.takeR media cap nsid (.writeZeroes nsid slba nlb) (s.lbaBad nsid slba nlb) with
  | .stop s => .next s
  | .go s arr b n => .next (s.runZero arr b n [(slba, nlb)] media)

/-- DATASET_MANAGEMENT: attribute Deallocate with up to 256 ranges; without it nothing is done. -/
def execDatasetManagement (cap : Cap) (nsid : Nat) (deallocate : Bool) (req : DsmReq) (s : State) : Outcome :=
  let bad := match s.cfg.data.ns.get? nsid with
    | some n => if n.kv then Status.invalidOpcode else if 256 < req.ranges.length then Status.invalidField
      else if req.ranges.any (fun r => decide (n.lbas < r.1 + r.2)) then lbaRange else 0
    | none => 0
  let bad := firstBad bad (s.dptrBad cap req.dptr (16 * req.ranges.length))
  match s.takeR req.media cap nsid (.dsm nsid deallocate req.ranges) bad with
  | .stop s => .next s
  | .go s arr b n => .next (if deallocate then s.runZero arr b n req.ranges req.media else s.effect b arr 0)

/-- FLUSH: waits for nothing but the ticks up to its own (R45); in Dormant it completes at once (R46). -/
def execFlush (cap : Cap) (nsid : Nat) (s : State) : Outcome :=
  if s.capFenced cap || s.shelf.st = .held then .next s
  else if s.shelf.st = .dark && (s.findCap cap).isNone then .next (s.darkCapsule s.outPort cap false)
  else
  let (s, arr) := match s.findCap cap with
    | some (arr, _) => (s, arr)
    | none => s.arrive cap nsid (some (.flush nsid)) [] false
  match s.cmd? arr with
  | none => .next s
  | some r =>
    if s.coreStop || r.slot.isNone || r.phase = .done then .next s
    else if s.shelf.st = .dark then .next (s.finish arr Status.shelfDark 0 0)
    else match s.target cap nsid with
      | none => .next (s.finish arr Status.invalidNamespace 0 0)
      | some (b, _) =>
        match s.bed? b with
        | some x => .next (s.finish arr (if x.st = 3 then Status.bedOffline else 0) 0 0)
        | none => .next (s.finish arr 0 0 0)

/-- An I/O command whose opcode is not supported: in Dormant it is parked as every other is (R46). -/
def State.unsupported (s : State) (cap : Cap) (nsid opcode : Nat) : State :=
  match s.take cap nsid (.admin opcode) Status.invalidOpcode with
  | .stop s => s
  | .go s _ _ _ => s

/-- IO_OPCODE_UNSUPPORTED. -/
def execIoOpcodeUnsupported (cap : Cap) (nsid opcode : Nat) (s : State) : Outcome := .next (s.unsupported cap nsid opcode)

/-- KV_OPCODE_UNSUPPORTED. -/
def execKvOpcodeUnsupported (cap : Cap) (nsid opcode : Nat) (s : State) : Outcome := .next (s.unsupported cap nsid opcode)

/-! ### Key-value commands (R56–R71) -/

/-- Field checks of a key-value command: the namespace's kind and the key's length (R56, R57). -/
def State.kvBad (s : State) (nsid : Nat) (k : KvKey) (emptyOk : Bool) : Nat :=
  match s.cfg.data.ns.get? nsid with
  | some n => if !n.kv then Status.invalidOpcode
    else if 16 < k.len || (k.len = 0 && !emptyOk) then Status.invalidKeySize else 0
  | none => 0

/-- Cuts a value into chunks and writes their records: the extents of its commit record, sectors and mode (R64, R123). -/
def putChunks (b arr serial : Nat) : List (Nat × Nat × Bytes × Bool) → State → List (Nat × Nat × Nat) → Nat →
    Option (State × List (Nat × Nat × Nat) × Nat)
  | [], s, ext, k => some (s, ext, k)
  | (flags, orig, pt, last) :: rest, s, ext, k =>
    match s.putRecord b arr 1 magicData (flags + (if last then 4 else 0)) orig serial pt false with
    | none => none
    | some (s, m, sector) =>
      let c := cdiv (48 + pt.length) 4096
      putChunks b arr serial rest s (addExtent ext m sector c) (k + c)

/-- Compressed chunks of a value: flags, original length, stored bytes, last. -/
def State.chunksOf (s : State) (arr b : Nat) (n : Namespace) (serial : Nat) (data : Bytes) : State × Option (List (Nat × Nat × Bytes × Bool)) :=
  let l := chunks (max 65536 n.chunk) data
  let r := State.ingestAll arr b n (l.map (fun c => (serial, c))) s
  (r.1, r.2.map (fun cs => ((l.zip cs).zipIdx).map (fun p => (p.1.2.1, p.1.1.length, p.1.2.2, decide (p.2 + 1 = l.length)))))

/-- Stores a value's chunks and prepares its commit record (R61, R64). -/
def State.storeValue (s : State) (arr b : Nat) (key : Bytes) (imported : Bool) (mode len : Nat) (cs : List (Nat × Nat × Bytes × Bool)) : State :=
  match s.cmd? arr with
  | none => s
  | some r =>
    let sr := r.serial.getD 0
    let s := (s.fixFill b).wakeFill b
    match putChunks b arr sr cs s [] 0 with
    | none => s.refuse b arr Status.capacityExceeded
    | some (s, ext, k) =>
      let e : IndexEntry :=
        { nsid := r.nsid, key := key, legalHold := false, imported := imported, spilled := r.work.spill, valueLen := len, serial := sr
          member := 0, sector := 0, retainUntil := 0, commitTime := s.dev, epoch := r.epoch.getD 1, storedSectors := k, mode := mode, extents := ext }
      let body := commitBody key false imported ext len sr s.dev 0
      (s.mod arr (fun q => { q with work := { q.work with idxPut := some e, idxDel := false, commitToWrite := true, commitBody := body } })).advance b arr

/-- STORE: chunk records, then the conditions, then the commit record. The object's compression mode, byte 33 of Object Info, is that
of its first chunk where its chunks have different ones, and 0 for a value of size 0: R71 gives one byte and names neither case
(assumption 65). -/
def execStore (cap : Cap) (nsid : Nat) (key : KvKey) (size : Nat) (mustExist mustNotExist : Bool) (dptr : DataPtr) (data : Bytes)
    (media : List MediaRead) (s : State) : Outcome :=
  let bad := firstBad (s.kvBad nsid key false) (firstBad (if mustExist && mustNotExist then Status.invalidField else 0)
    (if size = 0 then 0 else s.dptrBad cap dptr size))
  match s.takeR media cap nsid (.store nsid key size mustExist mustNotExist dptr) bad with
  | .stop s => .next s
  | .go s arr b n =>
    match s.cmd? arr, s.bed? b with
    | some r, some x =>
      if r.phase ≠ .board || r.work.commitToWrite || r.work.commitIssued then .next (s.advance b arr)
      else
        let (s, go) := s.ingestTurn arr (n.modeD && 0 < size)
        if !go then .next s
        else if s.keyNow.isNone then .next (s.noKey b arr)
        else
        let (s, look) := s.indexLook arr b x nsid (kvBytes key) media
        match look with
        | none => .next s
        | some (st + 1) => .next (s.refuse b arr (st + 1))
        | some 0 =>
          let s := s.fromHost cap dptr size
          let (s, cs) := s.chunksOf arr b n (r.serial.getD 0) (s.fetched dptr size data)
          match cs with
          | none => .next (s.refuse b arr Status.transformFailed)
          | some cs => .next (s.storeValue arr b (kvBytes key) false (match cs with | c :: _ => c.1 | [] => 0) size cs)
    | _, _ => .next s

/-- A key-value command that reads the index: the entry, once the page is at hand and nothing earlier conflicts. -/
def State.withEntry (s : State) (arr b nsid : Nat) (key : Bytes) (media : List MediaRead) (f : State → Bed → IndexEntry → State) : State :=
  match s.bed? b with
  | none => s
  | some x =>
    if s.blocked arr then s
    else
      let (s, look) := s.indexLook arr b x nsid key media
      match look with
      | none =>
        -- the first member read of an Exist is its commit point (R43)
        s.mod arr (fun r => { r with work := { r.work with begun := (match r.cmd with
          | some (.exist _ _) => s.reachable x 0 || s.reachable x 1
          | _ => r.work.begun) } })
      | some (st + 1) => (s.finish arr (st + 1) 0 0).advanceAll b
      | some 0 =>
        match idxFind x.index nsid key with
        | none => (s.finish arr Status.keyDoesNotExist 0 0).advanceAll b
        | some e => f s x e

/-- RETRIEVE. -/
def execRetrieve (cap : Cap) (nsid : Nat) (key : KvKey) (bufLen : Nat) (dptr : DataPtr) (media : List MediaRead) (s : State) : Outcome :=
  match s.takeR media cap nsid (.retrieve nsid key bufLen dptr) (firstBad (s.kvBad nsid key false) (if bufLen = 0 then 0 else s.dptrBad cap dptr bufLen)) with
  | .stop s => .next s
  | .go s arr b n =>
    .next (s.withEntry arr b nsid (kvBytes key) media (fun s x e =>
      let (s, o) := s.readTurn (s.queueOf arr) (s.readObject b x n.tenant e media)
      let s := (s.afterRead b e.serial (s.jobBy arr 2) o).noteRead arr o
      if o.waiting then s
      else if o.status ≠ 0 then (s.finish arr o.status 0 0).advanceAll b
      else ((s.beginWork arr).toHost cap dptr (o.data.take bufLen)).effect b arr e.valueLen))

/-- Entries of a List buffer that fit whole (R59). -/
def listFit : Nat → List Bytes → List Bytes
  | _, [] => []
  | room, k :: ks =>
    let e := padTo 4 (le 2 k.length ++ k)
    if room < e.length then [] else e :: listFit (room - e.length) ks

/-- Keys of a namespace from `k` on, in ascending order (R59). -/
def keysFrom (x : Bed) (nsid : Nat) (k : Bytes) : List Bytes :=
  ((x.index.filter (fun e => e.nsid = nsid)).map (·.key)).filter (fun j => !keyLt j k)

/-- LIST: the pages of the first key and of every key returned are looked up (R59, R65). -/
def execList (cap : Cap) (nsid : Nat) (key : KvKey) (bufLen : Nat) (dptr : DataPtr) (media : List MediaRead) (s : State) : Outcome :=
  let bad := firstBad (s.kvBad nsid key true) (firstBad (if bufLen < 4 then Status.invalidField else 0) (s.dptrBad cap dptr bufLen))
  match s.takeR media cap nsid (.list nsid key bufLen dptr) bad with
  | .stop s => .next s
  | .go s arr b _ =>
    match s.bed? b with
    | none => .next s
    | some x =>
      if s.blocked arr then .next s
      else
        let ks := keysFrom x nsid (kvBytes key)
        let es := listFit (bufLen - 4) ks
        let (s, look) := s.indexLooks arr b nsid (kvBytes key :: ks.take es.length) media
        match look with
        | none => .next s
        | some (st + 1) => .next ((s.finish arr (st + 1) 0 0).advanceAll b)
        | some 0 => .next (((s.beginWork arr).toHost cap dptr (le 4 es.length ++ es.flatten)).effect b arr es.length)

/-- A Delete or hold change: its one record follows once its conditions hold (R61). -/
def State.runRecord (s : State) (arr b nsid : Nat) (key : Bytes) (media : List MediaRead) : State :=
  match s.cmd? arr, s.bed? b with
  | some r, some x =>
    if r.phase ≠ .board || r.work.commitToWrite then s.advance b arr
    else
      let (s, look) := s.indexLook arr b x nsid key media
      match look with
      | none => s
      | some (st + 1) => s.refuse b arr (st + 1)
      | some 0 =>
        if s.keyNow.isNone then s.noKey b arr
        else ((s.fixFill b).mod arr (fun q => { q with work := { q.work with commitToWrite := true } })).advance b arr
  | _, _ => s

/-- DELETE. -/
def execDelete (cap : Cap) (nsid : Nat) (key : KvKey) (media : List MediaRead) (s : State) : Outcome :=
  match s.takeR media cap nsid (.delete nsid key) (s.kvBad nsid key false) with
  | .stop s => .next s
  | .go s arr b _ => .next (s.runRecord arr b nsid (kvBytes key) media)

/-- EXIST. -/
def execExist (cap : Cap) (nsid : Nat) (key : KvKey) (media : List MediaRead) (s : State) : Outcome :=
  match s.takeR media cap nsid (.exist nsid key) (s.kvBad nsid key false) with
  | .stop s => .next s
  | .go s arr b _ => .next (s.withEntry arr b nsid (kvBytes key) media (fun s _ _ => (s.beginWork arr).effect b arr 0))

/-- A Retention Hold of the given action (R69); action 3 is an invalid field. -/
def State.runHold (s : State) (cap : Cap) (nsid : Nat) (key : KvKey) (action until_ : Nat) (media : List MediaRead) : State :=
  match s.takeR media cap nsid (.hold nsid key action until_) (firstBad (s.kvBad nsid key false) (if 2 < action then Status.invalidField else 0)) with
  | .stop s => s
  | .go s arr b _ => s.runRecord arr b nsid (kvBytes key) media

/-- SET_LEGAL_HOLD: action 0. -/
def execSetLegalHold (cap : Cap) (nsid : Nat) (key : KvKey) (media : List MediaRead) (s : State) : Outcome :=
  .next (s.runHold cap nsid key 0 0 media)

/-- CLEAR_LEGAL_HOLD: action 1. -/
def execClearLegalHold (cap : Cap) (nsid : Nat) (key : KvKey) (media : List MediaRead) (s : State) : Outcome :=
  .next (s.runHold cap nsid key 1 0 media)

/-- SET_RETAIN_UNTIL: action 2. -/
def execSetRetainUntil (cap : Cap) (nsid : Nat) (key : KvKey) (until_ : Nat) (media : List MediaRead) (s : State) : Outcome :=
  .next (s.runHold cap nsid key 2 until_ media)

/-- Entries of an Import Record buffer: original length and stream; `none` where the buffer is not filled exactly (R70). Padding that
is not zero is passed over: the spec gives no status for it (assumption 66). -/
def importEntries : Nat → Bytes → Option (List (Nat × Bytes))
  | 0, bs => if bs.isEmpty then some [] else none
  | fuel + 1, bs =>
    if bs.isEmpty then some []
    else if bs.length < 8 then none
    else
      let l := leNat (bs.take 4)
      let n := 8 + (l + 7) / 8 * 8
      if bs.length < n then none
      else match importEntries fuel (bs.drop n) with
        | some es => some ((leNat (slice bs 4 4), slice bs 8 l) :: es)
        | none => none

/-- Status of the check job of one entry, 0 for OK: its descriptor is checked as every job's is (R70, R121). A stream of either mode
passes that decodes; the record is an imported one of mode 2 all the same, as R70 says of every entry (assumption 66). -/
def importCheck (e : Nat × Bytes) : Nat := (rillRestore 4 e.1 e.2).1

/-- A stream of an Import Record does not pass its check. -/
def importBad (es : List (Nat × Bytes)) : Bool := es.any (fun e => importCheck e ≠ 0)

/-- Counts the check jobs of the entries up to the first that fails, path 7 of R409. -/
def State.importJobs (s : State) (arr b serial : Nat) (es : List (Nat × Bytes)) : State :=
  let ok := es.takeWhile (fun e => importCheck e = 0)
  (es.take (ok.length + 1)).foldl (fun s e => s.ownJob (s.jobBy arr 7) b
    ⟨true, importCheck e, 4, 0, serial, (0, 0, 0), e.2.length, if importCheck e = 0 then e.1 else 0⟩) s

/-- The entries of an Import Record agree with the command: their number, the sum of their lengths, and each length (R70). -/
def importSizes (es : List (Nat × Bytes)) (origLen entries : Nat) : Bool :=
  es.length = entries && entries ≠ 0 && entries ≤ 65536 && sumN (es.map (·.1)) = origLen && es.all (fun e => e.1 ≠ 0 && e.1 ≤ 1048576)

/-- The imported entries, where the check jobs have their turn (`go`): the value is stored as it came (R70). -/
def State.importRun (s : State) (go : Bool) (arr b : Nat) (x : Bed) (serial nsid : Nat) (key : Bytes) (origLen : Nat)
    (es : List (Nat × Bytes)) (media : List MediaRead) : State :=
  if !go then s
  else if importBad es then (s.importJobs arr b serial es).refuse b arr Status.transformFailed
  else if s.keyNow.isNone then s.noKey b arr
  else
    let (s, look) := s.indexLook arr b x nsid key media
    match look with
    | none => s
    | some (st + 1) => s.refuse b arr (st + 1)
    | some 0 =>
      let cs := (es.zipIdx).map (fun e => (10, e.1.1, e.1.2, decide (e.2 + 1 = es.length)))
      (s.importJobs arr b serial es).storeValue arr b key true 2 origLen cs

/-- IMPORT_RECORD. -/
def execImportRecord (cap : Cap) (nsid : Nat) (key : KvKey) (bufLen origLen entries : Nat) (dptr : DataPtr) (data : Bytes)
    (media : List MediaRead) (s : State) : Outcome :=
  match s.takeR media cap nsid (.importRecord nsid key bufLen origLen entries dptr)
      (firstBad (s.kvBad nsid key false) (if bufLen = 0 then 0 else s.dptrBad cap dptr bufLen)) with
  | .stop s => .next s
  | .go s arr b _ =>
    match s.cmd? arr, s.bed? b with
    | some r, some x =>
      if r.phase ≠ .board || r.work.commitToWrite || r.work.commitIssued then .next (s.advance b arr)
      else
        let s := s.fromHost cap dptr bufLen
        let buf := s.fetched dptr bufLen data
        match importEntries (buf.length + 1) buf with
        | none => .next (s.refuse b arr Status.invalidField)
        | some es =>
          if importSizes es origLen entries = false then
            .next (s.refuse b arr Status.invalidField)
          else
            let t := s.ingestTurn arr true
            .next (t.1.importRun t.2 arr b x (r.serial.getD 0) nsid (kvBytes key) origLen es media)
    | _, _ => .next s

/-- The 64 bytes of Object Info (R71). -/
def objectInfo (e : IndexEntry) (held : Bool) : Bytes :=
  le 8 e.serial ++ le 4 e.valueLen ++ le 4 e.storedSectors ++ le 8 e.commitTime ++ le 8 e.retainUntil
    ++ [BitVec.ofNat 8 (b2n e.legalHold + 2 * b2n e.imported + 4 * b2n e.spilled + 8 * b2n held), BitVec.ofNat 8 e.mode,
        BitVec.ofNat 8 e.key.length, 0] ++ le 4 e.epoch ++ fitTo 16 e.key ++ zeros 8

/-- OBJECT_INFO. -/
def execObjectInfo (cap : Cap) (nsid : Nat) (key : KvKey) (bufLen : Nat) (dptr : DataPtr) (media : List MediaRead) (s : State) : Outcome :=
  let bad := firstBad (s.kvBad nsid key false) (firstBad (if bufLen < 64 then Status.invalidField else 0) (s.dptrBad cap dptr 64))
  match s.takeR media cap nsid (.objectInfo nsid key bufLen dptr) bad with
  | .stop s => .next s
  | .go s arr b _ =>
    .next (s.withEntry arr b nsid (kvBytes key) media (fun s _ e =>
      ((s.beginWork arr).toHost cap dptr (objectInfo e (s.objHeld e))).effect b arr 0))

/-! ### Deltas (R41, R61) -/

/-- The bed of a command in progress. -/
def State.cmdBed (s : State) (arr : Nat) : Option Nat := match s.cmd? arr with | some r => s.bedOf r.cap | none => none

/-- MAP_DELTA_APPLY. -/
def execMapDeltaApply (arrival : Nat) (s : State) : Outcome :=
  if s.coreStop then .next s else
  match s.cmdBed arrival with
  | some b => .next (s.applyMap b arrival)
  | none => .next s

/-- INDEX_DELTA_APPLY. -/
def execIndexDeltaApply (arrival : Nat) (s : State) : Outcome :=
  if s.coreStop then .next s else
  match s.cmdBed arrival with
  | some b => .next (s.applyIndex b arrival)
  | none => .next s

end Sys2Proof.Machine
end

