-- ==== Sys2Proof/Machine/BedCmds.lean ====
section
/-! DEFINITION. Events of a bed: drive commands (R86, R98–R101), folding and checkpoints (R87–R91), rebuild, resync and reclaim
(R94, R95, R107–R111). Each operand is what the event itself brings: a drive's answer, a status, a read's data. -/

namespace Sys2Proof.Machine

/-! ### Members by slot, admission of a replacement (R74, R110) -/

/-- Bed and member index of an active or rebuilding member in a slot. -/
def State.memberAt (s : State) (slot : Nat) (p : Nat → Bool) : Option (Nat × Nat) :=
  s.beds.entries.findSome? (fun e =>
    (e.2.members.entries.find? (fun m => m.2.slot = slot && p m.2.st)).map (fun m => (e.1, m.1)))

/-- Sectors a replacement must have (R110). -/
def Bed.needSectors (x : Bed) (m : Nat) : Nat :=
  262144 * ((if m < 2 then 1 + x.e else 1) + x.bandCount * x.h / 262144)

/-- The first condition of R74 and R110 that a drive fails, as the detail of R410; 0 where it fails none. -/
def refusal (d : DriveInfo) (need : Nat) (named : Bool) : Nat :=
  if !d.linksBoth then 1
  else if !d.nsOk then 2
  else if 2 ^ 36 < d.sectors then 3
  else if !d.zerosOk then 4
  else if !d.deallocOk then 5
  else if !d.reservOk then 6
  else if !d.durable then 7
  else if d.sectors < need then 8
  else if d.superblock.isSome && !named then 10
  else 0

/-- Writes both copies of the bed description of a member (R75, R78). -/
def State.writeDesc (s : State) (b m : Nat) : State :=
  match s.bed? b with
  | none => s
  | some x =>
    let s := (s.announcedWrite b m 8 (descBytes x) (.metaWrite 10)).announcedWrite b m 16 (descBytes x) (.metaWrite 10)
    s.modBed b (fun y => y.modMember m (fun z => { z with descGen := x.descGen }))

/-- R110: the drive is reserved, deallocated whole and its common head written, which ends activity 9 (R370); then its rebuild
is started or queued. -/
def State.admitNow (s : State) (b m slot : Nat) (d : DriveInfo) : State :=
  match s.bed? b with
  | none => s.actEnd 9 (some b) (m * 32 + slot)
  | some x =>
    let s := s.setBed b ((x.modMember m (fun y => { y with
      slot := slot, st := 2, sectors := d.sectors, serial := d.serial, eui := d.eui, single := false, ures := [], offPending := false
      descGen := 0, sbGen := 0, skipped := [] })).enqueue m)
    let s := s.ledSync.setChan slot { s.chan slot with auto := false }
    let s := (s.driveCmd b m .register 0 0 (le 8 s.fuses.serial) .reserve).driveCmd b m .acquire 0 0 [] .reserve
    let s := s.driveCmd b m .dealloc 0 d.sectors [] .dealloc
    let s := (s.putSuper b m false id).putDesc b
    let s := ((s.delta b (.memberState m 2)).judgeBed b).actEnd 9 (some b) (m * 32 + slot)
    s.tryRebuild b

/-- Admits a drive as replacement of a failed or removed member through the arbiter, as activity 9 (R110, R370): the verdict and
the handle of a deferred admission. -/
def State.admitDrive (s : State) (b m slot : Nat) (d : DriveInfo) (forced : Bool) (session : Option (Nat × Nat)) : State × Nat × Nat :=
  let arg := m * 32 + slot
  if s.deferred 9 (some b) arg then (s, 1, 0)
  else
    let (s, v, h) := s.arrivalOf 9 (some b) arg forced session
    (if v = 0 || v = 3 then s.admitNow b m slot d else s, v, h)

/-- The failed or removed member that a drive in `slot` replaces (R110): that of its own slot, else the one that failed
earliest where the slot belongs to no bed. -/
def State.replaces (s : State) (slot : Nat) : Option (Nat × Nat) :=
  match s.memberAt slot downSt with
  | some r => some r
  | none =>
    if (s.memberAt slot upSt).isSome then none
    else
      let l := s.beds.entries.flatMap (fun e =>
        (e.2.members.entries.filter (fun m => downSt m.2.st)).map (fun m => (m.2.failedAt, e.1, m.1)))
      (l.foldl (fun m e => match m with | none => some e | some f => if e.1 < f.1 then some e else some f) none).map (·.2)

/-- Automatic admission of a drive that has been identified (R110). -/
def State.consider (s : State) (slot : Nat) (d : DriveInfo) : State :=
  match s.replaces slot with
  | none => s
  | some (b, m) =>
    let s := s.applyFld (F.BED_RBCFG_AUTO b)
    match s.bed? b with
    | none => s
    | some x =>
      if !x.owned || s.shelf.st ≠ .awake || !s.flag (F.BED_RBCFG_AUTO b) then s
      else
        let c := refusal d (x.needSectors m) false
        if c ≠ 0 then s.bedEvent (0xA10 + slot) 0 (0x20 + c) (bedCtx b m slot 0 0 0 0)
        else (s.admitDrive b m slot d false none).1

/-! ### Drive commands -/

/-- A drive command succeeded. -/
def State.driveDone (s : State) (c : DriveCmd) (data : Bytes) : State :=
  match c.purpose with
  | .record arr =>
    let s := s.modBed c.bed (fun x =>
      { x with staged := x.staged.map (fun r => if r.cmd = arr && r.member = c.member && r.sector = c.sector then { r with written := true } else r) })
    let s := match s.bed? c.bed with
      | some x => s.delta c.bed (.writeDone c.member (x.bandOf c.member c.sector) (x.band (x.bandOf c.member c.sector)).gen c.sector c.count)
      | none => s
    let s := s.advanceAll c.bed
    (s.modBed c.bed Bed.sweepStaged).closePassed c.bed
  | .reserve => (s.setPort c.slot { s.port c.slot with reserved := true }).joinAsk c.bed
  | .proxy id => s.gusSend c.bed (.proxyResult id .success data) .nothing
  | .metaWrite _ => s.delta c.bed (.writeDone c.member 0 0 c.sector c.count)
  | _ =>
    match s.bed? c.bed with
    | some x =>
      if c.op = .write then s.delta c.bed (.writeDone c.member (x.bandOf c.member c.sector) (x.band (x.bandOf c.member c.sector)).gen c.sector c.count)
      else s
    | none => s

/-- The peer's key has replaced ours (R100, R235): the bed is self-fenced, its open commands are dropped. -/
def State.fencedOut (s : State) (b : Nat) : State :=
  let s := s.selfFenceBed b
  let s := (s.cmdsOf b).foldl (fun s arr => s.dropCmd arr) s
  let s := { s with drv := { s.drv with cmds := s.drv.cmds.filterT (fun _ c => c.bed ≠ b) } }
  s.modBed b (fun x => { x with staged := [] })

/-- DRIVE_COMMAND_COMPLETION (R98, R100, R101): the status of drive command `id`, and what a proxied read returned. -/
def execDriveCommandCompletion (id : Nat) (status : DriveStatus) (data : Bytes) (s : State) : Outcome :=
  if s.coreStop then .next (s.waitCores (.driveCommandCompletion id status data)) else
  match s.drv.cmds.get? id with
  | none => .next s
  | some c =>
    if c.st ≠ 2 then .next s else
    let s := { s with drv := { s.drv with cmds := s.drv.cmds.del id } }
    let s := (s.noteIdle c.bed c.member).histAdd 0x10 c.slot (s.now - (c.deadline - sec 8)) (fun _ => true)
    match c.purpose, status with
    | .proxy p, st => .next (s.gusSend c.bed (.proxyResult p st data) .nothing)
    | _, .success => .next (s.driveDone c data)
    | _, .reservationConflict => .next (s.fencedOut c.bed)
    | _, e =>
      if c.op = .write || c.op = .flush then
        if c.retried then .next (s.memberFail c.bed c.member 2)
        else
          let n := s.drv.nextId
          .next (State.issueDrive { s with drv := { s.drv with cmds := s.drv.cmds.put n { c with retried := true }, nextId := n + 1 } } n)
      else .next (if e = .error || c.purpose = .control then s.joinAsk c.bed else s.countUre c.bed c.member)

/-- DRIVE_COMMAND_TIMEOUT (R98): 8 s after its issue the command is aborted and the drive's controller reset; its commands
are issued again once the drive is ready. -/
def execDriveCommandTimeout (id : Nat) (s : State) : Outcome :=
  match s.drv.cmds.get? id with
  | none => .next s
  | some c =>
    if c.st ≠ 2 then .next s else
    let s := s.at c.deadline
    let s := if c.slot < 24 then s.bump (F.DRV_CNT_COUNT c.slot 1) 1 else s
    let send := fun (s : State) (op : DriveOp) =>
      if c.proxied then s.gusSend c.bed (.proxy id { c with op := op, data := [] }) .nothing else s.emit (.drive id { c with op := op, data := [] })
    .next ((State.setPort (send (send s .abort) .reset) c.slot
      { s.port c.slot with ready := false, readyAt := some (s.now + sec 20), resetting := true }).joinAsk c.bed)

/-- DRIVE_READY_TIMEOUT (R86, R98): cause 8, or 1 where a command timeout had reset the drive. -/
def execDriveReadyTimeout (slot : Nat) (s : State) : Outcome :=
  let p := s.port slot
  match p.readyAt with
  | none => .next s
  | some t =>
    let s := (s.at t).setPort slot { p with readyAt := none, resetting := false }
    match s.memberAt slot upSt with
    | some (b, m) => .next (s.memberFail b m (if p.resetting then 1 else 8))
    | none => .next s

/-- DRIVE_READY (R86, R99, R101, R110): the drive takes commands, a single-path one through the peer. Waiting writes go out, commands of a reset drive are issued
again, an older bed description is replaced, and a fit replacement is admitted. -/
def execDriveReady (slot : Nat) (info : DriveInfo) (s : State) : Outcome :=
  let lone := match (s.memberAt slot upSt).bind (fun p => (s.bed? p.1).bind (fun x => x.members.get? p.2)) with | some y => y.single | none => false
  let s := s.setPort slot { s.port slot with ready := !lone, readyAt := none, resetting := false, info := some info }
  match s.memberAt slot upSt with
  | none =>
    -- a drive powered for identification and not admitted is switched off again (R262)
    let s := s.consider slot info
    .next (if (s.chan slot).auto && (s.memberAt slot upSt).isNone then s.dropReq slot else s)
  | some (b, m) =>
    let open_ := (s.drv.cmds.filterT (fun _ c => c.bed = b && c.member = m && (lone || !c.proxied) && c.st ≠ 0)).keys
    let s := open_.foldl (fun s id => s.issueDrive id) s
    let s := match s.bed? b with
      | some x => if (match x.members.get? m with | some y => decide (y.descGen < x.descGen) | none => false) then s.writeDesc b m else s
      | none => s
    let s := (s.issueStaged b).noteIdle b m
    -- its SMART critical warning may fail it (R98)
    .next (if bit info.smart 2 || bit info.smart 3 then s.memberFail b m 4 else s)

/-- MEMBER_UNREACHABLE_TIMEOUT (R98): 5 s without a trained link on either controller. -/
def execMemberUnreachableTimeout (slot : Nat) (s : State) : Outcome :=
  let p := s.port slot
  match p.unreachAt with
  | none => .next s
  | some t =>
    let s := (s.at t).setPort slot { p with unreachAt := none }
    match s.memberAt slot upSt with
    | some (b, m) => .next (s.memberFail b m 5)
    | none => .next s

/-- PROXY_COMMAND (R101): the owner's command for a single-path member is issued on this controller's own link. -/
def execProxyCommand (id : Nat) (op : DriveOp) (slot sector count : Nat) (data : Bytes) (s : State) : Outcome :=
  match s.memberAt slot upSt with
  | none => .next s
  | some (b, m) =>
    let n := s.drv.nextId
    let c : DriveCmd :=
      { op := op, bed := b, member := m, slot := slot, sector := sector, count := count, data := data, purpose := .proxy id
        retried := false, deadline := s.now + sec 8, proxied := false, st := 0 }
    .next (State.issueDrive { s with drv := { s.drv with cmds := s.drv.cmds.put n c, nextId := n + 1 } } n)

/-- Our link to the drive of a slot is gone (R98, R101). With the peer's link the member is single-path and its open commands go
through the peer; without it the 5 s of R98 begin. -/
def State.driveLinkDown (s : State) (slot : Nat) (peerReaches : Bool) : State :=
  let p := s.port slot
  let s := if slot < 24 then s.bump (F.DRV_CNT_COUNT slot 3) 1 else s
  let s := s.setPort slot { p with
    link := false, speed := 0, width := 0, ready := false, readyAt := none, peerLink := peerReaches
    unreachAt := if peerReaches then none else some (s.now + sec 5) }
  match s.memberAt slot upSt with
  | none => s
  | some (b, m) =>
    if !peerReaches then s
    else
      let s := s.modBed b (fun x => x.modMember m (fun y => { y with single := true }))
      let open_ := (s.drv.cmds.filterT (fun _ c => c.bed = b && c.member = m && !c.proxied && c.st ≠ 0)).keys
      open_.foldl (fun s id =>
        (State.issueDrive { s with drv := { s.drv with cmds := s.drv.cmds.modify id (fun c => { c with proxied := true }) } } id)) s

/-- DRIVE_PORT_LINK_DOWN. -/
def execDrivePortLinkDown (slot : Nat) (peerReaches : Bool) (s : State) : Outcome := .next (s.driveLinkDown slot peerReaches)

/-- DRIVE_PORT_LINK_UP (R101, R399): the link trained again; a proxy ends. -/
def execDrivePortLinkUp (slot speed width : Nat) (s : State) : Outcome :=
  let p := s.port slot
  match s.memberAt slot upSt with
  | none => .next (s.setPort slot { p with link := true, speed := speed, width := width, unreachAt := none })
  | some (b, m) =>
    let was := match s.bed? b with | some x => (match x.members.get? m with | some y => y.single | none => false) | none => false
    let s := s.setPort slot { p with link := true, speed := speed, width := width, unreachAt := none, ready := p.ready || was }
    let s := s.modBed b (fun x => x.modMember m (fun y => { y with single := false }))
    .next (s.issueStaged b)

/-- MEMBER_IDLE_TIMEOUT (R86): not needed for IDLE_S seconds, the member is shut down and its power requests dropped. -/
def execMemberIdleTimeout (b m : Nat) (s : State) : Outcome :=
  match s.bed? b with
  | none => .next s
  | some x =>
    match x.members.get? m with
    | none => .next s
    | some y =>
      match y.idleAt with
      | none => .next s
      | some t =>
        let s := (s.at t).applyFld (F.BED_CKPT_IDLE_S b)
        let s := s.setBed b (x.modMember m (fun y => { y with idleAt := none }))
        if x.staged.any (fun r => r.member = m && !r.written) || s.drv.cmds.vals.any (fun c => c.bed = b && c.member = m)
            || (match x.rebuild with | some r => !r.paused | none => false) then .next s
        else
          let s := s.emit (.drive s.drv.nextId
            { op := .shutdown, bed := b, member := m, slot := y.slot, sector := 0, count := 0, data := [], purpose := .control
              retried := false, deadline := s.now, proxied := false, st := 2 })
          let s := s.setPort y.slot { s.port y.slot with ready := false }
          .next (s.memberOff b y.slot)

/-! ### Folds and checkpoints -/

/-- Pressure force-closes Open Bands, oldest last fold first, until the total is below the threshold. -/
def relieveF : Nat → Nat → State → State
  | 0, _, s => s
  | n + 1, b, s =>
    if !s.pressed then s
    else match (s.bed? b).bind Bed.oldestOpen with
      | some k => relieveF n b (s.forceClose b [k])
      | none => s

/-- RECORD_FOLD (R87, R88): the first record staged and not folded is folded. -/
def execRecordFold (b : Nat) (media : List MediaRead) (s : State) : Outcome :=
  if s.coreStop then .next s else
  let s := (s.countReads b media).foldNext b media
  .next ((relieveF (match s.bed? b with | some x => x.openCount | none => 0) b s).checkCompact b)

/-- FOLD_WAIT_EXPIRY (R87): 50 µs after it was staged a record is folded without a partner. -/
def execFoldWaitExpiry (b : Nat) (media : List MediaRead) (s : State) : Outcome :=
  if s.coreStop then .next s else
  match (s.bed? b).bind (fun x => (x.staged.find? (fun r => !r.folded && r.foldAt.isSome)).bind (·.foldAt)) with
  | none => .next s
  | some t => .next (((s.at t).countReads b media).foldNext b media)

/-- CHECKPOINT_INTERVAL_EXPIRY (R89): INTERVAL_S after its last checkpoint an Open Band is checkpointed and stays Open. -/
def execCheckpointIntervalExpiry (b k : Nat) (s : State) : Outcome :=
  match (s.bed? b).bind (fun x => (x.bands.get? k).bind (·.ckptAt)) with
  | none => .next s
  | some t =>
    let s := (s.at t).applyFld (F.BED_CKPT_INTERVAL_S b)
    let s := s.modBed b (fun x => x.setBand k { x.band k with ckptAt := some (s.now + sec (s.intervalS b)) })
    .next (s.startCkpt b [k] 1 false)

/-- CKPT_NOW (R89): BED_CKPT.CKPT_NOW written 1 checkpoints every Open Band, which stays Open. -/
def State.ckptNow (s : State) (b : Nat) : State :=
  match s.bed? b with
  | none => s
  | some x => if x.owned && !x.openBands.isEmpty then s.startCkpt b x.openBands 1 false else s

def execCkptNow (b : Nat) (s : State) : Outcome := .next (s.ckptNow b)

/-- CHECKPOINT_PHASE_COMPLETE (R90): the writes of the checkpoint that holds Band `k` have completed, with or without
errors. -/
def execCheckpointPhaseComplete (b k : Nat) (ok : Bool) (s : State) : Outcome :=
  if s.coreStop then .next s else
  match (s.bed? b).bind (fun x => x.ckpts.find? (fun c => c.bands.contains k || c.bands.isEmpty)) with
  | none => .next s
  | some c => .next (s.ckptNext b c ok)

/-! ### Rebuild (R108–R111) -/

/-- What rebuild writes of Band `k` on `m`: nothing where the Band is Empty, lies beyond a data member's append offset at its
failure, or is a listed range of a bed re-admitted read-only (R108, R114). -/
def State.rebuilds (s : State) (b : Nat) (x : Bed) (m k : Nat) : Bool :=
  (x.band k).st ≠ 0
    && (m < 2 || (match x.members.get? m with | some y => decide (k * x.h < y.append) | none => false))
    && !(x.st = 4 && (s.bedRec b).lost.any (fun r => r.first ≤ k && k ≤ r.last && bit r.mask m))

/-- The next Band to rebuild, from the cursor on. -/
def State.nextRebuild (s : State) (b : Nat) (x : Bed) (r : Rebuild) : Option Nat :=
  (List.range (x.bandCount - r.cursor)).findSome? (fun i => if s.rebuilds b x r.member (r.cursor + i) then some (r.cursor + i) else none)

/-- Listed Bands that the rebuild passes over on its way to Band `k` are noted: they hold zeros from then on (R114). -/
def State.passOver (s : State) (b : Nat) (x : Bed) (r : Rebuild) (k : Nat) : State :=
  if x.st ≠ 4 then s
  else
    let l := ((List.range (k - r.cursor)).map (r.cursor + ·)).filter (fun j =>
      (s.bedRec b).lost.any (fun q => q.first ≤ j && j ≤ q.last && bit q.mask r.member))
    s.modBed b (fun x => x.modMember r.member (fun y => { y with skipped := y.skipped ++ l }))

/-- The rebuild has passed the last Band: the member is active, and the next queued one starts (R102, R108). -/
def State.rebuildDone (s : State) (b : Nat) : State :=
  match s.bed? b with
  | none => s
  | some x =>
    match x.rebuild with
    | none => s
    | some r =>
      let s := s.setBed b { (x.modMember r.member (fun y => { y with st := 0, failedAt := 0 })) with rebuild := none }
      let s := ((s.passOver b x r x.bandCount).putDesc b).delta b (.memberState r.member 0)
      let s := ((s.judgeBed b).fixFill b).actEndAny 3 (some b)
      s.tryRebuild b

/-- The range of a slice as it is to be written: from the accumulators for parity of an Open Band, else solved. -/
def rebuildBytes (x : Bed) (k m off count : Nat) (media : List MediaRead) (miss : List Nat) : Fetched :=
  match (x.band k).acc, decide (m < 2) with
  | some t, true => .got (((List.range count).map (fun i =>
      let e := t.getD (off % x.h + i) (zeros 4096, zeros 4096)
      if m = 0 then e.1 else e.2)).flatten) [] []
  | _, _ => bySector media (fun o n => solveRange x k m o n media miss []) off count

/-- The writes and cursor of one slice that has been read; RATE sets when the next may be written (R108, R109). -/
def State.rebuildSlice (s : State) (b : Nat) (x : Bed) (r : Rebuild) (k off count : Nat) (media : List MediaRead) : State :=
  let rate := s.fld (F.BED_RBCFG_RATE b)
  let skip := fun (s : State) =>
    let done := off % x.h + count
    let s := s.modBed b (fun x => { x with rebuild := some { r with
      cursor := k, slice := done, flushing := decide (x.h ≤ done), nextAt := if rate = 0 then none else some (s.now + count * 4096 * 100 / rate) } })
    if x.h ≤ done then s.driveCmd b r.member .flush 0 0 [] .rebuildFlush else s
  let miss := s.missAt b x k
  if 2 ≤ r.member && !s.parityValid b k x then s.offline b [⟨k, k, maskOf miss, 4⟩]
  else match rebuildBytes x k r.member off count media miss with
    | .wait ms => ms.foldl (fun s m => s.wakeMember b m) s
    | .lost ms =>
      if x.st = 4 then skip ((s.addLost b [⟨k, k, maskOf ms, 2⟩]).passOver b x { r with cursor := k } (k + 1)) else s.offline b [⟨k, k, maskOf ms, 2⟩]
    | .got d reps _ =>
      skip ((s.afterRead b 0 0 { ReadOut.init with repairs := reps }).announcedWrite b r.member (x.base r.member + off) d .rebuild)

/-- Every Band that is not Empty has been read whole from every data member. -/
def Bed.scanned (x : Bed) (media : List MediaRead) : Bool :=
  ((List.range x.bandCount).filter (fun k => (x.band k).st ≠ 0)).all (fun k =>
    x.dataMembers.all (fun m => x.missing m k || (mediaGet media m (x.base m + k * x.h) x.h).isSome))

/-- With P and Q both gone, the index is made up of the pages in the cache and, for every other page, of what a scan of the data
members finds (R107). -/
def State.mendIndex (s : State) (b : Nat) (x : Bed) (media : List MediaRead) : State :=
  let held := fun (e : IndexEntry) => (x.cached ++ x.pinnedPages).contains (Config.indexPage e.nsid e.key)
  let ws := s.scanBed x media
  let found := (s.scanIndex media ws).filter (fun e => !held e)
  (s.walkJobs b ws).setIndex b (found.foldl idxPut (x.index.filter held))

/-- The rebuild of P or Q writes its metadata extension before any Band: index and map pages, Band table, bitmap and
superblocks (R107). -/
def State.rebuildMeta (s : State) (b : Nat) (r : Rebuild) : State :=
  match s.bed? b with
  | none => s
  | some x =>
    let m := r.member
    let s := ((x.index.map (fun e => Config.indexPage e.nsid e.key)).eraseDups).foldl (fun s pg =>
      s.announcedWrite b m (262144 + pg) (indexPageBytes x pg) (.metaWrite 5)) s
    let s := (x.map.entries.flatMap (fun t => (t.2.keys.map (fun u => (t.1, u / 504))).eraseDups)).foldl (fun s p =>
      s.announcedWrite b m (262144 * (1 + x.eIdx) + Config.mapPage p.1 p.2) (mapPageBytes x p.1 p.2) (.metaWrite 6)) s
    let s := ((x.bands.keys.map (· / 512)).eraseDups).foldl (fun s p => s.announcedWrite b m (2048 + p) (tablePage x p) (.metaWrite 7)) s
    let s := s.announcedWrite b m (1024 + 512 * (x.snapSlot % 2)) (s.bitmapBytes b) (.metaWrite 8)
    (s.modBed b (fun x => { x with rebuild := some { r with metaDone := true } })).putSuper b m false id

/-- REBUILD_SLICE_COMPLETE (R108): a slice of 4 MiB of every source has been read and is written, no sooner than RATE lets it;
RATE takes its written value. -/
def execRebuildSliceComplete (b : Nat) (media : List MediaRead) (s : State) : Outcome :=
  if s.coreStop then .next s else
  let s := (s.applyFld (F.BED_RBCFG_RATE b)).countReads b media
  match s.bed? b with
  | none => .next s
  | some x =>
    match x.rebuild with
    | none => .next s
    | some r =>
      if r.paused || r.flushing then .next s
      else
        let s := match r.nextAt with | some t => s.at t | none => s
        if r.member < 2 && !r.metaDone then
          .next (if !x.noMeta then s.rebuildMeta b r
            else if !x.scanned media then s.wakeAll b
            else (s.mendIndex b x media).rebuildMeta b r)
        else match s.nextRebuild b x r with
          | none => .next (s.rebuildDone b)
          | some k =>
            let s := s.passOver b x r k
            let r := if k = r.cursor then r else { r with cursor := k, slice := 0 }
            let count := min 1024 (x.h - r.slice)
            .next (s.rebuildSlice b x r k (k * x.h + r.slice) count media)

/-- REBUILD_FLUSH_COMPLETE (R108, R109): the cursor advances; a wanted pause is taken at this Band boundary. -/
def execRebuildFlushComplete (b : Nat) (s : State) : Outcome :=
  if s.coreStop then .next s else
  match (s.bed? b).bind (·.rebuild) with
  | none => .next s
  | some r =>
    if !r.flushing then .next s
    else
      let s := { s with drv := { s.drv with cmds := s.drv.cmds.filterT (fun _ (c : DriveCmd) => !(c.bed = b && c.member = r.member && c.purpose = DrivePurpose.rebuildFlush)) } }
      let stop := r.pauseWanted || s.shelf.st ≠ .awake || s.shelf.move.isSome
      let s := s.modBed b (fun x => { x with rebuild := some { r with cursor := r.cursor + 1, slice := 0, flushing := false, paused := stop, pauseWanted := false } })
      let s := if stop && !r.pauseWanted then s.actEndAny 3 (some b) else s
      let s := if r.pauseWanted then s.setActs (s.mnt.acts.map (fun a => if a.code = 3 && a.bed = some b && a.st = 0 then { a with st := 2 } else a)) else s
      match s.bed? b with
      | none => .next s
      | some x =>
        let s := s.delta b (.cursor r.member (r.cursor + 1) (x.queued.headD 0xFF))
        match x.rebuild with
        | some r' => if (s.nextRebuild b x r').isNone then .next (s.rebuildDone b) else .next s
        | none => .next s

/-! ### Resync (R94) -/

/-- P and Q of a Band from what every data member holds of it: `none` while a drive has not answered. -/
def resyncParity (x : Bed) (k : Nat) (media : List MediaRead) : Option (Tab (Bytes × Bytes)) :=
  x.dataMembers.foldl (fun (acc : Option (Tab (Bytes × Bytes))) m =>
    match acc, mediaGet media m (x.base m + k * x.h) x.h with
    | some t, some (.data d) => some (foldSectors m 0 (chunks 4096 d) t)
    | _, _ => none) (some .empty)

/-- The writes of a resynced Band to P and Q, zeros where the Band is Empty. -/
def State.resyncWrite (s : State) (b : Nat) (x : Bed) (k : Nat) (t : Tab (Bytes × Bytes)) : State :=
  let img := fun (m : Nat) => ((List.range x.h).map (fun i =>
    let e := t.getD i (zeros 4096, zeros 4096)
    if m = 0 then e.1 else e.2)).flatten
  x.parityMembers.foldl (fun s m => s.announcedWrite b m (x.base m + k * x.h) (img m) (.resync k)) s

/-- The member's answer to the read of the record's place is the record itself. -/
def Staged.inRead (r : Staged) (media : List MediaRead) : Bool :=
  mediaGet media r.member r.sector (r.bytes.length / 4096) = some (.data r.bytes)

/-- The read of a Band goes into its parity: records folded while it waited are folded into the result, those that the read
already holds count as folded by it, and the bit clears under R91 (R94). -/
def State.resyncBand (s : State) (b : Nat) (x : Bed) (k : Nat) (ks : List Nat) (t : Tab (Bytes × Bytes)) (media : List MediaRead) : State :=
  let mine := x.staged.filter (fun r => r.band = k)
  let t := (mine.filter (fun r => r.folded && !Staged.inRead r media)).foldl (fun t r =>
    foldSectors r.member ((r.sector - x.base r.member) % x.h) (chunks 4096 r.bytes) t) t
  let s := (mine.filter (fun r => !r.folded && Staged.inRead r media)).foldl (fun s r => s.foldRec b r) s
  let s := s.resyncWrite b x k t
  let s := s.modBed b (fun x =>
    let y := x.band k
    let x := x.setBand k { y with acc := if y.st = 1 then some t else none, sinceSnap := false, lateFold := false, reloadPending := false }
    let x : Bed := { x with resync := ks }
    x.sweepStaged)
  let s := if mine.any (fun r => r.issued && !r.written) then s else (s.setDirty b k false).delta b (.dirtyCleared k (x.band k).gen)
  (if ks.isEmpty then s.actEndAny 4 (some b) else s).advanceAll b

/-- RESYNC_BAND_COMPLETE (R94): the next Band in order has been read; its parity is computed and written, and its dirty bit
clears. A sector that cannot be read is one that no parity covers (R113). -/
def execResyncBandComplete (b : Nat) (media : List MediaRead) (s : State) : Outcome :=
  if s.coreStop then .next s else
  let s := s.countReads b media
  match s.bed? b with
  | none => .next s
  | some x =>
    match x.resync with
    | [] => .next s
    | k :: ks =>
      if x.st = 3 || s.mnt.acts.any (fun a => a.code = 4 && a.bed = some b && a.st ≠ 0) then .next s
      else
        let bad := x.dataMembers.filter (fun m => mediaGet media m (x.base m + k * x.h) x.h = some .unrecovered)
        if (x.band k).st = 0 then .next (s.resyncBand b x k ks .empty media)
        else if !bad.isEmpty then .next (s.offline b [⟨k, k, maskOf (bad ++ x.missingAt k), 2⟩])
        else match resyncParity x k media with
          | none => .next (s.wakeAll b)
          | some t => .next (s.resyncBand b x k ks t media)

/-! ### Reclaim and rewrap (R95, R155) -/

/-- A move of the bed is still in the scoreboard. -/
def State.moving (s : State) (b : Nat) : Bool := s.cmd.cmds.vals.any (fun r => r.cap.assoc = 65536 + b)

/-- Records of a namespace sealed below its current epoch, and not retired: objects by their index entry; block records need
their header read, so each is looked at (R155, R156). -/
def State.rewrapStep (s : State) (b nsid : Nat) (media : List MediaRead) : State × Bool :=
  match s.bed? b, s.cfg.data.ns.get? nsid with
  | some x, some n =>
    let floor := (s.epochsOf nsid).1
    let objs := x.index.filter (fun e => e.nsid = nsid && e.epoch < n.epoch && floor ≤ e.epoch)
    let units := (mapRecords (x.map.getD nsid .empty)).filterMap (fun r =>
      match s.fetch b x r.1 r.2.1 1 media with
      | .got h _ _ => if leNat (slice h 4 4) < n.epoch && floor ≤ leNat (slice h 4 4) then some (r, true) else none
      | _ => some (r, false))
    let s := objs.foldl (fun s e => s.moveObject 5 b x n e media) s
    let s := units.foldl (fun s u => if u.2 then s.moveUnits 5 b x nsid n u.1.1 u.1.2.1 u.1.2.2 media else s.wakeMember b u.1.1) s
    (s, objs.isEmpty && units.isEmpty)
  | _, _ => (s, true)

/-- The compaction of a bed goes on by what its state allows (R95): moves of live records, the checkpoint, then, once no read of the
row is in flight, the reclaim of the row. -/
def State.compactStep (s : State) (b : Nat) (media : List MediaRead) : State :=
  match s.bed? b with
  | none => s
  | some x =>
    match x.compact with
    | none => s
    | some c =>
      if c.paused then s
      else if c.step = 1 then
        if 0 < x.liveIn c.row then s.moveRow b c.row media
        else if s.moving b then s
        else (s.modBed b (fun x => { x with compact := some { c with step := 2, from_ := x.ckptCount } })).startPages b
      else if !x.ckpts.isEmpty || x.downCount ≠ 0 || x.staged.any (fun r => (x.rowBands c.row).contains r.band) then s
      else if x.ckptCount ≤ c.from_ then s.startPages b
      else (s.reclaimRow b c.row).checkCompact b

/-- A rewrap has ended: retiring up to the epoch before the current one would make no live record unreadable (R155). The spec gives
the report no form of its own (assumption 67). -/
def State.rewrapReport (s : State) (nsid : Nat) : State :=
  match s.cfg.data.ns.get? nsid with
  | some n => s.emit (.rewrapDone nsid (n.epoch - 1))
  | none => s

/-- The rewrap of a namespace goes on (R155): at its end nothing of it is sealed below the current epoch. -/
def State.rewrapGo (s : State) (b : Nat) (media : List MediaRead) : State :=
  match (s.bed? b).bind (·.rewrap) with
  | none => s
  | some nsid =>
    let (s, done) := s.rewrapStep b nsid media
    if done && !s.moving b then ((s.modBed b (fun x => { x with rewrap := none })).rewrapReport nsid).actEndAny 7 (some b) else s

/-- RECLAIM (R95, R155, R372): the compaction and the rewrap of the bed go on, one beside the other. -/
def execReclaim (b : Nat) (media : List MediaRead) (s : State) : Outcome :=
  if s.coreStop then .next s else
  let s := s.countReads b media
  if s.shelf.st ≠ .awake || s.shelf.move.isSome then .next s
  else .next ((s.compactStep b media).rewrapGo b media)

end Sys2Proof.Machine
end

