-- ==== Sys2Proof/Machine/Slot.lean ====
section
/-! DEFINITION. Commands and events of the slot channels (R262–R276). An operand `peerLatched` says whether the peer's path of
the slot holds a latched fault too, which makes the member failed (R98). -/

namespace Sys2Proof.Machine

/-! ### SPC_SLOT_CMD (R275) -/

/-- RAISE_REQUEST: operation 1. -/
def execRaiseRequest (slot : Nat) (s : State) : Outcome := .next (s.raiseReq slot false)

/-- DROP_REQUEST: operation 2. -/
def execDropRequest (slot : Nat) (s : State) : Outcome := .next (if slot < 24 then s.dropReq slot else s)

/-- Where a channel goes when its latch ends: Waiting under recovery with a request, else Off (R273, R275). -/
def State.unlatch (s : State) (k : Nat) : State :=
  let c := s.chan k
  if c.st ≠ .fault then s
  else if c.request then (s.setChan k { c with st := .waiting }).wait k .recovery
  else s.setChan k { c with st := .off }

/-- Operation 3: the latch and the retry timer clear, REPEAT stays. -/
def State.clearFault (s : State) (k : Nat) : State :=
  let c := s.chan k
  if c.retryAt.isNone && c.st ≠ .fault then s else (s.setChan k { c with retryAt := none, cause := 0 }).unlatch k

/-- CLEAR_FAULT. -/
def execClearFault (slot : Nat) (s : State) : Outcome := .next (if slot < 24 then s.clearFault slot else s)

/-- Operation 4: the test runs only on a path that is Off; the second component says that it was turned away. -/
def State.slotTest (s : State) (k : Nat) : State × Bool :=
  if (s.chan k).st ≠ .off || 24 ≤ k then (s, true)
  else ((s.setChan k { s.chan k with testing := true }).wait k .test, false)

/-- SLOT_TEST. -/
def execSlotTest (slot : Nat) (s : State) : Outcome := .next (s.slotTest slot).1

/-- SLOT_TEST_HOLD_END: current and VOUT are kept in SPC_SLOT_MEAS and the path turns off. -/
def execSlotTestHoldEnd (slot vout iout : Nat) (s : State) : Outcome :=
  match (s.chan slot).testAt with
  | none => .next s
  | some t =>
    let s := (s.at t).gateOff slot .off
    let s := s.setChan slot { s.chan slot with vout := vout, iout := iout }
    .next (if (s.chan slot).request then s.wait slot .recovery else s)

/-- Operation 5: PWRDIS for 1 s. -/
def State.pwrdis (s : State) (k : Nat) : State :=
  if k < 24 then s.setChan k { s.chan k with pwrdisAt := some (s.now + sec 1) } else s

/-- ASSERT_PWRDIS. -/
def execAssertPwrdis (slot : Nat) (s : State) : Outcome := .next (s.pwrdis slot)

/-- PWRDIS_END. -/
def execPwrdisEnd (slot : Nat) (s : State) : Outcome :=
  match (s.chan slot).pwrdisAt with
  | none => .next s
  | some t => .next ((s.at t).setChan slot { s.chan slot with pwrdisAt := none })

/-- EN takes effect at once (R275, R277). -/
def State.slotEnable (s : State) (k : Nat) (en : Bool) : State :=
  let s := s.setFld (F.SPC_SLOT_CFG_EN k) (b2n en)
  let c := s.chan k
  -- a channel that waited under another rule of R263 keeps to it
  if !en then
    (if c.st = .disabled then s
     else (s.setChan k { c with ctx := if c.st = .waiting then c.ctx else .normal }).gateOff k .disabled)
  else if c.st ≠ .disabled then s
  else if c.retryAt.isSome then s.setChan k { c with st := .fault }
  else if c.request then
    (s.setChan k { c with st := .waiting }).wait k (if c.ctx ≠ .normal then c.ctx else if c.seated then .startUp else .normal)
  else s.setChan k { c with st := .off }

/-- SLOT_ENABLE_WRITE. -/
def execSlotEnableWrite (slot : Nat) (en : Bool) (s : State) : Outcome := .next (if slot < 24 then s.slotEnable slot en else s)

/-! ### The present pin (R263, R264, R274) -/

/-- PRESENT_PIN_EDGE: starts the debounce and, while the path is on, the 100 µs of a deassertion. -/
def execPresentPinEdge (slot : Nat) (level : Bool) (s : State) : Outcome :=
  if 24 ≤ slot then .next s
  else
    let s := s.applyFld F.SPC_CFG_PRES_DB_MS
    let c := s.chan slot
    .next (s.setChan slot { c with
      raw := level
      dbAt := if level = c.present then none else some (s.now + msec s.presDbMs)
      lostAt := if level then none else if c.driving then some (s.now + usec 100) else none })

/-- This controller powers a drive of a free slot for identification (R262): A, or B while its peer is not Awake. -/
def State.identifies (s : State) (k : Nat) : Bool :=
  s.mayPower && s.flag (F.SPC_SLOT_CFG_AUTO_INS k) && (!s.posB || s.shelf.peerState ≠ 0) && (s.memberAt k upSt).isNone

/-- The debounced level rises: an insertion (R264, R274). -/
def State.inserted (s : State) (k : Nat) : State :=
  let c := s.chan k
  let s := s.setChan k { c with present := true, dbAt := none }
  let s := if c.retryAt.isSome then (s.setFld (F.SPC_SLOT_STAT_RESEAT k) 1).bump (F.SPC_SLOT_CNT_RESEATS k) 1 else s
  let s :=
    if c.st = .waiting then
      (if c.ctx ≠ .normal then s.startIns k
       else if s.spc.vinIn then s.chanMet k
       else s.setChan k { s.chan k with ctx := .recovery })
    else s
  if s.identifies k then s.raiseReq k true else s

/-- The debounced level falls: a removal (R98, R264). -/
def State.removed (s : State) (k : Nat) : State :=
  let c := s.chan k
  let s := s.setChan k { c with present := false, dbAt := none, met := none, insAt := none, joinAt := none
                                ctx := if c.st = .waiting then .recovery else c.ctx }
  let s := s.setPort k { s.port k with ready := false, info := none, readyAt := none }
  let s := if c.auto then s.dropReq k else s
  match s.memberAt k upSt with
  | some (b, m) => s.memberFail b m 6
  | none => s

/-- PRESENT_DEBOUNCE_EXPIRY. -/
def execPresentDebounceExpiry (slot : Nat) (s : State) : Outcome :=
  match (s.chan slot).dbAt with
  | none => .next s
  | some t => let s := s.at t; .next (if (s.chan slot).raw then s.inserted slot else s.removed slot)

/-- PRESENT_LOST: cause present lost, not latched. -/
def execPresentLost (slot : Nat) (s : State) : Outcome :=
  match (s.chan slot).lostAt with
  | none => .next s
  | some t => .next ((s.at t).softOff slot 0xA)

/-! ### Ramps (R263–R268) -/

/-- INSERTION_DELAY_EXPIRY. -/
def execInsertionDelayExpiry (slot : Nat) (s : State) : Outcome :=
  match (s.chan slot).insAt with
  | none => .next s
  | some t => let s := s.at t; .next (if s.spc.vinIn && (s.chan slot).present then s.chanMet slot else s)

/-- What a ramp start applies (R277). -/
def State.rampRwl (s : State) (k : Nat) : State :=
  [F.SPC_SLOT_CFG_INRUSH k, F.SPC_SLOT_CFG_SLEW k, F.SPC_CFG1_INS_DELAY_MS, F.SPC_CFG_RAMP_PAR, F.SPC_CFG_JOIN_WAIT_MS, F.SPC_CFG1_RAMP_MAX_MS].foldl
    State.applyFld s

/-- RAMP_START: a waiting channel whose start condition is met and whose models are cool acts on the VOUT it sees. -/
def execRampStart (slot vout : Nat) (s : State) : Outcome :=
  let c := s.chan slot
  if c.st ≠ .waiting || c.met.isNone || !s.mayPower || s.spc.swapHold || !s.cool slot || !(c.request || c.testing) || c.joinAt.isSome then .next s
  else .next ((s.rampRwl slot).look slot vout)

/-- JOIN_WAIT_EXPIRY: controller B looks once more. -/
def execJoinWaitExpiry (slot vout : Nat) (s : State) : Outcome :=
  match (s.chan slot).joinAt with
  | none => .next s
  | some t =>
    let s := (s.at t).setChan slot { s.chan slot with joinAt := none, joinLooked := true }
    if !s.mayPower || s.spc.swapHold || !s.cool slot then .next s else .next ((s.rampRwl slot).look slot vout)

/-- A latched cause; with the peer's path latched too the member has failed (R98 cause power, R273). -/
def State.trip (s : State) (k cause : Nat) (peerLatched : Bool) : State :=
  let s := s.latch k cause
  if !peerLatched then s
  else match s.memberAt k upSt with
    | some (b, m) => s.memberFail b m 7
    | none => s

/-- RAMP_FAULT_TIMER_EXPIRY: cause 1. -/
def execRampFaultTimerExpiry (slot : Nat) (peerLatched : Bool) (s : State) : Outcome :=
  .next (if (s.chan slot).st = .ramping then s.trip slot 1 peerLatched else s)

/-- RAMP_MAX_EXPIRY: cause 3. -/
def execRampMaxExpiry (slot : Nat) (peerLatched : Bool) (s : State) : Outcome :=
  match (s.chan slot).rampMaxAt with
  | none => .next s
  | some t => let s := s.at t; .next (if (s.chan slot).st = .ramping then s.trip slot 3 peerLatched else s)

/-- POWER_GOOD (R267, R269): asserted; a ramping channel is On. -/
def execPowerGood (slot vout : Nat) (s : State) : Outcome :=
  let c := s.chan slot
  if c.st = .ramping || (c.st = .on && !c.rev && !c.pg) then
    let s := s.setChan slot { c with
      st := .on, pg := true, vout := vout, rampMaxAt := none, joining := false, pg60At := some (s.now + sec 60)
      testAt := if c.testing && c.st = .ramping then some (s.now + sec 1) else c.testAt }
    .next s.swapDone.syncDomains
  else .next s

/-! ### Protections (R266, R269–R273) -/

/-- BREAKER_TRIP: cause 4. -/
def execBreakerTrip (slot : Nat) (peerLatched : Bool) (s : State) : Outcome :=
  .next (if (s.chan slot).st = .on then s.trip slot 4 peerLatched else s)

/-- FAST_TRIP: cause 5. -/
def execFastTrip (slot : Nat) (peerLatched : Bool) (s : State) : Outcome :=
  .next (if (s.chan slot).st = .on then s.trip slot 5 peerLatched else s)

/-- VIN back in the window: standing requests restart under recovery, their insertion delay counted from now. -/
def State.vinBack (s : State) : State :=
  if s.spc.vinIn then s
  else
    let s := { s with spc := { s.spc with vinIn := true, vinSince := s.now } }
    (List.range 24).foldl (fun s k =>
      let c := s.chan k
      if c.st = .waiting && c.met.isNone && c.ctx ≠ .normal then s.startIns k else s) s

/-- VIN outside the window: insertion delays are broken off, and one that had ended counts anew (R263). -/
def State.vinOut (s : State) : State :=
  let s := { s with spc := { s.spc with vinIn := false } }
  { s with spc := { s.spc with chans := s.spc.chans.mapV (fun _ c => { c with insAt := none, met := if c.ctx = .normal then c.met else none }) } }

/-- MODEL_STEP: the ADC sample of a slot, one step of its models, the time spent limiting, and the trips of R266 and R272. -/
def execModelStep (slot vin vout iout dieC : Nat) (limiting peerLatched : Bool) (s : State) : Outcome :=
  let s := [F.SPC_SLOT_CFG_BREAKER slot, F.SPC_WIN_VMIN_MV, F.SPC_WIN_VMAX_MV, F.SPC_CFG_TAMB_C].foldl State.applyFld s
  let s := { s with spc := { s.spc with vin := vin, dieC := dieC } }
  let s := if s.vminMv ≤ vin && vin ≤ s.vmaxMv then s.vinBack else s.vinOut
  let c := s.stepModel slot vin vout iout
  let lim := if limiting && c.st = .ramping then c.limitUs + 10 else c.limitUs
  let s := s.setChan slot { c with limitUs := lim }
  let hot := s.tripC * 1000000000 ≤ s.tjHs (s.chan slot) || s.tripC * 1000000000 ≤ s.tjRb (s.chan slot)
  if c.st = .ramping && 20000 ≤ lim then .next (s.trip slot 1 peerLatched)
  else if hot && c.driving then .next (s.trip slot (if c.st = .ramping then 2 else 6) peerLatched)
  else .next s

/-- GATE_FAULT: cause 7 while the channel drives its gates, else a fault of the die. -/
def execGateFault (slot : Nat) (peerLatched : Bool) (s : State) : Outcome :=
  .next (if (s.chan slot).driving then s.trip slot 7 peerLatched else s.dieFault)

def State.allSoftOff (s : State) (cause : Nat) : State :=
  (List.range 24).foldl (fun s k => if (s.chan k).driving then s.softOff k cause else s) s

/-- VIN_UNDERVOLTAGE: cause 8 on every channel that drives. -/
def execVinUndervoltage (vin : Nat) (s : State) : Outcome :=
  .next ((State.vinOut { s with spc := { s.spc with vin := vin } }).allSoftOff 8)

/-- VIN_OVERVOLTAGE: cause 9. -/
def execVinOvervoltage (vin : Nat) (s : State) : Outcome :=
  .next ((State.vinOut { s with spc := { s.spc with vin := vin } }).allSoftOff 9)

/-- VIN_RETURN. -/
def execVinReturn (vin : Nat) (s : State) : Outcome := .next (State.vinBack { s with spc := { s.spc with vin := vin } })

/-- REVERSE_BLOCK: power-good drops, REV is set, the channel stays On. -/
def execReverseBlock (slot vout : Nat) (s : State) : Outcome :=
  let c := s.chan slot
  .next (if c.st = .on then (s.setFld (F.SPC_SLOT_STAT_REV slot) 1).setChan slot { c with pg := false, rev := true, pg60At := none, vout := vout } else s)

/-- REVERSE_BLOCK_CLEAR. -/
def execReverseBlockClear (slot : Nat) (s : State) : Outcome := .next (s.setChan slot { s.chan slot with rev := false })

/-- RETRY_TIMER_EXPIRY. -/
def execRetryTimerExpiry (slot : Nat) (s : State) : Outcome :=
  match (s.chan slot).retryAt with
  | none => .next s
  | some t => .next (((s.at t).setChan slot { s.chan slot with retryAt := none, ctx := .recovery }).unlatch slot)

/-- REPEAT_RESET_EXPIRY. -/
def execRepeatResetExpiry (slot : Nat) (s : State) : Outcome :=
  match (s.chan slot).pg60At with
  | none => .next s
  | some t => .next ((s.at t).setChan slot { s.chan slot with pg60At := none, repeat_ := 0 })

end Sys2Proof.Machine
end

