-- ==== Sys2Proof/Machine/Jobs.lean ====
section
/-! DEFINITION. Rill and cipher jobs as commands (R117–R123, R140–R146). A submission brings what the input area holds. -/

namespace Sys2Proof.Machine

/-! ### Rill -/

/-- The areas a Rill descriptor names are allowed (R121). -/
def rillAreas (d : RillDesc) : Bool :=
  RillDesc.apart d && Config.inDevice d.inputAddr d.inputLen && (d.opcode = 4 || Config.inDevice d.outputAddr d.outputLen)

/-- Submits a checked job, or refuses it: a refused job runs on no core. -/
def State.rillSubmit (s : State) (d : RillDesc) (input : Bytes) (host areas : Bool) (svc : Option (Nat × Nat)) : State :=
  if RillDesc.bad d areas then
    (s.rillError stBadParameter 0xFF d.opcode d.context).rillAnswer svc (rillRecord stBadParameter 0xFF 0 d.context) []
  else
    let j : RillJob := { desc := d, input := fitTo d.inputLen input, core := 0, avoid := none, first := 0, firstCore := 0, host := host, since := s.now, svc := svc }
    s.coresSynced (State.rillDispatch { s with rill := { s.rill with waiting := s.rill.waiting ++ [j] } })

/-- RILL_JOB_SUBMIT. `host`: a check or decompression of a stream that is not authenticated data, never rerun. -/
def execRillJobSubmit (d : RillDesc) (input : Bytes) (host : Bool) (s : State) : Outcome :=
  .next (s.rillSubmit d input host (rillAreas d) none)

/-- A decoder status that leads to a rerun (R119). -/
def RillJob.reruns (j : RillJob) (st : Nat) : Bool :=
  1 ≤ st && st ≤ 7 && j.first = 0
    && ((j.desc.opcode = 3 && !j.host) || ((j.desc.opcode = 1 || j.desc.opcode = 2) && j.desc.flags % 2 = 1))

/-- The time up to a core's 50 us after switch-on has passed where nothing runs on it yet (R117). -/
def State.rillOn (s : State) (core : Nat) : State :=
  if s.rill.running.has core then s else s.rillReady core

/-- RILL_JOB_COMPLETE: the job on a core finishes. `bad` is the decoder status that a faulty core reports in place of the
right result, 0 for a sound one. A rerun's status is final whatever it is: the spec says so of OK and of the first status, and the
model of another one too (R119; assumption 67). -/
def execRillJobComplete (core bad : Nat) (s : State) : Outcome :=
  let s := s.rillOn core
  match s.rill.running.get? core with
  | none => .next s
  | some j =>
    let (st, out) := if bad ≠ 0 then (bad, []) else rillRun s.rillTables j.desc j.input
    let s := { s with rill := { s.rill with running := s.rill.running.del core } }
    let s := s.rillIdle core
    let s := (s.pmuEvent 0x800 core j.desc.inputLen).pmuEvent 0x801 core out.length
    let s := s.histAdd 0x13 core (s.now - j.since) (fun _ => true)
    if j.reruns st then
      let s := { s with rill := { s.rill with waiting := { j with avoid := some core, first := st, firstCore := core } :: s.rill.waiting } }
      .next (s.coresSynced (s.bump F.RILL_RERUN_RERUNS 1).rillDispatch)
    else
      let s := if j.first ≠ 0 && st = 0 then s.raise (0x800 + j.firstCore) 2 0x02000000 (le 8 j.desc.context) else s
      let s := s.rillError st core j.desc.opcode j.desc.context
      .next (s.coresSynced (s.rillAnswer j.svc (rillRecord st core out.length j.desc.context) (if j.desc.opcode = 4 then [] else out)).rillDispatch)

/-- RILL_CORE_NO_PROGRESS: 1 ms without progress, the core is lost (R119). -/
def execRillCoreNoProgress (core : Nat) (s : State) : Outcome :=
  let s := s.rillOn core
  match s.rill.running.get? core with
  | none => .next s
  | some j => .next (s.coresSynced ((s.rillLoseCore core).raise (0x800 + core) 2 0x03000000 (le 8 j.desc.context)))

/-- RILL_PAIR_IDLE: the clocks of an idle pair are gated (R117). -/
def execRillPairIdle (pair : Nat) (s : State) : Outcome :=
  match s.rill.idleAt.get? pair with
  | none => .next s
  | some t =>
    let s := s.at t
    .next { s with rill := { s.rill with idleAt := s.rill.idleAt.del pair, gated := setBit s.rill.gated pair true } }

/-! ### Cipher -/

/-- Length of the output area a cipher job needs (R144). The length in an open job's header counts only where it fits the
input: another is found by the job itself (R145 order 1). -/
def cphOutLen (d : CipherDesc) (input : Bytes) : Nat :=
  let l := leNat (slice input 24 4)
  if d.opcode = 1 then cdiv (48 + l) 4096 * 4096 else if d.opcode = 2 && 48 + l ≤ d.inputLen then l else 0

/-- The output area lies wholly in Basin or Cistern and overlaps no input (R144). -/
def cphOutArea (d : CipherDesc) (input : Bytes) : Bool :=
  let n := cphOutLen d input
  Config.inDevice d.outputAddr n && (d.inputAddr + d.inputLen ≤ d.outputAddr || d.outputAddr + n ≤ d.inputAddr)

/-- The areas of a cipher job are allowed (R144). -/
def cphAreas (d : CipherDesc) (input : Bytes) : Bool :=
  Config.inDevice d.inputAddr d.inputLen && (d.opcode = 3 || cphOutArea d input)

/-- What a refused job leaves in its output area: zeros, where the area lies in the device and apart from the input (R144). -/
def cphRefused (d : CipherDesc) (input : Bytes) : Bytes :=
  if cphOutArea d input then zeros (cphOutLen d input) else []

/-- CIPHER_JOB_SUBMIT (R142, R144): refused at once, or its key is looked up and the job queued. -/
def execCipherJobSubmit (d : CipherDesc) (input : Bytes) (s : State) : Outcome :=
  let id := s.cph.nextId
  let input := fitTo d.inputLen input
  let j : CphJob :=
    { id := id, desc := d, input := input, phase := 1, core := 0xFF, status := 0, reason := 0, output := [], since := s.now, avoid := none, floor := 0 }
  let j := { j with floor := (s.epochsOf j.keyCtx.2.1).1 }
  let put := fun (s : State) (j : CphJob) => ({ s with cph := { s.cph with jobs := s.cph.jobs ++ [j], nextId := id + 1 } } : State)
  if CipherDesc.bad d input (cphAreas d input) then
    let s := put s { j with phase := 3, status := 0x10, reason := 3, output := cphRefused d input }
    let s := (s.cphFail 0x10 3 0xFF d.context).raise 0x908 2 0x05000000 (le 8 d.context)
    .next (s.cphRelease d.queue)
  else if s.keyNow.isNone then .next (put s j).cphDispatch
  else if s.cph.cache.contains j.keyCtx then
    let s := put s j
    .next (s.coresSynced ((s.cacheKey j.keyCtx).getD s).cphDispatch)
  else .next ((put s { j with phase := 0 }).pmuEvent 0x901 0xFF 1).cphDerive

/-- KEY_DERIVATION_COMPLETE (R142, R151): the key enters the cache, and the jobs that waited for it may be dispatched; with
every entry of a full cache referenced it waits. -/
def execKeyDerivationComplete (s : State) : Outcome :=
  match s.cph.deriving_ with
  | none => .next s
  | some k =>
    match s.cacheKey k with
    | none => .next s
    | some s =>
      let s := s.bump F.CPH_CACHE_MISS 1
      let s := (s.cph.jobs.filter (fun j => j.phase = 0 && j.keyCtx = k)).foldl (fun s j => s.histAdd 0x15 0xFF (s.now - j.since) (fun _ => true)) s
      let s := { s with cph := { s.cph with
        deriving_ := none, jobs := s.cph.jobs.map (fun (j : CphJob) => if j.phase = 0 && j.keyCtx = k then { j with phase := 1, floor := (s.epochsOf k.2.1).1 } else j) } }
      .next (s.coresSynced s.cphDerive.cphDispatch)

/-- What a cipher job gives on a core (R144–R147), under the epoch floor at which it took its key (R156). -/
def State.cphRun (s : State) (floor : Nat) (d : CipherDesc) (input : Bytes) : CphResult :=
  if d.opcode = 1 then
    match s.keyNow with
    | some kd => ⟨0, 0, sealRecord kd d.nonce (input.take 32) (input.drop 32)⟩
    | none => ⟨0x11, 0, []⟩
  else
    let r := openRecord s.keyNow floor d.nonce ⟨d.expEpoch, d.expTenant, d.expNsid, d.expObject⟩ input
    -- an open that ends with AUTH_FAIL leaves its output area zero (R146)
    { r with out := if d.opcode = 3 then [] else if r.status = 0x10 then zeros (leNat (slice input 24 4)) else r.out }

/-- CIPHER_JOB_COMPLETE (R142, R145, R146). -/
def execCipherJobComplete (core : Nat) (s : State) : Outcome :=
  match s.cph.jobs.find? (fun j => j.phase = 2 && j.core = core) with
  | none => .next s
  | some j =>
    let r := s.cphRun j.floor j.desc j.input
    let s := s.cphJob j.id (fun j => { j with phase := 3, status := r.status, reason := r.reason, output := r.out })
    let s := (s.pmuEvent 0x900 core j.desc.inputLen).histAdd 0x14 core (s.now - j.since) (fun _ => true)
    let s := s.cphFail r.status r.reason core j.desc.context
    .next (s.coresSynced ((s.cphRelease j.desc.queue).cphDispatch)).retireAnswers

/-- CIPHER_CORE_NO_PROGRESS: 100 µs without progress (R143). -/
def execCipherCoreNoProgress (core : Nat) (s : State) : Outcome :=
  if s.cph.jobs.any (fun j => j.phase = 2 && j.core = core) then .next (s.coresSynced ((s.cphLoseCore core).raise (0x900 + core) 2 0x03000000 []))
  else .next s

end Sys2Proof.Machine
end

