-- ==== Sys2Proof/Machine/Faults.lean ====
section
/-! DEFINITION. Thimble, black-box and performance-monitor commands (R342–R368). -/

namespace Sys2Proof.Machine

/-! ### Events -/

/-- What the event of a source does to its own unit, beside Thimble's reaction: DDR error counts (R400), the MRAM port that
stops writing until it has retrained (R352), the rerun of a job whose core failed (R119, R143). -/
def State.faultUnit (s : State) (src sev group : Nat) : State :=
  if 0xB00 ≤ src && src ≤ 0xB03 then
    (if group = 1 then s.bump (F.DDR_ECC_CORR (src - 0xB00)) 1
     else if group = 2 then s.bump (F.DDR_ECC_UNCORR (src - 0xB00)) 1 else s)
  else if 0x400 ≤ src && src ≤ 0x408 && group = 2 then s.cellError (src - 0x400)
  else if src = 0xB04 && 1 ≤ sev then { s with thm := { s.thm with mramOk := false } }
  else if 0x800 ≤ src && src ≤ 0x80F && 2 ≤ sev then s.rillLoseCore (src - 0x800)
  else if 0x900 ≤ src && src ≤ 0x907 && 2 ≤ sev then s.cphLoseCore (src - 0x900)
  else s

/-- FAULT_EVENT: an event of a source, with its severity, event group, detail and unit detail (R341, R342, R350). -/
def execFaultEvent (src sev group detail : Nat) (unit : Bytes) (s : State) : Outcome :=
  .next (s.coresSynced <| (s.faultUnit src sev group).raise src sev (group % 256 * 0x1000000 + detail % 0x1000000) unit)

/-- RECORD_RATE_SECOND_END: the summary record of a source, at the end of a second of device time (R352). -/
def execRecordRateSecondEnd (src : Nat) (s : State) : Outcome :=
  let s := s.at (s.now + (sec 1 - s.dev % sec 1))
  .next (s.summary src)

/-- QUIET_PERIOD_EXPIRY (R347). -/
def execQuietPeriodExpiry (src : Nat) (s : State) : Outcome :=
  match (s.srcSt src).quietAt with
  | none => .next s
  | some t => .next ((s.at t).startCheck src)

/-- ADMISSION_CHECK_COMPLETE (R347). -/
def execAdmissionCheckComplete (src : Nat) (passed : Bool) (s : State) : Outcome := .next (s.endCheck src passed)

/-! ### THM_CMD (R354) -/

/-- Address of THM_CMD. -/
def thmCmdAddr : Nat := 0x4001C

/-- Operation 1; a refusal is recorded in TOP_CFGERR. The second component says that it was refused. -/
def State.thmFence (s : State) (src : Nat) : State × Bool :=
  match s.serviceFence src with
  | some s => (s, false)
  | none => (s.cfgErr 5 thmCmdAddr, true)

/-- THM_FENCE. -/
def execThmFence (src : Nat) (s : State) : Outcome := .next (s.thmFence src).1

/-- THM_READMIT. -/
def execThmReadmit (src : Nat) (s : State) : Outcome := .next (s.serviceReadmit src)

/-- Operation 3 has effect only where it arrives through the service protocol. -/
def State.thmClear (s : State) (src : Nat) (path : AccessPath) : State :=
  match path with
  | .service _ => s.clearPermanent src
  | _ => s.cfgErr 5 thmCmdAddr

/-- THM_CLEAR_PERMANENT. -/
def execThmClearPermanent (src : Nat) (path : AccessPath) (s : State) : Outcome := .next (s.thmClear src path)

/-! ### The black box (R352–R354) -/

/-- A write of BBX_RD_SEQ_HI reads the record of the sequence number (R353). -/
def State.bbxStart (s : State) (hi : Nat) : State :=
  let s := s.setReg F.BBX_RD_SEQ_HI_SEQ.addr (BitVec.ofNat 32 hi)
  let (r, d) := s.bbxRead ((s.reg F.BBX_RD_SEQ_LO_SEQ.addr).toNat + hi % 2 ^ 32 * 2 ^ 32)
  { s with thm := { s.thm with rdStat := r, rdReady := true, rdData := d } }

/-- BBX_READ_START. -/
def execBbxReadStart (hi : Nat) (s : State) : Outcome := .next (s.bbxStart hi)

/-- MRAM_PORT_RETRAINED: the staging queue is written to the ring (R352). -/
def execMramPortRetrained (s : State) : Outcome :=
  .next (State.bbxDrain { s with thm := { s.thm with mramOk := true } })

/-! ### The performance monitor (R357–R368) -/

/-- In Dark and Held a write of the monitor has no effect (R355). -/
def State.pmuWrite (s : State) (f : State → State) : State := if s.pmuOn then f s else s

/-- PMU_SNAP. -/
def execPmuSnap (s : State) : Outcome := .next (s.pmuWrite State.pmuSnap)

/-- PMU_CLR_ALL. -/
def execPmuClrAll (s : State) : Outcome := .next (s.pmuWrite State.pmuClearAll)

/-- PMU_FREEZE_WRITE. -/
def execPmuFreezeWrite (freeze : Bool) (s : State) : Outcome :=
  .next (s.pmuWrite (fun s => s.setFld F.PMU_CTL_FREEZE (b2n freeze)))

/-- Zeroes the bins of one histogram. -/
def State.pmuHistClr (s : State) (h : Nat) : State :=
  { s with pmu := { s.pmu with bins := s.pmu.bins.filterT (fun k _ => k / 32 ≠ h) } }

/-- PMU_HIST_CLR. -/
def execPmuHistClr (h : Nat) (s : State) : Outcome := .next (s.pmuWrite (fun s => s.pmuHistClr h))

/-- Reads the sample record of a sequence number (R366, R368). -/
def State.smpRead (s : State) (q : Nat) : Nat × Bytes :=
  if s.pmu.smpWritten < q || q = 0 then (2, [])
  else
    let d := s.pmu.smpRing.getD ((q - 1) % 4096) []
    if leNat (slice d 120 4) = q % 2 ^ 32 then (0, d) else (1, [])

/-- A write of PMU_SMP_RD_SEQ starts the read; a record that was read is unread no more. -/
def State.smpStart (s : State) (q : Nat) : State :=
  let s := s.setReg F.PMU_SMP_RD_SEQ_SEQ.addr (BitVec.ofNat 32 q)
  let (r, d) := s.smpRead q
  { s with pmu := { s.pmu with rdStat := r, rdReady := true, rdData := d, smpUnread := if r = 0 then s.pmu.smpUnread.filter (· ≠ q) else s.pmu.smpUnread } }

/-- PMU_SAMPLE_READ_START. -/
def execPmuSampleReadStart (q : Nat) (s : State) : Outcome := .next (s.pmuWrite (fun s => s.smpStart q))

/-- PMU_COUNTER_WRAP: the events that bring counter `n` to 2^48 arrive; it wraps to 0 (R357, R358). -/
def execPmuCounterWrap (n : Nat) (s : State) : Outcome :=
  .next (if s.pmuLive.contains n then s.pmuAdd n (2 ^ 48 - s.pmu.ctr.getD n 0) else s)

end Sys2Proof.Machine
end

