-- ==== Sys2Proof/Machine/NetCmds.lean ====
section
/-! DEFINITION. Events of the network ports, of the ring and of Weir (R164–R180, R205–R216). -/

namespace Sys2Proof.Machine

/-! ### Frames (R164–R170, R207, R208) -/

/-- The tenant position whose policer a RoCE frame meets: that of the association of its established queue pair (R207). -/
def State.policerOf (s : State) (qpn mac : Nat) : Option Nat :=
  match s.findQpn qpn mac with
  | some (_, q) =>
    match s.assoc? q.assoc with
    | some a => if s.flag F.WEIR_CFG_POL_EN && s.fld (F.WEIR_POL_RATE_RATE a.tenant) ≠ 0 && s.domOn 59 then some a.tenant else none
    | none => none
  | none => none

/-- Sluice half that holds a queue pair, by crossbar port. -/
def State.halfPort (s : State) (qpn mac : Nat) : Nat :=
  4 + s.halfOf (match s.findQpn qpn mac with | some e => e.1 | none => qpn % 4096)

/-- A stored frame is taken by an internal consumer: it leaves by that crossbar port. -/
def State.toUnit (s : State) (unit cls : Nat) (f : Frame) : State :=
  (s.emit (.toUnit unit f.length f.head)).capture ⟨unit, true, false, false, false, cls, unit, 0, f.length, 0, f.head⟩

/-- A frame of one consumer only: its ingress record names the consumer's port (R178). -/
def State.consumed (s : State) (n unit cls : Nat) (f : Frame) : State :=
  (s.capture ⟨n, false, false, false, false, cls, unit, 0, f.length, 0, f.head⟩).toUnit unit cls f

/-- The controller's slave clock takes event messages of a port: PTP is its source and the port may carry it (R306). -/
def State.ptpOn (s : State) (n : Nat) : Bool :=
  s.flag F.CLK_PTP_CFG_EN && !s.flag F.CLK_PTP_CFG_SRC && bit (s.fld F.CLK_PTP_CFG_PORTS) n

/-- A frame reaches the control path. An event message of IEEE 1588 comes with its time stamp; a Sync that the slave clock takes is
followed by its Delay_Req on the same port, whose departure is stamped (R161, R306; assumption 68). -/
def State.toControl (s : State) (n cls : Nat) (f : Frame) : State :=
  let s := s.toUnit 7 cls f
  match f.kind with
  | .ptp true sync =>
    let s := (s.setNet n { s.nport n with rxStamp := some s.dev }).emit (.ptpTaken n s.dev)
    if sync && s.ptpOn n then
      s.sendInternal 7 n 6 (s.ownFrame 90 f.dmac f.vid 6 false (.ptp true false))
    else s
  | _ => s

/-- A frame for an internal consumer is stored whole and checked first (R170). -/
def State.storedBad (s : State) (n : Nat) (f : Frame) : Option Nat :=
  if f.length < 64 || s.maxFrame n < f.length then some 6 else if !f.fcsOk then some 5 else none

/-- A frame for a local address (R164 item 2). -/
def State.localFrame (s : State) (n cls : Nat) (f : Frame) : State :=
  match s.storedBad n f with
  | some r => s.dropIn n f cls 0xFF r
  | none =>
    match f.kind with
    | .roce qpn =>
      if s.shelf.st = .dark || s.shelf.st = .held || s.cmd.stopped then s.dropIn n f cls (s.halfPort qpn f.dmac) 1
      else match s.policerOf qpn f.dmac with
        | none => s.consumed n (s.halfPort qpn f.dmac) cls f
        | some t =>
          let (s, ok) := s.police t f.length
          if ok then s.consumed n (s.halfPort qpn f.dmac) cls f
          else if s.flag (F.WEIR_POL_RATE_ACTION t) then s.dropIn n f cls (s.halfPort qpn f.dmac) 7
          else s.consumed n (s.halfPort qpn f.dmac) cls { f with ecnCe := f.ecnCe || f.ecnCapable }
    | .other => (s.bump (F.NET_CNT_COUNT n 5) 1).dropIn n f cls 0xFF 9
    | _ => (s.capture ⟨n, false, false, false, false, cls, 7, 0, f.length, 0, f.head⟩).toControl n cls f

/-- A received PFC frame pauses or releases the egress queues of the classes mapped to its priorities (R166). -/
def State.pauseBy (s : State) (n : Nat) (ts : List (Nat × Nat)) : State :=
  let s := if s.flag (F.NET_CLASS_PFC_EN n) then ts.foldl (fun s t =>
      let c := s.pcpClass n t.1
      let q := s.egq n c
      if t.2 = 0 then
        s.setQueue n c { q with
          pausedTo := none, pausedFrom := none
          restoreAt := if q.tripped && q.pausedFrom.isSome then some (s.now + msec 100) else q.restoreAt }
      else
        let s := if q.pausedFrom.isNone then s.applyFld F.BSN_CFG_PAUSE_WD else s
        s.setQueue n c { q with
          wd := if q.pausedFrom.isNone then s.fld F.BSN_CFG_PAUSE_WD else q.wd
          pausedTo := some (s.now + t.2 * 128 / 100), restoreAt := none
          pausedFrom := match q.pausedFrom with | some p => some p | none => some s.now }) s
    else s
  s.startNext n

/-- The frame carries an R-APS message of the ring (R176). -/
def State.ringFrame (s : State) (f : Frame) : Bool :=
  f.kind = .raps && f.vid = s.rapsHdr.vid && f.dmac = s.rapsHdr.dmac

/-- A frame on a looped port is one that the port itself has sent (R180). -/
def QFrame.back (x : QFrame) (f : Frame) : Bool := x.length = f.length && x.head = f.head

/-- A frame that a network port has taken: discarded, given to a consumer, sent on (R164, R170, R177). -/
def State.takeFrame (s : State) (n cls : Nat) (f : Frame) : State :=
  let bad := s.storedBad n f
  match f.kind with
  | .pfc ts => match bad with | some r => s.dropIn n f cls 0xFF r | none => s.pauseBy n ts
  | _ =>
    if n < 2 && s.ringBlocks n f && !s.ringFrame f then s.dropIn n f cls 0xFF (bad.getD 8)
    else if s.isLocal f.dmac f.vid then s.localFrame n cls f
    else if n < 2 then
      let s := if (f.multicast || s.ringFrame f) && bad.isNone then s.toControl n cls f else s
      s.transit n (ringPeer n) cls f
    else s.dropIn n f cls 0xFF (bad.getD 9)

/-- FRAME_RECEIVE (R164). -/
def execFrameReceive (n : Nat) (f : Frame) (s : State) : Outcome :=
  let p := s.nport n
  let loop := s.flag (F.NET_CTRL_LOOPBACK n)
  if !s.netPowered n || !p.link || !s.flag (F.NET_CTRL_ENABLE n) then .next s
  else if loop && !(match p.loop with | x :: _ => x.back f | [] => false) then .next s
  else
    let s := if loop then s.setNet n { p with loop := p.loop.drop 1 } else s
    let s := (s.pmuEvent 0x300 n 1).pmuEvent 0x301 n f.length
    let s := s.applyFld F.BSN_CFG_CT_EN
    let cls := s.frameClass n f
    let before := s.fld (F.NET_CNT_COUNT n 4)
    let s := s.takeFrame n cls f
    .next (if s.fld (F.NET_CNT_COUNT n 4) ≠ before then s.raise (0x300 + n) 2 0x05000000 [] else s)

/-! ### Pauses (R166, R167) -/

/-- PFC_REFRESH. -/
def execPfcRefresh (n c : Nat) (s : State) : Outcome :=
  match (s.nport n).pfcAt.get? c with
  | none => .next s
  | some t =>
    let s := s.at t
    let p := s.nport n
    .next ((s.setNet n { p with pfcAt := p.pfcAt.put c (t + usec 40) }).sendPfc n c 0xFFFF)

/-- PAUSE_EXPIRY. -/
def execPauseExpiry (n c : Nat) (s : State) : Outcome :=
  let q := s.egq n c
  match q.pausedTo with
  | none => .next s
  | some t =>
    let s := s.at t
    .next ((s.setQueue n c { q with
      pausedTo := none, pausedFrom := none, restoreAt := if q.tripped then some (s.now + msec 100) else q.restoreAt }).startNext n)

/-- PAUSE_WATCHDOG_EXPIRY: a lossless queue paused without a break for PAUSE_WD is treated as lossy. -/
def execPauseWatchdogExpiry (n c : Nat) (s : State) : Outcome :=
  let q := s.egq n c
  match q.pausedFrom with
  | none => .next s
  | some t =>
    let wd := q.wd
    if wd = 0 || q.tripped || !s.losslessOn n c then .next s
    else
      let s := s.at (t + msec (10 * wd))
      let s := s.setQueue n c { q with tripped := true }
      let s := (s.flushQueue n c 0xC 5 (fun _ => true)).bump (F.NET_CNT_COUNT n 7) 1
      .next (s.raise (0x300 + n) 2 0x03000000 [])

/-- LOSSLESS_RESTORE_EXPIRY. -/
def execLosslessRestoreExpiry (n c : Nat) (s : State) : Outcome :=
  let q := s.egq n c
  match q.restoreAt with
  | none => .next s
  | some t => let s := s.at t; .next (s.setQueue n c { q with tripped := false, restoreAt := none })

/-- EGRESS_FRAME_END (R210): the frame's cells are free, the next class is selected. -/
def execEgressFrameEnd (n : Nat) (s : State) : Outcome :=
  match (s.nport n).sending with
  | none => .next s
  | some (f, cut) =>
    let s := s.at (s.nport n).sendEnd
    let s := s.setNet n { s.nport n with sending := none }
    let s := ((if cut then s else s.freeFrame f).takeCredits n).startNext n
    .next (if s.pwr.draining = 0 then s else s.syncDomains)

/-! ### Links (R172, R173) -/

/-- LINK_DOWN. `fec`: the port lost FEC lock or met a link fault, which Thimble hears of. -/
def execLinkDown (n : Nat) (fec : Bool) (s : State) : Outcome :=
  .next (if fec && (s.nport n).link then (s.linkLost n).raise (0x300 + n) 2 0x04000000 [] else s.linkLost n)

/-- LINK_UP: the 100 ms hold starts. -/
def execLinkUp (n : Nat) (s : State) : Outcome :=
  if !s.netPowered n || !s.flag (F.NET_CTRL_ENABLE n) || (s.nport n).link then .next s
  else .next (s.setNet n { s.nport n with link := true, fec := 0xF, holdAt := some (s.now + msec 100) })

/-- LINK_HOLD_EXPIRY: the port takes frames; a ring port reports the clearing of its signal failure. -/
def execLinkHoldExpiry (n : Nat) (s : State) : Outcome :=
  match (s.nport n).holdAt with
  | none => .next s
  | some t =>
    let s := (s.at t).setNet n { s.nport n with holdAt := none }
    let s := if n < 2 then s.ringClear n else s
    .next (s.startNext n)

/-- BANK_DRAIN_EXPIRY (R175): frames left in the banks are discarded, the banks switch off. -/
def execBankDrainExpiry (s : State) : Outcome :=
  match s.net.drainAt with
  | none => .next s
  | some t =>
    let s := s.at t
    let s := { s with net := { s.net with drainAt := none } }
    let s := (List.range 4).foldl (fun s n => (List.range 8).foldl (fun s c => s.flushQueue n c 0xA 2 (·.old)) s) s
    .next ((List.range 4).foldl State.takeCredits s).syncDomains

/-! ### The ring (R176, R177); G.8032's own rules for a node without the protection link are assumption 17 -/

/-- RAPS_MESSAGE: not accepted while the guard timer runs, nor by a node that is off, nor with another ring's VLAN, address or
level. A flush request needs no action and is acknowledged: an Event goes back on the port (assumption 17). -/
def execRapsMessage (n : Nat) (m : RapsMsg) (s : State) : Outcome :=
  if s.ctlWaits then .next (s.waitFrameAt n (.rapsMessage n m)) else
  if !s.flag F.BSN_RING_ENABLE || 2 ≤ n || m.hdr ≠ s.rapsHdr then .next s
  else if s.net.guardAt.isSome && m.req ≠ .event then .next s
  else
    let failed := (s.nport 0).ring = 1 || (s.nport 1).ring = 1 || (s.nport 0).ring = 3 || (s.nport 1).ring = 3
    let unblock := fun (s : State) => [0, 1].foldl (fun s k => if (s.nport k).ring = 2 then (s.ringSt k 0).startNext k else s) s
    let node := fun (s : State) (v : Nat) => ({ s with net := { s.net with node := v } } : State)
    .next (match m.req with
      | .event => s.raps .event [n]
      | .fs => unblock (node s 3)
      | .sf => unblock (node s 1)
      | .ms => if failed then s else unblock (node s 2)
      | .nr => if failed then s else node s 4
      | .nrRb => if failed then s else unblock (node s 0))

/-- RING_HOLDOFF_EXPIRY: the signal failure is raised where the port is still down. -/
def execRingHoldoffExpiry (n : Nat) (s : State) : Outcome :=
  match (s.nport n).holdoffAt with
  | none => .next s
  | some t =>
    let s := (s.at t).setNet n { s.nport n with holdoffAt := none }
    .next (if (s.nport n).link then s else s.ringFail n)

/-- RING_GUARD_EXPIRY. -/
def execRingGuardExpiry (s : State) : Outcome :=
  match s.net.guardAt with
  | none => .next s
  | some t => let s := s.at t; .next { s with net := { s.net with guardAt := none } }

/-! ### Weir (R206, R212–R215) -/

def rateOf (r : Nat) : Nat := min 400000 r

/-- One policer's refill, its written RATE, BURST and ACTION applied. -/
def State.refillOne (s : State) (t : Nat) : State :=
  let old := burstBytes (s.fld (F.WEIR_POL_BURST_BURST t))
  let lvl := s.polLevel t
  let s := s.applyRwls [0x1C8000 + 8 * t, 0x1C8004 + 8 * t]
  let new := burstBytes (s.fld (F.WEIR_POL_BURST_BURST t))
  let v := refillPol old new (rateOf (s.fld (F.WEIR_POL_RATE_RATE t))) lvl
  { s with net := { s.net with pol := if v = new then s.net.pol.del t else s.net.pol.put t v } }

/-- One shaper's refill. -/
def State.refillShp (s : State) (n c : Nat) : State :=
  let lvl := s.shpLevel n c
  let s := s.applyRwls [0x1C1010 + 0x1000 * n + 8 * c, 0x1C1014 + 0x1000 * n + 8 * c]
  let new : Int := (burstBytes (s.fld (F.WEIR_SHP_BURST_BURST n c)) : Int)
  let v := min new (lvl + ((1024 * rateOf (s.fld (F.WEIR_SHP_RATE_RATE n c)) : Nat) : Int))
  s.setQueue n c { s.egq n c with bucket := if v = new then none else some v }

/-- REFILL_BOUNDARY: every 8.192 µs. Buckets that are full and have nothing pending do not change. -/
def execRefillBoundary (s : State) : Outcome :=
  let s := s.at ((s.now / 8192 + 1) * 8192)
  let s := s.applyRwl 0x1C0000
  let pend := (s.regs.pend.keys.filter (fun a => 0x1C8000 ≤ a && a < 0x1D0000)).map (fun a => (a - 0x1C8000) / 8)
  let s := ((s.net.pol.keys ++ pend).eraseDups).foldl State.refillOne s
  let s := (List.range 4).foldl (fun s n => (List.range 8).foldl (fun s c =>
    if (s.egq n c).bucket.isSome || (s.regs.pend.has (0x1C1010 + 0x1000 * n + 8 * c)) || (s.regs.pend.has (0x1C1014 + 0x1000 * n + 8 * c))
    then s.refillShp n c else s) s) s
  .next ((List.range 4).foldl State.startNext s)

/-- The admin bank as a list (R212). -/
def State.adminList (s : State) (n start cycle : Nat) : GateList :=
  let len := clamp 1 64 (s.fld (F.WEIR_GCL_CTL_LEN n))
  { entries := (List.range len).map (fun e =>
      (s.fld (F.WEIR_GCL_ADMIN_GATES n e), 10 * max 20 (s.fld (F.WEIR_GCL_ADMIN_INTERVAL n e))))
    cycle := cycle, start := start }

/-- Start time and lateness of a list committed at device time `t` (R213). -/
def gclStart (base cycle t : Nat) : Nat × Bool :=
  if t + 2000 ≤ base then (base, false)
  else (base + max 1 (cdiv (t + 2000 - base) cycle) * cycle, true)

/-- COMMIT of port `n`; refused with CFG_BUSY while a commit is pending. -/
def State.gclCommit (s : State) (n : Nat) : State :=
  let p := s.nport n
  if p.admin.isSome then s.cfgErr 1 (0x1C1080 + 0x1000 * n)
  else
    let base := s.fld (F.WEIR_GCL_BASE_LO_BASE_LO n) + s.fld (F.WEIR_GCL_BASE_HI_BASE_HI n) * 2 ^ 32
    let cycle := clamp 1000 1000000000 (s.fld (F.WEIR_GCL_CYCLE_CYCLE n))
    let (st, late) := gclStart base cycle s.dev
    let s := s.setNet n { p with admin := some (s.adminList n st cycle) }
    let s := (s.setFld (F.WEIR_GCL_START_LO_S_LO n) st).setFld (F.WEIR_GCL_START_HI_S_HI n) (st / 2 ^ 32)
    if late then s.setFld (F.WEIR_GCL_STAT_LATE n) 1 else s

/-- GCL_COMMIT. -/
def execGclCommit (n : Nat) (s : State) : Outcome := .next (s.gclCommit n)

def State.gclCancel (s : State) (n : Nat) : State := s.setNet n { s.nport n with admin := none }

/-- GCL_COMMIT_CANCEL. -/
def execGclCommitCancel (n : Nat) (s : State) : Outcome := .next (s.gclCancel n)

/-- GCL_START: the pending bank becomes the oper bank; a frame in progress whose class its entry 0 closes is an overrun. -/
def execGclStart (n : Nat) (s : State) : Outcome :=
  match (s.nport n).admin with
  | none => .next s
  | some g =>
    let s := s.at (s.now + (g.start - s.dev))
    let s := s.setNet n { s.nport n with oper := some g, admin := none, entry := 0 }
    let s := match (s.nport n).sending with
      | some (f, _) => if bit (gateAt g.cycle g.entries 0 0 0).2.1 f.cls then s else s.bump (F.WEIR_GCL_STAT_OVERRUN n) 1
      | none => s
    .next (s.startNext n)

/-- GCL_ENTRY_END: the present entry's interval ends and the next entry's gates apply. -/
def execGclEntryEnd (n : Nat) (s : State) : Outcome :=
  match (s.nport n).oper with
  | none => .next s
  | some g =>
    let s := s.at (s.now + (s.gclNow g).2.2)
    .next ((s.setNet n { s.nport n with entry := (s.gclNow g).1 }).startNext n)

/-- QUEUE_SAMPLE: depth in cells and head delay in 100 ns of a port's eight queues. -/
def execQueueSample (n : Nat) (s : State) : Outcome :=
  let s := s.applyRwl 0x1C0004
  let s := s.at ((s.nport n).smpAt + usec (max 1 (s.fld F.WEIR_SMP_CFG_PERIOD_US)))
  let s := s.setNet n { s.nport n with smpAt := s.now }
  if !s.flag F.WEIR_SMP_CFG_EN || !s.netPowered n then .next s
  else .next ((List.range 8).foldl (fun s c =>
    let q := s.egq n c
    let d := q.depth
    let dly := match q.frames with | f :: _ => s.now - f.at_ | [] => 0
    let d' := min 0xFFFF d
    let y := min 0xFFFF (dly / 100)
    let s := (s.setFld (F.WEIR_QDEP_LAST n c) d').setFld (F.WEIR_QDEP_MAX n c) (max d' (s.fld (F.WEIR_QDEP_MAX n c)))
    let s := (s.setFld (F.WEIR_QDLY_LAST n c) y).setFld (F.WEIR_QDLY_MAX n c) (max y (s.fld (F.WEIR_QDLY_MAX n c)))
    (s.histAdd 0x20 (8 * n + c) dly (fun _ => true)).histAdd 0x21 (8 * n + c) d (fun _ => true)) s)

end Sys2Proof.Machine
end

