-- ==== Sys2Proof/Machine/SluCmds.lean ====
section
/-! DEFINITION. Connection management, arriving packets, acknowledgement and retry of a queue pair, ingest window drains
and triggered work requests (R181–R204). -/

namespace Sys2Proof.Machine

/-- The queue pair contexts and half 0 are powered, so Sluice serves (R182). -/
def State.sluOn (s : State) : Bool := s.domOn 59

/-- What a frame brings reaches Sluice: from step 2 of the power-fail sequence on, Basin discards frames for it (R297). -/
def State.sluIn (s : State) : Bool := s.sluOn && !s.cmd.stopped

/-! ### Connection management (R183, R184, R193) -/

/-- The NVMe RDMA reject statuses of R183 (assumption 18). -/
def rejFormat : Nat := 2
def rejResources : Nat := 6
def rejIrd : Nat := 7

/-- The largest MTU whose full frame fits MAXFRAME of every port the queue pair may use (R183). -/
def State.mtuMax (s : State) : Nat :=
  let room := ((List.range s.nNet).filter s.netPowered).foldl (fun m n => min m (s.maxFrame n)) 9216
  if 4096 + 104 ≤ room then 4096 else if 2048 + 104 ≤ room then 2048 else 1024

/-- Paths agreed for the offer in bytes 24–31 of the private data; 0 without spraying (R193). -/
def State.sprayPaths (s : State) (priv : Bytes) : Nat :=
  let offered := (priv.getD 5 0).toNat
  if priv.length = 8 && priv.take 5 = [0x4E, 0x53, 0x50, 0x52, 1] && priv.drop 6 = [0, 0] && 1 ≤ offered && offered ≤ 4
      && s.flag F.SLU_CFG_SPRAY_EN then min offered (s.fld F.SLU_CFG_SPRAY_PATHS + 1)
  else 0

def privOf (paths : Nat) : Bytes :=
  if paths = 0 then zeros 8 else [0x4E, 0x53, 0x50, 0x52, 1, BitVec.ofNat 8 paths, 0, 0]

/-- CM_REQ (R183). -/
def execCmReq (req : CmReq) (s : State) : Outcome :=
  if s.ctlWaits then .next (s.waitFrame (.cmReq req)) else
  if !s.sluIn then .next s
  else
    let s := (s.applyFld F.SLU_CFG_SPRAY_EN).applyFld F.SLU_CFG_SPRAY_PATHS
    let rej := fun (st : Nat) => s.putCm req.remoteMac req.vlan req.remoteGid (.cm .rej 0 st [])
    if req.mtu < 1024 then .next (rej rejFormat)
    else if req.responderRes = 0 then .next (rej rejIrd)
    else if s.qpLimit ≤ s.slu.qps.size then .next (rej rejResources)
    else
      match s.slu.qps.freeKey 4096 with
      | none => .next (rej rejResources)
      | some i =>
        let s := s.applyRwl F.SLU_RETRY_TIMEOUT.addr
        let g := s.nextGen i
        let paths := s.sprayPaths req.priv
        let q : Qp := { Qp.init with
          gen := g, qpn := g * 4096 + i, mtu := min req.mtu s.mtuMax, depth := min 16 req.responderRes
          size := req.hsqsize, assoc := req.assoc, qid := req.qid, remoteGid := req.remoteGid, remoteQpn := req.remoteQpn
          remoteMac := req.remoteMac, vlan := req.vlan, localMac := req.localMac, paths := paths, retryCnt := s.fld F.SLU_RETRY_RETRY_CNT
          rnrCnt := s.fld F.SLU_RETRY_RNR_RETRY, rnrLeft := s.fld F.SLU_RETRY_RNR_RETRY
          timeout := clamp 8 20 (s.fld F.SLU_RETRY_TIMEOUT), ePsn := req.startPsn % psnMod, acked := req.startPsn % psnMod
          nextPsn := s.draw % psnMod, half := s.halfTarget i }
        let s := s.drawn
        let s := { s with slu := { s.slu with qps := s.slu.qps.put i q, gens := s.slu.gens.put i g } }
        .next (s.putCm req.remoteMac req.vlan req.remoteGid (.cm .rep i 0 (privOf paths)))

/-- CM_RTU (R183): the queue pair is ready, and the standby learns of it (R226). -/
def execCmRtu (i : Nat) (s : State) : Outcome :=
  if s.ctlWaits then .next (s.waitFrame (.cmRtu i)) else
  match s.qp? i with
  | some q =>
    if q.st ≠ 0 || !s.sluIn then .next s
    else
      let s := s.modQp i (fun q => { q with st := 1 })
      .next (match s.qpBed q with | some b => s.qpTell b i q | none => s)
  | none => .next s

/-- CM_REJ (R183): the connection is abandoned. -/
def execCmRej (i : Nat) (s : State) : Outcome :=
  if s.ctlWaits then .next (s.waitFrame (.cmRej i)) else
  match s.qp? i with
  | some q => .next (if q.st = 0 && s.sluIn then s.qpDestroy i else s)
  | none => .next s

/-- The queue pair and the association it serves end (R34, R184). -/
def State.disconnect (s : State) (i : Nat) : State :=
  match s.qp? i with
  | some q => if (s.assoc? q.assoc).isSome then (s.endAssoc q.assoc).qpDestroy i else s.qpDestroy i
  | none => s

/-- CM_DREQ (R184). -/
def execCmDreq (i : Nat) (s : State) : Outcome :=
  if s.ctlWaits then .next (s.waitFrame (.cmDreq i)) else
  if !s.sluIn then .next s
  else
    match s.qp? i with
    | some q => .next ((s.disconnect i).putCm q.remoteMac q.vlan q.remoteGid (.cm .drep i 0 []))
    | none => .next s

/-- CM_DREP: a disconnect the controller started is complete (R183). -/
def execCmDrep (i : Nat) (s : State) : Outcome := .next (if s.sluIn then s.disconnect i else s)

/-! ### Refusals (R203) -/

/-- An Error Information entry of an association, with its event where one is outstanding (R36, R203). The event's
information byte is left open (assumption 12). -/
def State.logError (s : State) (a code : Nat) : State :=
  let s := { s with cmd := { s.cmd with errLog := ((s.cmd.errCount + 1, a, code) :: s.cmd.errLog).take 64, errCount := s.cmd.errCount + 1 } }
  match s.assoc? a with
  | some x => if x.aers.isEmpty then s else (s.aer a (0x010000 + 256 * (s.draw % 256))).drawn
  | none => s

/-- Reports a refusal at the device (R203): latched, counted, recorded as what a remote end did. -/
def State.reportRdma (s : State) (i psn key cause : Nat) (win : Option Nat) : State :=
  let s := (s.setFld F.SLU_ACCV_LAST_QP_INDEX i).setFld F.SLU_ACCV_LAST_CAUSE cause
  let s := if cause ≤ 6 then s.bump (F.SLU_CNT_COUNT 4) 1 else s
  let s := match win with | some a => s.logError a cause | none => s
  s.raise (0x600 + s.halfOf i) 0 0x40000000 (le 2 i ++ zeros 2 ++ le 4 psn ++ le 4 key ++ [BitVec.ofNat 8 cause])

/-- Refuses an arriving request: the NAK, the report, and the queue pair's end (R184, R203). -/
def State.refuseRdma (s : State) (i psn key cause : Nat) (win : Option Nat) : State :=
  let s := s.putNak i psn (if cause = 7 then .invalidRequest else .remoteAccess)
  (s.reportRdma i psn key cause win).qpError i

/-! ### Arriving packets (R189–R194) -/

/-- Where a packet's message starts and what it addresses: first PSN, operation, base address, key, whether the message is
new. -/
structure Start where
  first : Nat
  op : RdmaOp
  base : Nat
  rkey : Nat
  offset : Nat
  span : Nat
  deriving DecidableEq, Repr

/-- PSNs from `a` on, as far as `d`, have all been received. -/
def Qp.allFrom (q : Qp) (a d : Nat) : Bool :=
  (List.range d).all (fun k => let p := psnAdd a k; decide (8388608 ≤ psnDist q.ePsn p) || q.got.contains p)

/-- The start of a packet's message where it is known (R190): from its placement header, as a first packet, or from a first
packet that arrived before it: for a WRITE the RETH's length bounds the message, for a SEND every packet between must
have arrived. -/
def Qp.start (q : Qp) (p : Packet) : Option Start :=
  match p.place with
  | some h => some ⟨h.firstPsn, p.op, h.target - h.offset, h.rkey, h.offset, p.payload.length⟩
  | none =>
    if p.first then
      match p.reth with
      | some (a, k, n) => some ⟨p.psn, p.op, a, k, 0, n⟩
      | none => some ⟨p.psn, p.op, 0, 0, 0, 0⟩
    else
      (q.msgs.find? (fun m =>
        let d := psnDist m.first p.psn
        m.known && d < 8388608 && (match m.last with | some l => psnDist m.first l ≥ d | none => true)
          && (if m.op = .write || m.op = .writeImm then d < cdiv m.len q.mtu else q.allFrom m.first d))).map
        (fun m => ⟨m.first, m.op, m.base, m.rkey, psnDist m.first p.psn * q.mtu, m.len⟩)

/-- Cause of R203 for which a request is refused; 0 where it is accepted (R185, R194, R198, R199). -/
def State.rdmaCause (s : State) (i : Nat) (q : Qp) (p : Packet) (st : Start) : Nat × Option Nat :=
  let touches := p.op = .write || p.op = .writeImm || p.op = .flush
  if p.op = .atomic || p.op = .bind || p.op = .sendInv then (7, none)
  else if p.op = .writeImm && s.is36 then (7, none)
  else if p.place.isSome && q.paths = 0 then (7, none)
  else if p.op = .readReq then (6, none)
  else if p.op = .flush && 16 ≤ (q.flushes.filter (fun f => psnDist q.acked f < 8388608)).length then (7, none)
  else if !touches then (if 8256 < st.offset + p.payload.length then 7 else 0, none)
  else
    let running := q.msgs.any (fun m => m.known && m.first = st.first)
    match s.winOf st.rkey with
    | none => if running then (5, some q.assoc) else (1, none)
    | some (w, x) =>
      if x.assoc ≠ q.assoc then (2, some x.assoc)
      else if x.sizeMib * 1048576 < st.base + max st.span (st.offset + p.payload.length) then (3, some x.assoc)
      else if x.revoking && !x.accepted.contains (i, st.first) then (4, some x.assoc)
      else if (s.slu.windows.get? w).isNone then (1, none)
      else (0, none)

/-- Places a packet's bytes: in its window, mirrored, or in its receive buffer (R190, R196). -/
def State.place (s : State) (i : Nat) (q : Qp) (p : Packet) (st : Start) : State :=
  let old := q.msgs.find? (fun m => m.first = st.first)
  let m : RxMsg := old.getD ⟨st.first, st.op, false, st.base, st.rkey, none, none, .empty, st.span⟩
  let s := if p.place.isSome && !p.first && !m.known then s.pmuEvent 0x601 (s.halfOf i) 1 else s
  let win := p.op = .write || p.op = .writeImm
  let m := { m with
    known := true, imm := (match p.imm with | some v => some v | none => m.imm)
    last := if p.last then some p.psn else m.last
    data := if win || p.op = .flush then m.data else m.data.writeN st.offset p.payload
    len := if win || p.op = .flush then m.len else max m.len (st.offset + p.payload.length) }
  let s := s.modQp i (fun q => { q with
    got := q.got ++ [p.psn], msgs := (q.msgs.filter (fun x => x.first ≠ st.first)) ++ [m]
    flushes := if p.op = .flush then q.flushes ++ [p.psn] else q.flushes })
  if !win then s
  else
    let w := s.winAt st.rkey
    let s := { s with slu := { s.slu with windows := s.slu.windows.modify w (fun x => { x with mem := x.mem.writeN (st.base + st.offset) p.payload }) } }
    match s.qpCopied q with
    | some b =>
      if s.gus.link then
        (s.modQp i (fun q => { q with mirHold := q.mirHold ++ [p.psn] })).gusSend b
          (.windowMirror (keyIndex st.rkey) (st.base + st.offset) st.rkey p.payload) (.window i p.psn)
      else s
    | none => s

/-- Holds a packet whose message start is not known, within the limit (R190). -/
def State.hold (s : State) (i : Nat) (p : Packet) : State :=
  let s := s.applyFld F.SLU_CFG_HOLD_KCELLS
  let k := cellsOf (p.payload.length + 62)
  if clamp 1 64 (s.fld F.SLU_CFG_HOLD_KCELLS) * 1024 < s.slu.heldCells + k then s.bump (F.SLU_CNT_COUNT 2) 1
  else
    let s := s.bump (F.SLU_CNT_COUNT 0) 1
    let s := s.modQp i (fun q => { q with held := q.held ++ [p] })
    { s with slu := { s.slu with heldCells := s.slu.heldCells + k } }

/-- Places a packet whose start is known, or refuses it. -/
def State.admitPacket (s : State) (i : Nat) (q : Qp) (p : Packet) (st : Start) : State :=
  match s.rdmaCause i q p st with
  | (0, _) => s.place i q p st
  | (c, win) => s.refuseRdma i p.psn st.rkey c win

/-- Places held packets whose start has become known (R190). -/
def releaseHeldF : Nat → Nat → State → State
  | 0, _, s => s
  | n + 1, i, s =>
    match s.qp? i with
    | none => s
    | some q =>
      if q.st ≠ 1 then s else
      match q.held.find? (fun p => (q.start p).isSome) with
      | none => s
      | some p =>
        let q' := { q with held := q.held.erase p }
        let s := { s with slu := { s.slu with heldCells := s.slu.heldCells - cellsOf (p.payload.length + 62) } }
        let s := s.modQp i (fun _ => q')
        match q'.start p with
        | some st => releaseHeldF n i (s.admitPacket i q' p st)
        | none => s

/-- The expected PSN passes every PSN received without a gap: the packets join the in-sequence run (R188, R190). -/
def joinRun : Nat → Qp → Qp
  | 0, q => q
  | n + 1, q =>
    if q.got.contains q.ePsn then
      joinRun n { q with got := q.got.filter (· ≠ q.ePsn), ePsn := psnAdd q.ePsn 1, runLen := q.runLen + 1 }
    else q

/-- After an arrival: the run grows, and the gap's age starts or starts again (R188, R192). -/
def State.passPsn (s : State) (i : Nat) : State :=
  match s.qp? i with
  | none => s
  | some q =>
    let q' := joinRun q.got.length q
    let gap := !q'.got.isEmpty || !q'.held.isEmpty
    let moved := decide (q'.ePsn ≠ q.ePsn)
    let fresh := gap && (moved || q.gapAt.isNone)
    let s := if fresh then s.applyFld F.SLU_CFG_GAP_MIN_US else s
    s.modQp i (fun _ => { q' with
      runAt := if 0 < q'.runLen then some (q'.runAt.getD (s.now + usec 4)) else none
      gapAt := if !gap then none else if fresh then some s.now else q.gapAt
      gapMin := if fresh then max 20 (s.fld F.SLU_CFG_GAP_MIN_US) else q.gapMin
      nakSent := if fresh || !gap then false else q.nakSent })

/-- A drain whose accepted messages are all complete ends (R199 step 4). -/
def State.drainCheck (s : State) (w : Nat) : State :=
  match s.slu.windows.get? w with
  | some x =>
    if x.revoking && !(x.accepted.any (fun a => match s.qp? a.1 with
        | some q => q.st = 1 && q.msgs.any (fun m => m.first = a.2) | none => false)) then s.winFinish w
    else s
  | none => s

/-- A complete message is delivered (R191): a capsule takes its arrival number, an immediate its effect, a FLUSH waits for
its acknowledgement. -/
def State.deliver (s : State) (i : Nat) (q : Qp) (m : RxMsg) (last : Nat) : State :=
  let s := s.modQp i (fun q => { q with msn := (q.msn + 1) % psnMod, msgs := q.msgs.filter (fun x => x.first ≠ m.first) })
  let holdTick := fun (s : State) =>
    match s.qpCopied q with
    | some _ => s.modQp i (fun q => { q with ackHold := q.ackHold ++ [(last, s.gus.tick)] })
    | none => s
  match m.op with
  | .write => s.drainCheck (s.winAt m.rkey)
  | .writeImm => (s.countUp (s.winAt m.rkey) m.imm).drainCheck (s.winAt m.rkey)
  | .flush => holdTick s
  | _ =>
    let bytes := m.data.readN 0 m.len
    let s := holdTick s
    if s.cmd.queues.has (qkey q.assoc q.qid) then
      (s.arrive ⟨q.assoc, q.qid, leNat (slice bytes 2 2)⟩ (leNat (slice bytes 4 4)) none bytes (q.qid = 0)).1
    else s

/-- Delivers complete messages in PSN order (R191). -/
def deliverF : Nat → Nat → State → State
  | 0, _, s => s
  | n + 1, i, s =>
    match s.qp? i with
    | none => s
    | some q =>
      let ready := q.msgs.filterMap (fun m => match m.last with
        | some l => if m.known && 1 ≤ psnDist l q.ePsn && psnDist l q.ePsn < 8388608 then some (psnDist m.first q.ePsn, m, l) else none
        | none => none)
      match ready.foldl (fun (a : Option (Nat × RxMsg × Nat)) x => match a with
          | none => some x | some y => if y.1 < x.1 then some x else some y) none with
      | none => s
      | some (_, m, l) => deliverF n i (s.deliver i q m l)

/-- A duplicate is acknowledged again (R190). -/
def State.again (s : State) (i : Nat) (q : Qp) : State :=
  (s.bump (F.SLU_CNT_COUNT 3) 1).putAck i (psnAdd q.acked (psnMod - 1))

/-- A packet that arrives with ECN-CE draws a CNP, at most once per 50 µs (R189). -/
def State.answerCe (s : State) (i : Nat) (q : Qp) (p : Packet) : State :=
  if !p.ecnCe then s else
  let s := s.applyFld F.SLU_CFG_CNP_EN
  if s.flag F.SLU_CFG_CNP_EN && (match q.cnpAt with | some t => decide (t + usec 50 ≤ s.now) | none => true) then
    ((s.modQp i (fun q => { q with cnpAt := some s.now })).putCnp i).bump (F.SLU_CNT_COUNT 6) 1
  else s

/-- PACKET_RECEIVE (R181, R190–R194). -/
def execPacketReceive (p : Packet) (s : State) : Outcome :=
  if !s.sluIn then .next s
  else
    match s.findQpn p.qpn p.dmac with
    | none => .next (s.bump (F.SLU_CNT_COUNT 2) 1)
    | some (i, q) =>
      let fenced := match s.qpBed q with | some b => (match s.bed? b with | some x => x.fenced | none => false) | none => false
      if fenced then .next s
      else
        let s := s.pmuEvent 0x600 (s.halfOf i) 1
        let s := s.answerCe i q p
        let q := (s.qp? i).getD q
        let d := psnDist q.ePsn p.psn
        if 8388608 ≤ d then .next (s.again i q)
        else if 256 ≤ d then .next (s.bump (F.SLU_CNT_COUNT 2) 1)
        else if q.got.contains p.psn || q.held.any (fun h => h.psn = p.psn) then .next (s.bump (F.SLU_CNT_COUNT 3) 1)
        else
          let s := match q.start p with
            | some st => releaseHeldF (q.held.length + 1) i (s.admitPacket i q p st)
            | none =>
              match s.rdmaCause i q p ⟨p.psn, p.op, 0, 0, 0, 0⟩ with
              | (7, _) => s.refuseRdma i p.psn 0 7 none
              | (6, _) => s.refuseRdma i p.psn 0 6 none
              | _ => s.hold i p
          match s.qp? i with
          | none => .next s
          | some q' =>
            if q'.st ≠ 1 then .next s
            else
              let s := deliverF (q'.msgs.length + 1) i (s.passPsn i)
              let s := match s.qp? i with
                | some r => if r.st = 1 && (8 ≤ r.runLen || (p.op == RdmaOp.flush && (s.qpCopied r).isNone)) then s.sendAck i else s
                | none => s
              let s := match s.qp? i with | some r => if r.moveBy.isSome then s.moveQp i else s | none => s
              .next (if bit s.pwr.draining 60 && !s.half1Busy then s.syncDomains else s)

/-- ACK_TIMER_EXPIRY (R188). -/
def execAckTimerExpiry (i : Nat) (s : State) : Outcome :=
  match s.qp? i with
  | some q =>
    match q.runAt with
    | some t => if q.st = 1 && s.sluOn then .next ((s.at t).sendAck i) else .next s
    | none => .next s
  | none => .next s

/-- GAP_TIMEOUT (R192). -/
def execGapTimeout (i : Nat) (s : State) : Outcome :=
  match s.qp? i with
  | some q =>
    match q.gapAt with
    | some t =>
      if q.st ≠ 1 || q.nakSent || !s.sluOn then .next s
      else
        let s := s.at (t + max (4 * q.rtt) (usec q.gapMin))
        let s := (s.modQp i (fun q => { q with nakSent := true })).bump (F.SLU_CNT_COUNT 1) 1
        .next ((s.pmuEvent 0x603 (s.halfOf i) 1).putNak i q.ePsn .sequence)
    | none => .next s
  | none => .next s

/-! ### Congestion (R189) -/

/-- CNP_RECEIVED: the rate is halved, with a floor of 1 Gb/s. -/
def execCnpReceived (i : Nat) (s : State) : Outcome :=
  match s.qp? i with
  | some q =>
    if q.st ≠ 1 || !s.sluIn then .next s
    else .next (s.modQp i (fun q => { q with rate := max 1000 (q.rate / 2), rateAt := some (s.now + usec 55) }))
  | none => .next s

/-- CC_RATE_INCREASE. -/
def execCcRateIncrease (i : Nat) (s : State) : Outcome :=
  match s.qp? i with
  | some q =>
    match q.rateAt with
    | some t =>
      if q.st ≠ 1 || !s.sluOn then .next s
      else
        let s := (s.at t).applyFld F.SLU_CFG_CC_STEP
        let r := min 400000 (q.rate + 1000 * max 1 (s.fld F.SLU_CFG_CC_STEP))
        .next (s.modQp i (fun q => { q with rate := r, rateAt := if r = 400000 then none else some (s.now + usec 55) }))
    | none => .next s
  | none => .next s

/-! ### Requests of the queue pair's own (R184–R187) -/

def TxReq.last (r : TxReq) : Nat := psnAdd r.first (r.packets - 1)

/-- Whether PSN `p` lies at or after `r`'s last PSN. -/
def TxReq.covered (r : TxReq) (p : Nat) : Bool := decide (psnDist r.last p < 8388608)

/-- The host has answered the probe of a taken-over queue pair: it expects PSN `e`. A response SEND that it executed has ended
its command; what follows is issued again from `e` on (R238). -/
def State.probeEnd (s : State) (i e : Nat) : State :=
  match s.qp? i with
  | none => s
  | some q =>
    match q.probe with
    | none => s
    | some ns =>
      let s := s.modQp i (fun q => { q with probe := none, probing := false, sent := [], nextPsn := e, ackAt := none })
      (ns.filter (fun n => n.kind = 2 && n.rtype = 3 && 0 < psnDist n.last e && psnDist n.last e < 8388608)).foldl
        (fun s n => s.dropCmd n.slot) s

/-- REQUEST_ACK_RECEIVED (R186, R192): every request up to the PSN ends; the time of the last is a sample. -/
def execRequestAckReceived (i psn : Nat) (s : State) : Outcome :=
  match s.qp? i with
  | some q =>
    let ended := q.sent.filter (fun r => r.covered psn)
    let s := if q.st ≠ 1 || !s.sluIn || q.probe.isNone || ended.isEmpty then s
      else (s.probeEnd i (psnAdd psn 1)).modQp i (fun x => { x with sent := q.sent, nextPsn := q.nextPsn })
    if q.st ≠ 1 || !s.sluIn || ended.isEmpty then .next s
    else
      let left := q.sent.filter (fun r => !r.covered psn)
      let s := match ended.getLast? with
        | some r => s.modQp i (fun q => { q with rtt := (7 * q.rtt + (s.now - r.sentAt)) / 8, sampled := true })
        | none => s
      let s := (ended.filter (·.kind = 4)).foldl (fun s r => s.histAdd 0x11 (s.halfOf i) (s.now - r.sentAt) (fun _ => true)) s
      let s := s.modQp i (fun q => { q with
        sent := left, retries := 0, rnrLeft := q.rnrCnt, ackAt := if left.isEmpty then none else some (s.now + ackTimeout q) })
      let s := if s.is36 then s else ended.foldl (fun s r => match r.counter with | some n => s.countUp n none | none => s) s
      let s := s.txPump i
      .next ((if ended.any (·.kind = 4) then s.txPumpAll else s))
  | none => .next s

/-- Sends again what a request still has to bring from PSN `psn` on: all of an RDMA READ, and of one that `psn` does not lie in. -/
def State.putAgain (s : State) (i psn : Nat) (r : TxReq) : State :=
  let d := psnDist r.first psn
  if r.kind = 4 || r.packets ≤ d then s.putRequest i r
  else (List.range (r.packets - d)).foldl (fun s k => s.putPacket i r false (d + k)) s

/-- Sends again every unacknowledged request, oldest first, from PSN `psn` on where it lies in one (R187). -/
def State.resend (s : State) (i psn : Nat) : State :=
  match s.qp? i with
  | none => s
  | some q =>
    let s := q.sent.foldl (fun s r => s.putAgain i psn r) (s.bump (F.SLU_CNT_COUNT 7) q.sent.length)
    s.modQp i (fun q => { q with ackAt := if q.sent.isEmpty then none else some (s.now + ackTimeout q) })

/-- Sends again the one packet that a sequence NAK names on a spraying queue pair (R194). -/
def State.resendPacket (s : State) (i psn : Nat) : State :=
  match s.qp? i with
  | none => s
  | some q =>
    match q.sent.find? (fun r => psnDist r.first psn < r.packets) with
    | none => s
    | some r =>
      let s := (s.bump (F.SLU_CNT_COUNT 7) 1).putPacket i r true (if r.kind = 4 then 0 else psnDist r.first psn)
      s.modQp i (fun q => { q with ackAt := some (s.now + ackTimeout q) })

/-- NAK_RECEIVED (R184, R187, R194, R203). -/
def execNakReceived (i : Nat) (nak : HostNak) (s : State) : Outcome :=
  match s.qp? i with
  | none => .next s
  | some q =>
    if q.st ≠ 1 || !s.sluIn then .next s
    else
      match nak with
      | .sequence psn =>
        if q.probe.isSome then .next ((s.probeEnd i psn).txPump i) else
        let s := s.modQp i (fun q => { q with sent := q.sent.filter (fun r => !r.covered (psnAdd psn (psnMod - 1))) })
        if q.paths = 0 then .next (s.resend i psn)
        else .next (s.resendPacket i psn)
      | .rnr delay =>
        if q.rnrCnt ≠ 7 && q.rnrLeft = 0 then .next (s.qpError i)
        else .next (s.modQp i (fun q => { q with rnrAt := some (s.now + delay), ackAt := none, rnrLeft := q.rnrLeft - 1 }))
      | .remoteAccess => .next ((s.reportRdma i (match q.sent with | r :: _ => r.first | [] => q.nextPsn) 0 8 none).qpError i)
      | .invalidRequest => .next (s.qpError i)

/-- LOCAL_ACK_TIMEOUT (R187). -/
def execLocalAckTimeout (i : Nat) (s : State) : Outcome :=
  match s.qp? i with
  | some q =>
    match q.ackAt with
    | some t =>
      if q.st ≠ 1 || q.sent.isEmpty || !s.sluOn then .next s
      else
        let s := s.at t
        if q.retryCnt ≤ q.retries then .next (s.qpError i)
        else .next ((s.modQp i (fun q => { q with retries := q.retries + 1 })).resend i q.nextPsn)
    | none => .next s
  | none => .next s

/-- RNR_RETRY_EXPIRY (R187). -/
def execRnrRetryExpiry (i : Nat) (s : State) : Outcome :=
  match s.qp? i with
  | some q =>
    match q.rnrAt with
    | some t =>
      if q.st ≠ 1 || !s.sluOn then .next s
      else .next (((s.at t).modQp i (fun q => { q with rnrAt := none })).resend i q.nextPsn |>.txPump i)
    | none => .next s
  | none => .next s

/-- QPN_INDEX_RETURN (R181). -/
def execQpnIndexReturn (i : Nat) (s : State) : Outcome :=
  match s.qp? i with
  | some q =>
    match q.freeAt with
    | some t =>
      if q.st ≠ 3 then .next s
      else
        let s := s.at t
        .next { s with slu := { s.slu with qps := s.slu.qps.del i } }
    | none => .next s
  | none => .next s

/-! ### Windows and triggered work requests (R199, R201, R202) -/

/-- WINDOW_DRAIN_END (R199 steps 3 and 4). -/
def execWindowDrainEnd (w : Nat) (s : State) : Outcome :=
  match s.slu.windows.get? w with
  | some x =>
    match x.drainAt with
    | some t =>
      if !x.revoking then .next s
      else
        let s := s.drainCheck w
        if s.slu.windows.has w then .next (((s.at t).bump (F.SLU_CNT_COUNT 5) 1).winFinish w) else .next s
    | none => .next s
  | none => .next s

/-- TRIGGERED_WR_POST (R201): on the NE7236 the work request is posted directly. A refusal to the poster names no entry; Bobbin
then posts the request itself when its condition is met. -/
def execTriggeredWrPost (qp counter threshold : Nat) (wr : WorkReq) (s : State) : Outcome :=
  if !s.sluOn then .next s
  else
    let ready := match s.qp? qp with | some q => decide (q.st = 1) | none => false
    if !ready then .next (s.emit (.flushed trigEntries))
    else if s.is36 then .next (s.post qp (txReq wr.kind wr.length wr.remote wr.rkey wr.imm [] none))
    else
      match (List.range (s.slu.trigs.length + 1)).find? (fun e => e < trigEntries && s.slu.trigs.all (fun t => t.entry ≠ e)) with
      | none =>
        let e := (s.slu.trigs.map (·.entry)).foldl max (trigEntries - 1) + 1
        let s := s.emit (.flushed trigEntries)
        .next (State.fireTrigs { s with slu := { s.slu with trigs := s.slu.trigs ++ [⟨e, qp, counter % 1024, threshold, wr⟩] } } (counter % 1024))
      | some e =>
        let c := counter % 1024
        let t : Trig := ⟨e, qp, c, threshold, wr⟩
        let s := { s with slu := { s.slu with trigs := s.slu.trigs ++ [t] } }
        let s := match s.qp? qp with
          | some q => (match s.qpBed q with | some b => s.delta b (.trigPost e qp c threshold wr) | none => s)
          | none => s
        .next (s.fireTrigs c)

/-- LOCAL_WR_COMPLETE (R202). -/
def execLocalWrComplete (counter : Nat) (s : State) : Outcome :=
  .next (if s.is36 || !s.sluOn || 1024 ≤ counter then s else s.countUp counter none)

end Sys2Proof.Machine
end

