-- ==== Sys2Proof/Machine/AdminUnit.lean ====
section
/-! DEFINITION. What admin commands need: names in text form, taking an admin command in, the log pages and the Identify
data (R31, R36–R38, R46, R115). -/

namespace Sys2Proof.Machine

/-! ### Names (R31) -/

def ascii (s : String) : Bytes := s.toList.map (fun c => BitVec.ofNat 8 c.toNat)

def hexDigit (n : Nat) : Byte := BitVec.ofNat 8 (if n < 10 then 0x30 + n else 0x37 + n)

/-- Four upper-case hexadecimal digits. -/
def hex4 (n : Nat) : Bytes := [hexDigit (n / 4096 % 16), hexDigit (n / 256 % 16), hexDigit (n / 16 % 16), hexDigit (n % 16)]

/-- The text form of a serial (R31). -/
def serialText (n : Nat) : Bytes :=
  hex4 (n / 2 ^ 48) ++ ascii "-" ++ hex4 (n / 2 ^ 32) ++ ascii "-" ++ hex4 (n / 2 ^ 16) ++ ascii "-" ++ hex4 n

/-- This controller's entry of the rack table (R246). -/
def State.rackMe (s : State) : Option RackEntry := s.cfg.data.rack.find? (fun e => e.serial = s.fuses.serial)

/-- The other controller of the shelf, from the rack table. -/
def State.rackPeer (s : State) : Option RackEntry :=
  match s.rackMe with
  | some me => s.cfg.data.rack.find? (fun e => e.shelf = me.shelf && e.position ≠ me.position)
  | none => none

/-- Serial of the default owner of a bed under R17. Where the rack table names no other controller of the shelf it is taken to
be this one's, as that of a shelf with a single controller (assumption 29). -/
def State.ownerSerial (s : State) (b : Nat) : Nat :=
  if s.posB = decide (2 ≤ b) then s.fuses.serial
  else match s.rackPeer with | some e => e.serial | none => s.fuses.serial

/-- Part number of that owner: the NQN of a bed is the same whichever controller serves it (R31). -/
def State.ownerPart (s : State) (b : Nat) : Nat :=
  if s.ownerSerial b = s.fuses.serial then s.fuses.part else s.gus.peerPart.getD s.fuses.part

/-- The NQN of a bed's subsystem (R31). -/
def State.nqn (s : State) (b : Nat) : Bytes :=
  ascii "nqn.2031-04.com.rarrielm:" ++ ascii (if s.ownerPart b = 0x7236 then "ne7236:" else "ne7240:") ++ serialText (s.ownerSerial b)
    ++ ascii ":" ++ [hexDigit b]

/-- The discovery NQN of NVM Express Base Specification 2.0 (R32; assumption 19). -/
def discoveryNqn : Bytes := ascii "nqn.2014-08.org.nvmexpress.discovery"

/-- Beds whose subsystem this controller serves (R32, R33). -/
def State.served (s : State) : List Nat := (s.beds.entries.filter (fun e => e.2.owned && !e.2.fenced)).map (·.1)

/-! ### Admission (R35, R36, R46, R49) -/

inductive AdminTaken where
  | stop (s : State)
  | go (s : State) (arr : Nat) (a : Assoc)

/-- Takes an admin command in. One that needs a member is parked in Dormant (R46). -/
def State.takeAdmin (s : State) (cap : Cap) (op : Nat) (member : Bool) : AdminTaken :=
  match s.assoc? cap.assoc with
  | none => .stop s
  | some a =>
    if a.ended || s.capFenced cap || s.shelf.st = .held then .stop s
    else if s.shelf.st = .dark && (s.findCap cap).isNone then .stop (s.darkCapsule s.outPort cap (op = 0x18))
    else
      let (s, arr) := match s.findCap cap with
        | some (arr, _) => (s.mod arr (fun r => { r with cmd := some (.admin op) }), arr)
        | none => s.arrive cap 0 (some (.admin op)) [] true
      match s.cmd? arr with
      | none => .stop s
      | some r =>
        if s.coreStop || r.slot.isNone || r.phase = .effect || r.phase = .done then .stop s
        else if s.shelf.st = .dark then .stop (s.finish arr (if op = 0x18 then 0 else Status.shelfDark) 0 0)
        else if member && (s.shelf.st = .dormant || s.movingTo .dormant || s.movingTo .dark) then
          (if r.phase = .parked then .stop s
           else if s.movingTo .dark then .stop (s.finish arr Status.shelfDark 0 0)
           else .stop (s.park arr))
        else .go s arr a

/-- An admin command whose whole effect is a change of state and a completion. -/
def State.admin (s : State) (cap : Cap) (op : Nat) (f : State → Nat → Assoc → State) : Outcome :=
  match s.takeAdmin cap op false with
  | .stop s => .next s
  | .go s arr a => .next (f s arr a)

/-- The same for one that needs a member. -/
def State.adminMember (s : State) (cap : Cap) (op : Nat) (f : State → Nat → Assoc → State) : Outcome :=
  match s.takeAdmin cap op true with
  | .stop s => .next s
  | .go s arr a => .next (f s arr a)

/-! ### Pages (R38, R42, R115; offsets of NVM Express layouts are assumption 13) -/

/-- `len` bytes of page `pg`: the fields listed by offset, and what the spec does not lay out. -/
def pageBytes (pg len : Nat) (fields : List (Nat × Bytes)) : Bytes :=
  let m := fields.foldl (fun (m : List (Nat × Byte)) f => ((List.range f.2.length).map (fun i => (f.1 + i, f.2.getD i 0))) ++ m) []
  (List.range len).map (fun i => match m.find? (fun e => e.1 = i) with | some e => e.2 | none => Config.pageByte pg i)

/-- Log page C0h (R115). -/
def State.bedPage (s : State) (b : Nat) (x : Bed) : Bytes :=
  let r := s.bedRec b
  let rb := match x.rebuild with | some q => q.member | none => 0xFF
  let cur := match x.rebuild with | some q => q.cursor | none => 0
  let started := match x.rebuild with | some q => q.started | none => 0
  let noPar := (List.range x.bandCount).any (fun k => (x.band k).st ≠ 0 && !s.parityValid b k x)
  let flags := b2n r.full + 2 * b2n (x.members.vals.any (·.single)) + 4 * b2n noPar
  [BitVec.ofNat 8 b, BitVec.ofNat 8 x.st, BitVec.ofNat 8 x.n, BitVec.ofNat 8 flags, BitVec.ofNat 8 rb,
    BitVec.ofNat 8 (x.queued.headD 0xFF), 0, 0] ++ le 4 cur ++ le 4 x.bandCount ++ le 8 started ++ le 4 r.lost.length ++ zeros 4
    ++ (List.range 24).map (fun i => if i < x.n then BitVec.ofNat 8 (x.memberSt i) else 0xFF) ++ zeros 8
    ++ (r.lost.map (fun l => le 4 l.first ++ le 4 l.last ++ le 4 l.mask ++ [BitVec.ofNat 8 l.cause] ++ zeros 3)).flatten

/-- Hexadecimal text of an IPv6 address's eight groups, as the discovery page gives an address of the controller: the link-local
form of its MAC (assumption 13). -/
def addrText (mac : Nat) : Bytes :=
  let hi := mac / 2 ^ 24 % 2 ^ 24
  let lo := mac % 2 ^ 24
  let gs := [0xFE80, 0, 0, 0, (hi / 256) ^^^ 0x0200, hi % 256 * 256 + 0xFF, 0xFE00 + lo / 65536, lo % 65536]
  (gs.zipIdx).flatMap (fun g => (if g.2 = 0 then [] else ascii ":") ++ hex4 g.1)

/-- The Discovery log page: one entry for each subsystem served, on each address of the controller (R32; the layout of NVM Express
is assumption 13). -/
def State.discoveryPage (s : State) : Bytes :=
  let addrs := (List.range 16).filterMap s.laddr
  let es := s.served.flatMap (fun b => addrs.map (fun a => (b, a.1)))
  pageBytes 0x70 (1024 * (1 + es.length)) ((8, le 8 es.length) :: (16, le 2 0) :: (es.zipIdx).flatMap (fun e =>
    let o := 1024 * (1 + e.2)
    [(o, [1, 2, 2]), (o + 6, le 2 0xFFFF), (o + 8, le 2 32), (o + 256, fitTo 256 (s.nqn e.1.1)), (o + 512, fitTo 256 (addrText e.1.2))]))

/-- Log page 01h of an association: its entries among the latest 64, newest first; an absent entry is zero (R38, R203). -/
def State.errorPage (s : State) (a : Nat) : Bytes :=
  let l := s.cmd.errLog.filter (fun e => e.2.1 = a)
  pageBytes 1 4096 ((l.zipIdx.map (fun e => (64 * e.2, le 8 e.1.1))) ++ (List.range 64).filterMap (fun i => if i < l.length then none else some (64 * i, zeros 64)))

/-- Admin and I/O opcodes that R36, R56, R69, R70 and R71 list. -/
def adminOps : List Nat := [0x02, 0x06, 0x08, 0x09, 0x0A, 0x0C, 0x0D, 0x14, 0x15, 0x18, 0x7F]
def ioOps : List Nat := [0x00, 0x01, 0x02, 0x06, 0x08, 0x09, 0x0C, 0x10, 0x14, 0x80, 0x81, 0x82]

/-- Log page 05h: an opcode that R36 supports has CSUPP set, any other has an entry of zeros (R38; what else the entry of a
supported one says is open, assumption 13). -/
def effectsPage : Bytes :=
  let entry := fun (base op : Nat) (on : Bool) =>
    if on then (base + 4 * op, [Config.pageByte 5 (base + 4 * op) ||| 1#8]) else (base + 4 * op, zeros 4)
  pageBytes 5 4096 ((List.range 256).map (fun op => entry 0 op (adminOps.contains op)) ++ (List.range 256).map (fun op => entry 1024 op (ioOps.contains op)))

/-- Percentage of a self-test: steps done of its steps. -/
def SelfTest.percent (t : SelfTest) : Nat := (t.step - 1) * 100 / (if t.kind = 1 then 7 else 8)

/-- A supported log page of the NVM controller of association `a`, or the Discovery page of the discovery controller (R38). -/
def State.logPage (s : State) (a : Nat) (x : Assoc) (lid : Nat) : Option Bytes :=
  match x.bed with
  | none => if lid = 0x70 then some s.discoveryPage else none
  | some b =>
    if lid = 1 then some (s.errorPage a)
    else if lid = 2 then some (pageBytes 2 512 [(0, [BitVec.ofNat 8 s.cmd.smartWarn]), (1, le 2 (s.cmd.temp + 273))])
    else if lid = 3 then
      let ver := fun (k : Nat) => match s.mnt.images.get? k with | some i => i.sections.getD 1 0 | none => 0
      some (pageBytes 3 512 [(0, [BitVec.ofNat 8 (1 + s.mnt.active % 2)]), (8, le 8 (ver 0)), (16, le 8 (ver 1))])
    else if lid = 4 then
      let l := if x.changedNs.length ≤ 1024 then (x.changedNs.map (le 4)).flatten else le 4 0xFFFFFFFF
      some (fitTo 4096 l)
    else if lid = 5 then some effectsPage
    else if lid = 6 then
      let cur := match s.cmd.selfTest with | some t => [BitVec.ofNat 8 t.kind, BitVec.ofNat 8 t.percent] | none => [0, 0]
      some (pageBytes 6 564 ((0, cur) :: s.cmd.dstLog.zipIdx.map (fun e => (4 + 28 * e.2, [BitVec.ofNat 8 (e.1.2.1 * 16 + e.1.1), BitVec.ofNat 8 e.1.2.2.1]))))
    else if lid = 0xC0 then (s.bed? b).map (s.bedPage b)
    else none

/-- NSIDs attached to an association, ascending (R55). -/
def State.attachedTo (s : State) (a : Nat) : List Nat :=
  (s.cfg.data.ns.entries.filter (fun e => e.2.attached.contains a)).map (·.1)

/-- Identify data of a supported CNS value; a namespace that is not there is `none` (R36, R38, R42). -/
def State.identify (s : State) (a : Nat) (x : Assoc) (cns nsid : Nat) : Option Bytes :=
  let pg := 0x100 + cns
  if cns = 1 then
    some (pageBytes pg 4096
      [(0, le 2 0x1D9B), (2, le 2 0x1D9B), (4, serialText s.fuses.serial ++ [0x20]),
       (24, let m := ascii (if s.is36 then "Rarrielm NE7236" else "Rarrielm NE7240"); m ++ List.replicate (40 - m.length) 0x20),
       (77, [0]), (258, [3]), (259, [3]), (262, [63]), (266, le 2 378), (268, le 2 383), (320, le 2 0x000A), (525, [0]), (526, le 2 0xFFFF), (528, le 2 63),
       (532, le 2 0), (768, fitTo 256 (match x.bed with | some b => s.nqn b | none => discoveryNqn)),
       (1792, le 4 516), (1796, le 4 1), (1800, le 2 0)])
  else if cns = 2 then some (fitTo 4096 (((s.attachedTo a).filter (nsid < ·)).map (le 4)).flatten)
  else if cns = 0 || cns = 3 || cns = 5 then
    match s.cfg.data.ns.get? nsid with
    | some n =>
      if x.bed ≠ some n.bed then none
      else if cns = 0 then
        some (pageBytes pg 4096 [(0, le 8 n.lbas), (8, le 8 n.lbas), (34, le 2 0xFFFF), (36, le 2 63), (38, le 2 0), (40, le 2 0), (42, le 2 0), (44, le 2 0)])
      else some (pageBytes pg 4096 [])
    | none => none
  else some (pageBytes pg 4096 [])

/-! ### Limits (R33, R241) -/

/-- The limit of R33, halved under QP_GUARD (R241). -/
def State.half (s : State) (n : Nat) : Nat := if s.flag F.GUS_CFG_QP_GUARD then n / 2 else n

/-- Completion Dword 0 of Connect Invalid Parameters (R33; the layout is assumption 19). -/
def badParam (iattr ipo : Nat) : Nat := iattr * 65536 + ipo

/-- One more than the length of a tenant's longest prefix of a host NQN; 0 where none matches. -/
def matchLen (host : Bytes) (t : Tenant) : Nat :=
  (t.prefixes.filter (fun p => host.take p.length = p)).foldl (fun m p => max m (p.length + 1)) 0

/-- The tenant of a host: the position whose prefix gives the longest match (R54). -/
def State.tenantFor (s : State) (host : Bytes) : Option (Nat × Tenant) :=
  s.cfg.data.tenants.entries.foldl (fun (best : Option (Nat × Tenant)) (e : Nat × Tenant) =>
    let l : Nat := matchLen host e.2
    let old : Nat := match best with
      | some (_, t) => matchLen host t
      | none => 0
    if old < l then some e else best) none

/-- ID of the tenant at a position. -/
def State.tenantId (s : State) (pos : Nat) : Nat := match s.cfg.data.tenants.get? pos with | some t => t.id | none => 0

/-- Keep-alive time as applied: whole seconds, 5 s or more (R34). -/
def katoOf (ms : Nat) : Nat := max 5000 (cdiv ms 1000 * 1000)

/-! ### Space of maps in Cistern (R83, R393) -/

/-- Bytes of a bed's resident map and Band table. -/
def State.mapBytes (s : State) (b : Nat) : Nat :=
  sumN ((s.cfg.data.ns.vals.filter (fun n => n.bed = b && !n.kv)).map (fun n => 8 * cdiv n.lbas 16))
    + (match s.bed? b with | some x => 8 * x.bandCount | none => 0)

/-- The resident maps of every bed plus `more` bytes, with 8 GiB of staging, fit in those channels (R393; the standby's
Cistern is taken to be the same, assumption 20). -/
def State.mapsFit (s : State) (chans : List Nat) (more : Nat) : Bool :=
  decide (sumN ((List.range 4).map s.mapBytes) + more + 8 * 2 ^ 30 ≤ s.cisternBytes chans)

/-! ### Events (R36) -/

/-- A change of a namespace: noted for each controller it is attached to, with the notice where enabled (assumption 13 for
its Dword 0). -/
def State.nsChanged (s : State) (nsid : Nat) (l : List Nat) : State :=
  l.foldl (fun s a =>
    let s := s.modAssoc a (fun x => { x with changedNs := (x.changedNs.filter (· ≠ nsid)) ++ [nsid] })
    match s.assoc? a with
    | some x => if bit x.aerCfg 8 then s.aer a 0x040002 else s
    | none => s) s

/-! ### Self-tests (R50–R52) -/

/-- A self-test ends with a result; the log keeps the latest 20. -/
def State.endTest (s : State) (result : Nat) : State :=
  match s.cmd.selfTest with
  | some t =>
    State.actEndAny { s with cmd := { s.cmd with selfTest := none, dstLog := ((result, t.kind, t.failedSeg, t.skipped) :: s.cmd.dstLog).take 20 } } t.kind none
  | none => s

def State.dstGap (s : State) : Nat := msec (max 1 (s.fld F.CMD_CFG_DST_GAP))

/-- A self-test starts running. -/
def State.beginTest (s : State) (kind nsid starter : Nat) : State :=
  let t : SelfTest :=
    { kind := kind, nsid := nsid, step := 1, ran := 0, nextAt := some (s.now + s.dstGap), pausedAt := none, pausedTotal := 0
      failedSeg := 0, startedBy := starter, todo := [], held := none, skipped := 0
      bed := (s.assoc? starter).bind (·.bed) }
  { s with cmd := { s.cmd with selfTest := some t } }

end Sys2Proof.Machine
end

