-- ==== Sys2Proof/Machine/AdminCmds.lean ====
section
/-! DEFINITION. Fabrics and admin commands, self-tests, parking and the responder of a Dark controller (R32–R52, R54, R55,
R195, R199, R326). -/

namespace Sys2Proof.Machine

/-! ### Connect, properties, keep-alive (R33, R34, R36, R54, R195) -/

/-- Completes a Connect that is refused: no queue exists to hold it, and its completion waits for its tick as every other does
(R33, R45). -/
def State.refuseConnect (s : State) (cap : Cap) (status dw0 : Nat) : State :=
  let arr := s.cmd.arrival + 1
  let r : CmdRec :=
    { number := arr, cap := cap, nsid := 0, cmd := some (.admin 0x7F), capsule := [], tick := s.gus.tick, time := s.now, slot := none
      phase := .done, serial := none, epoch := none, status := status, dw0 := dw0, dw1 := 0, discard := false, isAdmin := true
      bare := true, work := CmdWork.init, times := [], since := s.now }
  let s := { s with cmd := { s.cmd with arrival := arr, cmds := s.cmd.cmds.put arr r } }
  if s.held r then s else s.release arr

/-- The queue a Connect asks for is larger than R33 allows. -/
def connectSizeBad (req : ConnectReq) : Bool := (if req.qid = 0 then 32 else 1024) < req.sqsize + 1

/-- A Connect would exceed what the controller has of associations, queues or queue entries (R33). -/
def State.connectBusy (s : State) (req : ConnectReq) : Bool :=
  (req.qid = 0 && s.half 1024 ≤ s.cmd.assocs.size) || s.half 4096 ≤ s.cmd.queues.size
    || s.half 262144 < sumN (s.cmd.queues.vals.map (·.size)) + (req.sqsize + 1)

/-- The bed a Connect's subsystem names: `some none` is the discovery controller. -/
def State.subsystem (s : State) (nqn : Bytes) : Option (Option Nat) :=
  if nqn = discoveryNqn then some none
  else (s.served.find? (fun b => s.nqn b = nqn)).map some

/-- What a Connect is refused with for its queue, its subsystem, its host, its tenant and the limits, in that order: the spec
gives none (R33, R54; assumption 48). Status and Dword 0. -/
def State.connectBad (s : State) (cap : Cap) (req : ConnectReq) : Option (Nat × Nat) :=
  let param := fun (iattr ipo : Nat) => some (Status.connectInvalidParameters, badParam iattr ipo)
  let d := s.dptrBad cap req.dptr 1024
  let sub := s.subsystem req.subnqn
  if d ≠ 0 then some (d, 0)
  else if connectSizeBad req then param 0 44
  else if req.qid = 0 then
    (if s.cmd.assocs.has cap.assoc then param 0 42
     else if sub.isNone then param 1 256
     else match s.tenantFor req.hostnqn with
       | none => some (Status.connectInvalidHost, 0)
       | some (_, t) =>
         if t.suspended then some (Status.connectInvalidHost, 0)
         else if req.kato = 0 then some (Status.invalidField, 0)
         else if s.connectBusy req then some (Status.controllerBusy, 0) else none)
  else match s.assoc? cap.assoc with
    | none => param 1 16
    | some a =>
      if a.ended || a.fn0 then param 1 16
      else if a.ioLimit < req.qid || s.cmd.queues.has (qkey cap.assoc req.qid) then param 0 42
      else if sub ≠ some a.bed then param 1 256
      else if s.connectBusy req then some (Status.controllerBusy, 0) else none

/-- A new queue of an association. -/
def State.addQueue (s : State) (a qid size : Nat) : State :=
  let q : Queue := { assoc := a, qid := qid, size := size, cqid := qid }
  { s with cmd := { s.cmd with queues := s.cmd.queues.put (qkey a qid) q } }

def newAssoc (bed : Option Nat) (host : Bytes) (tenant kato now : Nat) : Assoc :=
  { bed := bed, hostNqn := host, tenant := tenant, kato := kato, kaAt := if kato = 0 then none else some (now + msec kato)
    ioLimit := 64, ended := false, fn0 := false, tempThr := 0, errRec := 0, aerCfg := 0, hostId := 0, aers := []
    aborts := 0, changedNs := [], cc := 0, ready := false, window := none, winSize := 0, winRefused := false, qpn := none }

/-- Namespaces of other tenants are not attached to a new association (R55). -/
def State.detachOthers (s : State) (a tenantId : Nat) : State :=
  { s with cfg := { s.cfg with data := { s.cfg.data with ns := s.cfg.data.ns.mapV (fun _ n =>
      if n.tenant = tenantId then n else { n with attached := n.attached.filter (· ≠ a) }) } } }

/-- CONNECT (R33, R54): queue 0 makes an association, another queue joins one. -/
def execConnect (cap : Cap) (req : ConnectReq) (s : State) : Outcome :=
  if s.connectWaits then .next (s.waitCores (.connect cap req)) else
  if s.shelf.st = .held || !(s.sluIn || s.shelf.st = .dark) then .next s
  else if s.shelf.st = .dark then .next (s.darkCapsule s.outPort cap false)
  else
    match s.connectBad cap req with
    | some (st, dw0) => .next (s.refuseConnect cap st dw0)
    | none =>
      match s.subsystem req.subnqn, s.tenantFor req.hostnqn with
      | some bed, some (pos, t) =>
        if req.qid ≠ 0 then .next ((s.addQueue cap.assoc req.qid (req.sqsize + 1)).answer cap 0 (.admin 0x7F) true 0 cap.assoc 0)
        else
          let a := newAssoc bed req.hostnqn pos (katoOf req.kato) s.now
          let s := { s with cmd := { s.cmd with assocs := s.cmd.assocs.put cap.assoc a } }
          let s := (s.detachOthers cap.assoc t.id).addQueue cap.assoc 0 (req.sqsize + 1)
          .next (s.answer cap 0 (.admin 0x7F) true 0 cap.assoc 0)
      | _, _ => .next ((s.addQueue cap.assoc req.qid (req.sqsize + 1)).answer cap 0 (.admin 0x7F) true 0 cap.assoc 0)

/-- CAP and VS as fabric hosts and endpoint function 0 read them (R33, R326; field places are assumption 13). -/
def capLow : Nat := 1023 + 2 ^ 16 + 20 * 2 ^ 24
def capHigh : Nat := 2 ^ (37 - 32) + 2 ^ (43 - 32) + 4 * 2 ^ (52 - 32)

/-- What WINCTL reads (R195). -/
def State.winCtl (s : State) (x : Assoc) : Nat :=
  match x.window with
  | some w => (match s.slu.windows.get? w with | some y => if y.revoking then 2 else 1 | none => 0)
  | none => if x.winRefused then 3 else 0

/-- A property: low and high dword, `none` where it is not supported. -/
def State.property (s : State) (x : Assoc) (off : Nat) : Option (Nat × Nat) :=
  let reg := match x.window with
    | some w => (match s.slu.windows.get? w with | some y => if y.revoking then none else some y | none => none)
    | none => none
  if off = 0 then some (capLow, capHigh)
  else if off = 8 then some (0x00020000, 0)
  else if off = 0x14 then some (x.cc, 0)
  else if off = 0x1C then some (b2n x.ready + (if x.cc / 0x4000 % 4 = 0 then 0 else 8), 0)
  else if off = 0x1400 then some (s.winCtl x, 0)
  else if off = 0x1404 then some ((match reg with | some y => y.key | none => 0), 0)
  else if off = 0x1408 then some ((match reg with | some y => y.sizeMib * 1048576 | none => 0), 0)
  else if 0x1400 ≤ off && off ≤ 0x14FF then some (0, 0)
  else none

/-- A Fabrics command: endpoint function 0 has none (R326). -/
def State.fabrics (s : State) (cap : Cap) (f : State → Nat → Assoc → State) : Outcome :=
  s.admin cap 0x7F (fun s arr a => if a.fn0 then s.finish arr Status.invalidOpcode 0 0 else f s arr a)

/-- PROPERTY_GET (R36, R195). -/
def execPropertyGet (cap : Cap) (offset : Nat) (s : State) : Outcome :=
  s.fabrics cap (fun s arr a =>
    match s.property a offset with
    | some (lo, hi) => s.finish arr 0 lo hi
    | none => s.finish arr Status.invalidField 0 0)

/-- Registers an ingest window, zeroed, under a new key; or notes the refusal (R195). -/
def State.winRegister (s : State) (assoc : Nat) (a : Assoc) : State :=
  let s := s.applyFld F.SLU_WIN_CFG_EN
  if a.window.isSome then s
  else
    let may := s.flag F.SLU_WIN_CFG_EN && (s.shelf.st = .awake || s.shelf.st = .dormant) && decide (s.slu.windows.size < s.winPool)
    match (if may then s.slu.windows.freeKey s.winPool else none) with
    | none => s.modAssoc assoc (fun x => { x with winRefused := true })
    | some i =>
      let g := s.slu.winGen % 4194303 + 1
      let w : Win := { key := g * 1024 + i, assoc := assoc, sizeMib := s.winSize, revoking := false, drainAt := none, accepted := [], mem := .empty }
      let s := { s with slu := { s.slu with windows := s.slu.windows.put i w, winGen := g } }
      let s := s.modAssoc assoc (fun x => { x with window := some i, winSize := w.sizeMib, winRefused := false })
      match a.bed with
      | some b => s.delta b (.windowReg i w.key assoc w.sizeMib)
      | none => s

/-- WINDOW_REGISTER: Property Set of 1 to WINCTL (R195). -/
def execWindowRegister (cap : Cap) (s : State) : Outcome :=
  s.fabrics cap (fun s arr a => (s.winRegister cap.assoc a).finish arr 0 0 0)

/-- Revokes an association's window; a refusal noted is read no more (R195, R199). -/
def State.winUnset (s : State) (assoc : Nat) (a : Assoc) : State :=
  let s := s.modAssoc assoc (fun x => { x with winRefused := false })
  match a.window with | some w => s.winRevoke w | none => s

/-- WINDOW_REVOKE_PROPERTY: Property Set of 0 to WINCTL (R199). -/
def execWindowRevokeProperty (cap : Cap) (s : State) : Outcome :=
  s.fabrics cap (fun s arr a => (s.winUnset cap.assoc a).finish arr 0 0 0)

/-- A self-test started by this association ends with result 2h when its controller is reset (R52). -/
def State.testOfReset (s : State) (assoc : Nat) : State :=
  match s.cmd.selfTest with
  | some t => if t.startedBy = assoc then s.endTest 2 else s
  | none => s

/-- PROPERTY_SET: CC and WINCTL are applied; any other property, or value of WINCTL, is refused (R36, R195). -/
def execPropertySet (cap : Cap) (offset value : Nat) (s : State) : Outcome :=
  s.fabrics cap (fun s arr a =>
    if offset = 0x14 then
      let off := a.ready && value % 2 = 0
      let s := s.modAssoc cap.assoc (fun x => { x with cc := value, ready := value % 2 = 1 })
      (if off then s.testOfReset cap.assoc else s).finish arr 0 0 0
    else if offset = 0x1400 && value = 1 then (s.winRegister cap.assoc a).finish arr 0 0 0
    else if offset = 0x1400 && value = 0 then (s.winUnset cap.assoc a).finish arr 0 0 0
    else s.finish arr Status.invalidField 0 0)

/-- DISCONNECT (R34). Its own completion is released as any other, once its tick is acknowledged (R45); its queue pair ends then. -/
def execDisconnect (cap : Cap) (s : State) : Outcome :=
  s.fabrics cap (fun s arr _ => (State.finish (s.mod arr (fun r => { r with bare := true })) arr 0 0 0).endAssoc cap.assoc)

/-- KEEP_ALIVE (R34). -/
def execKeepAlive (cap : Cap) (s : State) : Outcome :=
  s.admin cap 0x18 (fun s arr _ => (s.keepAlive cap.assoc).finish arr 0 0 0)

/-- KEEP_ALIVE_EXPIRY (R34). -/
def execKeepAliveExpiry (assoc : Nat) (s : State) : Outcome :=
  match s.assoc? assoc with
  | some a =>
    match a.kaAt with
    | some t => .next (if a.ended then s else (s.at t).endAssoc assoc)
    | none => .next s
  | none => .next s

/-- SLOT_GRANT (R35 rule 6). -/
def execSlotGrant (s : State) : Outcome :=
  match s.nextGrant with
  | some arr => .next (s.grant arr)
  | none => .next s

/-! ### Log pages, Identify, features, events (R36–R38) -/

/-- Sends a page's bytes from `off` on; zeros follow the page's end (R38). -/
def State.sendPage (s : State) (cap : Cap) (arr : Nat) (page : Bytes) (off len : Nat) (d : DataPtr) : State :=
  let bad := s.dptrBad cap d len
  if bad ≠ 0 then s.finish arr bad 0 0
  else if page.length ≤ off then s.finish arr Status.invalidField 0 0
  else (s.toHost cap d (fitTo len (page.drop off))).finish arr 0 0 0

/-- GET_LOG_PAGE (R38, R115). -/
def execGetLogPage (cap : Cap) (lid offset len : Nat) (dptr : DataPtr) (s : State) : Outcome :=
  s.admin cap 0x02 (fun s arr a =>
    match s.logPage cap.assoc a lid with
    | none => s.finish arr Status.invalidLogPage 0 0
    | some p =>
      let s := s.sendPage cap arr p offset len dptr
      if lid = 4 && offset < p.length && s.dptrBad cap dptr len = 0 then s.modAssoc cap.assoc (fun x => { x with changedNs := [] }) else s)

/-- IDENTIFY (R36, R38). -/
def execIdentify (cap : Cap) (cns nsid : Nat) (dptr : DataPtr) (s : State) : Outcome :=
  s.admin cap 0x06 (fun s arr a =>
    if !(List.contains [0, 1, 2, 3, 5, 6, 0x1C] cns) then s.finish arr Status.invalidField 0 0
    else match s.identify cap.assoc a cns nsid with
      | none => s.finish arr Status.invalidNamespace 0 0
      | some p => s.sendPage cap arr p 0 4096 dptr)

/-- SET_FEATURES (R34, R36, R37). -/
def execSetFeatures (cap : Cap) (fid : Nat) (v : FeatureVal) (s : State) : Outcome :=
  s.admin cap 0x09 (fun s arr _ =>
    let put := fun (f : Assoc → Assoc) => (s.modAssoc cap.assoc f).finish arr 0 0 0
    if fid = 0x04 then put (fun x => { x with tempThr := v.value })
    else if fid = 0x05 then put (fun x => { x with errRec := v.value })
    else if fid = 0x07 then
      let n := min 64 (max 1 (min (v.value % 65536 + 1) (v.value / 65536 + 1)))
      (s.modAssoc cap.assoc (fun x => { x with ioLimit := n })).finish arr 0 ((n - 1) * 65537) 0
    else if fid = 0x0B then put (fun x => { x with aerCfg := v.value })
    else if fid = 0x0F then
      if v.value = 0 then s.finish arr Status.invalidField 0 0
      else put (fun x => { x with kato := katoOf v.value, kaAt := some (s.now + msec (katoOf v.value)) })
    else if fid = 0x81 then
      (if s.dptrBad cap v.dptr 16 ≠ 0 then s.finish arr (s.dptrBad cap v.dptr 16) 0 0 else put (fun x => { x with hostId := v.value }))
    else s.finish arr Status.invalidField 0 0)

/-- GET_FEATURES (R37). The Timestamp is device time in ms. -/
def execGetFeatures (cap : Cap) (fid : Nat) (dptr : DataPtr) (s : State) : Outcome :=
  s.admin cap 0x0A (fun s arr a =>
    if fid = 0x04 then s.finish arr 0 a.tempThr 0
    else if fid = 0x05 then s.finish arr 0 a.errRec 0
    else if fid = 0x07 then s.finish arr 0 ((a.ioLimit - 1) * 65537) 0
    else if fid = 0x0B then s.finish arr 0 a.aerCfg 0
    else if fid = 0x0E then s.sendPage cap arr (le 6 (s.dev / msec 1) ++ zeros 2) 0 8 dptr
    else if fid = 0x0F then s.finish arr 0 a.kato 0
    else if fid = 0x81 then s.sendPage cap arr (le 16 a.hostId) 0 16 dptr
    else s.finish arr Status.invalidField 0 0)

/-- Asynchronous Event Request Limit Exceeded (assumption 19). -/
def aerLimit : Nat := 0x0105

/-- ASYNCHRONOUS_EVENT_REQUEST (R36): held in its slot until an event is posted. -/
def execAsynchronousEventRequest (cap : Cap) (s : State) : Outcome :=
  s.admin cap 0x0C (fun s arr a =>
    if a.aers.contains cap then s
    else if 4 ≤ a.aers.length then s.finish arr aerLimit 0 0
    else s.modAssoc cap.assoc (fun x => { x with aers := x.aers ++ [cap] }))

/-- ADMIN_OPCODE_UNSUPPORTED (R36). -/
def execAdminOpcodeUnsupported (cap : Cap) (opcode : Nat) (s : State) : Outcome :=
  s.admin cap opcode (fun s arr _ => s.finish arr Status.invalidOpcode 0 0)

/-! ### Abort (R43, R44) -/

/-- Aborts of an association in progress. -/
def State.abortsOf (s : State) (a : Nat) : Nat :=
  (s.cmd.cmds.filterT (fun _ r => r.cap.assoc = a && r.isAdmin && r.cmd = some (.admin 8))).size

/-- ABORT (R43, R44). -/
def execAbort (cap : Cap) (tqid tcid : Nat) (s : State) : Outcome :=
  s.admin cap 0x08 (fun s arr a =>
    if 4 < s.abortsOf cap.assoc then s.finish arr Status.abortLimit 0 0
    else
      match s.findCap ⟨cap.assoc, tqid, tcid⟩ with
      | some (t, r) =>
        if r.catchable && t ≠ arr then
          let s := s.modAssoc cap.assoc (fun x => { x with aers := x.aers.filter (· ≠ r.cap) })
          let s := match s.bedOf r.cap with
            | some b => s.refuse b t Status.abortRequested
            | none => s.finish t Status.abortRequested 0 0
          let s := match a.bed with | some b => s.advanceAll b | none => s
          (s.bump F.CMD_ABORT_STAT_CAUGHT 1).finish arr 0 0 0
        else (s.bump F.CMD_ABORT_STAT_MISSED 1).finish arr 0 1 0
      | none => (s.bump F.CMD_ABORT_STAT_MISSED 1).finish arr 0 1 0)

/-! ### Namespaces (R33, R36, R55, R69, R83, R154) -/

/-- Sets a namespace's epochs in the key store: floor and highest issued (R152, R154). -/
def State.putEpochs (s : State) (nsid floor highest : Nat) : State :=
  match s.store with
  | some k => State.note (s.putStore { k with epochs := k.epochs.put nsid (floor, highest) }) 0x31 (le 4 (k.gen + 1))
  | none => s

def chunkOk (c : Nat) : Bool := c = 65536 || c = 131072 || c = 262144 || c = 524288 || c = 1048576

/-- Map pages of a block namespace (R83). -/
def mapPages (lbas : Nat) : Nat := cdiv (cdiv lbas 16) 504

/-- NAMESPACE_CREATE (R33, R55, R76, R83, R154, R376). -/
def execNamespaceCreate (cap : Cap) (kv fourK : Bool) (lbas : Nat) (vendor : NsVendor) (dptr : DataPtr) (s : State) : Outcome :=
  s.adminMember cap 0x0D (fun s arr a =>
    if s.dptrBad cap dptr 4096 ≠ 0 then s.finish arr (s.dptrBad cap dptr 4096) 0 0 else
    let d := s.cfg.data
    let chunk := vendor.chunk.getD 262144
    let total := sumN ((d.ns.vals.filter (fun n => !n.kv)).map (·.lbas))
    match a.bed with
    | none => s.finish arr Status.invalidField 0 0
    | some b =>
      match s.bed? b with
      | none => s.finish arr Status.namespaceNotReady 0 0
      | some x =>
        if x.refuses true ≠ 0 then s.finish arr (x.refuses true) 0 0
        else if !kv && !fourK then s.finish arr Status.invalidFormat 0 0
        else if !chunkOk chunk then s.finish arr Status.invalidField 0 0
        else
          match ((List.range 257).drop 1).find? (fun i => !d.ns.has i) with
          | none => s.finish arr Status.nsidUnavailable 0 0
          | some nsid =>
            if !kv && (2 ^ 37 < total + lbas || !s.mapsFit s.chansIn (8 * cdiv lbas 16)
                || (x.e - x.eIdx) * 262144 < mapPages lbas + sumN ((d.ns.vals.filter (fun n => !n.kv && n.bed = b)).map (fun n => mapPages n.lbas))) then
              s.finish arr Status.nsInsufficientCapacity 0 0
            else
              let e := (s.epochsOf nsid).2 + 1
              let n : Namespace := { kv := kv, bed := b, tenant := s.tenantId a.tenant, chunk := chunk, modeD := vendor.modeD.getD true
                                     lbas := if kv then 0 else lbas, epoch := e, attached := [] }
              match (s.putEpochs nsid e e).commitData { d with ns := d.ns.put nsid n } with
              | none => s.finish arr Status.nsInsufficientCapacity 0 0
              | some s => (s.delta b (.epoch nsid e e e)).finish arr 0 nsid 0)

/-- A namespace of an association's subsystem. -/
def State.ownNs (s : State) (a : Assoc) (nsid : Nat) : Option (Nat × Namespace) :=
  match a.bed, s.cfg.data.ns.get? nsid with
  | some b, some n => if n.bed = b then some (b, n) else none
  | _, _ => none

/-- Removes what a bed holds of a namespace. -/
def State.dropNs (s : State) (b nsid : Nat) : State :=
  match s.bed? b with
  | none => s
  | some x =>
    let gone := x.index.filter (fun e => e.nsid = nsid)
    let s := gone.foldl (fun s e => s.delta b (.indexDel e)) s
    let s := ((x.map.getD nsid .empty).keys).foldl (fun s u => s.delta b (.mapPut nsid u [⟨0, 0, 0⟩])) s
    let s := s.setIndex b (x.index.filter (fun e => e.nsid ≠ nsid))
    s.modBed b (fun y => { y with
      map := y.map.del nsid
      pinned := (gone.map (fun e => Config.indexPage e.nsid e.key) ++ y.pinned).eraseDups
      mapDirty := (((x.map.getD nsid .empty).keys).map (fun u => (nsid, u / 504)) ++ y.mapDirty).eraseDups })

/-- NAMESPACE_DELETE (R36, R52, R69, R376). -/
def execNamespaceDelete (cap : Cap) (nsid : Nat) (s : State) : Outcome :=
  s.adminMember cap 0x0D (fun s arr a =>
    match s.ownNs a nsid with
    | none => s.finish arr Status.invalidNamespace 0 0
    | some (b, n) =>
      match s.bed? b with
      | none => s.finish arr Status.namespaceNotReady 0 0
      | some x =>
        if x.refuses true ≠ 0 then s.finish arr (x.refuses true) 0 0
        else if x.index.any (fun e => e.nsid = nsid && s.objHeld e) then s.finish arr Status.retentionHeld 0 0
        else
          let s := (s.commitOr { s.cfg.data with ns := s.cfg.data.ns.del nsid }).dropNs b nsid
          let s := match s.cmd.selfTest with | some t => if t.nsid = nsid then s.endTest 3 else s | none => s
          (s.nsChanged nsid n.attached).finish arr 0 0 0)

/-- NAMESPACE_ATTACHMENT (R36, R55). -/
def execNamespaceAttachment (cap : Cap) (nsid : Nat) (attach : Bool) (ctrls : CtrlList) (s : State) : Outcome :=
  s.admin cap 0x15 (fun s arr a =>
    if s.dptrBad cap ctrls.dptr 4096 ≠ 0 then s.finish arr (s.dptrBad cap ctrls.dptr 4096) 0 0 else
    match s.ownNs a nsid with
    | none => s.finish arr Status.invalidNamespace 0 0
    | some (b, n) =>
      let fits := fun (c : Nat) => match s.assoc? c with
        | some y => !y.ended && y.bed = some b && s.tenantId y.tenant = n.tenant
        | none => false
      if (match s.bed? b with | some x => decide (x.st = 3) | none => false) then s.finish arr Status.bedOffline 0 0
      else if !ctrls.ids.all fits then s.finish arr Status.controllerListInvalid 0 0
      else
        let l := n.attached.filter (fun c => !ctrls.ids.contains c)
        let n' := { n with attached := if attach then l ++ ctrls.ids else l }
        let s := { s with cfg := { s.cfg with data := { s.cfg.data with ns := s.cfg.data.ns.put nsid n' } } }
        (s.nsChanged nsid ctrls.ids).finish arr 0 0 0)

/-! ### Device self-tests (R50–R52, R371) -/

/-- A self-test start: one test at a time, and what the arbiter says of it. -/
def State.startTest (s : State) (cap : Cap) (kind nsid : Nat) : Outcome :=
  s.admin cap 0x14 (fun s arr a =>
    let known := nsid = 0 || nsid = 0xFFFFFFFF || (s.ownNs a nsid).isSome
    if !known then s.finish arr Status.invalidNamespace 0 0
    else if s.cmd.selfTest.isSome then s.finish arr Status.selfTestInProgress 0 0
    else
      let (s, v, _) := s.arrivalOf kind none nsid false none
      if v = 2 then s.finish arr Status.selfTestInProgress 0 0
      else if v = 1 then
        -- the deferred test belongs to this association
        let s := s.setActs (s.mnt.acts.map (fun x => if x.st = 1 && x.code = kind then { x with starter := cap.assoc } else x))
        s.finish arr 0 0 0
      else ((s.applyFld F.CMD_CFG_DST_GAP).beginTest kind nsid cap.assoc).finish arr 0 0 0)

/-- SHORT_SELF_TEST (R50). -/
def execShortSelfTest (cap : Cap) (nsid : Nat) (s : State) : Outcome := s.startTest cap 1 nsid

/-- EXTENDED_SELF_TEST (R50). -/
def execExtendedSelfTest (cap : Cap) (nsid : Nat) (s : State) : Outcome := s.startTest cap 2 nsid

/-- SELF_TEST_ABORT (R50). -/
def execSelfTestAbort (cap : Cap) (s : State) : Outcome := s.admin cap 0x14 (fun s arr _ => (s.endTest 1).finish arr 0 0 0)

/-- Steps of a test: the short one leaves the eighth out (R51). -/
def SelfTest.steps (t : SelfTest) : Nat := if t.kind = 1 then 7 else 8

/-- A step's units are powered in part (R51): a test wakes no drive. -/
def State.testPowered (s : State) (t : SelfTest) (step : Nat) : Bool :=
  let on := fun (a n : Nat) => (List.range n).any (fun i => s.domOn (a + i))
  let slots := fun (x : Bed) (l : List Nat) => l.any (fun m => s.slotPowered (x.slotOf m))
  if step = 2 then on 24 8
  else if step = 3 then on 32 8
  else if step = 4 then on 45 2
  else if step = 5 then on 47 4
  else if step = 6 then s.domOn 44
  else if step = 7 then s.beds.vals.any (fun x => slots x (List.range x.n))
  else if step = 8 then
    let beds := if t.nsid = 0 then []
      else if t.nsid = 0xFFFFFFFF then (s.cfg.data.ns.vals.map (·.bed)).filter (fun b => t.bed = some b)
      else (match s.cfg.data.ns.get? t.nsid with | some n => [n.bed] | none => [])
    s.beds.entries.any (fun e => beds.contains e.1 && slots e.2 e.2.dataMembers)
  else true

/-- The cores, and the key unit, that step 2 or 3 tests: of the powered ones every core, in a short test one of each Rill pair and one
cipher core (R51, R157). -/
def State.testUnits (s : State) (t : SelfTest) : List Nat :=
  let rill := (List.range 8).flatMap (fun p =>
    let l := [2 * p, 2 * p + 1].filter (fun c => c < s.nRill && s.domOn (24 + p) && !s.isFenced (0x800 + c))
    (if t.kind = 1 then l.take 1 else l).map (0x800 + ·))
  let cph := (List.range 8).filter (fun c => s.cphWanted c && s.domOn (32 + c))
  if t.step = 2 then rill
  else if t.step = 3 then 0x909 :: ((if t.kind = 1 then cph.take 1 else cph).map (0x900 + ·))
  else []

/-- The next step with a powered unit; the ones before it are skipped, not failed (R51). -/
def State.testStep (s : State) : Nat → SelfTest → SelfTest
  | 0, t => t
  | fuel + 1, t =>
    if t.steps < t.step then t
    else if s.testPowered t t.step then { t with todo := s.testUnits t }
    else s.testStep fuel { t with step := t.step + 1, skipped := setBit t.skipped t.step true }

/-- The unit a slice of step 2 or 3 takes: one that is idle and powered, and not a core of the standby's test (R52, R157). -/
def State.testPick (s : State) (t : SelfTest) : Option Nat :=
  t.todo.find? (fun u => if u = 0x909 then s.cph.deriving_.isNone else if u / 256 = 8 then s.rillFree (u - 0x800) else s.cphFree (u - 0x900))

/-- SELF_TEST_SLICE (R51): the slice took `took` ns; `last` says that it ended the step's test, in steps 2 and 3 that of one core,
`passed` how. The core is out of dispatch while the slice runs; where every core of the step is at work, the slice is put off. The
steps end with result 0 or, where one failed, 7h. -/
def execSelfTestSlice (took : Nat) (last passed : Bool) (s : State) : Outcome :=
  match s.cmd.selfTest with
  | none => .next s
  | some t =>
    match t.nextAt with
    | none => .next s
    | some w =>
      if t.pausedAt.isSome then .next s
      else
        let s := (s.at w).applyFld F.CMD_CFG_DST_GAP
        let put := fun (s : State) (t : SelfTest) => ({ s with cmd := { s.cmd with selfTest := some t } } : State)
        -- units switched off meanwhile are tested no more
        let t := { t with todo := t.todo.filter (fun u => (s.testUnits { t with kind := 2 }).contains u) }
        let pick := s.testPick t
        if !t.todo.isEmpty && pick.isNone then .next (put s { t with nextAt := some (s.now + s.dstGap) })
        else
          let seg := if last && !passed && t.failedSeg = 0 then t.step else t.failedSeg
          let t := { t with ran := t.ran + took, failedSeg := seg, nextAt := some (s.now + took + s.dstGap)
                            todo := if last then t.todo.filter (fun u => pick ≠ some u) else t.todo
                            held := match pick with | some u => some (u, s.now + took) | none => none }
          let t := if last && t.todo.isEmpty then s.testStep 8 { t with step := t.step + 1 } else t
          let s := put s t
          let s := match pick with | some u => if last then s.katRound u passed else s | none => s
          .next (if t.steps < t.step then s.endTest (if seg = 0 then 0 else 7) else s)

/-- SELF_TEST_PAUSE_LIMIT (R52). -/
def execSelfTestPauseLimit (s : State) : Outcome :=
  match s.cmd.selfTest with
  | some t =>
    match t.pausedAt with
    | some p => .next ((s.at (p + (sec 3600 - t.pausedTotal))).endTest 8)
    | none => .next s
  | none => .next s

/-! ### Queues of endpoint function 0 (R326; statuses of NVM Express, assumption 19) -/

def cqInvalid : Nat := 0x4100
def qidInvalid : Nat := 0x4101
def qsizeInvalid : Nat := 0x4102
def qDeletion : Nat := 0x410C

/-- A queue command: only endpoint function 0 has it. -/
def State.queueCmd (s : State) (cap : Cap) (op : Nat) (f : State → Nat → State) : Outcome :=
  s.admin cap op (fun s arr a => if a.fn0 then f s arr else s.finish arr Status.invalidOpcode 0 0)

/-- CREATE_IO_SUBMISSION_QUEUE. -/
def execCreateIoSubmissionQueue (cap : Cap) (qid size cqid : Nat) (s : State) : Outcome :=
  s.queueCmd cap 0x01 (fun s arr =>
    if qid = 0 || 63 < qid || s.cmd.queues.has (qkey cap.assoc qid) then s.finish arr qidInvalid 0 0
    else if size = 0 || 1024 < size then s.finish arr qsizeInvalid 0 0
    else if cqid = 0 || !s.ept.cqs.has cqid then s.finish arr cqInvalid 0 0
    else if s.half 4096 ≤ s.cmd.queues.size || s.half 262144 < sumN (s.cmd.queues.vals.map (·.size)) + size then
      s.finish arr Status.controllerBusy 0 0
    else
      let q : Queue := { assoc := cap.assoc, qid := qid, size := size, cqid := cqid }
      let s := { s with
        cmd := { s.cmd with queues := s.cmd.queues.put (qkey cap.assoc qid) q }
        ept := { s.ept with tails := s.ept.tails.put qid 0, fetched := s.ept.fetched.put qid 0 } }
      s.finish arr 0 0 0)

/-- DELETE_IO_SUBMISSION_QUEUE: its commands before their commit point are dropped. -/
def execDeleteIoSubmissionQueue (cap : Cap) (qid : Nat) (s : State) : Outcome :=
  s.queueCmd cap 0x00 (fun s arr =>
    if qid = 0 || !s.cmd.queues.has (qkey cap.assoc qid) then s.finish arr qidInvalid 0 0
    else
      let s := s.cmd.cmds.keys.foldl (fun s k =>
        match s.cmd? k with
        | some r =>
          if r.cap.assoc ≠ cap.assoc || r.cap.qid ≠ qid then s
          else if r.catchable then (s.pmuCommand k r true).dropCmd k
          else s.mod k (fun r => { r with discard := true })
        | none => s) s
      let s := { s with
        cmd := { s.cmd with queues := s.cmd.queues.del (qkey cap.assoc qid) }
        ept := { s.ept with tails := s.ept.tails.del qid, fetched := s.ept.fetched.del qid } }
      s.finish arr 0 0 0)

/-- CREATE_IO_COMPLETION_QUEUE. -/
def execCreateIoCompletionQueue (cap : Cap) (qid size : Nat) (vec : Option Nat) (s : State) : Outcome :=
  s.queueCmd cap 0x05 (fun s arr =>
    if qid = 0 || 63 < qid || s.ept.cqs.has qid then s.finish arr qidInvalid 0 0
    else if size = 0 || 1024 < size then s.finish arr qsizeInvalid 0 0
    else State.finish { s with ept := { s.ept with cqs := s.ept.cqs.put qid { size := size, head := 0, tail := 0, vec := vec } } } arr 0 0 0)

/-- DELETE_IO_COMPLETION_QUEUE. -/
def execDeleteIoCompletionQueue (cap : Cap) (qid : Nat) (s : State) : Outcome :=
  s.queueCmd cap 0x04 (fun s arr =>
    if qid = 0 || !s.ept.cqs.has qid then s.finish arr qidInvalid 0 0
    else if s.cmd.queues.vals.any (fun q => q.assoc = cap.assoc && q.cqid = qid && q.qid ≠ 0) then s.finish arr qDeletion 0 0
    else State.finish { s with ept := { s.ept with cqs := s.ept.cqs.del qid } } arr 0 0 0)

/-! ### Parking and Dark (R47–R49, R259) -/

/-- WAKE_REQUEST_REPEAT (R47). -/
def execWakeRequestRepeat (s : State) : Outcome :=
  match s.cmd.wakeAt with
  | some t =>
    if s.parkedCount = 0 then .next { s with cmd := { s.cmd with wakeAt := none } }
    else
      let s := s.at t
      .next (State.sendWake { s with cmd := { s.cmd with wakeAt := some (s.now + sec 2) } } 1)
  | none => .next s

/-- PARK_TIMEOUT (R48). -/
def execParkTimeout (arrival : Nat) (s : State) : Outcome :=
  match s.cmd? arrival with
  | some r => if r.phase = .parked then .next ((s.at (r.time + sec 20)).finish arrival Status.parkTimeout 0 0) else .next s
  | none => .next s

/-- DARK_CAPSULE_RESPONSE (R49): a capsule on ring port `n` reaches the responder. -/
def execDarkCapsuleResponse (n : Nat) (cap : Cap) (keepAlive : Bool) (s : State) : Outcome :=
  if s.ctlWaits then .next (s.waitFrameAt n (.darkCapsuleResponse n cap keepAlive)) else
  .next (if s.shelf.st = .dark then s.darkCapsule n cap keepAlive else s)

end Sys2Proof.Machine
end

