-- ==== Sys2Proof/Machine/GusCmds.lean ====
section
/-! DEFINITION. Gusset, the mirror, the copy tick, detaching and joining (R217–R229, R242, R243). -/

namespace Sys2Proof.Machine

/-! ### Delivery (R221) -/

/-- What a message's delivery releases: the write it announced, the ACK or request it preceded, the acknowledgement of a
window WRITE. -/
def State.delivered (s : State) (g : GTx) : State :=
  match g.release with
  | .nothing => s
  | .stagedWrite b =>
    (s.modBed b (fun x => { x with staged := x.staged.map (fun r => if r.mirror = some g.seq then { r with mirror := none } else r) })).issueStaged b
  | .ack qp psn => if s.cmd.stopped then s else s.putAck qp psn
  | .request qp =>
    match g.msg, s.qp? qp with
    | .transportNotice n, some q =>
      (match q.sent.find? (fun r => r.first = n.first) with
       | some r => s.putRequest qp r
       | none => s)
    | _, _ => s
  | .window qp psn =>
    let s := s.modQp qp (fun q => { q with mirHold := q.mirHold.erase psn })
    (match s.qp? qp with
     | some q => if q.st = 1 && (8 ≤ q.runLen || (match q.runAt with | some t => decide (t ≤ s.now) | none => false)) then s.sendAck qp else s
     | none => s)
  | .drive id => s.issueDrive id

/-- An acknowledgement of frames up to `q` (R221). -/
def State.linkAcked (s : State) (q : Nat) : State :=
  let gone := s.gus.unacked.filter (fun g => g.last ≤ q)
  gone.foldl State.delivered { s with gus := { s.gus with unacked := s.gus.unacked.filter (fun g => !(g.last ≤ q)) } }

/-- Sends one unacknowledged message again; one that found the link down goes for the first time. -/
def State.resendFrame (s : State) (g : GTx) : State :=
  if !s.gus.link then s
  else
    let s := (s.putGusset g.seq g.bed g.msg g.out).pmuEvent 0xC00 0xFF g.msg.size
    if g.out then (s.bump (F.GUS_CNT_COUNT 0) (GMsg.frames g.msg)).pmuEvent 0xC01 0xFF (GMsg.frames g.msg) else s

/-- Retransmits every unacknowledged message from frame `q` on (R221 item 4). -/
def State.resendFrom (s : State) (q : Nat) : State :=
  let l := s.gus.unacked.filter (fun g => q ≤ g.last)
  let s := l.foldl State.resendFrame s
  { s with gus := { s.gus with unacked := s.gus.unacked.map (fun g => if q ≤ g.last then { g with sentAt := s.now, tries := if g.out then g.tries + 1 else 0, out := g.out || s.gus.link } else g) } }

/-- Beds as a list from a mask. -/
def bedsOf (mask : Nat) : List Nat := bitsOf 4 mask

/-- A shelf event: state change, takeover, detach, join (R350 group 0x22). -/
def State.shelfNote (s : State) (old : Nat) (mask : Nat) : State :=
  s.note 0x22 ([BitVec.ofNat 8 old, BitVec.ofNat 8 s.shelf.st.code, 0, 0] ++ le 4 mask)

/-- The beds run without their standby from now on: what waited for it is released, and writes are issued without mirroring
(R229). -/
def State.unmirror (s : State) (bs : List Nat) : State :=
  let s := { s with
    beds := s.beds.mapV (fun b x => if bs.contains b then { x with peerJoined := false, copying := false } else x)
    gus := { s.gus with delta := s.gus.delta.filterT (fun b _ => !bs.contains b) } }
  let mine := s.gus.unacked.filter (fun g => bs.contains g.bed)
  let s := { s with gus := { s.gus with unacked := s.gus.unacked.map (fun g => if bs.contains g.bed then { g with release := .nothing } else g) } }
  let s := mine.foldl State.delivered s
  (s.releaseAll).ackAll

/-! ### The link (R217) -/

/-- The key check message sent at each link-up (R220 kind 7). -/
def State.keyCheckBody (s : State) : Bytes :=
  let k := s.store
  be 8 s.fuses.serial ++ (match k with | some k => k.kcv | none => zeros 4) ++ be 4 (match k with | some k => k.state | none => 3)

/-- GUSSET_LINK_UP: the link trains; unacknowledged frames go again, and the key check values are exchanged. -/
def execGussetLinkUp (s : State) : Outcome :=
  if !s.domOn 44 || s.gus.link then .next s
  else
    let s := { s with gus := { s.gus with link := true, retrain := false, retrainAt := none, downAt := none } }
    let s := { s with gus := { s.gus with unacked := s.gus.unacked.map (fun (g : GTx) => { g with tries := 0 }) } }
    let s := s.proxyBack.resendFrom 0
    .next (s.gusControl 0xFF 7 s.keyCheckBody)

/-- GUSSET_LINK_DOWN. -/
def execGussetLinkDown (s : State) : Outcome := .next s.gusRetrain

/-- Timer and unit context of a Gusset event: nothing is known of it beyond the source. -/
def State.gusEvent (s : State) (group : Nat) : State := s.raise 0xC00 2 (group * 0x1000000) []

/-- GUSSET_RETRAIN_TIMEOUT: 10 ms without the link (R217). -/
def execGussetRetrainTimeout (s : State) : Outcome :=
  match s.gus.retrainAt with
  | none => .next s
  | some t =>
    let s := s.at t
    .next (State.gusEvent { s with gus := { s.gus with retrainAt := none } } 4)

/-- Heartbeats of a path are still valid: its miss count has not reached the 10 of R232. -/
def State.pathValid (s : State) (p : Nat) : Bool :=
  if p = 1 then s.gus.seq1.isSome && s.gus.miss1 < 10 else s.gus.seq2.isSome && s.gus.miss2 < 10

/-- The owner's beds that run with a standby, or are being copied to one. -/
def State.withStandby (s : State) : Nat := bedMask s (fun x => x.owned && (x.mirrored || x.copying))

/-- Asks the standby to detach the owner's beds, in its word and in a control frame (R229). -/
def State.askDetach (s : State) : State :=
  let m := s.withStandby
  if m = 0 then s
  else
    let s := { s with gus := { s.gus with detachAsked := m } }
    s.gusControl 0xFF 5 (be 4 m)

/-- The owner has seen its beds detached: it runs them as a single-controller shelf (R229). -/
def State.detachDone (s : State) (mask : Nat) : State :=
  if mask = 0 then s
  else
    let s := s.unmirror (bedsOf mask)
    let s := { s with
      beds := s.beds.mapV (fun b x => if bit mask b && x.owned then { x with detached := true } else x)
      gus := { s.gus with detachAsked := 0, ends := [] } }
    s.shelfNote s.shelf.st.code mask

/-- The standby stops standing by for the beds and drops their tick state (R229). -/
def State.detachStandby (s : State) (mask : Nat) : State :=
  let hit := fun (b : Nat) (x : Bed) => bit mask b && !x.owned && (x.joined || x.standby.joining)
  let m := s.beds.entries.foldl (fun m e => if hit e.1 e.2 then setBit m e.1 true else m) 0
  if m = 0 then s
  else State.shelfNote { s with beds := s.beds.mapV (fun b x =>
    if hit b x then { x with joined := false, detached := true, standby := StandbyCopy.init } else x) } s.shelf.st.code m

/-- GUSSET_DOWN_DETACH: 10 ms after the link went down, with path 2 valid, the owner's beds are to be detached. -/
def execGussetDownDetach (s : State) : Outcome :=
  match s.gus.downAt with
  | none => .next s
  | some t =>
    if s.gus.link || !s.pathValid 2 || s.gus.detachAsked ≠ 0 then .next s
    else .next (s.at (t + msec 10)).askDetach

/-- First 96 bytes of a received frame: its header; the row does not bring its payload, whose bytes are open (assumption 70). -/
def State.gussetHead (s : State) (f : GussetFrame) : Bytes :=
  [n8 f.kind, n8 (b2n f.first + 2 * b2n f.last)] ++ be 2 f.length ++ be 4 f.seq ++ be 4 f.ack ++ [n8 f.bed, 0, 0, 0]
    ++ (List.range (min 80 (4 + 4 * cdiv f.length 4))).map (fun j => n8 (Config.freeValue (s.free + j)))

/-- GUSSET_FRAME_RECEIVE: the frame's form, the acknowledgement it carries, its place in the sequence (R218, R219, R221). A control
message of an unknown type is discarded and counted (R220). -/
def execGussetFrameReceive (f : GussetFrame) (s : State) : Outcome :=
  if !s.gus.link then .next s
  else if !f.crcOk || 9152 < f.length || f.zeroFields ≠ 0 then .next (s.bump (F.GUS_CNT_COUNT 1) 1)
  else
    let s := s.gusFrames false [(20 + 4 * cdiv f.length 4, s.gussetHead f)]
    let s := s.linkAcked f.ack
    if f.kind = 8 then .next s
    else if f.kind = 9 then .next (if f.nak = 0 then s else s.resendFrom f.nak)
    else if f.seq = s.gus.rxSeq + 1 then
      let s := if f.kind = 0xB && f.first && (f.message = 0 || 0xE < f.message) then s.bump (F.GUS_CNT_COUNT 1) 1 else s
      .next { s with gus := { s.gus with rxSeq := f.seq, ackAt := some (s.gus.ackAt.getD (s.now + usec 2)) } }
    else if f.seq ≤ s.gus.rxSeq then .next { s with gus := { s.gus with ackAt := some (s.gus.ackAt.getD (s.now + usec 2)) } }
    else .next (s.putGusset 0 0xFF (.linkAck (s.gus.rxSeq + 1)) false)

/-- GUSSET_LINK_ACK: frames up to `seq` are acknowledged. -/
def execGussetLinkAck (seq : Nat) (s : State) : Outcome := .next (s.linkAcked seq)

/-- GUSSET_ACK_TIMER: 2 µs after a frame a plain acknowledgement goes out where nothing else did. -/
def execGussetAckTimer (s : State) : Outcome :=
  match s.gus.ackAt with
  | none => .next s
  | some t =>
    let s := s.at t
    let s := { s with gus := { s.gus with ackAt := none } }
    .next (if s.gus.link then s.putGusset 0 0xFF (.linkAck 0) false else s)

/-- GUSSET_RETRANSMIT_TIMER: 20 µs after the oldest unacknowledged frame was sent; after 8 tries the link retrains. -/
def execGussetRetransmitTimer (s : State) : Outcome :=
  match s.gus.unacked with
  | [] => .next s
  | g :: _ =>
    if !s.gus.link then .next s
    else
      let s := s.at (g.sentAt + usec 20)
      .next (if 8 ≤ g.tries then s.gusRetrain else s.resendFrom g.seq)

/-! ### The mirror at the standby (R222–R224) -/

/-- The controller holds a copy of the bed, whole or being made. -/
def Bed.stands_by (x : Bed) : Bool := !x.owned && (x.joined || x.standby.joining)

def State.modCopy (s : State) (b : Nat) (f : StandbyCopy → StandbyCopy) : State :=
  s.modBed b (fun x => { x with standby := f x.standby })

/-- Runs `f` on a bed this controller stands by for. -/
def State.onStandby (s : State) (b : Nat) (f : State → Bed → State) : State :=
  match s.bed? b with
  | some x => if x.stands_by then f s x else s
  | none => s

/-- RECORD_MIRROR: the dirty bit is set before anything is acknowledged (R92). -/
def execRecordMirror (id : Nat) (head : MirrorHead) (bytes : Bytes) (s : State) : Outcome :=
  .next (s.onStandby head.bed (fun s x =>
    let s := s.setDirty head.bed (x.bandOf head.member head.start) true
    s.modCopy head.bed (fun c => { c with mirrored := c.mirrored ++ [⟨id, head, bytes, false, false⟩] })))

/-- The owner writes a metadata page: the copy it holds is no newer than this one's, so the page is changed no longer. -/
def Bed.announced (x : Bed) (h : MirrorHead) : Bed :=
  if h.kind = 5 then { x with pinned := x.pinned.filter (fun p => 262144 + p ≠ h.start) }
  else if h.kind = 6 then { x with mapDirty := x.mapDirty.filter (fun p => 262144 * (1 + x.eIdx) + Config.mapPage p.1 p.2 ≠ h.start) }
  else if h.kind = 7 then { x with tblDirty := x.tblDirty.filter (fun p => 2048 + p ≠ h.start) }
  else x

/-- WRITE_NOTICE. -/
def execWriteNotice (head : MirrorHead) (s : State) : Outcome :=
  .next (s.onStandby head.bed (fun s _ =>
    (s.modBed head.bed (fun x => x.announced head)).modCopy head.bed (fun c => { c with mirrored := c.mirrored ++ [⟨0, head, [], false, false⟩] })))

/-- WINDOW_MIRROR: the bytes of a window of the owner's. -/
def execWindowMirror (b index offset key : Nat) (bytes : Bytes) (s : State) : Outcome :=
  .next (s.onStandby b (fun s _ => s.modCopy b (fun c =>
    let w := c.windows.getD index { key := key, assoc := 0, sizeMib := 0, revoking := false, drainAt := none, accepted := [], mem := .empty }
    { c with windows := c.windows.put index { w with key := key, mem := w.mem.writeN offset bytes } })))

/-- TRANSPORT_NOTICE. -/
def execTransportNotice (b : Nat) (n : Notice) (s : State) : Outcome :=
  .next (s.onStandby b (fun s _ => s.modCopy b (fun c => { c with notices := c.notices ++ [n] })))

/-- A mirrored write is held until it is reported complete and, for a record, folded. -/
def keepMirrored (l : List Mirrored) : List Mirrored := l.filter (fun m => !(m.done && (m.folded || m.bytes.isEmpty)))

/-- Folds a mirrored record under the owner's fold number. A Band whose accumulators this controller does not hold takes the
digest only, and waits for them (R223). -/
def Bed.shadowFold (x : Bed) (m : Mirrored) (no : Nat) : Bed :=
  let k := x.bandOf m.head.member m.head.start
  let y := x.band k
  if no ≤ y.lastFold then x
  else if y.acc.isNone && 2 ≤ y.st then
    x.setBand k { y with lastFold := no, reloadPending := true
                         digCount := (y.digCount + 1) % 2 ^ 32, digSum := (y.digSum + crc32c m.bytes) % 2 ^ 32 }
  else x.foldInto m.head.member m.head.start m.bytes no

/-- FOLD_NOTICE. -/
def execFoldNotice (b id fold : Nat) (s : State) : Outcome :=
  .next (s.onStandby b (fun s x =>
    match x.standby.mirrored.find? (fun m => m.id = id && !m.folded && id ≠ 0) with
    | none => s.modBed b (fun x => { x with fold := max x.fold fold })
    | some m =>
      let x := { x.shadowFold m fold with fold := max x.fold fold }
      let l := keepMirrored (x.standby.mirrored.map (fun q => if q.id = id then { q with folded := true } else q))
      s.setBed b { x with standby := { x.standby with mirrored := l } }))

/-! ### The copy tick (R226–R229) -/

/-- Bands folded into during the tick. -/
def digestBands (l : List DeltaEntry) : List Nat :=
  (l.filterMap (fun e => match e with | .digest k _ _ _ => some k | _ => none)).eraseDups

def notDigest : DeltaEntry → Bool
  | .digest _ _ _ _ => false
  | _ => true

/-- The delta of a bed as sent: its sections in ascending order, one digest per Band at the fold number of the tick's end,
the counters, the fill set and the append offsets (R223, R226, R227). -/
def State.deltaOf (s : State) (b : Nat) (x : Bed) : List DeltaEntry :=
  let l := s.gus.delta.getD b []
  if l.isEmpty then []
  else
    let digs := (digestBands l).map (fun k => DeltaEntry.digest k (x.band k).digCount (x.band k).digSum x.fold)
    let more := digs ++ [.counters s.cmd.arrival x.serial x.fold,
      .fillSet (maskOf x.fill) ((List.range x.n).map (fun m => match x.members.get? m with | some y => y.append | none => 0))]
    sortBy (fun p q => decide (DeltaEntry.section p ≤ DeltaEntry.section q)) (l.filter notDigest ++ more)

/-- Length of a copy tick in ns (R244). -/
def State.tickNs (s : State) : Nat := usec (clamp 250 4000 (s.fld F.GUS_CFG_TICK_US))

/-- TICK_END: a delta for every copied bed, the tick state in MRAM, the next tick. -/
def execTickEnd (s : State) : Outcome :=
  match s.gus.tickEndAt with
  | none => .next s
  | some t =>
    if s.shelf.st ≠ .awake then .next { s with gus := { s.gus with tickEndAt := none } }
    else
      let s := s.at t
      let bs := s.owned.filter (fun b => s.copied b)
      let waits := s.owned.any (fun b => s.ticked b)
      let s := bs.foldl State.qpChanges s
      let s := bs.foldl (fun s b =>
        match s.bed? b with
        | some x =>
          if s.coreStop then { s with gus := { s.gus with late := s.gus.late ++ [(b, s.gus.tick, s.deltaOf b x)] } }
          else s.gusSend b (.tickDelta b s.gus.tick (s.deltaOf b x)) .nothing
        | none => s) s
      let s := if bs.isEmpty || s.coreStop then s else s.setFld F.GUS_TICK_LO_SENT (s.gus.tick % 2 ^ 32)
      let s := s.putTickStates
      let s := s.applyRwls [F.GUS_CFG_TICK_US.addr, F.OBJ_CFG_IDX_CACHE.addr]
      let s := s.trimCache 0
      .next { s with gus := { s.gus with
        delta := .empty, tick := s.gus.tick + 1, tickEndAt := some (s.now + s.tickNs)
        ends := if waits then s.gus.ends ++ [(s.gus.tick, s.now)] else s.gus.ends } }

/-- Phase of a command as copied, from R364's number. -/
def copiedPhase (p : Nat) : CmdPhase :=
  if p = 0 then .waiting else if p = 1 then .board else if p = 2 then .held else if p = 4 then .working
  else if p = 5 then .done else if p = 7 then .parked else .board

def NvmeCmd.nsid : NvmeCmd → Nat
  | .flush n => n
  | .write n _ _ _ => n
  | .read n _ _ _ => n
  | .writeZeroes n _ _ => n
  | .dsm n _ _ => n
  | .verify n _ _ => n
  | .store n _ _ _ _ _ => n
  | .retrieve n _ _ _ => n
  | .list n _ _ _ => n
  | .delete n _ => n
  | .exist n _ => n
  | .hold n _ _ _ => n
  | .importRecord n _ _ _ _ _ => n
  | .objectInfo n _ _ _ => n
  | .admin _ => 0

def copiedCmd (number slot serial : Nat) (cap : Cap) (phase tick now : Nat) (c : NvmeCmd) : CmdRec :=
  { number := number, cap := cap, nsid := NvmeCmd.nsid c, cmd := some c, capsule := [], tick := tick, time := now, slot := some slot, phase := copiedPhase phase
    serial := if serial = 0 then none else some serial, epoch := none, status := 0, dw0 := 0, dw1 := 0, discard := false
    isAdmin := decide (cap.qid = 0), bare := false, work := CmdWork.init, times := [], since := now }

/-- A tested standby compares the owner's digest with its own: a mismatch is counted, recorded, and the accumulators are
asked for (R243; severity and group are assumption 21). -/
def State.checkDigest (s : State) (b k count sum : Nat) : State :=
  match s.bed? b with
  | none => s
  | some x =>
    let y := x.band k
    if x.standby.adopt.contains k then
      (s.modCopy b (fun c => { c with adopt := c.adopt.filter (· ≠ k) })).modBed b (fun x => x.setBand k { x.band k with digCount := count, digSum := sum })
    else if !s.flag F.GUS_CFG_MODE || (y.digCount = count && y.digSum = sum) || x.standby.asked.contains k then s
    else
      let s := (s.bump (F.GUS_CNT_COUNT 5) 1).raise 0xC02 2 0x02000000 []
      let s := s.modCopy b (fun c => { c with asked := c.asked ++ [k] })
      s.gusControl b 0x0C (be 4 k)

/-- A change of the index copy: its page is pinned, and the count of live objects follows (R65, R72). -/
def State.copyIndex (s : State) (b : Nat) (f : List IndexEntry → List IndexEntry) (pg : Nat) : State :=
  match s.bed? b with
  | some x => (s.setIndex b (f x.index)).modBed b (fun x => { x with pinned := (pg :: x.pinned).eraseDups })
  | none => s

/-- One entry of a tick delta, applied to the copy (R226, R227). -/
def State.applyEntry (s : State) (b tick : Nat) : DeltaEntry → State
  | .slotTaken sl arr ser cap ph c => s.modCopy b (fun t => { t with cmds := t.cmds.put arr (copiedCmd arr sl ser cap ph tick (s.now - s.tickNs) c) })
  | .slotPhase sl ph _ => s.modCopy b (fun t => { t with cmds := t.cmds.mapV (fun _ r => if r.slot = some sl then { r with phase := copiedPhase ph } else r) })
  | .slotFreed sl => s.modCopy b (fun t => { t with cmds := t.cmds.filterT (fun _ r => r.slot ≠ some sl) })
  | .scoreAdd e => s.modCopy b (fun t => { t with board := (t.board ++ [e.arrival]).eraseDups })
  | .scoreRemove e => s.modCopy b (fun t => { t with board := t.board.filter (· ≠ e.arrival) })
  | .qpChanged q => s.modCopy b (fun t => { t with qps := t.qps.put q.index q, notices := t.notices.filter (fun n => !(n.qp = q.index && n.kind = 1)) })
  | .qpCreated q => s.modCopy b (fun t => { t with qps := t.qps.put q.index q, notices := t.notices.filter (fun n => n.qp ≠ q.index) })
  | .qpDestroyed i => s.modCopy b (fun t => { t with qps := t.qps.del i, notices := t.notices.filter (fun n => n.qp ≠ i) })
  | .indexPut e => s.copyIndex b (fun l => idxPut l e) (Config.indexPage e.nsid e.key)
  | .indexDel e => s.copyIndex b (fun l => idxDel l e.nsid e.key) (Config.indexPage e.nsid e.key)
  | .mapPut ns u es => s.modBed b (fun x => { x with mapDirty := (es.zipIdx.map (fun (p : MapEntry × Nat) => (ns, (u + p.2) / 504)) ++ x.mapDirty).eraseDups, map := x.map.put ns (mapPut (x.map.getD ns .empty) (es.zipIdx.map (fun (p : MapEntry × Nat) => (u + p.2, p.1)))) })
  | .bandState k g st => s.modBed b (fun x =>
      let y := x.band k
      let y : Band := if st = 0 then { Band.init with gen := g } else { y with gen := g, st := st, acc := if st = 1 then y.acc else none }
      let l := if st = 1 then x.standby.mirrored else
        keepMirrored (x.standby.mirrored.map (fun (m : Mirrored) => if m.folded && x.bandOf m.head.member m.head.start = k then { m with done := true } else m))
      { (x.setBand k y).touchBand k with standby := { x.standby with mirrored := l } })
  | .dirtyCleared k _ => s.setDirty b k false
  | .writeDone m _ _ st n => s.modCopy b (fun t => { t with mirrored := keepMirrored (t.mirrored.map (fun q =>
      if q.head.member = m && decide (st ≤ q.head.start) && decide (q.head.start + q.head.count ≤ st + n) then { q with done := true } else q)) })
  | .digest k c u _ => s.checkDigest b k c u
  | .counters a sr f => (s.modBed b (fun x => { x with serial := max x.serial sr, fold := max x.fold f })).modCopy b (fun t => { t with arrival := a })
  | .memberState m st =>
    -- a replacement that this controller reaches takes its key too (R235)
    let fresh := match (s.bed? b).bind (fun x => x.members.get? m) with | some y => st = 2 && downSt y.st && (s.port y.slot).ready | none => false
    let s := s.modBed b (fun x => x.modMember m (fun y => { y with st := st, failedAt := if downSt st then (if downSt y.st then y.failedAt else s.dev) else y.failedAt }))
    if fresh then s.driveCmd b m .register 0 0 (le 8 s.fuses.serial) .reserve else s
  | .bedState st => s.modBed b (fun x => { x with st := st })
  | .fillSet mask as => s.modBed b (fun x => { x with
      fill := bitsOf 24 mask, members := x.members.mapV (fun m y => { y with append := as.getD m y.append }) })
  | .cursor m cur q => s.modBed b (fun x => { x with
      queued := if q = 0xFF then [] else [q]
      rebuild := some { member := m, cursor := cur, slice := 0, paused := true, pauseWanted := false, started := s.dev, flushing := false, metaDone := decide (0 < cur), nextAt := none } })
  | .lostRange r => s.modCopy b (fun t => if 4096 ≤ t.lost.length then { t with lostFull := true } else { t with lost := t.lost ++ [r] })
  | .epoch ns cur fl hi =>
    let s := (s.putEpochs ns fl hi).pruneKeys
    { s with cfg := { s.cfg with data := { s.cfg.data with ns := s.cfg.data.ns.modify ns (fun n => { n with epoch := cur }) } } }
  | .windowReg i key a sz => s.modCopy b (fun t =>
      let w := t.windows.getD i { key := key, assoc := a, sizeMib := sz, revoking := false, drainAt := none, accepted := [], mem := .empty }
      { t with windows := t.windows.put i { w with key := key, assoc := a, sizeMib := sz } })
  | .windowRev i => s.modCopy b (fun t => { t with windows := t.windows.del i, counters := t.counters.del i })
  | .trigPost e qp c th wr => s.modCopy b (fun t => { t with trigs := t.trigs ++ [⟨e, qp, c, th, wr⟩] })
  | .trigCounter c v im => s.modCopy b (fun t => { t with counters := t.counters.put c (v, im) })
  | .trigGone e => s.modCopy b (fun t => { t with trigs := t.trigs.filter (fun x => x.entry ≠ e) })
  | .unknown _ => s

/-- TICK_DELTA: every section is applied, then the tick is acknowledged (R228). -/
def execTickDelta (b tick : Nat) (entries : List DeltaEntry) (s : State) : Outcome :=
  .next (s.onStandby b (fun s x =>
    if !x.joined && tick < x.standby.joinTick then s
    else
      let s := entries.foldl (fun s e => s.applyEntry b tick e) s
      let s := s.modCopy b (fun c => { c with tick := tick })
      let s := { s with gus := { s.gus with ackSent := tick % 65536 } }
      s.gusSend b (.tickAck b tick) .nothing))

/-- The bed of a planned hand-over has drained: the hand-over frame, the fence, the addresses (R390 step 3). -/
def State.handOver (s : State) (b tick : Nat) : State :=
  let s := s.gusControl b 0x0A (be 8 tick)
  let s := s.selfFenceBed b
  { s with gus := { s.gus with handover := none } }

/-- The tick that every ticking bed of the controller has acknowledged (R228). -/
def State.ackedTick (s : State) (tick : Nat) : Nat :=
  match (s.owned.filter (fun b => s.ticked b)).map (fun b => s.gus.ackedBed.getD b 0) with
  | [] => tick
  | x :: xs => xs.foldl min x

/-- An acknowledgement noted: the bed's own tick, the tick that all have acknowledged, and that one's latency in GUS_ACKLAT (R228). -/
def State.noteAck (s : State) (b tick : Nat) : State :=
  let s := { s with gus := { s.gus with ackedBed := s.gus.ackedBed.put b (max tick (s.gus.ackedBed.getD b 0)) } }
  let a := s.ackedTick tick
  let s := match s.gus.ends.find? (fun e => e.1 = a) with
    | some (_, t) =>
      let us := min 0xFFFF ((s.now - t) / 1000)
      let s := (s.setFld F.GUS_ACKLAT_LAST_US us).setFld F.GUS_ACKLAT_MAX_US (max us (s.fld F.GUS_ACKLAT_MAX_US))
      (s.setFld F.GUS_TICKACK_LO_ACKED (a % 2 ^ 32)).histAdd 0x12 0xFF (s.now - t) (fun _ => true)
    | none => s
  { s with gus := { s.gus with acked := max a s.gus.acked, ends := s.gus.ends.filter (fun e => a < e.1) } }

/-- TICK_ACKNOWLEDGEMENT: an acknowledgement of tick `t` is one of every earlier tick (R228). -/
def execTickAcknowledgement (b tick : Nat) (s : State) : Outcome :=
  if !s.copied b then .next s
  else
    let s := (s.noteAck b tick).releaseAll.ackAll
    .next (if s.gus.handover = some b && (match s.bed? b with | some x => x.ckpts.isEmpty | none => false) then s.handOver b tick else s)

/-- Tick acknowledgement timeout in ns (R244). -/
def State.ackToNs (s : State) : Nat := msec (clamp 2 100 (s.fld F.GUS_CFG_ACK_TO_MS))

/-- TICK_ACK_TIMEOUT: with heartbeats valid on some path the standby is asked to detach (R229). -/
def execTickAckTimeout (s : State) : Outcome :=
  match s.gus.ends with
  | [] => .next s
  | (_, t) :: _ =>
    if s.withStandby = 0 || s.gus.detachAsked ≠ 0 then .next s
    else
      let s := s.at (t + s.ackToNs)
      let s := (s.gusEvent 3).bump (F.GUS_CNT_COUNT 6) 1
      .next (if s.pathValid 1 || s.pathValid 2 then s.askDetach else s)

/-! ### Detaching (R229) -/

/-- DETACH_DONE, from the standby. -/
def execDetachDone (mask : Nat) (s : State) : Outcome := .next (s.detachDone (mask &&& s.gus.detachAsked))

/-! ### Keys (R153) -/

/-- Stores K_domain under the part's own wrap key, in both copies under the next generation (R152, R153). -/
def State.installKey (s : State) (k : Bytes) : State :=
  let e := match s.store with | some o => o.epochs | none => .empty
  State.putStore { s with cph := { s.cph with kDomain := some k } }
    { state := 1, gen := 0, serial := s.fuses.serial, kcv := keyCheckValue k, wrapped := [], tag := [], epochs := e }

/-- A key or pairing event (R350 group 0x31). -/
def State.keyNote (s : State) : State := s.note 0x31 (le 4 (match s.store with | some k => k.gen | none => 0))

/-- Member of a bed as its geometry gives it. -/
def geomMember (g : BedGeom) (m : Nat) : Member :=
  { slot := g.slots.getD m 255, st := 0, sectors := g.sectors.getD m 0, serial := g.serials.getD m [], eui := 0, append := 0, full := false
    single := false, ures := [], failedAt := 0, idleAt := none, descGen := 0, offPending := false, sbGen := 0, skipped := [] }

/-- The bed as a standby that starts to join holds it: geometry only. -/
def geomBed (g : BedGeom) : Bed :=
  { Bed.init with
    n := g.n, hMib := g.hMib, e := g.e, eIdx := g.eIdx, bedId := g.bedId, bandCount := g.bandCount
    members := (List.range g.n).foldl (fun t m => t.put m (geomMember g m)) .empty
    standby := { StandbyCopy.init with joining := true } }

/-- Starts the join of one bed the peer owns: the key is registered on its members, then the owner is asked (R235, R242). A bed
that was detached stays so until the join has ended (R241). -/
def State.startJoin (s : State) (g : BedGeom) : State :=
  let mine := match s.bed? g.bed with | some x => x.owned && !x.left | none => false
  if mine || 4 ≤ g.bed then s
  else
    let s := s.setBed g.bed { geomBed g with detached := ((s.bed? g.bed).getD Bed.init).detached }
    ((List.range g.n).foldl (fun s m => s.driveCmd g.bed m .register 0 0 (le 8 s.fuses.serial) .reserve) s).joinAsk g.bed

/-- A join is possible: Awake, no position conflict, the same K_domain (R242). -/
def State.mayJoin (s : State) : Bool := s.shelf.st = .awake && !s.shelf.conflict && !s.shelf.stopped && s.cph.peerMatch

/-- The geometry of a bed that this controller knows. -/
def Bed.geom (x : Bed) (b : Nat) : BedGeom :=
  { bed := b, n := x.n, hMib := x.hMib, e := x.e, eIdx := x.eIdx, bedId := x.bedId, bandCount := x.bandCount
    slots := (List.range x.n).map x.slotOf
    sectors := (List.range x.n).map (fun m => match x.members.get? m with | some y => y.sectors | none => 0)
    serials := (List.range x.n).map (fun m => match x.members.get? m with | some y => y.serial | none => []) }

/-- A detached bed of the peer is joined again (R242). -/
def State.rejoin (s : State) (b : Nat) : State :=
  match s.bed? b with
  | some x => if s.mayJoin && !x.owned && x.detached && !x.standby.joining then s.startJoin (x.geom b) else s
  | none => s

/-- DETACH_REQUEST, from the owner: answered, and the join that follows a detach starts (R229, R242). -/
def execDetachRequest (msgId mask : Nat) (s : State) : Outcome :=
  .next ((bedsOf mask).foldl State.rejoin ((s.detachStandby mask).gusAnswer 0xFF 6 msgId (be 4 mask)))

/-- The key check values differ: neither controller mirrors for or stands by for the other's beds (R153). -/
def State.keysApart (s : State) : State :=
  let s := s.unmirror s.owned
  { s with beds := s.beds.mapV (fun _ x => if x.owned then x else { x with joined := false, standby := StandbyCopy.init }) }

/-- KEY_CHECK: the peer's key check value; `found` is what this controller reads of the beds the peer owns. -/
def execKeyCheck (kcv : Bytes) (keyState : Nat) (found : List BedGeom) (s : State) : Outcome :=
  let same := keyState = 1 && (match s.store with | some k => decide (k.state = 1 ∧ k.kcv = kcv) | none => false)
  let s := { s with
    gus := { s.gus with peerKcv := some kcv }
    cph := { s.cph with peerMatch := same } }
  if !same then .next s.keyNote.keysApart
  else if s.mayJoin then .next (found.foldl State.startJoin s)
  else .next s

/-- PAIRING: K_domain sealed by `sender` under the transport key. Results 0–3 as R220 gives them. -/
def execPairing (msgId sender : Nat) (iv wrapped tag kcv : Bytes) (s : State) : Outcome :=
  let done := fun (s : State) (r : Nat) =>
    State.gusAnswer { s with cph := { s.cph with secret := none, secretAt := none } } 0xFF 9 msgId (be 4 r)
  if (match s.store with | some k => k.state | none => 3) ≠ 0 then .next (done s 1)
  else
    match s.cph.secret with
    | none => .next (done s 2)
    | some sec =>
      match gcmOpen (transportKey sec sender s.fuses.serial) iv kcv wrapped tag with
      | none => .next (done s 2)
      | some k =>
        if keyCheckValue k ≠ kcv then .next (done s 3)
        else
          let s := s.installKey k
          .next (done (State.keyNote { s with cph := { s.cph with peerMatch := true } }) 0)

/-- PAIRING_DONE: the transfer has ended, and the sender forgets the secret. -/
def execPairingDone (result : Nat) (s : State) : Outcome :=
  let s := { s with cph := { s.cph with
    secret := none, secretAt := none, pairing := none, peerMatch := s.cph.peerMatch || decide (result = 0) } }
  .next s.keyNote

/-! ### Joining (R242, R243) -/

/-- The bed's structures, as the owner sends them (R242 step 2). -/
def State.joinPieces (s : State) (b : Nat) (x : Bed) : List JoinPiece :=
  (x.map.entries.flatMap (fun t => (moveRuns (t.2.entries.length + 1) t.2.entries).map (fun r =>
      JoinPiece.map t.1 (match r with | e :: _ => e.1 | [] => 0) (r.map (·.2)))))
    ++ x.bands.entries.map (fun e => JoinPiece.bandTable e.1 [(e.2.gen, e.2.st, e.2.retired)])
    ++ (((s.dirtyBands b).map (· / 8)).eraseDups).map (fun j => JoinPiece.bitmap (8 * j) ((List.range 8).map (fun i => (s.dirtyBands b).contains (8 * j + i))))
    ++ ((x.index.map (fun e => Config.indexPage e.nsid e.key)).eraseDups).map (fun pg =>
        JoinPiece.indexPage (x.index.filter (fun e => Config.indexPage e.nsid e.key = pg)))
    ++ x.openBands.filterMap (fun k => (x.band k).acc.map (fun t =>
        JoinPiece.accumulators k (x.band k).lastFold (t.entries.map (fun e => (e.1, e.2.1, e.2.2)))))

/-- What the copy does not hold and the standby needs goes into the running tick's delta: commands, scoreboard, queue pairs,
member states, fill set, windows, triggered requests, epochs (assumption 22). -/
def State.joinDelta (s : State) (b : Nat) (x : Bed) : State :=
  let s := (s.cmdsOf b).foldl (fun s arr =>
    let s := s.cmdDelta arr
    match s.cmd? arr with
    | some r => if r.phase = .board || r.phase = .working then r.scores.foldl (fun s e => s.delta b (.scoreAdd e)) s else s
    | none => s) s
  let s := s.slu.qps.entries.foldl (fun s e => if s.qpBed e.2 = some b && e.2.st = 1 then s.qpTell b e.1 e.2 else s) s
  let s := x.members.entries.foldl (fun s e => s.delta b (.memberState e.1 e.2.st)) s
  let s := s.delta b (.bedState x.st)
  let s := match x.rebuild with | some r => s.delta b (.cursor r.member r.cursor (x.queued.headD 0xFF)) | none => s
  -- one entry more where the list is full: the standby finds its own full (R112)
  let full := if (s.bedRec b).full then (s.bedRec b).lost.take 1 else []
  let s := ((s.bedRec b).lost ++ full).foldl (fun s r => s.delta b (.lostRange r)) s
  let s := s.cfg.data.ns.entries.foldl (fun s e =>
    if e.2.bed = b then s.delta b (.epoch e.1 e.2.epoch (s.epochsOf e.1).1 (s.epochsOf e.1).2) else s) s
  let winBed := fun (w : Win) => match s.assoc? w.assoc with | some a => a.bed | none => none
  let s := s.slu.windows.entries.foldl (fun s e =>
    if winBed e.2 = some b then
      let s := s.delta b (.windowReg e.1 e.2.key e.2.assoc e.2.sizeMib)
      match s.slu.counters.get? e.1 with | some c => s.delta b (.trigCounter e.1 c.1 c.2) | none => s
    else s) s
  s.slu.trigs.foldl (fun s t =>
    match s.qp? t.qp with
    | some q => if s.qpBed q = some b then s.delta b (.trigPost t.entry t.qp t.counter t.threshold t.wr) else s
    | none => s) s

/-- Records staged before the join are mirrored too (assumption 22). -/
def State.mirrorStaged (s : State) (b : Nat) : State :=
  match s.bed? b with
  | none => s
  | some x =>
    x.staged.foldl (fun s r =>
      if r.written && r.folded then s
      else
        let cap := match s.cmd? r.cmd with | some c => c.cap | none => ⟨0, 0, 0⟩
        let hd : MirrorHead := ⟨b, r.member, r.kind, r.sector, r.bytes.length / 4096, (x.band r.band).gen, cap.assoc, cap.qid, cap.cid, r.last⟩
        let q := s.gus.txSeq + 1
        let s := s.modBed b (fun y => { y with staged := y.staged.map (fun p =>
          if p.cmd = r.cmd && p.member = r.member && p.sector = r.sector then { p with mirId := q, mirror := if p.issued then none else some q } else p) })
        let s := s.gusSend b (.recordMirror hd r.bytes) (if r.issued then .nothing else .stagedWrite b)
        match r.foldNo with
        | some n => if r.folded then s.gusSend b (.foldNotice q n) .nothing else s
        | none => s) s

/-- JOIN_REQUEST at the owner: the copy of the bed, with mirroring and tick deltas from its first byte on. -/
def execJoinRequest (b msgId serial : Nat) (kcv : Bytes) (s : State) : Outcome :=
  match s.bed? b with
  | none => .next s
  | some x =>
    let same := match s.store with | some k => decide (k.state = 1 ∧ k.kcv = kcv) | none => false
    if !x.owned || x.fenced || !x.mounted || !same || s.shelf.conflict || s.shelf.st ≠ .awake || serial = s.fuses.serial then .next s
    else
      let s := s.setBed b { x with copying := true, peerJoined := false }
      let s := (s.joinPieces b x).foldl (fun s p => s.gusPiece b x.h p) s
      let s := (s.mirrorStaged b).joinDelta b x
      .next (s.gusAnswer b 3 msgId (be 8 s.gus.tick ++ be 8 x.fold))

/-- Accumulators of a Band, copied whole. -/
def State.putAcc (s : State) (b k fold : Nat) (l : List (Nat × Bytes × Bytes)) : State :=
  let s := s.modBed b (fun x => x.setBand k { x.band k with
    acc := some (l.foldl (fun (t : Tab (Bytes × Bytes)) e => t.put e.1 (e.2.1, e.2.2)) .empty), lastFold := fold, reloadPending := false })
  s.modCopy b (fun c => { c with asked := c.asked.filter (· ≠ k), adopt := k :: c.adopt.filter (· ≠ k) })

/-- JOIN_DATA: one piece of the copy. -/
def execJoinData (b : Nat) (piece : JoinPiece) (s : State) : Outcome :=
  .next (s.onStandby b (fun s _ =>
    match piece with
    | .map ns u es => s.applyEntry b 0 (.mapPut ns u es)
    | .bandTable k l => l.zipIdx.foldl (fun s e => s.modBed b (fun x => x.setBand (k + e.2) { x.band (k + e.2) with gen := e.1.1, st := e.1.2.1, retired := e.1.2.2 })) s
    | .bitmap k l => l.zipIdx.foldl (fun s e => s.setDirty b (k + e.2) e.1) s
    | .indexPage es => es.foldl (fun s e => s.applyEntry b 0 (.indexPut e)) s
    | .accumulators k f l => s.putAcc b k f l))

/-- JOIN_DONE at the standby: the copy is complete, and it stands by for the bed. -/
def execJoinDone (b msgId tick fold : Nat) (s : State) : Outcome :=
  match s.bed? b with
  | none => .next s
  | some x =>
    if x.owned || !x.standby.joining then .next s
    else
      let s := s.setBed b { x with
        joined := true, detached := false, fold := max x.fold fold, standby := { x.standby with joining := false, joinTick := tick } }
      let s := { s with gus := { s.gus with declared := false } }
      .next ((s.gusAnswer b 4 msgId (be 8 tick ++ be 8 fold)).shelfNote s.shelf.st.code (2 ^ b))

/-- JOIN_ACK at the owner: the peer is a joined standby of the bed; what was declared of it before counts no more. -/
def execJoinAck (b : Nat) (s : State) : Outcome :=
  match s.bed? b with
  | none => .next s
  | some x =>
    if !x.owned || !x.copying then .next s
    else
      let s := s.setBed b { x with peerJoined := true, copying := false, detached := false }
      let s := { s with gus := { s.gus with declared := false, ackedBed := s.gus.ackedBed.put b (s.gus.tick - 1) } }
      .next (s.shelfNote s.shelf.st.code (2 ^ b))

/-- ACC_REQUEST at the owner. -/
def execAccRequest (b : Nat) (ask : AccAsk) (s : State) : Outcome :=
  match s.bed? b with
  | none => .next s
  | some x =>
    if !s.copied b then .next s
    else
      let y := x.band ask.band
      .next (s.gusSend b (.accData b ask.msgId x.h ask.band y.lastFold (match y.acc with | some t => t.entries.map (fun e => (e.1, e.2.1, e.2.2)) | none => [])) .nothing)

/-- ACC_DATA at the standby. -/
def execAccData (b band fold : Nat) (sectors : List (Nat × Bytes × Bytes)) (s : State) : Outcome :=
  .next (s.onStandby b (fun s _ => s.putAcc b band fold sectors))

/-- SLOT_REQUEST: the owner's slot requests are raised and dropped here too (R262). -/
def execSlotRequest (raises drops : Nat) (s : State) : Outcome :=
  let s := (bitsOf 24 raises).foldl (fun s k => s.raiseReq k false) s
  .next ((bitsOf 24 drops).foldl State.dropReq s)

end Sys2Proof.Machine
end

