-- ==== Sys2Proof/Machine/PeerCmds.lean ====
section
/-! DEFINITION. Heartbeats, fencing, takeover, reclaim and planned hand-over (R230–R241, R243, R390). -/

namespace Sys2Proof.Machine

/-! ### Heartbeats (R230–R232) -/

/-- HEARTBEAT_SEND: one word on both paths every millisecond, while the heartbeat pair runs. -/
def execHeartbeatSend (s : State) : Outcome :=
  let s := s.at s.gus.hbAt
  let s := { s with gus := { s.gus with hbAt := s.now + msec 1 } }
  .next (if s.hbOn then s.sendWord else s)

/-- The conditions of R232 under which the peer is declared failed; 0 where none holds, else the cause of GUS_TKOVR. -/
def State.declareCause (s : State) : Nat :=
  let near := fun (t : Option Nat) => match t with | some u => decide (s.now ≤ u + msec 3) | none => false
  if s.gus.declared then 0
  else if 10 ≤ s.gus.miss1 && 10 ≤ s.gus.miss2 then 1
  else if (3 ≤ s.gus.miss1 && near s.gus.fault2At) || (3 ≤ s.gus.miss2 && near s.gus.fault1At) then 2
  else 0

/-- Beds of the peer that this controller holds a copy of, or has detached (R241); none while the key check values are known to
differ (R153). -/
def State.takeable (s : State) : List Nat :=
  if s.gus.peerKcv.isSome && !s.cph.peerMatch then [] else
  (s.beds.entries.filter (fun e => !e.2.owned && !e.2.left && (e.2.joined || e.2.detached))).map (·.1)

/-- Declares the peer failed where R232 says so. Its own beds have no standby from then on; in Awake a takeover starts. -/
def State.declare (s : State) : State :=
  let c := s.declareCause
  if c = 0 then s
  else
    let s := s.setFld F.GUS_TKOVR_CAUSE c
    let take := s.shelf.st = .awake && !s.takeable.isEmpty
    let s := { s with gus := { s.gus with
      declared := true, declaredAt := s.now, announced := 0
      takeT0 := if take then some (s.gus.lastValid.getD s.now) else none } }
    let s := s.raise 0xC03 3 (0x22000000 + c) ([BitVec.ofNat 8 s.shelf.st.code, BitVec.ofNat 8 s.shelf.st.code, 0, 0] ++ le 4 (maskOf s.takeable))
    s.proxyLost.unmirror s.owned

/-- A word that passes the checks of R232. -/
def State.wordValid (s : State) (path : Nat) (w : HbWord) : Bool :=
  w.crcOk && w.magicOk && w.position ≠ b2n s.posB && !w.fault && w.peerMiss < 4
    && (if path = 1 then s.gus.seq1 else s.gus.seq2) ≠ some w.seq

/-- The peer's position in its word is this controller's own: at the first such word an event is written (R16). -/
def State.noteConflict (s : State) (w : HbWord) : State :=
  if !w.magicOk || s.shelf.stopped then s
  else if w.position ≠ b2n s.posB then { s with shelf := { s.shelf with conflict := false } }
  else if s.shelf.conflict then s
  else State.bootEvent { s with shelf := { s.shelf with conflict := true } } 8

/-- A valid word: its miss count, L, what it says of detaching and of the standby's units (R229, R232, R243). -/
def State.takeWord (s : State) (path : Nat) (w : HbWord) : State :=
  let old := match s.gus.lastGood with | some g => g.units | none => 0
  let g := s.gus
  let s := { s with gus := { g with
    lastValid := some s.now, lastGood := some w
    got1 := g.got1 || decide (path = 1), got2 := g.got2 || decide (path = 2)
    miss1 := if path = 1 then 0 else g.miss1, miss2 := if path = 2 then 0 else g.miss2
    seq1 := if path = 1 then some w.seq else g.seq1, seq2 := if path = 2 then some w.seq else g.seq2 } }
  let s := if w.tested && w.units ≠ 0 && w.units ≠ old then s.raise 0xC04 2 0x06000000 [] else s
  if !w.detached then s
  else if s.gus.detachAsked ≠ 0 then
    let s := s.detachDone s.gus.detachAsked
    -- without the link both controllers detach, and the bit says both (R229)
    if s.gus.link then s else s.detachStandby w.owned
  else if s.beds.vals.any (fun x => x.owned && x.detached) then s
  else s.detachStandby w.owned

/-- Asks again for the joins that have begun and not ended, once the owner is Awake (R242). -/
def State.askJoins (s : State) : State :=
  if !s.mayJoin then s
  else (s.beds.entries.filter (fun e => !e.2.owned && e.2.standby.joining)).foldl (fun s e =>
    (s.modCopy e.1 (fun c => { c with requested := false })).joinAsk e.1) s

/-- HEARTBEAT_WORD: a word arrives on path 1 or 2. -/
def execHeartbeatWord (path : Nat) (w : HbWord) (s : State) : Outcome :=
  if !s.hbOn || !w.crcOk || (path = 1 && !s.gus.link) || (path ≠ 1 && path ≠ 2) then .next s
  else
    let up := s.shelf.peerState ≠ 0 && w.state = 0
    let s := { s with
      gus := { s.gus with
        lastWord := some w
        fault1At := if w.fault && path = 1 then some s.now else s.gus.fault1At
        fault2At := if w.fault && path = 2 then some s.now else s.gus.fault2At }
      shelf := { s.shelf with peerState := w.state } }
    let s := s.noteConflict w
    let s := if up then s.askJoins else s
    let s := if s.wordValid path w then s.takeWord path w else s
    .next s.declare

/-- HEARTBEAT_MISS_TICK: the end of a millisecond (R232). -/
def execHeartbeatMissTick (s : State) : Outcome :=
  let s := s.at s.gus.missAt
  let s := { s with gus := { s.gus with missAt := s.now + msec 1 } }
  if !s.hbOn then .next s
  else
    let g := s.gus
    let s := if g.got1 then s else s.bump (F.GUS_CNT_COUNT 3) 1
    let s := if g.got2 then s else s.bump (F.GUS_CNT_COUNT 4) 1
    let s := { s with gus := { s.gus with
      got1 := false, got2 := false
      miss1 := if g.got1 then g.miss1 else min 255 (g.miss1 + 1), miss2 := if g.got2 then g.miss2 else min 255 (g.miss2 + 1) } }
    .next s.declare

/-! ### Fencing (R233) -/

/-- The peer could take the bed over: its last valid word showed it as a joined standby, or the bed runs detached. -/
def State.atRisk (s : State) (b : Nat) (x : Bed) : Bool :=
  x.owned && !x.fenced && ((match s.gus.lastGood with | some w => bit w.joined b | none => false) || x.detached)

/-- SELF_FENCE: 8 ms after the last valid word. -/
def execSelfFence (s : State) : Outcome :=
  match s.gus.lastValid with
  | none => .next s
  | some l =>
    if s.gus.declared then .next s
    else
      let s := s.at (l + msec 8)
      let hit := (s.beds.entries.filter (fun e => s.atRisk e.1 e.2)).map (·.1)
      .next (hit.foldl (fun s b => (s.selfFenceBed b).modBed b (fun x => { x with reclaimAt := some (l + msec 30) })) s)

/-! ### Takeover (R234–R241) -/

/-- Numbers the peer's associations take here: their own, or 32,768 more where this controller uses it already. -/
def State.assocHere (s : State) (n : Nat) : Nat := if (s.assoc? n).isSome then n + 32768 else n

def mapped (m : List (Nat × Nat)) (n : Nat) : Nat := match m.find? (fun e => e.1 = n) with | some e => e.2 | none => n

/-- The peer's associations of the bed. -/
def State.takeAssocs (s : State) (b : Nat) (l : List AssocCopy) (m : List (Nat × Nat)) (c : StandbyCopy) : State :=
  (l.filter (fun a => a.bed = b)).foldl (fun s a =>
    let n := mapped m a.number
    let win := c.windows.find (fun _ w => w.assoc = a.number)
    let x : Assoc := { newAssoc (some b) a.hostNqn a.tenant a.kato s.now with
      cc := 1, ready := true, window := win.map (fun e => 1024 + e.1), winSize := match win with | some e => e.2.sizeMib | none => 0 }
    let s := { s with cmd := { s.cmd with assocs := s.cmd.assocs.put n x } }
    a.queues.foldl (fun s q => s.addQueue n q.1 q.2.1) s) s

/-- The peer's namespaces of the bed join the namespace table. -/
def State.takeSpaces (s : State) (b : Nat) (l : List NsCopy) (m : List (Nat × Nat)) : State :=
  let ns := (l.filter (fun n => n.bed = b)).foldl (fun t n =>
    t.put n.nsid ({ kv := n.kv, bed := b, tenant := n.tenant, chunk := n.chunk, modeD := n.modeD, lbas := n.lbas, epoch := n.epoch,
                    attached := n.attached.map (mapped m) } : Namespace)) s.cfg.data.ns
  s.commitOr { s.cfg.data with ns := ns }

/-- Commands whose commit, delete or hold record, or last map record, was mirrored (R240). -/
def standingCaps (c : StandbyCopy) (m : List (Nat × Nat)) : List Cap :=
  ((c.mirrored.filter (fun r => r.head.kind = 2 || (r.head.kind = 3 && r.head.lastMap))).map
    (fun r => (⟨mapped m r.head.assoc, r.head.qid, r.head.cid⟩ : Cap))).eraseDups

/-- A copied command that was finished and had changed the bed: its effect is in the copy. -/
def finishedCaps (c : StandbyCopy) (m : List (Nat × Nat)) : List Cap :=
  (c.cmds.vals.filter (fun r => r.phase = .done && (match r.cmd with | some d => NvmeCmd.modifies d | none => false))).map
    (fun r => { r.cap with assoc := mapped m r.cap.assoc })

/-- The copied commands: each waits to run again (R240). They keep their arrival numbers, and the counter goes on above the
highest (R40). Where one of the numbers is that of a command of this controller's own, all of them take keys above both
counters, in the same order (assumption 62). Answers the keys by the former owner's slots. -/
def State.takeCmds (s : State) (c : StandbyCopy) (m : List (Nat × Nat)) : State × List (Nat × Nat) :=
  let top := c.cmds.keys.foldl max (max s.cmd.arrival c.arrival)
  let clash := c.cmds.keys.any s.cmd.cmds.has
  c.cmds.entries.foldl (fun (acc : State × List (Nat × Nat)) e =>
    let s := acc.1
    let arr := if clash then top + e.1 else e.1
    let r := e.2
    let r : CmdRec := { r with
      number := e.1, cap := { r.cap with assoc := mapped m r.cap.assoc }, slot := some s.freeSlot, tick := s.gus.tick, phase := .held
      epoch := (s.cfg.data.ns.get? r.nsid).map (·.epoch), since := s.now
      times := addAt [] 7 (s.now - r.time), work := { r.work with resumed := true } }
    let s := s.samplePick arr r
    ({ s with cmd := { s.cmd with arrival := max s.cmd.arrival arr, cmds := s.cmd.cmds.put arr r } },
     match e.2.slot with | some k => acc.2 ++ [(k, arr)] | none => acc.2)) ({ s with cmd := { s.cmd with arrival := top } }, [])

/-- One queue pair of the peer resumes on a free index: expected PSN, sequence NAK; its own requests wait for the probe (R238). Without a free index its
association ends (R241). -/
def State.takeQp (s : State) (info : PeerInfo) (c : StandbyCopy) (m slots : List (Nat × Nat)) (q : QpCopy) : State :=
  match s.slu.qps.freeKey 4096 with
  | none => s.endAssoc (mapped m q.assoc)
  | some i =>
    let ns := c.notices.filter (fun n => n.qp = q.index)
    let up := fun (a : Nat) (p : Nat) => if psnDist a p < 8388608 then p else a
    let e := (ns.filter (·.kind = 1)).foldl (fun a n => up a (psnAdd n.last 1)) q.expPsn
    let n := (ns.filter (·.kind = 2)).foldl (fun a n => up a (psnAdd n.last 1)) q.reqNext
    let reqs := (ns.filter (·.kind = 2)).map (fun n => { n with slot := mapped slots n.slot })
    let s := s.applyRwl F.SLU_RETRY_TIMEOUT.addr
    let queue := (info.assocs.filter (fun a => a.number = q.assoc)).flatMap (fun a => a.queues.filter (fun k => k.2.2 = q.index))
    let (qid, size) := match queue with | k :: _ => (k.1, k.2.1) | [] => (0, 0)
    let aq := (s.cmd.assocs.get? (mapped m q.assoc)).isSome
    let x : Qp := { Qp.init with
      gen := q.gen, qpn := q.gen * 4096 + q.index, st := 1, mtu := q.mtu, depth := 16, size := size, assoc := mapped m q.assoc, qid := qid
      remoteGid := q.remoteGid, remoteQpn := q.remoteQpn, remoteMac := q.remoteMac, vlan := q.vlan, localMac := (info.addrs.getD q.laddr 0) % 2 ^ 48, paths := q.spray
      retryCnt := s.fld F.SLU_RETRY_RETRY_CNT, rnrCnt := s.fld F.SLU_RETRY_RNR_RETRY, rnrLeft := s.fld F.SLU_RETRY_RNR_RETRY
      timeout := clamp 8 20 (s.fld F.SLU_RETRY_TIMEOUT), ePsn := e, acked := e, msn := q.msn, nextPsn := n
      rtt := q.rtt10ns * 10, rate := q.rateMbps, sampled := true, half := s.halfTarget i }
    let s := { s with slu := { s.slu with qps := s.slu.qps.put i x, gens := s.slu.gens.put i (max q.gen (s.slu.gens.getD i 0)) } }
    let s := (s.modQp i (fun y => { y with probe := some reqs })).putNak i e .sequence
    if aq then s else s.qpDestroy i

/-- Probes the queue pairs taken over whose host has not answered yet: a zero-length RDMA WRITE (R236 step 5, R238). -/
def State.probeAll (s : State) : State :=
  s.slu.qps.entries.foldl (fun s e =>
    if e.2.probe.isSome && e.2.sent.isEmpty then
      (s.modQp e.1 (fun q => { q with sq := txReq 3 0 0 0 0 [] none :: q.sq, probing := true })).txPump e.1
    else s) s

/-- Windows, counters and triggered requests of the bed, on indices from 1,024 on. -/
def State.takeWindows (s : State) (c : StandbyCopy) (m : List (Nat × Nat)) : State :=
  let w := c.windows.entries.foldl (fun t e => t.put (1024 + e.1) { e.2 with assoc := mapped m e.2.assoc }) s.slu.windows
  let n := c.counters.entries.foldl (fun t e => t.put (1024 + e.1) e.2) s.slu.counters
  let qpAt := fun (i : Nat) => match c.qps.get? i with
    | some q => (match s.slu.qps.find (fun _ x => x.qpn = q.gen * 4096 + q.index && x.st = 1) with | some e => some e.1 | none => none)
    | none => none
  let s := { s with slu := { s.slu with windows := w, counters := n } }
  c.trigs.foldl (fun s t =>
    match qpAt t.qp, (List.range (s.slu.trigs.length + 1)).find? (fun e => s.slu.trigs.all (fun u => u.entry ≠ e)) with
    | some i, some e => { s with slu := { s.slu with trigs := s.slu.trigs ++ [⟨e, i, 1024 + t.counter, t.threshold, t.wr⟩] } }
    | _, _ => s) s

/-- Mirrored records as staged ones of the new owner: not issued before the preempt (R236 step 6). -/
def stagedOf (x : Bed) (s : State) (as : List (Nat × Nat)) (m : Mirrored) : Staged :=
  let arr := match s.findCap ⟨mapped as m.head.assoc, m.head.qid, m.head.cid⟩ with | some (a, _) => a | none => 0
  { cmd := arr, kind := m.head.kind, member := m.head.member, sector := m.head.start, band := x.bandOf m.head.member m.head.start
    bytes := m.bytes, mirror := none, mirId := 0, issued := true, written := m.done, folded := m.folded, foldNo := none, foldAt := some s.now
    last := m.head.lastMap }

/-- Effects of the mirrored commit, delete, hold and map records that stand, applied in serial order (R240). -/
def State.takeEffects (s : State) (b : Nat) (x : Bed) (caps : List Cap) (m : List (Nat × Nat)) : State :=
  let mine := x.standby.mirrored.filter (fun r => (r.head.kind = 2 || r.head.kind = 3)
    && caps.contains ⟨mapped m r.head.assoc, r.head.qid, r.head.cid⟩)
  let ws := mine.map (fun r =>
    let ns := leNat (slice r.bytes 12 4)
    let o := openRecord s.keyNow (s.epochsOf ns).1 (recordIv r.head.member r.head.start r.head.gen)
      ⟨0, leNat (slice r.bytes 8 4), ns, leNat (slice r.bytes 16 8)⟩ r.bytes
    (⟨leNat (slice r.bytes 16 8), if o.status ≠ 0 then 0xFF else if r.head.kind = 3 then 0x10 else (r.bytes.getD 3 0).toNat,
      leNat (slice r.bytes 8 4), ns, leNat (slice r.bytes 4 4), r.head.member, r.head.start,
      if o.status ≠ 0 then [BitVec.ofNat 8 o.status, BitVec.ofNat 8 o.reason] else o.out⟩ : Walked))
  let s := s.walkJobs b ws
  let ws := sortBy (fun p q => decide (p.serial ≤ q.serial)) (ws.filter (fun w => w.kind ≠ 0xFF))
  let seen := (x.standby.mirrored.filter (fun r => !r.bytes.isEmpty)).map (fun r => (⟨r.head.member, r.head.start, r.head.count, .data r.bytes⟩ : MediaRead))
  let idx := (replayIndex seen s.modeDOf x.index (ws.filter (fun w => w.kind ≠ 0x10))).1
  let mp := (ws.filter (fun w => w.kind = 0x10)).foldl replayMap x.map
  (s.modBed b (fun x => { x with map := mp })).setIndex b idx

/-- Starts one joined bed of the peer from its copied state (R234, R236 step 4, R238, R240). -/
def State.takeJoined (s : State) (b : Nat) (info : PeerInfo) (m : List (Nat × Nat)) (preempt : Nat) : State :=
  match s.bed? b with
  | none => s
  | some x =>
    let c := x.standby
    let caps := (standingCaps c m ++ finishedCaps c m).eraseDups
    let dirty := c.asked ++ x.bands.keys.filter (fun k => (x.band k).reloadPending)
    let s := dirty.foldl (fun s k => s.setDirty b k true) s
    let open_ := c.mirrored.filter (fun r => !r.done)
    let high := fun (i : Nat) => c.mirrored.foldl (fun h r => if r.head.member = i && 2 ≤ i then max h (r.head.start + r.head.count - x.base i) else h) 0
    let sb := (info.supers.filter (fun p => p.1 = b)).map (·.2)
    let s := s.setBed b { x with
      ckptSnap := sb.foldl (fun m v => max m v.fold) x.ckptSnap
      ckptCount := sb.foldl (fun m v => max m v.ckptCount) x.ckptCount
      ckptTime := sb.foldl (fun m v => max m v.ckptTime) x.ckptTime, snapSlot := sb.foldl (fun _ v => v.snapSlot) x.snapSlot
      owned := true, joined := false, mounted := true, peerJoined := false, copying := false, detached := false
      fenced := false, left := false, fold := x.fold + 2 ^ 32, resync := (x.resync ++ dirty).eraseDups, stands := caps
      inFlight := open_.map (fun r => (r.head.member, r.head.start, r.head.count)), preemptAt := some preempt
      members := x.members.mapV (fun i y => { y with
        append := max y.append (high i)
        sbGen := (sb.filter (fun v => v.index = i)).foldl (fun m v => max m v.gen) y.sbGen })
      bands := x.bands.mapV (fun k y => if dirty.contains k then { y with acc := none } else y)
      rebuild := x.rebuild.map (fun r => { r with paused := true }) }
    let lost := (s.bedRec b).lost
    let more := lost ++ c.lost.filter (fun r => !lost.contains r)
    let rec_ : BedRec := { s.bedRec b with
      owner := s.fuses.serial, lost := more.take 4096, full := (s.bedRec b).full || c.lostFull || decide (4096 < more.length) }
    let s := (s.commitOr { s.cfg.data with beds := s.cfg.data.beds.put b rec_ }).ledSync
    let s := (s.takeAssocs b info.assocs m c).takeSpaces b info.spaces m
    let (s, slots) := s.takeCmds c m
    let s := match s.bed? b with
      | some y => s.setBed b { y with staged := (c.mirrored.filter (fun (r : Mirrored) => 1 ≤ r.head.kind && r.head.kind ≤ 3 && !r.bytes.isEmpty)).map (fun (r : Mirrored) => stagedOf y s m r) }
      | none => s
    let s := s.takeEffects b x caps m
    let s := c.qps.vals.foldl (fun s q => s.takeQp info c m slots q) s
    let s := (s.takeWindows c m).judgeBed b
    let s := if dirty.isEmpty && x.resync.isEmpty then s else (s.arrivalOf 4 (some b) 0 false none).1
    s.resumeRebuild b

/-- Addresses, events and counts of a takeover of the given beds (R237, R244). -/
def State.takeAddrs (s : State) (info : PeerInfo) (mask : Nat) : State :=
  let s := { s with gus := { s.gus with peerPart := some info.part } }
  let s := info.addrs.foldl (fun s a => s.addLaddr (a % 2 ^ 48) (a / 2 ^ 48 % 4096) true) s
  (s.bump F.GUS_TKOVR_COUNT 1).shelfNote s.shelf.st.code mask

/-- TAKEOVER_START: at max(D, L + 10 ms), in Awake. Joined beds start from their copy; detached ones are mounted as after an
unclean stop, every Band that is not Empty dirty (R234, R236, R241). -/
def execTakeoverStart (info : PeerInfo) (mounts : List MountAnswer) (s : State) : Outcome :=
  match s.gus.takeT0 with
  | none => .next s
  | some t0 =>
    if !s.gus.declared || s.gus.announced ≠ 0 || s.shelf.st ≠ .awake then .next s
    else
      let s := s.at (max s.gus.declaredAt (t0 + msec 10))
      let bs := s.takeable
      let m := info.assocs.map (fun a => (a.number, s.assocHere a.number))
      let pre := s.gus.declaredAt + msec 12
      let s := bs.foldl (fun s b =>
        match s.bed? b with
        | none => s
        | some x =>
          if x.joined then s.takeJoined b info m pre
          else
            match mounts.find? (fun a => a.bed = b) with
            | none => s
            | some a =>
              let s := (a.bands.filter (fun k => k.2 / 2 ^ 32 % 4 ≠ 0)).foldl (fun s k => s.setDirty b k.1 true) s
              let s := State.mountBed (s.setBed b { x with detached := false, mounted := false }) a
              s.modBed b (fun x => { x with preemptAt := some pre })) s
      let s := { s with gus := { s.gus with announced := 1 } }
      .next (s.takeAddrs info (maskOf bs))

/-- Sends a gratuitous ARP or an unsolicited neighbour advertisement for every taken address from each ring port and direct port
(R237). -/
def State.announceTaken (s : State) : State :=
  (List.range 16).foldl (fun s i =>
    if s.flag (F.BSN_LADDR_HI_VALID i) && s.flag (F.BSN_LADDR_HI_TAKEN i) then
      (List.range s.nNet).foldl (fun s n =>
        s.sendCtl n 0 (s.ownFrame 64 0xFFFFFFFFFFFF (s.fld (F.BSN_LADDR_HI_VID i)) 0 false .arpNd) (.announce i)) s
    else s) s

/-- ADDRESS_ANNOUNCE: 13, 23 and 33 ms after t0. -/
def execAddressAnnounce (s : State) : Outcome :=
  match s.gus.takeT0 with
  | none => .next s
  | some t0 =>
    let k := s.gus.announced
    if k = 0 || 4 ≤ k then .next s
    else
      let s := s.at (t0 + msec (3 + 10 * k))
      let s := State.announceTaken { s with gus := { s.gus with announced := k + 1 } }
      .next (if k = 1 then s.probeAll else s)

/-- Removes the peer's registration from every member of the bed (R235). -/
def State.preemptBed (s : State) (b : Nat) : State :=
  match s.bed? b with
  | none => s
  | some x =>
    let peer := match s.rackPeer with | some e => e.serial | none => 0
    ((List.range x.n).filter (fun m => upSt (x.memberSt m))).foldl (fun s m => s.driveCmd b m .preempt 0 0 (le 8 peer) .reserve) s

/-- Drive commands of a bed that waited may go now. -/
def State.issueWaiting (s : State) (b : Nat) : State :=
  (s.drv.cmds.filterT (fun _ c => c.bed = b && c.st = 1)).keys.foldl State.issueDrive s

/-- Rewrites a metadata range that was in flight, from this controller's own state (R236 step 6). -/
def State.rewriteMeta (s : State) (b : Nat) (x : Bed) (h : MirrorHead) : State :=
  if h.kind = 5 then s.announcedWrite b h.member h.start (indexPageBytes x (h.start - 262144)) (.metaWrite 5)
  else if h.kind = 6 then
    let pages := x.map.entries.flatMap (fun t => (t.2.keys.map (fun u => (t.1, u / 504))).eraseDups)
    (pages.filter (fun p => 262144 * (1 + x.eIdx) + Config.mapPage p.1 p.2 = h.start)).foldl
      (fun s p => s.announcedWrite b h.member h.start (mapPageBytes x p.1 p.2) (.metaWrite 6)) s
  else if h.kind = 7 then s.announcedWrite b h.member h.start (tablePage x (h.start - 2048)) (.metaWrite 7)
  else if h.kind = 8 then s.announcedWrite b h.member h.start (s.bitmapBytes b) (.metaWrite 8)
  else if h.kind = 9 then s.announcedWrite b h.member h.start (superBytes x b h.member (s.bedRec b).owner false) (.metaWrite 9)
  else if h.kind = 0xA then s.announcedWrite b h.member h.start (descBytes x) (.metaWrite 0xA)
  else s

/-- In-flight ranges are rewritten: records from their copies, metadata from own state; checkpoints whose P or Q write was in
flight run again (R236 step 6). -/
def State.rewriteInFlight (s : State) (b : Nat) : State :=
  match s.bed? b with
  | none => s
  | some x =>
    let open_ := x.standby.mirrored.filter (fun r => !r.done)
    let ks := ((open_.filter (fun r => r.head.kind = 4)).map (fun r => x.bandOf r.head.member r.head.start)).eraseDups
    let s := s.setBed b { x with
      inFlight := [], preemptAt := none, standby := StandbyCopy.init
      staged := x.staged.map (fun r => if r.issued && !r.written then { r with issued := false } else r) }
    let s := (s.issueStaged b).issueWaiting b
    let s := open_.foldl (fun s r => s.rewriteMeta b x r.head) s
    ks.foldl (fun s k => s.startCkpt b [k] 2 true) s

/-- TAKEOVER_PREEMPT: 12 ms after the declaration. -/
def execTakeoverPreempt (b : Nat) (s : State) : Outcome :=
  match s.bed? b with
  | none => .next s
  | some x =>
    match x.preemptAt with
    | none => .next s
    | some t => .next (((s.at t).preemptBed b).rewriteInFlight b)

/-! ### Reclaim (R239) -/

/-- The bed runs again from this controller's own state. -/
def State.resumeBed (s : State) (b : Nat) : State :=
  let s := s.modBed b (fun x => { x with fenced := false, reclaimAt := none })
  let s := s.unmirror [b]
  let s := (s.issueWaiting b).issueStaged b
  let s := s.slu.qps.keys.foldl State.txPump s
  (s.advanceAll b).ledSync

/-- The member whose reservation is reported: P, Q, else the lowest-numbered present data member. -/
def Bed.reportMember (x : Bed) : Option Nat := (List.range x.n).find? (fun m => upSt (x.memberSt m))

/-- RECLAIM_CHECK: 30 ms after the last valid word; `keyThere` is what the Reservation Report shows. -/
def execReclaimCheck (b : Nat) (keyThere : Bool) (s : State) : Outcome :=
  match s.bed? b with
  | none => .next s
  | some x =>
    match x.reclaimAt with
    | none => .next s
    | some t =>
      if !x.fenced then .next s
      else
        let s := s.at t
        let s := match x.reportMember with | some m => s.driveCmd b m .report 0 0 [] .control | none => s
        if keyThere then .next (((s.preemptBed b).putOwnAddrs).resumeBed b)
        else .next (((s.fencedOut b).modBed b (fun x => { x with owned := false, left := true, reclaimAt := none })).ledSync)

/-! ### The standby's own tests (R243) -/

/-- Bits of bytes 8–9 in the order the units are tested: cipher, Rill, Seam, drive ports, Cistern. -/
def testUnits : List Nat := [1, 0, 2, 4, 3]

/-- The core of the standby's cipher or Rill round: an idle one that the device self-test has not taken (R52). -/
def State.roundCore (s : State) (u : Nat) : Option Nat :=
  if u = 1 then ((List.range 8).find? s.cphFree).map (0x900 + ·)
  else if u = 0 then ((List.range 16).find? s.rillFree).map (0x800 + ·)
  else none

/-- Reads superblock copy 0 of each powered member of the beds stood by for, over the controller's own links (R243). -/
def State.testReads (s : State) : State :=
  (s.beds.entries.filter (fun e => !e.2.owned && e.2.joined)).foldl (fun s e =>
    (e.2.members.entries.filter (fun m => !m.2.single && (s.port m.2.slot).link && (s.port m.2.slot).ready)).foldl (fun s m =>
      s.driveCmd e.1 m.1 .read 0 1 [] .control) s) s

/-- STANDBY_SELF_TEST: the next unit's test runs, where the arbiter lets it. A round whose cores are all taken is skipped. -/
def execStandbySelfTest (passed : Bool) (s : State) : Outcome :=
  let stands := s.beds.vals.any (fun x => !x.owned && x.joined)
  if !s.flag F.GUS_CFG_MODE || s.shelf.st ≠ .awake || !stands || s.mnt.acts.any (fun a => a.code = 10 && a.st ≠ 0) then .next s
  else
    let (s, v, _) := if s.mnt.acts.any (fun a => a.code = 10) then (s, 0, 0) else s.arrivalOf 10 none 0 false none
    if v ≠ 0 && v ≠ 3 then .next (s.setActs (s.mnt.acts.filter (fun a => a.code ≠ 10)))
    else
      let u := testUnits.getD (s.gus.testNext % 5) 0
      let s := { s with gus := { s.gus with testNext := (s.gus.testNext + 1) % 5 } }
      let core := s.roundCore u
      if u < 2 && core.isNone then .next (s.actEnd 10 none 0)
      else
        let s := match core with | some c => s.katRound c passed | none => s
        let s := if u = 4 then s.testReads else s
        .next (State.actEnd { s with gus := { s.gus with unitsBad := setBit s.gus.unitsBad u (!passed) } } 10 none 0)

/-! ### Planned hand-over (R390) -/

/-- HANDOVER at the receiver: it preempts the owner's key, takes the addresses, resumes the queue pairs and answers. -/
def execHandover (b msgId tick : Nat) (info : PeerInfo) (s : State) : Outcome :=
  match s.bed? b with
  | none => .next s
  | some x =>
    if x.owned || !x.joined || x.standby.tick ≠ tick || s.shelf.st ≠ .awake then .next s
    else
      let m := info.assocs.map (fun a => (a.number, s.assocHere a.number))
      let s := s.takeJoined b info m s.now
      let s := (s.preemptBed b).rewriteInFlight b
      let s := { s with gus := { s.gus with peerPart := some info.part } }
      let s := info.addrs.foldl (fun s a => s.addLaddr (a % 2 ^ 48) (a / 2 ^ 48 % 4096) true) s
      let s := s.announceTaken.probeAll.shelfNote s.shelf.st.code (2 ^ b)
      .next (s.gusAnswer b 0xB msgId (be 8 tick))

/-- HANDOVER_ACK at the former owner: the bed is the receiver's, and this controller joins it as standby (R242). -/
def execHandoverAck (b : Nat) (s : State) : Outcome :=
  match s.bed? b with
  | none => .next s
  | some x =>
    if !x.owned || !x.fenced then .next s
    else
      let ends := (s.cmd.assocs.entries.filter (fun e => e.2.bed = some b)).map (·.1)
      let s := ends.foldl State.endAssoc (s.fencedOut b)
      let s := (s.modBed b (fun x => { x with owned := false, left := true })).ledSync
      let s := s.shelfNote s.shelf.st.code (2 ^ b)
      .next (if s.mayJoin then s.startJoin (x.geom b) else s)

end Sys2Proof.Machine
end

