-- ==== Sys2Proof/Machine/ShelfUnit.lean ====
section
/-! DEFINITION. State changes of the controller (R24–R26, R48, R49, R109, R175, R236, R241, R263): what begins, what each step
waits for, and what entering a state does. -/

namespace Sys2Proof.Machine

/-! ### Members a wake needs (R86, R249) -/

/-- Members that a parked command needs, as index and map show them. -/
def State.parkedMembers (s : State) (b : Nat) (x : Bed) : List Nat :=
  (s.cmd.cmds.vals.filter (fun r => r.phase = .parked && s.bedOf r.cap = some b)).flatMap (fun r =>
    match r.cmd with
    | some (.read n l k _) => (List.range (cdiv (l % 16 + k) 16)).filterMap (fun i => ((x.map.getD n .empty).get? (l / 16 + i)).map (·.member))
    | some (.verify n l k) => (List.range (cdiv (l % 16 + k) 16)).filterMap (fun i => ((x.map.getD n .empty).get? (l / 16 + i)).map (·.member))
    | some (.retrieve n k _ _) => match idxFind x.index n (kvBytes k) with | some e => [e.member] | none => []
    | _ => [])

/-- Members of a bed needed on wake: its fill set, P and Q, and what parked commands need. -/
def State.wakeMembers (s : State) (b : Nat) (x : Bed) : List Nat :=
  ((([0, 1] ++ x.fill ++ s.parkedMembers b x).eraseDups).filter (fun m => upSt (x.memberSt m)))

/-- Their slots, over every owned bed. -/
def State.wakeSlots (s : State) : List Nat :=
  (s.beds.entries.flatMap (fun e => if e.2.owned then (s.wakeMembers e.1 e.2).map e.2.slotOf else [])).eraseDups

/-! ### Begin (R24, R25) -/

/-- A state change begins. On the way to Awake the present levels are noted and the needed slots are requested (R86, R263). -/
def State.beginMove (s : State) (m : Move) : State :=
  let s := { s with shelf := { s.shelf with move := some m } }
  if m.target = .awake then
    let s := { s with spc := { s.spc with chans := s.spc.chans.mapV (fun _ c => { c with seated := c.present }) } }
    let s := s.wakeSlots.foldl (fun s k => s.raiseReq k false) s
    s.syncDomains
  else if s.shelf.st = .awake then
    if m.target = .dark then s.slu.windows.keys.foldl (fun s w => s.winRevoke w) s else s
  else s.syncDomains

/-! ### The way down (R25) -/

/-- Step 2: a command accepted and not parked is still open. -/
def State.openCmds (s : State) : Bool := s.cmd.cmds.vals.any (fun r => !r.isAdmin && r.phase ≠ .parked && r.phase ≠ .waiting)

/-- A bed still holds records that are not written and folded, Open Bands or running checkpoints. -/
def Bed.unsettled (x : Bed) : Bool := x.owned && x.mounted && (!x.staged.isEmpty || !x.ckpts.isEmpty || !x.openBands.isEmpty)

/-- Checkpoints every Open Band of every bed (step 3). -/
def State.ckptAll (s : State) : State :=
  s.beds.entries.foldl (fun s e => if e.2.owned && e.2.mounted && e.2.ckpts.isEmpty then s.startCkpt e.1 e.2.openBands 2 true else s) s

/-- A clean unmount writes the pages changed since the last checkpoint, where there are any, then the superblocks (R65, R75). -/
def State.unmountBed (s : State) (b : Nat) (x : Bed) : State :=
  (if x.pinned.isEmpty && x.mapDirty.isEmpty && x.tblDirty.isEmpty then s
   else (s.putPages b x.fold).modBed b (fun x =>
     { x.checkpointed x.fold s.dev with cached := x.pinned ++ x.cached, pinned := [], mapDirty := [], tblDirty := [] })).superAll b true

def State.unmountAll (s : State) : State :=
  s.beds.entries.foldl (fun s e => if e.2.owned && e.2.mounted && e.2.st ≠ 3 then s.unmountBed e.1 e.2 else s) s

/-- A rebuild still runs a Band (R109). -/
def State.rebuildRuns (s : State) : Bool :=
  s.beds.vals.any (fun x => x.owned && (match x.rebuild with | some r => !r.paused && (0 < r.slice || r.flushing) | none => false))

/-- Every rebuild that stands at a Band boundary pauses (R109). -/
def State.pauseRebuilds (s : State) : State :=
  s.beds.keys.foldl (fun s b =>
    match s.bed? b with
    | some x =>
      (match x.rebuild with
       | some r => if x.owned && !r.paused then (s.setBed b { x with rebuild := some { r with paused := true } }).actEndAny 3 (some b) else s
       | none => s)
    | none => s) s

/-- The slot paths of this controller go off (step 4). -/
def State.pathsOff (s : State) : State :=
  let s := (List.range 24).foldl (fun s k => if (s.chan k).request then s.dropReq k else s) s
  { s with drv := { s.drv with ports := s.drv.ports.mapV (fun _ p => { p with ready := false, readyAt := none, unreachAt := none }) } }

/-- One pass over the steps of R25 from the step reached, as far as each one's condition holds. -/
def State.stepDown (s : State) (m : Move) : State × Nat :=
  if s.openCmds then (s, 1)
  else
    let s := if m.step < 2 then s.ckptAll else s
    if m.step < 3 && s.beds.vals.any Bed.unsettled then (s.ckptAll, 2)
    else if s.rebuildRuns then (s, 2)
    else
      let s := if m.step < 3 then s.pauseRebuilds.unmountAll else s
      if s.drv.cmds.vals.any (fun c => !DrivePurpose.forPeer c.purpose) then (s, 3) else (s.pathsOff, 4)

/-! ### The way up (R24) -/

/-- Every domain of the target is on, and no needed ramp still runs. A slot whose drive is absent, or whose path is latched or
disabled, is not waited for. -/
def State.upReady (s : State) : Bool :=
  s.pwr.rising.isEmpty && s.pwr.waitOn = 0
    && (List.range 24).all (fun k => let c := s.chan k; !(c.request && c.present && (c.st = .waiting || c.st = .ramping)))

/-- This controller owns the bed in Awake: it already does, an order gave it, or its record or the default split says so and
the peer's word does not show the peer as owner; alone it owns every bed (R17, R26, R241). -/
def State.ownsBed (s : State) (b : Nat) : Bool :=
  let x := (s.bed? b).getD Bed.init
  let mine := match s.cfg.data.beds.get? b with
    | some r => decide (r.owner = s.fuses.serial)
    | none => if s.posB then decide (2 ≤ b) else decide (b < 2)
  if s.shelf.conflict || s.shelf.stopped then x.owned
  else (x.owned && !x.left) || x.takePending
    || (match s.gus.lastGood with
        | some w => mine && !x.left && !bit w.owned b
        | none => true)

/-- Registers this controller's key on every present member of the bed and acquires the reservation (R235). -/
def State.reserveBed (s : State) (b : Nat) : State :=
  match s.bed? b with
  | none => s
  | some x =>
    ((List.range x.n).filter (fun m => upSt (x.memberSt m))).foldl (fun s m =>
      (s.driveCmd b m .register 0 0 (le 8 s.fuses.serial) .reserve).driveCmd b m .acquire 0 0 [] .reserve) s

/-- Mounts one own bed from its members' answers (R24, R75, R93). -/
def State.mountOwn (s : State) (b : Nat) (found : List BedGeom) (mounts : List MountAnswer) : State :=
  let s := match s.bed? b, found.find? (fun g => g.bed = b) with
    | none, some g => s.setBed b { geomBed g with standby := StandbyCopy.init }
    | _, _ => s
  match s.bed? b, mounts.find? (fun a => a.bed = b) with
  | some x, some a =>
    let s := s.setBed b { x with owned := true, joined := false, left := false, standby := if x.takePending then StandbyCopy.init else x.standby }
    let s := s.reserveBed b
    let s := (s.mountBed a).superAll b false
    let s := if (s.bedRec b).owner = s.fuses.serial then s
      else s.commitOr { s.cfg.data with beds := s.cfg.data.beds.put b { s.bedRec b with owner := s.fuses.serial } }
    if x.takePending then (s.modBed b (fun y => { y with takePending := false })).preemptBed b else s
  | some x, none => s.setBed b { x with owned := true, joined := false, left := false }
  | none, _ => s

/-- Parked commands enter the scoreboard in arrival order, in the first tick (R47). -/
def State.unpark (s : State) : State :=
  let ks := (s.cmd.cmds.filterT (fun _ r => r.phase = .parked)).keys
  let s := ks.foldl (fun s arr =>
    let s := s.mod arr (fun r => { r with tick := s.gus.tick })
    match s.cmd? arr with
    | some r => (if r.isAdmin then s.setPhase arr .held else s.enterBoard arr).cmdDelta arr
    | none => s) s
  { s with cmd := { s.cmd with wakeAt := none } }

/-- Entering Awake (R24, R47, R109, R236, R241, R242, R277, R347). -/
def State.enterAwake (s : State) (found : List BedGeom) (mounts : List MountAnswer) (info : PeerInfo) : State :=
  let own := (List.range 4).filter s.ownsBed
  let pend := own.filter (fun b => match s.bed? b with | some x => x.takePending | none => false)
  let s := { s with gus := { s.gus with tickEndAt := some (s.now + s.tickNs) } }
  let s := own.foldl (fun s b => s.mountOwn b found mounts) s
  let s := if pend.isEmpty then s
    else State.takeAddrs { s with gus := { s.gus with takeT0 := some s.now, announced := 1 } } info (maskOf pend)
  let s := pend.foldl (fun s b => s.takeSpaces b info.spaces []) s
  let s := s.putOwnAddrs
  let s := if s.mayJoin then (found.filter (fun g => !own.contains g.bed && !(match s.bed? g.bed with | some x => x.joined | none => false))).foldl State.startJoin s else s
  let s := own.foldl (fun s b => s.slotRequest b (maskOf (match s.bed? b with | some x => (s.wakeMembers b x).map x.slotOf | none => [])) 0) s
  let s := s.unpark
  let s := own.foldl State.resumeRebuild s
  (List.range 24).foldl (fun s k =>
    let s := match (s.port k).info with | some d => if (s.port k).ready && (s.memberAt k upSt).isNone then s.consider k d else s | none => s
    if (s.chan k).present && !(s.chan k).request && s.identifies k then s.raiseReq k true else s) s

/-- Leaving the state above: the banks drain, the beds are unmounted (R25, R175). -/
def State.enterBelow (s : State) (old target : ShelfSt) : State :=
  let s := if old = .awake || target = .dark then
      { s with net := { s.net with
        ports := s.net.ports.mapV (fun _ p => { p with queues := p.queues.mapV (fun _ q => { q with frames := q.frames.map (fun f => { f with old := !f.thru && (target = .dark || 2 ≤ f.bank) }) }) })
        drainAt := some (s.now + msec 1) } }
    else s
  let s := { s with
    gus := { s.gus with tickEndAt := none, ends := [] }
    beds := s.beds.mapV (fun _ x => { x with mounted := false, rebuild := x.rebuild.map (fun r => { r with paused := true }) }) }
  if target ≠ .dark then s
  else
    let s := s.pmuReset.endTest 8
    let parked := (s.cmd.cmds.filterT (fun _ r => r.phase = .parked || r.phase = .waiting)).keys
    let s := parked.foldl (fun s arr => s.finish arr Status.shelfDark 0 0) s
    { s with
      cmd := { s.cmd with wakeAt := none, bucket := 1000, bucketAt := s.dev }
      rack := { s.rack with darkWakeAt := none }
      beds := s.beds.mapV (fun _ x => { x with joined := false, peerJoined := false, copying := false, standby := if x.owned then x.standby else StandbyCopy.init }) }

/-- The state change ends: the new state, its note, and a wake request where a rebuild waits (R24, R109, R258, R350). -/
def State.endMove (s : State) (m : Move) (found : List BedGeom) (mounts : List MountAnswer) (info : PeerInfo) : State :=
  let old := s.shelf.st
  let s := { s with shelf := { s.shelf with st := m.target, move := none } }
  let s := s.shelfNote old.code 0
  let s := if m.target = .awake then s.enterAwake found mounts info else s.enterBelow old m.target
  let waits := s.beds.vals.any (fun x => x.owned && (x.rebuild.isSome || !x.queued.isEmpty))
  let s := if m.target ≠ .awake && waits then s.sendWake 4 else s
  s.syncDomains

end Sys2Proof.Machine
end

