-- ==== Sys2Proof/Machine/RackUnit.lean ====
section
/-! DEFINITION. The rack as a unit: acceptance of messages (R248), the STATUS body (R249), lease epoch and view (R250), orders
at the receiver (R254–R256) and the manager's power plan (R257, R258). -/

namespace Sys2Proof.Machine

/-! ### The rack table (R245, R246) -/

def State.rackIdx (s : State) (serial : Nat) : Option Nat := s.cfg.data.rack.findIdx? (fun e => e.serial = serial)
def State.myIdx (s : State) : Option Nat := s.rackIdx s.fuses.serial
def State.rackAt (s : State) (i : Nat) : Option RackEntry := s.cfg.data.rack[i]?
def State.rackC (s : State) : Nat := s.cfg.data.rack.length

/-- Eligible by strap, record and RACK_CFG.MGR_EN (R245). -/
def State.mayClaim (s : State) : Bool :=
  s.eligible && s.flag F.RACK_CFG_MGR_EN && s.clk.locked && s.shelf.st ≠ .held && (match s.rackMe with | some e => e.eligible | none => false)

/-- Position among the eligible entries, in table order. -/
def State.rank (s : State) : Nat :=
  match s.myIdx with
  | some i => ((s.cfg.data.rack.take i).filter (·.eligible)).length
  | none => 0

/-- The number of votes is a majority (R245). -/
def State.majority (s : State) (n : Nat) : Bool := s.rackC < 2 * n

/-- Where a message to a controller goes: its table index, 0xFFFF where it is not listed. -/
def State.rackTo (s : State) (serial : Nat) : Nat := (s.rackIdx serial).getD 0xFFFF

/-! ### The lease (R250) -/

/-- Expiry of the view; without a view the controller's own start time. -/
def State.viewExpiry (s : State) : Nat := match s.rack.view with | some v => v.2 | none => s.devOf s.rack.startAt

def State.viewCurrent (s : State) : Bool := decide (s.dev < s.viewExpiry)

/-- The highest accepted epoch is written through to MRAM (R250, R349). -/
def State.takeEpoch (s : State) (e : Nat) : State :=
  let s := s.twoCopies 0x1800040 64 (le 8 e) 8
  { s with rack := { s.rack with epoch := e } }

/-- Stops claiming and managing (R252, R253). -/
def State.rackStop (s : State) : State :=
  { s with rack := { s.rack with
      role := 0, claimAt := none, countAt := none, renewAt := none, confirmAt := none, orders := .empty, wakes := [], given := [] } }

/-! ### Acceptance of a message (R248) -/

/-- A message that passes the checks of R248; any other is discarded and counted. A valid message of a higher epoch ends a
claim and the manager's role (R252). -/
def State.rackIn (s : State) (h : RackHead) (isStatus : Bool) : State × Bool :=
  if s.rst.episode.isSome then (s, false)
  else
    let known := (s.rackIdx h.sender).isSome || isStatus
    let fresh := decide (h.sendTime ≤ s.dev + sec 1) && decide (s.dev ≤ h.sendTime + sec 1)
      && (match s.rack.lastSend.get? h.sender with | some t => decide (t < h.sendTime) | none => true)
    if !h.auth || s.rst.phase < 6 || s.cfg.data.rackKey.isNone || !known || !fresh then (s.bump (F.RACK_CNT_COUNT 0) 1, false)
    else
      let s := { s with rack := { s.rack with lastSend := s.rack.lastSend.put h.sender h.sendTime } }
      (if s.rack.epoch < h.epoch then s.rackStop else s, true)

/-! ### The STATUS body (R249) -/

def State.statusBody (s : State) : StatusBody :=
  let rb := s.beds.vals.any (fun x => x.owned && x.rebuild.isSome)
  { target := (match s.shelf.move with | some m => m.target.code | none => s.shelf.st.code), state := s.shelf.st.code
    peerState := s.shelf.peerState, peerFailed := s.gus.declared, rebuild := rb
    wakeWanted := decide (0 < s.parkedCount) || (s.shelf.st ≠ .awake && rb), gussetUp := s.gus.link, owned := maskOf s.owned
    drivesOn := ((List.range 24).filter s.slotPowered).length, parked := min 0xFFFF s.parkedCount, oldestPark := s.oldestPark
    ctlPower := s.draw % 65536, slotPower := min 0xFFFF (sumN (s.spc.chans.vals.map (fun c => c.vout * c.iout / 1000000)))
    drivesNeeded := s.wakeSlots.length, idleSeconds := min 0xFFFF ((s.now - s.cmd.lastIo) / sec 1), planGen := s.rack.appliedGen
    orderId := (match s.rack.running with | some o => o.id | none => 0) }

/-- Its 24 bytes, big-endian. -/
def statusBytes (b : StatusBody) : Bytes :=
  [BitVec.ofNat 8 (16 * b.target + b.state), BitVec.ofNat 8 b.peerState,
   BitVec.ofNat 8 (b2n b.peerFailed + 2 * b2n b.rebuild + 4 * b2n b.wakeWanted + 8 * b2n b.gussetUp + 16 * b.owned),
   BitVec.ofNat 8 b.drivesOn] ++ be 2 b.parked ++ be 2 b.oldestPark ++ be 2 b.ctlPower ++ be 2 b.slotPower
    ++ [BitVec.ofNat 8 b.drivesNeeded, 0] ++ be 2 b.idleSeconds ++ be 4 b.planGen ++ be 4 b.orderId

/-- Sends a STATUS to a controller. -/
def State.sendStatus (s : State) (dest : Nat) : State := s.drawn.rackSend (s.rackTo dest) 5 (statusBytes s.statusBody)

/-! ### Orders at the receiver (R254–R256) -/

/-- The manager takes a DONE: the order is no longer outstanding, and the reported state counts from now on (R255, R257). -/
def State.doneIn (s : State) (i id state : Nat) : State :=
  match s.rack.orders.get? i with
  | some o =>
    if o.id ≠ id then s
    else { s with rack := { s.rack with
      orders := s.rack.orders.del i, status := s.rack.status.modify i (fun b => ({ b.1 with state := state, target := state }, b.2)) } }
  | none => s

/-- Answers an order with DONE. The manager's own orders are answered internally. -/
def State.sendDone (s : State) (dest id result : Nat) : State :=
  let s := if s.fld F.RACK_ORDER_ORDER_ID = id % 2 ^ 24 then s.setFld F.RACK_ORDER_RESULT result else s
  if dest = s.fuses.serial then (match s.myIdx with | some i => s.doneIn i id s.shelf.st.code | none => s)
  else s.rackSend (s.rackTo dest) 7 (be 4 id ++ [BitVec.ofNat 8 result, BitVec.ofNat 8 s.shelf.st.code, 0, 0])

/-- An order has ended: DONE, and its result is kept for its repeats (R255). -/
def State.endOrder (s : State) (o : OrderRec) (result : Nat) : State :=
  let s := { s with rack := { s.rack with done := (o.sender, o.id, result) :: s.rack.done } }
  let s := if result = 0 then s.bump (F.RACK_CNT_COUNT 5) 1 else s
  s.sendDone o.sender o.id result

/-- RACK_ORDER shows the latest order received (R260). -/
def State.noteOrder (s : State) (id target : Nat) : State :=
  ((s.setFld F.RACK_ORDER_TARGET target).setFld F.RACK_ORDER_RESULT 0xF).setFld F.RACK_ORDER_ORDER_ID id

/-- Refuses an order (R254). -/
def State.refuseOrder (s : State) (dest id target : Nat) : State :=
  ((s.noteOrder id target).bump (F.RACK_CNT_COUNT 1) 1).sendDone dest id 3

/-- Flag 0: cause 3, and the peer's beds are owned from now on; their takeover runs at the next move to Awake (R241, R256). -/
def State.takePeerBeds (s : State) : State :=
  let s := s.setFld F.GUS_TKOVR_CAUSE 3
  let mine := s.owned
  let bs := ((s.beds.keys ++ s.cfg.data.beds.keys).eraseDups).filter (fun b => b < 4 && !mine.contains b)
  bs.foldl (fun s b =>
    let x := (s.bed? b).getD Bed.init
    let s := s.setBed b { x with owned := true, joined := false, left := false, takePending := true, mounted := false }
    s.commitOr { s.cfg.data with beds := s.cfg.data.beds.put b { s.bedRec b with owner := s.fuses.serial } }) s

def stOf : Nat → ShelfSt
  | 0 => .awake
  | 1 => .dormant
  | 2 => .dark
  | _ => .held

/-- Starts an order. -/
def State.beginOrder (s : State) (o : OrderRec) : State :=
  let s := { s with rack := { s.rack with running := some o, appliedGen := o.planGen } }
  let s := if o.flag0 then s.takePeerBeds else s
  if stOf o.target = s.shelf.st then State.endOrder { s with rack := { s.rack with running := none } } o 0
  else s.beginMove { target := stOf o.target, orderId := some o.id, orderedBy := o.sender, since := s.now, step := 0 }

/-- This controller is in the rack table; one that is not receives no wake orders and stays in Dormant (R19). -/
def State.inTable (s : State) : Bool := s.cfg.data.rack.any (fun e => e.serial = s.fuses.serial)

/-- An order that met the four conditions of R254. One that would move a controller which is not in its rack table out of Dormant
is refused (R19; assumption 64). -/
def State.orderIn (s : State) (o : OrderRec) : State :=
  if 3 ≤ o.target || s.rst.phase < 10 || (!s.inTable && o.target ≠ 1) || (s.shelf.stopped && (o.target < 2 || o.flag0)) then s.refuseOrder o.sender o.id o.target
  else
    let same := fun (q : Option OrderRec) => match q with | some q => q.sender = o.sender && q.id = o.id | none => false
    if same s.rack.running || same s.rack.queued then (if o.sender = s.fuses.serial then s else s.sendStatus o.sender)
    else match s.rack.done.find? (fun d => d.1 = o.sender && d.2.1 = o.id) with
      | some d => s.sendDone o.sender o.id d.2.2
      | none =>
        let s := s.noteOrder o.id o.target
        match s.rack.running with
        | some _ =>
          let s := match s.rack.queued with | some q => s.endOrder q 1 | none => s
          { s with rack := { s.rack with queued := some o } }
        | none => s.beginOrder o

/-- The running order is carried out; the queued one starts (R255). -/
def State.orderDone (s : State) : State :=
  match s.rack.running with
  | none => s
  | some o =>
    let s := State.endOrder { s with rack := { s.rack with running := none } } o 0
    match s.rack.queued with
    | some q => State.beginOrder { s with rack := { s.rack with queued := none } } q
    | none => s

/-! ### The power plan (R257) -/

/-- Allowance of a state in W. -/
def State.allowance (s : State) (st : Nat) : Nat :=
  if st = 0 then s.fld F.RACK_ALLOW_AWAKE_W else if st = 1 then s.fld F.RACK_ALLOW_DORMANT_W
  else if st = 2 then s.fld F.RACK_ALLOW_DARK_W else 4

def State.driveW (s : State) : Nat := clamp 5 70 (s.fld F.RACK_ALLOW_DRIVE_W)

def State.statusAt (s : State) (i : Nat) : Option StatusBody := (s.rack.status.get? i).map (·.1)

/-- States a controller counts at: its own, its target and that of an outstanding order; Awake where it sent no STATUS since
the manager took the lease. -/
def State.planStates (s : State) (i : Nat) : List Nat :=
  match s.statusAt i with
  | none => [0]
  | some b => [b.state, b.target] ++ (match s.rack.orders.get? i with | some o => [o.target] | none => [])

/-- What a controller counts at now, and what it will count at once its change or order has ended. -/
def State.costNow (s : State) (i : Nat) : Nat := ((s.planStates i).map s.allowance).foldl max 0
def State.costThen (s : State) (i : Nat) : Nat :=
  match s.statusAt i with
  | none => s.allowance 0
  | some b => s.allowance (match s.rack.orders.get? i with | some o => o.target | none => b.target)

def State.rackAll (s : State) : List Nat := List.range s.rackC

/-- P_ctl, unlisted controllers at the Dormant allowance (R247, R257). -/
def State.pCtl (s : State) : Nat := sumN (s.rackAll.map s.costNow) + s.rack.unlisted.length * s.allowance 1
def State.pCtlThen (s : State) : Nat := sumN (s.rackAll.map s.costThen) + s.rack.unlisted.length * s.allowance 1

def State.shelves (s : State) : List Nat := sortBy (fun a b => decide (a ≤ b)) ((s.cfg.data.rack.map (·.shelf)).eraseDups)

/-- Controllers of a shelf. -/
def State.onShelf (s : State) (sh : Nat) : List Nat := s.rackAll.filter (fun i => match s.rackAt i with | some e => e.shelf = sh | none => false)

/-- Drive figure of a shelf: the higher of its controllers' (R257). -/
def State.shelfDrives (s : State) (sh : Nat) : Nat :=
  ((s.onShelf sh).map (fun i => match s.statusAt i with | some b => max b.drivesOn b.drivesNeeded | none => 0)).foldl max 0

/-- The shelf is Awake, or has a wake outstanding. -/
def State.shelfUp (s : State) (sh : Nat) : Bool := (s.onShelf sh).any (fun i => (s.statusAt i).isSome && (s.planStates i).contains 0)

/-- It will be Awake. -/
def State.shelfUpThen (s : State) (sh : Nat) : Bool :=
  (s.onShelf sh).any (fun i => match s.statusAt i with
    | some b => (match s.rack.orders.get? i with | some o => o.target | none => b.target) = 0
    | none => false)

def State.pDrv (s : State) : Nat := sumN ((s.shelves.filter s.shelfUp).map (fun sh => s.shelfDrives sh * s.driveW))
def State.pDrvThen (s : State) : Nat := sumN ((s.shelves.filter s.shelfUpThen).map (fun sh => s.shelfDrives sh * s.driveW))

def State.budgetCtl (s : State) : Nat := s.fld F.RACK_BUDGET_CTL_W
def State.budgetDrv (s : State) : Nat := s.fld F.RACK_BUDGET_DRV_W

/-! ### Orders of the manager (R253, R255, R258) -/

/-- The manager may order (R253). -/
def State.mayOrder (s : State) : Bool := s.rack.role = 2 && 1 ≤ s.rack.rounds && decide (s.dev + msec 50 < s.rack.confirmed)

def orderBytes (id target : Nat) (flag0 : Bool) (gen : Nat) : Bytes := be 4 id ++ [BitVec.ofNat 8 target, BitVec.ofNat 8 (b2n flag0), 0, 0] ++ be 4 gen

/-- Sends one order to a controller, unless one is outstanding. An order to itself is taken internally (R254). -/
def State.sendOrder (s : State) (i target : Nat) (flag0 : Bool) : State :=
  if (s.rack.orders.get? i).isSome then s
  else
    let id := s.rack.nextOrder
    let gen := s.rack.planGen
    let limit := match s.statusAt i with
      | some b => if target ≠ 0 then none else some (s.now + sec (if b.state = 1 then 20 else if b.state = 3 then 35 else 23))
      | none => none
    let o : SentOrder := { id := id, target := target, flag0 := flag0, sentAt := s.now, limitAt := limit, late := false }
    let s := { s with rack := { s.rack with orders := s.rack.orders.put i o, nextOrder := id + 1 } }
    if s.myIdx = some i then s.orderIn { id := id, target := target, flag0 := flag0, sender := s.fuses.serial, planGen := gen }
    else s.rackSend i 6 (orderBytes id target flag0 gen)

/-- Orders both controllers of a shelf to one state (R26). -/
def State.orderShelf (s : State) (sh target : Nat) : State :=
  let s := { s with rack := { s.rack with planGen := s.rack.planGen + 1 } }
  (s.onShelf sh).foldl (fun s i => match s.statusAt i with
    | some b => if b.state = target && b.target = target then s else s.sendOrder i target false
    | none => s.sendOrder i target false) s

/-- Idle time of a shelf: its controllers' least. -/
def State.shelfIdle (s : State) (sh : Nat) : Nat :=
  ((s.onShelf sh).filterMap s.statusAt).foldl (fun m b => min m b.idleSeconds) 0xFFFF

/-- A shelf in state `st` with nothing outstanding, no parked command, no wake wanted and no rebuild (R258). -/
def State.shelfQuiet (s : State) (sh st : Nat) : Bool :=
  let is := s.onShelf sh
  !is.isEmpty && is.all (fun i => (s.rack.orders.get? i).isNone && (match s.statusAt i with
      | some b => (b.state = st || b.state = 3) && b.state = b.target && b.parked = 0 && !b.wakeWanted && !b.rebuild
      | none => true))
    && is.any (fun i => match s.statusAt i with | some b => b.state = st | none => false)
    && !s.rack.wakes.any (fun w => w.1 = sh)

/-- The Awake shelf that may sleep and has been idle longest. -/
def State.sleeper (s : State) (skip : List Nat) : Option Nat :=
  (s.shelves.filter (fun sh => s.shelfQuiet sh 0 && !skip.contains sh)).foldl (fun m sh =>
    match m with
    | none => some sh
    | some o => if s.shelfIdle o < s.shelfIdle sh then some sh else some o) none

/-- What a sleeping shelf frees. -/
def State.frees (s : State) (sh : Nat) : Nat × Nat :=
  (sumN ((s.onShelf sh).map (fun i => s.costThen i - s.allowance 1)), s.shelfDrives sh * s.driveW)

/-- Shelves to put to sleep until what is planned, `ctl` and `drv`, fits; `none` where they do not suffice. -/
def State.sleepers (s : State) : Nat → Nat → Nat → List Nat → Option (List Nat)
  | 0, ctl, drv, l => if ctl ≤ s.budgetCtl && drv ≤ s.budgetDrv then some l else none
  | n + 1, ctl, drv, l =>
    if ctl ≤ s.budgetCtl && drv ≤ s.budgetDrv then some l
    else match s.sleeper l with
      | none => none
      | some sh => s.sleepers n (ctl - (s.frees sh).1) (drv - (s.frees sh).2) (l ++ [sh])

/-- Step 1: the plan is above a budget (R258). What can sleep is ordered to, also where it does not suffice. -/
def planOver : Nat → State → State
  | 0, s => s
  | n + 1, s =>
    if s.pCtlThen ≤ s.budgetCtl && s.pDrvThen ≤ s.budgetDrv then s
    else match s.sleeper [] with
      | none => s
      | some sh => planOver n (s.orderShelf sh 1)

def State.wakePar (s : State) : Nat := clamp 1 8 (s.fld F.RACK_CFG_WAKE_PAR)

/-- Shelves in a wake transition (step 3). -/
def State.waking (s : State) : Nat :=
  (s.shelves.filter (fun sh => (s.onShelf sh).any (fun i => match s.statusAt i with
    | some b => b.state ≠ 0 && (b.target = 0 || (match s.rack.orders.get? i with | some o => decide (o.target = 0) | none => false))
    | none => match s.rack.orders.get? i with | some o => decide (o.target = 0) | none => false))).length

/-- Step 2: one wake request. -/
def State.serveWake (s : State) (sh : Nat) : State :=
  let is := s.onShelf sh
  if s.shelfUpThen sh then s
  else
    let up := sumN (is.map (fun i => s.allowance 0 - s.costNow i))
    let upThen := sumN (is.map (fun i => s.allowance 0 - s.costThen i))
    let dr := s.shelfDrives sh * s.driveW
    if s.wakePar ≤ s.waking then s
    else if s.pCtl + up ≤ s.budgetCtl && s.pDrv + dr ≤ s.budgetDrv then s.orderShelf sh 0
    else match s.sleepers s.shelves.length (s.pCtlThen + upThen) (s.pDrvThen + dr) [] with
      | some l => l.foldl (fun s q => s.orderShelf q 1) s
      | none => s

/-- Wake requests by age of their oldest parked command, then by shelf (R258); those without one come last. -/
def State.wakeOrder (s : State) : List Nat :=
  (sortBy (fun a b => decide (a.2.1 < b.2.1) || (a.2.1 = b.2.1 && decide (a.1 ≤ b.1))) s.rack.wakes).map (·.1)

/-- Step 4: idle shelves. -/
def State.sleepIdle (s : State) : State :=
  let a := s.fld F.RACK_CFG_AWAKE_IDLE_M
  let d := s.fld F.RACK_CFG_DORMANT_IDLE_M
  s.shelves.foldl (fun s sh =>
    if 0 < a && s.shelfQuiet sh 0 && decide (60 * a ≤ s.shelfIdle sh) then s.orderShelf sh 1
    else if 0 < d && s.shelfQuiet sh 1 && decide (60 * d ≤ s.shelfIdle sh) then s.orderShelf sh 2
    else s) s

/-- Orders of R256: a controller reports its peer failed, and the peer was silent for 3 rounds. -/
def State.orderTakeovers (s : State) : State :=
  s.rackAll.foldl (fun s i =>
    match s.statusAt i, s.rackAt i with
    | some b, some e =>
      let silent := (s.onShelf e.shelf).any (fun j => j ≠ i && 3 ≤ s.rack.missed.getD j 0)
      if b.peerFailed && silent && !s.rack.given.contains i && (s.rack.orders.get? i).isNone then
        State.sendOrder { s with rack := { s.rack with given := i :: s.rack.given } } i b.state true
      else s
    | _, _ => s) s

/-- Shelves planned in a state, for RACK_PLAN. -/
def State.shelvesIn (s : State) (st : Nat) : Nat :=
  (s.shelves.filter (fun sh => ((s.onShelf sh).map (fun i => (s.planStates i).foldl min 3)).foldl min 3 = st)).length

/-- The manager's own report. -/
def State.noteSelf (s : State) : State :=
  match s.myIdx with
  | some i => { s with rack := { s.rack with status := s.rack.status.put i (s.statusBody, s.now) } }
  | none => s

/-- Evaluates the plan (R258, R260). -/
def State.evalPlan (s : State) : State :=
  if s.rack.role ≠ 2 then s
  else
    let s := [F.RACK_CFG_AWAKE_IDLE_M, F.RACK_CFG_DORMANT_IDLE_M, F.RACK_CFG_WAKE_PAR, F.RACK_BUDGET_DRV_W, F.RACK_BUDGET_CTL_W,
      F.RACK_ALLOW_DRIVE_W, F.RACK_ALLOW_AWAKE_W, F.RACK_ALLOW_DORMANT_W, F.RACK_ALLOW_DARK_W].foldl State.applyFld s
    let s := s.noteSelf
    let s := { s with rack := { s.rack with wakes := s.rack.wakes.filter (fun w => !s.shelfUpThen w.1) } }
    let s :=
      if !s.mayOrder then s
      else
        let s := planOver s.shelves.length s
        let s := s.wakeOrder.foldl State.serveWake s
        s.sleepIdle.orderTakeovers
    let s := s.setFld F.RACK_PLAN_CTL_W (min 0xFFFF s.pCtl)
    ((s.setFld F.RACK_PLAN_AWAKE (s.shelvesIn 0)).setFld F.RACK_PLAN_DORMANT (s.shelvesIn 1)).setFld F.RACK_PLAN_DARK (s.shelvesIn 2)

end Sys2Proof.Machine
end

