-- ==== Sys2Proof/Machine/RackCmds.lean ====
section
/-! DEFINITION. Rack messages and the lease's timers (R245–R259), and the end of a state change (R24, R25, R255). -/

namespace Sys2Proof.Machine

/-! ### The lease (R250–R253) -/

/-- Reason to refuse a claim, in the order of R249; 0 accepts it (R251). -/
def State.claimReason (s : State) (x e : Nat) : Nat :=
  if e ≤ s.rack.epoch then 1
  else if s.dev ≤ s.viewExpiry + msec 50 then 2
  else if !(match s.cfg.data.rack.find? (fun r => r.serial = x) with | some r => r.eligible | none => false) then 3
  else if !s.clk.locked then 4
  else 0

/-- CLAIM: a listed voter accepts, its epoch written through first, or refuses. -/
def execClaim (h : RackHead) (expiry : Nat) (s : State) : Outcome :=
  if s.ctlWaits then .next (s.waitFrame (.claim h expiry)) else
  -- the claim's own epoch is a proposal: it is judged before it counts as an epoch heard (R251, R252)
  let r := s.claimReason h.sender h.epoch
  let old := s.rack.epoch
  let (s, ok) := s.rackIn h false
  if !ok || s.rackMe.isNone then .next s
  else if r = 0 then
    let s := s.takeEpoch h.epoch
    let s := { s with rack := { s.rack with view := some (h.sender, expiry) } }
    .next ((s.bump (F.RACK_CNT_COUNT 3) 1).rackSend (s.rackTo h.sender) 2 (be 8 h.sender))
  else .next (s.rackSend (s.rackTo h.sender) 3 (be 8 h.sender ++ [BitVec.ofNat 8 r] ++ zeros 7 ++ be 8 old))

/-- ACCEPT: counted while the claim's 200 ms run. -/
def execAccept (h : RackHead) (candidate : Nat) (s : State) : Outcome :=
  if s.ctlWaits then .next (s.waitFrame (.accept h candidate)) else
  let (s, ok) := s.rackIn h false
  if ok && s.rack.countAt.isSome && h.epoch = s.rack.claimed && candidate = s.fuses.serial then
    .next { s with rack := { s.rack with accepts := (h.sender :: s.rack.accepts).eraseDups } }
  else .next s

/-- REFUSE: no vote. A voter's higher epoch in the header ends the claim. -/
def execRefuse (h : RackHead) (candidate reason highest : Nat) (s : State) : Outcome :=
  if s.ctlWaits then .next (s.waitFrame (.refuse h candidate reason highest)) else
  .next (s.rackIn h false).1

/-- RENEW: from the holder of the highest accepted epoch it extends the view; it is answered with STATUS in any case. -/
def execRenew (h : RackHead) (expiry planGen : Nat) (s : State) : Outcome :=
  if s.ctlWaits then .next (s.waitFrame (.renew h expiry planGen)) else
  let (s, ok) := s.rackIn h false
  if !ok then .next s
  else
    let holds := h.epoch = s.rack.epoch && (match s.rack.view with | some v => decide (v.1 = h.sender) | none => true)
    let s := if holds then { s with rack := { s.rack with view := some (h.sender, expiry) } } else s
    .next (s.sendStatus h.sender)

/-- RELEASE: from the holder it expires the view at once. -/
def execRelease (h : RackHead) (s : State) : Outcome :=
  if s.ctlWaits then .next (s.waitFrame (.release h)) else
  let (s, ok) := s.rackIn h false
  match s.rack.view with
  | some v => .next (if ok && v.1 = h.sender && h.epoch = s.rack.epoch then { s with rack := { s.rack with view := some (v.1, 0) } } else s)
  | none => .next s

/-- The rank delay of R252: 200 ms a rank and up to 50 ms at random (assumption 12). -/
def State.claimDelay (s : State) : Nat := msec (200 * s.rank) + s.draw % (msec 50 + 1)

/-- Claims the lease under the next epoch, its own vote included. -/
def State.claim (s : State) : State :=
  let e := s.rack.epoch + 1
  let s := s.takeEpoch e
  let x := s.dev + sec 2
  let s := { s with rack := { s.rack with
    role := 1, claimed := e, claimAt := none, countAt := some (s.now + msec 200), accepts := [s.fuses.serial], view := some (s.fuses.serial, x) } }
  (s.bump (F.RACK_CNT_COUNT 2) 1).rackSend 0xFFFE 1 (be 8 x)

/-- CLAIM_TIMER: the wait begins where the lease has expired, and ends in a claim. -/
def execClaimTimer (s : State) : Outcome :=
  if !s.mayClaim || s.rack.role = 2 || s.rack.countAt.isSome then .next s
  else match s.rack.claimAt with
    | some t => .next (s.at t).claim
    | none =>
      if s.dev ≤ s.viewExpiry + msec 50 then .next s
      else .next (State.drawn { s with rack := { s.rack with claimAt := some (s.now + s.claimDelay) } })

/-- Sends RENEW to every listed controller (R253). -/
def State.renew (s : State) : State :=
  let x := s.dev + sec 2
  let s := { s with rack := { s.rack with
    view := some (s.fuses.serial, x), renewExpiry := x, renewAt := some (s.now + msec 500), confirmAt := some (s.now + msec 250)
    replies := [s.fuses.serial] } }
  s.rackSend 0xFFFE 4 (be 8 x ++ be 4 s.rack.planGen ++ zeros 4)

/-- CLAIM_COUNT_END: with a majority the lease is held and RENEW goes out at once; else the claim is repeated after 1 s. -/
def execClaimCountEnd (s : State) : Outcome :=
  match s.rack.countAt with
  | none => .next s
  | some t =>
    let s := s.at t
    let s := { s with rack := { s.rack with countAt := none } }
    if s.majority s.rack.accepts.length then
      .next (State.renew { s with rack := { s.rack with
        role := 2, rounds := 0, confirmed := s.viewExpiry, status := .empty, missed := .empty, orders := .empty, wakes := [], given := []
        unlisted := [] } })
    else .next (State.drawn { s with rack := { s.rack with claimAt := some (s.now + sec 1 + s.claimDelay) } })

/-- RENEW_TIMER. -/
def execRenewTimer (s : State) : Outcome :=
  match s.rack.renewAt with
  | some t => if s.rack.role = 2 then .next (s.at t).renew else .next s
  | none => .next s

/-- RENEW_CONFIRM_END: a majority of replies confirms the expiry; the round's silent controllers are counted (R253, R256). -/
def execRenewConfirmEnd (s : State) : Outcome :=
  match s.rack.confirmAt with
  | none => .next s
  | some t =>
    let s := s.at t
    let heard := fun (i : Nat) => match s.rack.status.get? i with | some e => decide (t - msec 250 ≤ e.2) | none => false
    let missed := s.rackAll.foldl (fun m i => if heard i || s.myIdx = some i then m.put i 0 else m.put i (m.getD i 0 + 1)) s.rack.missed
    let s := { s with rack := { s.rack with confirmAt := none, missed := missed } }
    if s.majority s.rack.replies.length then
      .next (State.evalPlan { s with rack := { s.rack with confirmed := s.rack.renewExpiry, rounds := s.rack.rounds + 1 } })
    else .next (s.bump (F.RACK_CNT_COUNT 6) 1)

/-- LEASE_ORDER_LIMIT: 50 ms before the confirmed expiry the manager stops and claims again. -/
def execLeaseOrderLimit (s : State) : Outcome :=
  if s.rack.role ≠ 2 then .next s
  else .next (s.at (s.now + (s.rack.confirmed - msec 50 - s.dev))).rackStop

/-! ### Reports (R247, R253, R258) -/

/-- STATUS at the manager: the plan is evaluated when the round ends (R258). That of an unlisted controller is counted once for the controller. -/
def execStatus (h : RackHead) (b : StatusBody) (s : State) : Outcome :=
  if s.ctlWaits then .next (s.waitFrame (.status h b)) else
  let (s, ok) := s.rackIn h true
  if !ok || s.rack.role ≠ 2 then .next s
  else match s.rackIdx h.sender with
    | none =>
      if s.rack.unlisted.contains h.sender then .next s
      else .next (State.bump { s with rack := { s.rack with unlisted := h.sender :: s.rack.unlisted } } (F.RACK_CNT_COUNT 7) 1)
    | some i =>
      .next { s with rack := { s.rack with
        status := s.rack.status.put i (b, s.now), missed := s.rack.missed.put i 0, given := s.rack.given.filter (fun g => b.peerFailed || g ≠ i)
        replies := if h.epoch = s.rack.epoch then (h.sender :: s.rack.replies).eraseDups else s.rack.replies } }

/-- WAKE at the manager: the shelf's request is noted with the time its oldest command parked (R258). -/
def execWake (h : RackHead) (reason parked oldest : Nat) (s : State) : Outcome :=
  if s.ctlWaits then .next (s.waitFrame (.wake h reason parked oldest)) else
  let (s, ok) := s.rackIn h false
  if !ok || s.rack.role ≠ 2 then .next s
  else match (s.rackIdx h.sender).bind s.rackAt with
    | none => .next s
    | some e =>
      let since := if parked = 0 then 2 ^ 64 else s.now - oldest * msec 100
      let old := (s.rack.wakes.find? (fun w => w.1 = e.shelf)).map (·.2.1)
      let since := match old with | some t => min t since | none => since
      .next (State.evalPlan { s with rack := { s.rack with wakes := s.rack.wakes.filter (fun w => w.1 ≠ e.shelf) ++ [(e.shelf, since, reason)] } })

/-! ### Orders (R254–R256) -/

/-- ORDER: carried out, queued, answered again or refused. -/
def execOrder (h : RackHead) (id target : Nat) (flag0 : Bool) (planGen : Nat) (s : State) : Outcome :=
  if s.ctlWaits then .next (s.waitFrame (.order h id target flag0 planGen)) else
  let (s, ok) := s.rackIn h false
  if !ok then .next s
  else
    let holder := match s.rack.view with | some v => decide (v.1 = h.sender) | none => false
    if holder && h.epoch = s.rack.epoch && s.viewCurrent then
      .next (s.orderIn { id := id, target := target, flag0 := flag0, sender := h.sender, planGen := planGen })
    else .next (s.refuseOrder h.sender id target)

/-- DONE at the manager: the result is recorded and the plan evaluated. -/
def execDone (h : RackHead) (id result state : Nat) (s : State) : Outcome :=
  if s.ctlWaits then .next (s.waitFrame (.done h id result state)) else
  let (s, ok) := s.rackIn h false
  if !ok || s.rack.role ≠ 2 then .next s
  else match s.rackIdx h.sender with
    | some i => .next (s.doneIn i id state).evalPlan
    | none => .next s

/-- ORDER_REPEAT: every second until its DONE. -/
def execOrderRepeat (i : Nat) (s : State) : Outcome :=
  match s.rack.orders.get? i with
  | none => .next s
  | some o =>
    let s := s.at (o.sentAt + sec ((s.now - o.sentAt) / sec 1 + 1))
    if !s.mayOrder || s.myIdx = some i then .next s
    else .next (s.rackSend i 6 (orderBytes o.id o.target o.flag0 s.rack.planGen))

/-- ORDER_TIMEOUT: the bound of R24 and 5 s have passed: an event of source 0xD00 + i (assumption 21). -/
def execOrderTimeout (i : Nat) (s : State) : Outcome :=
  match s.rack.orders.get? i with
  | none => .next s
  | some o =>
    match o.limitAt with
    | none => .next s
    | some t =>
      let s := s.at t
      let s := { s with rack := { s.rack with orders := s.rack.orders.put i { o with limitAt := none, late := true } } }
      .next (s.raise (0xD00 + i) 2 0x60000000 (le 8 s.rack.epoch ++ le 4 o.id))

/-! ### The end of a state change (R24, R25) -/

/-- STATE_CHANGE_COMPLETE: the running change goes on as far as its conditions hold; at its end the state is entered, DONE is
sent and a queued order starts. A core episode pauses it. `found` and `mounts` are what the members of the beds answer. -/
def execStateChangeComplete (found : List BedGeom) (mounts : List MountAnswer) (info : PeerInfo) (s : State) : Outcome :=
  match s.shelf.move with
  | none => .next s
  | some m =>
    if s.rst.episode.isSome then .next s
    else if m.target = .awake then
      if s.upReady then .next (s.endMove m found mounts info).orderDone else .next s
    else if s.shelf.st = .awake then
      let (s, k) := s.stepDown m
      if k = 4 then .next (s.endMove m [] [] info).orderDone
      else .next { s with shelf := { s.shelf with move := some { m with step := k } } }
    else if s.pwr.rising.isEmpty && s.pwr.waitOn = 0 then .next (s.endMove m [] [] info).orderDone
    else .next s

end Sys2Proof.Machine
end

