-- ==== Sys2Proof/Machine/EptCmds.lean ====
section
/-! DEFINITION. Commands and events of the host endpoint (R323–R339). -/

namespace Sys2Proof.Machine

/-! ### Link and resets (R324, R337) -/

/-- PEP_PERST_EDGE: the pin low is a fundamental reset and switches PD61 off; high lets it switch on. -/
def execPepPerstEdge (high : Bool) (s : State) : Outcome :=
  let s := { s with ept := { s.ept with perstLow := !high } }
  .next (if high then s.syncDomains else s.eptDown.syncDomains)

/-- ENDPOINT_LINK_UP: training has ended. For a time of at most 100 ms that the spec leaves open, both functions answer with
Configuration Request Retry Status (assumption 12). -/
def execEndpointLinkUp (speed width : Nat) (s : State) : Outcome :=
  if !s.domOn 61 || s.ept.perstLow || s.ept.link then .next s
  else .next (State.drawn { s with ept := { s.ept with
    link := true, speed := clamp 1 5 speed, width := (if 4 ≤ width then 4 else if 2 ≤ width then 2 else 1), upAt := none
    crsTo := some (s.now + s.draw % (msec 100 + 1)) } })

/-- ENDPOINT_LINK_DOWN: both functions return to reset values, the event counts and raises source 0xE02. -/
def execEndpointLinkDown (s : State) : Outcome :=
  if !s.ept.link then .next s
  else
    let s := (s.eptDown.bump (F.EPT_CNT_COUNT 6) 1).raise 0xE02 2 0x04000000 []
    .next { s with ept := { s.ept with upAt := if s.domOn 61 then some (s.now + msec 20) else none } }

/-- HOT_RESET. -/
def execHotReset (s : State) : Outcome := .next (if s.ept.link then s.eptReset else s)

/-- A function-level reset: function 0 loses its queues and CC.EN, function 1 its windows and MSI-X; a wedge stays (R337). -/
def State.flr (s : State) (fn : Nat) : State :=
  let s := s.bump (F.EPT_CNT_COUNT 7) 1
  if fn = 0 then State.setCfgTab { s.fn0Reset with ept := { s.fn0Reset.ept with pba0 := 0 } } 0 .empty
  else State.setCfgTab { s.winsOff with ept := { s.winsOff.ept with msix1 := .empty, pba1 := 0 } } 1 .empty

/-- FUNCTION_LEVEL_RESET. -/
def execFunctionLevelReset (fn : Nat) (s : State) : Outcome := .next (if s.ept.link && fn < 2 then s.flr fn else s)

/-- A write of function 0's registers that it does not answer: dropped as an Unsupported Request (R337). -/
def State.fn0Dropped (s : State) : State := if s.ept.link then s.aerSet 0 20 else s

/-- CONTROLLER_RESET: as FLR of function 0, with configuration space kept. -/
def execControllerReset (s : State) : Outcome := .next (if s.fnMemory 0 then s.fn0Reset else s.fn0Dropped)

/-- CONTROLLER_ENABLE: CC.EN written 1 with the admin queues' sizes. Function 0 becomes a controller of bed EPT_CFG.BED's
subsystem and of the tenant the configuration names (R326). -/
def execControllerEnable (sqSize cqSize : Nat) (s : State) : Outcome :=
  if !s.fnMemory 0 then .next s.fn0Dropped
  else if s.fn0Assoc.isSome || s.half 1024 ≤ s.cmd.assocs.size then .next s
  else match s.cmd.assocs.freeKey 65536 with
    | none => .next s
    | some n =>
      let pos := match s.cfg.data.tenants.find (fun _ t => t.id = s.cfg.data.eptTenant) with | some e => e.1 | none => 4096
      let a : Assoc := { newAssoc (some (s.fld F.EPT_CFG_BED)) [] pos 0 s.now with fn0 := true, cc := 1, ready := true }
      let s := { s with cmd := { s.cmd with assocs := s.cmd.assocs.put n a } }
      let s := (s.detachOthers n s.cfg.data.eptTenant).addQueue n 0 sqSize
      .next { s with ept := { s.ept with
        tails := s.ept.tails.put 0 0, fetched := s.ept.fetched.put 0 0, cqs := s.ept.cqs.put 0 { size := cqSize, head := 0, tail := 0, vec := some 0 } } }

/-- The dword at an offset of function 0's controller registers as it stands (R326, R337): CAP, VS, CC, and CSTS with RDY, CFS while
wedged and the shutdown status; no command of the table reads it, the computer does so in memory (assumption 23). -/
def State.fn0Reg (s : State) (off : Nat) : Nat :=
  let x := s.fn0Assoc.bind (fun a => s.assoc? a)
  let cc := match x with | some x => x.cc | none => 0
  if off = 0 then capLow
  else if off = 4 then capHigh
  else if off = 8 then 0x00020000
  else if off = 0x14 then cc
  else if off = 0x1C then
    (match x with | some x => b2n x.ready | none => 0) + 2 * b2n s.ept.wedge0 + (if cc / 0x4000 % 4 = 0 then 0 else 8)
  else 0

/-! ### Configuration requests (R324, R327) -/

/-- What a written Command register, PowerState or MSI-X control lets go on: pending vectors, and function 0's reads and completions
(R327, R328). -/
def State.cfgEffect (s : State) (fn o : Nat) : State :=
  if o = 4 || o = 0x44 || o = 0x50 then
    let s := s.msixFlush fn
    if fn = 0 then s.eptPump.releaseAll else s
  else s

/-- CONFIG_REQUEST: Retry Status (1) while the wait of R324 runs, Unsupported Request (2) for another function, else the access.
Initiate FLR in Device Control resets the function. -/
def execConfigRequest (r : CfgReq) (s : State) : Outcome :=
  if !s.ept.link then .next s
  else if (match s.ept.crsTo with | some t => decide (s.now < t) | none => false) then .next (s.emit (.cfgAnswer r.fn 1 0))
  else if 2 ≤ r.fn || 4096 ≤ r.offset then .next (s.emit (.cfgAnswer r.fn 2 0xFFFFFFFF#32))
  else
    let o := r.offset / 4 * 4
    if !r.isWrite then .next (s.emit (.cfgAnswer r.fn 0 (s.cfgRead r.fn o)))
    else
      let s := (s.cfgWrite r.fn o r.be r.value).cfgEffect r.fn o
      let s := if o = 0x68 && bit r.be 1 && r.value.getLsbD 15 then s.flr r.fn else s
      .next (s.emit (.cfgAnswer r.fn 0 0))

/-! ### Doorbells and function 0's reads (R326, R334–R336) -/

/-- DOORBELL_WRITE: new submission entries are fetched, 64 bytes each; a completion head frees entries. A function 0 that answers no
memory request drops it (R337). -/
def execDoorbellWrite (qid : Nat) (isCq : Bool) (value : Nat) (s : State) : Outcome :=
  if !s.fnMemory 0 then .next s.fn0Dropped else
  match s.fn0Assoc with
  | none => .next s
  | some a =>
    if isCq then
      match s.ept.cqs.get? qid with
      | some q =>
        if q.size ≤ value then .next s
        else .next (State.releaseAll { s with ept := { s.ept with cqs := s.ept.cqs.put qid { q with head := value } } })
      | none => .next s
    else
      match s.cmd.queues.get? (qkey a qid) with
      | some q =>
        if q.size ≤ value then .next s
        else
          let n := (value + q.size - s.ept.fetched.getD qid 0) % q.size
          let s := { s with ept := { s.ept with tails := s.ept.tails.put qid value, fetched := s.ept.fetched.put qid value } }
          .next ((List.range n).foldl (fun s _ => s.eptFetch (.sqe qid) 64) s)
      | none => .next s

/-- A read has failed: a command's data ends it with Data Transfer Error and without effect, an entry's fetch wedges function 0. -/
def State.eptReadFailed (s : State) (r : EptRead) : State :=
  match r.fetch with
  | .sqe _ => { s with ept := { s.ept with wedge0 := true } }
  | .data c =>
    match s.findCap c with
    | none => s
    | some (arr, q) =>
      if q.work.commitIssued || q.phase = .done then s
      else match s.bedOf c with
        | some b => s.refuse b arr 0x04
        | none => s.finish arr 0x04 0 0

/-- A read's time is up, or its completion was poisoned: its tag is quarantined for twice the timeout (R335, R336, R338). -/
def State.eptTimedOut (s : State) (tag : Nat) (r : EptRead) (aer : Nat) : State :=
  let t := s.now + 2 * (s.eptTimeout.getD (msec 50))
  let s := { s with ept := { s.ept with
    tags := s.ept.tags.del tag, quar := s.ept.quar.put tag t
    waitReads := s.ept.waitReads.filter (fun w => w.1 ≠ r.fetch) } }
  let s := (s.aerSet 0 aer).raise 0xE03 2 0x03000000 []
  ((s.bump (F.EPT_CNT_COUNT 0) 1).eptReadFailed r).eptPump

/-- ENDPOINT_COMPLETION_ARRIVE: placed where a request holds the tag, else discarded as unexpected. -/
def execEndpointCompletionArrive (tag completer : Nat) (poisoned : Bool) (s : State) : Outcome :=
  match s.ept.tags.get? tag with
  | none =>
    let s := if poisoned then s.bump (F.EPT_CNT_COUNT 4) 1 else s
    let s := (s.aerSet 0 16).bump (F.EPT_CNT_COUNT 1) 1
    let s := (s.setFld F.EPT_LASTUC_COMPLETER_ID completer).setFld F.EPT_LASTUC_TAG tag
    .next (s.raise 0xE04 2 0x05000000 [])
  | some r =>
    if poisoned then .next ((s.bump (F.EPT_CNT_COUNT 4) 1).eptTimedOut tag r 12)
    else
      let s := State.eptPump { s with ept := { s.ept with tags := s.ept.tags.del tag } }
      match r.fetch with
      | .data c =>
        match s.findCap c, s.bedOf c with
        | some (arr, _), some b => .next (s.advance b arr)
        | _, _ => .next s
      | .sqe _ => .next s

/-- ENDPOINT_COMPLETION_TIMEOUT. -/
def execEndpointCompletionTimeout (tag : Nat) (s : State) : Outcome :=
  match s.ept.tags.get? tag with
  | none => .next s
  | some r =>
    match r.deadline with
    | none => .next s
    | some t => .next ((s.at t).eptTimedOut tag r 14)

/-- TAG_QUARANTINE_EXPIRY. -/
def execTagQuarantineExpiry (tag : Nat) (s : State) : Outcome :=
  match s.ept.quar.get? tag with
  | none => .next s
  | some t =>
    let s := s.at t
    .next (State.eptPump { s with ept := { s.ept with quar := s.ept.quar.del tag } })

/-! ### Peer windows (R330–R332) -/

/-- A request is refused at a window: status, count, AER, and an event at most once a second for the window. -/
def State.bar2Refuse (s : State) (w : Nat) (isWrite : Bool) : State :=
  let s := s.aerSet 1 20
  let s := if isWrite then s.bump (F.EPT_CNT_COUNT 3) 1 else (s.bump (F.EPT_CNT_COUNT 2) 1).emit (.tlp 1 [])
  let due := match s.ept.refusedAt.get? w with | some t => decide (t + sec 1 ≤ s.now) | none => true
  if due then State.raise { s with ept := { s.ept with refusedAt := s.ept.refusedAt.put w s.now } } 0xE05 2 0x40000000 (zeros 12 ++ [BitVec.ofNat 8 w])
  else s

/-- The target of window `w` lies in the pool (R330). -/
def State.pwinFits (s : State) (w : Nat) : Bool :=
  decide ((s.fld (F.EPT_PWIN_MAP_OFFSET w) + 1) * 2 ^ s.winLog2 ≤ s.poolGib * 2 ^ 30)

/-- BAR2_REQUEST: translated as its window stands at its arrival, served or refused. -/
def execBar2Request (r : Bar2Req) (s : State) : Outcome :=
  if !s.ept.link then .next s
  else if r.isWrite && r.poisoned then .next ((s.aerSet 1 12).bump (F.EPT_CNT_COUNT 4) 1)
  else
    let w := r.offset / 2 ^ s.winLog2
    if s.poolGib = 0 || 8 ≤ w || !(s.fnMemory 1 || s.ept.wedge1) then .next (if r.isWrite then s.aerSet 1 20 else (s.aerSet 1 20).emit (.tlp 1 []))
    else if s.ept.wedge1 || !s.flag (F.EPT_PWIN_CTL_EN w) || (r.isWrite && s.flag (F.EPT_PWIN_MAP_RDONLY w)) then .next (s.bar2Refuse w r.isWrite)
    else
      let a := s.fld (F.EPT_PWIN_MAP_OFFSET w) * 2 ^ s.winLog2 + r.offset % 2 ^ s.winLog2
      if r.isWrite then .next { s with ept := { s.ept with pool := s.ept.pool.writeN a r.data } }
      else .next (s.emit (.tlp 0 (s.ept.pool.readN a r.length)))

/-- A write of EN (R330): a window that does not fit its pool is not enabled, and ERR is set. -/
def State.pwinEnable (s : State) (w : Nat) (en : Bool) : State :=
  if !en then s.setFld (F.EPT_PWIN_CTL_EN w) 0
  else if s.pwinFits w then s.setFld (F.EPT_PWIN_CTL_EN w) 1
  else s.setFld (F.EPT_PWIN_CTL_ERR w) 1

/-- PWIN_ENABLE_WRITE. -/
def execPwinEnableWrite (w : Nat) (en : Bool) (s : State) : Outcome := .next (if w < 8 then s.pwinEnable w en else s)

/-- A write of EPT_PWIN_MAP (R331): only while the window is disabled; one that carries the values the fields have is no
refusal (R7). A request of this model finishes in its step, so that no window is ever busy between steps. The second component
says that the write was refused. -/
def State.pwinMap (s : State) (w : Nat) (rdonly : Bool) (offset : Nat) : State × Bool :=
  if s.flag (F.EPT_PWIN_MAP_RDONLY w) = rdonly && s.fld (F.EPT_PWIN_MAP_OFFSET w) = offset then (s, false)
  else if s.flag (F.EPT_PWIN_CTL_EN w) then ((s.setFld (F.EPT_PWIN_CTL_ERR w) 1).cfgErr 1 (0x700014 + 8 * w), true)
  else ((s.setFld (F.EPT_PWIN_MAP_RDONLY w) (b2n rdonly)).setFld (F.EPT_PWIN_MAP_OFFSET w) offset, false)

/-- PWIN_MAP_WRITE. -/
def execPwinMapWrite (w : Nat) (rdonly : Bool) (offset : Nat) (s : State) : Outcome := .next (if w < 8 then (s.pwinMap w rdonly offset).1 else s)

end Sys2Proof.Machine
end

