-- ==== Sys2Proof/Machine/Live.lean ====
section
/-! DEFINITION. What the read-only fields of the register space show: the live state of each unit (R7, R310, R395). A field that
is not listed here shows its stored value. -/

namespace Sys2Proof.Machine

/-- A field's place and value. -/
abbrev FieldVal := Nat × Nat × Nat

def State.topFields (s : State) (base : Nat) : List FieldVal :=
  if base = 0 then [(31, 16, s.fuses.part)]
  else if base = 0x20 then
    let idx := match s.rackMe with | some e => e.shelf | none => if s.rst.phase < 6 then 0 else 0x1F
    [(21, 21, b2n s.shelf.conflict), (20, 16, idx), (11, 8, s.shelf.peerState),
     (7, 4, match s.shelf.move with | some m => m.target.code | none => s.shelf.st.code), (3, 0, s.shelf.st.code)]
  else []

/-- RST, PWR and CLK (R309, R322). A PTP interval is taken as 1 s (assumption 24). -/
def State.aonFields (s : State) (base : Nat) : List FieldVal :=
  if base = 0x10014 then [(31, 20, s.bootWord / 2 ^ 20)]
  else if base = 0x20000 then [(8, 0, s.pwr.railOk)]
  else if base = 0x20004 then [(31, 31, b2n s.pwr.pfLow), (30, 28, s.pwr.pfPhase)]
  else if base = 0x20008 then [(31, 0, s.pwr.on % 2 ^ 32)]
  else if base = 0x2000C then [(31, 0, s.pwr.on / 2 ^ 32)]
  else if base = 0x20010 then [(31, 26, s.clkWord.toNat / 2 ^ 26)]
  else if base = 0x20024 then
    let since := match s.clk.sampleAt with | some t => s.now - t | none => 0
    [(31, 31, b2n s.clk.locked), (29, 29, b2n (decide (sec 1 < since))), (27, 24, s.clk.port), (15, 0, min 0xFFFF (since / sec 1))]
  else if base = 0x20028 then [(31, 0, (s.clk.offset % (2 ^ 32 : Nat)).toNat)]
  else if base = 0x20030 then [(31, 0, s.dev % 2 ^ 32)]
  else if base = 0x20034 then [(31, 0, s.dev / 2 ^ 32)]
  else []

/-- SPC (R277). -/
def State.spcFields (s : State) (base i : Nat) : List FieldVal :=
  if base = 0x30018 then
    [(31, 31, b2n s.spc.vinIn), (30, 30, b2n s.spc.seqRun), (23, 0, maskWhere 24 (fun k => (s.chan k).pg))]
  else if base = 0x3001C then [(31, 0, s.vinWord)]
  else if base = 0x30104 then [(31, 0, s.slotStatWord i)]
  else if base = 0x30108 then [(31, 0, s.slotMeasWord i)]
  else if base = 0x3010C then [(31, 16, s.tjRb (s.chan i) / 100000000), (15, 0, s.tjHs (s.chan i) / 100000000)]
  else []

/-- THM_SRC_STAT of a source (R354). -/
def State.srcFields (s : State) (src : Nat) : List FieldVal :=
  let x := s.srcSt src
  [(31, 30, x.state), (23, 16, min 255 x.count), (15, 8, min 255 (s.recov24 src).length), (7, 0, (s.entryOf src).getD 0xFF)]

/-- THM and BBX (R354). -/
def State.thmFields (s : State) (base i : Nat) : List FieldVal :=
  let src := s.fld F.THM_SRC_SEL_ID
  let x := s.srcSt src
  if base = 0x40004 then
    [(31, 31, b2n s.thm.fault), (15, 8, min 255 (s.thm.srcs.filterT (fun _ x => x.state ≠ 0)).size),
     (7, 0, min 255 (s.thm.srcs.filterT (fun _ x => x.state = 2)).size)]
  else if base = 0x40014 then
    s.srcFields src
  else if base = 0x40018 then
    [(15, 0, match x.quietAt with | some t => min 0xFFFF (cdiv (t - s.now) (sec 1)) | none => 0)]
  else if base = 0x50000 then [(31, 0, s.thm.next % 2 ^ 32)]
  else if base = 0x50004 then [(31, 0, s.thm.next / 2 ^ 32)]
  else if base = 0x50008 then [(31, 31, b2n s.thm.mramOk), (30, 30, b2n (!s.thm.staged.isEmpty))]
  else if base = 0x50018 then [(31, 31, b2n s.thm.rdReady), (30, 29, s.thm.rdStat)]
  else if base = 0x50040 then [(31, 0, if s.thm.rdStat = 0 then leNat (slice s.thm.rdData (4 * i) 4) else 0)]
  else []

/-- A counter as its registers show it: the snapshot while SHADOW is 1 (R360). -/
def State.ctrShown (s : State) (n : Nat) : Nat :=
  if s.flag F.PMU_CTL_SHADOW then s.pmu.shadow.getD n 0 else s.pmu.ctr.getD n 0

/-- PMU (R369). -/
def State.pmuFields (s : State) (base i j : Nat) : List FieldVal :=
  if base = 0x60010 then [(31, 0, s.pmu.ovf / 2 ^ (32 * i) % 2 ^ 32)]
  else if base = 0x60044 then [(31, 0, s.pmu.smpWritten % 2 ^ 32)]
  else if base = 0x60050 then [(31, 31, b2n s.pmu.rdReady), (30, 29, s.pmu.rdStat)]
  else if base = 0x60080 then [(31, 0, if s.pmu.rdStat = 0 then leNat (slice s.pmu.rdData (4 * i) 4) else 0)]
  else if base = 0x61000 then (if i % 2 = 0 then [(30, 30, 0)] else [])
  else if base = 0x62000 then [(31, 0, s.ctrShown i % 2 ^ 32)]
  else if base = 0x62004 then [(15, 0, s.ctrShown i / 2 ^ 32)]
  else if base = 0x68000 then [(31, 0, s.pmu.bins.getD (32 * i + j) 0)]
  else []

/-- Security version of the image in a slot. -/
def State.slotSecVer (s : State) (slot : Nat) : Nat := match s.mnt.images.get? slot with | some x => x.secVer | none => 0

/-- MNT (R394). -/
def State.mntFields (s : State) (base : Nat) : List FieldVal :=
  let acts := fun (st : Nat) => maskWhere 10 (fun a => s.mnt.acts.any (fun x => x.code = a + 1 && x.st = st))
  if base = 0x70000 then [(25, 16, acts 1), (9, 0, acts 0)]
  else if base = 0x70008 then
    (match s.mnt.activation with
     | some a => [(27, 25, a.phase), (22, 16, match a.healthAt with | some t => min 127 (cdiv (t - s.now) (sec 1)) | none => 0)]
     | none => [])
  else if base = 0x7000C then [(24, 16, s.mnt.trial), (8, 0, s.mnt.active)]
  else if base = 0x70010 then [(31, 16, s.fuses.secVer), (15, 0, s.slotSecVer (s.mnt.active % 2))]
  else if base = 0x70014 then [(31, 31, b2n s.uncommitted), (15, 8, s.mnt.major), (7, 0, s.mnt.minor)]
  else if base = 0x70018 then [(31, 0, match s.cfg.newer with | some c => c.gen | none => 0)]
  else if base = 0x7001C then [(31, 24, s.mnt.sessions.size)]
  else []

/-- NET, BSN and WEIR (R180, R216). -/
def State.netFields (s : State) (base i j : Nat) : List FieldVal :=
  let p := s.nport i
  if base = 0x100004 then
    [(7, 4, p.fec), (2, 2, b2n p.holdAt.isSome), (1, 1, b2n (p.link && p.holdAt.isNone)), (0, 0, b2n (s.netPowered i))]
  else if base = 0x180004 then [(17, 0, s.bankFree)]
  else if base = 0x180008 then [(15, 8, maskWhere 8 (fun k => s.isFenced (0x400 + k))), (7, 0, maskWhere 8 (fun k => s.domOn (51 + k)))]
  else if base = 0x180018 then [(7, 4, s.net.node), (3, 2, (s.nport 1).ring), (1, 0, (s.nport 0).ring)]
  else if base = 0x180024 then [(31, 0, s.net.capCount)]
  else if base = 0x1C1090 then
    [(31, 31, b2n p.admin.isSome), (30, 30, b2n (p.oper.isSome && s.flag (F.WEIR_GCL_CTL_ENABLE i))), (27, 27, b2n (!s.clk.locked)), (21, 16, match p.oper with | some g => (s.gclNow g).1 | none => p.entry)]
  else if base = 0x1C1600 then
    (match p.oper with
     | some g => match g.entries[j]? with | some (m, t) => [(31, 24, m), (23, 0, t / 10)] | none => []
     | none => [])
  else []

/-- SLU and CMD (R53, R204). -/
def State.cmdFields (s : State) (base : Nat) : List FieldVal :=
  if base = 0x200008 then
    [(28, 16, (s.slu.qps.filterT (fun _ q => q.st ≠ 3)).size), (12, 0, (s.slu.qps.filterT (fun _ q => q.st ≠ 3 && q.paths ≠ 0)).size)]
  else if base = 0x20000C then
    [(9, 8, maskWhere 2 (fun h => s.isFenced (0x600 + h))), (1, 0, maskWhere 2 (fun h => s.domOn (59 + h)))]
  else if base = 0x200014 then [(26, 16, s.slu.windows.size), (10, 0, (s.slu.windows.filterT (fun _ w => w.revoking)).size)]
  else if base = 0x200018 then [(30, 16, (s.slu.trigs.filter (·.entry < trigEntries)).length)]
  else if base = 0x300000 then [(16, 0, (s.cmd.cmds.filterT (fun _ r => r.slot.isSome)).size)]
  else if base = 0x300004 then [(16, 0, s.shared)]
  else if base = 0x300008 then [(26, 16, (s.cmd.assocs.filterT (fun _ a => !a.ended)).size), (12, 0, s.cmd.queues.size)]
  else if base = 0x30000C then [(16, 0, s.parkedCount)]
  else if base = 0x300014 then
    (match s.cmd.selfTest with
     | some t => [(31, 31, 1), (30, 30, b2n t.pausedAt.isSome), (29, 28, t.kind), (19, 16, t.step), (6, 0, t.percent)]
     | none => [])
  else []

/-- BED (R97, R116). -/
def State.bedFields (s : State) (base b : Nat) : List FieldVal :=
  match s.bed? b with
  | none => []
  | some x =>
    if x.n = 0 then []
    else if base = 0x400008 then
      [(28, 24, (x.members.filterT (fun _ m => s.slotPowered m.slot)).size), (20, 16, x.fill.length), (15, 8, x.openCount),
       (2, 2, b2n (!x.resync.isEmpty)), (1, 1, b2n (!x.ckpts.isEmpty)), (0, 0, b2n (x.owned && x.mounted))]
    else if base = 0x40000C then [(24, 0, (s.dirtyBands b).length)]
    else if base = 0x400014 then [(28, 24, x.n), (23, 16, x.hMib), (15, 0, cdiv x.rows 1024)]
    else if base = 0x40001C then
      [(31, 31, b2n (match x.rebuild with | some r => !r.paused | none => false)), (30, 30, b2n (match x.rebuild with | some r => r.paused | none => false)),
       (12, 8, x.queued.headD 0x1F), (4, 0, match x.rebuild with | some r => r.member | none => 0x1F)]
    else if base = 0x400020 then [(24, 0, match x.rebuild with | some r => r.cursor | none => 0)]
    else if base = 0x400024 then (List.range (min 16 x.n)).map (fun m => (2 * m + 1, 2 * m, x.memberSt m))
    else if base = 0x400030 then
      let l := if x.owned then ((s.bedRec b).lost.length, (s.bedRec b).full) else (x.standby.lost.length, x.standby.lostFull)
      [(31, 31, b2n l.2), (12, 0, l.1)]
    else if base = 0x400028 then (List.range (min 8 (x.n - 16))).map (fun m => (2 * m + 1, 2 * m, x.memberSt (16 + m)))
    else []

/-- SEAM, RILL and CPH (R139, R158, R398). -/
def State.coreFields (s : State) (base : Nat) : List FieldVal :=
  if base = 0x480000 then
    [(9, 8, maskWhere 2 (fun h => s.isFenced (0xA00 + h))), (1, 0, maskWhere 2 (fun h => s.domOn (45 + h)))]
  else if base = 0x500004 then [(31, 16, maskWhere 16 (fun c => s.isFenced (0x800 + c))), (15, 0, 2 ^ s.nRill - 1)]
  else if base = 0x500008 then [(15, 0, maskWhere 16 (fun c => s.rill.running.has c))]
  else if base = 0x580004 then
    [(31, 24, maskWhere 8 (fun c => s.cph.jobs.any (fun j => j.phase = 2 && j.core = c))),
     (23, 16, maskWhere 8 (fun c => s.isFenced (0x900 + c) || bit s.cph.coreFail c)), (7, 0, 2 ^ s.nCph - 1)]
  else if base = 0x580008 then
    let ok := fun (k : Option KeyStore) => match k with | some k => k.ok s.fuses.deviceKey s.fuses.serial | none => false
    [(31, 30, if s.cph.noCopy then 3 else match s.store with | some k => k.state | none => 3), (29, 29, b2n s.cph.katFail),
     (28, 28, b2n s.cph.peerMatch), (27, 27, b2n (ok s.cph.store1)), (26, 26, b2n (ok s.cph.store0))]
  else if base = 0x58000C then
    [(31, 0, match s.store with | some k => if k.state = 1 && !s.cph.noCopy then leNat k.kcv else 0 | none => 0)]
  else if base = 0x580010 then [(12, 0, s.cph.cache.length)]
  else []

/-- GUS and RACK (R244, R260). -/
def State.peerFields (s : State) (base : Nat) : List FieldVal :=
  let beds := fun (p : Bed → Bool) => maskWhere 4 (fun b => match s.bed? b with | some x => p x | none => false)
  if base = 0x600004 then
    [(31, 31, b2n s.gus.link), (30, 30, b2n s.gus.retrain), (29, 29, b2n s.gus.declared), (23, 20, beds (·.detached)),
     (19, 16, beds (·.joined)), (15, 12, beds (·.fenced)), (7, 4, beds (·.owned))]
  else if base = 0x600008 then
    let w := s.gus.lastGood
    let f := fun (p : HbWord → Bool) => match w with | some x => b2n (p x) | none => 0
    [(31, 24, min 255 s.gus.miss2), (23, 16, min 255 s.gus.miss1), (15, 8, match w with | some x => x.peerMiss | none => 0),
     (5, 5, f (·.fault)), (4, 4, f (·.fenced)), (3, 3, f (·.tested)), (2, 2, f (·.healthOk))]
  else if base = 0x60000C then [(15, 0, match s.gus.lastWord with | some x => x.units | none => 0)]
  else if base = 0x68000C then
    let holder := match s.rack.view with | some (h, _) => (s.rackIdx h).getD 0x3F | none => 0x3F
    [(31, 30, if s.rackMe.isNone && 6 ≤ s.rst.phase then 3 else s.rack.role), (29, 29, b2n s.viewCurrent), (21, 16, holder),
     (5, 0, if s.rack.role = 2 then s.rack.replies.length else s.rack.accepts.length)]
  else if base = 0x680018 then (if s.rack.role = 2 then [] else [(31, 16, 0)])
  else if base = 0x680010 then [(31, 0, s.rack.epoch % 2 ^ 32)]
  else if base = 0x680014 then [(31, 0, s.rack.epoch / 2 ^ 32)]
  else []

/-- EPT, DRV and DDR (R339, R399, R400). -/
def State.linkFields (s : State) (base i : Nat) : List FieldVal :=
  if base = 0x700004 then
    [(31, 31, b2n s.ept.link), (30, 28, s.ept.speed), (27, 24, s.ept.width), (23, 23, b2n s.ept.wedge0), (22, 22, b2n s.ept.wedge1),
     (21, 20, (s.cfgRead 0 0x44).toNat), (19, 18, (s.cfgRead 1 0x44).toNat), (17, 17, b2n s.ept.perstLow)]
  else if base = 0x700008 then [(31, 16, s.ept.quar.size), (15, 0, s.ept.tags.size)]
  else if base = 0x780000 then
    let p := s.port i
    let on := s.domOn i
    [(31, 31, b2n (on && p.link)), (30, 28, if on then p.speed else 0), (27, 26, if on then p.width else 0), (25, 25, b2n on),
     (24, 24, b2n (s.isFenced (0x200 + i))),
     (15, 0, if on then min 0xFFFF (s.drv.cmds.filterT (fun _ c => c.slot = i && c.st = 2)).size else 0)]
  else if base = 0x780040 then (if s.domOn i then [] else [(31, 0, 0)])
  else if base = 0x800000 then [(15, 0, sumN (s.chansIn.map (fun c => s.fld (F.DDR_STAT_SIZE_GIB c))))]
  else if base = 0x801000 then [(28, 28, b2n (s.domOn (47 + i)))]
  else []

/-- The live fields of instance (i, j) of the register with a base address. -/
def State.liveFields (s : State) (base i j : Nat) : List FieldVal :=
  if base < 0x10000 then s.topFields base
  else if base < 0x30000 then s.aonFields base
  else if base < 0x40000 then s.spcFields base i
  else if base < 0x60000 then s.thmFields base i
  else if base < 0x70000 then s.pmuFields base i j
  else if base < 0x100000 then s.mntFields base
  else if base < 0x200000 then s.netFields base i j
  else if base < 0x400000 then s.cmdFields base
  else if base < 0x480000 then s.bedFields base i
  else if base < 0x600000 then s.coreFields base
  else if base < 0x700000 then s.peerFields base
  else s.linkFields base i

/-- A dword with its live fields. -/
def State.live (s : State) (r : RegDesc) (i j addr : Nat) : Word :=
  (s.liveFields r.base i j).foldl (fun w f => putBits w f.1 f.2.1 f.2.2) (s.reg addr)

end Sys2Proof.Machine
end

