-- ==== Sys2Proof/Machine/RegAccess.lean ====
section
/-! DEFINITION. Register accesses: a 32-bit write under the access class of each field, with what a write does at once in
the block it lies in, and reads with their clearing and latching (R2, R7–R11, R374, R395–R397). -/

namespace Sys2Proof.Machine

/-! ### Quiesced conditions of RWQ fields (R374) -/

/-- No enabled histogram uses a filter, and the sampler is off (R362, R368). -/
def State.filtFree (s : State) (f : Nat) : Bool :=
  !s.flag F.PMU_SMP_CFG_EN && (List.range 64).all (fun h =>
    !(s.flag (F.PMU_HIST_CFG_EN h) && s.flag (F.PMU_HIST_CFG_FILT_EN h) && s.fld (F.PMU_HIST_CFG_FILT h) = f))

/-- Whether the block of an RWQ field is quiesced, as the owning chapter states it. -/
def State.quiesced (s : State) (base i : Nat) : Bool :=
  if base = 0x300010 then s.cmd.queues.vals.all (fun q => q.qid = 0)
  else if 0x100000 ≤ base && base < 0x180000 then !s.flag (F.NET_CTRL_ENABLE i)
  else if base = 0x180020 then !s.flag F.BSN_CAP_CFG_EN
  else if base = 0x200010 then s.slu.windows.size = 0
  else if 0x1C0000 ≤ base && base < 0x200000 then (s.nport i).admin.isNone
  else if base = 0x60040 then s.filtFree (s.fld F.PMU_SMP_CFG_FILT)
  else if base = 0x60060 || base = 0x60064 then s.filtFree i
  else if base = 0x60400 then !s.flag (F.PMU_HIST_CFG_EN i)
  else if 0x61000 ≤ base && base < 0x63000 then !s.ctrEn i
  else true

/-! ### A write -/

/-- A write on its way: the state, and the reason of its first refusal (0: none). -/
abbrev RegWr := State × Nat

/-- Refuses a write, or one of its fields; a write is recorded once, however many of its fields are refused (R11). -/
def RegWr.refuse (x : RegWr) (reason addr : Nat) : RegWr := if x.2 = 0 then (x.1.cfgErr reason addr, reason) else x

/-- The bits of an RWL field that stand for absent pairs or cores (R139, R158). -/
def State.absentBits (s : State) (base : Nat) (f : FieldDesc) : Nat :=
  if s.is36 && f.acc = .rwl && ((base = 0x500000 && f.lo = 8) || base = 0x580000) then 0xF0 else 0

/-- The value an RWQ field holds: PMU_CTR holds the counter itself (R369). -/
def State.curFld (s : State) (base i addr : Nat) (f : FieldDesc) : Nat :=
  if base = 0x62000 then s.pmu.ctr.getD i 0 % 2 ^ 32
  else if base = 0x62004 then s.pmu.ctr.getD i 0 / 2 ^ 32
  else getBits (s.reg addr) f.hi f.lo

/-- Stores an RWQ field of a quiesced block. -/
def State.putQ (s : State) (base i addr : Nat) (f : FieldDesc) (v : Nat) : State :=
  let c := s.pmu.ctr.getD i 0
  if base = 0x62000 then { s with pmu := { s.pmu with ctr := s.pmu.ctr.put i (c / 2 ^ 32 * 2 ^ 32 + v) } }
  else if base = 0x62004 then { s with pmu := { s.pmu with ctr := s.pmu.ctr.put i (c % 2 ^ 32 + v * 2 ^ 32) } }
  else s.setReg addr (putBits (s.reg addr) f.hi f.lo v)

/-- Clears the bits of a W1C field that are written 1. -/
def State.clearW1c (s : State) (base i addr : Nat) (f : FieldDesc) (v : Nat) : State :=
  if base = 0x60010 then { s with pmu := { s.pmu with ovf := s.pmu.ovf &&& ((2 ^ 256 - 1) ^^^ (v * 2 ^ (32 * i))) } }
  else if base = 0x30104 && f.lo = 14 then (if v = 1 then s.setChan i { s.chan i with rev := false } else s)
  else
    let c := getBits (s.reg addr) f.hi f.lo
    s.setReg addr (putBits (s.reg addr) f.hi f.lo (c - (c &&& v)))

/-- One field of a write (R7). `q` says whether the block was quiesced before the write. -/
def writeField (base i addr : Nat) (w : Word) (q : Bool) (x : RegWr) (f : FieldDesc) : RegWr :=
  let s := x.1
  let v := getBits w f.hi f.lo
  -- CHAIN of an even counter is a reserved bit (R8, R358)
  if base = 0x61000 && f.lo = 30 && i % 2 = 0 then x else
  match f.acc with
  | .ro | .rc | .wo => x
  | .rw => (s.setReg addr (putBits (s.reg addr) f.hi f.lo v), x.2)
  | .w1c => (s.clearW1c base i addr f v, x.2)
  | .w1s => (s.setReg addr (putBits (s.reg addr) f.hi f.lo (getBits (s.reg addr) f.hi f.lo ||| v)), x.2)
  | .rwl | .rwb =>
    let a := s.absentBits base f
    let p := putBits (s.written addr) f.hi f.lo (v - (v &&& a))
    let s := { s with regs := { s.regs with pend := s.regs.pend.put addr p } }
    if v &&& a = 0 then (s, x.2) else RegWr.refuse (s, x.2) 4 addr
  | .rwq =>
    if v = s.curFld base i addr f then x
    else if q then (s.putQ base i addr f v, x.2)
    else x.refuse 1 addr

/-! ### What a write does at once -/

/-- THM_CMD with its key (R354). -/
def thmCommand (path : AccessPath) (v : Word) (x : RegWr) : RegWr :=
  let src := v.toNat % 4096
  let op := getBits v 15 12
  if getBits v 31 16 ≠ 0xA5C3 then x
  else if op = 1 then (match x.1.thmFence src with | (s, r) => (s, if r then 5 else x.2))
  else if op = 2 then (x.1.serviceReadmit src, x.2)
  else if op = 3 then (match path with | .service _ => (x.1.thmClear src path, x.2) | _ => (x.1.thmClear src path, 5))
  else x

/-- SPC_SLOT_CMD (R275, R277). -/
def State.slotCommand (s : State) (k op : Nat) : State :=
  if op = 1 then s.raiseReq k false else if op = 2 then s.dropReq k else if op = 3 then s.clearFault k
  else if op = 4 then (s.slotTest k).1 else if op = 5 then s.pwrdis k else s

/-- PMU_CTL's write-only bits, and a sampler or a histogram that a write starts or clears (R360, R362, R366, R368). -/
def State.pmuEffect (s old : State) (base i : Nat) (v : Word) : State :=
  if base = 0x60000 then
    let s := if v.getLsbD 30 then s.pmuSnap else s
    if v.getLsbD 29 then s.pmuClearAll else s
  else if base = 0x60400 then (if v.getLsbD 30 then s.pmuHistClr i else s)
  else if base = 0x6004C then s.smpStart v.toNat
  else if base = 0x60040 && s.flag F.PMU_SMP_CFG_EN && !old.flag F.PMU_SMP_CFG_EN then
    { s with pmu := { s.pmu with smpSeen := 0, smpPicked := [], smpWritten := 0, smpUnread := [], smpRing := .empty } }
  else s

/-- A port's gate ENABLE takes effect at the end of the frame in progress there, and at once where there is none (R216). -/
def State.gclEnable (s : State) (i : Nat) : State :=
  if (s.nport i).sending.isNone then (s.applyFld (F.WEIR_GCL_CTL_ENABLE i)).startNext i else s

/-- What a write does beside storing its fields. -/
def regEffect (old : State) (path : AccessPath) (base i : Nat) (v : Word) (x : RegWr) : RegWr :=
  let s := x.1
  if base = 0x10 then (if v.getLsbD 31 then s.setFld F.TOP_CFGERR_MORE 0 else s, x.2)
  else if base = 0x1000C then
    (if getBits v 31 16 = 0xA5C3 && (getBits v 1 0 = 1 || getBits v 1 0 = 2) then s.resetAssert 9 (getBits v 1 0) else s, x.2)
  else if base = 0x10010 then (s.kick v, x.2)
  else if base = 0x20020 then
    -- a new source or domain starts the lock anew (R307)
    let p := s.written 0x20020
    (if getBits p 30 30 = s.fld F.CLK_PTP_CFG_SRC && getBits p 23 16 = s.fld F.CLK_PTP_CFG_DOMAIN then s
     else { s with clk := { s.clk with locked := false, good := 0, tod := none, todSet := false } }, x.2)
  else if base = 0x30100 then
    let s := s.applyFld (F.SPC_SLOT_CFG_AUTO_INS i)
    (if v.getLsbD 31 = old.flag (F.SPC_SLOT_CFG_EN i) then s else s.slotEnable i (v.getLsbD 31), x.2)
  else if base = 0x30110 then (s.slotCommand i (v.toNat % 16), x.2)
  else if base = 0x4001C then thmCommand path v x
  else if base = 0x50014 then (s.bbxStart v.toNat, x.2)
  else if 0x60000 ≤ base && base < 0x70000 then (s.pmuEffect old base i v, x.2)
  else if base = 0x400004 then (if v.getLsbD 31 then s.ckptNow i else s, x.2)
  else if base = 0x1C1080 then
    let x : RegWr := if !v.getLsbD 30 then x
      else if old.quiesced base i then (s.gclCommit i, x.2) else x.refuse 1 (0x1C1080 + 0x1000 * i)
    ((if v.getLsbD 29 then x.1.gclCancel i else x.1).gclEnable i, x.2)
  else if base = 0x100000 then (if old.flag (F.NET_CTRL_ENABLE i) && !v.getLsbD 0 then s.linkLost i else s, x.2)
  else if base = 0x700010 then
    -- EN is not stored by its class: it takes effect under R331
    ((s.setFld (F.EPT_PWIN_CTL_EN i) (old.fld (F.EPT_PWIN_CTL_EN i))).pwinEnable i (v.getLsbD 31), x.2)
  else x

/-- Function 1's MSI-X table: an entry no longer masked sends its pending vector (R337). -/
def State.msixWrite (s : State) (dw : Nat) (v : Word) : State :=
  State.msixFlush { s with ept := { s.ept with msix1 := s.ept.msix1.put dw v } } 1

/-- Function 1 answers a request of a path: one through BAR0 only while it answers memory requests (R329, R337). -/
def State.pathOpen (s : State) (path : AccessPath) : Bool :=
  match path with
  | .bar0 => s.fnMemory 1
  | _ => true

/-- A write of an aligned dword of the register space, with the reason it was refused for, if any. -/
def State.regWrite (s : State) (path : AccessPath) (addr : Nat) (w : Word) : RegWr :=
  if s.absentReg addr then RegWr.refuse (s, 0) 4 addr
  else if 0x708000 ≤ addr && addr < 0x708040 then (s.msixWrite ((addr - 0x708000) / 4) w, 0)
  else if 0x709000 ≤ addr && addr < 0x709008 then (s, 0)
  else
    match findReg addr with
    | none => RegWr.refuse (s, 0) 3 addr
    | some (r, i, _) =>
      if s.pmuDeaf addr then (s, 0)
      else if r.base = 0x700014 then
        (match s.pwinMap i (w.getLsbD 31) (w.toNat % 256) with | (s, refused) => (s, if refused then 1 else 0))
      else
        let q := s.quiesced r.base i
        regEffect s path r.base i w (r.fields.foldl (writeField r.base i addr w q) (s, 0))

/-- A write as it arrives: only an aligned write of all four bytes takes effect (R9). -/
def State.busWrite (s : State) (path : AccessPath) (addr be : Nat) (w : Word) : RegWr :=
  if addr % 4 ≠ 0 || be ≠ 15 then RegWr.refuse (s, 0) 2 (addr % 2 ^ 24) else s.regWrite path (addr % 2 ^ 24) w

/-- REGISTER_WRITE (R7–R11, R374). The register space is 16 MiB. A write through BAR0 to a function that answers no memory
request is dropped as an Unsupported Request (R337). -/
def execRegisterWrite (path : AccessPath) (addr be : Nat) (value : Word) (s : State) : Outcome :=
  .next (if s.pathOpen path then (s.busWrite path addr be value).1 else s.aerSet 1 20)

/-! ### A read -/

/-- The HI register of each pair that is read LO first (R397), by the base of its LO register. -/
def hiOf (base : Nat) : Option Nat :=
  if base = 0x380010 || base = 0x680010 || base = 0x20030 || base = 0x50000 || base = 0x62000 then some 4 else none

def isHi (base : Nat) : Bool :=
  base = 0x380014 || base = 0x680014 || base = 0x20034 || base = 0x50004 || base = 0x62004

/-- A register as it reads by its fields' classes: the live value, the written value of RWL and RWB fields, 0 for WO
fields (R7). -/
def State.classRead (s : State) (r : RegDesc) (i j addr : Nat) : Word :=
  let l := s.live r i j addr
  let p := s.written addr
  r.fields.foldl (fun w f =>
    match f.acc with
    | .wo => w
    | .rwl | .rwb => putBits w f.hi f.lo (getBits p f.hi f.lo)
    | _ => putBits w f.hi f.lo (getBits l f.hi f.lo)) 0

/-- What latch of a path holds for the HI register at an address. -/
def RegFile.latched (r : RegFile) (path : AccessPath) (addr : Nat) : Word :=
  match r.latch.find? (fun x => x.1 = path && x.2.1 = addr) with
  | some x => x.2.2
  | none => 0

/-- Latches a HI register for a path. -/
def RegFile.setLatch (r : RegFile) (path : AccessPath) (addr : Nat) (w : Word) : RegFile :=
  { r with latch := (path, addr, w) :: r.latch.filter (fun x => !(x.1 = path && x.2.1 = addr)) }

/-- Clears the RC fields all of whose bits lie in the requested bytes (R9). -/
def State.clearRc (s : State) (r : RegDesc) (addr be : Nat) : State :=
  r.fields.foldl (fun s f =>
    if f.acc = .rc && (List.range 32).all (fun b => !(f.lo ≤ b && b ≤ f.hi) || bit be (b / 8)) then
      s.setReg addr (putBits (s.reg addr) f.hi f.lo 0) else s) s

/-- A read of an aligned dword with its byte enables: the new state and the bytes requested (R9, R397). -/
def State.regRead (s : State) (path : AccessPath) (addr be : Nat) : State × Word :=
  let m := BitVec.ofNat 32 (beMask be)
  if s.absentReg addr || s.pmuDeaf addr then (s, 0)
  else if 0x708000 ≤ addr && addr < 0x708040 then
    (s, s.ept.msix1.getD ((addr - 0x708000) / 4) (if addr / 4 % 4 = 3 then 1 else 0) &&& m)
  else if addr = 0x709000 then (s, BitVec.ofNat 32 s.ept.pba1 &&& m)
  else
    match findReg addr with
    | none => (s, 0)
    | some (r, i, j) =>
      if isHi r.base then (s, s.regs.latched path addr &&& m)
      else
        let w := s.classRead r i j addr &&& m
        match hiOf r.base, findReg (addr + 4) with
        | some _, some (h, i', j') =>
          ({ s with regs := s.regs.setLatch path (addr + 4) (s.classRead h i' j' (addr + 4)) }, w)
        | _, _ => (s.clearRc r addr be, w)

/-- A read answered on its path; Unsupported Request through BAR0 of a function that answers no memory request (R337). -/
def State.busRead (s : State) (path : AccessPath) (addr be : Nat) : State :=
  if !s.pathOpen path then (s.aerSet 1 20).emit (.tlp 1 []) else
  match s.regRead path (addr % 2 ^ 24 / 4 * 4) be with
  | (s, w) => s.emit (.regData path (addr % 2 ^ 24 / 4 * 4) w)

/-- READ_CLEAR_ACCESS: a read with any byte enables (R7–R9). -/
def execReadClearAccess (path : AccessPath) (addr be : Nat) (s : State) : Outcome := .next (s.busRead path addr be)

/-- LO_READ_LATCH: a read of the LO half of a 64-bit pair, of all four bytes (R397). -/
def execLoReadLatch (path : AccessPath) (addr : Nat) (s : State) : Outcome := .next (s.busRead path addr 15)

end Sys2Proof.Machine
end

