-- ==== Sys2Proof/Machine/SvcUnit.lean ====
section
/-! DEFINITION. The service protocol: when it is served, sessions, repeated requests and responses (R378–R382). -/

namespace Sys2Proof.Machine

/-- The service port answers: from step 2 of start-up on, in every state, outside reset episodes (R318, R319, R378). -/
def State.svcPort (s : State) : Bool := s.rst.episode.isNone && (2 ≤ s.rst.phase || s.rst.svcWait) && s.rst.fail ≠ 1

/-- Types also served in service-wait (R380). -/
def svcRom (type : Nat) : Bool := [0x01, 0x02, 0x03, 0x05, 0x10, 0x11, 0x12, 0x13, 0x30].contains type

/-- A response: kept among the session's last 64, and sent (R379). -/
def State.respond (s : State) (h : SvcHead) (type : Nat) (st : SvcStatus) (body : Bytes) : State :=
  s.respondTo ⟨h.session, h.request, type, st, body⟩

/-- A message with a bad tag is counted and draws no reply (R379). -/
def State.badTag (s : State) : State := s.bump F.MNT_SVC_BAD_TAG 1

/-- A request within a session: a repeated one receives its stored response, one that neither rises nor matches is discarded,
one not served now or malformed is refused; any other is recorded and carried out by `run`, which answers it (R379–R382). -/
def State.svc (s : State) (h : SvcHead) (type : Nat) (run : State → State) : State :=
  if !s.svcPort then s
  else
    match s.mnt.sessions.get? h.session with
    | none => s
    | some x =>
      if !h.tagOk then s.badTag
      else
        let s := { s with mnt := { s.mnt with sessions := s.mnt.sessions.put h.session { x with at_ := s.now } } }
        match x.responses.find? (fun r => r.request = h.request) with
        | some r => s.svcEmit r
        | none =>
          if h.request ≤ x.lastReq then s
          else
            let s := { s with mnt := { s.mnt with sessions := s.mnt.sessions.put h.session { x with at_ := s.now, lastReq := h.request } } }
            if s.rst.svcWait && !svcRom type then s.respond h type .romOnly []
            else if !h.bodyOk then s.respond h type .badMessage []
            else run (s.note 0x70 (le 2 type))

/-- A session ends: an install or a Rill job it holds open ends with it. -/
def State.endSession (s : State) (k : Nat) : State :=
  { s with mnt := { s.mnt with
      sessions := s.mnt.sessions.del k
      install := s.mnt.install.filter (fun i => i.session ≠ k)
      svcJob := s.mnt.svcJob.filter (fun j => j.session ≠ k) } }

/-- The status that carries a verdict (R371, R381). -/
def verdictStatus (v : Nat) : SvcStatus := if v = 1 then .deferred else if v = 2 then .refused else .ok

/-- Section version of a target in a slot, zero where empty. -/
def State.sectionVer (s : State) (slot target : Nat) : Nat :=
  match s.mnt.images.get? slot with | some x => x.sections.getD target 0 | none => 0

/-- The body of an IDENTIFY response (R382). -/
def State.identifyBody (s : State) : Bytes :=
  let st := (match s.shelf.move with | some m => m.target.code | none => s.shelf.st.code) * 16 + s.shelf.st.code
  let key := match s.store with | some k => k.state = 1 && !s.cph.noCopy | none => false
  let dir := fun (m : Nat) => be 2 (m % 512)
  be 8 s.fuses.serial ++ serialText s.fuses.serial ++ [0] ++ be 2 s.fuses.part
    ++ [BitVec.ofNat 8 ((s.reg 0).toNat / 256), BitVec.ofNat 8 st, BitVec.ofNat 8 s.shelf.strapCode,
        BitVec.ofNat 8 (b2n s.rst.svcWait + 2 * b2n s.cfg.data.svcKey.isSome + 4 * b2n key), 0, 0]
    ++ ((List.range 9).map (fun t => be 4 (s.sectionVer 0 (t + 1)) ++ be 4 (s.sectionVer 1 (t + 1)))).flatten
    ++ dir s.mnt.active ++ dir s.mnt.trial

end Sys2Proof.Machine
end

