-- ==== Sys2Proof/Machine/SvcCmds.lean ====
section
/-! DEFINITION. Service messages on sessions, registers, resets, the configuration set, the rings and the service key
(R376, R378–R382). -/

namespace Sys2Proof.Machine

/-! ### Sessions -/

/-- HELLO (R378): with a right tag under the service key and fewer than 4 sessions open, a session opens. -/
def execHello (client : Bytes) (request : Nat) (tagOk bodyOk : Bool) (s : State) : Outcome :=
  if !s.svcPort then .next s
  else
    match s.cfg.data.svcKey with
    | none => .next s
    | some key =>
      if !tagOk then .next s.badTag
      else if !bodyOk then .next (s.svcSend (some (s.openKey 2 key)) ⟨0, request, 1, .badMessage, []⟩)
      else if 4 ≤ s.mnt.sessions.size then .next (s.svcSend (some (s.openKey 2 key)) ⟨0, request, 1, .noRoom, []⟩)
      else
        let s := s.note 0x70 (le 2 1)
        let dev := randomBytes s.mnt.randoms
        let k := s.mnt.nextSession
        let x : Session := { key := sessionKey (s.openKey 2 key) client dev, lastReq := 0, responses := [], at_ := s.now }
        let s := { s with mnt := { s.mnt with sessions := s.mnt.sessions.put k x, nextSession := k + 1, randoms := s.mnt.randoms + 1 } }
        .next (s.svcSend (some (s.openKey 2 key)) ⟨0, request, 1, .ok, dev ++ be 4 k ++ zeros 4⟩)

/-- IDENTIFY_MESSAGE (R379, R382): needs no tag and no session. -/
def execIdentifyMessage (request : Nat) (bodyOk : Bool) (s : State) : Outcome :=
  .next (if !s.svcPort then s
    else if !bodyOk then s.svcSend none ⟨0, request, 2, .badMessage, []⟩
    else s.svcSend none ⟨0, request, 2, .ok, s.identifyBody⟩)

/-- SERVICE_SESSION_TIMEOUT (R378): 300 s without a message. -/
def execServiceSessionTimeout (session : Nat) (s : State) : Outcome :=
  match s.mnt.sessions.get? session with
  | none => .next s
  | some x => .next ((s.at (x.at_ + sec 300)).endSession session)

/-! ### Registers and resets -/

/-- `n` consecutive dwords read on a session's own path, big-endian (R382, R397). -/
def readDwords (path : AccessPath) : Nat → Nat → State → Bytes → State × Bytes
  | 0, _, s, b => (s, b)
  | n + 1, addr, s, b =>
    match s.regRead path addr 15 with
    | (s, w) => readDwords path n (addr + 4) s (b ++ be 4 w.toNat)

/-- REG_READ. -/
def execRegRead (head : SvcHead) (addr count : Nat) (s : State) : Outcome :=
  .next (s.svc head 0x03 (fun s =>
    if addr % 4 ≠ 0 || count = 0 || 256 < count then s.respond head 0x03 .badField []
    else
      match readDwords (.service head.session) count addr s [] with
      | (s, b) => s.respond head 0x03 .ok (be 4 addr ++ be 2 count ++ [0, 0] ++ b)))

/-- REG_WRITE: CFG_BUSY or BAD_FIELD where the write is refused, the value read back otherwise. -/
def execRegWrite (head : SvcHead) (addr : Nat) (value : Word) (s : State) : Outcome :=
  .next (s.svc head 0x04 (fun s =>
    let x := if 2 ^ 24 ≤ addr then RegWr.refuse (s, 0) 3 (addr % 2 ^ 24) else s.busWrite (.service head.session) addr 15 value
    if x.2 = 1 then x.1.respond head 0x04 .cfgBusy []
    else if x.2 ≠ 0 then x.1.respond head 0x04 .badField []
    else
      match x.1.regRead (.service head.session) addr 15 with
      | (s, w) => s.respond head 0x04 .ok (be 4 addr ++ be 4 w.toNat)))

/-- SERVICE_RESET_CORE: the response goes before the episode begins (R311, R382). -/
def execServiceResetCore (head : SvcHead) (s : State) : Outcome :=
  .next (s.svc head 0x05 (fun s => (s.respond head 0x05 .ok []).resetAssert 10 1))

/-- SERVICE_RESET_SYSTEM. -/
def execServiceResetSystem (head : SvcHead) (s : State) : Outcome :=
  .next (s.svc head 0x05 (fun s => (s.respond head 0x05 .ok []).resetAssert 10 2))

/-! ### The configuration set -/

/-- CFG_COMMIT (R376). -/
def execCfgCommit (head : SvcHead) (s : State) : Outcome :=
  .next (s.svc head 0x06 (fun s =>
    match s.cfgCommit with
    | some t => t.respond head 0x06 .ok (be 8 s.cfg.nextGen)
    | none => s.respond head 0x06 .noRoom []))

/-- The value of a data record as far as the spec lays it out; of the others each byte is open (R375; assumption 13). -/
def State.recordByte (s : State) (field i : Nat) : Byte :=
  let d := s.cfg.data
  if field = 0xF001 then d.identity.getD i 0
  else if field = 0xF030 then d.rackBytes.getD i 0
  else if field = 0xF040 then d.gpio.getD i 0
  else Config.pageByte field i

def State.recordLen (s : State) (field : Nat) : Nat :=
  let d := s.cfg.data
  if field = 0xF001 then d.identity.length
  else if field = 0xF030 then d.rackBytes.length
  else if field = 0xF040 then d.gpio.length
  else s.draw % 65535 + 1

/-- Data records that exist (R375). -/
def isRecord (field : Nat) : Bool :=
  [0xF001, 0xF002, 0xF010, 0xF011, 0xF012, 0xF013, 0xF020, 0xF021, 0xF030, 0xF040].contains field

/-- CFG_RECORD_READ. -/
def execCfgRecordRead (head : SvcHead) (field offset len : Nat) (s : State) : Outcome :=
  .next (s.svc head 0x07 (fun s =>
    if !isRecord field || 1024 < len then s.respond head 0x07 .badField []
    else
      let total := s.recordLen field
      let n := min len (total - offset)
      State.drawn (s.respond head 0x07 .ok (be 4 total ++ be 4 offset ++ be 2 n ++ [0, 0]
        ++ (List.range n).map (fun i => s.recordByte field (offset + i))))))

/-- The record as it stands once all its pieces are held: the committed data with that record replaced. The identity record also
names the tenant of endpoint function 0 (R54; assumption 66). -/
def CfgData.withRecord (d : CfgData) (field : Nat) (value : Bytes) (addrs : List Nat) (table : List RackEntry) : CfgData :=
  if field = 0xF001 then { d with identity := value, addrs := addrs, eptTenant := Config.eptTenant value }
  else if field = 0xF030 then { d with rackBytes := value, rack := table }
  else { d with gpio := value }

/-- A piece laid into what is held of a record. -/
def layPiece (held piece : Bytes) (offset : Nat) : Bytes := fitTo offset held ++ piece ++ held.drop (offset + piece.length)

/-- A rack table the record may hold (R19). -/
def rackTableOk (l : List RackEntry) : Bool :=
  l.length ≤ 32 && (l.filter (fun e => e.position = 0)).length ≤ 16 && (l.filter (fun e => e.position ≠ 0)).length ≤ 16

/-- The budgets and allowances of a rack record become the running ones (R246). -/
def State.putBudgets (s : State) (budget allow : Word) : State :=
  ((s.regWrite .cores 0x680004 budget).1.regWrite .cores 0x680008 allow).1

/-- CFG_RECORD_WRITE (R375, R376, R382). `addrs`, `table`, `budget` and `allow` are what the complete record says of the host
addresses and of the rack. -/
def execCfgRecordWrite (head : SvcHead) (field offset : Nat) (piece : Bytes) (last : Bool) (addrs : List Nat) (table : List RackEntry)
    (budget allow : Word) (s : State) : Outcome :=
  .next (s.svc head 0x07 (fun s =>
    let ok := field = 0xF001 || field = 0xF030 || field = 0xF040
    let value := layPiece (s.cfg.pieces.getD field []) piece offset
    if !ok || 1024 < piece.length || 65535 < value.length || (last && (value.isEmpty || (field = 0xF030 && !rackTableOk table))) then s.respond head 0x07 .badField []
    else
      let body := be 4 value.length ++ be 4 offset ++ be 2 piece.length ++ [0, 0]
      if !last then State.respond { s with cfg := { s.cfg with pieces := s.cfg.pieces.put field value } } head 0x07 .ok body
      else
        let s := { s with cfg := { s.cfg with pieces := s.cfg.pieces.del field } }
        match s.commitData (s.cfg.data.withRecord field value addrs table) with
        | none => s.respond head 0x07 .noRoom []
        | some s => (if field = 0xF030 then (s.putBudgets budget allow).sendOwed else s.putOwnAddrs).respond head 0x07 .ok body))

/-- TIME_SET (R308). -/
def execTimeSet (head : SvcHead) (ns : Nat) (s : State) : Outcome :=
  .next (s.svc head 0x08 (fun s => State.respond { s with clk := { s.clk with tod := some ns, todSet := true, good := 0 } } head 0x08 .ok []))

/-! ### The rings -/

/-- The capture record of a sequence number, with a result as for the black box (R179). -/
def State.capRead (s : State) (q : Nat) : Nat × Bytes :=
  if q = 0 || s.net.capCount < q then (2, [])
  else if q + s.capSize ≤ s.net.capCount then (1, [])
  else match s.net.capRing.get? ((q - 1) % s.capSize) with
    | some r => (0, r)
    | none => (3, [])

def State.ringRead (s : State) (ring q : Nat) : Nat × Bytes :=
  if ring = 1 then s.bbxRead q else if ring = 2 then s.capRead q else s.smpRead q

/-- Whole records from a sequence number on: how many, why no more, and their bytes. -/
def ringRecords (s : State) (ring : Nat) : Nat → Nat → Nat → Bytes → Nat × Nat × Bytes
  | 0, _, k, b => (k, 0, b)
  | n + 1, q, k, b =>
    match s.ringRead ring q with
    | (0, r) => ringRecords s ring n (q + 1) (k + 1) (b ++ r)
    | (e, _) => (k, e, b)

/-- READ_RING (R353, R368, R382). Sample records read this way count as read. -/
def execReadRing (head : SvcHead) (ring first count : Nat) (s : State) : Outcome :=
  .next (s.svc head 0x30 (fun s =>
    if ring = 0 || 3 < ring || count = 0 || (if ring = 1 then 20 else 10) < count then s.respond head 0x30 .badField []
    else if s.rst.svcWait && ring ≠ 1 then s.respond head 0x30 .romOnly []
    else
      match ringRecords s ring count first 0 [] with
      | (k, e, b) =>
        let s := if ring = 3 then { s with pmu := { s.pmu with smpUnread := s.pmu.smpUnread.filter (fun q => !(first ≤ q && q < first + k)) } } else s
        s.respond head 0x30 .ok ([BitVec.ofNat 8 ring, BitVec.ofNat 8 k, BitVec.ofNat 8 e, 0] ++ be 8 (first + k) ++ zeros 4 ++ b)))

/-- BBX_FORMAT (R351): the slots are zeroed, the next sequence number is kept. -/
def execBbxFormat (head : SvcHead) (confirm : Nat) (s : State) : Outcome :=
  .next (s.svc head 0x31 (fun s =>
    if confirm ≠ 0xA5C3 then s.respond head 0x31 .badField []
    else
      let m := (s.mram.zero 4096 (64 * bbxSlots)).writeN 0 (bbxHeader s.fuses.serial s.thm.next s.dev)
      State.respond { s with mram := m } head 0x31 .ok (be 8 s.thm.next)))

/-! ### The service key (R378) -/

/-- UART_CONFIRMATION: the code the console printed, or another. -/
def execUartConfirmation (codeOk : Bool) (s : State) : Outcome :=
  .next (if s.svcPort && codeOk && s.cfg.data.svcKey.isNone then { s with mnt := { s.mnt with confirmed := true } } else s)

/-- SERVICE_KEY_FIRST_INSTALL: taken once the operator has confirmed; its tag is under the new key, its session zero. -/
def execServiceKeyFirstInstall (key : Bytes) (request : Nat) (codeOk tagOk bodyOk : Bool) (s : State) : Outcome :=
  let ans := fun (s : State) (st : SvcStatus) (b : Bytes) => s.svcSend (some key) ⟨0, request, 0x32, st, b⟩
  if !s.svcPort then .next s
  else if !tagOk then .next s.badTag
  else if s.rst.svcWait then .next (ans s .romOnly [])
  else if !bodyOk then .next (ans s .badMessage [])
  else if s.cfg.data.svcKey.isSome || !s.mnt.confirmed then .next (ans s .wrongState [])
  else if !codeOk then .next (ans s .badField [])
  else
    let s := s.note 0x70 (le 2 0x32)
    match s.commitData { s.cfg.data with svcKey := some (s.wrapKeyAs 2 key) } with
    | none => .next (ans s .noRoom [])
    | some s => .next (ans { s with mnt := { s.mnt with confirmed := false } } .ok (zeros 4))

/-- SERVICE_KEY_REPLACE: answered under the new key; every open session ends. -/
def execServiceKeyReplace (head : SvcHead) (key : Bytes) (s : State) : Outcome :=
  .next (s.svc head 0x32 (fun s =>
    match s.commitData { s.cfg.data with svcKey := some (s.wrapKeyAs 2 key) } with
    | none => s.respond head 0x32 .noRoom []
    | some s =>
      let s := s.svcSend (some key) ⟨head.session, head.request, 0x32, .ok, zeros 4⟩
      { s with mnt := { s.mnt with sessions := .empty, install := none, svcJob := none } }))

end Sys2Proof.Machine
end

