-- ==== Sys2Proof/Machine/ImgCmds.lean ====
section
/-! DEFINITION. Peruhar images and section activation (R383–R389). The directory is `MntSt.active` and `MntSt.trial`. -/

namespace Sys2Proof.Machine

/-! ### Images in the NOR (R383–R385) -/

/-- NOR address of a Peruhar slot. -/
def slotBase (slot : Nat) : Nat := if slot = 0 then 0x0100000 else 0x3100000

/-- `n` payload bytes of a slot from payload offset `off` on: 4,092 of each block's 4,096 bytes. -/
def State.slotPayload (s : State) (slot off n : Nat) : Bytes :=
  (List.range n).map (fun i => s.nor.read (slotBase slot + (off + i) / 4092 * 4096 + (off + i) % 4092))

/-- Entry of the section table: target, version, first block, block count, hash. -/
def sectionAt (m : Bytes) (i : Nat) : Nat × Nat × Nat × Nat × Bytes :=
  let e := slice m (64 + 64 * i) 64
  (leNat (e.take 1), leNat (slice e 4 4), leNat (slice e 8 4), leNat (slice e 12 4), slice e 16 48)

def sectionCount (m : Bytes) : Nat := leNat (slice m 17 1)

/-- Every section's payload has the hash its manifest gives. -/
def State.hashesOk (s : State) (slot : Nat) (m : Bytes) : Bool :=
  (List.range (sectionCount m)).all (fun i =>
    let e := sectionAt m i
    sha384 (s.slotPayload slot (4092 * e.2.2.1) (4092 * e.2.2.2.1)) = e.2.2.2.2)

/-- The image of a slot where it is valid (R385). Block CRCs are checked as each block is programmed. -/
def State.imageIn (s : State) (slot : Nat) : Option ImageInfo :=
  let m := s.slotPayload slot 0 8184
  let key := leNat (slice m 3 1)
  let part := leNat (slice m 16 1)
  let count := sectionCount m
  if leNat (m.take 2) = 0x4E50 && leNat (slice m 2 1) = 1 && key < 4 && !bit s.fuses.revoked key
    && bit part (if s.is36 then 1 else 0) && 1 ≤ count && count ≤ 9
    && ecdsaVerify (Config.ecdsaKey key) (m.take 1024) (slice m 1024 96) && mldsaVerify (Config.mldsaKey key) (m.take 1024) (slice m 1120 3309)
    && s.hashesOk slot m then
    some { version := leNat (slice m 4 4), secVer := leNat (slice m 8 4), major := leNat (slice m 12 2), minor := leNat (slice m 14 2)
           sections := (List.range count).foldl (fun t i => t.put (sectionAt m i).1 (sectionAt m i).2.1) .empty }
  else none

/-! ### Installing (R386) -/

/-- The slot not active for target 0x01. -/
def MntSt.freeSlot (m : MntSt) : Nat := 1 - m.active % 2

/-- IMAGE_BEGIN. -/
def execImageBegin (head : SvcHead) (length : Nat) (s : State) : Outcome :=
  .next (s.svc head 0x10 (fun s =>
    if length = 0 || length % 4096 ≠ 0 || 48 * 2 ^ 20 < length then s.respond head 0x10 .badField []
    else if s.mnt.activation.isSome || (match s.mnt.install with | some i => i.session ≠ head.session | none => false) then
      s.respond head 0x10 .wrongState []
    else
      let slot := s.mnt.freeSlot
      let i : Install := { session := head.session, slot := slot, length := length, got := .empty, have_ := [], blocks := [] }
      State.respond { s with mnt := { s.mnt with install := some i, images := s.mnt.images.del slot } } head 0x10 .ok
        [BitVec.ofNat 8 slot, 0, 0, 0]))

/-- A block whose four pieces are present. -/
def Install.complete (i : Install) (blk : Nat) : Bool := (List.range 4).all (fun k => i.have_.contains (4096 * blk + 1024 * k))

/-- IMAGE_DATA: a complete block is programmed where its CRC checks; where it does not, the install has failed. -/
def execImageData (head : SvcHead) (offset : Nat) (piece : Bytes) (s : State) : Outcome :=
  .next (s.svc head 0x11 (fun s =>
    match s.mnt.install with
    | none => s.respond head 0x11 .wrongState []
    | some i =>
      if i.session ≠ head.session then s.respond head 0x11 .wrongState []
      else if offset % 1024 ≠ 0 || piece.length ≠ 1024 || i.length < offset + 1024 then s.respond head 0x11 .badField []
      else
        let i := { i with got := i.got.writeN offset piece, have_ := (offset :: i.have_).eraseDups }
        let blk := offset / 4096
        let answer := fun (s : State) (i : Install) =>
          State.respond { s with mnt := { s.mnt with install := some i } } head 0x11 .ok (be 4 offset ++ be 4 i.blocks.length)
        if !i.complete blk || i.blocks.contains blk then answer s i
        else
          let b := i.got.readN (4096 * blk) 4096
          if leNat (b.drop 4092) ≠ crc32c (b.take 4092) then
            State.respond { s with mnt := { s.mnt with install := none } } head 0x11 .imageInvalid []
          else
            answer { s with nor := s.nor.writeN (slotBase i.slot + 4096 * blk) b }
              { i with got := i.got.zero (4096 * blk) 4096, blocks := i.blocks ++ [blk] }))

/-- IMAGE_END: the whole slot is verified, or marked empty. -/
def execImageEnd (head : SvcHead) (s : State) : Outcome :=
  .next (s.svc head 0x12 (fun s =>
    match s.mnt.install with
    | none => s.respond head 0x12 .wrongState []
    | some i =>
      if i.session ≠ head.session then s.respond head 0x12 .wrongState []
      else
        let s := { s with mnt := { s.mnt with install := none } }
        match if i.blocks.length = i.length / 4096 then s.imageIn i.slot else none with
        | none => s.respond head 0x12 .imageInvalid []
        | some x =>
          if x.secVer < s.fuses.secVer then s.respond head 0x12 .rollback []
          else State.respond { s with mnt := { s.mnt with images := s.mnt.images.put i.slot x } } head 0x12 .ok
            (be 4 x.version ++ be 4 x.secVer ++ [BitVec.ofNat 8 i.slot, 0, 0, 0])))

/-! ### Activating (R387, R388) -/

/-- Directory bits of a target: one, or all nine of a whole image. -/
def targetBits (target : Nat) : Nat := if target = 0xFF then 0x1FF else 2 ^ (target - 1)

/-- The drain and restart of the activation's target begin (R387); in a revert the same (R388). A target whose domain is off is
loaded when that switches on. -/
def State.actBegin (s : State) : State :=
  match s.mnt.activation with
  | none => s
  | some a =>
    let ph := fun (s : State) (p : Nat) => ({ s with mnt := { s.mnt with activation := some { a with phase := if a.phase = 5 then 5 else p } } } : State)
    let s := if a.phase = 5 then s else { s with mnt := { s.mnt with trial := s.mnt.trial ||| targetBits a.target } }
    if a.target = 0xFF then (ph s 3).resetAssert 10 2
    else if a.target = 1 then (ph s 3).resetAssert 11 1
    else if !s.targetOn a.target then ph s 3
    else if a.target = 2 then (ph s 3).resetAssert 11 1
    else if a.target = 5 then
      let s := ph s 2
      State.rillDispatch { s with rill := { s.rill with holdNew := true } }
    else if a.target = 6 then
      let s := ph s 2
      State.swapDone { s with spc := { s.spc with swapHold := true } }
    else if a.target = 9 then
      let s := ph s 3
      State.actRestarted { s with thm := { s.thm with refill := true } }
    else (ph s 3).actRestarted

/-- ACTIVATE. -/
def execActivate (head : SvcHead) (target : Nat) (s : State) : Outcome :=
  .next (s.svc head 0x13 (fun s =>
    let slot := 1 - s.mnt.slotOf target
    if !(target = 0xFF || (1 ≤ target && target ≤ 9)) then s.respond head 0x13 .badField []
    else if s.rst.svcWait && target ≠ 0xFF then s.respond head 0x13 .romOnly []
    else match s.mnt.images.get? slot with
      | none => s.respond head 0x13 .imageInvalid []
      | some x =>
        if target ≠ 0xFF && !x.sections.has target then s.respond head 0x13 .imageInvalid []
        else if x.secVer < s.fuses.secVer then s.respond head 0x13 .rollback []
        else if s.mnt.activation.isSome || (target ≠ 0xFF && x.major ≠ s.mnt.major) then s.respond head 0x13 .wrongState []
        else
          let (s, v, _) := s.arrivalOf 8 none target head.force (some (head.session, head.request))
          let a : Activation := { target := target, phase := 1, slot := slot, forced := head.force, healthAt := none, failed := false }
          let s := ((s.setFld F.MNT_ACTV_TARGET (target % 16)).setFld F.MNT_ACTV_SLOT slot).setFld F.MNT_ACTV_FORCED (b2n head.force)
          let s := s.setFld F.MNT_ACTV_RESULT 0
          let s := { s with mnt := { s.mnt with activation := some a } }
          let s := s.respond head 0x13 (verdictStatus v) [BitVec.ofNat 8 target, BitVec.ofNat 8 v, BitVec.ofNat 8 slot, 0]
          if v = 1 || v = 5 then s else s.actBegin))

/-- Source of a target's own events; a whole image's are those of its control-core section. -/
def targetSource (target : Nat) : Nat := if target = 0xFF then 0xF21 else 0xF20 + target

/-- ACTIVATION_HEALTH_END (R388): `passed` is the target's health check, `previousOk` whether the previous slot's section
verifies. -/
def execActivationHealthEnd (passed previousOk : Bool) (s : State) : Outcome :=
  match s.mnt.activation with
  | none => .next s
  | some a =>
    match a.healthAt with
    | none => .next s
    | some t =>
      if a.phase ≠ 4 then .next s
      else
        let s := s.at t
        let m := targetBits a.target
        let off := fun (x : Nat) => x - (x &&& m)
        if passed && !a.failed then
          .next (State.setFld { s with mnt := { s.mnt with
            active := off s.mnt.active + (if a.slot = 1 then m else 0), trial := off s.mnt.trial, activation := none } } F.MNT_ACTV_RESULT 1)
        else if previousOk && s.secVerOk (1 - a.slot) then
          let s := s.raise (targetSource a.target) 2 0x06000000 []
          .next (State.actBegin ({ s with mnt := { s.mnt with
            trial := off s.mnt.trial, activation := some { a with phase := 5, slot := 1 - a.slot, healthAt := none } } } : State).wantPause)
        else
          let s := s.raise (targetSource a.target) 3 0x06000000 []
          .next (State.setFld { s with mnt := { s.mnt with activation := none } } F.MNT_ACTV_RESULT 3)

/-- SECVER_ADVANCE (R389). -/
def execSecverAdvance (head : SvcHead) (s : State) : Outcome :=
  .next (s.svc head 0x14 (fun s =>
    let v := s.slotSecVer (s.mnt.active % 2)
    if s.mnt.trial ≠ 0 || s.mnt.activation.isSome || (s.mnt.active ≠ 0 && s.mnt.active ≠ 0x1FF) then s.respond head 0x14 .wrongState []
    else if 32 < v || v < s.fuses.secVer then s.respond head 0x14 .badField []
    else State.respond { s with fuses := { s.fuses with secVer := v } } head 0x14 .ok (be 4 v)))

end Sys2Proof.Machine
end

