-- ==== Sys2Proof/Machine/BedSvc.lean ====
section
/-! DEFINITION. Service messages on beds (R65, R80, R110, R114, R390), key epochs (R154–R156) and the key store (R152, R153). -/

namespace Sys2Proof.Machine

/-! ### BED -/

/-- The body of a BED response. -/
def bedBody (op b bedId : Nat) : Bytes := [BitVec.ofNat 8 op, BitVec.ofNat 8 b, 0, 0] ++ be 8 bedId

/-- E of a creation in GiB: the one named, or a 256th of P's capacity within 2–1,024 (R76). -/
def createE (c : BedCreate) : Nat :=
  if c.eGib = 0 then clamp 2 1024 (cdiv (match c.drives.head? with | some d => d.sectors | none => 0) (262144 * 256)) else c.eGib

/-- E_idx: the one named, or three quarters of E. -/
def createIdx (c : BedCreate) : Nat := if c.eIdx = 0 then createE c * 3 / 4 else c.eIdx

/-- The operands of a creation lie in their ranges (R73, R76, R78). -/
def createFits (c : BedCreate) : Bool :=
  c.bed < 4 && 4 ≤ c.members && c.members ≤ 24 && [16, 32, 64, 128, 256].contains c.hMib
    && 1 ≤ c.fillWidth && c.fillWidth ≤ c.members - 2 && 8 ≤ c.openMax && c.openMax ≤ 128 && 1 ≤ c.spillGib && c.spillGib ≤ 64
    && 2 ≤ createE c && createE c ≤ 1024 && 1 ≤ createIdx c && createIdx c ≤ createE c - 1
    && c.slots.length = c.members && c.drives.length = c.members && c.slots.all (fun k => k < 24) && c.slots.eraseDups.length = c.members

/-- The condition of R74 and R110 that member `m`'s drive fails at a creation, 0 for none. -/
def State.createRefusal (s : State) (c : BedCreate) (m : Nat) : Nat :=
  let slot := c.slots.getD m 255
  match c.drives[m]? with
  | none => 1
  | some d =>
    if s.beds.vals.any (fun x => x.members.vals.any (fun y => y.slot = slot)) then 9
    else
      let r := refusal d 0 true
      if r ≠ 0 then r
      else if d.sectors < (if m < 2 then 262144 * (5 + createE c) else 262144 * 5) then 3
      else 0

/-- The bed as it is created: every Band Empty, every member active (R79, R80, R102). -/
def createBed (c : BedCreate) (k now : Nat) : Bed :=
  { Bed.init with
    owned := true, mounted := true, n := c.members, hMib := c.hMib, e := createE c, eIdx := createIdx c, fillW0 := c.fillWidth
    openMax0 := c.openMax, spill0 := c.spillGib, bedId := c.bedId, created := now, descGen := 1, bandCount := k
    members := (List.range c.members).foldl (fun t m => t.put m
      { slot := c.slots.getD m 255, st := 0, sectors := (match c.drives[m]? with | some d => d.sectors | none => 0)
        serial := (match c.drives[m]? with | some d => d.serial | none => []), eui := (match c.drives[m]? with | some d => d.eui | none => 0)
        append := 0, full := false, single := false, ures := [], failedAt := 0, idleAt := none, descGen := 1, offPending := false
        sbGen := 0, skipped := [] }) .empty }

/-- BED_CREATE (R73–R80, R376): the record is committed first; each drive is reserved and deallocated whole, and its common head
is written. -/
def execBedCreate (head : SvcHead) (c : BedCreate) (s : State) : Outcome :=
  .next (s.svc head 0x21 (fun s =>
    if !(createFits c) then s.respond head 0x21 .badField []
    else if (s.bed? c.bed).isSome || s.shelf.st ≠ .awake then s.respond head 0x21 .wrongState []
    else
      let bad := (List.range c.members).filter (fun m => s.createRefusal c m ≠ 0)
      if !bad.isEmpty then
        State.respond (bad.foldl (fun s m =>
          s.bedEvent (0xA10 + c.slots.getD m 0) 0 (0x20 + s.createRefusal c m) (bedCtx c.bed m (c.slots.getD m 0) 0 0 0 0)) s) head 0x21 .badField []
      else match bedBands c.hMib (createE c) (c.drives.map (·.sectors)) with
        | none => s.respond head 0x21 .badField []
        | some k =>
          match s.commitData { s.cfg.data with beds := s.cfg.data.beds.put c.bed ⟨c.bedId, s.fuses.serial, [], false⟩ } with
          | none => s.respond head 0x21 .noRoom []
          | some s =>
            let s := s.setBed c.bed (createBed c k s.dev)
            let s := { s with mram := s.mram.zero (0x1000000 + 0x200000 * c.bed) 0x200000 }
            let s := s.reserveBed c.bed
            let s := (List.range c.members).foldl (fun s m =>
              ((s.driveCmd c.bed m .dealloc 0 (match c.drives[m]? with | some d => d.sectors | none => 0) [] .dealloc).putSuper c.bed m false id).writeDesc c.bed m) s
            ((s.fixFill c.bed).syncDomains).respond head 0x21 .ok (bedBody 1 c.bed c.bedId)))

/-- BED_DELETE: refused while the bed holds a namespace. -/
def execBedDelete (head : SvcHead) (b : Nat) (s : State) : Outcome :=
  .next (s.svc head 0x21 (fun s =>
    match s.bed? b with
    | none => s.respond head 0x21 .badField []
    | some x =>
      if !x.owned || s.cfg.data.ns.vals.any (fun n => n.bed = b) then s.respond head 0x21 .wrongState []
      else
        match s.commitData { s.cfg.data with beds := s.cfg.data.beds.del b } with
        | none => s.respond head 0x21 .noRoom []
        | some s =>
          let s := x.members.vals.foldl (fun s y => s.dropReq y.slot) s
          let s := s.setActs (s.mnt.acts.filter (fun a => a.bed ≠ some b))
          let s := { s with
            beds := s.beds.del b, mram := s.mram.zero (0x1000000 + 0x200000 * b) 0x200000
            drv := { s.drv with cmds := s.drv.cmds.filterT (fun _ c => c.bed ≠ b) } }
          s.ledSync.syncDomains.respond head 0x21 .ok (bedBody 2 b 0)))

/-- BED_ADMIT_MEMBER (R110): a named drive, one that carries a superblock among them. -/
def execBedAdmitMember (head : SvcHead) (b m slot : Nat) (s : State) : Outcome :=
  .next (s.svc head 0x21 (fun s =>
    match s.bed? b, (s.port slot).info with
    | some x, some d =>
      if x.n ≤ m || 24 ≤ slot then s.respond head 0x21 .badField []
      else if !x.owned || s.shelf.st ≠ .awake || !downSt (x.memberSt m) then s.respond head 0x21 .wrongState []
      else
        let free := slot = x.slotOf m || s.beds.vals.all (fun y => y.members.vals.all (fun z => z.slot ≠ slot))
        let c := if free then refusal d (x.needSectors m) true else 9
        if c ≠ 0 then (s.bedEvent (0xA10 + slot) 0 (0x20 + c) (bedCtx b m slot 0 0 0 0)).respond head 0x21 .badField []
        else
          let (s, v, _) := s.admitDrive b m slot d head.force (some (head.session, head.request))
          s.respond head 0x21 (verdictStatus v) (bedBody 3 b 0)
    | none, _ => s.respond head 0x21 .badField []
    | _, none => s.respond head 0x21 .wrongState []))

/-- BED_READMIT_READ_ONLY (R114). -/
def execBedReadmitReadOnly (head : SvcHead) (b : Nat) (s : State) : Outcome :=
  .next (s.svc head 0x21 (fun s =>
    match s.bed? b with
    | none => s.respond head 0x21 .badField []
    | some x =>
      if !x.owned || x.st ≠ 3 || (s.bedRec b).full then s.respond head 0x21 .wrongState []
      else ((s.bedState b 4).resumeRebuild b).respond head 0x21 .ok (bedBody 4 b 0)))

/-- Every page of the index, and of the one it replaces, is to be written at the next checkpoint. -/
def State.pinIndex (s : State) (b : Nat) (old : List IndexEntry) : State :=
  s.modBed b (fun x => { x with pinned := ((x.index ++ old).map (fun e => Config.indexPage e.nsid e.key) ++ x.pinned).eraseDups })

/-- BED_REBUILD_INDEX (R65): `media` is what the members answer to the scan. -/
def execBedRebuildIndex (head : SvcHead) (b : Nat) (media : List MediaRead) (s : State) : Outcome :=
  .next (s.svc head 0x21 (fun s =>
    match s.bed? b with
    | none => s.respond head 0x21 .badField []
    | some x =>
      if !x.owned || !x.mounted || s.shelf.st ≠ .awake then s.respond head 0x21 .wrongState []
      else ((((s.countReads b media).walkJobs b (s.scanBed x media)).setIndex b (s.scanIndex media (s.scanBed x media))).pinIndex b x.index).respond head 0x21 .ok (bedBody 5 b 0)))

/-- BED_HANDOVER (R390 step 1): no capsule of the bed is accepted from now on; the drained bed goes over at the acknowledgement
of its final tick. -/
def execBedHandover (head : SvcHead) (b : Nat) (s : State) : Outcome :=
  .next (s.svc head 0x21 (fun s =>
    match s.bed? b with
    | none => s.respond head 0x21 .badField []
    | some x =>
      if !x.owned || !x.peerJoined || x.detached || s.shelf.st ≠ .awake || s.shelf.peerState ≠ 0 || s.gus.handover.isSome then
        s.respond head 0x21 .wrongState []
      else State.respond { s with gus := { s.gus with handover := some b } } head 0x21 .ok (bedBody 6 b 0)))

/-! ### EPOCH (R154–R156) -/

/-- Commits a namespace's new epochs: key store, configuration set, standby (R154). -/
def State.setEpochs (s : State) (nsid : Nat) (n : Namespace) (cur floor highest : Nat) : Option State :=
  match s.commitData { s.cfg.data with ns := s.cfg.data.ns.put nsid { n with epoch := cur } } with
  | none => none
  | some s => some ((s.putEpochs nsid floor highest).delta n.bed (.epoch nsid cur floor highest))

/-- EPOCH_ADVANCE. -/
def execEpochAdvance (head : SvcHead) (nsid : Nat) (s : State) : Outcome :=
  .next (s.svc head 0x22 (fun s =>
    match s.cfg.data.ns.get? nsid with
    | none => s.respond head 0x22 .badField []
    | some n =>
      let (floor, highest) := s.epochsOf nsid
      if 0xFFFFFFFF ≤ highest then s.respond head 0x22 .wrongState []
      else match s.setEpochs nsid n (highest + 1) floor (highest + 1) with
        | none => s.respond head 0x22 .noRoom []
        | some s => s.respond head 0x22 .ok (s.epochBody nsid 0)))

/-- EPOCH_REWRAP: activity 7. -/
def execEpochRewrap (head : SvcHead) (nsid : Nat) (s : State) : Outcome :=
  .next (s.svc head 0x22 (fun s =>
    match s.cfg.data.ns.get? nsid with
    | none => s.respond head 0x22 .badField []
    | some n =>
      if n.epoch = (s.epochsOf nsid).1 then s.respond head 0x22 .wrongState []
      else
        let (s, v, _) := s.arrivalOf 7 (some n.bed) nsid head.force (some (head.session, head.request))
        let s := if v = 0 || v = 3 then s.modBed n.bed (fun x => { x with rewrap := some nsid }) else s
        s.respond head 0x22 (verdictStatus v) (s.epochBody nsid 0)))

/-- Live records of a namespace's objects sealed at or below `e`: chunk records and commit record of each (R156). -/
def liveAtOrBelow (l : List IndexEntry) (nsid chunk e : Nat) : Nat :=
  sumN ((l.filter (fun x => x.nsid = nsid && x.epoch ≤ e)).map (fun x => cdiv x.valueLen (max 1 chunk) + 1))

/-- EPOCH_RETIRE: `blocks` counts the live block records at or below `e`, whose epochs lie in their headers on the members. -/
def execEpochRetire (head : SvcHead) (nsid e blocks : Nat) (s : State) : Outcome :=
  .next (s.svc head 0x22 (fun s =>
    match s.cfg.data.ns.get? nsid with
    | none => s.respond head 0x22 .badField []
    | some n =>
      let idx := match s.bed? n.bed with | some x => x.index | none => []
      let (floor, highest) := s.epochsOf nsid
      if n.epoch ≤ e then s.respond head 0x22 .badField []
      else if idx.any (fun x => x.nsid = nsid && x.epoch ≤ e && s.objHeld x) then s.respond head 0x22 .retentionHeld []
      else
        let count := liveAtOrBelow idx nsid n.chunk e + blocks
        match s.setEpochs nsid n n.epoch (max floor (e + 1)) highest with
        | none => s.respond head 0x22 .noRoom []
        | some s =>
          let w : RetireWait := { session := head.session, request := head.request, nsid := nsid, upTo := e, count := count }
          State.retireAnswers { s with mnt := { s.mnt with retires := s.mnt.retires ++ [w] } }))

/-! ### KEY (R152, R153, R156) -/

/-- CPH_KEY.STATE. -/
def State.keyState (s : State) : Nat := if s.cph.noCopy then 3 else match s.store with | some k => k.state | none => 3

/-- The body of a KEY response. -/
def State.keyBody (s : State) (op : Nat) : Bytes :=
  [BitVec.ofNat 8 op, BitVec.ofNat 8 s.keyState, 0, 0]
    ++ (match s.store with | some k => if s.keyState = 1 then k.kcv else zeros 4 | none => zeros 4)

/-- KEY_PAIRING_SECRET: kept for 10 min. -/
def execKeyPairingSecret (head : SvcHead) (secret : Bytes) (s : State) : Outcome :=
  .next (s.svc head 0x23 (fun s =>
    let s := { s with cph := { s.cph with secret := some secret, secretAt := some (s.now + sec 600) } }
    s.keyNote.respond head 0x23 .ok (s.keyBody 1)))

/-- PAIRING_SECRET_EXPIRY. -/
def execPairingSecretExpiry (s : State) : Outcome :=
  match s.cph.secretAt with
  | none => .next s
  | some t =>
    let s := s.at t
    .next { s with cph := { s.cph with secret := none, secretAt := none } }

/-- KEY_GENERATE: K_domain from the random bit generator, into an empty store. -/
def execKeyGenerate (head : SvcHead) (s : State) : Outcome :=
  .next (s.svc head 0x23 (fun s =>
    if s.keyState ≠ 0 then s.respond head 0x23 .wrongState []
    else
      let k := randomBytes s.mnt.randoms ++ randomBytes (s.mnt.randoms + 1)
      let s := State.installKey { s with mnt := { s.mnt with randoms := s.mnt.randoms + 2 }, cph := { s.cph with peerMatch := false } } k
      s.keyNote.respond head 0x23 .ok (s.keyBody 2)))

/-- KEY_TRANSFER: K_domain sealed under the transport key, in a PAIRING frame (R153, R220). -/
def execKeyTransfer (head : SvcHead) (receiver : Nat) (s : State) : Outcome :=
  .next (s.svc head 0x23 (fun s =>
    match s.cph.secret, s.cph.kDomain, s.store with
    | some sec, some k, some st =>
      if s.keyState ≠ 1 || !s.gus.link then s.respond head 0x23 .wrongState []
      else
        let iv := (randomBytes s.mnt.randoms).take 12
        let sealed := gcmSeal (transportKey sec s.fuses.serial receiver) iv st.kcv k
        let s := { s with mnt := { s.mnt with randoms := s.mnt.randoms + 1 }, cph := { s.cph with pairing := some receiver } }
        let s := s.gusControl 0xFF 8 (be 8 s.fuses.serial ++ be 8 receiver ++ iv ++ sealed.1 ++ sealed.2 ++ st.kcv)
        s.respond head 0x23 .ok (s.keyBody 3)
    | _, _, _ => s.respond head 0x23 .wrongState []))

/-- KEY_ESCROW_SEND: the operator's serial field is zero. The transfer ends, so the secret is forgotten. -/
def execKeyEscrowSend (head : SvcHead) (iv sealed tag kcv : Bytes) (s : State) : Outcome :=
  .next (s.svc head 0x23 (fun s =>
    match s.cph.secret with
    | none => s.respond head 0x23 .wrongState []
    | some sec =>
      if s.keyState ≠ 0 then s.respond head 0x23 .wrongState []
      else
        let s := { s with cph := { s.cph with secret := none, secretAt := none } }
        match gcmOpen (transportKey sec 0 s.fuses.serial) iv kcv sealed tag with
        | none => s.respond head 0x23 .badField []
        | some k =>
          if keyCheckValue k ≠ kcv then s.respond head 0x23 .badField []
          else
            let s := (s.installKey k).keyNote
            s.respond head 0x23 .ok (s.keyBody 4)))

/-- The store in a state without a key: the wrapped key is erased in both copies, the key unit and the cache are cleared. -/
def State.eraseKey (s : State) (state : Nat) : State :=
  let e := match s.store with | some o => o.epochs | none => .empty
  -- a derivation in progress ends, and the jobs that wait for it find no key (R151, R156)
  let jobs := s.cph.jobs.map (fun (j : CphJob) => if j.phase = 0 then { j with phase := 1 } else j)
  let s := State.cphDispatch { s with cph := { s.cph with deriving_ := none, jobs := jobs } }
  State.putStore { s with cph := { s.cph with kDomain := none, cache := [], peerMatch := false, noCopy := false } }
    { state := state, gen := 0, serial := s.fuses.serial, kcv := zeros 4, wrapped := [], tag := [], epochs := e }

/-- KEY_ZEROIZE (R156). -/
def execKeyZeroize (head : SvcHead) (confirm : Nat) (s : State) : Outcome :=
  .next (s.svc head 0x23 (fun s =>
    if confirm ≠ 0xA5C3 then s.respond head 0x23 .badField []
    else
      let s := (s.eraseKey 2).keyNote
      s.respond head 0x23 .ok (s.keyBody 5)))

/-- KEY_STORE_RESET: to empty; refused while a key is installed. -/
def execKeyStoreReset (head : SvcHead) (confirm : Nat) (s : State) : Outcome :=
  .next (s.svc head 0x23 (fun s =>
    if confirm ≠ 0xA5C3 then s.respond head 0x23 .badField []
    else if s.keyState = 1 then s.respond head 0x23 .wrongState []
    else
      let s := (s.eraseKey 0).keyNote
      s.respond head 0x23 .ok (s.keyBody 6)))

end Sys2Proof.Machine
end

