-- ==== Sys2Proof/Machine/FleetSvc.lean ====
section
/-! DEFINITION. Service messages on the rack, tenants, units and Rill jobs (R54, R122, R199, R246, R253, R259, R347, R382,
R391–R393). -/

namespace Sys2Proof.Machine

/-! ### RACK -/

/-- The body of a RACK response. -/
def State.rackBody (s : State) (op : Nat) : Bytes := [BitVec.ofNat 8 op, 0, 0, 0] ++ be 8 s.rack.epoch

/-- RACK_RECORD_PIECE (R246, R382): `table`, `budget` and `allow` are what the complete record says. -/
def execRackRecordPiece (head : SvcHead) (offset : Nat) (piece : Bytes) (last : Bool) (table : List RackEntry) (budget allow : Word)
    (s : State) : Outcome :=
  .next (s.svc head 0x24 (fun s =>
    let value := layPiece (s.mnt.rackPieces.getD 0 []) piece offset
    if 1024 < piece.length || 65535 < value.length then s.respond head 0x24 .badField []
    else if !last then State.respond { s with mnt := { s.mnt with rackPieces := s.mnt.rackPieces.put 0 value } } head 0x24 .ok (s.rackBody 1)
    else
      let s := { s with mnt := { s.mnt with rackPieces := .empty } }
      if !rackTableOk table then s.respond head 0x24 .badField []
      else
        match s.commitData (s.cfg.data.withRecord 0xF030 value [] table) with
        | none => s.respond head 0x24 .noRoom []
        | some s =>
          let s := (s.putBudgets budget allow).sendOwed
          s.respond head 0x24 .ok (s.rackBody 1)))

/-- RACK_KEY. -/
def execRackKey (head : SvcHead) (key : Bytes) (s : State) : Outcome :=
  .next (s.svc head 0x24 (fun s =>
    match s.commitData { s.cfg.data with rackKey := some (s.wrapKeyAs 1 key) } with
    | none => s.respond head 0x24 .noRoom []
    | some s => s.respond head 0x24 .ok (s.rackBody 2)))

/-- RACK_RELEASE: only the lease holder's; it stops managing and its view expires at once (R250, R253). -/
def execRackRelease (head : SvcHead) (s : State) : Outcome :=
  .next (s.svc head 0x24 (fun s =>
    if s.rack.role ≠ 2 then s.respond head 0x24 .wrongState []
    else
      let s := (s.rackSend 0xFFFE 9 []).rackStop
      let s := { s with rack := { s.rack with view := s.rack.view.map (fun (v : Nat × Nat) => (v.1, 0)) } }
      s.respond head 0x24 .ok (s.rackBody 3)))

/-- RACK_WAKE (R259). -/
def execRackWake (head : SvcHead) (s : State) : Outcome :=
  .next (s.svc head 0x24 (fun s => (s.sendWake 3).respond head 0x24 .ok (s.rackBody 4)))

/-! ### TENANT -/

/-- The body of a TENANT response: the prefixes held. -/
def State.tenantBody (s : State) (op pos : Nat) : Bytes :=
  [BitVec.ofNat 8 op, 0] ++ be 2 pos ++ be 4 (match s.cfg.data.tenants.get? pos with | some t => t.prefixes.length | none => 0)

/-- Commits a changed tenant table and answers (R376). -/
def State.putTenants (s : State) (head : SvcHead) (op pos : Nat) (t : Tab Tenant) (after : State → State) : State :=
  match s.commitData { s.cfg.data with tenants := t } with
  | none => s.respond head 0x25 .noRoom []
  | some s =>
    let s := after s
    s.respond head 0x25 .ok (s.tenantBody op pos)

/-- A change of one tenant that exists. -/
def State.onTenant (s : State) (head : SvcHead) (op pos : Nat) (f : Tenant → Option Tenant) (after : State → State) : State :=
  match s.cfg.data.tenants.get? pos with
  | none => s.respond head 0x25 .badField []
  | some t =>
    match f t with
    | none => s.respond head 0x25 .noRoom []
    | some t => s.putTenants head op pos (s.cfg.data.tenants.put pos t) after

/-- TENANT_WRITE_ENTRY: a new entry is active and without prefixes; an existing one keeps both. -/
def execTenantWriteEntry (head : SvcHead) (pos id : Nat) (name : Bytes) (s : State) : Outcome :=
  .next (s.svc head 0x25 (fun s =>
    if 4096 ≤ pos || id = 0 || 32 < name.length || s.cfg.data.tenants.entries.any (fun e => e.1 ≠ pos && e.2.id = id) then
      s.respond head 0x25 .badField []
    else
      let t : Tenant := match s.cfg.data.tenants.get? pos with
        | some t => { t with id := id, name := name }
        | none => { id := id, name := name, prefixes := [], suspended := false }
      s.putTenants head 1 pos (s.cfg.data.tenants.put pos t) (fun s => s)))

/-- TENANT_DELETE_ENTRY. -/
def execTenantDeleteEntry (head : SvcHead) (pos : Nat) (s : State) : Outcome :=
  .next (s.svc head 0x25 (fun s =>
    match s.cfg.data.tenants.get? pos with
    | none => s.respond head 0x25 .badField []
    | some t =>
      if s.cfg.data.ns.vals.any (fun n => n.tenant = t.id) then s.respond head 0x25 .wrongState []
      else s.putTenants head 2 pos (s.cfg.data.tenants.del pos) (fun s => s)))

/-- Revokes every window of the associations of the tenant at a position (R199). -/
def State.revokeTenant (s : State) (pos : Nat) : State :=
  s.slu.windows.entries.foldl (fun s e =>
    match s.assoc? e.2.assoc with
    | some a => if a.tenant = pos then s.winRevoke e.1 else s
    | none => s) s

/-- TENANT_SUSPEND. -/
def execTenantSuspend (head : SvcHead) (pos : Nat) (s : State) : Outcome :=
  .next (s.svc head 0x25 (fun s =>
    s.onTenant head 3 pos (fun t => some { t with suspended := true }) (fun s => s.revokeTenant pos)))

/-- TENANT_RESUME. -/
def execTenantResume (head : SvcHead) (pos : Nat) (s : State) : Outcome :=
  .next (s.svc head 0x25 (fun s => s.onTenant head 4 pos (fun t => some { t with suspended := false }) (fun s => s)))

/-- TENANT_ADD_PREFIX: up to 8. -/
def execTenantAddPrefix (head : SvcHead) (pos : Nat) (pre : Bytes) (s : State) : Outcome :=
  .next (s.svc head 0x25 (fun s =>
    if pre.length = 0 || 223 < pre.length then s.respond head 0x25 .badField []
    else s.onTenant head 5 pos (fun t => if 8 ≤ t.prefixes.length then none else some { t with prefixes := t.prefixes ++ [pre] }) (fun s => s)))

/-- TENANT_CLEAR_PREFIXES. -/
def execTenantClearPrefixes (head : SvcHead) (pos : Nat) (s : State) : Outcome :=
  .next (s.svc head 0x25 (fun s => s.onTenant head 6 pos (fun t => some { t with prefixes := [] }) (fun s => s)))

/-- TENANT_REVOKE_WINDOW (R199): a window of an association of that tenant. -/
def execTenantRevokeWindow (head : SvcHead) (pos window : Nat) (s : State) : Outcome :=
  .next (s.svc head 0x25 (fun s =>
    let mine := match s.slu.windows.get? window with
      | some w => (match s.assoc? w.assoc with | some a => decide (a.tenant = pos) | none => false)
      | none => false
    if !s.cfg.data.tenants.has pos || !mine then s.respond head 0x25 .badField []
    else
      let s := s.winRevoke window
      s.respond head 0x25 .ok (s.tenantBody 7 pos)))

/-! ### UNIT -/

/-- The body of a UNIT response. -/
def State.unitBody (s : State) (op id : Nat) : Bytes :=
  [BitVec.ofNat 8 op, 0] ++ be 2 id
    ++ be 4 (if op ≤ 3 then ((s.srcFields id).foldl (fun w f => putBits w f.1 f.2.1 f.2.2) (0 : Word)).toNat else 0)

/-- UNIT_FENCE (R392). -/
def execUnitFence (head : SvcHead) (src : Nat) (s : State) : Outcome :=
  .next (s.svc head 0x26 (fun s =>
    if !s.listed src then s.respond head 0x26 .badField []
    else match s.thmFence src with
      | (s, refused) => if refused then s.respond head 0x26 .wrongState [] else s.respond head 0x26 .ok (s.unitBody 1 src)))

/-- UNIT_READMIT (R392, R393). -/
def execUnitReadmit (head : SvcHead) (src : Nat) (s : State) : Outcome :=
  .next (s.svc head 0x26 (fun s =>
    if !s.listed src then s.respond head 0x26 .badField []
    else
      let s := s.serviceReadmit src
      s.respond head 0x26 .ok (s.unitBody 2 src)))

/-- UNIT_CLEAR_PERMANENT (R347, R354). -/
def execUnitClearPermanent (head : SvcHead) (src : Nat) (s : State) : Outcome :=
  .next (s.svc head 0x26 (fun s =>
    if !s.listed src then s.respond head 0x26 .badField []
    else
      let s := s.clearPermanent src
      s.respond head 0x26 .ok (s.unitBody 3 src)))

/-- LANE_RECALIBRATION (R391). -/
def execLaneRecalibration (head : SvcHead) (port : Nat) (s : State) : Outcome :=
  .next (s.svc head 0x26 (fun s =>
    let ok := fun (s : State) => s.respond head 0x26 .ok (s.unitBody 4 port)
    if port < s.nNet then ok (s.linkLost port)
    else if port = 0x10 then ok s.gusRetrain
    else if 0x20 ≤ port && port < 0x38 then
      (if !(s.port (port - 0x20)).peerLink then s.respond head 0x26 .wrongState [] else ok (s.driveLinkDown (port - 0x20) true))
    else s.respond head 0x26 .badField []))

/-- DDR_RETIREMENT (R393): Open Bands are force-closed, the channel retires and its domain goes off. Which Bands lie on a channel is
not given; every Open Band with accumulators is closed. -/
def execDdrRetirement (head : SvcHead) (chan : Nat) (s : State) : Outcome :=
  .next (s.svc head 0x26 (fun s =>
    if chan = 0 then s.respond head 0x26 .wrongState []
    else if !s.chansIn.contains chan then s.respond head 0x26 .badField []
    else if !s.mapsFit (s.chansIn.filter (fun c => c ≠ chan)) 0 then s.respond head 0x26 .noRoom []
    else
      let s := s.beds.entries.foldl (fun s e => if e.2.owned && e.2.mounted then s.forceClose e.1 e.2.openBands else s) s
      let s := (s.setFld (F.DDR_STAT_RETIRED chan) 1).syncDomains
      s.respond head 0x26 .ok (s.unitBody 5 chan)))

/-! ### RILL_JOB (R122, R382) -/

/-- Bytes of the service area of Cistern for input, and the same for output. -/
def svcArea : Nat := 1048712

/-- RILL_JOB_BEGIN. -/
def execRillJobBegin (head : SvcHead) (d : RillDesc) (s : State) : Outcome :=
  .next (s.svc head 0x27 (fun s =>
    if (match s.mnt.svcJob with | some j => decide (j.session ≠ head.session) | none => false) then s.respond head 0x27 .wrongState []
    else if d.inputAddr ≠ 0 || d.outputAddr ≠ 0 || svcArea < d.inputLen || svcArea < d.outputLen then s.respond head 0x27 .badField []
    else
      let j : SvcJob := { session := head.session, desc := d, input := .empty, output := [] }
      State.respond { s with mnt := { s.mnt with svcJob := some j } } head 0x27 .ok []))

/-- What a message does with the job its own session holds. -/
def State.onJob (s : State) (head : SvcHead) (f : SvcJob → State) : State :=
  match s.mnt.svcJob with
  | some j => if j.session = head.session then f j else s.respond head 0x27 .wrongState []
  | none => s.respond head 0x27 .wrongState []

/-- RILL_JOB_INPUT_PIECE. -/
def execRillJobInputPiece (head : SvcHead) (offset : Nat) (piece : Bytes) (s : State) : Outcome :=
  .next (s.svc head 0x27 (fun s => s.onJob head (fun j =>
    if piece.isEmpty || 1024 < piece.length || svcArea < offset + piece.length then s.respond head 0x27 .badField []
    else State.respond { s with mnt := { s.mnt with svcJob := some { j with input := j.input.writeN offset piece } } } head 0x27 .ok [])))

/-- RILL_JOB_RUN: the job is submitted; its response, with the completion record, goes when it completes. -/
def execRillJobRun (head : SvcHead) (s : State) : Outcome :=
  .next (s.svc head 0x27 (fun s => s.onJob head (fun j =>
    s.rillSubmit j.desc (j.input.readN 0 j.desc.inputLen) true true (some (head.session, head.request)))))

/-- RILL_JOB_READ_OUTPUT. -/
def execRillJobReadOutput (head : SvcHead) (offset len : Nat) (s : State) : Outcome :=
  .next (s.svc head 0x27 (fun s => s.onJob head (fun j =>
    if 1024 < len then s.respond head 0x27 .badField []
    else
      let b := slice j.output offset len
      s.respond head 0x27 .ok (be 4 offset ++ be 2 b.length ++ [0, 0] ++ b))))

/-- RILL_JOB_END. -/
def execRillJobEnd (head : SvcHead) (s : State) : Outcome :=
  .next (s.svc head 0x27 (fun s => s.onJob head (fun _ =>
    State.respond { s with mnt := { s.mnt with svcJob := none } } head 0x27 .ok [])))

end Sys2Proof.Machine
end

