-- ==== Sys2Proof/Machine/ActCmds.lean ====
section
/-! DEFINITION. The ACTIVITY message and deferred starts (R370–R373). -/

namespace Sys2Proof.Machine

/-- The body of an ACTIVITY response to a start or a withdrawal. -/
def actBody (v code bed handle : Nat) : Bytes := [BitVec.ofNat 8 v, BitVec.ofNat 8 code, BitVec.ofNat 8 bed, 0] ++ be 4 handle

/-- The controller stands by for some bed (R243). -/
def State.standsBy (s : State) : Bool := s.beds.vals.any (fun x => !x.owned && x.joined)

/-- A self-test asked for through the service protocol or deferred begins; `arg` is its NSID. -/
def State.goTest (s : State) (kind nsid starter : Nat) : State := (s.applyFld F.CMD_CFG_DST_GAP).beginTest kind nsid starter

/-- ACTIVITY start of a checkpoint of every Open Band (code 5): the verdict, and the handle where one is deferred. -/
def State.actCkpt (s : State) (head : SvcHead) (b : Nat) (x : Bed) : State × Nat × Nat :=
  let busy := x.ckpts.flatMap (·.bands)
  let ks := x.openBands.filter (fun k => !busy.contains k && !s.deferred 5 (some b) k)
  let v := if ks.isEmpty then 4 else (s.judge 5 (some b) (ks.headD 0) false).1
  let h := s.mnt.nextHandle
  let s := s.startCkpt b x.openBands 1 false
  let s := if v = 1 then s.setActs (s.mnt.acts.map (fun a => if a.handle = h then { a with session := some (head.session, head.request) } else a)) else s
  (s, v, if v = 4 then 0 else h)

/-- ACTIVITY_START (R371, R382). -/
def execActivityStart (head : SvcHead) (code bed : Nat) (s : State) : Outcome :=
  .next (s.svc head 0x20 (fun s =>
    let ans := fun (s : State) (v h : Nat) => s.respond head 0x20 (verdictStatus v) (actBody v code bed h)
    let sess := some (head.session, head.request)
    if code = 1 || code = 2 then
      let (s, v, h) := s.arrivalOf code none 0 head.force sess
      ans (if v = 0 || v = 3 then s.goTest code 0 0xFFFF else s) v h
    else if code = 10 then
      if !s.standsBy then s.respond head 0x20 .wrongState []
      else
        let (s, v, h) := s.arrivalOf 10 none 0 head.force sess
        ans s v h
    else if code = 5 || code = 6 then
      match s.bed? bed with
      | none => s.respond head 0x20 .badField []
      | some x =>
        if !x.owned || !x.mounted || x.st = 3 || x.st = 4 then s.respond head 0x20 .wrongState []
        else if code = 5 then
          let (s, v, h) := s.actCkpt head bed x
          ans s v h
        else
          let (s, v, h) := s.arrivalOf 6 (some bed) 0 head.force sess
          let s := if v = 0 || v = 3 then (if x.bestRow.isNone then s.actEndAny 6 (some bed) else s.beginCompact bed) else s
          ans s v h
    else s.respond head 0x20 .badField []))

/-- ACTIVITY_WITHDRAW (R373): a start that still waits. -/
def execActivityWithdraw (head : SvcHead) (handle : Nat) (s : State) : Outcome :=
  .next (s.svc head 0x20 (fun s =>
    match s.mnt.acts.find? (fun a => a.handle = handle) with
    | none => s.respond head 0x20 .badField []
    | some a =>
      if a.st ≠ 1 then s.respond head 0x20 .wrongState []
      else
        let s := s.setActs (s.mnt.acts.filter (fun x => x.handle ≠ handle))
        let s := if a.code = 8 then { s with mnt := { s.mnt with activation := none } } else s
        s.respond head 0x20 .ok (actBody 1 a.code (a.bed.getD 0xFF) handle)))

/-- ACTIVITY_REPORT: up to 64 entries. -/
def execActivityReport (head : SvcHead) (s : State) : Outcome :=
  .next (s.svc head 0x20 (fun s =>
    let l := s.mnt.acts.take 64
    s.respond head 0x20 .ok ([BitVec.ofNat 8 l.length, 0, 0, 0]
      ++ (l.map (fun a => [BitVec.ofNat 8 a.code, BitVec.ofNat 8 (a.bed.getD 0xFF), BitVec.ofNat 8 a.st, 0] ++ be 4 a.handle)).flatten)))

/-! ### Deferred starts (R371, R373) -/

/-- The cause of a deferred start is gone: it lapses without effect (R373). -/
def State.lapsed (s : State) (a : Activity) : Bool :=
  let x := (a.bed.bind s.bed?).getD Bed.init
  if a.code = 1 || a.code = 2 then s.cmd.selfTest.isSome
  else if a.code = 3 then x.rebuild.isNone && x.queued.isEmpty
  else if a.code = 4 then x.resync.isEmpty
  else if a.code = 5 then (x.band a.arg).st ≠ 1 || (x.ckpts.flatMap (·.bands)).contains a.arg
  else if a.code = 6 then x.compact.isSome || x.bestRow.isNone || max 1 (s.fld (F.BED_CFG_FREE_MIN (a.bed.getD 0))) ≤ x.freeRows
  else if a.code = 7 then (s.cfg.data.ns.get? a.arg).isNone || x.rewrap.isSome
  else if a.code = 8 then (match s.mnt.activation with | some v => v.phase ≠ 1 | none => true)
  else if a.code = 9 then !downSt (x.memberSt (a.arg / 32)) || (s.port (a.arg % 32)).info.isNone
  else !s.standsBy

/-- A deferred activity runs from now: its entry is a running one, or the start makes its own. -/
def State.startDeferred (s : State) (a : Activity) : State :=
  let b := a.bed.getD 0
  let run := s.setActs (s.mnt.acts.map (fun x => if x.handle = a.handle then { x with st := 0 } else x))
  let gone := s.setActs (s.mnt.acts.filter (fun x => x.handle ≠ a.handle))
  if a.code = 1 || a.code = 2 then run.goTest a.code a.arg a.starter
  else if a.code = 3 then
    (match (s.bed? b).bind (·.rebuild) with
     | some _ => run.modBed b (fun y => { y with rebuild := y.rebuild.map (fun r => { r with paused := false, pauseWanted := false }) })
     | none => run.startRebuild b)
  else if a.code = 5 then gone.startCkpt b [a.arg] 1 false
  else if a.code = 6 then run.beginCompact b
  else if a.code = 7 then run.modBed b (fun x => { x with rewrap := some a.arg })
  else if a.code = 8 then
    State.actBegin { run with mnt := { run.mnt with activation := run.mnt.activation.map (fun v => { v with phase := 2 }) } }
  else if a.code = 9 then
    (match (s.port (a.arg % 32)).info with
     | some d => run.admitNow b (a.arg / 32) (a.arg % 32) d
     | none => gone)
  else run

/-- The second response of a deferred start, with the same request ID (R381). -/
def State.secondResponse (s : State) (a : Activity) (v : Nat) : State :=
  match a.session with
  | none => s
  | some (session, request) =>
    let st := verdictStatus v
    let b := a.bed.getD 0xFF
    let r : SvcResp :=
      if a.code = 8 then ⟨session, request, 0x13, st, [BitVec.ofNat 8 a.arg, BitVec.ofNat 8 v, BitVec.ofNat 8 (1 - s.mnt.slotOf a.arg), 0]⟩
      else if a.code = 9 then ⟨session, request, 0x21, st, bedBody 3 b 0⟩
      else if a.code = 7 then ⟨session, request, 0x22, st, s.epochBody a.arg 0⟩
      else ⟨session, request, 0x20, st, actBody v a.code b a.handle⟩
    s.svcEmit r

/-- An earlier deferred start, neither lapsed nor still deferred, goes first: deferred starts are kept in arrival order (R371). -/
def State.earlierStart (s : State) (handle : Nat) : Bool :=
  (s.mnt.acts.takeWhile (fun a => a.handle ≠ handle)).any (fun a =>
    a.st = 1 && !s.lapsed a && (match s.judge a.code a.bed a.arg a.forced with | (v, _) => v ≠ 1 && v ≠ 5))

/-- DEFERRED_ACTIVITY_START: a waiting start is judged against what still runs; it begins, keeps waiting, or lapses. A forced
activation begins once every rebuild it met has paused. -/
def execDeferredActivityStart (handle : Nat) (s : State) : Outcome :=
  match s.mnt.acts.find? (fun a => a.handle = handle && a.st = 1) with
  | none => .next s
  | some a =>
    let gone := s.setActs (s.mnt.acts.filter (fun x => x.handle ≠ handle))
    if s.lapsed a then .next (if a.code = 8 then { gone with mnt := { gone.mnt with activation := none } } else gone)
    else
      let (v, running) := gone.judge a.code a.bed a.arg a.forced
      if v = 1 || v = 5 || s.earlierStart handle then .next s
      else if v = 2 || v = 4 then .next ((gone.noteVerdict v a.code running a.bed).secondResponse a v)
      else
        let s := s.noteVerdict v a.code running a.bed
        let s := if v = 3 then s.pauseTests a.code a.bed a.arg else s
        .next ((s.secondResponse a v).startDeferred a)

end Sys2Proof.Machine
end

