-- ==== Sys2Proof/Machine/MiscCmds.lean ====
section
/-! DEFINITION. Temperature reporting, the BMC port and the console's RESET (R378, R408). -/

namespace Sys2Proof.Machine

/-- The temperature is at or above a threshold of Feature 04h of some controller, in kelvin, or at or above 110 °C. -/
def State.tooHot (s : State) (t : Nat) : Bool :=
  110 ≤ t || s.cmd.assocs.vals.any (fun a =>
    let k := a.tempThr % 65536
    !a.ended && a.tempThr / 2 ^ 20 % 4 = 0 && 0 < k && k ≤ t + 273)

/-- TEMPERATURE_SENSOR_READ (R408): the readings of the junction sensors in °C. A record at and above 105 °C; SMART critical warning
bit 1 where it is too hot, with an enabled event when it becomes so (assumption 13 for its Dword 0). -/
def execTemperatureSensorRead (readings : List Nat) (s : State) : Outcome :=
  let t := readings.foldl max 0
  let s := { s with cmd := { s.cmd with temp := t } }
  let s := if 105 ≤ t then s.note 0x07 s.supplyCtx else s
  let was := bit s.cmd.smartWarn 1
  let s := { s with cmd := { s.cmd with smartWarn := setBit s.cmd.smartWarn 1 (s.tooHot t) } }
  .next (if s.tooHot t && !was then
    s.cmd.assocs.entries.foldl (fun s e => if !e.2.ended && bit e.2.aerCfg 1 then s.aer e.1 0x020101 else s) s
  else s)

/-- BMC_MANAGEMENT_COMMAND (R408): the 32 bytes of the NVMe-MI basic management command; byte 3 is the composite temperature, the
others are not given (assumption 13). -/
def execBmcManagementCommand (s : State) : Outcome :=
  .next (if !s.svcPort then s
    else s.emit (.bmc ((List.range 32).map (fun i => if i = 3 then BitVec.ofNat 8 (min 127 s.cmd.temp) else Config.pageByte 0xB000 i))))

/-- CONSOLE_RESET (R378): level 1 core, 2 system, as the service port's RESET. -/
def execConsoleReset (level : Nat) (s : State) : Outcome :=
  .next (if s.svcPort && (level = 1 || level = 2) then s.resetAssert 10 level else s)

end Sys2Proof.Machine
end

