-- ==== Sys2Proof/Machine/Dispatch.lean ====
section
/-! DEFINITION. One arm per command: each is one direct call of its meaning. -/

namespace Sys2Proof.Machine

/-- The effect of a command on everything but the queue. -/
def exec (i : Instr) (s : State) : Host.Outcome State Fault Refusal :=
  match i with
  | .registerWrite path addr be value => Sys2Proof.Machine.execRegisterWrite path addr be value s
  | .readClearAccess path addr be => Sys2Proof.Machine.execReadClearAccess path addr be s
  | .loReadLatch path addr => Sys2Proof.Machine.execLoReadLatch path addr s
  | .connect cap req => Sys2Proof.Machine.execConnect cap req s
  | .propertyGet cap offset => Sys2Proof.Machine.execPropertyGet cap offset s
  | .windowRegister cap => Sys2Proof.Machine.execWindowRegister cap s
  | .windowRevokeProperty cap => Sys2Proof.Machine.execWindowRevokeProperty cap s
  | .propertySet cap offset value => Sys2Proof.Machine.execPropertySet cap offset value s
  | .disconnect cap => Sys2Proof.Machine.execDisconnect cap s
  | .keepAlive cap => Sys2Proof.Machine.execKeepAlive cap s
  | .keepAliveExpiry assoc => Sys2Proof.Machine.execKeepAliveExpiry assoc s
  | .slotGrant => Sys2Proof.Machine.execSlotGrant s
  | .getLogPage cap lid offset len dptr => Sys2Proof.Machine.execGetLogPage cap lid offset len dptr s
  | .identify cap cns nsid dptr => Sys2Proof.Machine.execIdentify cap cns nsid dptr s
  | .abort cap tqid tcid => Sys2Proof.Machine.execAbort cap tqid tcid s
  | .setFeatures cap fid v => Sys2Proof.Machine.execSetFeatures cap fid v s
  | .getFeatures cap fid dptr => Sys2Proof.Machine.execGetFeatures cap fid dptr s
  | .asynchronousEventRequest cap => Sys2Proof.Machine.execAsynchronousEventRequest cap s
  | .namespaceCreate cap kv fourK lbas vendor dptr => Sys2Proof.Machine.execNamespaceCreate cap kv fourK lbas vendor dptr s
  | .namespaceDelete cap nsid => Sys2Proof.Machine.execNamespaceDelete cap nsid s
  | .namespaceAttachment cap nsid attach ctrls => Sys2Proof.Machine.execNamespaceAttachment cap nsid attach ctrls s
  | .shortSelfTest cap nsid => Sys2Proof.Machine.execShortSelfTest cap nsid s
  | .extendedSelfTest cap nsid => Sys2Proof.Machine.execExtendedSelfTest cap nsid s
  | .selfTestAbort cap => Sys2Proof.Machine.execSelfTestAbort cap s
  | .selfTestSlice took last passed => Sys2Proof.Machine.execSelfTestSlice took last passed s
  | .adminOpcodeUnsupported cap opcode => Sys2Proof.Machine.execAdminOpcodeUnsupported cap opcode s
  | .createIoSubmissionQueue cap qid size cqid => Sys2Proof.Machine.execCreateIoSubmissionQueue cap qid size cqid s
  | .deleteIoSubmissionQueue cap qid => Sys2Proof.Machine.execDeleteIoSubmissionQueue cap qid s
  | .createIoCompletionQueue cap qid size vec => Sys2Proof.Machine.execCreateIoCompletionQueue cap qid size vec s
  | .deleteIoCompletionQueue cap qid => Sys2Proof.Machine.execDeleteIoCompletionQueue cap qid s
  | .flush cap nsid => Sys2Proof.Machine.execFlush cap nsid s
  | .write cap nsid slba nlb dptr data media => Sys2Proof.Machine.execWrite cap nsid slba nlb dptr data media s
  | .read cap nsid slba nlb dptr media => Sys2Proof.Machine.execRead cap nsid slba nlb dptr media s
  | .writeZeroes cap nsid slba nlb media => Sys2Proof.Machine.execWriteZeroes cap nsid slba nlb media s
  | .datasetManagement cap nsid deallocate req => Sys2Proof.Machine.execDatasetManagement cap nsid deallocate req s
  | .verify cap nsid slba nlb media => Sys2Proof.Machine.execVerify cap nsid slba nlb media s
  | .ioOpcodeUnsupported cap nsid opcode => Sys2Proof.Machine.execIoOpcodeUnsupported cap nsid opcode s
  | .wakeRequestRepeat => Sys2Proof.Machine.execWakeRequestRepeat s
  | .parkTimeout arrival => Sys2Proof.Machine.execParkTimeout arrival s
  | .darkCapsuleResponse n cap keepAlive => Sys2Proof.Machine.execDarkCapsuleResponse n cap keepAlive s
  | .store cap nsid key size mustExist mustNotExist dptr data media => Sys2Proof.Machine.execStore cap nsid key size mustExist mustNotExist dptr data media s
  | .retrieve cap nsid key bufLen dptr media => Sys2Proof.Machine.execRetrieve cap nsid key bufLen dptr media s
  | .list cap nsid key bufLen dptr media => Sys2Proof.Machine.execList cap nsid key bufLen dptr media s
  | .delete cap nsid key media => Sys2Proof.Machine.execDelete cap nsid key media s
  | .exist cap nsid key media => Sys2Proof.Machine.execExist cap nsid key media s
  | .setLegalHold cap nsid key media => Sys2Proof.Machine.execSetLegalHold cap nsid key media s
  | .clearLegalHold cap nsid key media => Sys2Proof.Machine.execClearLegalHold cap nsid key media s
  | .setRetainUntil cap nsid key until_ media => Sys2Proof.Machine.execSetRetainUntil cap nsid key until_ media s
  | .importRecord cap nsid key bufLen origLen entries dptr data media => Sys2Proof.Machine.execImportRecord cap nsid key bufLen origLen entries dptr data media s
  | .objectInfo cap nsid key bufLen dptr media => Sys2Proof.Machine.execObjectInfo cap nsid key bufLen dptr media s
  | .kvOpcodeUnsupported cap nsid opcode => Sys2Proof.Machine.execKvOpcodeUnsupported cap nsid opcode s
  | .mapDeltaApply arrival => Sys2Proof.Machine.execMapDeltaApply arrival s
  | .indexDeltaApply arrival => Sys2Proof.Machine.execIndexDeltaApply arrival s
  | .driveCommandCompletion id status data => Sys2Proof.Machine.execDriveCommandCompletion id status data s
  | .driveCommandTimeout id => Sys2Proof.Machine.execDriveCommandTimeout id s
  | .driveReadyTimeout slot => Sys2Proof.Machine.execDriveReadyTimeout slot s
  | .driveReady slot info => Sys2Proof.Machine.execDriveReady slot info s
  | .memberUnreachableTimeout slot => Sys2Proof.Machine.execMemberUnreachableTimeout slot s
  | .proxyCommand id op slot sector count data => Sys2Proof.Machine.execProxyCommand id op slot sector count data s
  | .rebuildFlushComplete b => Sys2Proof.Machine.execRebuildFlushComplete b s
  | .rebuildSliceComplete b media => Sys2Proof.Machine.execRebuildSliceComplete b media s
  | .recordFold b media => Sys2Proof.Machine.execRecordFold b media s
  | .foldWaitExpiry b media => Sys2Proof.Machine.execFoldWaitExpiry b media s
  | .memberIdleTimeout b m => Sys2Proof.Machine.execMemberIdleTimeout b m s
  | .checkpointIntervalExpiry b k => Sys2Proof.Machine.execCheckpointIntervalExpiry b k s
  | .ckptNow b => Sys2Proof.Machine.execCkptNow b s
  | .checkpointPhaseComplete b k ok => Sys2Proof.Machine.execCheckpointPhaseComplete b k ok s
  | .resyncBandComplete b media => Sys2Proof.Machine.execResyncBandComplete b media s
  | .reclaim b media => Sys2Proof.Machine.execReclaim b media s
  | .rillJobSubmit d input host => Sys2Proof.Machine.execRillJobSubmit d input host s
  | .rillJobComplete core bad => Sys2Proof.Machine.execRillJobComplete core bad s
  | .rillCoreNoProgress core => Sys2Proof.Machine.execRillCoreNoProgress core s
  | .rillPairIdle pair => Sys2Proof.Machine.execRillPairIdle pair s
  | .cipherJobSubmit d input => Sys2Proof.Machine.execCipherJobSubmit d input s
  | .keyDerivationComplete => Sys2Proof.Machine.execKeyDerivationComplete s
  | .cipherJobComplete core => Sys2Proof.Machine.execCipherJobComplete core s
  | .cipherCoreNoProgress core => Sys2Proof.Machine.execCipherCoreNoProgress core s
  | .frameReceive n f => Sys2Proof.Machine.execFrameReceive n f s
  | .pfcRefresh n c => Sys2Proof.Machine.execPfcRefresh n c s
  | .pauseExpiry n c => Sys2Proof.Machine.execPauseExpiry n c s
  | .pauseWatchdogExpiry n c => Sys2Proof.Machine.execPauseWatchdogExpiry n c s
  | .losslessRestoreExpiry n c => Sys2Proof.Machine.execLosslessRestoreExpiry n c s
  | .egressFrameEnd n => Sys2Proof.Machine.execEgressFrameEnd n s
  | .linkDown n fec => Sys2Proof.Machine.execLinkDown n fec s
  | .linkUp n => Sys2Proof.Machine.execLinkUp n s
  | .linkHoldExpiry n => Sys2Proof.Machine.execLinkHoldExpiry n s
  | .bankDrainExpiry => Sys2Proof.Machine.execBankDrainExpiry s
  | .rapsMessage n m => Sys2Proof.Machine.execRapsMessage n m s
  | .ringHoldoffExpiry n => Sys2Proof.Machine.execRingHoldoffExpiry n s
  | .ringGuardExpiry => Sys2Proof.Machine.execRingGuardExpiry s
  | .cmReq req => Sys2Proof.Machine.execCmReq req s
  | .cmRtu idx => Sys2Proof.Machine.execCmRtu idx s
  | .cmRej idx => Sys2Proof.Machine.execCmRej idx s
  | .cmDreq idx => Sys2Proof.Machine.execCmDreq idx s
  | .packetReceive p => Sys2Proof.Machine.execPacketReceive p s
  | .ackTimerExpiry idx => Sys2Proof.Machine.execAckTimerExpiry idx s
  | .gapTimeout idx => Sys2Proof.Machine.execGapTimeout idx s
  | .cnpReceived idx => Sys2Proof.Machine.execCnpReceived idx s
  | .ccRateIncrease idx => Sys2Proof.Machine.execCcRateIncrease idx s
  | .requestAckReceived idx psn => Sys2Proof.Machine.execRequestAckReceived idx psn s
  | .nakReceived idx nak => Sys2Proof.Machine.execNakReceived idx nak s
  | .localAckTimeout idx => Sys2Proof.Machine.execLocalAckTimeout idx s
  | .rnrRetryExpiry idx => Sys2Proof.Machine.execRnrRetryExpiry idx s
  | .qpnIndexReturn idx => Sys2Proof.Machine.execQpnIndexReturn idx s
  | .windowDrainEnd w => Sys2Proof.Machine.execWindowDrainEnd w s
  | .triggeredWrPost qp counter threshold wr => Sys2Proof.Machine.execTriggeredWrPost qp counter threshold wr s
  | .localWrComplete counter => Sys2Proof.Machine.execLocalWrComplete counter s
  | .refillBoundary => Sys2Proof.Machine.execRefillBoundary s
  | .gclCommit n => Sys2Proof.Machine.execGclCommit n s
  | .gclCommitCancel n => Sys2Proof.Machine.execGclCommitCancel n s
  | .gclStart n => Sys2Proof.Machine.execGclStart n s
  | .gclEntryEnd n => Sys2Proof.Machine.execGclEntryEnd n s
  | .queueSample n => Sys2Proof.Machine.execQueueSample n s
  | .gussetLinkUp => Sys2Proof.Machine.execGussetLinkUp s
  | .gussetLinkDown => Sys2Proof.Machine.execGussetLinkDown s
  | .gussetRetrainTimeout => Sys2Proof.Machine.execGussetRetrainTimeout s
  | .gussetDownDetach => Sys2Proof.Machine.execGussetDownDetach s
  | .gussetFrameReceive f => Sys2Proof.Machine.execGussetFrameReceive f s
  | .gussetLinkAck seq => Sys2Proof.Machine.execGussetLinkAck seq s
  | .gussetAckTimer => Sys2Proof.Machine.execGussetAckTimer s
  | .gussetRetransmitTimer => Sys2Proof.Machine.execGussetRetransmitTimer s
  | .recordMirror id head bytes => Sys2Proof.Machine.execRecordMirror id head bytes s
  | .windowMirror b index offset key bytes => Sys2Proof.Machine.execWindowMirror b index offset key bytes s
  | .writeNotice head => Sys2Proof.Machine.execWriteNotice head s
  | .transportNotice b n => Sys2Proof.Machine.execTransportNotice b n s
  | .foldNotice b id fold => Sys2Proof.Machine.execFoldNotice b id fold s
  | .tickEnd => Sys2Proof.Machine.execTickEnd s
  | .tickDelta b tick entries => Sys2Proof.Machine.execTickDelta b tick entries s
  | .tickAcknowledgement b tick => Sys2Proof.Machine.execTickAcknowledgement b tick s
  | .tickAckTimeout => Sys2Proof.Machine.execTickAckTimeout s
  | .joinRequest b msgId serial kcv => Sys2Proof.Machine.execJoinRequest b msgId serial kcv s
  | .joinData b piece => Sys2Proof.Machine.execJoinData b piece s
  | .joinDone b msgId tick fold => Sys2Proof.Machine.execJoinDone b msgId tick fold s
  | .joinAck b => Sys2Proof.Machine.execJoinAck b s
  | .detachRequest msgId mask => Sys2Proof.Machine.execDetachRequest msgId mask s
  | .detachDone mask => Sys2Proof.Machine.execDetachDone mask s
  | .keyCheck kcv keyState found => Sys2Proof.Machine.execKeyCheck kcv keyState found s
  | .pairing msgId sender iv wrapped tag kcv => Sys2Proof.Machine.execPairing msgId sender iv wrapped tag kcv s
  | .pairingDone result => Sys2Proof.Machine.execPairingDone result s
  | .handover b msgId tick info => Sys2Proof.Machine.execHandover b msgId tick info s
  | .handoverAck b => Sys2Proof.Machine.execHandoverAck b s
  | .accRequest b ask => Sys2Proof.Machine.execAccRequest b ask s
  | .accData b band fold sectors => Sys2Proof.Machine.execAccData b band fold sectors s
  | .slotRequest raises drops => Sys2Proof.Machine.execSlotRequest raises drops s
  | .heartbeatSend => Sys2Proof.Machine.execHeartbeatSend s
  | .heartbeatWord path w => Sys2Proof.Machine.execHeartbeatWord path w s
  | .heartbeatMissTick => Sys2Proof.Machine.execHeartbeatMissTick s
  | .selfFence => Sys2Proof.Machine.execSelfFence s
  | .takeoverStart info mounts => Sys2Proof.Machine.execTakeoverStart info mounts s
  | .addressAnnounce => Sys2Proof.Machine.execAddressAnnounce s
  | .takeoverPreempt b => Sys2Proof.Machine.execTakeoverPreempt b s
  | .reclaimCheck b keyThere => Sys2Proof.Machine.execReclaimCheck b keyThere s
  | .standbySelfTest passed => Sys2Proof.Machine.execStandbySelfTest passed s
  | .claim h expiry => Sys2Proof.Machine.execClaim h expiry s
  | .accept h candidate => Sys2Proof.Machine.execAccept h candidate s
  | .refuse h candidate reason highest => Sys2Proof.Machine.execRefuse h candidate reason highest s
  | .renew h expiry planGen => Sys2Proof.Machine.execRenew h expiry planGen s
  | .status h b => Sys2Proof.Machine.execStatus h b s
  | .order h id target flag0 planGen => Sys2Proof.Machine.execOrder h id target flag0 planGen s
  | .stateChangeComplete found mounts info => Sys2Proof.Machine.execStateChangeComplete found mounts info s
  | .done h id result state => Sys2Proof.Machine.execDone h id result state s
  | .wake h reason parked oldest => Sys2Proof.Machine.execWake h reason parked oldest s
  | .release h => Sys2Proof.Machine.execRelease h s
  | .claimTimer => Sys2Proof.Machine.execClaimTimer s
  | .claimCountEnd => Sys2Proof.Machine.execClaimCountEnd s
  | .renewTimer => Sys2Proof.Machine.execRenewTimer s
  | .renewConfirmEnd => Sys2Proof.Machine.execRenewConfirmEnd s
  | .leaseOrderLimit => Sys2Proof.Machine.execLeaseOrderLimit s
  | .orderRepeat idx => Sys2Proof.Machine.execOrderRepeat idx s
  | .orderTimeout idx => Sys2Proof.Machine.execOrderTimeout idx s
  | .raiseRequest slot => Sys2Proof.Machine.execRaiseRequest slot s
  | .dropRequest slot => Sys2Proof.Machine.execDropRequest slot s
  | .clearFault slot => Sys2Proof.Machine.execClearFault slot s
  | .slotTest slot => Sys2Proof.Machine.execSlotTest slot s
  | .slotTestHoldEnd slot vout iout => Sys2Proof.Machine.execSlotTestHoldEnd slot vout iout s
  | .assertPwrdis slot => Sys2Proof.Machine.execAssertPwrdis slot s
  | .pwrdisEnd slot => Sys2Proof.Machine.execPwrdisEnd slot s
  | .slotEnableWrite slot en => Sys2Proof.Machine.execSlotEnableWrite slot en s
  | .presentPinEdge slot level => Sys2Proof.Machine.execPresentPinEdge slot level s
  | .presentDebounceExpiry slot => Sys2Proof.Machine.execPresentDebounceExpiry slot s
  | .presentLost slot => Sys2Proof.Machine.execPresentLost slot s
  | .insertionDelayExpiry slot => Sys2Proof.Machine.execInsertionDelayExpiry slot s
  | .rampStart slot vout => Sys2Proof.Machine.execRampStart slot vout s
  | .joinWaitExpiry slot vout => Sys2Proof.Machine.execJoinWaitExpiry slot vout s
  | .rampFaultTimerExpiry slot peerLatched => Sys2Proof.Machine.execRampFaultTimerExpiry slot peerLatched s
  | .rampMaxExpiry slot peerLatched => Sys2Proof.Machine.execRampMaxExpiry slot peerLatched s
  | .powerGood slot vout => Sys2Proof.Machine.execPowerGood slot vout s
  | .breakerTrip slot peerLatched => Sys2Proof.Machine.execBreakerTrip slot peerLatched s
  | .fastTrip slot peerLatched => Sys2Proof.Machine.execFastTrip slot peerLatched s
  | .modelStep slot vin vout iout dieC limiting peerLatched => Sys2Proof.Machine.execModelStep slot vin vout iout dieC limiting peerLatched s
  | .gateFault slot peerLatched => Sys2Proof.Machine.execGateFault slot peerLatched s
  | .vinUndervoltage vin => Sys2Proof.Machine.execVinUndervoltage vin s
  | .vinOvervoltage vin => Sys2Proof.Machine.execVinOvervoltage vin s
  | .vinReturn vin => Sys2Proof.Machine.execVinReturn vin s
  | .reverseBlock slot vout => Sys2Proof.Machine.execReverseBlock slot vout s
  | .reverseBlockClear slot => Sys2Proof.Machine.execReverseBlockClear slot s
  | .retryTimerExpiry slot => Sys2Proof.Machine.execRetryTimerExpiry slot s
  | .repeatResetExpiry slot => Sys2Proof.Machine.execRepeatResetExpiry slot s
  | .strapReadRound readings => Sys2Proof.Machine.execStrapReadRound readings s
  | .railFault info => Sys2Proof.Machine.execRailFault info s
  | .pwrfailAssert => Sys2Proof.Machine.execPwrfailAssert s
  | .pwrfailStep => Sys2Proof.Machine.execPwrfailStep s
  | .pwrfailRelease => Sys2Proof.Machine.execPwrfailRelease s
  | .domainSwitchOnDone rise => Sys2Proof.Machine.execDomainSwitchOnDone rise s
  | .refclkLoss => Sys2Proof.Machine.execRefclkLoss s
  | .refclkReturn => Sys2Proof.Machine.execRefclkReturn s
  | .holdoverExpiry => Sys2Proof.Machine.execHoldoverExpiry s
  | .ptpSync port times => Sys2Proof.Machine.execPtpSync port times s
  | .ptpSampleTimeout => Sys2Proof.Machine.execPtpSampleTimeout s
  | .ppsInPulse => Sys2Proof.Machine.execPpsInPulse s
  | .ppsOutSecond => Sys2Proof.Machine.execPpsOutSecond s
  | .resetSourceAssert src reach => Sys2Proof.Machine.execResetSourceAssert src reach s
  | .resetSourceRelease src => Sys2Proof.Machine.execResetSourceRelease src s
  | .stretchExpiry lineLow => Sys2Proof.Machine.execStretchExpiry lineLow s
  | .sysrstHighConfirm => Sys2Proof.Machine.execSysrstHighConfirm s
  | .coreEpisodeTimeout => Sys2Proof.Machine.execCoreEpisodeTimeout s
  | .watchdogExpiry core0 => Sys2Proof.Machine.execWatchdogExpiry core0 s
  | .watchdogKick value => Sys2Proof.Machine.execWatchdogKick value s
  | .rstCtrlCore => Sys2Proof.Machine.execRstCtrlCore s
  | .rstCtrlSystem => Sys2Proof.Machine.execRstCtrlSystem s
  | .startUpStep info => Sys2Proof.Machine.execStartUpStep info s
  | .pepPerstEdge high => Sys2Proof.Machine.execPepPerstEdge high s
  | .endpointLinkDown => Sys2Proof.Machine.execEndpointLinkDown s
  | .hotReset => Sys2Proof.Machine.execHotReset s
  | .configRequest r => Sys2Proof.Machine.execConfigRequest r s
  | .functionLevelReset fn => Sys2Proof.Machine.execFunctionLevelReset fn s
  | .controllerReset => Sys2Proof.Machine.execControllerReset s
  | .controllerEnable sqSize cqSize => Sys2Proof.Machine.execControllerEnable sqSize cqSize s
  | .doorbellWrite qid isCq value => Sys2Proof.Machine.execDoorbellWrite qid isCq value s
  | .bar2Request r => Sys2Proof.Machine.execBar2Request r s
  | .pwinEnableWrite w en => Sys2Proof.Machine.execPwinEnableWrite w en s
  | .pwinMapWrite w rdonly offset => Sys2Proof.Machine.execPwinMapWrite w rdonly offset s
  | .endpointCompletionArrive tag completer poisoned => Sys2Proof.Machine.execEndpointCompletionArrive tag completer poisoned s
  | .endpointCompletionTimeout tag => Sys2Proof.Machine.execEndpointCompletionTimeout tag s
  | .tagQuarantineExpiry tag => Sys2Proof.Machine.execTagQuarantineExpiry tag s
  | .faultEvent src sev group detail unit => Sys2Proof.Machine.execFaultEvent src sev group detail unit s
  | .recordRateSecondEnd src => Sys2Proof.Machine.execRecordRateSecondEnd src s
  | .quietPeriodExpiry src => Sys2Proof.Machine.execQuietPeriodExpiry src s
  | .admissionCheckComplete src passed => Sys2Proof.Machine.execAdmissionCheckComplete src passed s
  | .thmFence src => Sys2Proof.Machine.execThmFence src s
  | .thmReadmit src => Sys2Proof.Machine.execThmReadmit src s
  | .thmClearPermanent src path => Sys2Proof.Machine.execThmClearPermanent src path s
  | .bbxReadStart hi => Sys2Proof.Machine.execBbxReadStart hi s
  | .pmuSnap => Sys2Proof.Machine.execPmuSnap s
  | .pmuClrAll => Sys2Proof.Machine.execPmuClrAll s
  | .pmuFreezeWrite freeze => Sys2Proof.Machine.execPmuFreezeWrite freeze s
  | .pmuHistClr h => Sys2Proof.Machine.execPmuHistClr h s
  | .pmuSampleReadStart q => Sys2Proof.Machine.execPmuSampleReadStart q s
  | .hello client request tagOk bodyOk => Sys2Proof.Machine.execHello client request tagOk bodyOk s
  | .identifyMessage request bodyOk => Sys2Proof.Machine.execIdentifyMessage request bodyOk s
  | .regRead head addr count => Sys2Proof.Machine.execRegRead head addr count s
  | .regWrite head addr value => Sys2Proof.Machine.execRegWrite head addr value s
  | .serviceResetCore head => Sys2Proof.Machine.execServiceResetCore head s
  | .serviceResetSystem head => Sys2Proof.Machine.execServiceResetSystem head s
  | .cfgCommit head => Sys2Proof.Machine.execCfgCommit head s
  | .cfgRecordRead head field offset len => Sys2Proof.Machine.execCfgRecordRead head field offset len s
  | .cfgRecordWrite head field offset piece last addrs table budget allow => Sys2Proof.Machine.execCfgRecordWrite head field offset piece last addrs table budget allow s
  | .timeSet head ns => Sys2Proof.Machine.execTimeSet head ns s
  | .imageBegin head length => Sys2Proof.Machine.execImageBegin head length s
  | .imageData head offset piece => Sys2Proof.Machine.execImageData head offset piece s
  | .imageEnd head => Sys2Proof.Machine.execImageEnd head s
  | .activate head target => Sys2Proof.Machine.execActivate head target s
  | .activationHealthEnd passed previousOk => Sys2Proof.Machine.execActivationHealthEnd passed previousOk s
  | .secverAdvance head => Sys2Proof.Machine.execSecverAdvance head s
  | .activityStart head code bed => Sys2Proof.Machine.execActivityStart head code bed s
  | .activityWithdraw head handle => Sys2Proof.Machine.execActivityWithdraw head handle s
  | .activityReport head => Sys2Proof.Machine.execActivityReport head s
  | .deferredActivityStart handle => Sys2Proof.Machine.execDeferredActivityStart handle s
  | .bedCreate head c => Sys2Proof.Machine.execBedCreate head c s
  | .bedDelete head b => Sys2Proof.Machine.execBedDelete head b s
  | .bedAdmitMember head b m slot => Sys2Proof.Machine.execBedAdmitMember head b m slot s
  | .bedReadmitReadOnly head b => Sys2Proof.Machine.execBedReadmitReadOnly head b s
  | .bedRebuildIndex head b media => Sys2Proof.Machine.execBedRebuildIndex head b media s
  | .bedHandover head b => Sys2Proof.Machine.execBedHandover head b s
  | .epochAdvance head nsid => Sys2Proof.Machine.execEpochAdvance head nsid s
  | .epochRewrap head nsid => Sys2Proof.Machine.execEpochRewrap head nsid s
  | .epochRetire head nsid e blocks => Sys2Proof.Machine.execEpochRetire head nsid e blocks s
  | .keyPairingSecret head secret => Sys2Proof.Machine.execKeyPairingSecret head secret s
  | .pairingSecretExpiry => Sys2Proof.Machine.execPairingSecretExpiry s
  | .keyGenerate head => Sys2Proof.Machine.execKeyGenerate head s
  | .keyTransfer head receiver => Sys2Proof.Machine.execKeyTransfer head receiver s
  | .keyEscrowSend head iv sealed tag kcv => Sys2Proof.Machine.execKeyEscrowSend head iv sealed tag kcv s
  | .keyZeroize head confirm => Sys2Proof.Machine.execKeyZeroize head confirm s
  | .keyStoreReset head confirm => Sys2Proof.Machine.execKeyStoreReset head confirm s
  | .rackRecordPiece head offset piece last table budget allow => Sys2Proof.Machine.execRackRecordPiece head offset piece last table budget allow s
  | .rackKey head key => Sys2Proof.Machine.execRackKey head key s
  | .rackRelease head => Sys2Proof.Machine.execRackRelease head s
  | .rackWake head => Sys2Proof.Machine.execRackWake head s
  | .tenantWriteEntry head pos id name => Sys2Proof.Machine.execTenantWriteEntry head pos id name s
  | .tenantDeleteEntry head pos => Sys2Proof.Machine.execTenantDeleteEntry head pos s
  | .tenantSuspend head pos => Sys2Proof.Machine.execTenantSuspend head pos s
  | .tenantResume head pos => Sys2Proof.Machine.execTenantResume head pos s
  | .tenantAddPrefix head pos pre => Sys2Proof.Machine.execTenantAddPrefix head pos pre s
  | .tenantClearPrefixes head pos => Sys2Proof.Machine.execTenantClearPrefixes head pos s
  | .tenantRevokeWindow head pos window => Sys2Proof.Machine.execTenantRevokeWindow head pos window s
  | .unitFence head src => Sys2Proof.Machine.execUnitFence head src s
  | .unitReadmit head src => Sys2Proof.Machine.execUnitReadmit head src s
  | .unitClearPermanent head src => Sys2Proof.Machine.execUnitClearPermanent head src s
  | .laneRecalibration head port => Sys2Proof.Machine.execLaneRecalibration head port s
  | .ddrRetirement head chan => Sys2Proof.Machine.execDdrRetirement head chan s
  | .rillJobBegin head d => Sys2Proof.Machine.execRillJobBegin head d s
  | .rillJobInputPiece head offset piece => Sys2Proof.Machine.execRillJobInputPiece head offset piece s
  | .rillJobRun head => Sys2Proof.Machine.execRillJobRun head s
  | .rillJobReadOutput head offset len => Sys2Proof.Machine.execRillJobReadOutput head offset len s
  | .rillJobEnd head => Sys2Proof.Machine.execRillJobEnd head s
  | .readRing head ring first count => Sys2Proof.Machine.execReadRing head ring first count s
  | .bbxFormat head confirm => Sys2Proof.Machine.execBbxFormat head confirm s
  | .serviceKeyFirstInstall key request codeOk tagOk bodyOk => Sys2Proof.Machine.execServiceKeyFirstInstall key request codeOk tagOk bodyOk s
  | .serviceKeyReplace head key => Sys2Proof.Machine.execServiceKeyReplace head key s
  | .uartConfirmation codeOk => Sys2Proof.Machine.execUartConfirmation codeOk s
  | .serviceSessionTimeout session => Sys2Proof.Machine.execServiceSessionTimeout session s
  | .drivePortLinkDown slot peerReaches => Sys2Proof.Machine.execDrivePortLinkDown slot peerReaches s
  | .drivePortLinkUp slot speed width => Sys2Proof.Machine.execDrivePortLinkUp slot speed width s
  | .endpointLinkUp speed width => Sys2Proof.Machine.execEndpointLinkUp speed width s
  | .mramPortRetrained => Sys2Proof.Machine.execMramPortRetrained s
  | .selfTestPauseLimit => Sys2Proof.Machine.execSelfTestPauseLimit s
  | .temperatureSensorRead readings => Sys2Proof.Machine.execTemperatureSensorRead readings s
  | .bmcManagementCommand => Sys2Proof.Machine.execBmcManagementCommand s
  | .consoleReset level => Sys2Proof.Machine.execConsoleReset level s
  | .cmDrep idx => Sys2Proof.Machine.execCmDrep idx s
  | .serdesRefclkLoss ref => Sys2Proof.Machine.execSerdesRefclkLoss ref s
  | .serdesRefclkReturn ref => Sys2Proof.Machine.execSerdesRefclkReturn ref s
  | .pmuCounterWrap n => Sys2Proof.Machine.execPmuCounterWrap n s

end Sys2Proof.Machine
end

