-- ==== Sys2Proof/Machine/Step.lean ====
section
/-! DEFINITION. One step: the command at the front of the queue takes its effect; on an empty queue the
control cores take the oldest thing that waited for them during a core episode (assumption 57), and where nothing does, one
cycle of the 100 MHz clock passes (assumption 4). -/

namespace Sys2Proof.Machine

def step (s : State) : Host.Outcome State Fault Refusal :=
  match s.pending with
  | c :: rest => exec c { s with pending := rest }
  | [] =>
    match s.net.ctl with
    | c :: rest =>
      if s.coreStop then .next s.tick100MHz
      else
        match exec c { s with net := { s.net with ctl := rest, serving := true } } with
        | .next t => .next { t with net := { t.net with serving := false } }
        | o => o
    | [] => .next s.tick100MHz

/-- The state with the command a table word spells at the front of its queue. -/
def State.withFetchWord (s : State) (nbits w : Nat) : State :=
  match decodeTableWord nbits w with
  | some c => { s with pending := c :: s.pending }
  | none => s

end Sys2Proof.Machine
end

