-- ==== Sys2Proof/WellFormed.lean ====
section
/-! DEFINITION. Well-formed commands: each operand fits the field of the message, capsule, frame or register that
carries it, and unit numbers are those the part has. The meanings are total: an ill-formed command is one nobody can
send, and no meaning relies on its operands being well-formed. -/

namespace Sys2Proof

/-- A value fits `w` bits. -/
def fits (w n : Nat) : Bool := decide (n < 2 ^ w)

/-- A unit number below the number of units. -/
def below (k n : Nat) : Bool := decide (n < k)

/-- The 24 drive slots of a shelf (R14). -/
def slotOk (n : Nat) : Bool := below 24 n

/-- The four network ports (R160). -/
def portOk (n : Nat) : Bool := below 4 n

/-- The beds of a shelf (R76, R382): 0 to 3. -/
def bedOk (n : Nat) : Bool := below 4 n

/-- A member index of a bed of up to 24 members (R76). -/
def memberOk (n : Nat) : Bool := below 24 n

/-- A field of exactly `k` bytes. -/
def bytesOf (k : Nat) (b : Bytes) : Bool := b.length == k

def Cap.wf (c : Cap) : Bool := fits 16 c.assoc && fits 16 c.qid && fits 16 c.cid

def KvKey.wf (k : KvKey) : Bool := fits 8 k.len && bytesOf 16 k.bytes

def DataPtr.wf : DataPtr → Bool
  | .inCapsule len => fits 32 len
  | .keyed addr key len => fits 64 addr && fits 32 key && fits 24 len
  | .window key offset len => fits 32 key && fits 64 offset && fits 24 len
  | .prp len => fits 32 len
  | .segments len => fits 32 len
  | .other => true

/-- A drive returns the sectors of 4,096 bytes it was asked for (R98). -/
def MediaRead.wf (r : MediaRead) : Bool :=
  memberOk r.member && fits 64 r.sector &&
    (match r.result with | .data bytes => bytes.length == 4096 * r.count | .unrecovered => true)

def mediaOk (l : List MediaRead) : Bool := l.all MediaRead.wf

def SvcHead.wf (h : SvcHead) : Bool := fits 16 h.session && fits 32 h.request

def RillDesc.wf (d : RillDesc) : Bool :=
  fits 8 d.opcode && fits 8 d.flags && fits 32 d.pParam && fits 8 d.winCode && fits 8 d.stride && fits 64 d.inputAddr &&
    fits 32 d.inputLen && fits 32 d.expected && fits 64 d.outputAddr && fits 32 d.outputLen && fits 64 d.context

def CipherDesc.wf (d : CipherDesc) : Bool :=
  fits 8 d.opcode && fits 8 d.queue && fits 32 d.expEpoch && fits 32 d.expTenant && fits 32 d.expNsid && fits 64 d.expObject &&
    bytesOf 12 d.nonce && fits 32 d.inputLen && fits 64 d.inputAddr && fits 64 d.outputAddr && fits 64 d.context

def Frame.wf (f : Frame) : Bool :=
  fits 16 f.length && fits 48 f.dmac && fits 12 f.vid && f.pcp.all (below 8) && f.dscp.all (below 64)

def Packet.wf (p : Packet) : Bool := fits 48 p.dmac && fits 24 p.qpn && fits 24 p.psn && p.imm.all (fits 32)

def CmReq.wf (r : CmReq) : Bool :=
  fits 16 r.mtu && fits 8 r.responderRes && fits 16 r.hsqsize && fits 16 r.assoc && fits 16 r.qid && fits 128 r.remoteGid &&
    fits 24 r.remoteQpn && fits 48 r.remoteMac && fits 12 r.vlan && fits 48 r.localMac && fits 24 r.startPsn && bytesOf 8 r.priv

def WorkReq.wf (r : WorkReq) : Bool := 1 ≤ r.kind && r.kind ≤ 3 && fits 32 r.length && fits 32 r.imm && fits 32 r.rkey && fits 64 r.remote

def MirrorHead.wf (h : MirrorHead) : Bool := bedOk h.bed && memberOk h.member && fits 32 h.start && fits 32 h.count

def HbWord.wf (w : HbWord) : Bool :=
  fits 4 w.state && below 2 w.position && fits 16 w.seq && fits 8 w.peerMiss && fits 4 w.owned && fits 4 w.joined &&
    fits 16 w.units && fits 16 w.tickAck

def GussetFrame.wf (f : GussetFrame) : Bool :=
  fits 8 f.kind && fits 16 f.length && fits 32 f.seq && fits 32 f.ack && fits 8 f.bed && fits 32 f.nak && fits 8 f.message

def RackHead.wf (h : RackHead) : Bool :=
  fits 64 h.sender && fits 64 h.epoch && fits 64 h.sendTime && fits 8 h.position && fits 8 h.shelf

def CfgReq.wf (r : CfgReq) : Bool := below 2 r.fn && fits 12 r.offset && fits 4 r.be

def Bar2Req.wf (r : Bar2Req) : Bool := fits 64 r.offset && 1 ≤ r.length && r.length ≤ 4096

def DriveInfo.wf (d : DriveInfo) : Bool := fits 64 d.sectors && fits 64 d.eui && fits 8 d.smart

def BedCreate.wf (c : BedCreate) : Bool :=
  fits 8 c.bed && fits 8 c.members && fits 32 c.hMib && fits 64 c.bedId && c.drives.all DriveInfo.wf

def ConnectReq.wf (r : ConnectReq) : Bool :=
  fits 16 r.qid && fits 16 r.sqsize && fits 32 r.kato && r.subnqn.length ≤ 256 && r.hostnqn.length ≤ 256 && DataPtr.wf r.dptr

def RapsHdr.wf (h : RapsHdr) : Bool := fits 12 h.vid && fits 48 h.dmac && fits 3 h.mel

/-- A command all of whose operands fit their fields. -/
def Instr.wf : Instr → Bool
  | .registerWrite _ addr be _ => fits 24 addr && fits 4 be
  | .readClearAccess _ addr be => fits 24 addr && fits 4 be
  | .loReadLatch _ addr => fits 24 addr
  | .connect cap req => Cap.wf cap && ConnectReq.wf req
  | .propertyGet cap offset => Cap.wf cap && fits 64 offset
  | .windowRegister cap => Cap.wf cap
  | .windowRevokeProperty cap => Cap.wf cap
  | .propertySet cap offset value => Cap.wf cap && fits 64 offset && fits 64 value
  | .disconnect cap => Cap.wf cap
  | .keepAlive cap => Cap.wf cap
  | .keepAliveExpiry assoc => fits 16 assoc
  | .slotGrant => true
  | .getLogPage cap lid offset len dptr => Cap.wf cap && fits 8 lid && fits 64 offset && fits 32 len && DataPtr.wf dptr
  | .identify cap cns nsid dptr => Cap.wf cap && fits 8 cns && fits 32 nsid && DataPtr.wf dptr
  | .abort cap tqid tcid => Cap.wf cap && fits 16 tqid && fits 16 tcid
  | .setFeatures cap fid v => Cap.wf cap && fits 8 fid && fits (if fid = 0x81 then 128 else 32) v.value && DataPtr.wf v.dptr
  | .getFeatures cap fid dptr => Cap.wf cap && fits 8 fid && DataPtr.wf dptr
  | .asynchronousEventRequest cap => Cap.wf cap
  | .namespaceCreate cap _ _ lbas vendor d => Cap.wf cap && fits 64 lbas && fits 32 (vendor.chunk.getD 0) && DataPtr.wf d
  | .namespaceDelete cap nsid => Cap.wf cap && fits 32 nsid
  | .namespaceAttachment cap nsid _ ctrls => Cap.wf cap && fits 32 nsid && DataPtr.wf ctrls.dptr
  | .shortSelfTest cap nsid => Cap.wf cap && fits 32 nsid
  | .extendedSelfTest cap nsid => Cap.wf cap && fits 32 nsid
  | .selfTestAbort cap => Cap.wf cap
  | .selfTestSlice took _ _ => fits 32 took
  | .adminOpcodeUnsupported cap opcode => Cap.wf cap && fits 8 opcode
  | .createIoSubmissionQueue cap qid size cqid => Cap.wf cap && fits 16 qid && fits 32 size && fits 16 cqid
  | .deleteIoSubmissionQueue cap qid => Cap.wf cap && fits 16 qid
  | .createIoCompletionQueue cap qid size _ => Cap.wf cap && fits 16 qid && fits 32 size
  | .deleteIoCompletionQueue cap qid => Cap.wf cap && fits 16 qid
  | .flush cap nsid => Cap.wf cap && fits 32 nsid
  | .write cap nsid slba nlb dptr _ media => Cap.wf cap && fits 32 nsid && fits 64 slba && 1 ≤ nlb && nlb ≤ 65536 && DataPtr.wf dptr && mediaOk media
  | .read cap nsid slba nlb dptr media => Cap.wf cap && fits 32 nsid && fits 64 slba && 1 ≤ nlb && nlb ≤ 65536 && DataPtr.wf dptr && mediaOk media
  | .writeZeroes cap nsid slba nlb media => Cap.wf cap && fits 32 nsid && fits 64 slba && 1 ≤ nlb && nlb ≤ 65536 && mediaOk media
  | .datasetManagement cap nsid _ req => Cap.wf cap && fits 32 nsid && DataPtr.wf req.dptr && mediaOk req.media
  | .verify cap nsid slba nlb media => Cap.wf cap && fits 32 nsid && fits 64 slba && 1 ≤ nlb && nlb ≤ 65536 && mediaOk media
  | .ioOpcodeUnsupported cap nsid opcode => Cap.wf cap && fits 32 nsid && fits 8 opcode
  | .wakeRequestRepeat => true
  | .parkTimeout arrival => fits 64 arrival
  | .darkCapsuleResponse n cap _ => portOk n && Cap.wf cap
  | .store cap nsid key size _ _ dptr _ media => Cap.wf cap && fits 32 nsid && KvKey.wf key && fits 32 size && DataPtr.wf dptr && mediaOk media
  | .retrieve cap nsid key bufLen dptr media => Cap.wf cap && fits 32 nsid && KvKey.wf key && fits 32 bufLen && DataPtr.wf dptr && mediaOk media
  | .list cap nsid key bufLen dptr _ => Cap.wf cap && fits 32 nsid && KvKey.wf key && fits 32 bufLen && DataPtr.wf dptr
  | .delete cap nsid key media => Cap.wf cap && fits 32 nsid && KvKey.wf key && mediaOk media
  | .exist cap nsid key media => Cap.wf cap && fits 32 nsid && KvKey.wf key && mediaOk media
  | .setLegalHold cap nsid key media => Cap.wf cap && fits 32 nsid && KvKey.wf key && mediaOk media
  | .clearLegalHold cap nsid key media => Cap.wf cap && fits 32 nsid && KvKey.wf key && mediaOk media
  | .setRetainUntil cap nsid key until_ media => Cap.wf cap && fits 32 nsid && KvKey.wf key && fits 64 until_ && mediaOk media
  | .importRecord cap nsid key bufLen origLen entries dptr _ media => Cap.wf cap && fits 32 nsid && KvKey.wf key && fits 32 bufLen && fits 32 origLen && fits 32 entries && DataPtr.wf dptr && mediaOk media
  | .objectInfo cap nsid key bufLen dptr media => Cap.wf cap && fits 32 nsid && KvKey.wf key && fits 32 bufLen && DataPtr.wf dptr && mediaOk media
  | .kvOpcodeUnsupported cap nsid opcode => Cap.wf cap && fits 32 nsid && fits 8 opcode
  | .mapDeltaApply arrival => fits 64 arrival
  | .indexDeltaApply arrival => fits 64 arrival
  | .driveCommandCompletion id _ _ => fits 64 id
  | .driveCommandTimeout id => fits 64 id
  | .driveReadyTimeout slot => slotOk slot
  | .driveReady slot info => slotOk slot && DriveInfo.wf info
  | .memberUnreachableTimeout slot => slotOk slot
  | .proxyCommand id _ slot sector count _ => fits 64 id && slotOk slot && fits 64 sector && fits 32 count
  | .rebuildFlushComplete b => bedOk b
  | .rebuildSliceComplete b media => bedOk b && mediaOk media
  | .recordFold b media => bedOk b && mediaOk media
  | .foldWaitExpiry b media => bedOk b && mediaOk media
  | .memberIdleTimeout b m => bedOk b && memberOk m
  | .checkpointIntervalExpiry b k => bedOk b && fits 64 k
  | .ckptNow b => bedOk b
  | .checkpointPhaseComplete b k _ => bedOk b && fits 64 k
  | .resyncBandComplete b media => bedOk b && mediaOk media
  | .reclaim b media => bedOk b && mediaOk media
  | .rillJobSubmit d _ _ => RillDesc.wf d
  | .rillJobComplete core bad => below 16 core && fits 8 bad
  | .rillCoreNoProgress core => below 16 core
  | .rillPairIdle pair => below 8 pair
  | .cipherJobSubmit d _ => CipherDesc.wf d
  | .keyDerivationComplete => true
  | .cipherJobComplete core => below 16 core
  | .cipherCoreNoProgress core => below 16 core
  | .frameReceive n f => portOk n && Frame.wf f
  | .pfcRefresh n c => portOk n && below 8 c
  | .pauseExpiry n c => portOk n && below 8 c
  | .pauseWatchdogExpiry n c => portOk n && below 8 c
  | .losslessRestoreExpiry n c => portOk n && below 8 c
  | .egressFrameEnd n => portOk n
  | .linkDown n _ => portOk n
  | .linkUp n => portOk n
  | .linkHoldExpiry n => portOk n
  | .bankDrainExpiry => true
  | .rapsMessage n m => portOk n && RapsHdr.wf m.hdr
  | .ringHoldoffExpiry n => portOk n
  | .ringGuardExpiry => true
  | .cmReq req => CmReq.wf req
  | .cmRtu i => below 4096 i
  | .cmRej i => below 4096 i
  | .cmDreq i => below 4096 i
  | .packetReceive p => Packet.wf p
  | .ackTimerExpiry i => below 4096 i
  | .gapTimeout i => below 4096 i
  | .cnpReceived i => below 4096 i
  | .ccRateIncrease i => below 4096 i
  | .requestAckReceived i psn => below 4096 i && fits 32 psn
  | .nakReceived i _ => below 4096 i
  | .localAckTimeout i => below 4096 i
  | .rnrRetryExpiry i => below 4096 i
  | .qpnIndexReturn i => below 4096 i
  | .windowDrainEnd w => below 1024 w
  | .triggeredWrPost qp counter threshold wr => below 4096 qp && fits 32 counter && fits 32 threshold && WorkReq.wf wr
  | .localWrComplete counter => fits 32 counter
  | .refillBoundary => true
  | .gclCommit n => portOk n
  | .gclCommitCancel n => portOk n
  | .gclStart n => portOk n
  | .gclEntryEnd n => portOk n
  | .queueSample n => portOk n
  | .gussetLinkUp => true
  | .gussetLinkDown => true
  | .gussetRetrainTimeout => true
  | .gussetDownDetach => true
  | .gussetFrameReceive f => GussetFrame.wf f
  | .gussetLinkAck seq => fits 32 seq
  | .gussetAckTimer => true
  | .gussetRetransmitTimer => true
  | .recordMirror id head _ => fits 64 id && MirrorHead.wf head
  | .windowMirror b index offset key _ => bedOk b && fits 32 index && fits 64 offset && fits 32 key
  | .writeNotice head => MirrorHead.wf head
  | .transportNotice b _ => bedOk b
  | .foldNotice b id fold => bedOk b && fits 64 id && fits 64 fold
  | .tickEnd => true
  | .tickDelta b tick _ => bedOk b && fits 64 tick
  | .tickAcknowledgement b tick => bedOk b && fits 64 tick
  | .tickAckTimeout => true
  | .joinRequest b msgId serial kcv => bedOk b && fits 32 msgId && fits 64 serial && bytesOf 4 kcv
  | .joinData b _ => bedOk b
  | .joinDone b msgId tick fold => bedOk b && fits 32 msgId && fits 64 tick && fits 64 fold
  | .joinAck b => bedOk b
  | .detachRequest msgId mask => fits 32 msgId && fits 32 mask
  | .detachDone mask => fits 32 mask
  | .keyCheck kcv keyState _ => bytesOf 4 kcv && fits 8 keyState
  | .pairing msgId sender iv _ tag kcv => fits 32 msgId && fits 64 sender && bytesOf 12 iv && bytesOf 16 tag && bytesOf 4 kcv
  | .pairingDone result => fits 8 result
  | .handover b msgId tick _ => bedOk b && fits 32 msgId && fits 64 tick
  | .handoverAck b => bedOk b
  | .accRequest b ask => bedOk b && fits 32 ask.msgId && fits 32 ask.band
  | .accData b band fold _ => bedOk b && fits 32 band && fits 64 fold
  | .slotRequest raises drops => fits 32 raises && fits 32 drops
  | .heartbeatSend => true
  | .heartbeatWord path w => (path = 1 || path = 2) && HbWord.wf w
  | .heartbeatMissTick => true
  | .selfFence => true
  | .takeoverStart _ _ => true
  | .addressAnnounce => true
  | .takeoverPreempt b => bedOk b
  | .reclaimCheck b _ => bedOk b
  | .standbySelfTest _ => true
  | .claim h expiry => RackHead.wf h && fits 64 expiry
  | .accept h candidate => RackHead.wf h && fits 64 candidate
  | .refuse h candidate reason highest => RackHead.wf h && fits 64 candidate && fits 8 reason && fits 64 highest
  | .renew h expiry planGen => RackHead.wf h && fits 64 expiry && fits 64 planGen
  | .status h _ => RackHead.wf h
  | .order h id target _ planGen => RackHead.wf h && fits 64 id && target ≤ 2 && fits 64 planGen
  | .stateChangeComplete _ _ _ => true
  | .done h id result state => RackHead.wf h && fits 64 id && fits 8 result && fits 8 state
  | .wake h reason parked oldest => RackHead.wf h && fits 8 reason && fits 64 parked && fits 64 oldest
  | .release h => RackHead.wf h
  | .claimTimer => true
  | .claimCountEnd => true
  | .renewTimer => true
  | .renewConfirmEnd => true
  | .leaseOrderLimit => true
  | .orderRepeat i => below 32 i
  | .orderTimeout i => below 32 i
  | .raiseRequest slot => slotOk slot
  | .dropRequest slot => slotOk slot
  | .clearFault slot => slotOk slot
  | .slotTest slot => slotOk slot
  | .slotTestHoldEnd slot vout iout => slotOk slot && fits 32 vout && fits 32 iout
  | .assertPwrdis slot => slotOk slot
  | .pwrdisEnd slot => slotOk slot
  | .slotEnableWrite slot _ => slotOk slot
  | .presentPinEdge slot _ => slotOk slot
  | .presentDebounceExpiry slot => slotOk slot
  | .presentLost slot => slotOk slot
  | .insertionDelayExpiry slot => slotOk slot
  | .rampStart slot vout => slotOk slot && fits 32 vout
  | .joinWaitExpiry slot vout => slotOk slot && fits 32 vout
  | .rampFaultTimerExpiry slot _ => slotOk slot
  | .rampMaxExpiry slot _ => slotOk slot
  | .powerGood slot vout => slotOk slot && fits 32 vout
  | .breakerTrip slot _ => slotOk slot
  | .fastTrip slot _ => slotOk slot
  | .modelStep slot vin vout iout dieC _ _ => slotOk slot && fits 32 vin && fits 32 vout && fits 32 iout && fits 32 dieC
  | .gateFault slot _ => slotOk slot
  | .vinUndervoltage vin => fits 32 vin
  | .vinOvervoltage vin => fits 32 vin
  | .vinReturn vin => fits 32 vin
  | .reverseBlock slot vout => slotOk slot && fits 32 vout
  | .reverseBlockClear slot => slotOk slot
  | .retryTimerExpiry slot => slotOk slot
  | .repeatResetExpiry slot => slotOk slot
  | .strapReadRound readings => readings.length == 8
  | .railFault info => info.rail ≤ 8
  | .pwrfailAssert => true
  | .pwrfailStep => true
  | .pwrfailRelease => true
  | .domainSwitchOnDone rise => below 64 rise.domain
  | .refclkLoss => true
  | .refclkReturn => true
  | .holdoverExpiry => true
  | .ptpSync port _ => portOk port
  | .ptpSampleTimeout => true
  | .ppsInPulse => true
  | .ppsOutSecond => true
  | .resetSourceAssert src reach => src ≤ 11 && fits 2 reach
  | .resetSourceRelease src => src ≤ 11
  | .stretchExpiry _ => true
  | .sysrstHighConfirm => true
  | .coreEpisodeTimeout => true
  | .watchdogExpiry _ => true
  | .watchdogKick _ => true
  | .rstCtrlCore => true
  | .rstCtrlSystem => true
  | .startUpStep _ => true
  | .pepPerstEdge _ => true
  | .endpointLinkDown => true
  | .hotReset => true
  | .configRequest r => CfgReq.wf r
  | .functionLevelReset fn => below 2 fn
  | .controllerReset => true
  | .controllerEnable sqSize cqSize => fits 16 sqSize && fits 16 cqSize
  | .doorbellWrite qid _ value => fits 16 qid && fits 16 value
  | .bar2Request r => Bar2Req.wf r
  | .pwinEnableWrite w _ => below 8 w
  | .pwinMapWrite w _ offset => below 8 w && fits 8 offset
  | .endpointCompletionArrive tag completer _ => fits 10 tag && fits 16 completer
  | .endpointCompletionTimeout tag => fits 10 tag
  | .tagQuarantineExpiry tag => fits 10 tag
  | .faultEvent src sev group detail unit => fits 12 src && below 5 sev && fits 8 group && fits 24 detail && bytesOf 16 unit
  | .recordRateSecondEnd src => fits 12 src
  | .quietPeriodExpiry src => fits 12 src
  | .admissionCheckComplete src _ => fits 12 src
  | .thmFence src => fits 12 src
  | .thmReadmit src => fits 12 src
  | .thmClearPermanent src _ => fits 12 src
  | .bbxReadStart hi => fits 32 hi
  | .pmuSnap => true
  | .pmuClrAll => true
  | .pmuFreezeWrite _ => true
  | .pmuHistClr h => below 64 h
  | .pmuSampleReadStart q => fits 32 q
  | .hello _ request _ _ => fits 32 request
  | .identifyMessage request _ => fits 32 request
  | .regRead head addr count => SvcHead.wf head && fits 32 addr && fits 16 count
  | .regWrite head addr _ => SvcHead.wf head && fits 32 addr
  | .serviceResetCore head => SvcHead.wf head
  | .serviceResetSystem head => SvcHead.wf head
  | .cfgCommit head => SvcHead.wf head
  | .cfgRecordRead head field offset len => SvcHead.wf head && fits 16 field && fits 32 offset && fits 16 len
  | .cfgRecordWrite head field offset piece _ _ _ _ _ => SvcHead.wf head && fits 16 field && fits 32 offset && fits 16 piece.length
  | .timeSet head ns => SvcHead.wf head && fits 64 ns
  | .imageBegin head length => SvcHead.wf head && fits 32 length
  | .imageData head offset piece => SvcHead.wf head && fits 32 offset && fits 16 piece.length
  | .imageEnd head => SvcHead.wf head
  | .activate head target => SvcHead.wf head && fits 8 target
  | .activationHealthEnd _ _ => true
  | .secverAdvance head => SvcHead.wf head
  | .activityStart head code bed => SvcHead.wf head && fits 8 code && fits 8 bed
  | .activityWithdraw head handle => SvcHead.wf head && fits 32 handle
  | .activityReport head => SvcHead.wf head
  | .deferredActivityStart handle => fits 32 handle
  | .bedCreate head c => SvcHead.wf head && BedCreate.wf c
  | .bedDelete head b => SvcHead.wf head && fits 8 b
  | .bedAdmitMember head b m slot => SvcHead.wf head && fits 8 b && fits 8 m && fits 8 slot
  | .bedReadmitReadOnly head b => SvcHead.wf head && fits 8 b
  | .bedRebuildIndex head b media => SvcHead.wf head && fits 8 b && mediaOk media
  | .bedHandover head b => SvcHead.wf head && fits 8 b
  | .epochAdvance head nsid => SvcHead.wf head && fits 32 nsid
  | .epochRewrap head nsid => SvcHead.wf head && fits 32 nsid
  | .epochRetire head nsid e blocks => SvcHead.wf head && fits 32 nsid && fits 32 e && fits 64 blocks
  | .keyPairingSecret head secret => SvcHead.wf head && bytesOf 32 secret
  | .pairingSecretExpiry => true
  | .keyGenerate head => SvcHead.wf head
  | .keyTransfer head receiver => SvcHead.wf head && fits 64 receiver
  | .keyEscrowSend head iv _ tag kcv => SvcHead.wf head && bytesOf 12 iv && bytesOf 16 tag && bytesOf 4 kcv
  | .keyZeroize head confirm => SvcHead.wf head && fits 16 confirm
  | .keyStoreReset head confirm => SvcHead.wf head && fits 16 confirm
  | .rackRecordPiece head offset piece _ _ _ _ => SvcHead.wf head && fits 32 offset && fits 16 piece.length
  | .rackKey head key => SvcHead.wf head && bytesOf 32 key
  | .rackRelease head => SvcHead.wf head
  | .rackWake head => SvcHead.wf head
  | .tenantWriteEntry head pos id name => SvcHead.wf head && fits 16 pos && fits 32 id && name.length ≤ 32
  | .tenantDeleteEntry head pos => SvcHead.wf head && fits 16 pos
  | .tenantSuspend head pos => SvcHead.wf head && fits 16 pos
  | .tenantResume head pos => SvcHead.wf head && fits 16 pos
  | .tenantAddPrefix head pos pre => SvcHead.wf head && fits 16 pos && fits 16 pre.length
  | .tenantClearPrefixes head pos => SvcHead.wf head && fits 16 pos
  | .tenantRevokeWindow head pos window => SvcHead.wf head && fits 16 pos && fits 16 window
  | .unitFence head src => SvcHead.wf head && fits 16 src
  | .unitReadmit head src => SvcHead.wf head && fits 16 src
  | .unitClearPermanent head src => SvcHead.wf head && fits 16 src
  | .laneRecalibration head port => SvcHead.wf head && fits 16 port
  | .ddrRetirement head chan => SvcHead.wf head && fits 16 chan
  | .rillJobBegin head d => SvcHead.wf head && RillDesc.wf d
  | .rillJobInputPiece head offset piece => SvcHead.wf head && fits 32 offset && fits 16 piece.length
  | .rillJobRun head => SvcHead.wf head
  | .rillJobReadOutput head offset len => SvcHead.wf head && fits 32 offset && fits 16 len
  | .rillJobEnd head => SvcHead.wf head
  | .readRing head ring first count => SvcHead.wf head && fits 8 ring && fits 64 first && fits 8 count
  | .bbxFormat head confirm => SvcHead.wf head && fits 16 confirm
  | .serviceKeyFirstInstall key request _ _ _ => bytesOf 32 key && fits 32 request
  | .serviceKeyReplace head key => SvcHead.wf head && bytesOf 32 key
  | .uartConfirmation _ => true
  | .serviceSessionTimeout session => fits 16 session
  | .drivePortLinkDown slot _ => slotOk slot
  | .drivePortLinkUp slot speed width => slotOk slot && fits 16 speed && fits 16 width
  | .endpointLinkUp speed width => fits 16 speed && fits 16 width
  | .mramPortRetrained => true
  | .selfTestPauseLimit => true
  | .temperatureSensorRead _ => true
  | .bmcManagementCommand => true
  | .consoleReset level => (level = 1 || level = 2)
  | .cmDrep i => below 4096 i
  | .serdesRefclkLoss ref => 1 ≤ ref && ref ≤ 3
  | .serdesRefclkReturn ref => 1 ≤ ref && ref ≤ 3
  | .pmuCounterWrap n => below 256 n

end Sys2Proof
end

