-- ==== Sys2Proof/Safety.lean ====
section
/-! DEFINITION. What statements are said in: the memories' canonical form, commands by what they may write, a request that is
carried out, and a run that never stops. -/

namespace Sys2Proof.Machine

/-- The MRAM and the service NOR are in canonical form. -/
def State.memoryOk (s : State) : Bool := s.mram.wf && s.nor.wf

/-- The control cores' register file lists no address twice, in rising order (so equal register files are equal data). -/
def Tab.sortedFrom {α : Type} : Nat → List (Nat × α) → Bool
  | _, [] => true
  | k, (j, _) :: t => decide (k ≤ j) && Tab.sortedFrom (j + 1) t

def Tab.sorted {α : Type} (t : Tab α) : Bool := Tab.sortedFrom 0 t.entries

/-- The commands that wait are such as a sender can send. -/
def State.pendingOk (s : State) : Bool := s.pending.all Instr.wf

/-- A request of the service port within a session is carried out: the port is served, the session is there, the tag and the
body are right, and the request number is new and rises; in service-wait only the types served by the ROM (R379–R382). -/
def State.svcOpen (s : State) (h : SvcHead) (type : Nat) : Bool :=
  s.svcPort && h.tagOk && h.bodyOk && !(s.rst.svcWait && !svcRom type) &&
    match s.mnt.sessions.get? h.session with
    | some x => (x.responses.find? (fun r => r.request = h.request)).isNone && decide (x.lastReq < h.request)
    | none => false

/-- The state in which such a request is carried out: the session's time and last request noted, the request recorded. -/
def State.svcNoted (s : State) (h : SvcHead) (type : Nat) : State :=
  let l := s.mnt.sessions.modify h.session (fun x => { x with at_ := s.now, lastReq := h.request })
  State.note { s with mnt := { s.mnt with sessions := l } } 0x70 (le 2 type)

end Sys2Proof.Machine

namespace Sys2Proof

/-! ### Commands by what they may write -/

/-- PMU_CTL snapshots and clears, freeze and sample reads. -/
def Instr.ofMonitor : Instr → Bool
  | .pmuSnap | .pmuClrAll | .pmuHistClr .. | .pmuFreezeWrite .. | .pmuSampleReadStart .. => true
  | _ => false

/-- Network commands that raise no event. -/
def Instr.ofNetwork : Instr → Bool
  | .pfcRefresh .. | .losslessRestoreExpiry .. | .ringHoldoffExpiry .. | .ringGuardExpiry | .pauseExpiry ..
  | .linkHoldExpiry .. | .rapsMessage .. | .refillBoundary | .gclStart .. | .gclEntryEnd .. | .linkUp ..
  | .gclCommitCancel .. | .gclCommit .. | .queueSample .. => true
  | _ => false

/-- Slot commands that end no power path. -/
def Instr.ofSlots : Instr → Bool
  | .raiseRequest .. | .clearFault .. | .slotTest .. | .assertPwrdis .. | .vinReturn .. | .reverseBlock ..
  | .reverseBlockClear .. | .presentPinEdge .. | .rampStart .. | .pwrdisEnd .. | .insertionDelayExpiry ..
  | .retryTimerExpiry .. | .repeatResetExpiry .. | .joinWaitExpiry .. => true
  | _ => false

/-- Reference returns and pulses. -/
def Instr.ofClocks : Instr → Bool
  | .refclkReturn | .serdesRefclkReturn .. | .ptpSampleTimeout | .ppsOutSecond => true
  | _ => false

/-- Rack messages and timers that give no order. -/
def Instr.ofRack : Instr → Bool
  | .accept .. | .refuse .. | .release .. | .claim .. | .renew .. | .renewTimer | .leaseOrderLimit | .claimCountEnd
  | .claimTimer => true
  | _ => false

/-- Sluice commands that run no host command. -/
def Instr.ofTransport : Instr → Bool
  | .cmReq .. | .cmRtu .. | .cmRej .. | .cmDreq .. | .cmDrep .. | .cnpReceived .. | .gapTimeout .. | .ackTimerExpiry ..
  | .ccRateIncrease .. | .rnrRetryExpiry .. | .triggeredWrPost .. | .localWrComplete .. | .qpnIndexReturn ..
  | .addressAnnounce => true
  | _ => false

/-- What a bed's standby takes from its owner. -/
def Instr.ofStandby : Instr → Bool
  | .windowMirror .. | .writeNotice .. | .transportNotice .. | .foldNotice .. | .accData .. | .recordMirror ..
  | .joinRequest .. | .tickEnd => true
  | _ => false

/-- Gusset link events and what the owner sends on them. -/
def Instr.ofLink : Instr → Bool
  | .gussetLinkDown | .gussetLinkUp | .gussetRetransmitTimer | .gussetDownDetach | .gussetAckTimer | .accRequest ..
  | .heartbeatSend | .slotGrant => true
  | _ => false

/-- Fabrics, property and admin commands, and host commands that touch no bed. -/
def Instr.ofFabrics : Instr → Bool
  | .connect .. | .propertyGet .. | .propertySet .. | .disconnect .. | .keepAlive .. | .keepAliveExpiry .. | .getLogPage ..
  | .identify .. | .setFeatures .. | .getFeatures .. | .asynchronousEventRequest .. | .adminOpcodeUnsupported ..
  | .namespaceAttachment .. | .createIoSubmissionQueue .. | .deleteIoSubmissionQueue .. | .createIoCompletionQueue ..
  | .deleteIoCompletionQueue .. | .doorbellWrite .. | .windowRegister .. | .windowRevokeProperty .. | .flush ..
  | .parkTimeout .. | .selfTestAbort .. | .selfTestPauseLimit | .controllerEnable .. => true
  | _ => false

/-- I/O commands of an opcode that is not supported. -/
def Instr.ofUnknown : Instr → Bool
  | .ioOpcodeUnsupported .. | .kvOpcodeUnsupported .. => true
  | _ => false

end Sys2Proof

namespace Sys2Proof.Machine

/-- A run from `s` never stops: whatever number of steps is taken, a next state is reached. -/
def Safe (s : State) : Prop := ∀ n : Nat, ∃ t : State, Sys2Proof.core.run n s = .next t

end Sys2Proof.Machine
end

