-- ==== Sys2Proof/Certificates/Slice0/Obligations.lean ====
section
/-! DEFINITION. The statements for the provers, from the rules of spec/. A statement that a command takes effect gives
the state it answers under conditions on the state and the operands alone. -/

open Sys2Proof Sys2Proof.Machine

/-! ### The queue -/

/-- A step takes the command at the front of the queue and answers what its meaning answers on the state with the queue's
rest. -/
def Obligations.StepRunsTheFrontCommand : Prop :=
  ∀ (c : Instr) (rest : List Instr) (s : State), s.pending = c :: rest → step s = exec c { s with pending := rest }

/-- Model's choice (log entries 4 and 57): on an empty queue, where nothing waits for the control cores or a core episode
runs, a step lets one cycle of the 100 MHz clock pass: `now` goes on by 10 ns, and the queue, the registers and the MRAM stay.
Where something waits for the cores and no core episode runs, the step takes the oldest of it, with what waits behind it still
waiting. -/
def Obligations.EmptyQueueStepTakesTenNanoseconds : Prop :=
  (∀ s : State, s.pending = [] → s.net.ctl = [] ∨ s.coreStop = true →
    ∃ t, step s = .next t ∧ t.now = s.now + 10 ∧ t.pending = [] ∧ t.regs = s.regs ∧ t.mram = s.mram) ∧
  (∀ (c : Instr) (rest : List Instr) (s : State), s.pending = [] → s.coreStop = false → s.net.ctl = c :: rest →
    ∃ t, exec c { s with net := { s.net with ctl := rest, serving := true } } = .next t ∧
      step s = .next { t with net := { t.net with serving := false } })

/-! ### Register accesses (R7–R11, R397) -/

/-- R9, of an access that its path lets in. A write that is not aligned, or not of all four bytes, changes nothing but
TOP_CFGERR, which records reason 2; one of an unmapped address, nothing but TOP_CFGERR, which records reason 3; an aligned
write of all four bytes of a register has the effect of its fields' classes and of its block. A read may use any byte enables:
it returns the bytes requested, 0 for an unmapped address, and clears each RC field all of whose bits lie in the requested
bytes; every other field keeps its value. (The two halves of a 64-bit pair are read as LoReadLatchesHiForItsPath says, the
accesses outside the register table as OtherRegisterAccessesTakeEffect.) -/
def Obligations.AccessesFollowTheByteEnables : Prop :=
  (∀ (path : AccessPath) (addr be : Nat) (v : Word) (s : State), s.pathOpen path = true → addr % 4 ≠ 0 ∨ be ≠ 15 →
    exec (.registerWrite path addr be v) s = .next (s.cfgErr 2 (addr % 2 ^ 24))) ∧
  (∀ (path : AccessPath) (addr : Nat) (v : Word) (s : State), s.pathOpen path = true →
    addr % 4 = 0 → addr < 2 ^ 24 → s.absentReg addr = false → findReg addr = none →
    ¬(0x708000 ≤ addr ∧ addr < 0x708040) → ¬(0x709000 ≤ addr ∧ addr < 0x709008) →
    exec (.registerWrite path addr 15 v) s = .next (s.cfgErr 3 addr)) ∧
  (∀ (reason addr : Nat) (s : State), reason < 16 → addr < 2 ^ 24 → s.flag F.TOP_CFGERR_VALID = false →
    (∀ a, a ≠ 0x10 → (s.cfgErr reason addr).reg a = s.reg a) ∧ (s.cfgErr reason addr).mram = s.mram ∧
    (s.cfgErr reason addr).flag F.TOP_CFGERR_VALID = true ∧ (s.cfgErr reason addr).fld F.TOP_CFGERR_REASON = reason ∧
    (s.cfgErr reason addr).fld F.TOP_CFGERR_ADDR = addr) ∧
  (∀ (path : AccessPath) (addr : Nat) (v : Word) (s : State) (r : RegDesc) (i j : Nat), s.pathOpen path = true →
    addr % 4 = 0 → addr < 2 ^ 24 → s.absentReg addr = false → s.pmuDeaf addr = false →
    findReg addr = some (r, i, j) → r.base ≠ 0x700014 →
    ¬(0x708000 ≤ addr ∧ addr < 0x708040) → ¬(0x709000 ≤ addr ∧ addr < 0x709008) →
    exec (.registerWrite path addr 15 v) s =
      .next (regEffect s path r.base i v (r.fields.foldl (writeField r.base i addr v (s.quiesced r.base i)) (s, 0))).1) ∧
  (∀ (path : AccessPath) (addr be : Nat) (s : State), s.pathOpen path = true →
    addr % 4 = 0 → addr < 2 ^ 24 → findReg addr = none → ¬(0x708000 ≤ addr ∧ addr < 0x708040) → addr ≠ 0x709000 →
    exec (.readClearAccess path addr be) s = .next (s.emit (.regData path addr 0))) ∧
  (∀ (path : AccessPath) (addr be : Nat) (s : State) (r : RegDesc) (i j : Nat), s.pathOpen path = true →
    addr % 4 = 0 → addr < 2 ^ 24 → s.absentReg addr = false → s.pmuDeaf addr = false →
    findReg addr = some (r, i, j) → ¬(0x708000 ≤ addr ∧ addr < 0x708040) → addr ≠ 0x709000 → isHi r.base = false → hiOf r.base = none →
    exec (.readClearAccess path addr be) s =
      .next ((s.clearRc r addr be).emit (.regData path addr (s.classRead r i j addr &&& BitVec.ofNat 32 (beMask be))))) ∧
  (∀ (addr be : Nat) (s : State) (r : RegDesc) (i j : Nat), findReg addr = some (r, i, j) →
    (∀ a, a ≠ addr → (s.clearRc r addr be).reg a = s.reg a) ∧
    ∀ f ∈ r.fields,
      ((f.acc = .rc ∧ ∀ b, f.lo ≤ b → b ≤ f.hi → bit be (b / 8) = true) →
        (s.clearRc r addr be).fld ⟨addr, f.hi, f.lo⟩ = 0) ∧
      (¬(f.acc = .rc ∧ ∀ b, f.lo ≤ b → b ≤ f.hi → bit be (b / 8) = true) →
        (s.clearRc r addr be).fld ⟨addr, f.hi, f.lo⟩ = s.fld ⟨addr, f.hi, f.lo⟩))

/-- The accesses that the register table does not settle: registers of absent instances (R2), the peer windows' map (R331),
function 1's MSI-X table and its pending bits (R337), the monitor's registers in Dark and Held (R355), and what comes through
BAR0 while function 1 answers no memory request, which is an Unsupported Request (R337). -/
def Obligations.OtherRegisterAccessesTakeEffect : Prop :=
  (∀ (path : AccessPath) (addr : Nat) (v : Word) (s : State), s.pathOpen path = true → addr % 4 = 0 → addr < 2 ^ 24 →
    s.absentReg addr = true →
    exec (.registerWrite path addr 15 v) s = .next (s.cfgErr 4 addr) ∧
    ∀ be, exec (.readClearAccess path addr be) s = .next (s.emit (.regData path addr 0))) ∧
  (∀ (path : AccessPath) (w : Nat) (v : Word) (s : State), s.pathOpen path = true → w < 8 →
    exec (.registerWrite path (0x700014 + 8 * w) 15 v) s = .next (s.pwinMap w (v.getLsbD 31) (v.toNat % 256)).1) ∧
  (∀ (path : AccessPath) (dw : Nat) (v : Word) (s : State), s.pathOpen path = true → dw < 16 →
    exec (.registerWrite path (0x708000 + 4 * dw) 15 v) s = .next (s.msixWrite dw v) ∧
    ∀ be, exec (.readClearAccess path (0x708000 + 4 * dw) be) s =
      .next (s.emit (.regData path (0x708000 + 4 * dw)
        (s.ept.msix1.getD dw (if dw % 4 = 3 then 1 else 0) &&& BitVec.ofNat 32 (beMask be))))) ∧
  (∀ (path : AccessPath) (be : Nat) (v : Word) (s : State), s.pathOpen path = true →
    exec (.registerWrite path 0x709000 15 v) s = .next s ∧ exec (.registerWrite path 0x709004 15 v) s = .next s ∧
    exec (.readClearAccess path 0x709000 be) s =
      .next (s.emit (.regData path 0x709000 (BitVec.ofNat 32 s.ept.pba1 &&& BitVec.ofNat 32 (beMask be))))) ∧
  (∀ (path : AccessPath) (addr : Nat) (v : Word) (s : State), s.pathOpen path = true → addr % 4 = 0 → 0x60000 ≤ addr →
    addr < 0x70000 → s.pmuOn = false →
    (findReg addr ≠ none → exec (.registerWrite path addr 15 v) s = .next s) ∧
    ∀ be, exec (.readClearAccess path addr be) s = .next (s.emit (.regData path addr 0))) ∧
  (∀ (addr be : Nat) (v : Word) (s : State), s.pathOpen .bar0 = false →
    exec (.registerWrite .bar0 addr be v) s = .next (s.aerSet 1 20) ∧
    exec (.readClearAccess .bar0 addr be) s = .next ((s.aerSet 1 20).emit (.tlp 1 [])))

/-- R8. Two values written that agree on the register's fields have the same effect, whatever they hold in its reserved
bits; a read returns 0 in a reserved bit, and what a LO read latches for a HI register (R397) holds 0 there. Bit 30 of an even
counter's PMU_CTR_CFG is such a bit (R358). -/
def Obligations.ReservedBitsAreIgnoredAndReadZero : Prop :=
  (∀ (path : AccessPath) (addr : Nat) (v w : Word) (s : State) (r : RegDesc) (i j : Nat),
    addr % 4 = 0 → addr < 2 ^ 24 → findReg addr = some (r, i, j) →
    (∀ f ∈ r.fields, getBits v f.hi f.lo = getBits w f.hi f.lo) →
    exec (.registerWrite path addr 15 v) s = exec (.registerWrite path addr 15 w) s) ∧
  (∀ (path : AccessPath) (addr be b : Nat) (s : State) (r : RegDesc) (i j : Nat),
    addr % 4 = 0 → addr < 2 ^ 24 → findReg addr = some (r, i, j) → isHi r.base = false →
    (∀ f ∈ r.fields, ¬(f.lo ≤ b ∧ b ≤ f.hi)) → s.pathOpen path = true →
    ∃ t w, exec (.readClearAccess path addr be) s = .next t ∧ t.out.head? = some (.regData path addr w) ∧
      w.getLsbD b = false) ∧
  (∀ (addr b : Nat) (s : State) (r : RegDesc) (i j : Nat), findReg addr = some (r, i, j) →
    (∀ f ∈ r.fields, ¬(f.lo ≤ b ∧ b ≤ f.hi)) → (s.classRead r i j addr).getLsbD b = false) ∧
  (∀ (path : AccessPath) (n be : Nat) (v w : Word) (s : State), n < 256 → n % 2 = 0 →
    (∀ b, b ≠ 30 → v.getLsbD b = w.getLsbD b) →
    exec (.registerWrite path (0x61000 + 4 * n) 15 v) s = exec (.registerWrite path (0x61000 + 4 * n) 15 w) s ∧
    (s.pathOpen path = true → ∃ t x, exec (.readClearAccess path (0x61000 + 4 * n) be) s = .next t ∧
      t.out.head? = some (.regData path (0x61000 + 4 * n) x) ∧ x.getLsbD 30 = false))

/-- R397, of a read that its path lets in, with any byte enables. A read of the LO register of OBJ_LIVE, RACK_EPOCH,
CLK_TIME, BBX_NEXT or PMU_CTR returns that register's bytes and latches the HI register for the path of the read, and for no
other path and no other pair; a read of the HI register returns what the path last latched, and 0 where it has latched
nothing. Where the monitor does not run, both halves of PMU_CTR read 0 and latch nothing (R355). LO_READ_LATCH is a read of all
four bytes: each session of the service protocol is a path (R382). -/
def Obligations.LoReadLatchesHiForItsPath : Prop :=
  (∀ (path : AccessPath) (addr : Nat) (s : State), exec (.loReadLatch path addr) s = exec (.readClearAccess path addr 15) s) ∧
  (∀ (path : AccessPath) (addr : Nat) (s : State), s.pathOpen path = true →
    ((∃ b, b < 4 ∧ addr = 0x380010 + 8 * b) ∨ addr = 0x680010 ∨ addr = 0x20030 ∨ addr = 0x50000 ∨
      ∃ n, n < 256 ∧ s.pmuOn = true ∧ addr = 0x62000 + 8 * n) →
    ∃ r i j h i' j', findReg addr = some (r, i, j) ∧ findReg (addr + 4) = some (h, i', j') ∧
      exec (.loReadLatch path addr) s =
        .next (State.emit { s with regs := s.regs.setLatch path (addr + 4) (s.classRead h i' j' (addr + 4)) }
          (.regData path addr (s.classRead r i j addr))) ∧
      (∀ be, exec (.readClearAccess path addr be) s =
        .next (State.emit { s with regs := s.regs.setLatch path (addr + 4) (s.classRead h i' j' (addr + 4)) }
          (.regData path addr (s.classRead r i j addr &&& BitVec.ofNat 32 (beMask be))))) ∧
      (∀ be, exec (.readClearAccess path (addr + 4) be) s =
        .next (s.emit (.regData path (addr + 4) (s.regs.latched path (addr + 4) &&& BitVec.ofNat 32 (beMask be)))))) ∧
  (∀ (path : AccessPath) (addr : Nat) (w : Word) (r : RegFile),
    (r.setLatch path addr w).vals = r.vals ∧ (r.setLatch path addr w).pend = r.pend ∧
    (r.setLatch path addr w).latched path addr = w ∧
    ∀ q a, q ≠ path ∨ a ≠ addr → (r.setLatch path addr w).latched q a = r.latched q a) ∧
  (∀ (path : AccessPath) (addr : Nat) (s : State),
    s.regs.latch.find? (fun x => x.1 = path && x.2.1 = addr) = none → s.regs.latched path addr = 0) ∧
  (∀ (path : AccessPath) (n be : Nat) (s : State), s.pathOpen path = true → n < 256 → s.pmuOn = false →
    exec (.readClearAccess path (0x62000 + 8 * n) be) s = .next (s.emit (.regData path (0x62000 + 8 * n) 0)) ∧
    exec (.readClearAccess path (0x62004 + 8 * n) be) s = .next (s.emit (.regData path (0x62004 + 8 * n) 0)))

/-! ### Slot power (R261–R276) -/

/-- What the slot commands and timers do where they act. A request is raised on a path that is not Off, and is dropped: the
path turns off, a fault or a disabled path stays so. A latched fault is cleared, REPEAT kept; a test starts from Off; PWRDIS is
asserted for a second; the present pin's edge starts the debounce, whose end takes the drive as inserted or removed; the timers
of the insertion delay, of the retry and of REPEAT run out. -/
def Obligations.SlotCommandsAndTimersTakeEffect : Prop :=
  (∀ (k : Nat) (s : State), k < 24 → (s.chan k).request = false → (s.chan k).st ≠ .off →
    ∃ t, exec (.raiseRequest k) s = .next t ∧ t.chan k = { s.chan k with request := true, auto := false }) ∧
  (∀ (k : Nat) (s : State), k < 24 → (s.chan k).request = true → (s.chan k).st ≠ .fault → (s.chan k).st ≠ .disabled →
    exec (.dropRequest k) s = .next ((s.setChan k { s.chan k with request := false, auto := false }).gateOff k .off)) ∧
  (∀ (k : Nat) (s : State), k < 24 → (s.chan k).request = true ∨ (s.chan k).testing = false →
    (s.chan k).st = .fault ∨ (s.chan k).st = .disabled →
    ∃ t, exec (.dropRequest k) s = .next t ∧ t.chan k = { s.chan k with request := false, auto := false }) ∧
  (∀ (k : Nat) (s : State), k < 24 → (s.chan k).st = .fault → (s.chan k).request = false →
    ∃ t, exec (.clearFault k) s = .next t ∧ (t.chan k).st = .off ∧ (t.chan k).retryAt = none ∧
      (t.chan k).repeat_ = (s.chan k).repeat_) ∧
  (∀ (k : Nat) (s : State), k < 24 → (s.chan k).st = .off →
    ∃ t, exec (.slotTest k) s = .next t ∧ (t.chan k).st = .waiting ∧ (t.chan k).testing = true ∧ (t.chan k).ctx = .test) ∧
  (∀ (k : Nat) (s : State), k < 24 →
    ∃ t, exec (.assertPwrdis k) s = .next t ∧ (t.chan k).pwrdisAt = some (s.now + 1000000000)) ∧
  (∀ (k d : Nat) (s : State), (s.chan k).pwrdisAt = some d → s.now ≤ d →
    ∃ t, exec (.pwrdisEnd k) s = .next t ∧ (t.chan k).pwrdisAt = none ∧ t.now = d) ∧
  (∀ (k d vout iout : Nat) (s : State), (s.chan k).testAt = some d →
    exec (.slotTestHoldEnd k vout iout) s =
      .next (let u := (s.at d).gateOff k .off
             let v := u.setChan k { u.chan k with vout := vout, iout := iout }
             if (v.chan k).request then v.wait k .recovery else v)) ∧
  (∀ (k : Nat) (en : Bool) (s : State), k < 24 → exec (.slotEnableWrite k en) s = .next (s.slotEnable k en)) ∧
  (∀ (k : Nat) (level : Bool) (s : State), k < 24 →
    ∃ t, exec (.presentPinEdge k level) s = .next t ∧ (t.chan k).raw = level ∧ (t.chan k).present = (s.chan k).present ∧
      (level = (s.chan k).present → (t.chan k).dbAt = none)) ∧
  (∀ (k d : Nat) (s : State), (s.chan k).dbAt = some d →
    exec (.presentDebounceExpiry k) s = .next (if ((s.at d).chan k).raw then (s.at d).inserted k else (s.at d).removed k)) ∧
  (∀ (k d : Nat) (s : State), (s.chan k).lostAt = some d → exec (.presentLost k) s = .next ((s.at d).softOff k 0xA)) ∧
  (∀ (k d : Nat) (s : State), (s.chan k).insAt = some d → s.spc.vinIn = true → (s.chan k).present = true →
    ∃ t, exec (.insertionDelayExpiry k) s = .next t ∧ (t.chan k).met = some (max s.now d * 32 + k) ∧ (t.chan k).insAt = none) ∧
  (∀ (k d : Nat) (s : State), (s.chan k).retryAt = some d → (s.chan k).st = .fault → (s.chan k).request = false →
    ∃ t, exec (.retryTimerExpiry k) s = .next t ∧ (t.chan k).st = .off ∧ (t.chan k).retryAt = none) ∧
  (∀ (k d : Nat) (s : State), (s.chan k).pg60At = some d →
    ∃ t, exec (.repeatResetExpiry k) s = .next t ∧ (t.chan k).repeat_ = 0 ∧ (t.chan k).st = (s.chan k).st)

/-- What the events of a slot's power path do where they act. A waiting channel whose conditions hold looks at VOUT; a ramping
one with power-good is On; the faults of a ramp (causes 1, 3), of a path that is On (4, 5) and of driven gates (7) trip the
channel; the reverse block drops power-good and its end clears the block. VIN out of its window turns every driving channel off
with cause 8 or 9, and VIN back restarts what waits; a sample of a channel that does not drive keeps VIN and the die's
temperature. -/
def Obligations.SlotPathEventsTakeEffect : Prop :=
  (∀ (k vout : Nat) (s : State), (s.chan k).st = .waiting → (s.chan k).met.isSome = true → s.mayPower = true →
    s.spc.swapHold = false → s.cool k = true → ((s.chan k).request || (s.chan k).testing) = true → (s.chan k).joinAt = none →
    exec (.rampStart k vout) s = .next ((s.rampRwl k).look k vout)) ∧
  (∀ (k d vout : Nat) (s : State), (s.chan k).joinAt = some d → s.mayPower = true → s.spc.swapHold = false → s.cool k = true →
    exec (.joinWaitExpiry k vout) s =
      .next ((((s.at d).setChan k { s.chan k with joinAt := none, joinLooked := true }).rampRwl k).look k vout)) ∧
  (∀ (k vout : Nat) (s : State), (s.chan k).st = .ramping →
    exec (.powerGood k vout) s =
      .next (s.setChan k { s.chan k with
        st := .on, pg := true, vout := vout, rampMaxAt := none, joining := false, pg60At := some (s.now + sec 60)
        testAt := if (s.chan k).testing then some (s.now + sec 1) else (s.chan k).testAt }).swapDone.syncDomains) ∧
  (∀ (k : Nat) (p : Bool) (s : State), (s.chan k).st = .ramping →
    exec (.rampFaultTimerExpiry k p) s = .next (s.trip k 1 p)) ∧
  (∀ (k d : Nat) (p : Bool) (s : State), (s.chan k).rampMaxAt = some d → (s.chan k).st = .ramping →
    exec (.rampMaxExpiry k p) s = .next ((s.at d).trip k 3 p)) ∧
  (∀ (k : Nat) (p : Bool) (s : State), (s.chan k).st = .on → exec (.breakerTrip k p) s = .next (s.trip k 4 p)) ∧
  (∀ (k : Nat) (p : Bool) (s : State), (s.chan k).st = .on → exec (.fastTrip k p) s = .next (s.trip k 5 p)) ∧
  (∀ (k : Nat) (p : Bool) (s : State), (s.chan k).driving = true → exec (.gateFault k p) s = .next (s.trip k 7 p)) ∧
  (∀ (k vout : Nat) (s : State), (s.chan k).st = .on →
    ∃ t, exec (.reverseBlock k vout) s = .next t ∧
      t.chan k = { s.chan k with pg := false, rev := true, pg60At := none, vout := vout }) ∧
  (∀ (k : Nat) (s : State), ∃ t, exec (.reverseBlockClear k) s = .next t ∧ t.chan k = { s.chan k with rev := false }) ∧
  (∀ (vin : Nat) (s : State),
    exec (.vinUndervoltage vin) s = .next ((State.vinOut { s with spc := { s.spc with vin := vin } }).allSoftOff 8)) ∧
  (∀ (vin : Nat) (s : State),
    exec (.vinOvervoltage vin) s = .next ((State.vinOut { s with spc := { s.spc with vin := vin } }).allSoftOff 9)) ∧
  (∀ (vin : Nat) (s : State), exec (.vinReturn vin) s = .next (State.vinBack { s with spc := { s.spc with vin := vin } })) ∧
  (∀ (k vin vout iout dieC : Nat) (p : Bool) (s : State), (s.chan k).driving = false →
    ∃ t, exec (.modelStep k vin vout iout dieC false p) s = .next t ∧ t.spc.vin = vin ∧ t.spc.dieC = dieC)

/-! ### Supplies, clocks, time (R293–R308) -/

/-- What the events of the supplies and clocks do where they act. A rail is lost or back; PWRFAIL_N starts the sequence, whose
steps follow, and its release ends a joined source; a domain that is switched on is usable, a cipher core's first tests judged;
a reference is lost or back, and holdover ends in a reset; a Sync exchange gives a sample of the offset, and 60 s without one
unlock; a pulse gives a sample, and PPS_OUT rises at a second of a locked clock. -/
def Obligations.SuppliesAndClocksTakeEffect : Prop :=
  (∀ (info : RailInfo) (s : State), info.rail ≤ 8 → info.ok = true →
    ∃ t, exec (.railFault info) s = .next t ∧ t.pwr.railOk = setBit s.pwr.railOk info.rail true) ∧
  (∀ (info : RailInfo) (s : State), info.rail ≤ 8 → info.ok = false → exec (.railFault info) s = .next (s.railLow info)) ∧
  (∀ s : State, s.rst.episode = none → s.shelf.st ≠ .held → s.pwr.pf = none →
    ∃ t, exec .pwrfailAssert s = .next t ∧ t.pwr.pf = some ⟨s.now, 1, 0⟩ ∧ t.pwr.pfPhase = 1 ∧ t.pwr.pfLow = true) ∧
  (∀ (p : PfSeq) (s : State), s.pwr.pf = some p → exec .pwrfailStep s = .next (s.pfStep p)) ∧
  (∀ s : State, exec .pwrfailRelease s = .next (State.releaseSource { s with pwr := { s.pwr with pfLow := false } } 4)) ∧
  (∀ (d u : Nat) (s : State), s.pwr.rising.find? (fun e => e.1 = d) = some (d, u) →
    ∀ passed, exec (.domainSwitchOnDone ⟨d, passed⟩) s =
      .next (let v := (s.at u).coreTested d passed
             if passed || v.domWanted d then v.domUsable d else v)) ∧
  (∀ s : State, bit s.clk.refs 0 = true →
    exec .refclkLoss s =
      .next ((State.bump { s with clk := { s.clk with
        refs := setBit s.clk.refs 0 false, rootLock := false, holdover := true, holdAt := some (s.now + msec 100), refGoodAt := none } }
        F.CLK_STAT_REF_LOSS 1).supplyEvent 0x10)) ∧
  (∀ s : State, ∃ t, exec .refclkReturn s = .next t ∧ t.clk.holdover = false ∧ t.clk.holdAt = none ∧
    t.clk.refGoodAt = some (s.now + 10000000)) ∧
  (∀ (d : Nat) (s : State), s.clk.holdAt = some d →
    exec .holdoverExpiry s = .next (State.resetAssert { s.at d with clk := { s.clk with holdAt := none } } 5 2)) ∧
  (∀ (r : Nat) (s : State), 1 ≤ r → r ≤ 3 → bit s.clk.refs r = true →
    exec (.serdesRefclkLoss r) s =
      .next (((State.bump { s with clk := { s.clk with refs := setBit s.clk.refs r false } } F.CLK_STAT_REF_LOSS 1).refDown r).supplyEvent 0)) ∧
  (∀ (r : Nat) (s : State), 1 ≤ r → r ≤ 3 →
    ∃ t, exec (.serdesRefclkReturn r) s = .next t ∧ t.clk.refs = setBit s.clk.refs r true) ∧
  (∀ (port : Nat) (t1 t4 : Int) (s u : State), s.ctlWaits = false → u = s.applyRwl 0x20020 → u.flag F.CLK_PTP_CFG_EN = true →
    u.flag F.CLK_PTP_CFG_SRC = false → bit (u.fld F.CLK_PTP_CFG_PORTS) port = true → u.netUp port = true →
    exec (.ptpSync port ⟨t1, t4⟩) s =
      .next (let v : State := { u with clk := { u.clk with port := port } }
             (v.setNet port { v.nport port with rxStamp := none, txStamp := none }).sample (u.ptpOffset port t1 t4)
               (decide (max 1 (u.fld F.CLK_PTP_CFG_STEP_US) * 1000 < (u.ptpOffset port t1 t4).natAbs)))) ∧
  (∀ (d : Nat) (s : State), s.clk.sampleAt = some d →
    ∃ t, exec .ptpSampleTimeout s = .next t ∧ t.clk.locked = false ∧ t.clk.good = 0 ∧ t.clk.bad = 0) ∧
  (∀ s : State, (s.applyRwl 0x20020).flag F.CLK_PTP_CFG_EN = true → (s.applyRwl 0x20020).flag F.CLK_PTP_CFG_SRC = true →
    (s.applyRwl 0x20020).clk.tod = none → (s.applyRwl 0x20020).clk.todSet = true →
    exec .ppsInPulse s = .next ((s.applyRwl 0x20020).sample (nearSecond (s.applyRwl 0x20020).dev) false)) ∧
  (∀ s : State, (s.applyRwl 0x20038).clk.locked = true → (s.applyRwl 0x20038).flag F.CLK_PPS_OUT_EN = true →
    ∃ t, exec .ppsOutSecond s = .next t ∧ t.out = .pps true :: s.out)

/-! ### Resets and start-up (R311–R322) -/

/-- What the resets' commands do where they act: a source asserts or is released, the stretch and the confirmation of the line
end, a watchdog or a core episode runs out, a watchdog is kicked, software asks for a reset, a round of the straps is read, a
start-up step runs. During a core episode no capsule takes a slot and every completion is held; a frame for core 0 waits in the
control-path queues while the cores are in reset or earlier frames wait; a Connect and a drive's completion wait for the cores
in reset, and what applies a delta, folds, rebuilds, resynchronises or reclaims changes nothing until they run (R317; log entry
57). -/
def Obligations.ResetCommandsTakeEffect : Prop :=
  (∀ (src reach : Nat) (s : State), src ≤ 11 → src ≠ 3 →
    exec (.resetSourceAssert src reach) s = .next (s.resetAssert src (fixedReach src reach))) ∧
  (∀ (src : Nat) (s : State), src ≠ 5 → exec (.resetSourceRelease src) s = .next (s.releaseSource src)) ∧
  (∀ (d : Nat) (s : State), s.clk.refGoodAt = some d → exec (.resetSourceRelease 5) s = .next ((s.at d).releaseSource 5)) ∧
  (∀ (ep : Episode) (s : State), s.rst.episode = some ep → ep.stretched = false → 2 ≤ ep.reach → ep.asserted = 0 → s.shelf.strapDone = false →
    ∃ t, exec (.stretchExpiry false) s = .next t ∧
      t.rst.episode = some { ep with stretched := true, lineAt := some ((s.at ep.stretchAt).now + 100000) } ∧ t.rst.sysrstLow = false) ∧
  (∀ s : State, s.rst.sysrstLow = false → exec .sysrstHighConfirm s = .next (s.releaseSource 3)) ∧
  (∀ (ep : Episode) (d : Nat) (s : State), s.rst.episode = some ep → ep.deadline5 = some d →
    ∃ t, exec .coreEpisodeTimeout s = .next t ∧ t.thm.fault = true ∧ t.rst.episode = some { ep with deadline5 := none }) ∧
  (∀ (d : Nat) (s : State), s.rst.wdCore0 = some d →
    exec (.watchdogExpiry true) s = .next (State.resetAssert { s.at d with rst := { s.rst with wdCore0 := none } } 6 2)) ∧
  (∀ (d : Nat) (s : State), s.rst.wdCores = some d →
    exec (.watchdogExpiry false) s = .next (State.resetAssert { s.at d with rst := { s.rst with wdCores := none } } 7 1)) ∧
  (∀ (v : Word) (s : State), ∃ t, exec (.watchdogKick v) s = .next t ∧ t.rst.wdCore0.isSome = true ∧ t.rst.wdCores.isSome = true) ∧
  (∀ s : State, exec .rstCtrlCore s = .next (s.resetAssert 9 1)) ∧
  (∀ s : State, exec .rstCtrlSystem s = .next (s.resetAssert 9 2)) ∧
  (∀ (info : StartInfo) (d : Nat) (s : State), s.rst.startAt = some d → s.rst.svcWait = false → s.rst.episode = none →
    s.rst.phase < 10 → exec (.startUpStep info) s = .next (s.bootStep info)) ∧
  (∀ (readings : List Nat) (ep : Episode) (c : Nat) (s : State), s.rst.episode = some ep → 2 ≤ ep.reach → readings.length = 8 →
    s.shelf.strapDone = false → roundCode readings = some c →
    exec (.strapReadRound readings) s =
      .next (State.strapEnd { s with shelf := { s.shelf with strapRounds := s.shelf.strapRounds + 1 } } c false (s.shelf.strapRounds + 1)
        (sumN readings / 8))) ∧
  (∀ (level : Nat) (s : State), s.svcPort = true → level = 1 ∨ level = 2 →
    exec (.consoleReset level) s = .next (s.resetAssert 10 level)) ∧
  (∀ s : State, s.coreStop = true → s.nextGrant = none ∧ ∀ r : CmdRec, s.held r = true) ∧
  (∀ s : State, s.ctlWaits = true →
    (∀ h e, exec (.claim h e) s = .next (s.waitFrame (.claim h e))) ∧
    (∀ h e, exec (.accept h e) s = .next (s.waitFrame (.accept h e))) ∧
    (∀ h a b c, exec (.refuse h a b c) s = .next (s.waitFrame (.refuse h a b c))) ∧
    (∀ h a b, exec (.renew h a b) s = .next (s.waitFrame (.renew h a b))) ∧
    (∀ h, exec (.release h) s = .next (s.waitFrame (.release h))) ∧
    (∀ h b, exec (.status h b) s = .next (s.waitFrame (.status h b))) ∧
    (∀ h a b c, exec (.wake h a b c) s = .next (s.waitFrame (.wake h a b c))) ∧
    (∀ h a b f g, exec (.order h a b f g) s = .next (s.waitFrame (.order h a b f g))) ∧
    (∀ h a b c, exec (.done h a b c) s = .next (s.waitFrame (.done h a b c))) ∧
    (∀ n m, exec (.rapsMessage n m) s = .next (s.waitFrameAt n (.rapsMessage n m))) ∧
    (∀ n a, exec (.ptpSync n a) s = .next (s.waitFrameAt n (.ptpSync n a))) ∧
    (∀ q, exec (.cmReq q) s = .next (s.waitFrame (.cmReq q))) ∧
    (∀ i, exec (.cmRtu i) s = .next (s.waitFrame (.cmRtu i))) ∧
    (∀ i, exec (.cmRej i) s = .next (s.waitFrame (.cmRej i))) ∧
    (∀ i, exec (.cmDreq i) s = .next (s.waitFrame (.cmDreq i)))) ∧
  (∀ s : State, s.coreStop = true →
    (∀ c q, exec (.connect c q) s = .next (s.waitCores (.connect c q))) ∧
    (∀ i st d, exec (.driveCommandCompletion i st d) s = .next (s.waitCores (.driveCommandCompletion i st d))) ∧
    (∀ a, exec (.mapDeltaApply a) s = .next s) ∧ (∀ a, exec (.indexDeltaApply a) s = .next s) ∧
    (∀ b m, exec (.recordFold b m) s = .next s) ∧ (∀ b m, exec (.rebuildSliceComplete b m) s = .next s) ∧
    (∀ b m, exec (.resyncBandComplete b m) s = .next s) ∧ (∀ b m, exec (.reclaim b m) s = .next s))

/-- A reset with no episode under way starts one: its source, its reach and the 2 ms stretch. -/
def Obligations.ResetStartsAnEpisode : Prop :=
  ∀ (s : State), s.rst.episode = none →
    ∃ t ep, exec .rstCtrlSystem s = .next t ∧ t.rst.episode = some ep ∧ ep.first = 9 ∧ ep.reach = 2 ∧
      ep.stretchAt = s.now + 2000000 ∧ ep.stretched = false ∧ ep.joined = 512


/-! ### Thimble, the black box and the performance monitor (R340–R368) -/

/-- An event acts on its own unit and then through Thimble; the end of a second of device time writes a source's summary record,
and none where nothing was left out; the end of a quiet period starts the check of a fenced instance, whose end admits it or
not; THM_CMD fences where the fence is allowed, admits again, and clears a permanent fence for the service protocol; a black-box
read is ready when its step ends, with the MRAM and the beds as they were; a retrained MRAM port writes again and takes the
staged records. -/
def Obligations.FaultCommandsTakeEffect : Prop :=
  (∀ (src sev group detail : Nat) (u : Bytes) (s : State),
    exec (.faultEvent src sev group detail u) s =
      .next (s.coresSynced ((s.faultUnit src sev group).raise src sev (group % 256 * 0x1000000 + detail % 0x1000000) u))) ∧
  (∀ (src : Nat) (s : State), exec (.recordRateSecondEnd src) s = .next ((s.at (s.now + (sec 1 - s.dev % sec 1))).summary src)) ∧
  (∀ (src : Nat) (s : State), ((s.at (s.now + (sec 1 - s.dev % sec 1))).srcSt src).recLeft = 0 →
    exec (.recordRateSecondEnd src) s = .next (s.at (s.now + (sec 1 - s.dev % sec 1)))) ∧
  (∀ (src d : Nat) (s : State), (s.srcSt src).quietAt = some d → exec (.quietPeriodExpiry src) s = .next ((s.at d).startCheck src)) ∧
  (∀ (src : Nat) (passed : Bool) (s : State), exec (.admissionCheckComplete src passed) s = .next (s.endCheck src passed)) ∧
  (∀ (src : Nat) (s u : State), s.serviceFence src = some u → exec (.thmFence src) s = .next u) ∧
  (∀ (src : Nat) (s : State), exec (.thmReadmit src) s = .next (s.serviceReadmit src)) ∧
  (∀ (src session : Nat) (s : State), exec (.thmClearPermanent src (.service session)) s = .next (s.clearPermanent src)) ∧
  (∀ (hi : Nat) (s : State), ∃ t, exec (.bbxReadStart hi) s = .next t ∧ t.thm.rdReady = true ∧ t.mram = s.mram ∧ t.beds = s.beds) ∧
  (∀ s : State, exec .mramPortRetrained s = .next (State.bbxDrain { s with thm := { s.thm with mramOk := true } })) ∧
  (∀ s : State, s.thm.staged = [] → ∃ t, exec .mramPortRetrained s = .next t ∧ t.thm.mramOk = true ∧ t.mram = s.mram)

/-- Through BAR0 or by the control cores, THM_CMD's operation 3 clears nothing: Thimble stays as it was, and the refused write is
recorded with reason 5 where no refused write was held. -/
def Obligations.PermanentFenceIsClearedByServiceOnly : Prop :=
  ∀ (src : Nat) (path : AccessPath) (s : State), path = .bar0 ∨ path = .cores →
    ∃ t, exec (.thmClearPermanent src path) s = .next t ∧ t.thm = s.thm ∧
      (s.flag F.TOP_CFGERR_VALID = false → t.flag F.TOP_CFGERR_VALID = true ∧ t.fld F.TOP_CFGERR_REASON = 5)

/-- While the monitor runs, a snapshot copies the counters into the shadow, a clear zeroes every counter, FREEZE is stored, a
histogram's bins are zeroed and no other's, and a sample read is ready when its step ends; in Dark and Held none of these writes
changes anything. A live odd counter wraps to 0 and sets its overflow bit; readings below 105 °C that no threshold is under set
the temperature and clear the warning; the BMC's command is answered with 32 bytes where the service port is served. -/
def Obligations.MonitorCommandsTakeEffect : Prop :=
  (∀ s : State, s.pmuOn = true → ∃ t, exec .pmuSnap s = .next t ∧ t.pmu.shadow = s.pmu.ctr ∧ t.pmu.ctr = s.pmu.ctr) ∧
  (∀ (s : State) (n : Nat), s.pmuOn = true → ∃ t, exec .pmuClrAll s = .next t ∧ t.pmu.ctr.getD n 0 = 0 ∧ t.beds = s.beds) ∧
  (∀ (b : Bool) (s : State), s.pmuOn = true →
    ∃ t, exec (.pmuFreezeWrite b) s = .next t ∧ t.flag F.PMU_CTL_FREEZE = b ∧ t.pmu = s.pmu) ∧
  (∀ (h k : Nat) (s : State), s.pmuOn = true → ∃ t, exec (.pmuHistClr h) s = .next t ∧ t.pmu.ctr = s.pmu.ctr ∧
    (k / 32 = h → t.pmu.bins.getD k 0 = 0) ∧ (k / 32 ≠ h → t.pmu.bins.getD k 0 = s.pmu.bins.getD k 0)) ∧
  (∀ (q : Nat) (s : State), s.pmuOn = true →
    ∃ t, exec (.pmuSampleReadStart q) s = .next t ∧ t.pmu.rdReady = true ∧ t.pmu.smpRing = s.pmu.smpRing) ∧
  (∀ (b : Bool) (h q : Nat) (s : State), s.pmuOn = false →
    exec .pmuSnap s = .next s ∧ exec .pmuClrAll s = .next s ∧ exec (.pmuFreezeWrite b) s = .next s ∧
    exec (.pmuHistClr h) s = .next s ∧ exec (.pmuSampleReadStart q) s = .next s) ∧
  (∀ (n : Nat) (s : State), s.pmuLive.contains n = true → s.pmu.ctr.getD n 0 < 2 ^ 48 → n % 2 = 1 →
    ∃ t, exec (.pmuCounterWrap n) s = .next t ∧ t.pmu.ctr.getD n 1 = 0 ∧ bit t.pmu.ovf n = true) ∧
  (∀ (readings : List Nat) (s : State), readings.foldl max 0 < 105 → s.tooHot (readings.foldl max 0) = false →
    ∃ t, exec (.temperatureSensorRead readings) s = .next t ∧ t.cmd.temp = readings.foldl max 0 ∧ bit t.cmd.smartWarn 1 = false) ∧
  (∀ s : State, s.svcPort = true → ∃ t b, exec .bmcManagementCommand s = .next t ∧ t.out = .bmc b :: s.out ∧ b.length = 32)

/-! ### Host endpoint (R323–R338) -/

/-- What the endpoint's events and requests do where they act: PERST's edges, link up and link down, the resets of the link and of
a function, CC.EN and its clearing, a configuration read and write, a doorbell of a completion queue, a completion that fetches
an entry, the time-out and quarantine of a tag, a read and a write through a window of BAR2, and the writes of a window's
registers. A function 0 that answers no memory request drops the writes of its registers. -/
def Obligations.EndpointCommandsTakeEffect : Prop :=
  (∀ s : State, exec (.pepPerstEdge true) s = .next (State.syncDomains { s with ept := { s.ept with perstLow := false } })) ∧
  (∀ s : State, exec (.pepPerstEdge false) s = .next ((State.eptDown { s with ept := { s.ept with perstLow := true } }).syncDomains)) ∧
  (∀ (speed width : Nat) (s : State), s.domOn 61 = true → s.ept.perstLow = false → s.ept.link = false →
    ∃ t, exec (.endpointLinkUp speed width) s = .next t ∧ t.ept.link = true ∧ t.ept.speed = clamp 1 5 speed ∧
      (∃ u, t.ept.crsTo = some u ∧ s.now ≤ u ∧ u ≤ s.now + 100000000)) ∧
  (∀ s : State, s.ept.link = true → ∃ t, exec .endpointLinkDown s = .next t ∧
    t = { ((s.eptDown.bump (F.EPT_CNT_COUNT 6) 1).raise 0xE02 2 0x04000000 []) with
      ept := { ((s.eptDown.bump (F.EPT_CNT_COUNT 6) 1).raise 0xE02 2 0x04000000 []).ept with
        upAt := if ((s.eptDown.bump (F.EPT_CNT_COUNT 6) 1).raise 0xE02 2 0x04000000 []).domOn 61
          then some (((s.eptDown.bump (F.EPT_CNT_COUNT 6) 1).raise 0xE02 2 0x04000000 []).now + msec 20) else none } }) ∧
  (∀ s : State, s.ept.link = true → exec .hotReset s = .next s.eptReset) ∧
  (∀ (fn : Nat) (s : State), s.ept.link = true → fn < 2 → exec (.functionLevelReset fn) s = .next (s.flr fn)) ∧
  (∀ s : State, s.fnMemory 0 = true → exec .controllerReset s = .next s.fn0Reset) ∧
  (∀ s : State, s.fnMemory 0 = false → exec .controllerReset s = .next s.fn0Dropped ∧
    (∀ sq cq, exec (.controllerEnable sq cq) s = .next s.fn0Dropped) ∧
    ∀ qid isCq v, exec (.doorbellWrite qid isCq v) s = .next s.fn0Dropped) ∧
  (∀ (sq cq n : Nat) (s : State), s.fnMemory 0 = true → s.fn0Assoc = none → s.cmd.assocs.size < s.half 1024 →
    s.cmd.assocs.freeKey 65536 = some n →
    ∃ t a, exec (.controllerEnable sq cq) s = .next t ∧ t.cmd.assocs.get? n = some a ∧ a.fn0 = true ∧ a.ready = true ∧
      t.ept.cqs.get? 0 = some { size := cq, head := 0, tail := 0, vec := some 0 }) ∧
  (∀ (r : CfgReq) (s : State), s.ept.link = true → s.ept.crsTo = none → r.fn < 2 → r.offset < 4096 → r.isWrite = false →
    exec (.configRequest r) s = .next (s.emit (.cfgAnswer r.fn 0 (s.cfgRead r.fn (r.offset / 4 * 4))))) ∧
  (∀ (r : CfgReq) (s : State), s.ept.link = true → s.ept.crsTo = none → r.fn < 2 → r.offset < 4096 → r.isWrite = true →
    exec (.configRequest r) s =
      .next (let u := (s.cfgWrite r.fn (r.offset / 4 * 4) r.be r.value).cfgEffect r.fn (r.offset / 4 * 4)
             let v := if r.offset / 4 * 4 = 0x68 && bit r.be 1 && r.value.getLsbD 15 then u.flr r.fn else u
             v.emit (.cfgAnswer r.fn 0 0))) ∧
  (∀ (qid a v : Nat) (q : EptCq) (s : State), s.fn0Assoc = some a → s.fnMemory 0 = true →
    s.ept.cqs.get? qid = some q → v < q.size →
    exec (.doorbellWrite qid true v) s = .next (State.releaseAll { s with ept := { s.ept with cqs := s.ept.cqs.put qid { q with head := v } } })) ∧
  (∀ (tag completer : Nat) (r : EptRead) (q : Nat) (s : State), s.ept.tags.get? tag = some r → r.fetch = .sqe q →
    exec (.endpointCompletionArrive tag completer false) s = .next (State.eptPump { s with ept := { s.ept with tags := s.ept.tags.del tag } })) ∧
  (∀ (tag d : Nat) (r : EptRead) (s : State), s.ept.tags.get? tag = some r → r.deadline = some d →
    exec (.endpointCompletionTimeout tag) s = .next ((s.at d).eptTimedOut tag r 14)) ∧
  (∀ (tag d : Nat) (s : State), s.ept.quar.get? tag = some d →
    exec (.tagQuarantineExpiry tag) s = .next (State.eptPump { s.at d with ept := { (s.at d).ept with quar := (s.at d).ept.quar.del tag } })) ∧
  (∀ (r : Bar2Req) (s : State), s.ept.link = true → r.poisoned = false → s.poolGib ≠ 0 → r.offset / 2 ^ s.winLog2 < 8 →
    s.fnMemory 1 = true → s.ept.wedge1 = false → s.flag (F.EPT_PWIN_CTL_EN (r.offset / 2 ^ s.winLog2)) = true →
    s.flag (F.EPT_PWIN_MAP_RDONLY (r.offset / 2 ^ s.winLog2)) = false →
    (r.isWrite = false → exec (.bar2Request r) s = .next (s.emit (.tlp 0 (s.ept.pool.readN
      (s.fld (F.EPT_PWIN_MAP_OFFSET (r.offset / 2 ^ s.winLog2)) * 2 ^ s.winLog2 + r.offset % 2 ^ s.winLog2) r.length)))) ∧
    (r.isWrite = true → ∃ t, exec (.bar2Request r) s = .next t ∧ t.ept.pool = s.ept.pool.writeN
      (s.fld (F.EPT_PWIN_MAP_OFFSET (r.offset / 2 ^ s.winLog2)) * 2 ^ s.winLog2 + r.offset % 2 ^ s.winLog2) r.data ∧ t.out = s.out)) ∧
  (∀ (w : Nat) (en : Bool) (s : State), w < 8 → exec (.pwinEnableWrite w en) s = .next (s.pwinEnable w en)) ∧
  (∀ (w off : Nat) (ro : Bool) (s : State), w < 8 → exec (.pwinMapWrite w ro off) s = .next (s.pwinMap w ro off).1)

/-- A write through a window of BAR2 that the step takes or refuses leaves every byte of the pool outside the bytes it names as it
was, and the MRAM, the service NOR and the beds. -/
def Obligations.PeerWindowWritesStoreOnlyTheirBytes : Prop :=
  ∀ (r : Bar2Req) (s t : State) (x : Nat), r.isWrite = true → s.ept.pool.wf = true → exec (.bar2Request r) s = .next t →
    (x < s.fld (F.EPT_PWIN_MAP_OFFSET (r.offset / 2 ^ s.winLog2)) * 2 ^ s.winLog2 + r.offset % 2 ^ s.winLog2 ∨
      s.fld (F.EPT_PWIN_MAP_OFFSET (r.offset / 2 ^ s.winLog2)) * 2 ^ s.winLog2 + r.offset % 2 ^ s.winLog2 + r.data.length ≤ x) →
    t.ept.pool.read x = s.ept.pool.read x ∧ t.mram = s.mram ∧ t.nor = s.nor ∧ t.beds = s.beds

/-! ### Rack messages and the lease (R245–R259) -/

/-- What rack messages and the lease's timers do where they act. A claim that the receiver takes and finds no reason against is
accepted, its epoch and its view kept; an ACCEPT of the running claim is counted; a REFUSE is received and no more; a RENEW of
the highest epoch extends the view and is answered with STATUS, a RELEASE of the view's holder expires it. At the manager a
STATUS of a listed controller is kept, a WAKE noted and the plan evaluated, a DONE noted and the plan evaluated; an ORDER of the
current holder is taken. The timers claim, count, renew, confirm, stop the manager before its lease ends, and repeat an order or
report it late. A change to Awake whose domains and paths are up ends. -/
def Obligations.RackMessagesAndTimersTakeEffect : Prop :=
  (∀ (h : RackHead) (expiry : Nat) (s u : State), s.ctlWaits = false → s.rackIn h false = (u, true) → u.rackMe.isSome = true →
    s.claimReason h.sender h.epoch = 0 →
    exec (.claim h expiry) s =
      .next (let v := u.takeEpoch h.epoch
             let w := State.bump { v with rack := { v.rack with view := some (h.sender, expiry) } } (F.RACK_CNT_COUNT 3) 1
             w.rackSend (w.rackTo h.sender) 2 (be 8 h.sender))) ∧
  (∀ (h : RackHead) (cand : Nat) (s u : State), s.ctlWaits = false → s.rackIn h false = (u, true) → u.rack.countAt.isSome = true →
    h.epoch = u.rack.claimed → cand = u.fuses.serial →
    ∃ t, exec (.accept h cand) s = .next t ∧ t.rack.accepts = (h.sender :: u.rack.accepts).eraseDups) ∧
  (∀ (h : RackHead) (c r n : Nat) (s : State), s.ctlWaits = false → exec (.refuse h c r n) s = .next (s.rackIn h false).1) ∧
  (∀ (h : RackHead) (expiry g : Nat) (s u : State), s.ctlWaits = false → s.rackIn h false = (u, true) → h.epoch = u.rack.epoch →
    u.rack.view = none →
    exec (.renew h expiry g) s = .next (State.sendStatus { u with rack := { u.rack with view := some (h.sender, expiry) } } h.sender)) ∧
  (∀ (h : RackHead) (e : Nat) (s u : State), s.ctlWaits = false → s.rackIn h false = (u, true) → u.rack.view = some (h.sender, e) →
    h.epoch = u.rack.epoch →
    ∃ t, exec (.release h) s = .next t ∧ t.rack.view = some (h.sender, 0) ∧ t.rack.epoch = u.rack.epoch) ∧
  (∀ (h : RackHead) (b : StatusBody) (i : Nat) (s u : State), s.ctlWaits = false → s.rackIn h true = (u, true) → u.rack.role = 2 →
    u.rackIdx h.sender = some i →
    exec (.status h b) s =
      .next { u with rack := { u.rack with
        status := u.rack.status.put i (b, u.now), missed := u.rack.missed.put i 0
        given := u.rack.given.filter (fun g => b.peerFailed || g ≠ i)
        replies := if h.epoch = u.rack.epoch then (h.sender :: u.rack.replies).eraseDups else u.rack.replies } }) ∧
  (∀ (h : RackHead) (reason oldest : Nat) (e : RackEntry) (s u : State), s.ctlWaits = false → s.rackIn h false = (u, true) →
    u.rack.role = 2 → (u.rackIdx h.sender).bind u.rackAt = some e → u.rack.wakes = [] →
    exec (.wake h reason 0 oldest) s = .next (State.evalPlan { u with rack := { u.rack with wakes := [(e.shelf, 2 ^ 64, reason)] } })) ∧
  (∀ (h : RackHead) (id target g x : Nat) (fl : Bool) (s u : State), s.ctlWaits = false → s.rackIn h false = (u, true) →
    u.rack.view = some (h.sender, x) → h.epoch = u.rack.epoch → u.viewCurrent = true →
    exec (.order h id target fl g) s = .next (u.orderIn { id := id, target := target, flag0 := fl, sender := h.sender, planGen := g })) ∧
  (∀ (h : RackHead) (id result st i : Nat) (s u : State), s.ctlWaits = false → s.rackIn h false = (u, true) → u.rack.role = 2 →
    u.rackIdx h.sender = some i →
    exec (.done h id result st) s = .next (u.doneIn i id st).evalPlan) ∧
  (∀ (d : Nat) (s : State), s.mayClaim = true → s.rack.role ≠ 2 → s.rack.countAt = none → s.rack.claimAt = some d →
    exec .claimTimer s = .next (s.at d).claim) ∧
  (∀ (d : Nat) (s : State), s.rack.countAt = some d → s.majority s.rack.accepts.length = false →
    ∃ t w, exec .claimCountEnd s = .next t ∧ t.rack.countAt = none ∧ t.rack.claimAt = some w ∧ (s.at d).now + 1000000000 ≤ w ∧
      t.rack.role = s.rack.role) ∧
  (∀ (d : Nat) (s : State), s.rack.renewAt = some d → s.rack.role = 2 → exec .renewTimer s = .next (s.at d).renew) ∧
  (∀ (d : Nat) (s : State), s.rack.confirmAt = some d → s.majority s.rack.replies.length = true →
    exec .renewConfirmEnd s =
      .next (let heard := fun (i : Nat) => match s.rack.status.get? i with | some e => decide (d - msec 250 ≤ e.2) | none => false
             let missed := s.rackAll.foldl (fun m i => if heard i || s.myIdx = some i then m.put i 0 else m.put i (m.getD i 0 + 1)) s.rack.missed
             State.evalPlan { s.at d with rack := { s.rack with
               confirmAt := none, missed := missed, confirmed := s.rack.renewExpiry, rounds := s.rack.rounds + 1 } })) ∧
  (∀ s : State, s.rack.role = 2 →
    exec .leaseOrderLimit s = .next (s.at (s.now + (s.rack.confirmed - msec 50 - s.dev))).rackStop) ∧
  (∀ (i : Nat) (o : SentOrder) (s : State), s.rack.orders.get? i = some o → s.myIdx ≠ some i →
    (s.at (o.sentAt + sec ((s.now - o.sentAt) / sec 1 + 1))).mayOrder = true →
    exec (.orderRepeat i) s =
      .next ((s.at (o.sentAt + sec ((s.now - o.sentAt) / sec 1 + 1))).rackSend i 6 (orderBytes o.id o.target o.flag0 s.rack.planGen))) ∧
  (∀ (i d : Nat) (o : SentOrder) (s : State), s.rack.orders.get? i = some o → o.limitAt = some d →
    exec (.orderTimeout i) s = .next (State.raise { s.at d with rack := { (s.at d).rack with
      orders := (s.at d).rack.orders.put i { o with limitAt := none, late := true } } } (0xD00 + i) 2 0x60000000
      (le 8 s.rack.epoch ++ le 4 o.id))) ∧
  (∀ (m : Move) (found : List BedGeom) (mounts : List MountAnswer) (info : PeerInfo) (s : State), s.shelf.move = some m →
    s.rst.episode = none → m.target = .awake → s.upReady = true →
    exec (.stateChangeComplete found mounts info) s = .next (s.endMove m found mounts info).orderDone)

/-! ### Compression and cipher jobs (R117–R158) -/

/-- What Rill's events do where they act: a job is submitted, or refused, by the check of its descriptor and areas; a first run
that ends with a status of no rerun is counted, answered with its record and its output, and the next jobs are dispatched; a core
without progress loses its job and raises its event; the clocks of an idle pair are gated. -/
def Obligations.RillCommandsTakeEffect : Prop :=
  (∀ (d : RillDesc) (input : Bytes) (host : Bool) (s : State),
    exec (.rillJobSubmit d input host) s = .next (s.rillSubmit d input host (rillAreas d) none)) ∧
  (∀ (core : Nat) (j : RillJob) (r : Nat × Bytes) (s : State), s.rill.running.get? core = some j → j.first = 0 → j.svc = none →
    r = rillRun s.rillTables j.desc j.input → j.reruns r.1 = false →
    exec (.rillJobComplete core 0) s =
      .next (let u := State.rillIdle { s with rill := { s.rill with running := s.rill.running.del core } } core
             let v := (u.pmuEvent 0x800 core j.desc.inputLen).pmuEvent 0x801 core r.2.length
             let w := v.histAdd 0x13 core (v.now - j.since) (fun _ => true)
             let x := w.rillError r.1 core j.desc.opcode j.desc.context
             x.coresSynced ((x.emit (.rillDone (rillRecord r.1 core r.2.length j.desc.context)
               (if j.desc.opcode = 4 then [] else r.2))).rillDispatch))) ∧
  (∀ (core : Nat) (j : RillJob) (s : State), s.rill.running.get? core = some j →
    exec (.rillCoreNoProgress core) s =
      .next (s.coresSynced ((s.rillLoseCore core).raise (0x800 + core) 2 0x03000000 (le 8 j.desc.context)))) ∧
  (∀ (pair d : Nat) (s : State), s.rill.idleAt.get? pair = some d →
    ∃ t, exec (.rillPairIdle pair) s = .next t ∧ t.rill.gated = setBit s.rill.gated pair true ∧ t.rill.idleAt.get? pair = none)

/-- What the cipher's events do. A job is refused at once where its descriptor or its areas are bad; else it is queued: with no
domain key or with its key in the cache it may be dispatched, with another key it waits for the derivation. A derived key that
the cache takes enters it, and the jobs that waited for it may be dispatched; a job that runs ends with what its key gives under
the floor it took it at; a core that stops loses its job and raises its event. -/
def Obligations.CipherCommandsTakeEffect : Prop :=
  (∀ (d : CipherDesc) (input : Bytes) (s : State),
    ∃ j, j.id = s.cph.nextId ∧ j.desc = d ∧ j.input = fitTo d.inputLen input ∧ j.phase = 1 ∧
      j.floor = (s.epochsOf (CphJob.keyCtx j).2.1).1 ∧
      exec (.cipherJobSubmit d input) s =
        .next (let put := fun (j : CphJob) => ({ s with cph := { s.cph with jobs := s.cph.jobs ++ [j], nextId := s.cph.nextId + 1 } } : State)
               if CipherDesc.bad d j.input (cphAreas d j.input) then
                 (((put { j with phase := 3, status := 0x10, reason := 3, output := cphRefused d j.input }).cphFail 0x10 3 0xFF d.context).raise 0x908 2 0x05000000
                   (le 8 d.context)).cphRelease d.queue
               else if s.keyNow.isNone then (put j).cphDispatch
               else if s.cph.cache.contains (CphJob.keyCtx j) then
                 (put j).coresSynced (((put j).cacheKey (CphJob.keyCtx j)).getD (put j)).cphDispatch
               else ((put { j with phase := 0 }).pmuEvent 0x901 0xFF 1).cphDerive)) ∧
  (∀ (k : Nat × Nat × Nat) (s u : State), s.cph.deriving_ = some k → s.cacheKey k = some u →
    exec .keyDerivationComplete s =
      .next (let v := u.bump F.CPH_CACHE_MISS 1
             let w := (v.cph.jobs.filter (fun j => j.phase = 0 && CphJob.keyCtx j = k)).foldl
               (fun s j => s.histAdd 0x15 0xFF (s.now - j.since) (fun _ => true)) v
             let x : State := { w with cph := { w.cph with
               deriving_ := none
               jobs := w.cph.jobs.map (fun (j : CphJob) => if j.phase = 0 && CphJob.keyCtx j = k then { j with phase := 1, floor := (w.epochsOf k.2.1).1 } else j) } }
             x.coresSynced x.cphDerive.cphDispatch)) ∧
  (∀ (core : Nat) (j : CphJob) (s : State), s.cph.jobs.find? (fun j => j.phase = 2 && j.core = core) = some j →
    exec (.cipherJobComplete core) s =
      .next (let r := s.cphRun j.floor j.desc j.input
             let u := s.cphJob j.id (fun j => { j with phase := 3, status := r.status, reason := r.reason, output := r.out })
             let p := u.pmuEvent 0x900 core j.desc.inputLen
             let v := p.histAdd 0x14 core (u.now - j.since) (fun _ => true)
             let w := v.cphFail r.status r.reason core j.desc.context
             (w.coresSynced ((w.cphRelease j.desc.queue).cphDispatch)).retireAnswers)) ∧
  (∀ (core : Nat) (s : State), s.cph.jobs.any (fun j => j.phase = 2 && j.core = core) = true →
    exec (.cipherCoreNoProgress core) s = .next (s.coresSynced ((s.cphLoseCore core).raise (0x900 + core) 2 0x03000000 [])))

/-! ### Basin and Weir (R159–R180, R205–R216) -/

/-- A received frame on a port that is up, enabled and not looped back is counted with its bytes and then taken: a good PFC frame
pauses, a frame for a local address goes to `localFrame`, another frame that no ring blocks goes through to the other ring port, a
copy of a good multicast or R-APS frame going to the control cores first, and on a rear port it is discarded; a port that is not
powered, up or enabled takes none. The end of a sent frame releases its cells and starts the next. PFC is repeated 40 µs after it
was last due; a pause ends at its time, and with a tripped queue the 100 ms until its losslessness returns begin; the watchdog
flushes a lossless queue that is paused too long; the restored queue is no longer tripped. -/
def Obligations.FramesAndPausesTakeEffect : Prop :=
  (∀ (n : Nat) (f : Frame) (ts : List (Nat × Nat)) (s : State), s.netPowered n = true → (s.nport n).link = true →
    s.flag (F.NET_CTRL_ENABLE n) = true → s.flag (F.NET_CTRL_LOOPBACK n) = false → f.kind = .pfc ts →
    ∀ u, u = State.applyFld ((s.pmuEvent 0x300 n 1).pmuEvent 0x301 n f.length) F.BSN_CFG_CT_EN → u.storedBad n f = none →
    exec (.frameReceive n f) s =
      .next (if (u.pauseBy n ts).fld (F.NET_CNT_COUNT n 4) ≠ u.fld (F.NET_CNT_COUNT n 4)
        then (u.pauseBy n ts).raise (0x300 + n) 2 0x05000000 [] else u.pauseBy n ts)) ∧
  (∀ (n : Nat) (f : Frame) (s : State), s.netPowered n = false ∨ (s.nport n).link = false ∨ s.flag (F.NET_CTRL_ENABLE n) = false →
    exec (.frameReceive n f) s = .next s) ∧
  (∀ (n : Nat) (f : Frame) (s u : State), s.netPowered n = true → (s.nport n).link = true →
    s.flag (F.NET_CTRL_ENABLE n) = true → s.flag (F.NET_CTRL_LOOPBACK n) = false → (∀ ts, f.kind ≠ .pfc ts) →
    u = State.applyFld ((s.pmuEvent 0x300 n 1).pmuEvent 0x301 n f.length) F.BSN_CFG_CT_EN →
    u.ringBlocks n f = false → u.isLocal f.dmac f.vid = true →
    exec (.frameReceive n f) s =
      .next (let v := u.localFrame n (u.frameClass n f) f
             if v.fld (F.NET_CNT_COUNT n 4) ≠ u.fld (F.NET_CNT_COUNT n 4) then v.raise (0x300 + n) 2 0x05000000 [] else v)) ∧
  (∀ (n : Nat) (f : Frame) (s u : State), n < 2 → s.netPowered n = true → (s.nport n).link = true →
    s.flag (F.NET_CTRL_ENABLE n) = true → s.flag (F.NET_CTRL_LOOPBACK n) = false → (∀ ts, f.kind ≠ .pfc ts) →
    u = State.applyFld ((s.pmuEvent 0x300 n 1).pmuEvent 0x301 n f.length) F.BSN_CFG_CT_EN →
    u.ringBlocks n f = false → u.isLocal f.dmac f.vid = false →
    exec (.frameReceive n f) s =
      .next (let c := if (f.multicast || u.ringFrame f) && (u.storedBad n f).isNone then u.toControl n (u.frameClass n f) f else u
             let v := c.transit n (ringPeer n) (u.frameClass n f) f
             if v.fld (F.NET_CNT_COUNT n 4) ≠ u.fld (F.NET_CNT_COUNT n 4) then v.raise (0x300 + n) 2 0x05000000 [] else v)) ∧
  (∀ (n : Nat) (f : Frame) (s u : State), 2 ≤ n → s.netPowered n = true → (s.nport n).link = true →
    s.flag (F.NET_CTRL_ENABLE n) = true → s.flag (F.NET_CTRL_LOOPBACK n) = false → (∀ ts, f.kind ≠ .pfc ts) →
    u = State.applyFld ((s.pmuEvent 0x300 n 1).pmuEvent 0x301 n f.length) F.BSN_CFG_CT_EN → u.isLocal f.dmac f.vid = false →
    exec (.frameReceive n f) s =
      .next (let v := u.dropIn n f (u.frameClass n f) 0xFF ((u.storedBad n f).getD 9)
             if v.fld (F.NET_CNT_COUNT n 4) ≠ u.fld (F.NET_CNT_COUNT n 4) then v.raise (0x300 + n) 2 0x05000000 [] else v)) ∧
  (∀ (n : Nat) (q : QFrame) (cut : Bool) (s : State), (s.nport n).sending = some (q, cut) →
    exec (.egressFrameEnd n) s =
      .next (let u := s.at (s.nport n).sendEnd
             let v := u.setNet n { u.nport n with sending := none }
             let w := ((if cut then v else v.freeFrame q).takeCredits n).startNext n
             if w.pwr.draining = 0 then w else w.syncDomains)) ∧
  (∀ (n c d : Nat) (s : State), (s.nport n).pfcAt.get? c = some d →
    exec (.pfcRefresh n c) s =
      .next (((s.at d).setNet n { s.nport n with pfcAt := (s.nport n).pfcAt.put c (d + 40000) }).sendPfc n c 0xFFFF)) ∧
  (∀ (n c d : Nat) (s : State), (s.egq n c).pausedTo = some d → (s.egq n c).tripped = false →
    exec (.pauseExpiry n c) s =
      .next (((s.at d).setQueue n c { s.egq n c with pausedTo := none, pausedFrom := none }).startNext n)) ∧
  (∀ (n c d : Nat) (s : State), (s.egq n c).pausedTo = some d → (s.egq n c).tripped = true →
    exec (.pauseExpiry n c) s =
      .next (((s.at d).setQueue n c { s.egq n c with
        pausedTo := none, pausedFrom := none, restoreAt := some (max s.now d + 100000000) }).startNext n)) ∧
  (∀ (n c d : Nat) (s : State), (s.egq n c).pausedFrom = some d → (s.egq n c).wd ≠ 0 → (s.egq n c).tripped = false →
    s.losslessOn n c = true →
    exec (.pauseWatchdogExpiry n c) s =
      .next (let u := (s.at (d + msec (10 * (s.egq n c).wd))).setQueue n c { s.egq n c with tripped := true }
             let v := (u.flushQueue n c 0xC 5 (fun _ => true)).bump (F.NET_CNT_COUNT n 7) 1
             v.raise (0x300 + n) 2 0x03000000 [])) ∧
  (∀ (n c d : Nat) (s : State), (s.egq n c).restoreAt = some d →
    exec (.losslessRestoreExpiry n c) s =
      .next ((s.at d).setQueue n c { s.egq n c with tripped := false, restoreAt := none }))

/-- A lost link is down, with an error of the port where its FEC failed; a port that is powered and enabled takes a link and holds
it for 100 ms; a hold ends with the next frame, on a ring port after the ring was told. The drain of the banks ends with their old
frames flushed. An R-APS message with the ring's own VLAN, address and level, no guard timer and no failed port of its own moves the
node's state; an event message is answered with one on its port; one with another header, or with the ring off, changes nothing. A
hold-off ends in the failure only where the link is still down, and the guard timer ends. Of G.8032's own rules the model takes
those of log entry 17. -/
def Obligations.LinksAndRingEventsTakeEffect : Prop :=
  (∀ (n : Nat) (fec : Bool) (s : State), (s.nport n).link = true →
    exec (.linkDown n fec) s = .next (if fec then (s.linkLost n).raise (0x300 + n) 2 0x04000000 [] else s.linkLost n)) ∧
  (∀ (n : Nat) (s : State), s.netPowered n = true → s.flag (F.NET_CTRL_ENABLE n) = true → (s.nport n).link = false →
    exec (.linkUp n) s =
      .next (s.setNet n { s.nport n with link := true, fec := 0xF, holdAt := some (s.now + 100000000) })) ∧
  (∀ (n d : Nat) (s : State), 2 ≤ n → (s.nport n).holdAt = some d →
    exec (.linkHoldExpiry n) s = .next (((s.at d).setNet n { s.nport n with holdAt := none }).startNext n)) ∧
  (∀ (n d : Nat) (s : State), n < 2 → (s.nport n).holdAt = some d →
    exec (.linkHoldExpiry n) s = .next ((((s.at d).setNet n { s.nport n with holdAt := none }).ringClear n).startNext n)) ∧
  (∀ (d : Nat) (s : State), s.net.drainAt = some d →
    exec .bankDrainExpiry s =
      .next (let u := s.at d
             let v : State := { u with net := { u.net with drainAt := none } }
             let w := (List.range 4).foldl (fun s n => (List.range 8).foldl (fun s c => s.flushQueue n c 0xA 2 (·.old)) s) v
             ((List.range 4).foldl State.takeCredits w).syncDomains)) ∧
  (∀ (n v : Nat) (q : RapsReq) (s : State), n < 2 → s.ctlWaits = false → s.flag F.BSN_RING_ENABLE = true → s.net.guardAt = none →
    (s.nport 0).ring = 0 → (s.nport 1).ring = 0 →
    (q = .nrRb ∧ v = 0 ∨ q = .sf ∧ v = 1 ∨ q = .ms ∧ v = 2 ∨ q = .fs ∧ v = 3 ∨ q = .nr ∧ v = 4) →
    exec (.rapsMessage n ⟨q, s.rapsHdr⟩) s = .next { s with net := { s.net with node := v } }) ∧
  (∀ (n : Nat) (s : State), n < 2 → s.ctlWaits = false → s.flag F.BSN_RING_ENABLE = true →
    exec (.rapsMessage n ⟨.event, s.rapsHdr⟩) s = .next (s.raps .event [n])) ∧
  (∀ (n : Nat) (q : RapsReq) (h : RapsHdr) (s : State), s.ctlWaits = false → s.flag F.BSN_RING_ENABLE = false ∨ h ≠ s.rapsHdr →
    exec (.rapsMessage n ⟨q, h⟩) s = .next s) ∧
  (∀ (n d : Nat) (s : State), (s.nport n).holdoffAt = some d → (s.nport n).link = true →
    exec (.ringHoldoffExpiry n) s = .next ((s.at d).setNet n { s.nport n with holdoffAt := none })) ∧
  (∀ (n d : Nat) (s : State), (s.nport n).holdoffAt = some d → (s.nport n).link = false →
    exec (.ringHoldoffExpiry n) s = .next (((s.at d).setNet n { s.nport n with holdoffAt := none }).ringFail n)) ∧
  (∀ (d : Nat) (s : State), s.net.guardAt = some d →
    exec .ringGuardExpiry s = .next { s.at d with net := { (s.at d).net with guardAt := none } })

/-- A refill ends at the next multiple of 8,192 ns of device time. A gate list is committed, cancelled with the operating list as it
was, and started at its own time, a frame that runs into a closed gate counted as an overrun; the end of an entry makes the entry of
that time current. A sample takes each queue's depth, held to 16 bits, as its last one. -/
def Obligations.WeirEventsTakeEffect : Prop :=
  (∀ s : State, ∃ t, exec .refillBoundary s = .next t ∧ t.now = (s.now / 8192 + 1) * 8192) ∧
  (∀ (n : Nat) (s : State), exec (.gclCommit n) s = .next (s.gclCommit n)) ∧
  (∀ (n : Nat) (s : State), ∃ t, exec (.gclCommitCancel n) s = .next t ∧ t.nport n = { s.nport n with admin := none } ∧
    ∀ m, m ≠ n → t.nport m = s.nport m) ∧
  (∀ (n : Nat) (g : GateList) (s : State), (s.nport n).admin = some g → (s.nport n).sending = none →
    exec (.gclStart n) s =
      .next (((s.at (s.now + (g.start - s.dev))).setNet n { s.nport n with oper := some g, admin := none, entry := 0 }).startNext n)) ∧
  (∀ (n : Nat) (g : GateList) (q : QFrame) (cut : Bool) (s : State), (s.nport n).admin = some g → (s.nport n).sending = some (q, cut) →
    exec (.gclStart n) s =
      .next (let u := (s.at (s.now + (g.start - s.dev))).setNet n { s.nport n with oper := some g, admin := none, entry := 0 }
             (if bit (gateAt g.cycle g.entries 0 0 0).2.1 q.cls then u else u.bump (F.WEIR_GCL_STAT_OVERRUN n) 1).startNext n)) ∧
  (∀ (n : Nat) (g : GateList) (s u : State), (s.nport n).oper = some g → u = s.at (s.now + (s.gclNow g).2.2) →
    exec (.gclEntryEnd n) s = .next ((u.setNet n { u.nport n with entry := (u.gclNow g).1 }).startNext n)) ∧
  (∀ (n : Nat) (s : State), s.regs.pend.get? 0x1C0004 = none → s.flag F.WEIR_SMP_CFG_EN = true → s.netPowered n = true →
    n < 4 → ∀ c, c < 8 →
    ∃ t, exec (.queueSample n) s = .next t ∧ t.fld (F.WEIR_QDEP_LAST n c) = min 0xFFFF (s.egq n c).depth)

/-! ### Sluice (R181–R204) -/

/-- A connection request with an MTU and responder resources, below the limit, makes a queue pair whose generation follows its
index's last, and REP is put out; below an MTU of 1,024, with no responder resources or at the limit REJ is; RTU opens the queue pair
and tells the standby of its bed; REJ takes it away while it opens; DREQ and DREP disconnect, DREQ with a DREP put out. -/
def Obligations.ConnectionsTakeEffect : Prop :=
  (∀ (req : CmReq) (i : Nat) (s : State), s.ctlWaits = false → s.sluIn = true → s.regs.pend = .empty → 1024 ≤ req.mtu → req.responderRes ≠ 0 →
    s.slu.qps.size < s.qpLimit → s.slu.qps.freeKey 4096 = some i →
    ∃ (t : State) (q : Qp), exec (.cmReq req) s =
        .next (t.putCm req.remoteMac req.vlan req.remoteGid (.cm .rep i 0 (privOf (s.sprayPaths req.priv)))) ∧
      t.slu.qps.get? i = some q ∧ q.st = 0 ∧ q.gen = s.nextGen i ∧
      q.qpn = s.nextGen i * 4096 + i ∧ q.mtu = min req.mtu s.mtuMax ∧ q.depth = min 16 req.responderRes ∧
      q.timeout = clamp 8 20 (s.fld F.SLU_RETRY_TIMEOUT) ∧ q.ePsn = req.startPsn % psnMod ∧
      ∀ j, j ≠ i → t.slu.qps.get? j = s.slu.qps.get? j) ∧
  (∀ (req : CmReq) (s : State), s.ctlWaits = false → s.sluIn = true → s.regs.pend = .empty →
    (req.mtu < 1024 → exec (.cmReq req) s = .next (s.putCm req.remoteMac req.vlan req.remoteGid (.cm .rej 0 rejFormat []))) ∧
    (1024 ≤ req.mtu → req.responderRes = 0 →
      exec (.cmReq req) s = .next (s.putCm req.remoteMac req.vlan req.remoteGid (.cm .rej 0 rejIrd []))) ∧
    (1024 ≤ req.mtu → req.responderRes ≠ 0 → s.qpLimit ≤ s.slu.qps.size →
      exec (.cmReq req) s = .next (s.putCm req.remoteMac req.vlan req.remoteGid (.cm .rej 0 rejResources [])))) ∧
  (∀ (i : Nat) (q : Qp) (s : State), s.ctlWaits = false → s.slu.qps.get? i = some q → q.st = 0 → s.sluIn = true →
    exec (.cmRtu i) s =
      .next (let u := s.modQp i (fun q => { q with st := 1 })
             match u.qpBed q with | some b => u.qpTell b i q | none => u)) ∧
  (∀ (i : Nat) (q : Qp) (s : State), s.ctlWaits = false → s.slu.qps.get? i = some q → q.st = 0 → s.sluIn = true →
    exec (.cmRej i) s = .next (s.qpDestroy i)) ∧
  (∀ (i : Nat) (q : Qp) (s : State), s.ctlWaits = false → s.slu.qps.get? i = some q → s.sluIn = true →
    exec (.cmDreq i) s = .next ((s.disconnect i).putCm q.remoteMac q.vlan q.remoteGid (.cm .drep i 0 []))) ∧
  (∀ (i : Nat) (s : State), s.sluIn = true → exec (.cmDrep i) s = .next (s.disconnect i))

/-- A packet of an open queue pair that its bed's fence does not stop is answered for congestion; one inside the window that is new and
has its start is placed or refused, what it completes is delivered and the eighth acknowledged, and a move of the queue pair goes on;
one behind the window is answered again; one past the window is counted, one that is there already is counted, and one of no queue
pair is counted. -/
def Obligations.PacketsTakeEffect : Prop :=
  (∀ (p : Packet) (i : Nat) (q r : Qp) (st : Start) (s u : State), s.sluIn = true →
    s.findQpn p.qpn p.dmac = some (i, q) → s.qpFenced q = false →
    u = (s.pmuEvent 0x600 (s.halfOf i) 1).answerCe i q p → u.slu.qps.get? i = some r →
    psnDist r.ePsn p.psn < 256 → r.got.contains p.psn = false → (r.held.any fun h => h.psn = p.psn) = false →
    r.start p = some st → ∀ (v : State) (w x : Qp), v = releaseHeldF (r.held.length + 1) i (u.admitPacket i r p st) →
    v.slu.qps.get? i = some w → w.st = 1 →
    (deliverF (w.msgs.length + 1) i (v.passPsn i)).slu.qps.get? i = some x → x.st = 1 → p.op ≠ .flush →
    exec (.packetReceive p) s =
      .next (let y := deliverF (w.msgs.length + 1) i (v.passPsn i)
             let z := if 8 ≤ x.runLen then y.sendAck i else y
             let m := match z.qp? i with | some g => if g.moveBy.isSome then z.moveQp i else z | none => z
             if bit m.pwr.draining 60 && !m.half1Busy then m.syncDomains else m)) ∧
  (∀ (p : Packet) (i : Nat) (q r : Qp) (s u : State), s.sluIn = true → s.findQpn p.qpn p.dmac = some (i, q) →
    s.qpFenced q = false → u = (s.pmuEvent 0x600 (s.halfOf i) 1).answerCe i q p → u.slu.qps.get? i = some r →
    (8388608 ≤ psnDist r.ePsn p.psn → exec (.packetReceive p) s = .next (u.again i r)) ∧
    (256 ≤ psnDist r.ePsn p.psn → psnDist r.ePsn p.psn < 8388608 →
      exec (.packetReceive p) s = .next (u.bump (F.SLU_CNT_COUNT 2) 1)) ∧
    (psnDist r.ePsn p.psn < 256 → r.got.contains p.psn = true →
      exec (.packetReceive p) s = .next (u.bump (F.SLU_CNT_COUNT 3) 1))) ∧
  (∀ (p : Packet) (s : State), s.sluIn = true → s.findQpn p.qpn p.dmac = none →
    exec (.packetReceive p) s = .next (s.bump (F.SLU_CNT_COUNT 2) 1))

/-- On an open queue pair the acknowledgement timer acknowledges; a gap that is still open is counted and its NAK put out once; a CNP
halves the rate, to 1,000 at the least, and each increase adds a step, to 400,000 at the most; a destroyed pair's index returns; the
end of a window's drain counts and takes away a window whose packets are still out. An acknowledgement ends the one request it
covers; a sequence NAK sends again, from the PSN on one path and of that packet on several; RNR waits its delay while tries are
left, and otherwise, as with an invalid request or an access error, the queue pair fails; a missing acknowledgement sends again until
the retries are used up, and the end of an RNR wait sends again. -/
def Obligations.TransportTimersAndAnswersTakeEffect : Prop :=
  (∀ (i d : Nat) (q : Qp) (s : State), s.slu.qps.get? i = some q → q.runAt = some d → q.st = 1 → s.sluOn = true →
    exec (.ackTimerExpiry i) s = .next ((s.at d).sendAck i)) ∧
  (∀ (i d : Nat) (q : Qp) (s : State), s.slu.qps.get? i = some q → q.gapAt = some d → q.st = 1 → q.nakSent = false →
    s.sluOn = true →
    exec (.gapTimeout i) s =
      .next (let u := s.at (d + max (4 * q.rtt) (1000 * q.gapMin))
             let v := (u.modQp i (fun q => { q with nakSent := true })).bump (F.SLU_CNT_COUNT 1) 1
             (v.pmuEvent 0x603 (v.halfOf i) 1).putNak i q.ePsn .sequence)) ∧
  (∀ (i : Nat) (q : Qp) (s : State), s.slu.qps.get? i = some q → q.st = 1 → s.sluIn = true →
    ∃ t, exec (.cnpReceived i) s = .next t ∧
      t.slu.qps.get? i = some { q with rate := max 1000 (q.rate / 2), rateAt := some (s.now + 55000) }) ∧
  (∀ (i d : Nat) (q : Qp) (s : State), s.slu.qps.get? i = some q → q.rateAt = some d → q.st = 1 → s.sluOn = true →
    s.regs.pend = .empty →
    ∃ t r, exec (.ccRateIncrease i) s = .next t ∧ t.slu.qps.get? i = some r ∧
      r.rate = min 400000 (q.rate + 1000 * max 1 (s.fld F.SLU_CFG_CC_STEP))) ∧
  (∀ (i d : Nat) (q : Qp) (s : State), s.slu.qps.get? i = some q → q.freeAt = some d → q.st = 3 →
    ∃ t, exec (.qpnIndexReturn i) s = .next t ∧ t.slu.qps.get? i = none ∧ ∀ j, j ≠ i → t.slu.qps.get? j = s.slu.qps.get? j) ∧
  (∀ (w d : Nat) (x : Win) (s : State), s.slu.windows.get? w = some x → x.drainAt = some d → x.revoking = true →
    (s.drainCheck w).slu.windows.has w = true →
    exec (.windowDrainEnd w) s = .next (((State.at (s.drainCheck w) d).bump (F.SLU_CNT_COUNT 5) 1).winFinish w)) ∧
  (∀ (w d : Nat) (x : Win) (s : State), s.slu.windows.get? w = some x → x.drainAt = some d → x.revoking = true →
    (s.drainCheck w).slu.windows.has w = false → exec (.windowDrainEnd w) s = .next (s.drainCheck w)) ∧
  (∀ (i psn : Nat) (q : Qp) (r : TxReq) (s : State), s.slu.qps.get? i = some q → q.st = 1 → s.sluIn = true → q.probe = none →
    q.sent = [r] → r.covered psn = true → r.kind ≠ 4 → r.counter = none →
    exec (.requestAckReceived i psn) s =
      .next ((s.modQp i (fun q => { q with
        rtt := (7 * q.rtt + (s.now - r.sentAt)) / 8, sampled := true, sent := [], retries := 0, rnrLeft := q.rnrCnt
        ackAt := none })).txPump i)) ∧
  (∀ (i psn : Nat) (q : Qp) (s : State), s.slu.qps.get? i = some q → q.st = 1 → s.sluIn = true → q.probe = none →
    exec (.nakReceived i (.sequence psn)) s =
      .next (let u := s.modQp i (fun q => { q with sent := q.sent.filter (fun r => !r.covered (psnAdd psn (psnMod - 1))) })
             if q.paths = 0 then u.resend i psn else u.resendPacket i psn)) ∧
  (∀ (i : Nat) (q : Qp) (s : State), s.slu.qps.get? i = some q → q.st = 1 → s.sluIn = true →
    exec (.nakReceived i .invalidRequest) s = .next (s.qpError i)) ∧
  (∀ (i : Nat) (q : Qp) (r : TxReq) (l : List TxReq) (s : State), s.slu.qps.get? i = some q → q.st = 1 → s.sluIn = true →
    q.sent = r :: l → exec (.nakReceived i .remoteAccess) s = .next ((s.reportRdma i r.first 0 8 none).qpError i)) ∧
  (∀ (i delay : Nat) (q : Qp) (s : State), s.slu.qps.get? i = some q → q.st = 1 → s.sluIn = true → q.rnrCnt ≠ 7 →
    q.rnrLeft = 0 → exec (.nakReceived i (.rnr delay)) s = .next (s.qpError i)) ∧
  (∀ (i delay : Nat) (q : Qp) (s : State), s.slu.qps.get? i = some q → q.st = 1 → s.sluIn = true →
    q.rnrLeft ≠ 0 ∨ q.rnrCnt = 7 →
    ∃ t, exec (.nakReceived i (.rnr delay)) s = .next t ∧
      t.slu.qps.get? i = some { q with rnrAt := some (s.now + delay), ackAt := none, rnrLeft := q.rnrLeft - 1 }) ∧
  (∀ (i d : Nat) (q : Qp) (s : State), s.slu.qps.get? i = some q → q.ackAt = some d → q.st = 1 → q.sent ≠ [] → s.sluOn = true →
    q.retryCnt ≤ q.retries → exec (.localAckTimeout i) s = .next ((s.at d).qpError i)) ∧
  (∀ (i d : Nat) (q : Qp) (s : State), s.slu.qps.get? i = some q → q.ackAt = some d → q.st = 1 → q.sent ≠ [] → s.sluOn = true →
    q.retries < q.retryCnt →
    exec (.localAckTimeout i) s =
      .next (((s.at d).modQp i (fun q => { q with retries := q.retries + 1 })).resend i q.nextPsn)) ∧
  (∀ (i d : Nat) (q : Qp) (s : State), s.slu.qps.get? i = some q → q.rnrAt = some d → q.st = 1 → s.sluOn = true →
    exec (.rnrRetryExpiry i) s =
      .next ((((s.at d).modQp i (fun q => { q with rnrAt := none })).resend i q.nextPsn).txPump i))

/-- On an NE7240 with Sluice on, a triggered write of an open queue pair takes entry 0 of an empty table, its bed's standby told of it,
and fires if its counter is there already; on an NE7236 it is posted at once; of a queue pair that is not open it is flushed. A
local completion counts its counter up. -/
def Obligations.TriggeredWritesTakeEffect : Prop :=
  (∀ (i counter threshold : Nat) (wr : WorkReq) (q : Qp) (s : State), s.sluOn = true → s.is36 = false →
    s.slu.qps.get? i = some q → q.st = 1 → s.slu.trigs = [] →
    exec (.triggeredWrPost i counter threshold wr) s =
      .next (let u : State := { s with slu := { s.slu with trigs := [⟨0, i, counter % 1024, threshold, wr⟩] } }
             let v := match u.qpBed q with | some b => u.delta b (.trigPost 0 i (counter % 1024) threshold wr) | none => u
             v.fireTrigs (counter % 1024))) ∧
  (∀ (i counter threshold : Nat) (wr : WorkReq) (q : Qp) (s : State), s.sluOn = true → s.is36 = true →
    s.slu.qps.get? i = some q → q.st = 1 →
    exec (.triggeredWrPost i counter threshold wr) s =
      .next (s.post i (txReq wr.kind wr.length wr.remote wr.rkey wr.imm [] none))) ∧
  (∀ (i counter threshold : Nat) (wr : WorkReq) (s : State), s.sluOn = true → s.slu.qps.get? i = none →
    exec (.triggeredWrPost i counter threshold wr) s = .next (s.emit (.flushed trigEntries))) ∧
  (∀ (counter : Nat) (s : State), s.is36 = false → s.sluOn = true → counter < 1024 →
    exec (.localWrComplete counter) s = .next (s.countUp counter none))


/-! ### Fabrics and admin commands (R32–R55) -/

/-- An admin command that holds a slot is taken up in Awake, and in Dormant where it reads and writes no member; a new capsule that
gets a slot as it arrives is taken up in Awake; each in an association that has not ended, whose controller no fence stops. -/
def Obligations.AdminCommandsAreTakenUp : Prop :=
  (∀ (cap : Cap) (op arr : Nat) (m : Bool) (a : Assoc) (r : CmdRec) (s : State), s.cmd.assocs.get? cap.assoc = some a →
    a.ended = false → s.capFenced cap = false → s.findCap cap = some (arr, r) → s.cmd.cmds.get? arr = some r → r.slot.isSome = true →
    r.phase ≠ .effect → r.phase ≠ .done → s.coreStop = false → s.shelf.st = .awake ∨ s.shelf.st = .dormant ∧ m = false →
    s.shelf.move = none →
    s.takeAdmin cap op m = .go (s.mod arr (fun r => { r with cmd := some (.admin op) })) arr a) ∧
  (∀ (cap : Cap) (op : Nat) (m : Bool) (a : Assoc) (r : CmdRec) (s u : State), s.cmd.assocs.get? cap.assoc = some a →
    a.ended = false → s.capFenced cap = false → s.shelf.st = .awake → s.findCap cap = none → u = (s.arrive cap 0 (some (.admin op)) [] true).1 →
    u.cmd.cmds.get? (s.cmd.arrival + 1) = some r → r.slot.isSome = true → r.phase = .held → u.shelf.st = .awake →
    u.coreStop = false → u.shelf.move = none → s.takeAdmin cap op m = .go u (s.cmd.arrival + 1) a)

/-- A Connect that nothing speaks against makes an association of a host that a tenant takes, or joins a further queue to one; one that
something speaks against is refused with that status. Disconnect and an expired keep-alive end the association; Keep Alive starts
its time again; a waiting command takes the slot that is granted; while commands are parked a wake request is sent and the next is due
2 s later, and a parked command ends 20 s after it came. A capsule in Dark that finds a token takes it. A property that exists is read
and another is not; CC is written, the test that a reset ends with it; the window property registers a window and revokes it. -/
def Obligations.AssociationsAndPropertiesTakeEffect : Prop :=
  (∀ (cap : Cap) (req : ConnectReq) (bed : Option Nat) (pos : Nat) (ten : Tenant) (s : State), s.connectWaits = false →
    s.shelf.st = .awake ∨ s.shelf.st = .dormant → s.sluIn = true →
    s.connectBad cap req = none → req.qid = 0 → s.subsystem req.subnqn = some bed → s.tenantFor req.hostnqn = some (pos, ten) →
    exec (.connect cap req) s =
      .next (let u : State := { s with cmd := { s.cmd with
               assocs := s.cmd.assocs.put cap.assoc (newAssoc bed req.hostnqn pos (katoOf req.kato) s.now) } }
             ((u.detachOthers cap.assoc ten.id).addQueue cap.assoc 0 (req.sqsize + 1)).answer cap 0 (.admin 0x7F) true 0 cap.assoc 0)) ∧
  (∀ (cap : Cap) (req : ConnectReq) (st dw0 : Nat) (s : State), s.connectWaits = false →
    s.shelf.st = .awake ∨ s.shelf.st = .dormant → s.sluIn = true → s.connectBad cap req = some (st, dw0) →
    exec (.connect cap req) s = .next (s.refuseConnect cap st dw0)) ∧
  (∀ (cap : Cap) (req : ConnectReq) (s : State), s.connectWaits = false → s.shelf.st = .awake ∨ s.shelf.st = .dormant →
    s.sluIn = true → s.connectBad cap req = none → req.qid ≠ 0 →
    exec (.connect cap req) s = .next ((s.addQueue cap.assoc req.qid (req.sqsize + 1)).answer cap 0 (.admin 0x7F) true 0 cap.assoc 0)) ∧
  (∀ (cap : Cap) (arr : Nat) (a : Assoc) (s u : State), s.takeAdmin cap 0x7F false = .go u arr a → a.fn0 = false →
    exec (.disconnect cap) s = .next ((State.finish (u.mod arr (fun r => { r with bare := true })) arr 0 0 0).endAssoc cap.assoc)) ∧
  (∀ (i d : Nat) (a : Assoc) (s : State), s.cmd.assocs.get? i = some a → a.kaAt = some d → a.ended = false →
    exec (.keepAliveExpiry i) s = .next ((s.at d).endAssoc i)) ∧
  (∀ (cap : Cap) (arr : Nat) (a : Assoc) (s u : State), s.takeAdmin cap 0x18 false = .go u arr a →
    exec (.keepAlive cap) s =
      .next (State.finish (u.modAssoc cap.assoc (fun x => { x with kaAt := if x.kato = 0 then none else some (u.now + msec x.kato) })) arr 0 0 0)) ∧
  (∀ (arr : Nat) (s : State), s.nextGrant = some arr → exec .slotGrant s = .next (s.grant arr)) ∧
  (∀ (d : Nat) (s : State), s.cmd.wakeAt = some d → s.parkedCount ≠ 0 →
    exec .wakeRequestRepeat s = .next (State.sendWake { s.at d with cmd := { s.cmd with wakeAt := some (max s.now d + 2000000000) } } 1)) ∧
  (∀ (arr : Nat) (r : CmdRec) (s : State), s.cmd.cmds.get? arr = some r → r.phase = .parked →
    exec (.parkTimeout arr) s = .next ((s.at (r.time + 20000000000)).finish arr Status.parkTimeout 0 0)) ∧
  (∀ (n : Nat) (cap : Cap) (ka : Bool) (s : State), s.ctlWaits = false → s.shelf.st = .dark → s.darkTokens ≠ 0 →
    s.netPowered n = true → (s.nport n).link = true → n < 2 → s.flag F.BSN_RING_ENABLE = false →
    ∃ u : State, u.cmd.bucket = s.darkTokens - 1 ∧ u.beds = s.beds ∧
      exec (.darkCapsuleResponse n cap ka) s =
        .next (if ka then (u.keepAlive cap.assoc).darkAnswer n cap 0 else u.darkWake.darkAnswer n cap Status.shelfDark)) ∧
  (∀ (n : Nat) (cap : Cap) (ka : Bool) (s : State), s.ctlWaits = false → s.shelf.st ≠ .dark →
    exec (.darkCapsuleResponse n cap ka) s = .next s) ∧
  (∀ (cap : Cap) (off lo hi arr : Nat) (a : Assoc) (s u : State), s.takeAdmin cap 0x7F false = .go u arr a → a.fn0 = false →
    u.property a off = some (lo, hi) → exec (.propertyGet cap off) s = .next (u.finish arr 0 lo hi)) ∧
  (∀ (cap : Cap) (off arr : Nat) (a : Assoc) (s u : State), s.takeAdmin cap 0x7F false = .go u arr a → a.fn0 = false →
    u.property a off = none → exec (.propertyGet cap off) s = .next (u.finish arr Status.invalidField 0 0)) ∧
  (∀ (cap : Cap) (v arr : Nat) (a : Assoc) (s u : State), s.takeAdmin cap 0x7F false = .go u arr a → a.fn0 = false → v % 2 = 0 →
    exec (.propertySet cap 0x14 v) s =
      .next (let w := u.modAssoc cap.assoc (fun x => { x with cc := v, ready := false })
             (if a.ready then w.testOfReset cap.assoc else w).finish arr 0 0 0)) ∧
  (∀ (cap : Cap) (v arr : Nat) (a : Assoc) (s u : State), s.takeAdmin cap 0x7F false = .go u arr a → a.fn0 = false → v % 2 = 1 →
    exec (.propertySet cap 0x14 v) s = .next ((u.modAssoc cap.assoc (fun x => { x with cc := v, ready := true })).finish arr 0 0 0)) ∧
  (∀ (cap : Cap) (arr : Nat) (a : Assoc) (s u : State), s.takeAdmin cap 0x7F false = .go u arr a → a.fn0 = false →
    exec (.windowRegister cap) s = .next ((u.winRegister cap.assoc a).finish arr 0 0 0)) ∧
  (∀ (cap : Cap) (w arr : Nat) (a : Assoc) (s u : State), s.takeAdmin cap 0x7F false = .go u arr a → a.fn0 = false →
    a.window = some w →
    exec (.windowRevokeProperty cap) s =
      .next (((u.modAssoc cap.assoc (fun x => { x with winRefused := false })).winRevoke w).finish arr 0 0 0))

/-- Log pages other than the changed-namespace list, and Identify pages, are sent from their offset; a page that does not exist is
refused. The features with a value are set, the host identifier where its data pointer is good, and features are got. An event
request is kept while fewer than four are. Abort ends a command of the bed that it can still catch and counts it, and counts a miss
where no such command is. An opcode that is not supported ends with that status. -/
def Obligations.AdminCommandsTakeEffect : Prop :=
  (∀ (cap : Cap) (lid off len arr : Nat) (d : DataPtr) (a : Assoc) (p : Bytes) (s u : State),
    s.takeAdmin cap 0x02 false = .go u arr a → u.logPage cap.assoc a lid = some p → lid ≠ 4 →
    exec (.getLogPage cap lid off len d) s = .next (u.sendPage cap arr p off len d)) ∧
  (∀ (cap : Cap) (lid off len arr : Nat) (d : DataPtr) (a : Assoc) (s u : State),
    s.takeAdmin cap 0x02 false = .go u arr a → u.logPage cap.assoc a lid = none →
    exec (.getLogPage cap lid off len d) s = .next (u.finish arr Status.invalidLogPage 0 0)) ∧
  (∀ (cap : Cap) (cns nsid arr : Nat) (d : DataPtr) (a : Assoc) (p : Bytes) (s u : State),
    s.takeAdmin cap 0x06 false = .go u arr a → cns ∈ [0, 1, 2, 3, 5, 6, 0x1C] → u.identify cap.assoc a cns nsid = some p →
    exec (.identify cap cns nsid d) s = .next (u.sendPage cap arr p 0 4096 d)) ∧
  (∀ (cap : Cap) (v arr : Nat) (d : DataPtr) (a : Assoc) (s u : State), s.takeAdmin cap 0x09 false = .go u arr a →
    exec (.setFeatures cap 0x04 ⟨v, d⟩) s = .next ((u.modAssoc cap.assoc (fun x => { x with tempThr := v })).finish arr 0 0 0) ∧
    exec (.setFeatures cap 0x05 ⟨v, d⟩) s = .next ((u.modAssoc cap.assoc (fun x => { x with errRec := v })).finish arr 0 0 0) ∧
    exec (.setFeatures cap 0x0B ⟨v, d⟩) s = .next ((u.modAssoc cap.assoc (fun x => { x with aerCfg := v })).finish arr 0 0 0) ∧
    (v ≠ 0 → exec (.setFeatures cap 0x0F ⟨v, d⟩) s =
      .next ((u.modAssoc cap.assoc (fun x => { x with kato := katoOf v, kaAt := some (u.now + msec (katoOf v)) })).finish arr 0 0 0)) ∧
    (u.dptrBad cap d 16 = 0 →
      exec (.setFeatures cap 0x81 ⟨v, d⟩) s = .next ((u.modAssoc cap.assoc (fun x => { x with hostId := v })).finish arr 0 0 0)) ∧
    (u.dptrBad cap d 16 ≠ 0 → exec (.setFeatures cap 0x81 ⟨v, d⟩) s = .next (u.finish arr (u.dptrBad cap d 16) 0 0))) ∧
  (∀ (cap : Cap) (arr : Nat) (d : DataPtr) (a : Assoc) (s u : State), s.takeAdmin cap 0x0A false = .go u arr a →
    exec (.getFeatures cap 0x04 d) s = .next (u.finish arr 0 a.tempThr 0) ∧
    exec (.getFeatures cap 0x05 d) s = .next (u.finish arr 0 a.errRec 0) ∧
    exec (.getFeatures cap 0x07 d) s = .next (u.finish arr 0 ((a.ioLimit - 1) * 65537) 0) ∧
    exec (.getFeatures cap 0x0B d) s = .next (u.finish arr 0 a.aerCfg 0) ∧
    exec (.getFeatures cap 0x0E d) s = .next (u.sendPage cap arr (le 6 (u.dev / msec 1) ++ zeros 2) 0 8 d) ∧
    exec (.getFeatures cap 0x0F d) s = .next (u.finish arr 0 a.kato 0) ∧
    exec (.getFeatures cap 0x81 d) s = .next (u.sendPage cap arr (le 16 a.hostId) 0 16 d)) ∧
  (∀ (cap : Cap) (arr : Nat) (a : Assoc) (s u : State), s.takeAdmin cap 0x0C false = .go u arr a → a.aers.length < 4 → cap ∉ a.aers →
    exec (.asynchronousEventRequest cap) s = .next (u.modAssoc cap.assoc (fun x => { x with aers := x.aers ++ [cap] }))) ∧
  (∀ (cap : Cap) (op arr : Nat) (a : Assoc) (s u : State), s.takeAdmin cap op false = .go u arr a →
    exec (.adminOpcodeUnsupported cap op) s = .next (u.finish arr Status.invalidOpcode 0 0)) ∧
  (∀ (cap : Cap) (q c arr k b : Nat) (a : Assoc) (r : CmdRec) (s u : State), s.takeAdmin cap 0x08 false = .go u arr a →
    u.abortsOf cap.assoc ≤ 4 → u.findCap ⟨cap.assoc, q, c⟩ = some (k, r) → r.catchable = true → k ≠ arr →
    u.bedOf r.cap = some b → a.bed = some b →
    exec (.abort cap q c) s =
      .next (State.finish (State.bump ((State.refuse (u.modAssoc cap.assoc (fun x => { x with aers := x.aers.filter (· ≠ r.cap) }))
        b k Status.abortRequested).advanceAll b) F.CMD_ABORT_STAT_CAUGHT 1) arr 0 0 0)) ∧
  (∀ (cap : Cap) (q c arr : Nat) (a : Assoc) (s u : State), s.takeAdmin cap 0x08 false = .go u arr a →
    u.abortsOf cap.assoc ≤ 4 → u.findCap ⟨cap.assoc, q, c⟩ = none →
    exec (.abort cap q c) s = .next ((u.bump F.CMD_ABORT_STAT_MISSED 1).finish arr 0 1 0))

/-- Where its data pointer is good, the bed takes changes and the capacity is there, a namespace of blocks with 4 KiB sectors, or of
keys, is created in the first free number, its chunk 256 KiB and its mode D where none is given; it is deleted where no object of it is
retained, a self-test of it ending; and it is attached to a controller of its bed and tenant, or detached from one. -/
def Obligations.NamespaceCommandsTakeEffect : Prop :=
  (∀ (cap : Cap) (kv : Bool) (lbas arr b nsid : Nat) (chunk : Option Nat) (modeD : Option Bool) (d : DataPtr) (a : Assoc) (x : Bed)
    (s u v : State),
    s.takeAdmin cap 0x0D true = .go u arr a → u.dptrBad cap d 4096 = 0 → a.bed = some b → u.beds.get? b = some x →
    x.refuses true = 0 → chunkOk (chunk.getD 262144) = true →
    ((List.range 257).drop 1).find? (fun i => !u.cfg.data.ns.has i) = some nsid →
    (kv = true ∨ sumN ((u.cfg.data.ns.vals.filter (fun n => !n.kv)).map (·.lbas)) + lbas ≤ 2 ^ 37 ∧
      u.mapsFit u.chansIn (8 * cdiv lbas 16) = true ∧
      mapPages lbas + sumN ((u.cfg.data.ns.vals.filter (fun n => !n.kv && n.bed = b)).map (fun n => mapPages n.lbas)) ≤ (x.e - x.eIdx) * 262144) →
    (u.putEpochs nsid ((u.epochsOf nsid).2 + 1) ((u.epochsOf nsid).2 + 1)).commitData
      { u.cfg.data with ns := u.cfg.data.ns.put nsid (.mk kv b (u.tenantId a.tenant) (chunk.getD 262144) (modeD.getD true)
        (if kv then 0 else lbas) ((u.epochsOf nsid).2 + 1) []) } = some v →
    exec (.namespaceCreate cap kv true lbas ⟨chunk, modeD⟩ d) s =
      .next (State.finish (v.delta b (.epoch nsid ((u.epochsOf nsid).2 + 1) ((u.epochsOf nsid).2 + 1) ((u.epochsOf nsid).2 + 1)))
        arr 0 nsid 0)) ∧
  (∀ (cap : Cap) (nsid arr b : Nat) (a : Assoc) (n : Namespace) (x : Bed) (s u : State),
    s.takeAdmin cap 0x0D true = .go u arr a → u.ownNs a nsid = some (b, n) → u.beds.get? b = some x → x.refuses true = 0 →
    (x.index.any (fun e => e.nsid = nsid && u.objHeld e)) = false →
    exec (.namespaceDelete cap nsid) s =
      .next (let v := (u.commitOr { u.cfg.data with ns := u.cfg.data.ns.del nsid }).dropNs b nsid
             let w := match v.cmd.selfTest with | some t => if t.nsid = nsid then v.endTest 3 else v | none => v
             (w.nsChanged nsid n.attached).finish arr 0 0 0)) ∧
  (∀ (cap : Cap) (nsid arr b c : Nat) (att : Bool) (d : DataPtr) (a y : Assoc) (n : Namespace) (x : Bed) (s u : State),
    s.takeAdmin cap 0x15 false = .go u arr a → u.dptrBad cap d 4096 = 0 → u.ownNs a nsid = some (b, n) → u.beds.get? b = some x → x.st ≠ 3 → u.cmd.assocs.get? c = some y → y.ended = false →
    y.bed = some b → u.tenantId y.tenant = n.tenant →
    exec (.namespaceAttachment cap nsid att ⟨[c], d⟩) s =
      .next (let l := n.attached.filter (fun e => !List.contains [c] e)
             let m : Namespace := { n with attached := if att then l ++ [c] else l }
             State.finish (State.nsChanged { u with cfg.data.ns := u.cfg.data.ns.put nsid m } nsid [c]) arr 0 0 0))

/-- A self-test of every namespace or of one of the association starts where none runs and the arbiter lets it run, waits where the
arbiter defers it, and is refused where one runs; an abort ends it with 1h, and an hour of pauses with 8h. A slice of a running test
whose segment has no unit left, or one that can be taken, adds its time, holds that unit as long, and is due again after the gap; the last slice of a unit ends
the unit's round, the last unit of a segment starts the next segment, and with no further segment the test ends with 0h or, after a
failed one, with 7h; where no unit can be taken the slice is due again after the gap. On function 0 a queue is created in a free
number, within the limits and with its completion queue there, and deleted, a submission queue with the commands it holds and a
completion queue that no submission queue uses. -/
def Obligations.SelfTestsAndQueueCommandsTakeEffect : Prop :=
  (∀ (cap : Cap) (nsid arr h c : Nat) (a : Assoc) (s u v : State), s.takeAdmin cap 0x14 false = .go u arr a →
    nsid = 0 ∨ nsid = 0xFFFFFFFF ∨ (u.ownNs a nsid).isSome = true → u.cmd.selfTest = none →
    u.arrivalOf c none nsid false none = (v, 0, h) →
    (c = 1 → exec (.shortSelfTest cap nsid) s =
      .next (((v.applyFld F.CMD_CFG_DST_GAP).beginTest 1 nsid cap.assoc).finish arr 0 0 0)) ∧
    (c = 2 → exec (.extendedSelfTest cap nsid) s =
      .next (((v.applyFld F.CMD_CFG_DST_GAP).beginTest 2 nsid cap.assoc).finish arr 0 0 0))) ∧
  (∀ (cap : Cap) (nsid arr h c : Nat) (a : Assoc) (s u v : State), s.takeAdmin cap 0x14 false = .go u arr a →
    nsid = 0 ∨ nsid = 0xFFFFFFFF ∨ (u.ownNs a nsid).isSome = true → u.cmd.selfTest = none →
    u.arrivalOf c none nsid false none = (v, 1, h) →
    (c = 1 → exec (.shortSelfTest cap nsid) s =
      .next (State.finish (v.setActs (v.mnt.acts.map (fun x => if x.st = 1 && x.code = 1 then { x with starter := cap.assoc } else x))) arr 0 0 0)) ∧
    (c = 2 → exec (.extendedSelfTest cap nsid) s =
      .next (State.finish (v.setActs (v.mnt.acts.map (fun x => if x.st = 1 && x.code = 2 then { x with starter := cap.assoc } else x))) arr 0 0 0))) ∧
  (∀ (cap : Cap) (nsid arr : Nat) (a : Assoc) (s u : State), s.takeAdmin cap 0x14 false = .go u arr a →
    nsid = 0 ∨ nsid = 0xFFFFFFFF ∨ (u.ownNs a nsid).isSome = true → u.cmd.selfTest.isSome = true →
    exec (.shortSelfTest cap nsid) s = .next (u.finish arr Status.selfTestInProgress 0 0) ∧
    exec (.extendedSelfTest cap nsid) s = .next (u.finish arr Status.selfTestInProgress 0 0)) ∧
  (∀ (cap : Cap) (arr : Nat) (a : Assoc) (s u : State), s.takeAdmin cap 0x14 false = .go u arr a →
    exec (.selfTestAbort cap) s = .next ((u.endTest 1).finish arr 0 0 0)) ∧
  (∀ (took w : Nat) (p : Option Nat) (passed : Bool) (y z : SelfTest) (s u : State), s.cmd.selfTest = some y → y.nextAt = some w →
    y.pausedAt = none → u = (s.at w).applyFld F.CMD_CFG_DST_GAP →
    z = { y with todo := y.todo.filter (fun k => (u.testUnits { y with kind := 2 }).contains k) } → u.testPick z = p →
    z.todo = [] ∨ p.isSome = true → y.step ≤ y.steps →
    exec (.selfTestSlice took false passed) s =
      .next { u with cmd := { u.cmd with selfTest := some { z with
        ran := y.ran + took, nextAt := some (u.now + took + u.dstGap), held := p.map (fun k => (k, u.now + took)) } } } ∧
    exec (.selfTestSlice took true passed) s =
      .next (let seg := if !passed && y.failedSeg = 0 then y.step else y.failedSeg
             let x : SelfTest := { z with
               ran := y.ran + took, failedSeg := seg, nextAt := some (u.now + took + u.dstGap)
               todo := z.todo.filter (fun k => p ≠ some k), held := p.map (fun k => (k, u.now + took)) }
             let x' := if x.todo.isEmpty then u.testStep 8 { x with step := x.step + 1 } else x
             let v : State := { u with cmd := { u.cmd with selfTest := some x' } }
             let v := match p with | some k => v.katRound k passed | none => v
             if x'.steps < x'.step then v.endTest (if seg = 0 then 0 else 7) else v)) ∧
  (∀ (took w : Nat) (last passed : Bool) (y z : SelfTest) (s u : State), s.cmd.selfTest = some y → y.nextAt = some w →
    y.pausedAt = none → u = (s.at w).applyFld F.CMD_CFG_DST_GAP →
    z = { y with todo := y.todo.filter (fun k => (u.testUnits { y with kind := 2 }).contains k) } → u.testPick z = none →
    z.todo ≠ [] →
    exec (.selfTestSlice took last passed) s =
      .next { u with cmd := { u.cmd with selfTest := some { z with nextAt := some (u.now + u.dstGap) } } }) ∧
  (∀ (p : Nat) (y : SelfTest) (s : State), s.cmd.selfTest = some y → y.pausedAt = some p →
    exec .selfTestPauseLimit s = .next ((s.at (p + (sec 3600 - y.pausedTotal))).endTest 8)) ∧
  (∀ (cap : Cap) (qid size cqid arr : Nat) (a : Assoc) (s u : State), s.takeAdmin cap 0x01 false = .go u arr a → a.fn0 = true →
    qid ≠ 0 → qid ≤ 63 → u.cmd.queues.has (qkey cap.assoc qid) = false → size ≠ 0 → size ≤ 1024 → cqid ≠ 0 →
    u.ept.cqs.has cqid = true → u.cmd.queues.size < u.half 4096 → sumN (u.cmd.queues.vals.map (·.size)) + size ≤ u.half 262144 →
    exec (.createIoSubmissionQueue cap qid size cqid) s =
      .next (State.finish { u with
        cmd := { u.cmd with queues := u.cmd.queues.put (qkey cap.assoc qid) { assoc := cap.assoc, qid := qid, size := size, cqid := cqid } }
        ept := { u.ept with tails := u.ept.tails.put qid 0, fetched := u.ept.fetched.put qid 0 } } arr 0 0 0)) ∧
  (∀ (cap : Cap) (qid arr : Nat) (a : Assoc) (s u : State), s.takeAdmin cap 0x00 false = .go u arr a → a.fn0 = true →
    qid ≠ 0 → u.cmd.queues.has (qkey cap.assoc qid) = true →
    exec (.deleteIoSubmissionQueue cap qid) s =
      .next (let v := u.cmd.cmds.keys.foldl (fun s k => match s.cmd? k with
               | some r => if r.cap.assoc ≠ cap.assoc || r.cap.qid ≠ qid then s
                 else if r.catchable then (s.pmuCommand k r true).dropCmd k
                 else s.mod k (fun r => { r with discard := true })
               | none => s) u
             State.finish { v with
               cmd := { v.cmd with queues := v.cmd.queues.del (qkey cap.assoc qid) }
               ept := { v.ept with tails := v.ept.tails.del qid, fetched := v.ept.fetched.del qid } } arr 0 0 0)) ∧
  (∀ (cap : Cap) (qid size arr : Nat) (vec : Option Nat) (a : Assoc) (s u : State), s.takeAdmin cap 0x05 false = .go u arr a →
    a.fn0 = true → qid ≠ 0 → qid ≤ 63 → u.ept.cqs.has qid = false → size ≠ 0 → size ≤ 1024 →
    exec (.createIoCompletionQueue cap qid size vec) s =
      .next (State.finish { u with ept := { u.ept with cqs := u.ept.cqs.put qid { size := size, head := 0, tail := 0, vec := vec } } }
        arr 0 0 0)) ∧
  (∀ (cap : Cap) (qid arr : Nat) (a : Assoc) (s u : State), s.takeAdmin cap 0x04 false = .go u arr a → a.fn0 = true →
    qid ≠ 0 → u.ept.cqs.has qid = true →
    (u.cmd.queues.vals.any (fun q => q.assoc = cap.assoc && q.cqid = qid && q.qid ≠ 0)) = false →
    exec (.deleteIoCompletionQueue cap qid) s = .next (State.finish { u with ept := { u.ept with cqs := u.ept.cqs.del qid } } arr 0 0 0))

/-! ### I/O and key-value commands (R35–R46, R53–R70) -/

/-- A flush that holds its slot ends at once. A write that is taken up, whose turn has come, whose key is there and whose partly covered
units are read, stores its units as records and goes on; a read and a verify whose data has come have their effect; Write Zeroes and
Deallocate store the partly covered units that have data, and go on with the change of the map; a hint to the dataset has its effect
at once. An opcode that is not supported ends with that status. A map or an index delta of a written commit whose turn has come changes
the bed's map or its index, tells the standby, and has its effect. -/
def Obligations.BlockCommandsTakeEffect : Prop :=
  (∀ (cap : Cap) (nsid arr b : Nat) (r : CmdRec) (n : Namespace) (x : Bed) (s : State), s.capFenced cap = false →
    s.findCap cap = some (arr, r) → s.cmd.cmds.get? arr = some r → r.slot.isSome = true → r.phase ≠ .done → s.coreStop = false → s.shelf.st = .awake → s.target cap nsid = some (b, n) →
    s.beds.get? b = some x → x.st ≠ 3 → exec (.flush cap nsid) s = .next (s.finish arr 0 0 0)) ∧
  (∀ (cap : Cap) (nsid slba nlb arr b : Nat) (d : DataPtr) (data all : Bytes) (media : List MediaRead) (r : CmdRec) (x : Bed)
    (n : Namespace) (cut : List Nat) (o0 o1 o : ReadOut) (recs : List (Nat × Nat)) (cs : List (Nat × Bytes)) (es : List (Nat × MapEntry))
    (s u v w y z p : State),
    s.takeR media cap nsid (.write nsid slba nlb d) (firstBad (s.lbaBad nsid slba nlb) (s.dptrBad cap d (nlb * 4096))) = .go u arr b n →
    u.cmd.cmds.get? arr = some r → u.beds.get? b = some x → r.phase = .board → r.work.mapDelta = [] →
    cut = (if slba % 16 ≠ 0 then [slba / 16] else []) ++ (if (slba + nlb) % 16 ≠ 0 then [(slba + nlb + 15) / 16 - 1] else []) →
    cut = [] ∨ u.blocked arr = false ∧ u.unitShared arr cut = false →
    u.ingestTurn arr n.modeD = (v, true) → v.keyNow.isSome = true →
    o0 = (if slba % 16 ≠ 0 then v.readUnit b x r.nsid n.tenant (slba / 16) media else ReadOut.init) →
    o1 = (if (slba + nlb) % 16 = 0 then ReadOut.init
      else if slba % 16 ≠ 0 ∧ (slba + nlb + 15) / 16 - 1 = slba / 16 then o0
      else v.readUnit b x r.nsid n.tenant ((slba + nlb + 15) / 16 - 1) media) →
    v.readTurn (v.queueOf arr) { o0.join o1 with data := [] } = (w, o) → o.waiting = false → o.status = 0 →
    y = State.wakeFill ((((w.afterRead b (r.serial.getD 0) (w.jobBy arr 2) o).noteRead arr o)).fromHost cap d (nlb * 4096)) b →
    all = (if slba % 16 ≠ 0 then o0.data.take (slba % 16 * 4096) else []) ++ y.fetched d (nlb * 4096) data ++
      (if (slba + nlb) % 16 ≠ 0 then o1.data.drop ((slba + nlb) % 16 * 4096) else []) →
    recs = recordUnits (max 1 (n.chunk / 65536)) ((slba + nlb + 15) / 16 - slba / 16 + 1) (slba / 16) ((slba + nlb + 15) / 16) →
    State.ingestAll arr b n (recs.map (fun q => (q.1, slice all ((q.1 - slba / 16) * 65536) (q.2 * 65536)))) (y.fixFill b) = (z, some cs) →
    putUnits b arr ((recs.zip cs).map (fun q => (q.1.1, q.1.2, q.2))) z [] = some (p, es) →
    exec (.write cap nsid slba nlb d data media) s =
      .next (State.advance (p.mod arr (fun q => { q with work := { q.work with mapDelta := es, mapToWrite := true } })) b arr)) ∧
  (∀ (cap : Cap) (nsid slba nlb arr b : Nat) (d : DataPtr) (media : List MediaRead) (r : CmdRec) (x : Bed) (n : Namespace) (o : ReadOut)
    (s u v : State),
    s.takeR media cap nsid (.read nsid slba nlb d) (firstBad (s.lbaBad nsid slba nlb) (s.dptrBad cap d (nlb * 4096))) = .go u arr b n →
    u.cmd.cmds.get? arr = some r → u.beds.get? b = some x → u.blocked arr = false →
    u.readTurn (u.queueOf arr) (u.readUnits b x r.nsid n.tenant media (slba / 16) ((slba + nlb + 15) / 16 - slba / 16)) = (v, o) →
    o.held = false → o.waits = [] → o.status = 0 →
    exec (.read cap nsid slba nlb d media) s =
      .next (State.effect ((((v.afterRead b 0 (v.jobBy arr 2) o).noteRead arr o).beginWork arr).toHost cap d (slice o.data (slba % 16 * 4096) (nlb * 4096))) b arr 0)) ∧
  (∀ (cap : Cap) (nsid slba nlb arr b : Nat) (media : List MediaRead) (r : CmdRec) (x : Bed) (n : Namespace) (o : ReadOut) (s u v : State),
    s.takeR media cap nsid (.verify nsid slba nlb) (s.lbaBad nsid slba nlb) = .go u arr b n →
    u.cmd.cmds.get? arr = some r → u.beds.get? b = some x → u.blocked arr = false →
    u.readTurn (u.queueOf arr) (u.readUnits b x r.nsid n.tenant media (slba / 16) ((slba + nlb + 15) / 16 - slba / 16)) = (v, o) →
    o.held = false → o.waits = [] → o.status = 0 →
    exec (.verify cap nsid slba nlb media) s = .next ((((v.afterRead b 0 (v.jobBy arr 3) o).noteRead arr o).beginWork arr).effect b arr 0)) ∧
  (∀ (cap : Cap) (nsid slba nlb arr b : Nat) (rs : List (Nat × Nat)) (d : DataPtr) (media : List MediaRead) (r : CmdRec) (x : Bed)
    (n m : Namespace) (es : List (Nat × MapEntry)) (parts : List Nat) (o : ReadOut) (cs : List (Nat × Bytes)) (l : List (Nat × MapEntry))
    (s u v w y z : State),
    u.cmd.cmds.get? arr = some r → u.beds.get? b = some x → r.phase = .board → r.work.mapToWrite = false → r.work.mapDelta = [] →
    es = zeroUnits (rs.filter (fun q => q.2 ≠ 0)) →
    parts = ((((rs.filter (fun q => q.2 ≠ 0)).flatMap (fun r => (if r.1 % 16 ≠ 0 then [r.1 / 16] else []) ++
      (if (r.1 + r.2) % 16 ≠ 0 then [(r.1 + r.2) / 16] else []))).eraseDups.filter (fun k => !es.any (fun e => e.1 = k))).filter
      (fun k => (x.map.getD r.nsid .empty).has k)) →
    parts = [] ∧ v = u ∨ u.blocked arr = false ∧ u.unitShared arr parts = false ∧ u.ingestTurn arr n.modeD = (v, true) ∧
      v.keyNow.isSome = true ∧ parts ≠ [] →
    v.readTurn (v.queueOf arr) (parts.foldl (fun o k => o.join (v.readUnit b x r.nsid n.tenant k media)) ReadOut.init) = (w, o) →
    o.waiting = false → o.status = 0 →
    State.ingestAll arr b n ((parts.zipIdx).map (fun p => (p.1, ((List.range 16).map (fun j =>
      if (rs.filter (fun q => q.2 ≠ 0)).any (fun q => q.1 ≤ p.1 * 16 + j && p.1 * 16 + j < q.1 + q.2) then zeros 4096
      else slice o.data (p.2 * 65536 + j * 4096) 4096)).flatten)))
      (State.fixFill ((w.afterRead b (r.serial.getD 0) (w.jobBy arr 2) o).noteRead arr o) b) = (y, some cs) →
    putUnits b arr ((parts.zip cs).map (fun p => (p.1, 1, p.2))) y [] = some (z, l) → es ++ l ≠ [] →
    (rs = [(slba, nlb)] → s.takeR media cap nsid (.writeZeroes nsid slba nlb) (s.lbaBad nsid slba nlb) = .go u arr b n →
      exec (.writeZeroes cap nsid slba nlb media) s =
        .next (State.advance (z.mod arr (fun q => { q with work := { q.work with
          mapDelta := sortBy (fun a c => decide (a.1 ≤ c.1)) (es ++ l), mapToWrite := true } })) b arr)) ∧
    (s.cfg.data.ns.get? nsid = some m → m.kv = false → rs.length ≤ 256 → (∀ q ∈ rs, q.1 + q.2 ≤ m.lbas) →
      s.takeR media cap nsid (.dsm nsid true rs) (s.dptrBad cap d (16 * rs.length)) = .go u arr b n →
      exec (.datasetManagement cap nsid true ⟨rs, d, media⟩) s =
        .next (State.advance (z.mod arr (fun q => { q with work := { q.work with
          mapDelta := sortBy (fun a c => decide (a.1 ≤ c.1)) (es ++ l), mapToWrite := true } })) b arr))) ∧
  (∀ (cap : Cap) (nsid arr b : Nat) (rs : List (Nat × Nat)) (d : DataPtr) (media : List MediaRead) (n m : Namespace) (s u : State),
    s.cfg.data.ns.get? nsid = some m → m.kv = false → rs.length ≤ 256 → (∀ q ∈ rs, q.1 + q.2 ≤ m.lbas) →
    s.takeR media cap nsid (.dsm nsid false rs) (s.dptrBad cap d (16 * rs.length)) = .go u arr b n →
    exec (.datasetManagement cap nsid false ⟨rs, d, media⟩) s = .next (u.effect b arr 0)) ∧
  (∀ (cap : Cap) (nsid op arr : Nat) (r : CmdRec) (s : State), s.capFenced cap = false → s.shelf.st = .awake → s.shelf.move = none →
    s.coreStop = false → s.findCap cap = some (arr, r) → s.cmd.cmds.get? arr = some r → r.slot.isSome = true → r.phase ≠ .effect →
    r.phase ≠ .done →
    exec (.ioOpcodeUnsupported cap nsid op) s =
      .next ((s.mod arr (fun r => { r with cmd := some (.admin op), nsid := nsid })).finish arr Status.invalidOpcode 0 0) ∧
    exec (.kvOpcodeUnsupported cap nsid op) s =
      .next ((s.mod arr (fun r => { r with cmd := some (.admin op), nsid := nsid })).finish arr Status.invalidOpcode 0 0)) ∧
  (∀ (arr b : Nat) (r : CmdRec) (x : Bed) (s : State), s.cmd.cmds.get? arr = some r → s.bedOf r.cap = some b → s.beds.get? b = some x →
    s.coreStop = false → r.phase = .working → r.work.commitIssued = true → r.work.mapDelta ≠ [] → x.cmdWritten arr 3 = true → s.blocked arr = false →
    ∃ y : Bed, y.map = x.map.put r.nsid (mapPut (x.map.getD r.nsid .empty) r.work.mapDelta) ∧
      exec (.mapDeltaApply arr) s =
        .next (State.effect ((moveRuns (r.work.mapDelta.length + 1) r.work.mapDelta).foldl (fun s p =>
          s.delta b (.mapPut r.nsid (match p with | e :: _ => e.1 | [] => 0) (p.map (·.2)))) (s.setBed b y.sweepStaged)) b arr 0)) ∧
  (∀ (arr b : Nat) (dl : Bool) (r : CmdRec) (x : Bed) (e : IndexEntry) (s : State), s.cmd.cmds.get? arr = some r → s.bedOf r.cap = some b →
    s.coreStop = false → s.beds.get? b = some x → r.phase = .working → r.work.commitIssued = true → r.work.idxPut = some e → r.work.idxDel = dl →
    x.cmdWritten arr 2 = true → s.blocked arr = false →
    exec (.indexDeltaApply arr) s =
      .next ((State.effect (State.delta ((s.setIndex b (if dl then idxDel x.index e.nsid e.key else idxPut x.index e)).modBed b (fun y =>
        Bed.sweepStaged { y with
          pinned := (Config.indexPage e.nsid e.key :: y.pinned).eraseDups
          ckpts := y.ckpts.map (fun c => { c with waits := c.waits.filter (· ≠ arr) }) })) b (if dl then .indexDel e else .indexPut e)) b arr 0).pinPressure b))

/-- Key-value commands that are taken up and whose index pages have come: a Store whose turn has come, whose key is there and whose chunks
pass lays its value out; a Retrieve whose object has come gives up to the buffer's length, with the value's length in the completion; a
List gives the keys from its own on that fit; Delete and the holds write their commit records; Exist and Object Info of a key that is
there have their effect; an Import whose entries are well-formed and pass the check stores them as an imported value. -/
def Obligations.KeyValueCommandsTakeEffect : Prop :=
  (∀ (cap : Cap) (nsid size arr b : Nat) (key : KvKey) (me mn : Bool) (d : DataPtr) (data : Bytes) (media : List MediaRead) (r : CmdRec)
    (x : Bed) (n : Namespace) (cs : List (Nat × Nat × Bytes × Bool)) (s u v w y : State),
    s.takeR media cap nsid (.store nsid key size me mn d) (firstBad (s.kvBad nsid key false)
      (firstBad (if me && mn then Status.invalidField else 0) (if size = 0 then 0 else s.dptrBad cap d size))) = .go u arr b n →
    u.cmd.cmds.get? arr = some r → u.beds.get? b = some x → r.phase = .board → r.work.commitToWrite = false →
    r.work.commitIssued = false → u.ingestTurn arr (n.modeD && decide (0 < size)) = (v, true) → v.keyNow.isSome = true →
    v.indexLook arr b x nsid (kvBytes key) media = (w, some 0) →
    (w.fromHost cap d size).chunksOf arr b n (r.serial.getD 0) ((w.fromHost cap d size).fetched d size data) = (y, some cs) →
    exec (.store cap nsid key size me mn d data media) s =
      .next (y.storeValue arr b (kvBytes key) false (match cs with | c :: _ => c.1 | [] => 0) size cs)) ∧
  (∀ (cap : Cap) (nsid len arr b : Nat) (key : KvKey) (d : DataPtr) (media : List MediaRead) (x : Bed) (n : Namespace) (e : IndexEntry)
    (o : ReadOut) (s u v w : State),
    s.takeR media cap nsid (.retrieve nsid key len d) (firstBad (s.kvBad nsid key false) (if len = 0 then 0 else s.dptrBad cap d len)) =
      .go u arr b n →
    u.beds.get? b = some x → u.blocked arr = false → u.indexLook arr b x nsid (kvBytes key) media = (v, some 0) →
    idxFind x.index nsid (kvBytes key) = some e → v.readTurn (v.queueOf arr) (v.readObject b x n.tenant e media) = (w, o) →
    o.waiting = false → o.status = 0 →
    exec (.retrieve cap nsid key len d media) s =
      .next (State.effect ((((w.afterRead b e.serial (w.jobBy arr 2) o).noteRead arr o).beginWork arr).toHost cap d (o.data.take len)) b arr e.valueLen)) ∧
  (∀ (cap : Cap) (nsid len arr b : Nat) (key : KvKey) (d : DataPtr) (media : List MediaRead) (x : Bed) (n : Namespace) (ks es : List Bytes)
    (s u v : State), 4 ≤ len →
    s.takeR media cap nsid (.list nsid key len d) (firstBad (s.kvBad nsid key true) (firstBad 0 (s.dptrBad cap d len))) = .go u arr b n →
    u.beds.get? b = some x → u.blocked arr = false →
    ks = ((x.index.filter (fun e => e.nsid = nsid)).map (·.key)).filter (fun k => !keyLt k (kvBytes key)) → es = listFit (len - 4) ks →
    u.indexLooks arr b nsid (kvBytes key :: ks.take es.length) media = (v, some 0) →
    exec (.list cap nsid key len d media) s =
      .next (State.effect ((v.beginWork arr).toHost cap d (le 4 es.length ++ es.flatten)) b arr es.length)) ∧
  (∀ (cap : Cap) (nsid arr b : Nat) (key : KvKey) (media : List MediaRead) (r : CmdRec) (x : Bed) (n : Namespace) (s u v : State),
    s.takeR media cap nsid (.delete nsid key) (s.kvBad nsid key false) = .go u arr b n →
    u.cmd.cmds.get? arr = some r → u.beds.get? b = some x → r.phase = .board → r.work.commitToWrite = false →
    u.indexLook arr b x nsid (kvBytes key) media = (v, some 0) → v.keyNow.isSome = true →
    exec (.delete cap nsid key media) s =
      .next (State.advance ((v.fixFill b).mod arr (fun q => { q with work := { q.work with commitToWrite := true } })) b arr)) ∧
  (∀ (cap : Cap) (nsid arr b : Nat) (key : KvKey) (media : List MediaRead) (x : Bed) (n : Namespace) (e : IndexEntry) (s u v : State),
    s.takeR media cap nsid (.exist nsid key) (s.kvBad nsid key false) = .go u arr b n →
    u.beds.get? b = some x → u.blocked arr = false → u.indexLook arr b x nsid (kvBytes key) media = (v, some 0) →
    idxFind x.index nsid (kvBytes key) = some e →
    exec (.exist cap nsid key media) s = .next ((v.beginWork arr).effect b arr 0)) ∧
  (∀ (cap : Cap) (nsid len arr b : Nat) (key : KvKey) (d : DataPtr) (media : List MediaRead) (x : Bed) (n : Namespace) (e : IndexEntry)
    (s u v : State), 64 ≤ len →
    s.takeR media cap nsid (.objectInfo nsid key len d) (firstBad (s.kvBad nsid key false) (firstBad 0 (s.dptrBad cap d 64))) =
      .go u arr b n →
    u.beds.get? b = some x → u.blocked arr = false → u.indexLook arr b x nsid (kvBytes key) media = (v, some 0) →
    idxFind x.index nsid (kvBytes key) = some e →
    exec (.objectInfo cap nsid key len d media) s =
      .next (State.effect ((v.beginWork arr).toHost cap d (objectInfo e (v.objHeld e))) b arr 0)) ∧
  (∀ (cap : Cap) (nsid arr b a t : Nat) (key : KvKey) (media : List MediaRead) (r : CmdRec) (x : Bed) (n : Namespace) (s u v : State),
    s.takeR media cap nsid (.hold nsid key a t) (firstBad (s.kvBad nsid key false) 0) = .go u arr b n →
    u.cmd.cmds.get? arr = some r → u.beds.get? b = some x → r.phase = .board → r.work.commitToWrite = false →
    u.indexLook arr b x nsid (kvBytes key) media = (v, some 0) → v.keyNow.isSome = true →
    ∃ w, w = .next (State.advance ((v.fixFill b).mod arr (fun q => { q with work := { q.work with commitToWrite := true } })) b arr) ∧
      (a = 0 → t = 0 → exec (.setLegalHold cap nsid key media) s = w) ∧
      (a = 1 → t = 0 → exec (.clearLegalHold cap nsid key media) s = w) ∧
      (a = 2 → exec (.setRetainUntil cap nsid key t media) s = w)) ∧
  (∀ (cap : Cap) (nsid len orig arr b : Nat) (key : KvKey) (d : DataPtr) (data : Bytes) (media : List MediaRead) (r : CmdRec) (x : Bed)
    (n : Namespace) (es : List (Nat × Bytes)) (s u v w y : State),
    s.takeR media cap nsid (.importRecord nsid key len orig es.length d)
      (firstBad (s.kvBad nsid key false) (if len = 0 then 0 else s.dptrBad cap d len)) = .go u arr b n →
    u.cmd.cmds.get? arr = some r → u.beds.get? b = some x → r.phase = .board → r.work.commitToWrite = false →
    r.work.commitIssued = false → v = u.fromHost cap d len →
    importEntries ((v.fetched d len data).length + 1) (v.fetched d len data) = some es → es ≠ [] → es.length ≤ 65536 →
    sumN (es.map (·.1)) = orig → (∀ e ∈ es, e.1 ≠ 0 ∧ e.1 ≤ 1048576) → v.ingestTurn arr true = (w, true) → importBad es = false →
    w.keyNow.isSome = true → w.indexLook arr b x nsid (kvBytes key) media = (y, some 0) →
    exec (.importRecord cap nsid key len orig es.length d data media) s =
      .next ((y.importJobs arr b (r.serial.getD 0) es).storeValue arr b (kvBytes key) true 2 orig
        ((es.zipIdx).map (fun e => (2 + 8, e.1.1, e.1.2, decide (e.2 + 1 = es.length))))))

/-! ### Drives and beds (R76–R116) -/

/-- The completion of an issued drive command takes the command away and notes the member idle; one of the peer's goes back to it; a
success goes to its purpose; a reservation conflict fences the bed; a write or a flush that fails is sent once more, and then its
member fails; an unrecovered read that is no control command is counted against the member. A time-out counts, sends an abort and a
reset, over the peer where the command went over it, and the drive has 20 s to be ready. A command for the peer is issued here where
its slot holds a member that takes commands. -/
def Obligations.DriveCommandsTakeEffect : Prop :=
  (∀ (id : Nat) (c : DriveCmd) (data : Bytes) (s u : State), s.coreStop = false → s.drv.cmds.get? id = some c → c.st = 2 →
    u = (State.noteIdle { s with drv := { s.drv with cmds := s.drv.cmds.del id } } c.bed c.member).histAdd 0x10 c.slot
      (s.now - (c.deadline - sec 8)) (fun _ => true) →
    (∀ p st, c.purpose = .proxy p →
      exec (.driveCommandCompletion id st data) s = .next (u.gusSend c.bed (.proxyResult p st data) .nothing)) ∧
    ((∀ p, c.purpose ≠ .proxy p) →
      exec (.driveCommandCompletion id .success data) s = .next (u.driveDone c data) ∧
      exec (.driveCommandCompletion id .reservationConflict data) s = .next (u.fencedOut c.bed) ∧
      (∀ l, c.op ≠ .write → c.op ≠ .flush → exec (.driveCommandCompletion id (.unrecovered l) data) s =
        .next (if c.purpose = .control then u.joinAsk c.bed else u.countUre c.bed c.member)) ∧
      (c.op ≠ .write → c.op ≠ .flush → exec (.driveCommandCompletion id .error data) s = .next (u.joinAsk c.bed)) ∧
      (∀ e, e = .error ∨ (∃ l, e = .unrecovered l) → c.op = .write ∨ c.op = .flush → c.retried = true →
        exec (.driveCommandCompletion id e data) s = .next (u.memberFail c.bed c.member 2)) ∧
      (∀ e, e = .error ∨ (∃ l, e = .unrecovered l) → c.op = .write ∨ c.op = .flush → c.retried = false →
        exec (.driveCommandCompletion id e data) s =
          .next (State.issueDrive { u with drv := { u.drv with
            cmds := u.drv.cmds.put u.drv.nextId { c with retried := true }, nextId := u.drv.nextId + 1 } } u.drv.nextId)))) ∧
  (∀ (id : Nat) (c : DriveCmd) (s : State), s.drv.cmds.get? id = some c → c.st = 2 →
    exec (.driveCommandTimeout id) s =
      .next (let u := if c.slot < 24 then (s.at c.deadline).bump (F.DRV_CNT_COUNT c.slot 1) 1 else s.at c.deadline
             let v := if c.proxied then (u.gusSend c.bed (.proxy id { c with op := .abort, data := [] }) .nothing).gusSend c.bed
                        (.proxy id { c with op := .reset, data := [] }) .nothing
               else (u.emit (.drive id { c with op := .abort, data := [] })).emit (.drive id { c with op := .reset, data := [] })
             (v.setPort c.slot { u.port c.slot with ready := false, readyAt := some (u.now + 20000000000), resetting := true }).joinAsk c.bed)) ∧
  (∀ (id slot sector count b m : Nat) (op : DriveOp) (data : Bytes) (s : State), s.memberAt slot upSt = some (b, m) →
    exec (.proxyCommand id op slot sector count data) s =
      .next (State.issueDrive { s with drv := { s.drv with
        cmds := s.drv.cmds.put s.drv.nextId
                  { op := op, bed := b, member := m, slot := slot, sector := sector, count := count, data := data, purpose := .proxy id
                    retried := false, deadline := s.now + sec 8, proxied := false, st := 0 }
        nextId := s.drv.nextId + 1 } } s.drv.nextId)) ∧
  (∀ (id slot sector count : Nat) (op : DriveOp) (data : Bytes) (s : State), s.memberAt slot upSt = none →
    exec (.proxyCommand id op slot sector count data) s = .next s)

/-- A drive that is not ready in its time, or that neither controller reaches, fails its member, where it holds one. A drive that comes
up as a member has its open commands issued, is written the description where its own is older, and its staged records, and fails
where its SMART warning says so; one that is no member is looked at for admission and switched off again where nothing admitted it. A
link that goes down is the drive's loss; one that comes up is noted, and the member's records go on. An idle member with nothing
staged, no command and no rebuild that runs is stopped and its power dropped, and otherwise goes on. -/
def Obligations.DriveEventsTakeEffect : Prop :=
  (∀ (slot d : Nat) (s u : State), (s.port slot).readyAt = some d →
    u = (s.at d).setPort slot { s.port slot with readyAt := none, resetting := false } → u.memberAt slot upSt = none →
    exec (.driveReadyTimeout slot) s = .next u) ∧
  (∀ (slot d b m : Nat) (s u : State), (s.port slot).readyAt = some d →
    u = (s.at d).setPort slot { s.port slot with readyAt := none, resetting := false } → u.memberAt slot upSt = some (b, m) →
    exec (.driveReadyTimeout slot) s = .next (u.memberFail b m (if (s.port slot).resetting then 1 else 8))) ∧
  (∀ (slot b m : Nat) (info : DriveInfo) (x : Bed) (y : Member) (s u : State), s.memberAt slot upSt = some (b, m) →
    s.beds.get? b = some x → x.members.get? m = some y →
    u = s.setPort slot { s.port slot with ready := !y.single, readyAt := none, resetting := false, info := some info } →
    u.memberAt slot upSt = some (b, m) →
    exec (.driveReady slot info) s =
      .next (let v := (u.drv.cmds.filterT (fun _ c => c.bed = b && c.member = m && (y.single || !c.proxied) && c.st ≠ 0)).keys.foldl
               (fun s id => s.issueDrive id) u
             let w := match v.bed? b with
               | some z => if (match z.members.get? m with | some q => decide (q.descGen < z.descGen) | none => false) then v.writeDesc b m else v
               | none => v
             let p := (w.issueStaged b).noteIdle b m
             if bit info.smart 2 || bit info.smart 3 then p.memberFail b m 4 else p)) ∧
  (∀ (slot : Nat) (info : DriveInfo) (s u : State), s.memberAt slot upSt = none →
    u = s.setPort slot { s.port slot with ready := true, readyAt := none, resetting := false, info := some info } →
    u.memberAt slot upSt = none →
    exec (.driveReady slot info) s =
      .next (let v := u.consider slot info
             if (v.chan slot).auto && (v.memberAt slot upSt).isNone then v.dropReq slot else v)) ∧
  (∀ (slot d b m : Nat) (s u : State), (s.port slot).unreachAt = some d →
    u = (s.at d).setPort slot { s.port slot with unreachAt := none } → u.memberAt slot upSt = some (b, m) →
    exec (.memberUnreachableTimeout slot) s = .next (u.memberFail b m 5)) ∧
  (∀ (slot d : Nat) (s u : State), (s.port slot).unreachAt = some d →
    u = (s.at d).setPort slot { s.port slot with unreachAt := none } → u.memberAt slot upSt = none →
    exec (.memberUnreachableTimeout slot) s = .next u) ∧
  (∀ (slot : Nat) (reaches : Bool) (s : State), exec (.drivePortLinkDown slot reaches) s = .next (s.driveLinkDown slot reaches)) ∧
  (∀ (slot speed width : Nat) (s : State), s.memberAt slot upSt = none →
    exec (.drivePortLinkUp slot speed width) s =
      .next (s.setPort slot { s.port slot with link := true, speed := speed, width := width, unreachAt := none })) ∧
  (∀ (slot speed width b m : Nat) (x : Bed) (y : Member) (s : State), s.memberAt slot upSt = some (b, m) → s.beds.get? b = some x →
    x.members.get? m = some y →
    exec (.drivePortLinkUp slot speed width) s =
      .next (let u := s.setPort slot { s.port slot with
               link := true, speed := speed, width := width, unreachAt := none, ready := (s.port slot).ready || y.single }
             (u.modBed b (fun x => x.modMember m (fun y => { y with single := false }))).issueStaged b)) ∧
  (∀ (b m d : Nat) (x : Bed) (y : Member) (s u : State), s.beds.get? b = some x → x.members.get? m = some y → y.idleAt = some d →
    u = ((s.at d).applyFld (F.BED_CKPT_IDLE_S b)).setBed b (x.modMember m (fun y => { y with idleAt := none })) →
    (x.staged.any (fun r => r.member = m && !r.written)) = false → (u.drv.cmds.vals.any (fun c => c.bed = b && c.member = m)) = false →
    (∀ r, x.rebuild = some r → r.paused = true) →
    exec (.memberIdleTimeout b m) s =
      .next (let v := u.emit (.drive u.drv.nextId
               { op := .shutdown, bed := b, member := m, slot := y.slot, sector := 0, count := 0, data := [], purpose := .control
                 retried := false, deadline := u.now, proxied := false, st := 2 })
             (v.setPort y.slot { v.port y.slot with ready := false }).memberOff b y.slot)) ∧
  (∀ (b m d : Nat) (x : Bed) (y : Member) (s u : State), s.beds.get? b = some x → x.members.get? m = some y → y.idleAt = some d →
    u = ((s.at d).applyFld (F.BED_CKPT_IDLE_S b)).setBed b (x.modMember m (fun y => { y with idleAt := none })) →
    (x.staged.any (fun r => r.member = m && !r.written)) = true ∨ (u.drv.cmds.vals.any (fun c => c.bed = b && c.member = m)) = true ∨
      (∃ r, x.rebuild = some r ∧ r.paused = false) →
    exec (.memberIdleTimeout b m) s = .next u)

/-- While the cores run: a fold takes the next records of the bed, closes what the bed has too many of, and looks at compaction; a fold
that waited goes on at its time; the interval of an Open Band starts its checkpoint and runs again; CKPT_NOW starts one of every Open
Band; a phase that ends takes the checkpoint to its next phase. A slice of a rebuild that runs rebuilds the next range that needs it, or
ends the rebuild; a flush moves the cursor, pauses where that is wanted or the shelf leaves Awake, and ends the rebuild after the last
Band. The next Band of a resync gets its parity where every data member has answered, wakes the members where one has not, and takes
the bed offline where a sector is lost. In Awake, a reclaim moves what is live in its row, and a rewrap goes on with it. -/
def Obligations.BedMaintenanceTakesEffect : Prop :=
  (∀ (b : Nat) (x : Bed) (media : List MediaRead) (s u : State), s.coreStop = false → u = (s.countReads b media).foldNext b media →
    u.beds.get? b = some x →
    exec (.recordFold b media) s = .next ((relieveF x.openCount b u).checkCompact b)) ∧
  (∀ (b d : Nat) (x : Bed) (r : Staged) (media : List MediaRead) (s : State), s.beds.get? b = some x →
    s.coreStop = false → x.staged.find? (fun r => !r.folded && r.foldAt.isSome) = some r → r.foldAt = some d →
    exec (.foldWaitExpiry b media) s = .next (((s.at d).countReads b media).foldNext b media)) ∧
  (∀ (b k d : Nat) (x : Bed) (y : Band) (s u : State), s.beds.get? b = some x → x.bands.get? k = some y → y.ckptAt = some d →
    u = (s.at d).applyFld (F.BED_CKPT_INTERVAL_S b) →
    exec (.checkpointIntervalExpiry b k) s =
      .next ((u.modBed b (fun x => x.setBand k { x.band k with ckptAt := some (u.now + sec (u.intervalS b)) })).startCkpt
        b [k] 1 false)) ∧
  (∀ (b : Nat) (x : Bed) (s : State), s.beds.get? b = some x → x.owned = true → x.openBands ≠ [] →
    exec (.ckptNow b) s = .next (s.startCkpt b x.openBands 1 false)) ∧
  (∀ (b k : Nat) (ok : Bool) (x : Bed) (c : Ckpt) (s : State), s.beds.get? b = some x →
    s.coreStop = false → x.ckpts.find? (fun c => c.bands.contains k || c.bands.isEmpty) = some c →
    exec (.checkpointPhaseComplete b k ok) s = .next (s.ckptNext b c ok)) ∧
  (∀ (b : Nat) (media : List MediaRead) (x : Bed) (r : Rebuild) (s u v : State), u = State.countReads (s.applyFld (F.BED_RBCFG_RATE b)) b media →
    s.coreStop = false → u.beds.get? b = some x → x.rebuild = some r → r.paused = false → r.flushing = false →
    (r.member < 2 → r.metaDone = true) → v = (match r.nextAt with | some d => u.at d | none => u) →
    exec (.rebuildSliceComplete b media) s =
      .next (match v.nextRebuild b x r with
        | none => v.rebuildDone b
        | some k =>
          let q : Rebuild := if k = r.cursor then r else { r with cursor := k, slice := 0 }
          (v.passOver b x r k).rebuildSlice b x q k (k * x.h + q.slice) (min 1024 (x.h - q.slice)) media)) ∧
  (∀ (b : Nat) (x y : Bed) (r q : Rebuild) (stop : Bool) (s u : State), s.coreStop = false → s.beds.get? b = some x → x.rebuild = some r →
    r.flushing = true → r.pauseWanted = false → stop = (decide (s.shelf.st ≠ .awake) || s.shelf.move.isSome) →
    q = { r with cursor := r.cursor + 1, slice := 0, flushing := false, paused := stop } →
    u = (let v := State.modBed { s with drv := { s.drv with cmds := s.drv.cmds.filterT (fun _ (c : DriveCmd) =>
           !(c.bed = b && c.member = r.member && c.purpose = DrivePurpose.rebuildFlush)) } } b (fun x => { x with rebuild := some q });
         if stop then v.actEndAny 3 (some b) else v) →
    u.beds.get? b = some y → y.rebuild = some q →
    exec (.rebuildFlushComplete b) s =
      .next (let w := u.delta b (.cursor r.member (r.cursor + 1) (y.queued.headD 0xFF))
             if (w.nextRebuild b y q).isNone then w.rebuildDone b else w)) ∧
  (∀ (b : Nat) (x y : Bed) (r q : Rebuild) (s u : State), s.coreStop = false → s.beds.get? b = some x → x.rebuild = some r →
    r.flushing = true → r.pauseWanted = true →
    q = { r with cursor := r.cursor + 1, slice := 0, flushing := false, paused := true, pauseWanted := false } →
    u = (let v := State.modBed { s with drv := { s.drv with cmds := s.drv.cmds.filterT (fun _ (c : DriveCmd) =>
           !(c.bed = b && c.member = r.member && c.purpose = DrivePurpose.rebuildFlush)) } } b (fun x => { x with rebuild := some q });
         v.setActs (v.mnt.acts.map (fun a => if a.code = 3 && a.bed = some b && a.st = 0 then { a with st := 2 } else a))) →
    u.beds.get? b = some y → y.rebuild = some q →
    exec (.rebuildFlushComplete b) s =
      .next (let w := u.delta b (.cursor r.member (r.cursor + 1) (y.queued.headD 0xFF))
             if (w.nextRebuild b y q).isNone then w.rebuildDone b else w)) ∧
  (∀ (b k : Nat) (ks : List Nat) (media : List MediaRead) (x : Bed) (s u : State), u = s.countReads b media →
    s.coreStop = false → u.beds.get? b = some x → x.resync = k :: ks → x.st ≠ 3 →
    (u.mnt.acts.any (fun a => a.code = 4 && a.bed = some b && a.st ≠ 0)) = false → (x.band k).st ≠ 0 →
    (x.dataMembers.any (fun m => mediaGet media m (x.base m + k * x.h) x.h = some .unrecovered)) = false →
    exec (.resyncBandComplete b media) s =
      .next (match resyncParity x k media with | some t => u.resyncBand b x k ks t media | none => u.wakeAll b)) ∧
  (∀ (b k m : Nat) (ks l : List Nat) (media : List MediaRead) (x : Bed) (s u : State), u = s.countReads b media →
    s.coreStop = false → u.beds.get? b = some x → x.resync = k :: ks → x.st ≠ 3 →
    (u.mnt.acts.any (fun a => a.code = 4 && a.bed = some b && a.st ≠ 0)) = false → (x.band k).st ≠ 0 →
    x.dataMembers.filter (fun m => mediaGet media m (x.base m + k * x.h) x.h = some .unrecovered) = m :: l →
    exec (.resyncBandComplete b media) s = .next (u.offline b [⟨k, k, maskOf (m :: l ++ x.missingAt k), 2⟩])) ∧
  (∀ (b : Nat) (media : List MediaRead) (x : Bed) (c : Compact) (s u : State), s.coreStop = false → u = s.countReads b media →
    u.shelf.st = .awake →
    u.shelf.move = none → u.beds.get? b = some x → x.compact = some c → c.paused = false → c.step = 1 → x.liveIn c.row ≠ 0 →
    exec (.reclaim b media) s = .next ((u.moveRow b c.row media).rewrapGo b media)) ∧
  (∀ (b : Nat) (media : List MediaRead) (x : Bed) (s u : State), s.coreStop = false → u = s.countReads b media → u.shelf.st = .awake →
    u.shelf.move = none → u.beds.get? b = some x → x.compact = none → exec (.reclaim b media) s = .next (u.rewrapGo b media))

/-! ### Gusset and the standby (R217–R245) -/

/-- A link that comes up on the powered unit sends its unacknowledged frames again and then a key check; one that goes down retrains, and
a link down too long is an event, and asks for the detach while the second path is valid. A good frame with the next number is taken, one
that was taken is acknowledged again, one past a gap asks for the missing one, and a bad one is counted; an acknowledgement takes away
what it covers; the acknowledgement timer sends the acknowledgement, and the retransmit timer sends the frames again, or, after the
eighth try, retrains. An acknowledgement frame does no more than acknowledge, and a link's own frame sends again from the number it
names. -/
def Obligations.GussetLinkTakesEffect : Prop :=
  (∀ s : State, s.domOn 44 = true → s.gus.link = false →
    exec .gussetLinkUp s =
      .next (let u : State := { s with gus := { s.gus with
               link := true, retrain := false, retrainAt := none, downAt := none
               unacked := s.gus.unacked.map (fun (g : GTx) => { g with tries := 0 }) } }
             (u.proxyBack.resendFrom 0).gusControl 0xFF 7 (u.proxyBack.resendFrom 0).keyCheckBody)) ∧
  (∀ s : State, exec .gussetLinkDown s = .next s.gusRetrain) ∧
  (∀ (d : Nat) (s : State), s.gus.retrainAt = some d →
    exec .gussetRetrainTimeout s = .next (State.gusEvent { s.at d with gus := { s.gus with retrainAt := none } } 4)) ∧
  (∀ (d : Nat) (s : State), s.gus.downAt = some d → s.gus.link = false → s.pathValid 2 = true → s.gus.detachAsked = 0 →
    exec .gussetDownDetach s = .next (s.at (d + msec 10)).askDetach) ∧
  (∀ (f : GussetFrame) (s u : State), s.gus.link = true → f.crcOk = true → f.length ≤ 9152 → f.zeroFields = 0 → f.kind ≠ 8 → f.kind ≠ 9 →
    f.kind ≠ 0xB ∨ f.first = false ∨ f.message ≠ 0 ∧ f.message ≤ 0xE →
    u = (s.gusFrames false [(20 + 4 * cdiv f.length 4, s.gussetHead f)]).linkAcked f.ack →
    (f.seq = u.gus.rxSeq + 1 → exec (.gussetFrameReceive f) s =
      .next { u with gus := { u.gus with rxSeq := f.seq, ackAt := some (u.gus.ackAt.getD (u.now + 2000)) } }) ∧
    (f.seq ≤ u.gus.rxSeq → exec (.gussetFrameReceive f) s =
      .next { u with gus := { u.gus with ackAt := some (u.gus.ackAt.getD (u.now + 2000)) } }) ∧
    (u.gus.rxSeq + 1 < f.seq → exec (.gussetFrameReceive f) s =
      .next (u.putGusset 0 0xFF (.linkAck (u.gus.rxSeq + 1)) false))) ∧
  (∀ (f : GussetFrame) (s u : State), s.gus.link = true → f.crcOk = true → f.length ≤ 9152 → f.zeroFields = 0 →
    u = (s.gusFrames false [(20 + 4 * cdiv f.length 4, s.gussetHead f)]).linkAcked f.ack →
    (f.kind = 8 → exec (.gussetFrameReceive f) s = .next u) ∧
    (f.kind = 9 → exec (.gussetFrameReceive f) s = .next (if f.nak = 0 then u else u.resendFrom f.nak))) ∧
  (∀ (f : GussetFrame) (s : State), s.gus.link = true → f.crcOk = false ∨ 9152 < f.length ∨ f.zeroFields ≠ 0 →
    exec (.gussetFrameReceive f) s = .next (s.bump (F.GUS_CNT_COUNT 1) 1)) ∧
  (∀ (seq : Nat) (s : State), exec (.gussetLinkAck seq) s = .next (s.linkAcked seq)) ∧
  (∀ (d : Nat) (s : State), s.gus.ackAt = some d → s.gus.link = true →
    exec .gussetAckTimer s =
      .next (State.putGusset { s.at d with gus := { (s.at d).gus with ackAt := none } } 0 0xFF (.linkAck 0) false)) ∧
  (∀ (g : GTx) (l : List GTx) (s : State), s.gus.unacked = g :: l → s.gus.link = true → g.tries < 8 →
    exec .gussetRetransmitTimer s = .next ((s.at (g.sentAt + usec 20)).resendFrom g.seq)) ∧
  (∀ (g : GTx) (l : List GTx) (s : State), s.gus.unacked = g :: l → s.gus.link = true → 8 ≤ g.tries →
    exec .gussetRetransmitTimer s = .next (s.at (g.sentAt + usec 20)).gusRetrain)

/-- A standby that stands by keeps the owner's mirrored records, their Bands dirty, and its write notices; stores a window's bytes; keeps a
transport notice; takes a fold number, and folds the record the fold names into its shadow accumulator; applies the entries of a
delta in order and acknowledges the tick; and takes each kind of piece of a join: map entries, Band states, dirty bits, index
entries and accumulators, and the accumulators it asked for. -/
def Obligations.StandbyMessagesTakeEffect : Prop :=
  (∀ (id : Nat) (head : MirrorHead) (bytes : Bytes) (x : Bed) (s : State), s.beds.get? head.bed = some x → x.stands_by = true →
    exec (.recordMirror id head bytes) s =
      .next (State.modCopy (s.setDirty head.bed (x.bandOf head.member head.start) true) head.bed
        (fun c => { c with mirrored := c.mirrored ++ [⟨id, head, bytes, false, false⟩] }))) ∧
  (∀ (head : MirrorHead) (x : Bed) (s : State), s.beds.get? head.bed = some x → x.stands_by = true →
    exec (.writeNotice head) s =
      .next ((s.modBed head.bed (fun x => x.announced head)).modCopy head.bed
        (fun c => { c with mirrored := c.mirrored ++ [⟨0, head, [], false, false⟩] }))) ∧
  (∀ (b i off key : Nat) (bytes : Bytes) (x : Bed) (s : State), s.beds.get? b = some x → x.stands_by = true →
    ∃ t y, exec (.windowMirror b i off key bytes) s = .next t ∧ t.beds.get? b = some y ∧
      ∃ w, y.standby.windows.get? i = some w ∧ w.key = key ∧
        w.mem = (match x.standby.windows.get? i with | some v => v.mem | none => .empty).writeN off bytes ∧
        ∀ j, j ≠ i → y.standby.windows.get? j = x.standby.windows.get? j) ∧
  (∀ (b : Nat) (n : Notice) (x : Bed) (s : State), s.beds.get? b = some x → x.stands_by = true →
    exec (.transportNotice b n) s = .next (s.modCopy b (fun c => { c with notices := c.notices ++ [n] }))) ∧
  (∀ (b fold : Nat) (x : Bed) (s : State), s.beds.get? b = some x → x.stands_by = true →
    exec (.foldNotice b 0 fold) s = .next (s.modBed b (fun x => { x with fold := max x.fold fold }))) ∧
  (∀ (b id fold : Nat) (m : Mirrored) (x : Bed) (s : State), s.beds.get? b = some x → x.stands_by = true → id ≠ 0 →
    x.standby.mirrored.find? (fun m => m.id = id && !m.folded && id ≠ 0) = some m →
    exec (.foldNotice b id fold) s =
      .next (let y : Bed := { x.shadowFold m fold with fold := max x.fold fold }
             let l := keepMirrored (y.standby.mirrored.map (fun q => if q.id = id then { q with folded := true } else q))
             s.setBed b { y with standby := { y.standby with mirrored := l } })) ∧
  (∀ (b tick : Nat) (es : List DeltaEntry) (x : Bed) (s : State), s.beds.get? b = some x → x.stands_by = true →
    x.joined = true ∨ x.standby.joinTick ≤ tick →
    exec (.tickDelta b tick es) s =
      .next (let u := (es.foldl (fun s e => s.applyEntry b tick e) s).modCopy b (fun c => { c with tick := tick })
             State.gusSend { u with gus := { u.gus with ackSent := tick % 65536 } } b (.tickAck b tick) .nothing)) ∧
  (∀ (b k f : Nat) (l : List (Nat × Bytes × Bytes)) (x : Bed) (s : State), s.beds.get? b = some x → x.stands_by = true →
    exec (.joinData b (.accumulators k f l)) s = .next (s.putAcc b k f l) ∧ exec (.accData b k f l) s = .next (s.putAcc b k f l) ∧
    (∀ ns u es, exec (.joinData b (.map ns u es)) s = .next (s.applyEntry b 0 (.mapPut ns u es))) ∧
    (∀ es, exec (.joinData b (.indexPage es)) s = .next (es.foldl (fun s e => s.applyEntry b 0 (.indexPut e)) s)) ∧
    (∀ bs, exec (.joinData b (.bitmap k bs)) s = .next (bs.zipIdx.foldl (fun s e => s.setDirty b (k + e.2) e.1) s)) ∧
    (∀ ts, exec (.joinData b (.bandTable k ts)) s =
      .next (ts.zipIdx.foldl (fun s e => s.modBed b (fun x => x.setBand (k + e.2) { x.band (k + e.2) with
        gen := e.1.1, st := e.1.2.1, retired := e.1.2.2 })) s)))

/-- In Awake the end of a tick sends the delta of every bed that is copied (keeps it while the cores are stopped), publishes the tick and
the states, and starts the next tick with an empty delta; below Awake no tick follows. An acknowledgement of a bed that is copied is
noted with its latency, the oldest tick that every bed has acknowledged releases what it held, and a handover that waits for it goes on;
of a bed that is not copied it changes nothing. An acknowledgement that is late is an event, is counted, and asks for the detach while a
path is valid. -/
def Obligations.TicksTakeEffect : Prop :=
  (∀ (d : Nat) (s : State), s.gus.tickEndAt = some d → s.shelf.st = .awake →
    exec .tickEnd s =
      .next (let u := s.at d
             let copied := u.owned.filter (fun b => u.copied b)
             let waits := u.owned.any (fun b => u.ticked b)
             let v := copied.foldl State.qpChanges u
             let w := copied.foldl (fun s b =>
               match s.bed? b with
               | some x =>
                 if s.coreStop then { s with gus := { s.gus with late := s.gus.late ++ [(b, s.gus.tick, s.deltaOf b x)] } }
                 else s.gusSend b (.tickDelta b s.gus.tick (s.deltaOf b x)) .nothing
               | none => s) v
             let x := if copied.isEmpty || w.coreStop then w else w.setFld F.GUS_TICK_LO_SENT (w.gus.tick % 2 ^ 32)
             let x := (x.putTickStates.applyRwls [F.GUS_CFG_TICK_US.addr, F.OBJ_CFG_IDX_CACHE.addr]).trimCache 0
             { x with gus := { x.gus with
               delta := .empty, tick := x.gus.tick + 1, tickEndAt := some (x.now + x.tickNs)
               ends := if waits then x.gus.ends ++ [(x.gus.tick, x.now)] else x.gus.ends } })) ∧
  (∀ (d : Nat) (s : State), s.gus.tickEndAt = some d → s.shelf.st ≠ .awake →
    exec .tickEnd s = .next { s with gus := { s.gus with tickEndAt := none } }) ∧
  (∀ (b tick : Nat) (s : State), s.copied b = true →
    exec (.tickAcknowledgement b tick) s =
      .next (let w := (s.noteAck b tick).releaseAll.ackAll
             if w.gus.handover = some b && (match w.bed? b with | some x => x.ckpts.isEmpty | none => false) then w.handOver b tick else w) ∧
    (s.noteAck b tick).gus.ackedBed.getD b 0 = max tick (s.gus.ackedBed.getD b 0) ∧
    (s.gus.ends = [] → (s.noteAck b tick).gus.ends = [] ∧ (s.noteAck b tick).regs = s.regs)) ∧
  (∀ (b tick : Nat) (s : State), s.copied b = false → exec (.tickAcknowledgement b tick) s = .next s) ∧
  (∀ (k d : Nat) (l : List (Nat × Nat)) (s : State), s.gus.ends = (k, d) :: l → s.withStandby ≠ 0 → s.gus.detachAsked = 0 →
    exec .tickAckTimeout s =
      .next (let u := (State.gusEvent (s.at (d + s.ackToNs)) 3).bump (F.GUS_CNT_COUNT 6) 1
             if u.pathValid 1 || u.pathValid 2 then u.askDetach else u))

/-- A join request of another controller with the same key, for a mounted bed that is owned and not fenced, in Awake and without a
conflict, is answered with the pieces, the staged records, the delta and JOIN_DONE; JOIN_DONE ends the join of a standby that joins and
is answered with JOIN_ACK; JOIN_ACK ends the copy at the owner; a detach request detaches, is answered and starts the joins anew, and its
answer ends the detach that was asked. A key check with no key, or another, is noted and keeps the controllers apart; a pairing message of a
controller without a key installs the key it opens, and is refused with its reason otherwise; its answer ends the pairing. A request for
accumulators of a copied bed is answered with them, and slot requests raise and drop their slots. -/
def Obligations.PeerMessagesTakeEffect : Prop :=
  (∀ (b msgId serial : Nat) (kcv : Bytes) (x : Bed) (k : KeyStore) (s u : State), s.beds.get? b = some x → s.store = some k → k.state = 1 →
    k.kcv = kcv → x.owned = true → x.fenced = false → x.mounted = true → s.shelf.conflict = false → s.shelf.st = .awake →
    serial ≠ s.fuses.serial → u = s.setBed b { x with copying := true, peerJoined := false } →
    exec (.joinRequest b msgId serial kcv) s =
      .next (let v := (((u.joinPieces b x).foldl (fun s p => s.gusPiece b x.h p) u).mirrorStaged b).joinDelta b x
             v.gusAnswer b 3 msgId (be 8 v.gus.tick ++ be 8 x.fold))) ∧
  (∀ (b msgId tick fold : Nat) (x : Bed) (s : State), s.beds.get? b = some x → x.owned = false → x.standby.joining = true →
    exec (.joinDone b msgId tick fold) s =
      .next (let c : StandbyCopy := { x.standby with joining := false, joinTick := tick }
             let u := s.setBed b { x with joined := true, detached := false, fold := max x.fold fold, standby := c }
             let v : State := { u with gus := { u.gus with declared := false } }
             (v.gusAnswer b 4 msgId (be 8 tick ++ be 8 fold)).shelfNote s.shelf.st.code (2 ^ b))) ∧
  (∀ (b : Nat) (x : Bed) (s : State), s.beds.get? b = some x → x.owned = true → x.copying = true →
    exec (.joinAck b) s =
      .next (let u := s.setBed b { x with peerJoined := true, copying := false, detached := false }
             State.shelfNote { u with gus := { u.gus with declared := false, ackedBed := u.gus.ackedBed.put b (u.gus.tick - 1) } }
               s.shelf.st.code (2 ^ b))) ∧
  (∀ (msgId mask : Nat) (s : State), exec (.detachRequest msgId mask) s =
    .next ((bedsOf mask).foldl State.rejoin ((s.detachStandby mask).gusAnswer 0xFF 6 msgId (be 4 mask)))) ∧
  (∀ (mask : Nat) (s : State), exec (.detachDone mask) s = .next (s.detachDone (mask &&& s.gus.detachAsked))) ∧
  (∀ (kcv : Bytes) (st : Nat) (found : List BedGeom) (s : State), st ≠ 1 →
    exec (.keyCheck kcv st found) s =
      .next (State.keyNote { s with gus := { s.gus with peerKcv := some kcv }, cph := { s.cph with peerMatch := false } }).keysApart) ∧
  (∀ (kcv : Bytes) (found : List BedGeom) (k : KeyStore) (s u : State), s.store = some k → k.state = 1 → k.kcv = kcv →
    u = { s with gus := { s.gus with peerKcv := some kcv }, cph := { s.cph with peerMatch := true } } →
    exec (.keyCheck kcv 1 found) s = .next (if u.mayJoin then found.foldl State.startJoin u else u)) ∧
  (∀ (msgId sender : Nat) (iv wrapped tag kcv sec k : Bytes) (st : KeyStore) (s : State), s.store = some st → st.state = 0 →
    s.cph.secret = some sec → gcmOpen (transportKey sec sender s.fuses.serial) iv kcv wrapped tag = some k → keyCheckValue k = kcv →
    exec (.pairing msgId sender iv wrapped tag kcv) s =
      .next (let u := s.installKey k
             let v := State.keyNote { u with cph := { u.cph with peerMatch := true } }
             State.gusAnswer { v with cph := { v.cph with secret := none, secretAt := none } } 0xFF 9 msgId (be 4 0))) ∧
  (∀ (msgId sender : Nat) (iv wrapped tag kcv : Bytes) (s : State),
    ((∃ st, s.store = some st ∧ st.state ≠ 0) → exec (.pairing msgId sender iv wrapped tag kcv) s =
      .next (State.gusAnswer { s with cph := { s.cph with secret := none, secretAt := none } } 0xFF 9 msgId (be 4 1))) ∧
    ((∃ st, s.store = some st ∧ st.state = 0) → s.cph.secret = none → exec (.pairing msgId sender iv wrapped tag kcv) s =
      .next (State.gusAnswer { s with cph := { s.cph with secret := none, secretAt := none } } 0xFF 9 msgId (be 4 2)))) ∧
  (∀ (r : Nat) (s : State),
    exec (.pairingDone r) s =
      .next (State.keyNote { s with cph := { s.cph with
        secret := none, secretAt := none, pairing := none, peerMatch := s.cph.peerMatch || decide (r = 0) } })) ∧
  (∀ (b i k : Nat) (x : Bed) (s : State), s.beds.get? b = some x → s.copied b = true →
    exec (.accRequest b ⟨i, k⟩) s =
      .next (s.gusSend b (.accData b i x.h k (x.band k).lastFold
        (match (x.band k).acc with | some t => t.entries.map (fun e => (e.1, e.2.1, e.2.2)) | none => [])) .nothing)) ∧
  (∀ (b i k : Nat) (x : Bed) (s : State), s.beds.get? b = some x → s.copied b = false → exec (.accRequest b ⟨i, k⟩) s = .next s) ∧
  (∀ (raises drops : Nat) (s : State),
    exec (.slotRequest raises drops) s =
      .next ((bitsOf 24 drops).foldl State.dropReq ((bitsOf 24 raises).foldl (fun s k => s.raiseReq k false) s)))

/-- A heartbeat is sent each millisecond while heartbeats run; a good word of a path that counts is kept, a valid one taken, with the
joins asked for when its sender came up to Awake; a millisecond with no word of a path is counted against it, and with one clears it;
each may declare the peer lost. Self-fencing 8 ms after the last valid word fences the beds at risk, with their check at 30 ms. A takeover
with nothing to take announces the addresses; the announcement is repeated, and the first repeat probes the queue pairs; the
takeover's preempt preempts the bed and writes its records again; the check of a fenced bed resumes it where its key is there and leaves
it where not. A test of the standby goes to its unit and notes what it found. A handover that the standby's last tick allows is taken,
its addresses announced, and answered; its acknowledgement ends the associations of the bed and leaves it to the peer. -/
def Obligations.TakeoverTakesEffect : Prop :=
  (∀ s : State, s.hbOn = true →
    exec .heartbeatSend s = .next (State.sendWord { s.at s.gus.hbAt with gus := { s.gus with hbAt := max s.now s.gus.hbAt + 1000000 } })) ∧
  (∀ (path : Nat) (w : HbWord) (s : State), s.hbOn = true → w.crcOk = true → path = 2 ∨ path = 1 ∧ s.gus.link = true →
    exec (.heartbeatWord path w) s =
      .next (let u : State := { s with
               gus := { s.gus with
                 lastWord := some w
                 fault1At := if w.fault && path = 1 then some s.now else s.gus.fault1At
                 fault2At := if w.fault && path = 2 then some s.now else s.gus.fault2At }
               shelf := { s.shelf with peerState := w.state } }
             let v := u.noteConflict w
             let v := if s.shelf.peerState ≠ 0 ∧ w.state = 0 then v.askJoins else v
             (if v.wordValid path w then v.takeWord path w else v).declare)) ∧
  (∀ (s u v : State), u = { s.at s.gus.missAt with gus := { s.gus with missAt := max s.now s.gus.missAt + 1000000 } } →
    u.hbOn = true →
    v = (let a := if s.gus.got1 then u else u.bump (F.GUS_CNT_COUNT 3) 1;
         if s.gus.got2 then a else a.bump (F.GUS_CNT_COUNT 4) 1) →
    exec .heartbeatMissTick s =
      .next (State.declare { v with gus := { v.gus with
        got1 := false, got2 := false
        miss1 := if s.gus.got1 then s.gus.miss1 else min 255 (s.gus.miss1 + 1)
        miss2 := if s.gus.got2 then s.gus.miss2 else min 255 (s.gus.miss2 + 1) } })) ∧
  (∀ (l : Nat) (s u : State), s.gus.lastValid = some l → s.gus.declared = false → u = s.at (l + msec 8) →
    exec .selfFence s =
      .next (((u.beds.entries.filter (fun e => u.atRisk e.1 e.2)).map (·.1)).foldl
        (fun s b => (s.selfFenceBed b).modBed b (fun x => { x with reclaimAt := some (l + msec 30) })) u)) ∧
  (∀ (t0 : Nat) (info : PeerInfo) (mounts : List MountAnswer) (s u : State), s.gus.takeT0 = some t0 → s.gus.declared = true →
    s.gus.announced = 0 → s.shelf.st = .awake → u = s.at (max s.gus.declaredAt (t0 + msec 10)) → u.takeable = [] →
    exec (.takeoverStart info mounts) s = .next (State.takeAddrs { u with gus := { u.gus with announced := 1 } } info 0)) ∧
  (∀ (t0 k : Nat) (s : State), s.gus.takeT0 = some t0 → s.gus.announced = k → k ≠ 0 → k < 4 →
    exec .addressAnnounce s =
      .next (let u := State.announceTaken { s.at (t0 + msec (3 + 10 * k)) with gus := { s.gus with announced := k + 1 } }
             if k = 1 then u.probeAll else u)) ∧
  (∀ (b d : Nat) (x : Bed) (s : State), s.beds.get? b = some x → x.preemptAt = some d →
    exec (.takeoverPreempt b) s = .next (((s.at d).preemptBed b).rewriteInFlight b)) ∧
  (∀ (b d : Nat) (x : Bed) (s : State), s.beds.get? b = some x → x.reclaimAt = some d → x.fenced = true → x.reportMember = none →
    exec (.reclaimCheck b true) s = .next ((((s.at d).preemptBed b).putOwnAddrs).resumeBed b) ∧
    exec (.reclaimCheck b false) s =
      .next (((s.at d).fencedOut b).modBed b (fun x => { x with owned := false, left := true, reclaimAt := none })).ledSync) ∧
  (∀ (passed : Bool) (h k : Nat) (s u v : State), s.flag F.GUS_CFG_MODE = true → s.shelf.st = .awake →
    s.beds.vals.any (fun x => !x.owned && x.joined) = true → s.mnt.acts = [] → s.arrivalOf 10 none 0 false none = (v, 0, h) →
    k = testUnits.getD (v.gus.testNext % 5) 0 → u = { v with gus := { v.gus with testNext := (v.gus.testNext + 1) % 5 } } →
    (2 ≤ k ∨ (u.roundCore k).isSome = true) →
    exec (.standbySelfTest passed) s =
      .next (let a := match u.roundCore k with | some c => u.katRound c passed | none => u
             let a := if k = 4 then a.testReads else a
             State.actEnd { a with gus := { a.gus with unitsBad := setBit a.gus.unitsBad k (!passed) } } 10 none 0)) ∧
  (∀ (b msgId tick : Nat) (info : PeerInfo) (x : Bed) (s u : State), s.beds.get? b = some x → x.owned = false → x.joined = true →
    x.standby.tick = tick → s.shelf.st = .awake →
    u = (State.preemptBed (s.takeJoined b info (info.assocs.map (fun a => (a.number, s.assocHere a.number))) s.now) b).rewriteInFlight b →
    exec (.handover b msgId tick info) s =
      .next (let v := info.addrs.foldl (fun s a => s.addLaddr (a % 2 ^ 48) (a / 2 ^ 48 % 4096) true)
               { u with gus := { u.gus with peerPart := some info.part } }
             let w := v.announceTaken.probeAll
             (w.shelfNote v.shelf.st.code (2 ^ b)).gusAnswer b 0xB msgId (be 8 tick))) ∧
  (∀ (b : Nat) (x : Bed) (s u v : State), s.beds.get? b = some x → x.owned = true → x.fenced = true →
    u = (((((s.cmd.assocs.entries.filter (fun e => e.2.bed = some b)).map (·.1)).foldl State.endAssoc (s.fencedOut b)).modBed b
      (fun x => { x with owned := false, left := true })).ledSync) →
    v = u.shelfNote u.shelf.st.code (2 ^ b) →
    exec (.handoverAck b) s =
      .next (if v.mayJoin then v.startJoin (x.geom b) else v))


/-! ### The service port (R378–R396) -/

/-- A request of an open session that is new and sound is noted and carried out; a repeated one receives its stored response; one with a
bad tag is counted; an older one only keeps its session; and with the port closed, or of no session, nothing happens. -/
def Obligations.ServiceRequestsAreCarriedOut : Prop :=
  (∀ (h : SvcHead) (type : Nat) (run : State → State) (s : State), s.svcOpen h type = true →
    s.svc h type run = run (s.svcNoted h type)) ∧
  (∀ (h : SvcHead) (type : Nat) (run : State → State) (x : Session) (r : SvcResp) (s : State), s.svcPort = true → h.tagOk = true →
    s.mnt.sessions.get? h.session = some x → x.responses.find? (fun r => r.request = h.request) = some r →
    s.svc h type run =
      State.svcEmit { s with mnt := { s.mnt with sessions := s.mnt.sessions.put h.session { x with at_ := s.now } } } r) ∧
  (∀ (h : SvcHead) (type : Nat) (run : State → State) (x : Session) (s : State), s.svcPort = true → h.tagOk = true →
    s.mnt.sessions.get? h.session = some x → x.responses.find? (fun r => r.request = h.request) = none → h.request ≤ x.lastReq →
    s.svc h type run = { s with mnt := { s.mnt with sessions := s.mnt.sessions.put h.session { x with at_ := s.now } } }) ∧
  (∀ (h : SvcHead) (type : Nat) (run : State → State) (s : State), s.svcPort = false ∨ s.mnt.sessions.get? h.session = none →
    s.svc h type run = s) ∧
  (∀ (h : SvcHead) (type : Nat) (run : State → State) (x : Session) (s : State), s.svcPort = true → h.tagOk = false →
    s.mnt.sessions.get? h.session = some x → s.svc h type run = s.badTag)

/-- Hello opens a session while four are not open, and is refused when they are; IDENTIFY is answered outside a session; a session's
time-out ends it. In a session: registers are read, and written where nothing refuses the write; a reset is answered and asserted; a
commit writes the set; a record is read, and a piece of one stored, the last one with the commit of the set; the time is set; a ring is
read and the crash log formatted. The service key is first installed after the confirmation at the UART, and replaced under the key in
force, which ends every session. -/
def Obligations.ServiceMessagesTakeEffect : Prop :=
  (∀ (client : Bytes) (key : WrappedKey) (request : Nat) (s : State), s.svcPort = true → s.cfg.data.svcKey = some key → s.mnt.sessions.size < 4 →
    ∃ t x, exec (.hello client request true true) s = .next t ∧ t.mnt.sessions.get? s.mnt.nextSession = some x ∧ x.lastReq = 0 ∧
      x.key = sessionKey (s.openKey 2 key) client (randomBytes s.mnt.randoms) ∧ t.mnt.nextSession = s.mnt.nextSession + 1) ∧
  (∀ (client : Bytes) (key : WrappedKey) (request : Nat) (s : State), s.svcPort = true → s.cfg.data.svcKey = some key →
    4 ≤ s.mnt.sessions.size →
    exec (.hello client request true true) s = .next (s.svcSend (some (s.openKey 2 key)) ⟨0, request, 1, .noRoom, []⟩)) ∧
  (∀ (request : Nat) (s : State), s.svcPort = true →
    exec (.identifyMessage request true) s = .next (s.svcSend none ⟨0, request, 2, .ok, s.identifyBody⟩)) ∧
  (∀ (k : Nat) (x : Session) (s : State), s.mnt.sessions.get? k = some x →
    exec (.serviceSessionTimeout k) s = .next ((s.at (x.at_ + 300000000000)).endSession k)) ∧
  (∀ (h : SvcHead) (addr count : Nat) (b : Bytes) (s u v : State), s.svcOpen h 0x03 = true → u = s.svcNoted h 0x03 → addr % 4 = 0 →
    count ≠ 0 → count ≤ 256 → readDwords (.service h.session) count addr u [] = (v, b) →
    exec (.regRead h addr count) s = .next (v.respond h 0x03 .ok (be 4 addr ++ be 2 count ++ [0, 0] ++ b))) ∧
  (∀ (h : SvcHead) (addr : Nat) (value w : Word) (s u v x : State), s.svcOpen h 0x04 = true → u = s.svcNoted h 0x04 → addr < 2 ^ 24 →
    u.busWrite (.service h.session) addr 15 value = (v, 0) → v.regRead (.service h.session) addr 15 = (x, w) →
    exec (.regWrite h addr value) s = .next (x.respond h 0x04 .ok (be 4 addr ++ be 4 w.toNat))) ∧
  (∀ (h : SvcHead) (addr n : Nat) (value : Word) (s u v : State), s.svcOpen h 0x04 = true → u = s.svcNoted h 0x04 → addr < 2 ^ 24 →
    u.busWrite (.service h.session) addr 15 value = (v, n) → n ≠ 0 →
    exec (.regWrite h addr value) s = .next (v.respond h 0x04 (if n = 1 then .cfgBusy else .badField) [])) ∧
  (∀ (h : SvcHead) (s u : State), s.svcOpen h 0x05 = true → u = s.svcNoted h 0x05 →
    exec (.serviceResetCore h) s = .next ((u.respond h 0x05 .ok []).resetAssert 10 1) ∧
    exec (.serviceResetSystem h) s = .next ((u.respond h 0x05 .ok []).resetAssert 10 2)) ∧
  (∀ (h : SvcHead) (s u : State), s.svcOpen h 0x06 = true → u = s.svcNoted h 0x06 →
    exec (.cfgCommit h) s =
      .next (match u.cfgCommit with
        | some v => v.respond h 0x06 .ok (be 8 u.cfg.nextGen)
        | none => u.respond h 0x06 .noRoom [])) ∧
  (∀ (h : SvcHead) (f off len : Nat) (s u : State), s.svcOpen h 0x07 = true → u = s.svcNoted h 0x07 → isRecord f = true → len ≤ 1024 →
    exec (.cfgRecordRead h f off len) s =
      .next (State.drawn (u.respond h 0x07 .ok (be 4 (u.recordLen f) ++ be 4 off ++ be 2 (min len (u.recordLen f - off)) ++ [0, 0]
        ++ (List.range (min len (u.recordLen f - off))).map (fun i => u.recordByte f (off + i)))))) ∧
  (∀ (h : SvcHead) (f off : Nat) (piece v : Bytes) (al : List Nat) (table : List RackEntry) (budget allow : Word) (s u : State),
    s.svcOpen h 0x07 = true → u = s.svcNoted h 0x07 → f = 0xF001 ∨ f = 0xF030 ∨ f = 0xF040 → piece.length ≤ 1024 →
    v = layPiece (u.cfg.pieces.getD f []) piece off → v.length ≤ 65535 →
    exec (.cfgRecordWrite h f off piece false al table budget allow) s =
      .next (State.respond { u with cfg := { u.cfg with pieces := u.cfg.pieces.put f v } } h 0x07 .ok
        (be 4 v.length ++ be 4 off ++ be 2 piece.length ++ [0, 0]))) ∧
  (∀ (h : SvcHead) (f off : Nat) (piece v : Bytes) (al : List Nat) (table : List RackEntry) (budget allow : Word) (s u w x : State),
    s.svcOpen h 0x07 = true → u = s.svcNoted h 0x07 → f = 0xF001 ∨ f = 0xF030 ∧ rackTableOk table = true ∨ f = 0xF040 →
    piece.length ≤ 1024 → v = layPiece (u.cfg.pieces.getD f []) piece off → v.length ≤ 65535 → v ≠ [] →
    w = { u with cfg := { u.cfg with pieces := u.cfg.pieces.del f } } → w.commitData (w.cfg.data.withRecord f v al table) = some x →
    exec (.cfgRecordWrite h f off piece true al table budget allow) s =
      .next ((if f = 0xF030 then (x.putBudgets budget allow).sendOwed else x.putOwnAddrs).respond h 0x07 .ok
        (be 4 v.length ++ be 4 off ++ be 2 piece.length ++ [0, 0]))) ∧
  (∀ (h : SvcHead) (ns : Nat) (s u : State), s.svcOpen h 0x08 = true → u = s.svcNoted h 0x08 →
    exec (.timeSet h ns) s =
      .next (State.respond { u with clk := { u.clk with tod := some ns, todSet := true, good := 0 } } h 0x08 .ok [])) ∧
  (∀ (h : SvcHead) (r first count k e : Nat) (b : Bytes) (s u : State), s.svcOpen h 0x30 = true → u = s.svcNoted h 0x30 →
    1 ≤ r → r ≤ 3 → count ≠ 0 → count ≤ (if r = 1 then 20 else 10) → r = 1 ∨ u.rst.svcWait = false →
    ringRecords u r count first 0 [] = (k, e, b) →
    exec (.readRing h r first count) s =
      .next (let v := if r = 3 then { u with pmu := { u.pmu with
                 smpUnread := u.pmu.smpUnread.filter (fun q => !(first ≤ q && q < first + k)) } } else u
             v.respond h 0x30 .ok ([BitVec.ofNat 8 r, BitVec.ofNat 8 k, BitVec.ofNat 8 e, 0] ++ be 8 (first + k) ++ zeros 4 ++ b))) ∧
  (∀ (h : SvcHead) (s u : State), s.svcOpen h 0x31 = true → u = s.svcNoted h 0x31 →
    exec (.bbxFormat h 0xA5C3) s =
      .next (State.respond { u with mram := (u.mram.zero 4096 (64 * bbxSlots)).writeN 0 (bbxHeader u.fuses.serial u.thm.next u.dev) }
        h 0x31 .ok (be 8 u.thm.next))) ∧
  (∀ s : State, s.svcPort = true → s.cfg.data.svcKey = none →
    exec (.uartConfirmation true) s = .next { s with mnt := { s.mnt with confirmed := true } }) ∧
  (∀ (key : Bytes) (request : Nat) (s u v : State), s.svcPort = true → s.rst.svcWait = false → s.cfg.data.svcKey = none →
    s.mnt.confirmed = true → u = s.note 0x70 (le 2 0x32) → u.commitData { u.cfg.data with svcKey := some (u.wrapKeyAs 2 key) } = some v →
    exec (.serviceKeyFirstInstall key request true true true) s =
      .next (State.svcSend { v with mnt := { v.mnt with confirmed := false } } (some key) ⟨0, request, 0x32, .ok, zeros 4⟩)) ∧
  (∀ (h : SvcHead) (key : Bytes) (s u v : State), s.svcOpen h 0x32 = true → u = s.svcNoted h 0x32 →
    u.commitData { u.cfg.data with svcKey := some (u.wrapKeyAs 2 key) } = some v →
    exec (.serviceKeyReplace h key) s =
      .next (let w := v.svcSend (some key) ⟨h.session, h.request, 0x32, .ok, zeros 4⟩
             { w with mnt := { w.mnt with sessions := .empty, install := none, svcJob := none } }))

/-- An install begins in the slot not in use where no activation runs and no other session installs; its pieces are taken, a complete
block with a good CRC is written to the NOR and one with a bad CRC ends the install; its end keeps an image that is complete, valid and
not older than the security version, and refuses another. An activation of an image that may be activated starts, or waits where the
arbiter defers it. A health check that passes ends the activation with the image in use; one that does not starts the way back to the
previous image, and ends with result 3 where that one is no good. With nothing on trial the security version advances to the active
image's. -/
def Obligations.ImageMessagesTakeEffect : Prop :=
  (∀ (h : SvcHead) (len : Nat) (s u : State), s.svcOpen h 0x10 = true → u = s.svcNoted h 0x10 → len ≠ 0 → len % 4096 = 0 →
    len ≤ 48 * 2 ^ 20 → u.mnt.activation = none → (match u.mnt.install with | some i => i.session | none => h.session) = h.session →
    exec (.imageBegin h len) s =
      .next (let i : Install := { session := h.session, slot := u.mnt.freeSlot, length := len, got := .empty, have_ := [], blocks := [] }
             State.respond { u with mnt := { u.mnt with install := some i, images := u.mnt.images.del u.mnt.freeSlot } } h 0x10 .ok
               [BitVec.ofNat 8 u.mnt.freeSlot, 0, 0, 0])) ∧
  (∀ (h : SvcHead) (off : Nat) (piece : Bytes) (i j : Install) (s u : State), s.svcOpen h 0x11 = true → u = s.svcNoted h 0x11 →
    u.mnt.install = some i → i.session = h.session → off % 1024 = 0 → piece.length = 1024 → off + 1024 ≤ i.length →
    j = { i with got := i.got.writeN off piece, have_ := (off :: i.have_).eraseDups } →
    (j.complete (off / 4096) = false ∨ j.blocks.contains (off / 4096) = true → exec (.imageData h off piece) s =
      .next (State.respond { u with mnt := { u.mnt with install := some j } } h 0x11 .ok (be 4 off ++ be 4 j.blocks.length))) ∧
    (∀ b, j.complete (off / 4096) = true → j.blocks.contains (off / 4096) = false → b = j.got.readN (4096 * (off / 4096)) 4096 →
      (leNat (b.drop 4092) = crc32c (b.take 4092) → exec (.imageData h off piece) s =
        .next (let k : Install := { j with got := j.got.zero (4096 * (off / 4096)) 4096, blocks := j.blocks ++ [off / 4096] }
               State.respond { u with nor := u.nor.writeN (slotBase j.slot + 4096 * (off / 4096)) b, mnt := { u.mnt with install := some k } }
                 h 0x11 .ok (be 4 off ++ be 4 k.blocks.length))) ∧
      (leNat (b.drop 4092) ≠ crc32c (b.take 4092) → exec (.imageData h off piece) s =
        .next (State.respond { u with mnt := { u.mnt with install := none } } h 0x11 .imageInvalid [])))) ∧
  (∀ (h : SvcHead) (i : Install) (s u v : State), s.svcOpen h 0x12 = true → u = s.svcNoted h 0x12 →
    u.mnt.install = some i → i.session = h.session → v = { u with mnt := { u.mnt with install := none } } →
    exec (.imageEnd h) s =
      .next (match if i.blocks.length = i.length / 4096 then v.imageIn i.slot else none with
        | none => v.respond h 0x12 .imageInvalid []
        | some x =>
          if x.secVer < u.fuses.secVer then v.respond h 0x12 .rollback []
          else State.respond { v with mnt := { v.mnt with images := v.mnt.images.put i.slot x } } h 0x12 .ok
            (be 4 x.version ++ be 4 x.secVer ++ [BitVec.ofNat 8 i.slot, 0, 0, 0]))) ∧
  (∀ (h : SvcHead) (g n k : Nat) (x : ImageInfo) (s u v : State), s.svcOpen h 0x13 = true → u = s.svcNoted h 0x13 →
    (g = 0xFF ∨ 1 ≤ g ∧ g ≤ 9 ∧ u.rst.svcWait = false ∧ x.sections.has g = true ∧ x.major = u.mnt.major) →
    u.mnt.images.get? (1 - u.mnt.slotOf g) = some x → u.fuses.secVer ≤ x.secVer → u.mnt.activation = none →
    u.arrivalOf 8 none g h.force (some (h.session, h.request)) = (v, n, k) →
    exec (.activate h g) s =
      .next (let a : Activation := { target := g, phase := 1, slot := 1 - u.mnt.slotOf g, forced := h.force, healthAt := none, failed := false }
             let w := ((v.setFld F.MNT_ACTV_TARGET (g % 16)).setFld F.MNT_ACTV_SLOT (1 - u.mnt.slotOf g)).setFld F.MNT_ACTV_FORCED (b2n h.force)
             let w := w.setFld F.MNT_ACTV_RESULT 0
             let w := State.respond { w with mnt := { w.mnt with activation := some a } } h 0x13 (verdictStatus n)
               [BitVec.ofNat 8 g, BitVec.ofNat 8 n, BitVec.ofNat 8 (1 - u.mnt.slotOf g), 0]
             if n = 1 ∨ n = 5 then w else w.actBegin)) ∧
  (∀ (d : Nat) (ok : Bool) (a : Activation) (s : State), s.mnt.activation = some a → a.healthAt = some d → a.phase = 4 →
    (a.failed = false → ∃ t, exec (.activationHealthEnd true ok) s = .next t ∧ t.mnt.activation = none ∧
      t.mnt.trial = s.mnt.trial - (s.mnt.trial &&& targetBits a.target) ∧
      t.mnt.active = s.mnt.active - (s.mnt.active &&& targetBits a.target) + (if a.slot = 1 then targetBits a.target else 0)) ∧
    (∀ p u, p = false ∨ a.failed = true → u = s.at d → ok = true → u.secVerOk (1 - a.slot) = true →
      exec (.activationHealthEnd p ok) s =
        .next (let v := u.raise (targetSource a.target) 2 0x06000000 []
               State.actBegin (State.wantPause { v with mnt := { v.mnt with
                 trial := v.mnt.trial - (v.mnt.trial &&& targetBits a.target)
                 activation := some { a with phase := 5, slot := 1 - a.slot, healthAt := none } } }))) ∧
    (∀ p u, p = false ∨ a.failed = true → u = s.at d → ok = false →
      exec (.activationHealthEnd p ok) s =
        .next (let v := u.raise (targetSource a.target) 3 0x06000000 []
               State.setFld { v with mnt := { v.mnt with activation := none } } F.MNT_ACTV_RESULT 3))) ∧
  (∀ (h : SvcHead) (s u : State), s.svcOpen h 0x14 = true → u = s.svcNoted h 0x14 → u.mnt.trial = 0 → u.mnt.activation = none →
    u.mnt.active = 0 ∨ u.mnt.active = 0x1FF → u.fuses.secVer ≤ u.slotSecVer (u.mnt.active % 2) → u.slotSecVer (u.mnt.active % 2) ≤ 32 →
    exec (.secverAdvance h) s =
      .next (State.respond { u with fuses := { u.fuses with secVer := u.slotSecVer (u.mnt.active % 2) } } h 0x14 .ok
        (be 4 (u.slotSecVer (u.mnt.active % 2)))))

/-- A start is judged and answered, and what may run starts: a self-test, a standby test where the controller stands by, a checkpoint of
every Open Band and a compaction of a mounted bed that takes changes. One that waits can be withdrawn, with the activation that waited;
the first 64 are reported; and one that waited starts when it may and no earlier one waits, is dropped when it has lapsed, and waits on
otherwise. -/
def Obligations.ActivitiesTakeEffect : Prop :=
  (∀ (h : SvcHead) (c bed n k : Nat) (s u v : State), s.svcOpen h 0x20 = true → u = s.svcNoted h 0x20 → c = 1 ∨ c = 2 →
    u.arrivalOf c none 0 h.force (some (h.session, h.request)) = (v, n, k) →
    exec (.activityStart h c bed) s =
      .next ((if n = 0 ∨ n = 3 then v.goTest c 0 0xFFFF else v).respond h 0x20 (verdictStatus n) (actBody n c bed k))) ∧
  (∀ (h : SvcHead) (bed n k : Nat) (s u v : State), s.svcOpen h 0x20 = true → u = s.svcNoted h 0x20 → u.standsBy = true →
    u.arrivalOf 10 none 0 h.force (some (h.session, h.request)) = (v, n, k) →
    exec (.activityStart h 10 bed) s = .next (v.respond h 0x20 (verdictStatus n) (actBody n 10 bed k))) ∧
  (∀ (h : SvcHead) (bed n k : Nat) (x : Bed) (s u v : State), s.svcOpen h 0x20 = true → u = s.svcNoted h 0x20 →
    u.beds.get? bed = some x → x.owned = true → x.mounted = true → x.st ≠ 3 → x.st ≠ 4 →
    (u.actCkpt h bed x = (v, n, k) →
      exec (.activityStart h 5 bed) s = .next (v.respond h 0x20 (verdictStatus n) (actBody n 5 bed k))) ∧
    (u.arrivalOf 6 (some bed) 0 h.force (some (h.session, h.request)) = (v, n, k) →
      exec (.activityStart h 6 bed) s =
        .next (let w := if n = 0 ∨ n = 3 then (if x.bestRow.isNone then v.actEndAny 6 (some bed) else v.beginCompact bed) else v
               w.respond h 0x20 (verdictStatus n) (actBody n 6 bed k)))) ∧
  (∀ (h : SvcHead) (k : Nat) (a : Activity) (s u : State), s.svcOpen h 0x20 = true → u = s.svcNoted h 0x20 →
    u.mnt.acts.find? (fun a => a.handle = k) = some a → a.st = 1 →
    exec (.activityWithdraw h k) s =
      .next (let v := u.setActs (u.mnt.acts.filter (fun x => x.handle ≠ k))
             let w := if a.code = 8 then { v with mnt := { v.mnt with activation := none } } else v
             w.respond h 0x20 .ok (actBody 1 a.code (a.bed.getD 0xFF) k))) ∧
  (∀ (h : SvcHead) (s u : State), s.svcOpen h 0x20 = true → u = s.svcNoted h 0x20 →
    exec (.activityReport h) s =
      .next (u.respond h 0x20 .ok ([BitVec.ofNat 8 (u.mnt.acts.take 64).length, 0, 0, 0] ++ ((u.mnt.acts.take 64).map (fun a =>
        [BitVec.ofNat 8 a.code, BitVec.ofNat 8 (a.bed.getD 0xFF), BitVec.ofNat 8 a.st, 0] ++ be 4 a.handle)).flatten))) ∧
  (∀ (k o : Nat) (a : Activity) (s u : State), s.mnt.acts.find? (fun a => a.handle = k && a.st = 1) = some a →
    u = s.setActs (s.mnt.acts.filter (fun x => x.handle ≠ k)) → s.lapsed a = false →
    (u.judge a.code a.bed a.arg a.forced = (0, o) → s.earlierStart k = false →
      exec (.deferredActivityStart k) s = .next (((s.noteVerdict 0 a.code o a.bed).secondResponse a 0).startDeferred a)) ∧
    (u.judge a.code a.bed a.arg a.forced = (3, o) → s.earlierStart k = false →
      exec (.deferredActivityStart k) s =
        .next ((((s.noteVerdict 3 a.code o a.bed).pauseTests a.code a.bed a.arg).secondResponse a 3).startDeferred a)) ∧
    (u.judge a.code a.bed a.arg a.forced = (1, o) ∨ s.earlierStart k = true → exec (.deferredActivityStart k) s = .next s)) ∧
  (∀ (k : Nat) (a : Activity) (s u : State), s.mnt.acts.find? (fun a => a.handle = k && a.st = 1) = some a →
    u = s.setActs (s.mnt.acts.filter (fun x => x.handle ≠ k)) → s.lapsed a = true →
    exec (.deferredActivityStart k) s = .next (if a.code = 8 then { u with mnt := { u.mnt with activation := none } } else u))

/-- In Awake a bed is created where the request fits, no bed has its number and every drive will do; an owned bed without a namespace is
deleted; an admission to a member that is out of service, of a drive that will do in a free slot, is judged and answered; an offline bed
whose list of lost ranges is not full is admitted read-only; the index of a mounted bed is rebuilt; and a bed that a joined standby
copies is handed over while that one is Awake. A namespace's epoch advances while a number is left; a rewrap of one with more than one
epoch is judged and answered; and a retirement of earlier epochs with no retained object raises the floor and waits for its answer. -/
def Obligations.BedMessagesTakeEffect : Prop :=
  (∀ (h : SvcHead) (c : BedCreate) (k : Nat) (s u v : State), s.svcOpen h 0x21 = true → u = s.svcNoted h 0x21 → createFits c = true →
    u.beds.get? c.bed = none → u.shelf.st = .awake → (∀ m, m < c.members → u.createRefusal c m = 0) →
    bedBands c.hMib (createE c) (c.drives.map (·.sectors)) = some k →
    u.commitData { u.cfg.data with beds := u.cfg.data.beds.put c.bed ⟨c.bedId, u.fuses.serial, [], false⟩ } = some v →
    exec (.bedCreate h c) s =
      .next (let w := v.setBed c.bed (createBed c k v.dev)
             let x := State.reserveBed { w with mram := w.mram.zero (0x1000000 + 0x200000 * c.bed) 0x200000 } c.bed
             let y := (List.range c.members).foldl (fun s m =>
               ((s.driveCmd c.bed m .dealloc 0 (match c.drives[m]? with | some d => d.sectors | none => 0) [] .dealloc).putSuper c.bed m
                 false id).writeDesc c.bed m) x
             ((y.fixFill c.bed).syncDomains).respond h 0x21 .ok (bedBody 1 c.bed c.bedId))) ∧
  (∀ (h : SvcHead) (b : Nat) (x : Bed) (s u v : State), s.svcOpen h 0x21 = true → u = s.svcNoted h 0x21 → u.beds.get? b = some x →
    x.owned = true → (u.cfg.data.ns.vals.any (fun n => n.bed = b)) = false →
    u.commitData { u.cfg.data with beds := u.cfg.data.beds.del b } = some v →
    exec (.bedDelete h b) s =
      .next (let y := x.members.vals.foldl (fun s y => s.dropReq y.slot) v
             let w := y.setActs (y.mnt.acts.filter (fun a => a.bed ≠ some b))
             let z : State := { w with
               beds := w.beds.del b, mram := w.mram.zero (0x1000000 + 0x200000 * b) 0x200000
               drv := { w.drv with cmds := w.drv.cmds.filterT (fun _ c => c.bed ≠ b) } }
             z.ledSync.syncDomains.respond h 0x21 .ok (bedBody 2 b 0))) ∧
  (∀ (h : SvcHead) (b m slot n k : Nat) (x : Bed) (d : DriveInfo) (s u v : State), s.svcOpen h 0x21 = true → u = s.svcNoted h 0x21 →
    u.beds.get? b = some x → (u.port slot).info = some d → m < x.n → slot < 24 → x.owned = true → u.shelf.st = .awake →
    downSt (x.memberSt m) = true →
    slot = x.slotOf m ∨ u.beds.vals.all (fun y => y.members.vals.all (fun z => z.slot ≠ slot)) = true → refusal d (x.needSectors m) true = 0 →
    u.admitDrive b m slot d h.force (some (h.session, h.request)) = (v, n, k) →
    exec (.bedAdmitMember h b m slot) s = .next (v.respond h 0x21 (verdictStatus n) (bedBody 3 b 0))) ∧
  (∀ (h : SvcHead) (b : Nat) (x : Bed) (s u : State), s.svcOpen h 0x21 = true → u = s.svcNoted h 0x21 → u.beds.get? b = some x →
    x.owned = true → x.st = 3 → (u.bedRec b).full = false →
    exec (.bedReadmitReadOnly h b) s = .next (((u.bedState b 4).resumeRebuild b).respond h 0x21 .ok (bedBody 4 b 0))) ∧
  (∀ (h : SvcHead) (b : Nat) (media : List MediaRead) (x : Bed) (s u : State), s.svcOpen h 0x21 = true → u = s.svcNoted h 0x21 →
    u.beds.get? b = some x → x.owned = true → x.mounted = true → u.shelf.st = .awake →
    exec (.bedRebuildIndex h b media) s =
      .next (((((u.countReads b media).walkJobs b (u.scanBed x media)).setIndex b (u.scanIndex media (u.scanBed x media))).pinIndex b
        x.index).respond h 0x21 .ok (bedBody 5 b 0))) ∧
  (∀ (h : SvcHead) (b : Nat) (x : Bed) (s u : State), s.svcOpen h 0x21 = true → u = s.svcNoted h 0x21 → u.beds.get? b = some x →
    x.owned = true → x.peerJoined = true → x.detached = false → u.shelf.st = .awake → u.shelf.peerState = 0 → u.gus.handover = none →
    exec (.bedHandover h b) s =
      .next (State.respond { u with gus := { u.gus with handover := some b } } h 0x21 .ok (bedBody 6 b 0))) ∧
  (∀ (h : SvcHead) (nsid floor high : Nat) (n : Namespace) (s u v : State), s.svcOpen h 0x22 = true → u = s.svcNoted h 0x22 →
    u.cfg.data.ns.get? nsid = some n → u.epochsOf nsid = (floor, high) → high < 0xFFFFFFFF →
    u.setEpochs nsid n (high + 1) floor (high + 1) = some v →
    exec (.epochAdvance h nsid) s = .next (v.respond h 0x22 .ok (v.epochBody nsid 0))) ∧
  (∀ (h : SvcHead) (nsid r k : Nat) (n : Namespace) (s u v : State), s.svcOpen h 0x22 = true → u = s.svcNoted h 0x22 →
    u.cfg.data.ns.get? nsid = some n → n.epoch ≠ (u.epochsOf nsid).1 →
    u.arrivalOf 7 (some n.bed) nsid h.force (some (h.session, h.request)) = (v, r, k) →
    exec (.epochRewrap h nsid) s =
      .next (let w := if r = 0 ∨ r = 3 then v.modBed n.bed (fun x => { x with rewrap := some nsid }) else v
             w.respond h 0x22 (verdictStatus r) (w.epochBody nsid 0))) ∧
  (∀ (h : SvcHead) (nsid e blocks floor high : Nat) (n : Namespace) (x : Bed) (s u v : State), s.svcOpen h 0x22 = true → u = s.svcNoted h 0x22 →
    u.cfg.data.ns.get? nsid = some n → u.epochsOf nsid = (floor, high) → e < n.epoch → u.beds.get? n.bed = some x →
    (x.index.any (fun i => i.nsid = nsid && i.epoch ≤ e && u.objHeld i)) = false →
    u.setEpochs nsid n n.epoch (max floor (e + 1)) high = some v →
    exec (.epochRetire h nsid e blocks) s =
      .next (let w : RetireWait := ⟨h.session, h.request, nsid, e, liveAtOrBelow x.index nsid n.chunk e + blocks⟩
             State.retireAnswers { v with mnt := { v.mnt with retires := v.mnt.retires ++ [w] } }))

/-- A pairing secret is held for ten minutes; a controller without a domain key makes one, or takes the one an escrow sends under the secret;
one with a key sends it to a receiver over an up link under the secret; a key is erased, and a store that holds none is reset, with the
confirmation. -/
def Obligations.KeyMessagesTakeEffect : Prop :=
  (∀ (h : SvcHead) (secret : Bytes) (s u : State), s.svcOpen h 0x23 = true → u = s.svcNoted h 0x23 →
    exec (.keyPairingSecret h secret) s =
      .next (let v : State := { u with cph := { u.cph with secret := some secret, secretAt := some (u.now + 600000000000) } }
             v.keyNote.respond h 0x23 .ok (v.keyBody 1))) ∧
  (∀ (d : Nat) (s : State), s.cph.secretAt = some d →
    exec .pairingSecretExpiry s = .next { s.at d with cph := { (s.at d).cph with secret := none, secretAt := none } }) ∧
  (∀ (h : SvcHead) (s u v : State), s.svcOpen h 0x23 = true → u = s.svcNoted h 0x23 → u.keyState = 0 →
    v = State.installKey { u with mnt := { u.mnt with randoms := u.mnt.randoms + 2 }, cph := { u.cph with peerMatch := false } }
      (randomBytes u.mnt.randoms ++ randomBytes (u.mnt.randoms + 1)) →
    exec (.keyGenerate h) s = .next (v.keyNote.respond h 0x23 .ok (v.keyBody 2))) ∧
  (∀ (h : SvcHead) (receiver : Nat) (sec k iv : Bytes) (st : KeyStore) (s u v : State), s.svcOpen h 0x23 = true → u = s.svcNoted h 0x23 →
    u.cph.secret = some sec → u.cph.kDomain = some k → u.store = some st → u.keyState = 1 → u.gus.link = true →
    iv = (randomBytes u.mnt.randoms).take 12 →
    v = State.gusControl { u with mnt := { u.mnt with randoms := u.mnt.randoms + 1 }, cph := { u.cph with pairing := some receiver } } 0xFF 8
      (be 8 u.fuses.serial ++ be 8 receiver ++ iv ++ (gcmSeal (transportKey sec u.fuses.serial receiver) iv st.kcv k).1
        ++ (gcmSeal (transportKey sec u.fuses.serial receiver) iv st.kcv k).2 ++ st.kcv) →
    exec (.keyTransfer h receiver) s = .next (v.respond h 0x23 .ok (v.keyBody 3))) ∧
  (∀ (h : SvcHead) (iv sealed tag kcv sec k : Bytes) (s u v : State), s.svcOpen h 0x23 = true → u = s.svcNoted h 0x23 →
    u.cph.secret = some sec → u.keyState = 0 → gcmOpen (transportKey sec 0 u.fuses.serial) iv kcv sealed tag = some k →
    keyCheckValue k = kcv → v = State.keyNote (State.installKey { u with cph := { u.cph with secret := none, secretAt := none } } k) →
    exec (.keyEscrowSend h iv sealed tag kcv) s = .next (v.respond h 0x23 .ok (v.keyBody 4))) ∧
  (∀ (h : SvcHead) (s u : State), s.svcOpen h 0x23 = true → u = s.svcNoted h 0x23 →
    exec (.keyZeroize h 0xA5C3) s = .next ((u.eraseKey 2).keyNote.respond h 0x23 .ok ((u.eraseKey 2).keyNote.keyBody 5)) ∧
    (u.keyState ≠ 1 →
      exec (.keyStoreReset h 0xA5C3) s = .next ((u.eraseKey 0).keyNote.respond h 0x23 .ok ((u.eraseKey 0).keyNote.keyBody 6))))

/-- A piece of the rack's record is kept, and the last one commits the record with its table; the rack key is committed wrapped; the manager
releases its lease, and a wake is sent. A tenant's entry is written where its ID is no other entry's, deleted where no namespace is its,
suspended with its windows revoked, and resumed; a prefix is added below eight, and all are cleared; and one window of a tenant is
revoked. -/
def Obligations.FleetMessagesTakeEffect : Prop :=
  (∀ (h : SvcHead) (off : Nat) (piece v : Bytes) (s u : State), s.svcOpen h 0x24 = true → u = s.svcNoted h 0x24 → piece.length ≤ 1024 →
    v = layPiece (u.mnt.rackPieces.getD 0 []) piece off → v.length ≤ 65535 →
    exec (.rackRecordPiece h off piece false [] 0 0) s =
      .next (State.respond { u with mnt := { u.mnt with rackPieces := u.mnt.rackPieces.put 0 v } } h 0x24 .ok (u.rackBody 1))) ∧
  (∀ (h : SvcHead) (off : Nat) (piece v : Bytes) (table : List RackEntry) (budget allow : Word) (s u w x : State),
    s.svcOpen h 0x24 = true → u = s.svcNoted h 0x24 → piece.length ≤ 1024 →
    v = layPiece (u.mnt.rackPieces.getD 0 []) piece off → v.length ≤ 65535 → rackTableOk table = true →
    w = { u with mnt := { u.mnt with rackPieces := .empty } } → w.commitData (w.cfg.data.withRecord 0xF030 v [] table) = some x →
    exec (.rackRecordPiece h off piece true table budget allow) s =
      .next (let y := (x.putBudgets budget allow).sendOwed
             y.respond h 0x24 .ok (y.rackBody 1))) ∧
  (∀ (h : SvcHead) (key : Bytes) (s u v : State), s.svcOpen h 0x24 = true → u = s.svcNoted h 0x24 →
    u.commitData { u.cfg.data with rackKey := some (u.wrapKeyAs 1 key) } = some v →
    exec (.rackKey h key) s = .next (v.respond h 0x24 .ok (v.rackBody 2))) ∧
  (∀ (h : SvcHead) (s u : State), s.svcOpen h 0x24 = true → u = s.svcNoted h 0x24 → u.rack.role = 2 →
    exec (.rackRelease h) s =
      .next (let v := (u.rackSend 0xFFFE 9 []).rackStop
             let w : State := { v with rack := { v.rack with view := v.rack.view.map (fun (v : Nat × Nat) => (v.1, 0)) } }
             w.respond h 0x24 .ok (w.rackBody 3))) ∧
  (∀ (h : SvcHead) (s u : State), s.svcOpen h 0x24 = true → u = s.svcNoted h 0x24 →
    exec (.rackWake h) s = .next ((u.sendWake 3).respond h 0x24 .ok (u.rackBody 4))) ∧
  (∀ (h : SvcHead) (pos id : Nat) (name : Bytes) (s u v : State), s.svcOpen h 0x25 = true → u = s.svcNoted h 0x25 → pos < 4096 → id ≠ 0 →
    name.length ≤ 32 → (u.cfg.data.tenants.entries.any (fun e => e.1 ≠ pos && e.2.id = id)) = false →
    u.commitData { u.cfg.data with tenants := u.cfg.data.tenants.put pos (match u.cfg.data.tenants.get? pos with
      | some t => { t with id := id, name := name }
      | none => { id := id, name := name, prefixes := [], suspended := false }) } = some v →
    exec (.tenantWriteEntry h pos id name) s = .next (v.respond h 0x25 .ok (v.tenantBody 1 pos))) ∧
  (∀ (h : SvcHead) (pos : Nat) (x : Tenant) (s u v : State), s.svcOpen h 0x25 = true → u = s.svcNoted h 0x25 →
    u.cfg.data.tenants.get? pos = some x →
    ((u.cfg.data.ns.vals.any (fun n => n.tenant = x.id)) = false →
      u.commitData { u.cfg.data with tenants := u.cfg.data.tenants.del pos } = some v →
      exec (.tenantDeleteEntry h pos) s = .next (v.respond h 0x25 .ok (v.tenantBody 2 pos))) ∧
    (u.commitData { u.cfg.data with tenants := u.cfg.data.tenants.put pos { x with suspended := true } } = some v →
      exec (.tenantSuspend h pos) s = .next ((v.revokeTenant pos).respond h 0x25 .ok ((v.revokeTenant pos).tenantBody 3 pos))) ∧
    (u.commitData { u.cfg.data with tenants := u.cfg.data.tenants.put pos { x with suspended := false } } = some v →
      exec (.tenantResume h pos) s = .next (v.respond h 0x25 .ok (v.tenantBody 4 pos))) ∧
    (∀ pre : Bytes, pre ≠ [] → pre.length ≤ 223 → x.prefixes.length < 8 →
      u.commitData { u.cfg.data with tenants := u.cfg.data.tenants.put pos { x with prefixes := x.prefixes ++ [pre] } } = some v →
      exec (.tenantAddPrefix h pos pre) s = .next (v.respond h 0x25 .ok (v.tenantBody 5 pos))) ∧
    (u.commitData { u.cfg.data with tenants := u.cfg.data.tenants.put pos { x with prefixes := [] } } = some v →
      exec (.tenantClearPrefixes h pos) s = .next (v.respond h 0x25 .ok (v.tenantBody 6 pos)))) ∧
  (∀ (h : SvcHead) (pos w : Nat) (x : Tenant) (y : Win) (a : Assoc) (s u : State), s.svcOpen h 0x25 = true → u = s.svcNoted h 0x25 →
    u.cfg.data.tenants.get? pos = some x → u.slu.windows.get? w = some y → u.cmd.assocs.get? y.assoc = some a →
    a.tenant = pos →
    exec (.tenantRevokeWindow h pos w) s = .next ((u.winRevoke w).respond h 0x25 .ok ((u.winRevoke w).tenantBody 7 pos)))

/-- A listed unit is fenced where the fence is allowed and refused where not, re-admitted, and cleared of a permanent fence; a lane is
recalibrated by its link's loss, on a drive port while the peer reaches the drive; a channel other than 0 whose loss the maps survive is
retired with the Open Bands of the owned beds closed. In a session a Rill job is begun in the job areas, takes its pieces, is run, read
and ended. -/
def Obligations.UnitMessagesTakeEffect : Prop :=
  (∀ (h : SvcHead) (src : Nat) (s u v : State), s.svcOpen h 0x26 = true → u = s.svcNoted h 0x26 → u.listed src = true →
    (u.thmFence src = (v, false) → exec (.unitFence h src) s = .next (v.respond h 0x26 .ok (v.unitBody 1 src))) ∧
    (u.thmFence src = (v, true) → exec (.unitFence h src) s = .next (v.respond h 0x26 .wrongState [])) ∧
    (v = u.serviceReadmit src → exec (.unitReadmit h src) s = .next (v.respond h 0x26 .ok (v.unitBody 2 src))) ∧
    (v = u.clearPermanent src → exec (.unitClearPermanent h src) s = .next (v.respond h 0x26 .ok (v.unitBody 3 src)))) ∧
  (∀ (h : SvcHead) (port : Nat) (s u : State), s.svcOpen h 0x26 = true → u = s.svcNoted h 0x26 →
    (port < u.nNet → exec (.laneRecalibration h port) s = .next ((u.linkLost port).respond h 0x26 .ok ((u.linkLost port).unitBody 4 port))) ∧
    (u.nNet ≤ 0x10 → port = 0x10 →
      exec (.laneRecalibration h port) s = .next (u.gusRetrain.respond h 0x26 .ok (u.gusRetrain.unitBody 4 port))) ∧
    (u.nNet ≤ 0x10 → 0x20 ≤ port → port < 0x38 → (u.port (port - 0x20)).peerLink = true →
      exec (.laneRecalibration h port) s =
        .next (let v := u.driveLinkDown (port - 0x20) true
               v.respond h 0x26 .ok (v.unitBody 4 port))) ∧
    (u.nNet ≤ 0x10 → 0x20 ≤ port → port < 0x38 → (u.port (port - 0x20)).peerLink = false →
      exec (.laneRecalibration h port) s = .next (u.respond h 0x26 .wrongState []))) ∧
  (∀ (h : SvcHead) (c : Nat) (s u : State), s.svcOpen h 0x26 = true → u = s.svcNoted h 0x26 → c ≠ 0 → u.chansIn.contains c = true →
    u.mapsFit (u.chansIn.filter (fun d => d ≠ c)) 0 = true →
    exec (.ddrRetirement h c) s =
      .next (let v := u.beds.entries.foldl (fun s e => if e.2.owned && e.2.mounted then s.forceClose e.1 e.2.openBands else s) u
             let w := State.syncDomains (v.setFld (F.DDR_STAT_RETIRED c) 1)
             w.respond h 0x26 .ok (w.unitBody 5 c))) ∧
  (∀ (h : SvcHead) (d : RillDesc) (s u : State), s.svcOpen h 0x27 = true → u = s.svcNoted h 0x27 →
    (match u.mnt.svcJob with | some j => j.session | none => h.session) = h.session →
    d.inputAddr = 0 → d.outputAddr = 0 → d.inputLen ≤ svcArea → d.outputLen ≤ svcArea →
    exec (.rillJobBegin h d) s =
      .next (State.respond { u with mnt := { u.mnt with
                svcJob := some { session := h.session, desc := d, input := .empty, output := [] } } } h 0x27 .ok [])) ∧
  (∀ (h : SvcHead) (off len : Nat) (piece : Bytes) (j : SvcJob) (s u : State), s.svcOpen h 0x27 = true → u = s.svcNoted h 0x27 →
    u.mnt.svcJob = some j → j.session = h.session →
    (piece ≠ [] → piece.length ≤ 1024 → off + piece.length ≤ svcArea →
      exec (.rillJobInputPiece h off piece) s =
        .next (State.respond { u with mnt := { u.mnt with svcJob := some { j with input := j.input.writeN off piece } } } h 0x27 .ok [])) ∧
    exec (.rillJobRun h) s =
      .next (u.rillSubmit j.desc (j.input.readN 0 j.desc.inputLen) true true (some (h.session, h.request))) ∧
    (len ≤ 1024 →
      exec (.rillJobReadOutput h off len) s =
        .next (u.respond h 0x27 .ok (be 4 off ++ be 2 (slice j.output off len).length ++ [0, 0] ++ slice j.output off len))) ∧
    exec (.rillJobEnd h) s = .next (State.respond { u with mnt := { u.mnt with svcJob := none } } h 0x27 .ok []))


/-! ### Rules of the whole block -/

/-- No step stops, a step takes the front command from the queue and no other, and the time of the run never goes back
(log entry 4). -/
def Obligations.EveryStepGoesOn : Prop :=
  (∀ s : State, ∃ t, step s = .next t) ∧
  (∀ (c : Instr) (rest : List Instr) (s t : State), s.pending = c :: rest → step s = .next t → t.pending = rest) ∧
  (∀ s t : State, step s = .next t → s.now ≤ t.now)

/-- Every step keeps the canonical form of the MRAM and of the service NOR. -/
def Obligations.MemoriesStayCanonical : Prop :=
  ∀ s t : State, s.memoryOk = true → step s = .next t → t.memoryOk = true

/-- What reset leaves, of the values the spec gives: the watchdogs' periods, the slots' settings, no refused write; an
episode of power-on reach runs, and the shelf is Held. The memories (log entry 2) and the queue (log entry 5) are empty,
and the memories canonical. -/
def Obligations.ResetLeavesTheStatedValues : Prop :=
  State.reset.fld F.RST_WDT_C0_MS = 0x3E8 ∧ State.reset.fld F.RST_WDT_CX_MS = 0xFA ∧
  (∀ k, k < 24 → State.reset.flag (F.SPC_SLOT_CFG_EN k) = true ∧ State.reset.flag (F.SPC_SLOT_CFG_AUTO_INS k) = true) ∧
  State.reset.flag F.TOP_CFGERR_VALID = false ∧ State.reset.fld F.TOP_CFGERR_REASON = 0 ∧
  (∃ ep, State.reset.rst.episode = some ep ∧ ep.reach = 3 ∧ ep.stretchAt = 2000000) ∧
  State.reset.shelf.st = .held ∧ State.reset.pending = [] ∧ State.reset.memoryOk = true

/-- The fuses hold one value that a step may change, the security version; it never falls and, at 32 or below, stays so;
only SECVER_ADVANCE changes it (R389). -/
def Obligations.SecurityVersionNeverFalls : Prop :=
  (∀ s t : State, step s = .next t →
    t.fuses = { s.fuses with secVer := t.fuses.secVer } ∧ s.fuses.secVer ≤ t.fuses.secVer ∧
    (s.fuses.secVer ≤ 32 → t.fuses.secVer ≤ 32)) ∧
  (∀ (c : Instr) (s t : State), (∀ h, c ≠ .secverAdvance h) → exec c s = .next t → t.fuses = s.fuses)

/-! ### Streams and records -/

/-- A Mode D stream decodes to the bytes it was made of, whatever the search of the encoder proposes under the tables in
force (R124–R132, R136). -/
def Obligations.RillModeDStreamsDecode : Prop :=
  ∀ (tables : Nat × Nat) (w : Nat) (bs : Bytes), w ≤ 10 → bs ≠ [] →
    rillDecode (some bs.length) bs.length (rillEncodeD tables w bs) = .ok bs

/-- A Mode P stream decodes to the bytes it was made of, for every width, predictor and stride (R124–R127, R133–R136). -/
def Obligations.RillModePStreamsDecode : Prop :=
  ∀ (param s : Nat) (bs : Bytes), param < 16 → param % 4 ≠ 3 → s < 65536 → (2 ≤ param / 4 → s ≠ 0) → bs ≠ [] →
    rillDecode (some bs.length) bs.length (rillEncodeP param s bs) = .ok bs

/-- A record sealed under a key opens under it to what was sealed, where the open expects what its header holds and the
epoch's floor is not above its epoch (R81, R144–R149). -/
def Obligations.SealedRecordsOpen : Prop :=
  ∀ (kd iv pt : Bytes) (magic b3 epoch tenant nsid serial orig floor e : Nat),
    magic = magicData ∨ magic = magicCommit ∨ magic = magicMap → epoch < 2 ^ 32 → tenant < 2 ^ 32 → nsid < 2 ^ 32 →
    serial < 2 ^ 64 → pt.length < 2 ^ 32 → floor ≤ epoch → e = 0 ∨ e = epoch →
    openRecord (some kd) floor iv ⟨e, tenant, nsid, serial⟩
        (sealRecord kd iv (recordHeader magic b3 epoch tenant nsid serial pt.length orig) pt) = ⟨0, 0, pt⟩

/-! ### What commands leave alone -/

/-- Register reads write registers and outputs only; monitor commands, the network's silent events and slot commands write
only the units named, no bed and neither memory, and a slot's own commands no other slot. -/
def Obligations.RegisterNetworkAndSlotCommandsLeaveTheRest : Prop :=
  (∀ (path : AccessPath) (addr be : Nat) (s t : State), exec (.readClearAccess path addr be) s = .next t →
    t = { s with regs := t.regs, out := t.out }) ∧
  (∀ (path : AccessPath) (addr : Nat) (s t : State), exec (.loReadLatch path addr) s = .next t →
    t = { s with regs := t.regs, out := t.out }) ∧
  (∀ (c : Instr) (s t : State), c.ofMonitor = true → exec c s = .next t →
    t = { s with regs := t.regs, pmu := t.pmu }) ∧
  (∀ (c : Instr) (s t : State), c.ofNetwork = true → exec c s = .next t →
    t = { s with now := t.now, regs := t.regs, net := t.net, ept := t.ept, pmu := t.pmu, out := t.out, free := t.free }) ∧
  (∀ (c : Instr) (s t : State), c.ofSlots = true → exec c s = .next t →
    t = { s with now := t.now, regs := t.regs, spc := t.spc, ept := t.ept, pmu := t.pmu, out := t.out }) ∧
  (∀ (j k : Nat) (s t : State), j ≠ k → exec (.raiseRequest k) s = .next t → t.chan j = s.chan j) ∧
  (∀ (j k : Nat) (s t : State), j ≠ k → exec (.clearFault k) s = .next t → t.chan j = s.chan j) ∧
  (∀ (j k : Nat) (s t : State), j ≠ k → exec (.slotTest k) s = .next t → t.chan j = s.chan j) ∧
  (∀ (j k : Nat) (s t : State), j ≠ k → exec (.assertPwrdis k) s = .next t → t.chan j = s.chan j) ∧
  (∀ (j k : Nat) (level : Bool) (s t : State), j ≠ k → exec (.presentPinEdge k level) s = .next t → t.chan j = s.chan j) ∧
  (∀ (j k vout : Nat) (s t : State), j ≠ k → exec (.reverseBlock k vout) s = .next t → t.chan j = s.chan j)

/-- Sluice commands that run no host command, Gusset link events and what a standby takes from its owner write only the
units named; of these only a standby's data and the end of a tick reach the MRAM. -/
def Obligations.TransportAndStandbyCommandsLeaveTheRest : Prop :=
  (∀ (c : Instr) (s t : State), c.ofTransport = true → exec c s = .next t →
    t = { s with now := t.now, regs := t.regs, cmd := t.cmd, slu := t.slu, gus := t.gus, ept := t.ept, pmu := t.pmu
                 net := t.net, out := t.out, free := t.free }) ∧
  (∀ (c : Instr) (s t : State), c.ofLink = true → exec c s = .next t →
    t = { s with now := t.now, regs := t.regs, cmd := t.cmd, drv := t.drv, gus := t.gus, net := t.net, ept := t.ept
                 pmu := t.pmu, out := t.out }) ∧
  (∀ (c : Instr) (s t : State), c.ofStandby = true → exec c s = .next t →
    t = { s with now := t.now, regs := t.regs, beds := t.beds, gus := t.gus, net := t.net, slu := t.slu, ept := t.ept
                 pmu := t.pmu, mram := t.mram, out := t.out })

/-- Fabrics, property and admin commands write neither a bed nor a memory, and an opcode that is not supported no drive, no
configuration and no memory; rack messages write the network and the rack, and of the memories the MRAM only; reference
events write the clock unit, and no other but those named. -/
def Obligations.FabricsRackAndClockCommandsLeaveTheRest : Prop :=
  (∀ (c : Instr) (s t : State), c.ofFabrics = true → exec c s = .next t →
    t = { s with now := t.now, regs := t.regs, cmd := t.cmd, cfg := t.cfg, gus := t.gus, mnt := t.mnt, net := t.net
                 slu := t.slu, rack := t.rack, ept := t.ept, pmu := t.pmu, out := t.out, free := t.free }) ∧
  (∀ (c : Instr) (s t : State), c.ofUnknown = true → exec c s = .next t →
    t = { s with now := t.now, regs := t.regs, cmd := t.cmd, beds := t.beds, gus := t.gus, net := t.net, slu := t.slu
                 rack := t.rack, ept := t.ept, pmu := t.pmu, out := t.out, free := t.free }) ∧
  (∀ (c : Instr) (s t : State), c.ofRack = true → exec c s = .next t →
    t = { s with now := t.now, regs := t.regs, net := t.net, rack := t.rack, ept := t.ept, pmu := t.pmu, mram := t.mram
                 out := t.out, free := t.free }) ∧
  (∀ (c : Instr) (s t : State), c.ofClocks = true → exec c s = .next t →
    t = { s with now := t.now, regs := t.regs, clk := t.clk, ept := t.ept, pmu := t.pmu, out := t.out })

/-- Only IMAGE_DATA writes the service NOR, and of it only the block of its offset in the slot that is installed; a format
of the black box, once it is carried out, writes only the header and the ring. -/
def Obligations.MemoryWritesStayInTheirPlaces : Prop :=
  (∀ (c : Instr) (s t : State), (∀ h o p, c ≠ .imageData h o p) → exec c s = .next t → t.nor = s.nor) ∧
  (∀ (head : SvcHead) (offset : Nat) (piece : Bytes) (s t : State) (i : Install) (a : Nat), s.nor.wf = true →
    s.svcOpen head 0x11 = true → (s.svcNoted head 0x11).mnt.install = some i →
    a < slotBase i.slot + 4096 * (offset / 4096) ∨ slotBase i.slot + 4096 * (offset / 4096) + 4096 ≤ a →
    exec (.imageData head offset piece) s = .next t → t.nor.read a = s.nor.read a) ∧
  (∀ (head : SvcHead) (confirm : Nat) (s t : State) (a : Nat), (s.svcNoted head 0x31).mram.wf = true →
    s.svcOpen head 0x31 = true → 4096 + 64 * bbxSlots ≤ a →
    exec (.bbxFormat head confirm) s = .next t → t.mram.read a = (s.svcNoted head 0x31).mram.read a)
end

