-- ==== Sys2Proof/Laws/Tab.lean ====
section
/-! SUPPORT. Tables and byte memories: read after write, and that every memory operation keeps the canonical form. -/

namespace Sys2Proof.Machine

theorem Tab.getL_putL_same {α : Type} (k : Nat) (v : α) (l : List (Nat × α)) : Tab.getL k (Tab.putL k v l) = some v := by
  induction l with
  | nil => simp [Tab.putL, Tab.getL]
  | cons e t ih =>
    obtain ⟨j, w⟩ := e
    simp only [Tab.putL]
    split
    · simp [Tab.getL]
    · split
      · simp [Tab.getL]
      · next h => simp only [Tab.getL, h, if_false]; exact ih

theorem Tab.getL_putL_other {α : Type} (k j : Nat) (v : α) (l : List (Nat × α)) (h : j ≠ k) :
    Tab.getL j (Tab.putL k v l) = Tab.getL j l := by
  induction l with
  | nil => simp [Tab.putL, Tab.getL, h.symm]
  | cons e t ih =>
    obtain ⟨i, w⟩ := e
    simp only [Tab.putL]
    split
    · simp [Tab.getL, h.symm]
    · split
      · next hi => subst hi; simp [Tab.getL, h.symm]
      · simp only [Tab.getL]; split <;> simp_all

@[simp] theorem Tab.get?_put_same {α : Type} (t : Tab α) (k : Nat) (v : α) : (t.put k v).get? k = some v :=
  Tab.getL_putL_same k v t.entries

theorem Tab.get?_put_other {α : Type} (t : Tab α) (k j : Nat) (v : α) (h : j ≠ k) : (t.put k v).get? j = t.get? j :=
  Tab.getL_putL_other k j v t.entries h

@[simp] theorem Tab.getD_put_same {α : Type} (t : Tab α) (k : Nat) (v d : α) : (t.put k v).getD k d = v := by
  simp [Tab.getD]

theorem Tab.getD_put_other {α : Type} (t : Tab α) (k j : Nat) (v d : α) (h : j ≠ k) : (t.put k v).getD j d = t.getD j d := by
  simp [Tab.getD, Tab.get?_put_other t k j v h]

theorem Tab.getL_filter_ne {α : Type} (k j : Nat) (l : List (Nat × α)) :
    Tab.getL j (l.filter (fun e => e.1 != k)) = if j = k then none else Tab.getL j l := by
  induction l with
  | nil => simp [Tab.getL]
  | cons e t ih =>
    obtain ⟨i, w⟩ := e
    by_cases hi : i = k
    · subst hi
      simp only [bne_self_eq_false, List.filter_cons, Bool.false_eq_true, if_false, ih, Tab.getL]
      by_cases hj : j = i
      · simp [hj]
      · simp [hj, Ne.symm hj]
    · have : (i != k) = true := by simp [hi]
      simp only [List.filter_cons, this, if_true, Tab.getL, ih]
      split <;> simp_all

@[simp] theorem Tab.get?_del_same {α : Type} (t : Tab α) (k : Nat) : (t.del k).get? k = none := by
  simp [Tab.get?, Tab.del, Tab.getL_filter_ne]

theorem Tab.get?_del_other {α : Type} (t : Tab α) (k j : Nat) (h : j ≠ k) : (t.del k).get? j = t.get? j := by
  simp [Tab.get?, Tab.del, Tab.getL_filter_ne, h]

@[simp] theorem Tab.get?_empty {α : Type} (k : Nat) : (Tab.empty : Tab α).get? k = none := rfl

theorem Tab.get?_modify_same {α : Type} (t : Tab α) (k : Nat) (f : α → α) : (t.modify k f).get? k = (t.get? k).map f := by
  unfold Tab.modify; split <;> simp_all

theorem Tab.get?_modify_other {α : Type} (t : Tab α) (k j : Nat) (f : α → α) (h : j ≠ k) : (t.modify k f).get? j = t.get? j := by
  unfold Tab.modify; split
  · exact Tab.get?_put_other _ _ _ _ h
  · rfl

/-! ### Byte memories -/

theorem Mem.readL_insertL (a b : Nat) (v : Byte) (l : List Host.Cell) :
    Mem.readL b (Mem.insertL a v l) = if b = a then v else Mem.readL b l := by
  induction l with
  | nil => simp only [Mem.insertL, Mem.readL]; by_cases h : a = b <;> simp [h, eq_comm]
  | cons c t ih =>
    obtain ⟨i, w⟩ := c
    simp only [Mem.insertL]
    split
    · simp only [Mem.readL]; by_cases h : a = b <;> simp [h, eq_comm]
    · split
      · next _ hi =>
        subst hi
        simp only [Mem.readL]
        by_cases h : i = b
        · simp [h]
        · simp [h, Ne.symm h]
      · next _ hi =>
        simp only [Mem.readL, ih]
        by_cases h : i = b
        · subst h; simp [hi]
        · simp [h]

theorem Mem.wfFrom_cons (lo a : Nat) (v : Byte) (t : List Host.Cell) :
    Mem.wfFrom lo ((a, v) :: t) = true ↔ lo ≤ a ∧ v ≠ 0 ∧ Mem.wfFrom (a + 1) t = true := by
  simp [Mem.wfFrom, and_assoc]

theorem Mem.readL_of_lt (lo a : Nat) (l : List Host.Cell) (h : Mem.wfFrom lo l = true) (ha : a < lo) : Mem.readL a l = 0 := by
  induction l generalizing lo with
  | nil => rfl
  | cons c t ih =>
    obtain ⟨i, w⟩ := c
    rw [Mem.wfFrom_cons] at h
    have : i ≠ a := by omega
    simp only [Mem.readL, this, if_false]
    exact ih (i + 1) h.2.2 (by omega)

theorem Mem.readL_eraseL (a b : Nat) (lo : Nat) (l : List Host.Cell) (h : Mem.wfFrom lo l = true) :
    Mem.readL b (Mem.eraseL a l) = if b = a then 0 else Mem.readL b l := by
  induction l generalizing lo with
  | nil => simp [Mem.eraseL, Mem.readL]
  | cons c t ih =>
    obtain ⟨i, w⟩ := c
    rw [Mem.wfFrom_cons] at h
    simp only [Mem.eraseL]
    split
    · next hi =>
      subst hi
      by_cases hb : b = i
      · subst hb; simp [Mem.readL_of_lt (b + 1) b t h.2.2 (by omega)]
      · simp [Mem.readL, hb, Ne.symm hb]
    · next hi =>
      simp only [Mem.readL, ih (i + 1) h.2.2]
      by_cases hb : i = b
      · subst hb; simp [hi]
      · simp [hb]

/-- A byte written is read back, and every other byte is as before. -/
theorem Mem.read_write (m : Mem) (a b : Nat) (v : Byte) (h : m.wf = true) : (m.write a v).read b = if b = a then v else m.read b := by
  unfold Mem.write Mem.read
  split
  · next hv => subst hv; exact Mem.readL_eraseL a b 0 m.cells h
  · exact Mem.readL_insertL a b v m.cells

theorem Mem.wfFrom_mono (lo lo' : Nat) (l : List Host.Cell) (h : Mem.wfFrom lo l = true) (hl : lo' ≤ lo) : Mem.wfFrom lo' l = true := by
  cases l with
  | nil => rfl
  | cons c t =>
    obtain ⟨i, w⟩ := c
    rw [Mem.wfFrom_cons] at h ⊢
    exact ⟨by omega, h.2⟩

theorem Mem.wfFrom_insertL (lo a : Nat) (v : Byte) (l : List Host.Cell) (h : Mem.wfFrom lo l = true) (hv : v ≠ 0) (ha : lo ≤ a) :
    Mem.wfFrom lo (Mem.insertL a v l) = true := by
  induction l generalizing lo with
  | nil => exact (Mem.wfFrom_cons _ _ _ _).2 ⟨ha, hv, rfl⟩
  | cons c t ih =>
    obtain ⟨i, w⟩ := c
    rw [Mem.wfFrom_cons] at h
    simp only [Mem.insertL]
    split
    · next hlt => exact (Mem.wfFrom_cons _ _ _ _).2 ⟨ha, hv, (Mem.wfFrom_cons _ _ _ _).2 ⟨hlt, h.2⟩⟩
    · split
      · next hi => subst hi; exact (Mem.wfFrom_cons _ _ _ _).2 ⟨ha, hv, h.2.2⟩
      · next hlt hi => exact (Mem.wfFrom_cons _ _ _ _).2 ⟨h.1, h.2.1, ih (i + 1) h.2.2 (by omega)⟩

theorem Mem.wfFrom_eraseL (lo a : Nat) (l : List Host.Cell) (h : Mem.wfFrom lo l = true) : Mem.wfFrom lo (Mem.eraseL a l) = true := by
  induction l generalizing lo with
  | nil => rfl
  | cons c t ih =>
    obtain ⟨i, w⟩ := c
    rw [Mem.wfFrom_cons] at h
    simp only [Mem.eraseL]
    split
    · exact Mem.wfFrom_mono _ _ _ h.2.2 (by omega)
    · exact (Mem.wfFrom_cons _ _ _ _).2 ⟨h.1, h.2.1, ih (i + 1) h.2.2⟩

/-- Writing a byte keeps the canonical form. -/
theorem Mem.wf_write (m : Mem) (a : Nat) (v : Byte) (h : m.wf = true) : (m.write a v).wf = true := by
  unfold Mem.write Mem.wf
  split
  · exact Mem.wfFrom_eraseL 0 a m.cells h
  · next hv => exact Mem.wfFrom_insertL 0 a v m.cells h hv (Nat.zero_le _)

/-- Writing a byte string keeps the canonical form. -/
theorem Mem.wf_writeN (m : Mem) (a : Nat) (bs : Bytes) (h : m.wf = true) : (m.writeN a bs).wf = true := by
  induction bs generalizing m a with
  | nil => exact h
  | cons b bs ih => exact ih _ _ (Mem.wf_write m a b h)

theorem Mem.wfFrom_filter (p : Host.Cell → Bool) (lo : Nat) (l : List Host.Cell) (h : Mem.wfFrom lo l = true) :
    Mem.wfFrom lo (l.filter p) = true := by
  induction l generalizing lo with
  | nil => rfl
  | cons c t ih =>
    obtain ⟨i, w⟩ := c
    rw [Mem.wfFrom_cons] at h
    by_cases hp : p (i, w) = true
    · rw [List.filter_cons_of_pos hp]
      exact (Mem.wfFrom_cons _ _ _ _).2 ⟨h.1, h.2.1, ih (i + 1) h.2.2⟩
    · rw [List.filter_cons_of_neg hp]
      exact Mem.wfFrom_mono _ _ _ (ih (i + 1) h.2.2) (by omega)

/-- Zeroing a range keeps the canonical form. -/
theorem Mem.wf_zero (m : Mem) (a n : Nat) (h : m.wf = true) : (m.zero a n).wf = true := Mem.wfFrom_filter _ 0 m.cells h

@[simp] theorem Mem.wf_empty : Mem.empty.wf = true := rfl

/-- Bytes outside a string written are as before. -/
theorem Mem.read_writeN_other (m : Mem) (a b : Nat) (bs : Bytes) (h : m.wf = true) (hb : b < a ∨ a + bs.length ≤ b) :
    (m.writeN a bs).read b = m.read b := by
  induction bs generalizing m a with
  | nil => rfl
  | cons v bs ih =>
    have hne : b ≠ a := by simp only [List.length_cons] at hb; omega
    rw [Mem.writeN, ih _ _ (Mem.wf_write m a v h) (by simp only [List.length_cons] at hb; omega), Mem.read_write m a b v h]
    simp [hne]

end Sys2Proof.Machine
end

