-- ==== Sys2Proof/Laws/Keeps.lean ====
section
/-! SUPPORT. What no operation of the model undoes. -/

namespace Sys2Proof.Machine

/-- The waiting commands, the fuses and the service NOR stay, time never runs back, and the MRAM stays canonical. -/
structure Keeps5 (s : State) (pending : List Instr) (fuses : Fuses) (now : Nat) (mram nor : Mem) : Prop where
  pending : pending = s.pending
  fuses : fuses = s.fuses
  now : s.now ≤ now
  nor : nor = s.nor
  mem : s.mram.wf = true → mram.wf = true

/-- `Keeps5` of a whole state. -/
structure Keeps (s t : State) : Prop where
  all : Keeps5 s t.pending t.fuses t.now t.mram t.nor

theorem Keeps.refl (s : State) : Keeps s s := ⟨rfl, rfl, Nat.le_refl _, rfl, id⟩

theorem Keeps.ite {s a b : State} {c : Prop} [Decidable c] (ha : c → Keeps s a) (hb : ¬c → Keeps s b) :
    Keeps s (if c then a else b) := by
  split
  · exact ha ‹_›
  · exact hb ‹_›

theorem Keeps.ite1 {β : Type} {s : State} {a b : State × β} {c : Prop} [Decidable c] (ha : c → Keeps s a.1) (hb : ¬c → Keeps s b.1) :
    Keeps s (if c then a else b).1 := by
  split
  · exact ha ‹_›
  · exact hb ‹_›

theorem Keeps5.mram {s : State} {p f n m o m'} (hm : m.wf = true → m'.wf = true) (h : Keeps5 s p f n m o) :
    Keeps5 s p f n m' o := ⟨h.pending, h.fuses, h.now, h.nor, fun w => hm (h.mem w)⟩

theorem Keeps.upd {s t : State} {frac toff regs shelf rst pwr clk thm spc cmd cfg beds drv rill cph gus mnt net slu rack ept pmu out free} (h : Keeps s t) :
    Keeps s ⟨t.now, frac, toff, t.fuses, regs, shelf, rst, pwr, clk, thm, spc, cmd, cfg, beds, drv, rill, cph, gus, mnt, net, slu, rack, ept, pmu, t.mram, t.nor, out, free, t.pending⟩ := ⟨h.all⟩

theorem Keeps.updMram {s t : State} {frac toff regs shelf rst pwr clk thm spc cmd cfg beds drv rill cph gus mnt net slu rack ept pmu out free m} (hm : t.mram.wf = true → m.wf = true) (h : Keeps s t) :
    Keeps s ⟨t.now, frac, toff, t.fuses, regs, shelf, rst, pwr, clk, thm, spc, cmd, cfg, beds, drv, rill, cph, gus, mnt, net, slu, rack, ept, pmu, m, t.nor, out, free, t.pending⟩ := ⟨h.all.mram hm⟩

theorem Keeps.getD {s d : State} {o : Option State} (ho : ∀ r, o = some r → Keeps s r) (hd : Keeps s d) : Keeps s (o.getD d) := by
  cases o with
  | none => exact hd
  | some r => exact ho r rfl

theorem Keeps.foldl {α : Type} {s : State} (f : State → α → State) (hf : ∀ x a, Keeps s x → Keeps s (f x a)) (l : List α)
    {x : State} (h : Keeps s x) : Keeps s (l.foldl f x) := by
  induction l generalizing x with
  | nil => exact h
  | cons a l ih => exact ih (hf x a h)

theorem Keeps.foldl1 {α β : Type} {s : State} (f : State × β → α → State × β) (hf : ∀ x a, Keeps s x.1 → Keeps s (f x a).1)
    (l : List α) {x : State × β} (h : Keeps s x.1) : Keeps s (l.foldl f x).1 := by
  induction l generalizing x with
  | nil => exact h
  | cons a l ih => exact ih (hf x a h)

theorem Keeps.foldlO {α : Type} {s : State} (f : Option State → α → Option State)
    (hf : ∀ x a, (∀ t, x = some t → Keeps s t) → ∀ t, f x a = some t → Keeps s t)
    (l : List α) {x : Option State} (h : ∀ t, x = some t → Keeps s t) : ∀ t, l.foldl f x = some t → Keeps s t := by
  induction l generalizing x with
  | nil => exact h
  | cons a l ih => exact ih (hf x a h)

theorem Keeps.foldlO1 {α β : Type} {s : State} (f : Option (State × β) → α → Option (State × β))
    (hf : ∀ x a, (∀ t b, x = some (t, b) → Keeps s t) → ∀ t b, f x a = some (t, b) → Keeps s t)
    (l : List α) {x : Option (State × β)} (h : ∀ t b, x = some (t, b) → Keeps s t) :
    ∀ t b, l.foldl f x = some (t, b) → Keeps s t := by
  induction l generalizing x with
  | nil => exact h
  | cons a l ih => exact ih (hf x a h)

/-- What a command answers keeps. -/
def KeepsO (s : State) (o : Outcome) : Prop := ∀ t, o = .next t → Keeps s t

theorem KeepsO.next {s t : State} (h : Keeps s t) : KeepsO s (.next t) := fun _ e => by injection e with e; exact e ▸ h

theorem KeepsO.ite {s : State} {a b : Outcome} {c : Prop} [Decidable c] (ha : c → KeepsO s a) (hb : ¬c → KeepsO s b) :
    KeepsO s (if c then a else b) := by
  split
  · exact ha ‹_›
  · exact hb ‹_›

/-- What the taking of a command answers keeps. -/
def KeepsT (s : State) : Taken → Prop
  | .stop t => Keeps s t
  | .go t _ _ _ => Keeps s t

theorem KeepsT.stop {s t : State} (h : Keeps s t) : KeepsT s (.stop t) := h

theorem KeepsT.go {s t : State} {a b n} (h : Keeps s t) : KeepsT s (.go t a b n) := h

theorem KeepsT.ite {s : State} {a b : Taken} {c : Prop} [Decidable c] (ha : c → KeepsT s a) (hb : ¬c → KeepsT s b) :
    KeepsT s (if c then a else b) := by
  split
  · exact ha ‹_›
  · exact hb ‹_›

def KeepsA (s : State) : AdminTaken → Prop
  | .stop t => Keeps s t
  | .go t _ _ => Keeps s t

theorem KeepsA.stop {s t : State} (h : Keeps s t) : KeepsA s (.stop t) := h

theorem KeepsA.go {s t : State} {a b} (h : Keeps s t) : KeepsA s (.go t a b) := h

theorem KeepsA.ite {s : State} {a b : AdminTaken} {c : Prop} [Decidable c] (ha : c → KeepsA s a) (hb : ¬c → KeepsA s b) :
    KeepsA s (if c then a else b) := by
  split
  · exact ha ‹_›
  · exact hb ‹_›

end Sys2Proof.Machine
end

