-- ==== Sys2Proof/Laws/KeepsShared.lean ====
section
/-! SUPPORT. `Keeps` for the shared operations: registers, events, power, arbiter, accelerators, network, transport and command units, one lemma an operation. -/

namespace Sys2Proof.Machine

/-! ### Flags.lean -/

theorem State.setReg_keeps {s0 : State} (s : State) (addr : Nat) (w : Word) (h0 : Keeps s0 s) : Keeps s0 (State.setReg s addr
    w) := by
  unfold State.setReg
  with_reducible repeat' first | assumption | apply Keeps.upd

theorem State.setFld_keeps {s0 : State} (s : State) (f : Fld) (v : Nat) (h0 : Keeps s0 s) : Keeps s0 (State.setFld s f v) := by
  unfold State.setFld
  with_reducible repeat' first | assumption | apply State.setReg_keeps

theorem State.bump_keeps {s0 : State} (s : State) (f : Fld) (n : Nat) (h0 : Keeps s0 s) : Keeps s0 (State.bump s f n) := by
  unfold State.bump
  with_reducible repeat' first | assumption | apply State.setFld_keeps

theorem State.applyRwl_keeps {s0 : State} (s : State) (addr : Nat) (h0 : Keeps s0 s) : Keeps s0 (State.applyRwl s addr) := by
  unfold State.applyRwl
  with_reducible repeat' first | assumption | apply State.setReg_keeps | split

theorem State.applyFld_keeps {s0 : State} (s : State) (f : Fld) (h0 : Keeps s0 s) : Keeps s0 (State.applyFld s f) := by
  unfold State.applyFld
  with_reducible repeat' first | assumption | apply State.setFld_keeps | split

theorem State.applyRwls_keeps {s0 : State} (s : State) (addrs : List Nat) (h0 : Keeps s0 s) : Keeps s0 (State.applyRwls s
    addrs) := by
  unfold State.applyRwls
  with_reducible repeat' first | assumption | apply State.applyRwl_keeps | (apply Keeps.foldl; intro _ _ _)

theorem State.applyRwb_keeps {s0 : State} (s : State) (h0 : Keeps s0 s) : Keeps s0 (State.applyRwb s) := by
  unfold State.applyRwb
  with_reducible repeat' first | assumption | apply State.setReg_keeps | (apply Keeps.foldl; intro _ _ _) | split

theorem State.cfgErr_keeps {s0 : State} (s : State) (reason addr : Nat) (h0 : Keeps s0 s) : Keeps s0 (State.cfgErr s reason
    addr) := by
  unfold State.cfgErr
  with_reducible repeat' first | assumption | apply State.setFld_keeps | refine Keeps.ite (fun _ => ?_) (fun _ => ?_)

/-! ### Pmu.lean -/

theorem State.setPba_keeps {s0 : State} (s : State) (fn v : Nat) (on : Bool) (h0 : Keeps s0 s) : Keeps s0 (State.setPba s fn v
    on) := by
  unfold State.setPba
  with_reducible repeat' first | assumption | refine Keeps.ite (fun _ => ?_) (fun _ => ?_) | apply Keeps.upd

theorem State.msix_keeps {s0 : State} (s : State) (fn v : Nat) (h0 : Keeps s0 s) : Keeps s0 (State.msix s fn v) := by
  unfold State.msix
  with_reducible repeat' first
    | assumption | apply State.setPba_keeps | refine Keeps.ite (fun _ => ?_) (fun _ => ?_) | apply Keeps.upd

theorem State.msixFlush_keeps {s0 : State} (s : State) (fn : Nat) (h0 : Keeps s0 s) : Keeps s0 (State.msixFlush s fn) := by
  unfold State.msixFlush
  with_reducible repeat' first
    | assumption | apply State.setPba_keeps | apply State.msix_keeps | (apply Keeps.foldl; intro _ _ _)
    | refine Keeps.ite (fun _ => ?_) (fun _ => ?_)

theorem State.pmuOvf_keeps {s0 : State} (s : State) (n : Nat) (h0 : Keeps s0 s) : Keeps s0 (State.pmuOvf s n) := by
  unfold State.pmuOvf
  with_reducible repeat' first
    | assumption | apply State.msix_keeps | refine Keeps.ite (fun _ => ?_) (fun _ => ?_) | apply Keeps.upd

theorem State.ctrAdd_keeps {s0 : State} (s : State) (n k : Nat) (h0 : Keeps s0 s) : Keeps s0 (State.ctrAdd s n k).1 := by
  unfold State.ctrAdd
  with_reducible repeat' first | assumption | apply Keeps.upd

theorem State.ctrAdd_keepsE {s0 : State} {s : State} {n k : Nat} {t0} {q0} (e : State.ctrAdd s n k = (t0, q0)) (h0 : Keeps s0
    s) : Keeps s0 t0 := by
  have := State.ctrAdd_keeps (s0 := s0) s n k  h0
  rw [e] at this; exact this

theorem State.pmuAdd_keeps {s0 : State} (s : State) (n k : Nat) (h0 : Keeps s0 s) : Keeps s0 (State.pmuAdd s n k) := by
  unfold State.pmuAdd
  with_reducible repeat' first
    | assumption | apply State.pmuOvf_keeps | apply State.ctrAdd_keeps | refine Keeps.ite (fun _ => ?_) (fun _ => ?_)

theorem State.pmuEvent_keeps {s0 : State} (s : State) (code inst k : Nat) (h0 : Keeps s0 s) : Keeps s0 (State.pmuEvent s code
    inst k) := by
  unfold State.pmuEvent
  with_reducible repeat' first
    | assumption | apply State.pmuAdd_keeps | (apply Keeps.foldl; intro _ _ _) | refine Keeps.ite (fun _ => ?_) (fun _ => ?_)

theorem State.pmuCycles_keeps {s0 : State} (s : State) (k : Nat) (h0 : Keeps s0 s) : Keeps s0 (State.pmuCycles s k) := by
  unfold State.pmuCycles
  with_reducible repeat' first
    | assumption | apply State.pmuAdd_keeps | (apply Keeps.foldl; intro _ _ _) | refine Keeps.ite (fun _ => ?_) (fun _ => ?_)
    | apply Keeps.upd

theorem State.binAdd_keeps {s0 : State} (s : State) (h b : Nat) (h0 : Keeps s0 s) : Keeps s0 (State.binAdd s h b) := by
  unfold State.binAdd
  with_reducible repeat' first | assumption | apply Keeps.upd

theorem State.histAdd_keeps {s0 : State} (s : State) (src inst v : Nat) (keep : Nat → Bool) (h0 : Keeps s0 s) : Keeps s0
    (State.histAdd s src inst v keep) := by
  unfold State.histAdd
  with_reducible repeat' first
    | assumption | apply State.binAdd_keeps | (apply Keeps.foldl; intro _ _ _) | refine Keeps.ite (fun _ => ?_) (fun _ => ?_)

theorem State.pmuClearAll_keeps {s0 : State} (s : State) (h0 : Keeps s0 s) : Keeps s0 (State.pmuClearAll s) := by
  unfold State.pmuClearAll
  with_reducible repeat' first | assumption | apply Keeps.upd

theorem State.pmuReset_keeps {s0 : State} (s : State) (h0 : Keeps s0 s) : Keeps s0 (State.pmuReset s) := by
  unfold State.pmuReset
  with_reducible repeat' first | assumption | apply Keeps.upd

theorem State.pmuSnap_keeps {s0 : State} (s : State) (h0 : Keeps s0 s) : Keeps s0 (State.pmuSnap s) := by
  unfold State.pmuSnap
  with_reducible repeat' first | assumption | apply Keeps.upd

/-! ### Ops.lean -/

theorem State.emit_keeps {s0 : State} (s : State) (o : Out) (h0 : Keeps s0 s) : Keeps s0 (State.emit s o) := by
  unfold State.emit
  with_reducible repeat' first | assumption | apply Keeps.upd

theorem State.at_keeps {s0 : State} (s : State) (t : Nat) (h0 : Keeps s0 s) : Keeps s0 (State.at s t) := by
  have hk := State.pmuCycles_keeps s (t - s.now) h0
  exact ⟨⟨hk.all.pending, hk.all.fuses, Nat.le_trans h0.all.now (Nat.le_max_left _ _), hk.all.nor, hk.all.mem⟩⟩

theorem State.drawn_keeps {s0 : State} (s : State) (h0 : Keeps s0 s) : Keeps s0 (State.drawn s) := by
  unfold State.drawn
  with_reducible repeat' first | assumption | apply Keeps.upd

theorem State.waitFrame_keeps {s0 : State} (s : State) (c : Instr) (h0 : Keeps s0 s) : Keeps s0 (State.waitFrame s c) := by
  unfold State.waitFrame
  with_reducible repeat' first | assumption | refine Keeps.ite (fun _ => ?_) (fun _ => ?_) | apply Keeps.upd

theorem State.waitFrameAt_keeps {s0 : State} (s : State) (n : Nat) (c : Instr) (h0 : Keeps s0 s) : Keeps s0 (State.waitFrameAt
    s n c) := by
  unfold State.waitFrameAt
  with_reducible repeat' first
    | assumption | apply State.bump_keeps | apply State.waitFrame_keeps | refine Keeps.ite (fun _ => ?_) (fun _ => ?_)

theorem State.waitCores_keeps {s0 : State} (s : State) (c : Instr) (h0 : Keeps s0 s) : Keeps s0 (State.waitCores s c) := by
  unfold State.waitCores
  with_reducible repeat' first | assumption | apply Keeps.upd

theorem State.tick100MHz_keeps {s0 : State} (s : State) (h0 : Keeps s0 s) : Keeps s0 (State.tick100MHz s) := by
  have hk := State.pmuCycles_keeps s 10 h0
  exact ⟨⟨hk.all.pending, hk.all.fuses, Nat.le_trans h0.all.now (Nat.le_add_right _ _), hk.all.nor, hk.all.mem⟩⟩

theorem startDomainsF_keeps {s0 : State} (n : Nat) (s : State) (h0 : Keeps s0 s) : Keeps s0 (startDomainsF n s) := by
  induction n generalizing s  with
  | zero => unfold startDomainsF; exact h0
  | succ n ih =>
    unfold startDomainsF
    try dsimp only
    repeat' (first
      | with_reducible assumption
      | with_reducible exact Keeps.refl _
      | with_reducible apply ih
      | (with_reducible apply Keeps.foldl; intro _ _ _)
      | (with_reducible apply Keeps.foldl1; intro _ _ _)
      | with_reducible refine Keeps.ite (fun _ => ?_) (fun _ => ?_)
      | with_reducible refine Keeps.ite1 (fun _ => ?_) (fun _ => ?_)
      | with_reducible apply Keeps.getD
      | split
      | with_reducible intro _
      | (with_reducible injection ‹some _ = some _› with h; subst h)
      | (with_reducible injection ‹(_, _) = (_, _)› with h; subst h)
      | (with_reducible cases ‹none = some _›)
      | with_reducible apply Keeps.upd
      | dsimp only)

theorem State.startDomains_keeps {s0 : State} (s : State) (h0 : Keeps s0 s) : Keeps s0 (State.startDomains s) := by
  unfold State.startDomains
  with_reducible repeat' first | assumption | apply startDomainsF_keeps

theorem State.domRequestOn_keeps {s0 : State} (s : State) (d : Nat) (h0 : Keeps s0 s) : Keeps s0 (State.domRequestOn s d) := by
  unfold State.domRequestOn
  with_reducible repeat' first
    | assumption | apply State.startDomains_keeps | refine Keeps.ite (fun _ => ?_) (fun _ => ?_) | apply Keeps.upd

theorem State.domOff_keeps {s0 : State} (s : State) (d : Nat) (h0 : Keeps s0 s) : Keeps s0 (State.domOff s d) := by
  unfold State.domOff
  with_reducible repeat' first | assumption | apply Keeps.upd

theorem State.domDrain_keeps {s0 : State} (s : State) (d : Nat) (h0 : Keeps s0 s) : Keeps s0 (State.domDrain s d) := by
  unfold State.domDrain
  with_reducible repeat' first | assumption | apply Keeps.upd

theorem State.bbxWriteHeader_keeps {s0 : State} (s : State) (h0 : Keeps s0 s) : Keeps s0 (State.bbxWriteHeader s) := by
  unfold State.bbxWriteHeader
  generalize bbxHeader _ _ _ = x
  exact Keeps.updMram (Mem.wf_writeN _ _ _) h0

theorem State.bbxCommit_keeps {s0 : State} (s : State) (r : BbRec) (h0 : Keeps s0 s) : Keeps s0 (State.bbxCommit s r) := by
  unfold State.bbxCommit
  apply State.bbxWriteHeader_keeps
  generalize bbxBytes _ _ = x
  exact Keeps.updMram (Mem.wf_writeN _ _ _) h0

theorem State.bbxPut_keeps {s0 : State} (s : State) (r : BbRec) (h0 : Keeps s0 s) : Keeps s0 (State.bbxPut s r) := by
  unfold State.bbxPut
  with_reducible repeat' first
    | assumption | apply State.bump_keeps | apply State.bbxCommit_keeps | refine Keeps.ite (fun _ => ?_) (fun _ => ?_)
    | apply Keeps.upd

theorem State.bbxDrain_keeps {s0 : State} (s : State) (h0 : Keeps s0 s) : Keeps s0 (State.bbxDrain s) := by
  unfold State.bbxDrain
  with_reducible repeat' first | assumption | apply State.bbxCommit_keeps | (apply Keeps.foldl; intro _ _ _) | apply Keeps.upd

theorem State.setDirty_keeps {s0 : State} (s : State) (b k : Nat) (v : Bool) (h0 : Keeps s0 s) : Keeps s0 (State.setDirty s b k
    v) := by
  unfold State.setDirty
  with_reducible repeat' first | assumption | refine Keeps.updMram (Mem.wf_write _ _ _) ?_

theorem State.svcSend_keeps {s0 : State} (s : State) (key : Option Bytes) (r : SvcResp) (h0 : Keeps s0 s) : Keeps s0
    (State.svcSend s key r) := by
  unfold State.svcSend
  with_reducible repeat' first | assumption | apply State.emit_keeps

theorem State.svcEmit_keeps {s0 : State} (s : State) (r : SvcResp) (h0 : Keeps s0 s) : Keeps s0 (State.svcEmit s r) := by
  unfold State.svcEmit
  with_reducible repeat' first | assumption | apply State.svcSend_keeps

theorem State.respondTo_keeps {s0 : State} (s : State) (r : SvcResp) (h0 : Keeps s0 s) : Keeps s0 (State.respondTo s r) := by
  unfold State.respondTo
  with_reducible repeat' first | assumption | apply State.svcEmit_keeps | apply Keeps.upd

theorem State.setBed_keeps {s0 : State} (s : State) (b : Nat) (x : Bed) (h0 : Keeps s0 s) : Keeps s0 (State.setBed s b x) := by
  unfold State.setBed
  with_reducible repeat' first | assumption | apply Keeps.upd

theorem State.modBed_keeps {s0 : State} (s : State) (b : Nat) (f : Bed → Bed) (h0 : Keeps s0 s) : Keeps s0 (State.modBed s b f)
    := by
  unfold State.modBed
  with_reducible repeat' first | assumption | apply Keeps.upd

theorem State.setPort_keeps {s0 : State} (s : State) (slot : Nat) (p : DrvPort) (h0 : Keeps s0 s) : Keeps s0 (State.setPort s
    slot p) := by
  unfold State.setPort
  with_reducible repeat' first | assumption | apply Keeps.upd

theorem State.mod_keeps {s0 : State} (s : State) (arr : Nat) (f : CmdRec → CmdRec) (h0 : Keeps s0 s) : Keeps s0 (State.mod s
    arr f) := by
  unfold State.mod
  with_reducible repeat' first | assumption | apply Keeps.upd

theorem State.ledSync_keeps {s0 : State} (s : State) (h0 : Keeps s0 s) : Keeps s0 (State.ledSync s) := by
  unfold State.ledSync
  with_reducible repeat' first
    | assumption | apply State.emit_keeps | (apply Keeps.foldl; intro _ _ _) | refine Keeps.ite (fun _ => ?_) (fun _ => ?_)
    | apply Keeps.upd

/-! ### Arbiter.lean -/

theorem State.noteVerdict_keeps {s0 : State} (s : State) (v code running : Nat) (bed : Option Nat) (h0 : Keeps s0 s) : Keeps s0
    (State.noteVerdict s v code running bed) := by
  unfold State.noteVerdict
  with_reducible repeat' first | assumption | apply State.setFld_keeps

theorem State.pauseTest_keeps {s0 : State} (s : State) (h0 : Keeps s0 s) : Keeps s0 (State.pauseTest s) := by
  unfold State.pauseTest
  with_reducible repeat' first | assumption | apply Keeps.upd

theorem State.resumeTest_keeps {s0 : State} (s : State) (h0 : Keeps s0 s) : Keeps s0 (State.resumeTest s) := by
  unfold State.resumeTest
  with_reducible repeat' first | assumption | apply Keeps.upd

theorem State.setActs_keeps {s0 : State} (s : State) (l : List Activity) (h0 : Keeps s0 s) : Keeps s0 (State.setActs s l) := by
  unfold State.setActs
  with_reducible repeat' first | assumption | apply Keeps.upd

theorem State.pauseTests_keeps {s0 : State} (s : State) (code : Nat) (bed : Option Nat) (arg : Nat) (h0 : Keeps s0 s) : Keeps
    s0 (State.pauseTests s code bed arg) := by
  unfold State.pauseTests
  with_reducible repeat' first
    | assumption | apply State.pauseTest_keeps | apply State.setActs_keeps | refine Keeps.ite (fun _ => ?_) (fun _ => ?_)

theorem State.wantPause_keeps {s0 : State} (s : State) (h0 : Keeps s0 s) : Keeps s0 (State.wantPause s) := by
  unfold State.wantPause
  with_reducible repeat' first | assumption | apply State.setActs_keeps | apply Keeps.upd

theorem State.arrivalOf_keeps {s0 : State} (s : State) (code : Nat) (bed : Option Nat) (arg : Nat) (forced : Bool) (session :
    Option (Nat × Nat)) (h0 : Keeps s0 s) : Keeps s0 (State.arrivalOf s code bed arg forced session).1 := by
  unfold State.arrivalOf
  with_reducible repeat' first
    | assumption | apply State.noteVerdict_keeps | apply State.setActs_keeps | apply State.pauseTests_keeps
    | apply State.wantPause_keeps | split | apply Keeps.upd

theorem State.arrivalOf_keepsE {s0 : State} {s : State} {code : Nat} {bed : Option Nat} {arg : Nat} {forced : Bool} {session :
    Option (Nat × Nat)} {t0} {q0} (e : State.arrivalOf s code bed arg forced session = (t0, q0)) (h0 : Keeps s0 s) : Keeps s0
    t0 := by
  have := State.arrivalOf_keeps (s0 := s0) s code bed arg forced session  h0
  rw [e] at this; exact this

theorem State.deferAct_keeps {s0 : State} (s : State) (code : Nat) (bed : Option Nat) (arg : Nat) (h0 : Keeps s0 s) : Keeps s0
    (State.deferAct s code bed arg) := by
  unfold State.deferAct
  with_reducible repeat' first | assumption | apply State.setActs_keeps | apply Keeps.upd

theorem State.resumeTests_keeps {s0 : State} (s : State) (h0 : Keeps s0 s) : Keeps s0 (State.resumeTests s) := by
  unfold State.resumeTests
  with_reducible repeat' first
    | assumption | apply State.resumeTest_keeps | apply State.setActs_keeps | refine Keeps.ite (fun _ => ?_) (fun _ => ?_)

theorem State.actEnd_keeps {s0 : State} (s : State) (code : Nat) (bed : Option Nat) (arg : Nat) (h0 : Keeps s0 s) : Keeps s0
    (State.actEnd s code bed arg) := by
  unfold State.actEnd
  with_reducible repeat' first | assumption | apply State.setActs_keeps | apply State.resumeTests_keeps

theorem State.actEndAny_keeps {s0 : State} (s : State) (code : Nat) (bed : Option Nat) (h0 : Keeps s0 s) : Keeps s0
    (State.actEndAny s code bed) := by
  unfold State.actEndAny
  with_reducible repeat' first | assumption | apply State.setActs_keeps | apply State.resumeTests_keeps

theorem State.unpause_keeps {s0 : State} (s : State) (h0 : Keeps s0 s) : Keeps s0 (State.unpause s) := by
  unfold State.unpause
  with_reducible repeat' first | assumption | apply State.setActs_keeps | apply Keeps.upd

theorem State.actRestarted_keeps {s0 : State} (s : State) (h0 : Keeps s0 s) : Keeps s0 (State.actRestarted s) := by
  unfold State.actRestarted
  with_reducible repeat' first
    | assumption | apply State.setFld_keeps | apply State.actEndAny_keeps | apply State.unpause_keeps | split | apply Keeps.upd

theorem State.actAbandoned_keeps {s0 : State} (s : State) (h0 : Keeps s0 s) : Keeps s0 (State.actAbandoned s) := by
  unfold State.actAbandoned
  with_reducible repeat' first
    | assumption | apply State.setFld_keeps | apply State.actEndAny_keeps | apply State.unpause_keeps
    | refine Keeps.ite (fun _ => ?_) (fun _ => ?_) | apply Keeps.upd

/-! ### RillUnit.lean -/

theorem State.rillError_keeps {s0 : State} (s : State) (status core opcode ctx : Nat) (h0 : Keeps s0 s) : Keeps s0
    (State.rillError s status core opcode ctx) := by
  unfold State.rillError
  with_reducible repeat' first
    | assumption | apply State.setFld_keeps | apply State.bump_keeps | refine Keeps.ite (fun _ => ?_) (fun _ => ?_)

theorem State.rillAnswer_keeps {s0 : State} (s : State) (svc : Option (Nat × Nat)) (record output : Bytes) (h0 : Keeps s0 s) :
    Keeps s0 (State.rillAnswer s svc record output) := by
  unfold State.rillAnswer
  with_reducible repeat' first | assumption | apply State.emit_keeps | apply State.respondTo_keeps | split | apply Keeps.upd

theorem rillDispatchF_keeps {s0 : State} (n : Nat) (s : State) (h0 : Keeps s0 s) : Keeps s0 (rillDispatchF n s) := by
  induction n generalizing s  with
  | zero => unfold rillDispatchF; exact h0
  | succ n ih =>
    unfold rillDispatchF
    try dsimp only
    repeat' (first
      | with_reducible assumption
      | with_reducible exact Keeps.refl _
      | with_reducible apply ih
      | (with_reducible apply Keeps.foldl; intro _ _ _)
      | (with_reducible apply Keeps.foldl1; intro _ _ _)
      | with_reducible refine Keeps.ite (fun _ => ?_) (fun _ => ?_)
      | with_reducible refine Keeps.ite1 (fun _ => ?_) (fun _ => ?_)
      | with_reducible apply Keeps.getD
      | split
      | with_reducible intro _
      | (with_reducible injection ‹some _ = some _› with h; subst h)
      | (with_reducible injection ‹(_, _) = (_, _)› with h; subst h)
      | (with_reducible cases ‹none = some _›)
      | with_reducible apply Keeps.upd
      | dsimp only)

theorem State.rillDispatch_keeps {s0 : State} (s : State) (h0 : Keeps s0 s) : Keeps s0 (State.rillDispatch s) := by
  unfold State.rillDispatch
  with_reducible repeat' first
    | assumption | apply State.applyRwl_keeps | apply State.actRestarted_keeps | apply rillDispatchF_keeps
    | refine Keeps.ite (fun _ => ?_) (fun _ => ?_) | apply Keeps.upd

theorem State.rillReady_keeps {s0 : State} (s : State) (core : Nat) (h0 : Keeps s0 s) : Keeps s0 (State.rillReady s core) := by
  unfold State.rillReady
  with_reducible repeat' first | assumption | apply State.at_keeps | apply State.rillDispatch_keeps | split

theorem State.rillIdle_keeps {s0 : State} (s : State) (c : Nat) (h0 : Keeps s0 s) : Keeps s0 (State.rillIdle s c) := by
  unfold State.rillIdle
  with_reducible repeat' first | assumption | refine Keeps.ite (fun _ => ?_) (fun _ => ?_) | apply Keeps.upd

theorem State.rillLoseCore_keeps {s0 : State} (s : State) (c : Nat) (h0 : Keeps s0 s) : Keeps s0 (State.rillLoseCore s c) := by
  unfold State.rillLoseCore
  with_reducible repeat' first
    | assumption | apply State.bump_keeps | apply State.rillDispatch_keeps | apply State.rillIdle_keeps | split
    | apply Keeps.upd

/-! ### CipherUnit.lean -/

theorem State.writeCopies_keeps {s0 : State} (s : State) (k : KeyStore) (h0 : Keeps s0 s) : Keeps s0 (State.writeCopies s k) := by
  unfold State.writeCopies
  with_reducible repeat' first | assumption | apply State.emit_keeps | apply Keeps.upd

theorem State.putStore_keeps {s0 : State} (s : State) (k : KeyStore) (h0 : Keeps s0 s) : Keeps s0 (State.putStore s k) := by
  unfold State.putStore
  with_reducible repeat' first | assumption | apply State.writeCopies_keeps

theorem cphReleaseQ_keeps {s0 : State} (n : Nat) (x : Nat) (s : State) (h0 : Keeps s0 s) : Keeps s0 (cphReleaseQ n x s) := by
  induction n generalizing s x with
  | zero => unfold cphReleaseQ; exact h0
  | succ n ih =>
    unfold cphReleaseQ
    try dsimp only
    repeat' (first
      | with_reducible assumption
      | with_reducible exact Keeps.refl _
      | with_reducible apply ih
      | with_reducible apply State.emit_keeps
      | (with_reducible apply Keeps.foldl; intro _ _ _)
      | (with_reducible apply Keeps.foldl1; intro _ _ _)
      | with_reducible refine Keeps.ite (fun _ => ?_) (fun _ => ?_)
      | with_reducible refine Keeps.ite1 (fun _ => ?_) (fun _ => ?_)
      | with_reducible apply Keeps.getD
      | split
      | with_reducible intro _
      | (with_reducible injection ‹some _ = some _› with h; subst h)
      | (with_reducible injection ‹(_, _) = (_, _)› with h; subst h)
      | (with_reducible cases ‹none = some _›)
      | with_reducible apply Keeps.upd
      | dsimp only)

theorem State.cphRelease_keeps {s0 : State} (s : State) (q : Nat) (h0 : Keeps s0 s) : Keeps s0 (State.cphRelease s q) := by
  unfold State.cphRelease
  with_reducible repeat' first | assumption | apply cphReleaseQ_keeps

theorem State.cphJob_keeps {s0 : State} (s : State) (id : Nat) (f : CphJob → CphJob) (h0 : Keeps s0 s) : Keeps s0 (State.cphJob
    s id f) := by
  unfold State.cphJob
  with_reducible repeat' first | assumption | apply Keeps.upd

theorem State.cacheKey_keeps {s0 : State} {s : State} {k : Nat × Nat × Nat} {r} (e : State.cacheKey s k = some r) (h0 : Keeps
    s0 s) : Keeps s0 r := by
  unfold State.cacheKey at e
  try dsimp only at e
  repeat' (split at e)
  repeat' (first
    | with_reducible assumption
    | with_reducible exact Keeps.refl _
    | (with_reducible apply Keeps.foldl; intro _ _ _)
    | (with_reducible apply Keeps.foldl1; intro _ _ _)
    | with_reducible refine Keeps.ite (fun _ => ?_) (fun _ => ?_)
    | with_reducible refine Keeps.ite1 (fun _ => ?_) (fun _ => ?_)
    | with_reducible apply Keeps.getD
    | split at e
    | split
    | with_reducible intro _
    | (with_reducible injection ‹some _ = some _› with h; subst h)
    | (with_reducible injection ‹(_, _) = (_, _)› with h; subst h)
    | (with_reducible cases ‹none = some _›)
    | with_reducible apply Keeps.upd
    | dsimp only)

theorem State.pruneKeys_keeps {s0 : State} (s : State) (h0 : Keeps s0 s) : Keeps s0 (State.pruneKeys s) := by
  unfold State.pruneKeys
  with_reducible repeat' first | assumption | apply Keeps.upd

theorem State.useKey_keeps {s0 : State} (s : State) (k : Nat × Nat × Nat) (h0 : Keeps s0 s) : Keeps s0 (State.useKey s k) := by
  unfold State.useKey
  with_reducible repeat' first
    | assumption | apply State.bump_keeps | apply State.pmuEvent_keeps | refine State.cacheKey_keeps (by assumption) ?_
    | refine Keeps.ite (fun _ => ?_) (fun _ => ?_) | apply Keeps.getD | intro _

theorem State.cphDerive_keeps {s0 : State} (s : State) (h0 : Keeps s0 s) : Keeps s0 (State.cphDerive s) := by
  unfold State.cphDerive
  with_reducible repeat' first | assumption | split | apply Keeps.upd

theorem cphDispatchF_keeps {s0 : State} (n : Nat) (s : State) (h0 : Keeps s0 s) : Keeps s0 (cphDispatchF n s) := by
  induction n generalizing s  with
  | zero => unfold cphDispatchF; exact h0
  | succ n ih =>
    unfold cphDispatchF
    try dsimp only
    repeat' (first
      | with_reducible assumption
      | with_reducible exact Keeps.refl _
      | with_reducible apply ih
      | with_reducible apply State.cphJob_keeps
      | (with_reducible apply Keeps.foldl; intro _ _ _)
      | (with_reducible apply Keeps.foldl1; intro _ _ _)
      | with_reducible refine Keeps.ite (fun _ => ?_) (fun _ => ?_)
      | with_reducible refine Keeps.ite1 (fun _ => ?_) (fun _ => ?_)
      | with_reducible apply Keeps.getD
      | split
      | with_reducible intro _
      | (with_reducible injection ‹some _ = some _› with h; subst h)
      | (with_reducible injection ‹(_, _) = (_, _)› with h; subst h)
      | (with_reducible cases ‹none = some _›)
      | with_reducible apply Keeps.upd
      | dsimp only)

theorem State.cphDispatch_keeps {s0 : State} (s : State) (h0 : Keeps s0 s) : Keeps s0 (State.cphDispatch s) := by
  unfold State.cphDispatch
  with_reducible repeat' first
    | assumption | apply State.applyRwl_keeps | apply cphDispatchF_keeps | refine Keeps.ite (fun _ => ?_) (fun _ => ?_)

theorem State.cphLoseCore_keeps {s0 : State} (s : State) (c : Nat) (h0 : Keeps s0 s) : Keeps s0 (State.cphLoseCore s c) := by
  unfold State.cphLoseCore
  with_reducible repeat' first | assumption | apply State.cphDispatch_keeps | apply Keeps.upd

theorem State.cphFail_keeps {s0 : State} (s : State) (status reason core ctx : Nat) (h0 : Keeps s0 s) : Keeps s0 (State.cphFail
    s status reason core ctx) := by
  unfold State.cphFail
  with_reducible repeat' first
    | assumption | apply State.setFld_keeps | apply State.bump_keeps | refine Keeps.ite (fun _ => ?_) (fun _ => ?_)

theorem State.retireAnswers_keeps {s0 : State} (s : State) (h0 : Keeps s0 s) : Keeps s0 (State.retireAnswers s) := by
  unfold State.retireAnswers
  with_reducible repeat' first
    | assumption | apply State.respondTo_keeps | apply State.pruneKeys_keeps | (apply Keeps.foldl; intro _ _ _)
    | apply Keeps.upd

/-! ### NetUnit.lean -/

theorem State.setNet_keeps {s0 : State} (s : State) (n : Nat) (p : NetPort) (h0 : Keeps s0 s) : Keeps s0 (State.setNet s n p)
    := by
  unfold State.setNet
  with_reducible repeat' first | assumption | apply Keeps.upd

theorem State.setQueue_keeps {s0 : State} (s : State) (n c : Nat) (q : EgQueue) (h0 : Keeps s0 s) : Keeps s0 (State.setQueue s
    n c q) := by
  unfold State.setQueue
  with_reducible repeat' first | assumption | apply State.setNet_keeps

theorem capPick_keeps {s0 : State} (s : State) (x : CapInfo) (n f : Nat) (h0 : Keeps s0 s) : Keeps s0 (capPick s x n f).1 := by
  induction n generalizing s f with
  | zero => exact h0
  | succ n ih =>
    unfold capPick
    dsimp only
    split
    · split
      · exact ⟨h0.all⟩
      · exact ih _ _ ⟨h0.all⟩
    · exact ih _ _ h0

theorem capPick_keepsE {s0 : State} {s : State} {x : CapInfo} {n f : Nat} {r q} (e : capPick s x n f = (r, q)) (h0 : Keeps s0
    s) : Keeps s0 r := by
  have := capPick_keeps s x n f h0
  rw [e] at this; exact this

theorem State.capture_keeps {s0 : State} (s : State) (x : CapInfo) (h0 : Keeps s0 s) : Keeps s0 (State.capture s x) := by
  unfold State.capture
  with_reducible repeat' first
    | assumption | apply State.bump_keeps | apply State.applyRwls_keeps | refine capPick_keepsE (by assumption) ?_ | split
    | apply Keeps.upd

theorem State.dropIn_keeps {s0 : State} (s : State) (n : Nat) (f : Frame) (cls out reason : Nat) (h0 : Keeps s0 s) : Keeps s0
    (State.dropIn s n f cls out reason) := by
  unfold State.dropIn
  with_reducible repeat' first | assumption | apply State.bump_keeps | apply State.capture_keeps | split

theorem State.sendPfc_keeps {s0 : State} (s : State) (n c quanta : Nat) (h0 : Keeps s0 s) : Keeps s0 (State.sendPfc s n c
    quanta) := by
  unfold State.sendPfc
  with_reducible repeat' first
    | assumption | apply State.pmuEvent_keeps | apply State.emit_keeps | refine Keeps.ite (fun _ => ?_) (fun _ => ?_)

theorem State.holdCells_keeps {s0 : State} (s : State) (n c k : Nat) (h0 : Keeps s0 s) : Keeps s0 (State.holdCells s n c k) := by
  unfold State.holdCells
  with_reducible repeat' first
    | assumption | apply State.setNet_keeps | apply State.sendPfc_keeps | refine Keeps.ite (fun _ => ?_) (fun _ => ?_)

theorem State.freeCells_keeps {s0 : State} (s : State) (n c k : Nat) (h0 : Keeps s0 s) : Keeps s0 (State.freeCells s n c k) := by
  unfold State.freeCells
  with_reducible repeat' first
    | assumption | apply State.setNet_keeps | apply State.sendPfc_keeps | refine Keeps.ite (fun _ => ?_) (fun _ => ?_)

theorem State.freeFrame_keeps {s0 : State} (s : State) (f : QFrame) (h0 : Keeps s0 s) : Keeps s0 (State.freeFrame s f) := by
  unfold State.freeFrame
  with_reducible repeat' first | assumption | apply State.freeCells_keeps | refine Keeps.ite (fun _ => ?_) (fun _ => ?_)

theorem State.flushQueue_keeps {s0 : State} (s : State) (n c reason i : Nat) (p : QFrame → Bool) (h0 : Keeps s0 s) : Keeps s0
    (State.flushQueue s n c reason i p) := by
  unfold State.flushQueue
  with_reducible repeat' first
    | assumption | apply State.bump_keeps | apply State.setQueue_keeps | apply State.capture_keeps | apply State.freeFrame_keeps
    | (apply Keeps.foldl; intro _ _ _)

theorem State.shpCharge_keeps {s0 : State} (s : State) (n c len : Nat) (h0 : Keeps s0 s) : Keeps s0 (State.shpCharge s n c len)
    := by
  unfold State.shpCharge
  with_reducible repeat' first | assumption | apply State.setQueue_keeps | refine Keeps.ite (fun _ => ?_) (fun _ => ?_)

theorem wrrPick_keeps {s0 : State} {n fuel : Nat} {s : State} {r q} (e : wrrPick n fuel s = some (q, r)) (h0 : Keeps s0 s) :
    Keeps s0 r := by
  induction fuel generalizing s with
  | zero => cases e
  | succ f ih =>
    unfold wrrPick at e
    dsimp only at e
    split at e
    · refine ih e ?_
      repeat' (first
        | assumption
        | with_reducible apply State.setQueue_keeps
        | with_reducible apply State.setNet_keeps
        | split)
    · split at e
      · injection e with e; injection e with e1 e2; subst e2
        exact State.setQueue_keeps _ _ _ _ h0
      · refine ih e ?_
        repeat' (first
          | assumption
          | with_reducible apply State.setQueue_keeps
          | with_reducible apply State.setNet_keeps
          | split)

theorem State.pickClass_keeps {s0 : State} {s : State} {n : Nat} {r q} (e : State.pickClass s n = some (q, r)) (h0 : Keeps s0
    s) : Keeps s0 r := by
  unfold State.pickClass at e
  split at e
  · injection e with e; injection e with e1 e2; subst e2; exact h0
  · split at e
    · exact wrrPick_keeps e h0
    · cases e

theorem State.sendFrame_keeps {s0 : State} (s : State) (n : Nat) (f : QFrame) (cut : Bool) (h0 : Keeps s0 s) : Keeps s0
    (State.sendFrame s n f cut) := by
  unfold State.sendFrame
  with_reducible repeat' first
    | assumption | apply State.pmuEvent_keeps | apply State.emit_keeps | apply State.setNet_keeps | apply State.capture_keeps
    | apply State.shpCharge_keeps | refine Keeps.ite (fun _ => ?_) (fun _ => ?_)

theorem State.startNext_keeps {s0 : State} (s : State) (n : Nat) (h0 : Keeps s0 s) : Keeps s0 (State.startNext s n) := by
  unfold State.startNext
  with_reducible repeat' first
    | assumption | apply State.applyRwls_keeps | apply State.setQueue_keeps | refine State.pickClass_keeps (by assumption) ?_
    | apply State.sendFrame_keeps | split | apply Keeps.upd

theorem State.placeFrame_keeps {s0 : State} (s : State) (x : QFrame) (h0 : Keeps s0 s) : Keeps s0 (State.placeFrame s x).1 := by
  unfold State.placeFrame
  with_reducible repeat' first | assumption | apply State.drawn_keeps | split

theorem State.placeFrame_keepsE {s0 : State} {s : State} {x : QFrame} {t0} {q0} (e : State.placeFrame s x = (t0, q0)) (h0 :
    Keeps s0 s) : Keeps s0 t0 := by
  have := State.placeFrame_keeps (s0 := s0) s x  h0
  rw [e] at this; exact this

theorem State.putQueue_keeps {s0 : State} (s : State) (out : Nat) (x : QFrame) (h0 : Keeps s0 s) : Keeps s0 (State.putQueue s
    out x) := by
  unfold State.putQueue
  with_reducible repeat' first
    | assumption | apply State.applyRwl_keeps | apply State.setQueue_keeps | apply State.capture_keeps
    | apply State.holdCells_keeps | apply State.startNext_keeps | apply State.placeFrame_keeps
    | refine Keeps.ite (fun _ => ?_) (fun _ => ?_)

theorem State.enqueue_keeps {s0 : State} (s : State) (inPort out cls : Nat) (f : Frame) (h0 : Keeps s0 s) : Keeps s0
    (State.enqueue s inPort out cls f) := by
  unfold State.enqueue
  with_reducible repeat' first
    | assumption | apply State.dropIn_keeps | apply State.putQueue_keeps | refine Keeps.ite (fun _ => ?_) (fun _ => ?_)

theorem State.offer_keeps {s0 : State} (s : State) (out : Nat) (x : QFrame) (h0 : Keeps s0 s) : Keeps s0 (State.offer s out x)
    := by
  unfold State.offer
  with_reducible repeat' first
    | assumption | apply State.setNet_keeps | apply State.putQueue_keeps | refine Keeps.ite (fun _ => ?_) (fun _ => ?_)

theorem State.takeCredits_keeps {s0 : State} (s : State) (out : Nat) (h0 : Keeps s0 s) : Keeps s0 (State.takeCredits s out) := by
  unfold State.takeCredits
  with_reducible repeat' first
    | assumption | apply State.setNet_keeps | apply State.offer_keeps | (apply Keeps.foldl; intro _ _ _)
    | refine Keeps.ite (fun _ => ?_) (fun _ => ?_)

theorem State.sendInternal_keeps {s0 : State} (s : State) (inPort out cls : Nat) (f : Frame) (h0 : Keeps s0 s) : Keeps s0
    (State.sendInternal s inPort out cls f) := by
  unfold State.sendInternal
  with_reducible repeat' first
    | assumption | apply State.dropIn_keeps | apply State.offer_keeps | refine Keeps.ite (fun _ => ?_) (fun _ => ?_)
    | apply Keeps.upd

theorem State.sendCtl_keeps {s0 : State} (s : State) (out cls : Nat) (f : Frame) (o : Out) (h0 : Keeps s0 s) : Keeps s0
    (State.sendCtl s out cls f o) := by
  unfold State.sendCtl
  with_reducible repeat' first
    | assumption | apply State.emit_keeps | apply State.sendInternal_keeps | refine Keeps.ite (fun _ => ?_) (fun _ => ?_)

theorem State.rackSend_keeps {s0 : State} (s : State) (dest type : Nat) (body : Bytes) (h0 : Keeps s0 s) : Keeps s0
    (State.rackSend s dest type body) := by
  unfold State.rackSend
  with_reducible repeat' first
    | assumption | apply State.emit_keeps | apply State.drawn_keeps | apply State.sendInternal_keeps
    | (apply Keeps.foldl; intro _ _ _) | refine Keeps.ite (fun _ => ?_) (fun _ => ?_)

theorem State.badTail_keeps {s0 : State} (s : State) (out bytes : Nat) (h0 : Keeps s0 s) : Keeps s0 (State.badTail s out bytes)
    := by
  unfold State.badTail
  with_reducible repeat' first | assumption | apply State.bump_keeps | apply State.emit_keeps

theorem State.transit_keeps {s0 : State} (s : State) (inPort out cls : Nat) (f : Frame) (h0 : Keeps s0 s) : Keeps s0
    (State.transit s inPort out cls f) := by
  unfold State.transit
  with_reducible repeat' first
    | assumption | apply State.bump_keeps | apply State.applyRwl_keeps | apply State.capture_keeps | apply State.dropIn_keeps
    | apply State.sendFrame_keeps | apply State.placeFrame_keeps | apply State.enqueue_keeps | apply State.badTail_keeps
    | refine Keeps.ite (fun _ => ?_) (fun _ => ?_)

theorem State.loseQueued_keeps {s0 : State} (s : State) (n c i : Nat) (h0 : Keeps s0 s) : Keeps s0 (State.loseQueued s n c i)
    := by
  unfold State.loseQueued
  with_reducible repeat' first
    | assumption | apply State.setQueue_keeps | apply State.capture_keeps | apply State.freeFrame_keeps | split
    | apply Keeps.upd

theorem State.loseLeaving_keeps {s0 : State} (s : State) (n : Nat) (h0 : Keeps s0 s) : Keeps s0 (State.loseLeaving s n) := by
  unfold State.loseLeaving
  with_reducible repeat' first | assumption | apply State.drawn_keeps | apply State.badTail_keeps | split

theorem State.cellError_keeps {s0 : State} (s : State) (k : Nat) (h0 : Keeps s0 s) : Keeps s0 (State.cellError s k) := by
  unfold State.cellError
  with_reducible repeat' first
    | assumption | apply State.drawn_keeps | apply State.takeCredits_keeps | apply State.loseQueued_keeps
    | apply State.loseLeaving_keeps | split | apply Keeps.upd

theorem State.portDown_keeps {s0 : State} (s : State) (n : Nat) (h0 : Keeps s0 s) : Keeps s0 (State.portDown s n) := by
  unfold State.portDown
  with_reducible repeat' first
    | assumption | apply State.bump_keeps | apply State.setNet_keeps | apply State.capture_keeps | apply State.freeFrame_keeps
    | apply State.flushQueue_keeps | (apply Keeps.foldl; intro _ _ _) | split

theorem State.portOn_keeps {s0 : State} (s : State) (n : Nat) (h0 : Keeps s0 s) : Keeps s0 (State.portOn s n) := by
  unfold State.portOn
  with_reducible repeat' first | assumption | apply State.setNet_keeps

theorem State.ringSt_keeps {s0 : State} (s : State) (n st : Nat) (h0 : Keeps s0 s) : Keeps s0 (State.ringSt s n st) := by
  unfold State.ringSt
  with_reducible repeat' first | assumption | apply State.setNet_keeps

theorem State.raps_keeps {s0 : State} (s : State) (q : RapsReq) (ports : List Nat) (h0 : Keeps s0 s) : Keeps s0 (State.raps s q
    ports) := by
  unfold State.raps
  with_reducible repeat' first | assumption | apply State.sendCtl_keeps | (apply Keeps.foldl; intro _ _ _)

theorem State.ringFail_keeps {s0 : State} (s : State) (n : Nat) (h0 : Keeps s0 s) : Keeps s0 (State.ringFail s n) := by
  unfold State.ringFail
  with_reducible repeat' first
    | assumption | apply State.setNet_keeps | apply State.ringSt_keeps | apply State.raps_keeps
    | refine Keeps.ite (fun _ => ?_) (fun _ => ?_) | apply Keeps.upd

theorem State.ringDown_keeps {s0 : State} (s : State) (n : Nat) (h0 : Keeps s0 s) : Keeps s0 (State.ringDown s n) := by
  unfold State.ringDown
  with_reducible repeat' first
    | assumption | apply State.applyRwl_keeps | apply State.setNet_keeps | apply State.ringSt_keeps | apply State.ringFail_keeps
    | refine Keeps.ite (fun _ => ?_) (fun _ => ?_)

theorem State.ringClear_keeps {s0 : State} (s : State) (n : Nat) (h0 : Keeps s0 s) : Keeps s0 (State.ringClear s n) := by
  unfold State.ringClear
  with_reducible repeat' first
    | assumption | apply State.applyRwl_keeps | apply State.setNet_keeps | apply State.ringSt_keeps | apply State.raps_keeps
    | refine Keeps.ite (fun _ => ?_) (fun _ => ?_) | apply Keeps.upd

theorem State.linkLost_keeps {s0 : State} (s : State) (n : Nat) (h0 : Keeps s0 s) : Keeps s0 (State.linkLost s n) := by
  unfold State.linkLost
  with_reducible repeat' first
    | assumption | apply State.bump_keeps | apply State.drawn_keeps | apply State.badTail_keeps | apply State.portDown_keeps
    | apply State.ringDown_keeps | split

theorem State.addLaddr_keeps {s0 : State} (s : State) (mac vid : Nat) (taken : Bool) (h0 : Keeps s0 s) : Keeps s0
    (State.addLaddr s mac vid taken) := by
  unfold State.addLaddr
  with_reducible repeat' first | assumption | apply State.setFld_keeps | split

theorem State.putOwnAddrs_keeps {s0 : State} (s : State) (h0 : Keeps s0 s) : Keeps s0 (State.putOwnAddrs s) := by
  unfold State.putOwnAddrs
  with_reducible repeat' first | assumption | apply State.addLaddr_keeps | (apply Keeps.foldl; intro _ _ _)

theorem State.dropTaken_keeps {s0 : State} (s : State) (h0 : Keeps s0 s) : Keeps s0 (State.dropTaken s) := by
  unfold State.dropTaken
  with_reducible repeat' first
    | assumption | apply State.setReg_keeps | (apply Keeps.foldl; intro _ _ _) | refine Keeps.ite (fun _ => ?_) (fun _ => ?_)

theorem State.police_keeps {s0 : State} (s : State) (t len : Nat) (h0 : Keeps s0 s) : Keeps s0 (State.police s t len).1 := by
  unfold State.police
  with_reducible repeat' first | assumption | apply State.bump_keeps | split | apply Keeps.upd

theorem State.police_keepsE {s0 : State} {s : State} {t len : Nat} {t0} {q0} (e : State.police s t len = (t0, q0)) (h0 : Keeps
    s0 s) : Keeps s0 t0 := by
  have := State.police_keeps (s0 := s0) s t len  h0
  rw [e] at this; exact this

/-! ### GusUnit.lean -/

theorem State.gusFrames_keeps {s0 : State} (s : State) (egress : Bool) (frames : List (Nat × Bytes)) (h0 : Keeps s0 s) : Keeps
    s0 (State.gusFrames s egress frames) := by
  unfold State.gusFrames
  with_reducible repeat' first | assumption | apply State.capture_keeps | (apply Keeps.foldl; intro _ _ _)

theorem State.putGusset_keeps {s0 : State} (s : State) (seq bed : Nat) (m : GMsg) (again : Bool) (h0 : Keeps s0 s) : Keeps s0
    (State.putGusset s seq bed m again) := by
  unfold State.putGusset
  with_reducible repeat' first | assumption | apply State.emit_keeps | apply State.gusFrames_keeps

theorem State.gusSend_keeps {s0 : State} (s : State) (bed : Nat) (m : GMsg) (rel : OnDelivery) (h0 : Keeps s0 s) : Keeps s0
    (State.gusSend s bed m rel) := by
  unfold State.gusSend
  with_reducible repeat' first
    | assumption | apply State.pmuEvent_keeps | apply State.putGusset_keeps | refine Keeps.ite (fun _ => ?_) (fun _ => ?_)
    | apply Keeps.upd

theorem State.proxyLost_keeps {s0 : State} (s : State) (h0 : Keeps s0 s) : Keeps s0 (State.proxyLost s) := by
  unfold State.proxyLost
  with_reducible repeat' first | assumption | apply Keeps.upd

theorem State.proxyBack_keeps {s0 : State} (s : State) (h0 : Keeps s0 s) : Keeps s0 (State.proxyBack s) := by
  unfold State.proxyBack
  with_reducible repeat' first | assumption | apply Keeps.upd

theorem State.gusRetrain_keeps {s0 : State} (s : State) (h0 : Keeps s0 s) : Keeps s0 (State.gusRetrain s) := by
  unfold State.gusRetrain
  with_reducible repeat' first
    | assumption | apply State.bump_keeps | apply State.proxyLost_keeps | refine Keeps.ite (fun _ => ?_) (fun _ => ?_)
    | apply Keeps.upd

theorem State.gusControl_keeps {s0 : State} (s : State) (bed kind : Nat) (body : Bytes) (h0 : Keeps s0 s) : Keeps s0
    (State.gusControl s bed kind body) := by
  unfold State.gusControl
  with_reducible repeat' first | assumption | apply State.gusSend_keeps | apply Keeps.upd

theorem State.gusAnswer_keeps {s0 : State} (s : State) (bed kind msgId : Nat) (body : Bytes) (h0 : Keeps s0 s) : Keeps s0
    (State.gusAnswer s bed kind msgId body) := by
  unfold State.gusAnswer
  with_reducible repeat' first | assumption | apply State.gusSend_keeps

theorem State.gusPiece_keeps {s0 : State} (s : State) (bed sectors : Nat) (p : JoinPiece) (h0 : Keeps s0 s) : Keeps s0
    (State.gusPiece s bed sectors p) := by
  unfold State.gusPiece
  with_reducible repeat' first | assumption | apply State.gusSend_keeps | apply Keeps.upd

theorem State.delta_keeps {s0 : State} (s : State) (b : Nat) (e : DeltaEntry) (h0 : Keeps s0 s) : Keeps s0 (State.delta s b e)
    := by
  unfold State.delta
  with_reducible repeat' first | assumption | refine Keeps.ite (fun _ => ?_) (fun _ => ?_) | apply Keeps.upd

/-! ### EptUnit.lean -/

theorem State.setCfgTab_keeps {s0 : State} (s : State) (fn : Nat) (t : Tab Word) (h0 : Keeps s0 s) : Keeps s0 (State.setCfgTab
    s fn t) := by
  unfold State.setCfgTab
  with_reducible repeat' first | assumption | refine Keeps.ite (fun _ => ?_) (fun _ => ?_) | apply Keeps.upd

theorem State.cfgWrite_keeps {s0 : State} (s : State) (fn o be : Nat) (v : Word) (h0 : Keeps s0 s) : Keeps s0 (State.cfgWrite s
    fn o be v) := by
  unfold State.cfgWrite
  with_reducible repeat' first | assumption | apply State.setCfgTab_keeps

theorem State.cfgSet_keeps {s0 : State} (s : State) (fn o m : Nat) (h0 : Keeps s0 s) : Keeps s0 (State.cfgSet s fn o m) := by
  unfold State.cfgSet
  with_reducible repeat' first | assumption | apply State.setCfgTab_keeps

theorem State.errMsg_keeps {s0 : State} (s : State) (fn sev : Nat) (h0 : Keeps s0 s) : Keeps s0 (State.errMsg s fn sev) := by
  unfold State.errMsg
  with_reducible repeat' first
    | assumption | apply State.emit_keeps | apply State.cfgSet_keeps | refine Keeps.ite (fun _ => ?_) (fun _ => ?_)

theorem State.aerSet_keeps {s0 : State} (s : State) (fn b : Nat) (h0 : Keeps s0 s) : Keeps s0 (State.aerSet s fn b) := by
  unfold State.aerSet
  with_reducible repeat' first
    | assumption | apply State.cfgSet_keeps | apply State.errMsg_keeps | refine Keeps.ite (fun _ => ?_) (fun _ => ?_)

theorem eptPumpF_keeps {s0 : State} (n : Nat) (s : State) (h0 : Keeps s0 s) : Keeps s0 (eptPumpF n s) := by
  induction n generalizing s  with
  | zero => unfold eptPumpF; exact h0
  | succ n ih =>
    unfold eptPumpF
    try dsimp only
    repeat' (first
      | with_reducible assumption
      | with_reducible exact Keeps.refl _
      | with_reducible apply ih
      | with_reducible apply State.emit_keeps
      | (with_reducible apply Keeps.foldl; intro _ _ _)
      | (with_reducible apply Keeps.foldl1; intro _ _ _)
      | with_reducible refine Keeps.ite (fun _ => ?_) (fun _ => ?_)
      | with_reducible refine Keeps.ite1 (fun _ => ?_) (fun _ => ?_)
      | with_reducible apply Keeps.getD
      | split
      | with_reducible intro _
      | (with_reducible injection ‹some _ = some _› with h; subst h)
      | (with_reducible injection ‹(_, _) = (_, _)› with h; subst h)
      | (with_reducible cases ‹none = some _›)
      | with_reducible apply Keeps.upd
      | dsimp only)

theorem State.eptPump_keeps {s0 : State} (s : State) (h0 : Keeps s0 s) : Keeps s0 (State.eptPump s) := by
  unfold State.eptPump
  with_reducible repeat' first | assumption | apply eptPumpF_keeps

theorem State.eptFetch_keeps {s0 : State} (s : State) (f : EptFetch) (len : Nat) (h0 : Keeps s0 s) : Keeps s0 (State.eptFetch s
    f len) := by
  unfold State.eptFetch
  with_reducible repeat' first | assumption | apply State.eptPump_keeps | apply Keeps.upd

theorem State.eptPost_keeps {s0 : State} (s : State) (cq : Nat) (h0 : Keeps s0 s) : Keeps s0 (State.eptPost s cq) := by
  unfold State.eptPost
  with_reducible repeat' first | assumption | apply State.msix_keeps | split | apply Keeps.upd

/-! ### CmdUnit.lean -/

theorem State.modAssoc_keeps {s0 : State} (s : State) (a : Nat) (f : Assoc → Assoc) (h0 : Keeps s0 s) : Keeps s0
    (State.modAssoc s a f) := by
  unfold State.modAssoc
  with_reducible repeat' first | assumption | apply Keeps.upd

theorem State.setPhase_keeps {s0 : State} (s : State) (arr : Nat) (p : CmdPhase) (h0 : Keeps s0 s) : Keeps s0 (State.setPhase s
    arr p) := by
  unfold State.setPhase
  with_reducible repeat' first | assumption | apply State.mod_keeps

theorem State.chargeAll_keeps {s0 : State} (s : State) (h0 : Keeps s0 s) : Keeps s0 (State.chargeAll s) := by
  unfold State.chargeAll
  with_reducible repeat' first | assumption | apply State.setPhase_keeps | (apply Keeps.foldl; intro _ _ _) | split

theorem State.cmdDelta_keeps {s0 : State} (s : State) (arr : Nat) (h0 : Keeps s0 s) : Keeps s0 (State.cmdDelta s arr) := by
  unfold State.cmdDelta
  with_reducible repeat' first | assumption | apply State.delta_keeps | split

theorem State.grant_keeps {s0 : State} (s : State) (arr : Nat) (h0 : Keeps s0 s) : Keeps s0 (State.grant s arr) := by
  unfold State.grant
  with_reducible repeat' first
    | assumption | apply State.pmuEvent_keeps | apply State.mod_keeps | apply State.setPhase_keeps | apply State.cmdDelta_keeps

theorem State.grantsF_keeps {s0 : State} (n : Nat) (s : State) (h0 : Keeps s0 s) : Keeps s0 (State.grantsF n s) := by
  induction n generalizing s  with
  | zero => unfold State.grantsF; exact h0
  | succ n ih =>
    unfold State.grantsF
    try dsimp only
    repeat' (first
      | with_reducible assumption
      | with_reducible exact Keeps.refl _
      | with_reducible apply ih
      | with_reducible apply State.grant_keeps
      | (with_reducible apply Keeps.foldl; intro _ _ _)
      | (with_reducible apply Keeps.foldl1; intro _ _ _)
      | with_reducible refine Keeps.ite (fun _ => ?_) (fun _ => ?_)
      | with_reducible refine Keeps.ite1 (fun _ => ?_) (fun _ => ?_)
      | with_reducible apply Keeps.getD
      | split
      | with_reducible intro _
      | (with_reducible injection ‹some _ = some _› with h; subst h)
      | (with_reducible injection ‹(_, _) = (_, _)› with h; subst h)
      | (with_reducible cases ‹none = some _›)
      | with_reducible apply Keeps.upd
      | dsimp only)

theorem State.grants_keeps {s0 : State} (s : State) (h0 : Keeps s0 s) : Keeps s0 (State.grants s) := by
  unfold State.grants
  with_reducible repeat' first | assumption | apply State.grantsF_keeps

theorem State.samplePick_keeps {s0 : State} (s : State) (arr : Nat) (r : CmdRec) (h0 : Keeps s0 s) : Keeps s0 (State.samplePick
    s arr r) := by
  unfold State.samplePick
  with_reducible repeat' first | assumption | refine Keeps.ite (fun _ => ?_) (fun _ => ?_) | apply Keeps.upd

theorem State.arrive_keeps {s0 : State} (s : State) (cap : Cap) (nsid : Nat) (cmd : Option NvmeCmd) (capsule : Bytes) (isAdmin
    : Bool) (h0 : Keeps s0 s) : Keeps s0 (State.arrive s cap nsid cmd capsule isAdmin).1 := by
  unfold State.arrive
  with_reducible repeat' first | assumption | apply State.grants_keeps | apply State.samplePick_keeps | apply Keeps.upd

theorem State.arrive_keepsE {s0 : State} {s : State} {cap : Cap} {nsid : Nat} {cmd : Option NvmeCmd} {capsule : Bytes} {isAdmin
    : Bool} {t0} {q0} (e : State.arrive s cap nsid cmd capsule isAdmin = (t0, q0)) (h0 : Keeps s0 s) : Keeps s0 t0 := by
  have := State.arrive_keeps (s0 := s0) s cap nsid cmd capsule isAdmin  h0
  rw [e] at this; exact this

theorem State.sampleWrite_keeps {s0 : State} (s : State) (arr : Nat) (r : CmdRec) (times : List Nat) (ended : Bool) (h0 : Keeps
    s0 s) : Keeps s0 (State.sampleWrite s arr r times ended) := by
  unfold State.sampleWrite
  with_reducible repeat' first
    | assumption | apply State.bump_keeps | refine Keeps.ite (fun _ => ?_) (fun _ => ?_) | apply Keeps.upd

theorem State.pmuCommand_keeps {s0 : State} (s : State) (arr : Nat) (r : CmdRec) (ended : Bool) (h0 : Keeps s0 s) : Keeps s0
    (State.pmuCommand s arr r ended) := by
  unfold State.pmuCommand
  with_reducible repeat' first
    | assumption | apply State.histAdd_keeps | apply State.sampleWrite_keeps | (apply Keeps.foldl; intro _ _ _)
    | refine Keeps.ite (fun _ => ?_) (fun _ => ?_)

theorem State.assocSweep_keeps {s0 : State} (s : State) (a : Nat) (h0 : Keeps s0 s) : Keeps s0 (State.assocSweep s a) := by
  unfold State.assocSweep
  with_reducible repeat' first | assumption | split | apply Keeps.upd

theorem State.dropCmd_keeps {s0 : State} (s : State) (arr : Nat) (h0 : Keeps s0 s) : Keeps s0 (State.dropCmd s arr) := by
  unfold State.dropCmd
  with_reducible repeat' first
    | assumption | apply State.delta_keeps | apply State.grants_keeps | apply State.assocSweep_keeps
    | (apply Keeps.foldl; intro _ _ _) | split | apply Keeps.upd

/-! ### SluUnit.lean -/

theorem State.modQp_keeps {s0 : State} (s : State) (i : Nat) (f : Qp → Qp) (h0 : Keeps s0 s) : Keeps s0 (State.modQp s i f) := by
  unfold State.modQp
  with_reducible repeat' first | assumption | apply Keeps.upd

theorem State.moveQp_keeps {s0 : State} (s : State) (i : Nat) (h0 : Keeps s0 s) : Keeps s0 (State.moveQp s i) := by
  unfold State.moveQp
  with_reducible repeat' first | assumption | apply State.modQp_keeps | refine Keeps.ite (fun _ => ?_) (fun _ => ?_) | split

theorem State.moveQps_keeps {s0 : State} (s : State) (h0 : Keeps s0 s) : Keeps s0 (State.moveQps s) := by
  unfold State.moveQps
  with_reducible repeat' first | assumption | apply State.moveQp_keeps | (apply Keeps.foldl; intro _ _ _)

theorem State.qpTell_keeps {s0 : State} (s : State) (b i : Nat) (q : Qp) (h0 : Keeps s0 s) : Keeps s0 (State.qpTell s b i q) := by
  unfold State.qpTell
  with_reducible repeat' first | assumption | apply State.delta_keeps | apply State.modQp_keeps

theorem State.qpChanges_keeps {s0 : State} (s : State) (b : Nat) (h0 : Keeps s0 s) : Keeps s0 (State.qpChanges s b) := by
  unfold State.qpChanges
  with_reducible repeat' first
    | assumption | apply State.delta_keeps | apply State.modQp_keeps | (apply Keeps.foldl; intro _ _ _)
    | refine Keeps.ite (fun _ => ?_) (fun _ => ?_)

theorem State.sendQp_keeps {s0 : State} (s : State) (i p ext payload : Nat) (o : Out) (h0 : Keeps s0 s) : Keeps s0
    (State.sendQp s i p ext payload o) := by
  unfold State.sendQp
  with_reducible repeat' first | assumption | apply State.emit_keeps | apply State.sendInternal_keeps | split

theorem State.putAck_keeps {s0 : State} (s : State) (i psn : Nat) (h0 : Keeps s0 s) : Keeps s0 (State.putAck s i psn) := by
  unfold State.putAck
  with_reducible repeat' first | assumption | apply State.sendQp_keeps

theorem State.putNak_keeps {s0 : State} (s : State) (i psn : Nat) (k : RdmaNak) (h0 : Keeps s0 s) : Keeps s0 (State.putNak s i
    psn k) := by
  unfold State.putNak
  with_reducible repeat' first | assumption | apply State.sendQp_keeps

theorem State.putCnp_keeps {s0 : State} (s : State) (i : Nat) (h0 : Keeps s0 s) : Keeps s0 (State.putCnp s i) := by
  unfold State.putCnp
  with_reducible repeat' first | assumption | apply State.sendQp_keeps

theorem State.putPacket_keeps {s0 : State} (s : State) (i : Nat) (r : TxReq) (sel : Bool) (k : Nat) (h0 : Keeps s0 s) : Keeps
    s0 (State.putPacket s i r sel k) := by
  unfold State.putPacket
  with_reducible repeat' first | assumption | apply State.sendQp_keeps | split

theorem State.putRequest_keeps {s0 : State} (s : State) (i : Nat) (r : TxReq) (h0 : Keeps s0 s) : Keeps s0 (State.putRequest s
    i r) := by
  unfold State.putRequest
  with_reducible repeat' first
    | assumption | apply State.putPacket_keeps | (apply Keeps.foldl; intro _ _ _) | refine Keeps.ite (fun _ => ?_) (fun _ => ?_)

theorem State.putCm_keeps {s0 : State} (s : State) (mac vlan gid : Nat) (o : Out) (h0 : Keeps s0 s) : Keeps s0 (State.putCm s
    mac vlan gid o) := by
  unfold State.putCm
  with_reducible repeat' first
    | assumption | apply State.emit_keeps | apply State.sendInternal_keeps | refine Keeps.ite (fun _ => ?_) (fun _ => ?_)

theorem State.sendAck_keeps {s0 : State} (s : State) (i : Nat) (h0 : Keeps s0 s) : Keeps s0 (State.sendAck s i) := by
  unfold State.sendAck
  with_reducible repeat' first
    | assumption | apply State.gusSend_keeps | apply State.modQp_keeps | apply State.putAck_keeps | split | apply Keeps.upd

theorem State.ackAll_keeps {s0 : State} (s : State) (h0 : Keeps s0 s) : Keeps s0 (State.ackAll s) := by
  unfold State.ackAll
  with_reducible repeat' first | assumption | apply State.sendAck_keeps | (apply Keeps.foldl; intro _ _ _) | split

theorem txPumpF_keeps {s0 : State} (n : Nat) (x : Nat) (s : State) (h0 : Keeps s0 s) : Keeps s0 (txPumpF n x s) := by
  induction n generalizing s x with
  | zero => unfold txPumpF; exact h0
  | succ n ih =>
    unfold txPumpF
    try dsimp only
    repeat' (first
      | with_reducible assumption
      | with_reducible exact Keeps.refl _
      | with_reducible apply ih
      | with_reducible apply State.gusSend_keeps
      | with_reducible apply State.modQp_keeps
      | with_reducible apply State.putRequest_keeps
      | (with_reducible apply Keeps.foldl; intro _ _ _)
      | (with_reducible apply Keeps.foldl1; intro _ _ _)
      | with_reducible refine Keeps.ite (fun _ => ?_) (fun _ => ?_)
      | with_reducible refine Keeps.ite1 (fun _ => ?_) (fun _ => ?_)
      | with_reducible apply Keeps.getD
      | split
      | with_reducible intro _
      | (with_reducible injection ‹some _ = some _› with h; subst h)
      | (with_reducible injection ‹(_, _) = (_, _)› with h; subst h)
      | (with_reducible cases ‹none = some _›)
      | with_reducible apply Keeps.upd
      | dsimp only)

theorem State.txPump_keeps {s0 : State} (s : State) (i : Nat) (h0 : Keeps s0 s) : Keeps s0 (State.txPump s i) := by
  unfold State.txPump
  with_reducible repeat' first | assumption | apply txPumpF_keeps | split

theorem State.txPumpAll_keeps {s0 : State} (s : State) (h0 : Keeps s0 s) : Keeps s0 (State.txPumpAll s) := by
  unfold State.txPumpAll
  with_reducible repeat' first | assumption | apply State.txPump_keeps | (apply Keeps.foldl; intro _ _ _) | split

theorem State.post_keeps {s0 : State} (s : State) (i : Nat) (r : TxReq) (h0 : Keeps s0 s) : Keeps s0 (State.post s i r) := by
  unfold State.post
  with_reducible repeat' first | assumption | apply State.modQp_keeps | apply State.txPump_keeps

theorem State.noteHost_keeps {s0 : State} (s : State) (c : Cap) (n : Nat) (h0 : Keeps s0 s) : Keeps s0 (State.noteHost s c n)
    := by
  unfold State.noteHost
  with_reducible repeat' first | assumption | apply State.mod_keeps | split

theorem State.toHost_keeps {s0 : State} (s : State) (c : Cap) (d : DataPtr) (bytes : Bytes) (h0 : Keeps s0 s) : Keeps s0
    (State.toHost s c d bytes) := by
  unfold State.toHost
  with_reducible repeat' first
    | assumption | apply State.emit_keeps | apply State.post_keeps | apply State.noteHost_keeps | split | apply Keeps.upd

theorem State.fromHost_keeps {s0 : State} (s : State) (c : Cap) (d : DataPtr) (len : Nat) (h0 : Keeps s0 s) : Keeps s0
    (State.fromHost s c d len) := by
  unfold State.fromHost
  with_reducible repeat' first
    | assumption | apply State.eptFetch_keeps | apply State.post_keeps | apply State.noteHost_keeps
    | refine Keeps.ite (fun _ => ?_) (fun _ => ?_) | split

theorem State.fireTrigs_keeps {s0 : State} (s : State) (n : Nat) (h0 : Keeps s0 s) : Keeps s0 (State.fireTrigs s n) := by
  unfold State.fireTrigs
  with_reducible repeat' first
    | assumption | apply State.bump_keeps | apply State.delta_keeps | apply State.post_keeps | (apply Keeps.foldl; intro _ _ _)
    | split | apply Keeps.upd

theorem State.countUp_keeps {s0 : State} (s : State) (n : Nat) (imm : Option Nat) (h0 : Keeps s0 s) : Keeps s0 (State.countUp s
    n imm) := by
  unfold State.countUp
  with_reducible repeat' first | assumption | apply State.delta_keeps | apply State.fireTrigs_keeps | split | apply Keeps.upd

theorem State.flushTrigs_keeps {s0 : State} (s : State) (p : Trig → Bool) (h0 : Keeps s0 s) : Keeps s0 (State.flushTrigs s p)
    := by
  unfold State.flushTrigs
  with_reducible repeat' first | assumption | apply State.emit_keeps | (apply Keeps.foldl; intro _ _ _) | apply Keeps.upd

theorem State.winFinish_keeps {s0 : State} (s : State) (i : Nat) (h0 : Keeps s0 s) : Keeps s0 (State.winFinish s i) := by
  unfold State.winFinish
  with_reducible repeat' first
    | assumption | apply State.delta_keeps | apply State.modAssoc_keeps | apply State.flushTrigs_keeps | split | apply Keeps.upd

theorem State.winRevoke_keeps {s0 : State} (s : State) (i : Nat) (h0 : Keeps s0 s) : Keeps s0 (State.winRevoke s i) := by
  unfold State.winRevoke
  with_reducible repeat' first | assumption | apply State.winFinish_keeps | split | apply Keeps.upd

theorem State.qpDestroy_keeps {s0 : State} (s : State) (i : Nat) (h0 : Keeps s0 s) : Keeps s0 (State.qpDestroy s i) := by
  unfold State.qpDestroy
  with_reducible repeat' first
    | assumption | apply State.delta_keeps | apply State.modQp_keeps | apply State.flushTrigs_keeps | split | apply Keeps.upd

theorem State.endAssoc_keeps {s0 : State} (s : State) (a : Nat) (h0 : Keeps s0 s) : Keeps s0 (State.endAssoc s a) := by
  unfold State.endAssoc
  with_reducible repeat' first
    | assumption | apply State.mod_keeps | apply State.modAssoc_keeps | apply State.pmuCommand_keeps
    | apply State.assocSweep_keeps | apply State.dropCmd_keeps | apply State.winRevoke_keeps | apply State.qpDestroy_keeps
    | (apply Keeps.foldl; intro _ _ _) | split

theorem State.qpError_keeps {s0 : State} (s : State) (i : Nat) (h0 : Keeps s0 s) : Keeps s0 (State.qpError s i) := by
  unfold State.qpError
  with_reducible repeat' first
    | assumption | apply State.modQp_keeps | apply State.qpDestroy_keeps | apply State.endAssoc_keeps
    | refine Keeps.ite (fun _ => ?_) (fun _ => ?_) | split

/-! ### Finish.lean -/

theorem State.sendResponse_keeps {s0 : State} (s : State) (r : CmdRec) (h0 : Keeps s0 s) : Keeps s0 (State.sendResponse s r) := by
  unfold State.sendResponse
  with_reducible repeat' first | assumption | apply State.post_keeps | split

theorem State.endBare_keeps {s0 : State} (s : State) (r : CmdRec) (h0 : Keeps s0 s) : Keeps s0 (State.endBare s r) := by
  unfold State.endBare
  with_reducible repeat' first | assumption | apply State.qpDestroy_keeps | split

theorem State.release_keeps {s0 : State} (s : State) (arr : Nat) (h0 : Keeps s0 s) : Keeps s0 (State.release s arr) := by
  unfold State.release
  with_reducible repeat' first
    | assumption | apply State.pmuEvent_keeps | apply State.emit_keeps | apply State.eptPost_keeps
    | apply State.pmuCommand_keeps | apply State.dropCmd_keeps | apply State.endBare_keeps | apply State.sendResponse_keeps | split
    | apply Keeps.upd

theorem State.finish_keeps {s0 : State} (s : State) (arr status dw0 dw1 : Nat) (h0 : Keeps s0 s) : Keeps s0 (State.finish s arr
    status dw0 dw1) := by
  unfold State.finish
  with_reducible repeat' first
    | assumption | apply State.mod_keeps | apply State.setPhase_keeps | apply State.release_keeps | split | apply Keeps.upd

theorem State.releaseAll_keeps {s0 : State} (s : State) (h0 : Keeps s0 s) : Keeps s0 (State.releaseAll s) := by
  unfold State.releaseAll
  with_reducible repeat' first | assumption | apply State.release_keeps | (apply Keeps.foldl; intro _ _ _) | split

theorem State.answer_keeps {s0 : State} (s : State) (cap : Cap) (nsid : Nat) (cmd : NvmeCmd) (isAdmin : Bool) (status dw0 dw1 :
    Nat) (h0 : Keeps s0 s) : Keeps s0 (State.answer s cap nsid cmd isAdmin status dw0 dw1) := by
  unfold State.answer
  with_reducible repeat' first
    | assumption | apply State.mod_keeps | refine State.arrive_keepsE (by assumption) ?_ | apply State.finish_keeps | split

theorem State.aer_keeps {s0 : State} (s : State) (a dw0 : Nat) (h0 : Keeps s0 s) : Keeps s0 (State.aer s a dw0) := by
  unfold State.aer
  with_reducible repeat' first | assumption | apply State.modAssoc_keeps | apply State.finish_keeps | split | apply Keeps.upd

/-! ### Units.lean -/

theorem State.pendingChecks_keeps {s0 : State} (s : State) (h0 : Keeps s0 s) : Keeps s0 (State.pendingChecks s) := by
  unfold State.pendingChecks
  with_reducible repeat' first | assumption | apply Keeps.upd

theorem State.quarantineAll_keeps {s0 : State} (s : State) (h0 : Keeps s0 s) : Keeps s0 (State.quarantineAll s) := by
  unfold State.quarantineAll
  with_reducible repeat' first | assumption | apply Keeps.upd

theorem State.fn0Reset_keeps {s0 : State} (s : State) (h0 : Keeps s0 s) : Keeps s0 (State.fn0Reset s) := by
  unfold State.fn0Reset
  with_reducible repeat' first
    | assumption | apply State.endAssoc_keeps | apply State.quarantineAll_keeps | split | apply Keeps.upd

theorem State.winsOff_keeps {s0 : State} (s : State) (h0 : Keeps s0 s) : Keeps s0 (State.winsOff s) := by
  unfold State.winsOff
  with_reducible repeat' first | assumption | apply State.setFld_keeps | (apply Keeps.foldl; intro _ _ _)

theorem State.eptReset_keeps {s0 : State} (s : State) (h0 : Keeps s0 s) : Keeps s0 (State.eptReset s) := by
  unfold State.eptReset
  with_reducible repeat' first | assumption | apply State.fn0Reset_keeps | apply State.winsOff_keeps | apply Keeps.upd

theorem State.eptDown_keeps {s0 : State} (s : State) (h0 : Keeps s0 s) : Keeps s0 (State.eptDown s) := by
  unfold State.eptDown
  with_reducible repeat' first | assumption | apply State.eptReset_keeps | apply Keeps.upd

theorem State.domOffEffect_keeps {s0 : State} (s : State) (d : Nat) (h0 : Keeps s0 s) : Keeps s0 (State.domOffEffect s d) := by
  unfold State.domOffEffect
  with_reducible repeat' first
    | assumption | apply State.setFld_keeps | apply State.setPort_keeps | apply State.portDown_keeps | apply State.moveQps_keeps
    | apply State.eptDown_keeps | refine Keeps.ite (fun _ => ?_) (fun _ => ?_) | apply Keeps.upd

theorem State.syncDomains_keeps {s0 : State} (s : State) (h0 : Keeps s0 s) : Keeps s0 (State.syncDomains s) := by
  unfold State.syncDomains
  with_reducible repeat' first
    | assumption | apply State.domRequestOn_keeps | apply State.domOff_keeps | apply State.domDrain_keeps
    | apply State.moveQps_keeps | apply State.pendingChecks_keeps | apply State.domOffEffect_keeps
    | (apply Keeps.foldl; intro _ _ _) | refine Keeps.ite (fun _ => ?_) (fun _ => ?_)

theorem State.coresSynced_keeps {s0 : State} (old s : State) (h0 : Keeps s0 old) (h1 : Keeps s0 s) : Keeps s0
    (State.coresSynced old s) := by
  unfold State.coresSynced
  with_reducible repeat' first | assumption | apply State.syncDomains_keeps | refine Keeps.ite (fun _ => ?_) (fun _ => ?_)

theorem State.loadTarget_keeps {s0 : State} (s : State) (d : Nat) (h0 : Keeps s0 s) : Keeps s0 (State.loadTarget s d) := by
  unfold State.loadTarget
  with_reducible repeat' first | assumption | apply State.actRestarted_keeps | split

theorem State.domUsable_keeps {s0 : State} (s : State) (d : Nat) (h0 : Keeps s0 s) : Keeps s0 (State.domUsable s d) := by
  unfold State.domUsable
  with_reducible repeat' first
    | assumption | apply State.setFld_keeps | apply State.startDomains_keeps | apply State.cphDerive_keeps
    | apply State.cphDispatch_keeps | apply State.portOn_keeps | apply State.moveQps_keeps | apply State.loadTarget_keeps
    | refine Keeps.ite (fun _ => ?_) (fun _ => ?_) | apply Keeps.upd

theorem State.selfFenceBed_keeps {s0 : State} (s : State) (b : Nat) (h0 : Keeps s0 s) : Keeps s0 (State.selfFenceBed s b) := by
  unfold State.selfFenceBed
  with_reducible repeat' first
    | assumption | apply State.setReg_keeps | apply State.bump_keeps | apply State.setBed_keeps | apply State.ledSync_keeps
    | apply State.dropCmd_keeps | apply State.modQp_keeps | (apply Keeps.foldl; intro _ _ _) | split

theorem State.dropStandby_keeps {s0 : State} (s : State) (h0 : Keeps s0 s) : Keeps s0 (State.dropStandby s) := by
  unfold State.dropStandby
  with_reducible repeat' first | assumption | apply Keeps.upd

theorem State.fenceUnit_keeps {s0 : State} (s : State) (src : Nat) (h0 : Keeps s0 s) : Keeps s0 (State.fenceUnit s src) := by
  unfold State.fenceUnit
  with_reducible repeat' first
    | assumption | apply State.setPort_keeps | apply State.rillLoseCore_keeps | apply State.cphLoseCore_keeps
    | apply State.linkLost_keeps | apply State.moveQps_keeps | refine Keeps.ite (fun _ => ?_) (fun _ => ?_) | apply Keeps.upd

theorem State.readmitUnit_keeps {s0 : State} (s : State) (src : Nat) (h0 : Keeps s0 s) : Keeps s0 (State.readmitUnit s src) := by
  unfold State.readmitUnit
  with_reducible repeat' first
    | assumption | apply State.setFld_keeps | apply State.rillDispatch_keeps | apply State.cphDispatch_keeps
    | apply State.moveQps_keeps | refine Keeps.ite (fun _ => ?_) (fun _ => ?_) | apply Keeps.upd

theorem State.retireDdr_keeps {s0 : State} (s : State) (c : Nat) (h0 : Keeps s0 s) : Keeps s0 (State.retireDdr s c) := by
  unfold State.retireDdr
  with_reducible repeat' first
    | assumption | apply State.setFld_keeps | apply State.setDirty_keeps | apply State.setBed_keeps
    | apply State.arrivalOf_keeps | (apply Keeps.foldl; intro _ _ _) | refine Keeps.ite (fun _ => ?_) (fun _ => ?_)

theorem State.selfTestReset_keeps {s0 : State} (s : State) (h0 : Keeps s0 s) : Keeps s0 (State.selfTestReset s) := by
  unfold State.selfTestReset
  with_reducible repeat' first | assumption | split | apply Keeps.upd

theorem State.resetNet_keeps {s0 : State} (s : State) (_level : Nat) (h0 : Keeps s0 s) : Keeps s0 (State.resetNet s _level) := by
  unfold State.resetNet
  with_reducible repeat' first | assumption | apply Keeps.upd

theorem State.sendLate_keeps {s0 : State} (s : State) (h0 : Keeps s0 s) : Keeps s0 (State.sendLate s) := by
  unfold State.sendLate
  with_reducible repeat' first
    | assumption | apply State.setFld_keeps | apply State.gusSend_keeps | (apply Keeps.foldl; intro _ _ _) | apply Keeps.upd

theorem State.afterCoreEpisode_keeps {s0 : State} (s : State) (h0 : Keeps s0 s) : Keeps s0 (State.afterCoreEpisode s) := by
  unfold State.afterCoreEpisode
  with_reducible repeat' first
    | assumption | apply State.actRestarted_keeps | apply State.releaseAll_keeps | apply State.sendLate_keeps
    | refine Keeps.ite (fun _ => ?_) (fun _ => ?_)

end Sys2Proof.Machine
end

