-- ==== Sys2Proof/Laws/KeepsReset.lean ====
section
/-! SUPPORT. `Keeps` for reset, start-up, Thimble, heartbeat, configuration and slot power, one lemma an operation. -/

namespace Sys2Proof.Machine

/-! ### Reset.lean -/

theorem State.resetUnits_keeps {s0 : State} (s : State) (level : Nat) (h0 : Keeps s0 s) : Keeps s0 (State.resetUnits s level)
    := by
  unfold State.resetUnits
  with_reducible repeat' first
    | assumption | apply State.setFld_keeps | apply State.selfTestReset_keeps | apply State.resetNet_keeps
    | refine Keeps.ite (fun _ => ?_) (fun _ => ?_) | apply Keeps.upd

theorem State.enterLevel_keeps {s0 : State} (s : State) (level : Nat) (h0 : Keeps s0 s) : Keeps s0 (State.enterLevel s level)
    := by
  unfold State.enterLevel
  with_reducible repeat' first
    | assumption | apply State.actAbandoned_keeps | apply State.resetUnits_keeps | refine Keeps.ite (fun _ => ?_) (fun _ => ?_)
    | apply Keeps.upd

theorem State.causeBit_keeps {s0 : State} (s : State) (src : Nat) (h0 : Keeps s0 s) : Keeps s0 (State.causeBit s src) := by
  unfold State.causeBit
  with_reducible repeat' first | assumption | apply State.setFld_keeps

theorem State.resetAssert_keeps {s0 : State} (s : State) (src reach : Nat) (h0 : Keeps s0 s) : Keeps s0 (State.resetAssert s
    src reach) := by
  unfold State.resetAssert
  with_reducible repeat' first
    | assumption | apply State.setFld_keeps | apply State.chargeAll_keeps | apply State.enterLevel_keeps
    | apply State.causeBit_keeps | split | apply Keeps.upd

theorem State.episodeRecord_keeps {s0 : State} (s : State) (h0 : Keeps s0 s) : Keeps s0 (State.episodeRecord s) := by
  unfold State.episodeRecord
  with_reducible repeat' first | assumption | apply State.bbxPut_keeps

theorem State.tryEnd_keeps {s0 : State} (s : State) (h0 : Keeps s0 s) : Keeps s0 (State.tryEnd s) := by
  unfold State.tryEnd
  with_reducible repeat' first
    | assumption | apply State.setFld_keeps | apply State.bump_keeps | apply State.chargeAll_keeps
    | apply State.afterCoreEpisode_keeps | apply State.episodeRecord_keeps | split | apply Keeps.upd

/-! ### Thimble.lean -/

theorem State.setSrc_keeps {s0 : State} (s : State) (src : Nat) (x : SrcSt) (h0 : Keeps s0 s) : Keeps s0 (State.setSrc s src x)
    := by
  unfold State.setSrc
  with_reducible repeat' first | assumption | apply Keeps.upd

theorem State.thmBoundary_keeps {s0 : State} (s : State) (src : Nat) (h0 : Keeps s0 s) : Keeps s0 (State.thmBoundary s src) := by
  unfold State.thmBoundary
  with_reducible repeat' first | assumption | apply State.applyRwl_keeps | apply State.applyRwls_keeps

theorem State.summary_keeps {s0 : State} (s : State) (src : Nat) (h0 : Keeps s0 s) : Keeps s0 (State.summary s src) := by
  unfold State.summary
  with_reducible repeat' first
    | assumption | apply State.bbxPut_keeps | apply State.setSrc_keeps | refine Keeps.ite (fun _ => ?_) (fun _ => ?_)

theorem State.record_keeps {s0 : State} (s : State) (src sev react code : Nat) (ctx : Bytes) (h0 : Keeps s0 s) : Keeps s0
    (State.record s src sev react code ctx) := by
  unfold State.record
  with_reducible repeat' first
    | assumption | apply State.setFld_keeps | apply State.bump_keeps | apply State.bbxPut_keeps | apply State.setSrc_keeps
    | apply State.summary_keeps | refine Keeps.ite (fun _ => ?_) (fun _ => ?_)

theorem State.twoCopies_keeps {s0 : State} (s : State) (base n : Nat) (body : Bytes) (genOff : Nat) (h0 : Keeps s0 s) : Keeps
    s0 (State.twoCopies s base n body genOff) := by
  unfold State.twoCopies
  with_reducible repeat' first | assumption | refine Keeps.updMram (Mem.wf_writeN _ _ _) ?_

theorem State.putFaultHist_keeps {s0 : State} (s : State) (h0 : Keeps s0 s) : Keeps s0 (State.putFaultHist s) := by
  unfold State.putFaultHist
  with_reducible repeat' first | assumption | apply State.twoCopies_keeps

theorem State.putFenceAt_keeps {s0 : State} (s : State) (i src : Nat) (h0 : Keeps s0 s) : Keeps s0 (State.putFenceAt s i src)
    := by
  unfold State.putFenceAt
  with_reducible repeat' first | assumption | refine Keeps.updMram (Mem.wf_writeN _ _ _) ?_

theorem State.freeFences_keeps {s0 : State} (s : State) (h0 : Keeps s0 s) : Keeps s0 (State.freeFences s) := by
  unfold State.freeFences
  with_reducible repeat' first
    | assumption | apply State.setSrc_keeps | apply State.putFenceAt_keeps | (apply Keeps.foldl; intro _ _ _)
    | refine Keeps.ite (fun _ => ?_) (fun _ => ?_) | apply Keeps.upd

theorem State.putFence_keeps {s0 : State} (s : State) (src : Nat) (h0 : Keeps s0 s) : Keeps s0 (State.putFence s src) := by
  unfold State.putFence
  with_reducible repeat' first
    | assumption | apply State.putFenceAt_keeps | apply State.freeFences_keeps | split | apply Keeps.upd

theorem State.fenceSrc_keeps {s0 : State} (s : State) (src : Nat) (perm : Bool) (h0 : Keeps s0 s) : Keeps s0 (State.fenceSrc s
    src perm) := by
  unfold State.fenceSrc
  with_reducible repeat' first
    | assumption | apply State.syncDomains_keeps | apply State.fenceUnit_keeps | apply State.setSrc_keeps
    | apply State.putFence_keeps

theorem State.requiet_keeps {s0 : State} (s : State) (src : Nat) (h0 : Keeps s0 s) : Keeps s0 (State.requiet s src) := by
  unfold State.requiet
  with_reducible repeat' first | assumption | apply State.setSrc_keeps | refine Keeps.ite (fun _ => ?_) (fun _ => ?_)

theorem State.faultNow_keeps {s0 : State} (s : State) (h0 : Keeps s0 s) : Keeps s0 (State.faultNow s) := by
  unfold State.faultNow
  with_reducible repeat' first
    | assumption | apply State.selfFenceBed_keeps | apply State.dropStandby_keeps | apply State.resetAssert_keeps
    | apply State.putFaultHist_keeps | (apply Keeps.foldl; intro _ _ _) | refine Keeps.ite (fun _ => ?_) (fun _ => ?_)
    | apply Keeps.upd

theorem State.putEntry_keeps {s0 : State} (s : State) (e : Nat) (d : Nat × Nat × Nat × Nat × Nat × Nat) (h0 : Keeps s0 s) :
    Keeps s0 (State.putEntry s e d) := by
  unfold State.putEntry
  with_reducible repeat' first | assumption | apply State.setFld_keeps

theorem State.putDefaults_keeps {s0 : State} (s : State) (h0 : Keeps s0 s) : Keeps s0 (State.putDefaults s) := by
  unfold State.putDefaults
  with_reducible repeat' first
    | assumption | apply State.putEntry_keeps | (apply Keeps.foldl; intro _ _ _) | refine Keeps.ite (fun _ => ?_) (fun _ => ?_)
    | apply Keeps.upd

theorem State.failActivation_keeps {s0 : State} (s : State) (src : Nat) (h0 : Keeps s0 s) : Keeps s0 (State.failActivation s
    src) := by
  unfold State.failActivation
  with_reducible repeat' first | assumption | apply Keeps.upd

theorem State.react_keeps {s0 : State} (s : State) (src act : Nat) (h0 : Keeps s0 s) : Keeps s0 (State.react s src act) := by
  unfold State.react
  with_reducible repeat' first
    | assumption | apply State.syncDomains_keeps | apply State.retireDdr_keeps | apply State.resetAssert_keeps
    | apply State.setSrc_keeps | apply State.fenceSrc_keeps | apply State.faultNow_keeps
    | refine Keeps.ite (fun _ => ?_) (fun _ => ?_)

theorem State.severe_keeps {s0 : State} (s : State) (src sev e code : Nat) (ctx : Bytes) (h0 : Keeps s0 s) : Keeps s0
    (State.severe s src sev e code ctx) := by
  unfold State.severe
  with_reducible repeat' first
    | assumption | apply State.setSrc_keeps | apply State.record_keeps | apply State.failActivation_keeps
    | apply State.react_keeps | refine Keeps.ite (fun _ => ?_) (fun _ => ?_)

theorem State.counted_keeps {s0 : State} (s : State) (src sev e code : Nat) (ctx : Bytes) (h0 : Keeps s0 s) : Keeps s0
    (State.counted s src sev e code ctx) := by
  unfold State.counted
  with_reducible repeat' first
    | assumption | apply State.setSrc_keeps | apply State.record_keeps | apply State.react_keeps | apply State.severe_keeps
    | refine Keeps.ite (fun _ => ?_) (fun _ => ?_)

theorem State.raise_keeps {s0 : State} (s : State) (src sev code : Nat) (ctx : Bytes) (h0 : Keeps s0 s) : Keeps s0 (State.raise
    s src sev code ctx) := by
  unfold State.raise
  with_reducible repeat' first
    | assumption | apply State.thmBoundary_keeps | apply State.record_keeps | apply State.requiet_keeps
    | apply State.putDefaults_keeps | apply State.failActivation_keeps | apply State.severe_keeps | apply State.counted_keeps
    | split | apply Keeps.upd

theorem State.readmit_keeps {s0 : State} (s : State) (src : Nat) (h0 : Keeps s0 s) : Keeps s0 (State.readmit s src) := by
  unfold State.readmit
  with_reducible repeat' first
    | assumption | apply State.syncDomains_keeps | apply State.readmitUnit_keeps | apply State.setSrc_keeps
    | apply State.record_keeps | apply State.putFence_keeps

theorem State.startCheck_keeps {s0 : State} (s : State) (src : Nat) (h0 : Keeps s0 s) : Keeps s0 (State.startCheck s src) := by
  unfold State.startCheck
  with_reducible repeat' first | assumption | apply State.syncDomains_keeps | apply State.setSrc_keeps

theorem State.endCheck_keeps {s0 : State} (s : State) (src : Nat) (passed : Bool) (h0 : Keeps s0 s) : Keeps s0 (State.endCheck
    s src passed) := by
  unfold State.endCheck
  with_reducible repeat' first
    | assumption | apply State.setSrc_keeps | apply State.record_keeps | apply State.fenceSrc_keeps
    | apply State.failActivation_keeps | apply State.readmit_keeps | refine Keeps.ite (fun _ => ?_) (fun _ => ?_)

theorem State.serviceFence_keeps {s0 : State} {s : State} {src : Nat} {r} (e : State.serviceFence s src = some r) (h0 : Keeps
    s0 s) : Keeps s0 r := by
  unfold State.serviceFence at e
  try dsimp only at e
  repeat' (split at e)
  repeat' (first
    | with_reducible assumption
    | with_reducible exact Keeps.refl _
    | with_reducible apply State.record_keeps
    | with_reducible apply State.fenceSrc_keeps
    | (with_reducible apply Keeps.foldl; intro _ _ _)
    | (with_reducible apply Keeps.foldl1; intro _ _ _)
    | with_reducible refine Keeps.ite (fun _ => ?_) (fun _ => ?_)
    | with_reducible refine Keeps.ite1 (fun _ => ?_) (fun _ => ?_)
    | with_reducible apply Keeps.getD
    | split at e
    | split
    | with_reducible intro _
    | (with_reducible injection ‹some _ = some _› with h; subst h)
    | (with_reducible injection ‹(_, _) = (_, _)› with h; subst h)
    | (with_reducible cases ‹none = some _›)
    | with_reducible apply Keeps.upd
    | dsimp only)

theorem State.serviceReadmit_keeps {s0 : State} (s : State) (src : Nat) (h0 : Keeps s0 s) : Keeps s0 (State.serviceReadmit s
    src) := by
  unfold State.serviceReadmit
  with_reducible repeat' first | assumption | apply State.startCheck_keeps | refine Keeps.ite (fun _ => ?_) (fun _ => ?_)

theorem State.clearPermanent_keeps {s0 : State} (s : State) (src : Nat) (h0 : Keeps s0 s) : Keeps s0 (State.clearPermanent s
    src) := by
  unfold State.clearPermanent
  with_reducible repeat' first
    | assumption | apply State.setSrc_keeps | apply State.record_keeps | apply State.putFence_keeps
    | apply State.startCheck_keeps | refine Keeps.ite (fun _ => ?_) (fun _ => ?_)

theorem State.coreKatFail_keeps {s0 : State} (s : State) (c : Nat) (h0 : Keeps s0 s) : Keeps s0 (State.coreKatFail s c) := by
  unfold State.coreKatFail
  with_reducible repeat' first
    | assumption | apply State.cphLoseCore_keeps | apply State.syncDomains_keeps | apply State.raise_keeps | apply Keeps.upd

theorem State.note_keeps {s0 : State} (s : State) (group : Nat) (ctx : Bytes) (h0 : Keeps s0 s) : Keeps s0 (State.note s group
    ctx) := by
  unfold State.note
  with_reducible repeat' first | assumption | apply State.raise_keeps

/-! ### Heartbeat.lean -/

theorem State.sendWord_keeps {s0 : State} (s : State) (h0 : Keeps s0 s) : Keeps s0 (State.sendWord s) := by
  unfold State.sendWord
  with_reducible repeat' first
    | assumption | apply State.emit_keeps | apply State.gusFrames_keeps | refine Keeps.ite (fun _ => ?_) (fun _ => ?_)
    | apply Keeps.upd

theorem State.sendWordOne_keeps {s0 : State} (s : State) (h0 : Keeps s0 s) : Keeps s0 (State.sendWordOne s) := by
  unfold State.sendWordOne
  with_reducible repeat' first
    | assumption | apply State.emit_keeps | apply State.gusFrames_keeps | refine Keeps.ite (fun _ => ?_) (fun _ => ?_)
    | apply Keeps.upd

theorem State.putTickStates_keeps {s0 : State} (s : State) (h0 : Keeps s0 s) : Keeps s0 (State.putTickStates s) := by
  unfold State.putTickStates
  with_reducible repeat' first | assumption | apply State.twoCopies_keeps | (apply Keeps.foldl; intro _ _ _) | split

theorem State.supplyEvent_keeps {s0 : State} (s : State) (detail : Nat) (h0 : Keeps s0 s) : Keeps s0 (State.supplyEvent s
    detail) := by
  unfold State.supplyEvent
  with_reducible repeat' first | assumption | apply State.raise_keeps

/-! ### CfgUnit.lean -/

theorem State.writeSet_keeps {s0 : State} {s : State} {f : Tab Word} {d : CfgData} {r} (e : State.writeSet s f d = some r) (h0
    : Keeps s0 s) : Keeps s0 r := by
  unfold State.writeSet at e
  try dsimp only at e
  repeat' (split at e)
  repeat' (first
    | with_reducible assumption
    | with_reducible exact Keeps.refl _
    | with_reducible apply State.note_keeps
    | with_reducible refine Keeps.updNor (Mem.wf_writeN _ _ _) ?_
    | (with_reducible apply Keeps.foldl; intro _ _ _)
    | (with_reducible apply Keeps.foldl1; intro _ _ _)
    | with_reducible refine Keeps.ite (fun _ => ?_) (fun _ => ?_)
    | with_reducible refine Keeps.ite1 (fun _ => ?_) (fun _ => ?_)
    | with_reducible apply Keeps.getD
    | split at e
    | split
    | with_reducible intro _
    | (with_reducible injection ‹some _ = some _› with h; subst h)
    | (with_reducible injection ‹(_, _) = (_, _)› with h; subst h)
    | (with_reducible cases ‹none = some _›)
    | with_reducible apply Keeps.upd
    | dsimp only)

theorem State.cfgCommit_keeps {s0 : State} {s : State} {r} (e : State.cfgCommit s = some r) (h0 : Keeps s0 s) : Keeps s0 r := by
  unfold State.cfgCommit at e
  try dsimp only at e
  repeat' (split at e)
  repeat' (first
    | with_reducible assumption
    | with_reducible exact Keeps.refl _
    | with_reducible refine State.writeSet_keeps (by with_reducible assumption) ?_
    | (with_reducible apply Keeps.foldl; intro _ _ _)
    | (with_reducible apply Keeps.foldl1; intro _ _ _)
    | with_reducible refine Keeps.ite (fun _ => ?_) (fun _ => ?_)
    | with_reducible refine Keeps.ite1 (fun _ => ?_) (fun _ => ?_)
    | with_reducible apply Keeps.getD
    | split at e
    | split
    | with_reducible intro _
    | (with_reducible injection ‹some _ = some _› with h; subst h)
    | (with_reducible injection ‹(_, _) = (_, _)› with h; subst h)
    | (with_reducible cases ‹none = some _›)
    | with_reducible apply Keeps.upd
    | dsimp only)

theorem State.commitData_keeps {s0 : State} {s : State} {d : CfgData} {r} (e : State.commitData s d = some r) (h0 : Keeps s0
    s) : Keeps s0 r := by
  unfold State.commitData at e
  try dsimp only at e
  repeat' (split at e)
  repeat' (first
    | with_reducible assumption
    | with_reducible exact Keeps.refl _
    | with_reducible refine State.writeSet_keeps (by with_reducible assumption) ?_
    | (with_reducible apply Keeps.foldl; intro _ _ _)
    | (with_reducible apply Keeps.foldl1; intro _ _ _)
    | with_reducible refine Keeps.ite (fun _ => ?_) (fun _ => ?_)
    | with_reducible refine Keeps.ite1 (fun _ => ?_) (fun _ => ?_)
    | with_reducible apply Keeps.getD
    | split at e
    | split
    | with_reducible intro _
    | (with_reducible injection ‹some _ = some _› with h; subst h)
    | (with_reducible injection ‹(_, _) = (_, _)› with h; subst h)
    | (with_reducible cases ‹none = some _›)
    | with_reducible apply Keeps.upd
    | dsimp only)

theorem State.commitOr_keeps {s0 : State} (s : State) (d : CfgData) (h0 : Keeps s0 s) : Keeps s0 (State.commitOr s d) := by
  unfold State.commitOr
  with_reducible repeat' first | assumption | refine State.commitData_keeps (by assumption) ?_ | split | apply Keeps.upd

theorem State.loadFields_keeps {s0 : State} (s : State) (f : Tab Word) (h0 : Keeps s0 s) : Keeps s0 (State.loadFields s f) := by
  unfold State.loadFields
  with_reducible repeat' first
    | assumption | apply State.setReg_keeps | apply State.applyRwb_keeps | (apply Keeps.foldl; intro _ _ _) | split
    | apply Keeps.upd

theorem State.readConfig_keeps {s0 : State} (s : State) (h0 : Keeps s0 s) : Keeps s0 (State.readConfig s) := by
  unfold State.readConfig
  with_reducible repeat' first | assumption | apply State.applyRwb_keeps | apply State.loadFields_keeps | split | apply Keeps.upd

/-! ### Power.lean -/

theorem State.railLow_keeps {s0 : State} (s : State) (i : RailInfo) (h0 : Keeps s0 s) : Keeps s0 (State.railLow s i) := by
  unfold State.railLow
  with_reducible repeat' first
    | assumption | apply State.setFld_keeps | apply State.linkLost_keeps | apply State.gusRetrain_keeps
    | apply State.resetAssert_keeps | apply State.supplyEvent_keeps | (apply Keeps.foldl; intro _ _ _) | split | apply Keeps.upd

theorem State.pfStep_keeps {s0 : State} (s : State) (p : PfSeq) (h0 : Keeps s0 s) : Keeps s0 (State.pfStep s p) := by
  unfold State.pfStep
  with_reducible repeat' first
    | assumption | apply State.at_keeps | apply State.resetAssert_keeps | apply State.sendWordOne_keeps
    | apply State.putTickStates_keeps | apply State.supplyEvent_keeps | (apply Keeps.foldl; intro _ _ _)
    | refine Keeps.ite (fun _ => ?_) (fun _ => ?_) | apply Keeps.upd

theorem State.releaseSource_keeps {s0 : State} (s : State) (src : Nat) (h0 : Keeps s0 s) : Keeps s0 (State.releaseSource s src)
    := by
  unfold State.releaseSource
  with_reducible repeat' first | assumption | apply State.tryEnd_keeps | split | apply Keeps.upd

theorem State.coreTested_keeps {s0 : State} (s : State) (domain : Nat) (passed : Bool) (h0 : Keeps s0 s) : Keeps s0
    (State.coreTested s domain passed) := by
  unfold State.coreTested
  with_reducible repeat' first | assumption | apply State.coreKatFail_keeps | refine Keeps.ite (fun _ => ?_) (fun _ => ?_)

theorem State.refDown_keeps {s0 : State} (s : State) (ref : Nat) (h0 : Keeps s0 s) : Keeps s0 (State.refDown s ref) := by
  unfold State.refDown
  with_reducible repeat' first
    | assumption | apply State.linkLost_keeps | apply State.gusRetrain_keeps | (apply Keeps.foldl; intro _ _ _)
    | refine Keeps.ite (fun _ => ?_) (fun _ => ?_) | apply Keeps.upd

theorem State.gclStepped_keeps {s0 : State} (s : State) (h0 : Keeps s0 s) : Keeps s0 (State.gclStepped s) := by
  unfold State.gclStepped
  with_reducible repeat' first
    | assumption | apply State.setFld_keeps | apply State.setNet_keeps | apply State.startNext_keeps
    | (apply Keeps.foldl; intro _ _ _) | split | apply Keeps.upd

theorem State.stepTime_keeps {s0 : State} (s : State) (offset : Int) (h0 : Keeps s0 s) : Keeps s0 (State.stepTime s offset) := by
  unfold State.stepTime
  with_reducible repeat' first
    | assumption | apply State.setFld_keeps | apply State.gclStepped_keeps | refine Keeps.ite (fun _ => ?_) (fun _ => ?_)
    | apply Keeps.upd

theorem State.slew_keeps {s0 : State} (s : State) (h0 : Keeps s0 s) : Keeps s0 (State.slew s) := by
  unfold State.slew
  with_reducible repeat' first | assumption | apply State.drawn_keeps | apply Keeps.upd

theorem State.sample_keeps {s0 : State} (s : State) (offset : Int) (mayStep : Bool) (h0 : Keeps s0 s) : Keeps s0 (State.sample
    s offset mayStep) := by
  unfold State.sample
  with_reducible repeat' first
    | assumption | apply State.stepTime_keeps | apply State.slew_keeps | refine Keeps.ite (fun _ => ?_) (fun _ => ?_)
    | apply Keeps.upd

/-! ### ResetCmds.lean -/

theorem State.bootEvent_keeps {s0 : State} (s : State) (detail : Nat) (h0 : Keeps s0 s) : Keeps s0 (State.bootEvent s detail)
    := by
  unfold State.bootEvent
  with_reducible repeat' first | assumption | apply State.raise_keeps

theorem State.strapEnd_keeps {s0 : State} (s : State) (code : Nat) (invalid : Bool) (rounds mean : Nat) (h0 : Keeps s0 s) :
    Keeps s0 (State.strapEnd s code invalid rounds mean) := by
  unfold State.strapEnd
  with_reducible repeat' first
    | assumption | apply State.setFld_keeps | apply State.tryEnd_keeps | apply State.bootEvent_keeps
    | refine Keeps.ite (fun _ => ?_) (fun _ => ?_) | apply Keeps.upd

theorem State.kick_keeps {s0 : State} (s : State) (value : Word) (h0 : Keeps s0 s) : Keeps s0 (State.kick s value) := by
  unfold State.kick
  with_reducible repeat' first | assumption | apply State.applyRwl_keeps | apply Keeps.upd

theorem State.stopBoot_keeps {s0 : State} (s : State) (fail : Nat) (h0 : Keeps s0 s) : Keeps s0 (State.stopBoot s fail) := by
  unfold State.stopBoot
  with_reducible repeat' first | assumption | apply State.bootEvent_keeps | apply Keeps.upd

theorem State.failBoot_keeps {s0 : State} (s : State) (fail : Nat) (h0 : Keeps s0 s) : Keeps s0 (State.failBoot s fail) := by
  unfold State.failBoot
  with_reducible repeat' first | assumption | apply State.bootEvent_keeps | apply Keeps.upd

theorem State.formatMram_keeps {s0 : State} (s : State) (h0 : Keeps s0 s) : Keeps s0 (State.formatMram s) := by
  unfold State.formatMram
  generalize bbxHeader _ _ _ = x
  generalize tickHeader _ = y
  refine ⟨?_⟩; dsimp only
  have hm : ((Mem.empty.writeN 0 x).writeN 0x1800000 y).wf = true := Mem.wf_writeN _ _ _ (Mem.wf_writeN _ _ _ rfl)
  exact ⟨h0.all.pending, h0.all.fuses, h0.all.now, h0.all.nor, fun _ => hm⟩

theorem State.boot2_keeps {s0 : State} (s : State) (i : StartInfo) (h0 : Keeps s0 s) : Keeps s0 (State.boot2 s i) := by
  unfold State.boot2
  with_reducible repeat' first
    | assumption | apply State.bbxWriteHeader_keeps | apply State.bbxDrain_keeps | apply State.episodeRecord_keeps
    | apply State.bootEvent_keeps | apply State.stopBoot_keeps | apply State.formatMram_keeps
    | refine Keeps.ite (fun _ => ?_) (fun _ => ?_) | apply Keeps.upd

theorem State.boot3_keeps {s0 : State} (s : State) (i : StartInfo) (h0 : Keeps s0 s) : Keeps s0 (State.boot3 s i) := by
  unfold State.boot3
  with_reducible repeat' first | assumption | apply State.stopBoot_keeps | split | apply Keeps.upd

theorem State.wholeStarted_keeps {s0 : State} (s : State) (h0 : Keeps s0 s) : Keeps s0 (State.wholeStarted s) := by
  unfold State.wholeStarted
  with_reducible repeat' first | assumption | apply State.setFld_keeps | apply State.actRestarted_keeps | split | apply Keeps.upd

theorem State.boot5_keeps {s0 : State} (s : State) (i : StartInfo) (h0 : Keeps s0 s) : Keeps s0 (State.boot5 s i) := by
  unfold State.boot5
  with_reducible repeat' first
    | assumption | apply State.emit_keeps | apply State.raise_keeps | apply State.failBoot_keeps
    | (apply Keeps.foldl; intro _ _ _) | split | apply Keeps.upd

theorem State.boot7_keeps {s0 : State} (s : State) (i : StartInfo) (h0 : Keeps s0 s) : Keeps s0 (State.boot7 s i) := by
  unfold State.boot7
  with_reducible repeat' first
    | assumption | apply State.setFld_keeps | apply State.stopBoot_keeps | (apply Keeps.foldl; intro _ _ _)
    | refine Keeps.ite (fun _ => ?_) (fun _ => ?_) | apply Keeps.upd

theorem State.startDebounce_keeps {s0 : State} (s : State) (h0 : Keeps s0 s) : Keeps s0 (State.startDebounce s) := by
  unfold State.startDebounce
  with_reducible repeat' first | assumption | apply Keeps.upd

theorem State.boot8_keeps {s0 : State} (s : State) (i : StartInfo) (h0 : Keeps s0 s) : Keeps s0 (State.boot8 s i) := by
  unfold State.boot8
  with_reducible repeat' first
    | assumption | apply State.putDefaults_keeps | apply State.stopBoot_keeps | apply State.failBoot_keeps
    | apply State.startDebounce_keeps | refine Keeps.ite (fun _ => ?_) (fun _ => ?_) | apply Keeps.upd

theorem State.sendOwed_keeps {s0 : State} (s : State) (h0 : Keeps s0 s) : Keeps s0 (State.sendOwed s) := by
  unfold State.sendOwed
  with_reducible repeat' first
    | assumption | apply State.rackSend_keeps | (apply Keeps.foldl; intro _ _ _) | refine Keeps.ite (fun _ => ?_) (fun _ => ?_)
    | apply Keeps.upd

theorem State.boot10_keeps {s0 : State} (s : State) (i : StartInfo) (h0 : Keeps s0 s) : Keeps s0 (State.boot10 s i) := by
  unfold State.boot10
  with_reducible repeat' first
    | assumption | apply State.putOwnAddrs_keeps | apply State.syncDomains_keeps | apply State.note_keeps
    | refine State.cfgCommit_keeps (by assumption) ?_ | apply State.failBoot_keeps | apply State.wholeStarted_keeps
    | apply State.sendOwed_keeps | split | apply Keeps.upd

theorem State.bootStep_keeps {s0 : State} (s : State) (i : StartInfo) (h0 : Keeps s0 s) : Keeps s0 (State.bootStep s i) := by
  unfold State.bootStep
  with_reducible repeat' first
    | assumption | apply State.syncDomains_keeps | apply State.readConfig_keeps | apply State.bootEvent_keeps
    | apply State.failBoot_keeps | apply State.boot2_keeps | apply State.boot3_keeps | apply State.boot5_keeps
    | apply State.boot7_keeps | apply State.boot8_keeps | apply State.boot10_keeps
    | refine Keeps.ite (fun _ => ?_) (fun _ => ?_) | apply Keeps.upd

/-! ### SpcUnit.lean -/

theorem State.setChan_keeps {s0 : State} (s : State) (k : Nat) (c : Chan) (h0 : Keeps s0 s) : Keeps s0 (State.setChan s k c) := by
  unfold State.setChan
  with_reducible repeat' first | assumption | apply Keeps.upd

theorem State.chanMet_keeps {s0 : State} (s : State) (k : Nat) (h0 : Keeps s0 s) : Keeps s0 (State.chanMet s k) := by
  unfold State.chanMet
  with_reducible repeat' first | assumption | apply State.setChan_keeps

theorem State.startIns_keeps {s0 : State} (s : State) (k : Nat) (h0 : Keeps s0 s) : Keeps s0 (State.startIns s k) := by
  unfold State.startIns
  with_reducible repeat' first | assumption | apply State.setChan_keeps

theorem State.wait_keeps {s0 : State} (s : State) (k : Nat) (ctx : RampCtx) (h0 : Keeps s0 s) : Keeps s0 (State.wait s k ctx)
    := by
  unfold State.wait
  with_reducible repeat' first
    | assumption | apply State.setChan_keeps | apply State.chanMet_keeps | apply State.startIns_keeps
    | refine Keeps.ite (fun _ => ?_) (fun _ => ?_)

theorem State.swapDone_keeps {s0 : State} (s : State) (h0 : Keeps s0 s) : Keeps s0 (State.swapDone s) := by
  unfold State.swapDone
  with_reducible repeat' first
    | assumption | apply State.actRestarted_keeps | refine Keeps.ite (fun _ => ?_) (fun _ => ?_) | apply Keeps.upd

theorem State.gateOff_keeps {s0 : State} (s : State) (k : Nat) (st : ChanSt) (h0 : Keeps s0 s) : Keeps s0 (State.gateOff s k
    st) := by
  unfold State.gateOff
  with_reducible repeat' first
    | assumption | apply State.syncDomains_keeps | apply State.setChan_keeps | apply State.swapDone_keeps

theorem State.softOff_keeps {s0 : State} (s : State) (k cause : Nat) (h0 : Keeps s0 s) : Keeps s0 (State.softOff s k cause) := by
  unfold State.softOff
  with_reducible repeat' first
    | assumption | apply State.setChan_keeps | apply State.wait_keeps | apply State.gateOff_keeps
    | refine Keeps.ite (fun _ => ?_) (fun _ => ?_)

theorem State.latch_keeps {s0 : State} (s : State) (k cause : Nat) (h0 : Keeps s0 s) : Keeps s0 (State.latch s k cause) := by
  unfold State.latch
  with_reducible repeat' first
    | assumption | apply State.bump_keeps | apply State.raise_keeps | apply State.setChan_keeps | apply State.gateOff_keeps

theorem State.dieFault_keeps {s0 : State} (s : State) (h0 : Keeps s0 s) : Keeps s0 (State.dieFault s) := by
  unfold State.dieFault
  with_reducible repeat' first | assumption | apply State.raise_keeps

theorem State.raiseReq_keeps {s0 : State} (s : State) (k : Nat) (auto : Bool) (h0 : Keeps s0 s) : Keeps s0 (State.raiseReq s k
    auto) := by
  unfold State.raiseReq
  with_reducible repeat' first
    | assumption | apply State.setChan_keeps | apply State.wait_keeps | refine Keeps.ite (fun _ => ?_) (fun _ => ?_)

theorem State.dropReq_keeps {s0 : State} (s : State) (k : Nat) (h0 : Keeps s0 s) : Keeps s0 (State.dropReq s k) := by
  unfold State.dropReq
  with_reducible repeat' first
    | assumption | apply State.setChan_keeps | apply State.gateOff_keeps | refine Keeps.ite (fun _ => ?_) (fun _ => ?_)

theorem State.ramp_keeps {s0 : State} (s : State) (k : Nat) (join : Bool) (h0 : Keeps s0 s) : Keeps s0 (State.ramp s k join) := by
  unfold State.ramp
  with_reducible repeat' first | assumption | apply State.setChan_keeps

theorem State.look_keeps {s0 : State} (s : State) (k vout : Nat) (h0 : Keeps s0 s) : Keeps s0 (State.look s k vout) := by
  unfold State.look
  with_reducible repeat' first
    | assumption | apply State.setChan_keeps | apply State.ramp_keeps | refine Keeps.ite (fun _ => ?_) (fun _ => ?_)

end Sys2Proof.Machine
end

