-- ==== Sys2Proof/Laws/KeepsBeds.lean ====
section
/-! SUPPORT. `Keeps` for beds, media and commands that run on them, one lemma an operation. -/

namespace Sys2Proof.Machine

/-! ### BedUnit.lean -/

theorem State.slotRequest_keeps {s0 : State} (s : State) (b raise_ drop : Nat) (h0 : Keeps s0 s) : Keeps s0 (State.slotRequest
    s b raise_ drop) := by
  unfold State.slotRequest
  with_reducible repeat' first | assumption | apply State.gusControl_keeps | refine Keeps.ite (fun _ => ?_) (fun _ => ?_)

theorem State.joinAsk_keeps {s0 : State} (s : State) (b : Nat) (h0 : Keeps s0 s) : Keeps s0 (State.joinAsk s b) := by
  unfold State.joinAsk
  with_reducible repeat' first
    | assumption | apply State.gusControl_keeps | apply State.setBed_keeps | refine Keeps.ite (fun _ => ?_) (fun _ => ?_) | split

theorem State.wakeMember_keeps {s0 : State} (s : State) (b m : Nat) (h0 : Keeps s0 s) : Keeps s0 (State.wakeMember s b m) := by
  unfold State.wakeMember
  with_reducible repeat' first
    | assumption | apply State.setBed_keeps | apply State.setPort_keeps | apply State.raiseReq_keeps
    | apply State.slotRequest_keeps | refine Keeps.ite (fun _ => ?_) (fun _ => ?_) | split

theorem State.newDrive_keeps {s0 : State} (s : State) (b m : Nat) (op : DriveOp) (sector count : Nat) (data : Bytes) (why :
    DrivePurpose) (h0 : Keeps s0 s) : Keeps s0 (State.newDrive s b m op sector count data why) := by
  unfold State.newDrive
  with_reducible repeat' first | assumption | split | apply Keeps.upd

theorem State.issueDrive_keeps {s0 : State} (s : State) (id : Nat) (h0 : Keeps s0 s) : Keeps s0 (State.issueDrive s id) := by
  unfold State.issueDrive
  with_reducible repeat' first
    | assumption | apply State.bump_keeps | apply State.pmuEvent_keeps | apply State.emit_keeps | apply State.modBed_keeps
    | apply State.gusSend_keeps | apply State.wakeMember_keeps | split | apply Keeps.upd

theorem State.driveCmd_keeps {s0 : State} (s : State) (b m : Nat) (op : DriveOp) (sector count : Nat) (data : Bytes) (why :
    DrivePurpose) (h0 : Keeps s0 s) : Keeps s0 (State.driveCmd s b m op sector count data why) := by
  unfold State.driveCmd
  with_reducible repeat' first | assumption | apply State.newDrive_keeps | apply State.issueDrive_keeps

theorem State.announcedWrite_keeps {s0 : State} (s : State) (b m sector : Nat) (data : Bytes) (why : DrivePurpose) (h0 : Keeps
    s0 s) : Keeps s0 (State.announcedWrite s b m sector data why) := by
  unfold State.announcedWrite
  with_reducible repeat' first
    | assumption | apply State.gusSend_keeps | apply State.newDrive_keeps | apply State.issueDrive_keeps
    | refine Keeps.ite (fun _ => ?_) (fun _ => ?_)

theorem State.issueStaged_keeps {s0 : State} (s : State) (b : Nat) (h0 : Keeps s0 s) : Keeps s0 (State.issueStaged s b) := by
  unfold State.issueStaged
  with_reducible repeat' first
    | assumption | apply State.setDirty_keeps | apply State.modBed_keeps | apply State.mod_keeps | apply State.wakeMember_keeps
    | apply State.driveCmd_keeps | (apply Keeps.foldl; intro _ _ _) | split

theorem State.stage_keeps {s0 : State} (s : State) (b : Nat) (r : Staged) (cap : Cap) (h0 : Keeps s0 s) : Keeps s0 (State.stage
    s b r cap) := by
  unfold State.stage
  with_reducible repeat' first
    | assumption | apply State.applyFld_keeps | apply State.setBed_keeps | apply State.gusSend_keeps
    | apply State.issueStaged_keeps | refine Keeps.ite (fun _ => ?_) (fun _ => ?_) | split

theorem State.memberOff_keeps {s0 : State} (s : State) (b slot : Nat) (h0 : Keeps s0 s) : Keeps s0 (State.memberOff s b slot)
    := by
  unfold State.memberOff
  with_reducible repeat' first
    | assumption | apply State.dropReq_keeps | apply State.slotRequest_keeps | refine Keeps.ite (fun _ => ?_) (fun _ => ?_)

theorem State.noteIdle_keeps {s0 : State} (s : State) (b m : Nat) (h0 : Keeps s0 s) : Keeps s0 (State.noteIdle s b m) := by
  unfold State.noteIdle
  with_reducible repeat' first
    | assumption | apply State.modBed_keeps | apply State.memberOff_keeps | refine Keeps.ite (fun _ => ?_) (fun _ => ?_)

theorem State.wakeFill_keeps {s0 : State} (s : State) (b : Nat) (h0 : Keeps s0 s) : Keeps s0 (State.wakeFill s b) := by
  unfold State.wakeFill
  with_reducible repeat' first
    | assumption | apply State.wakeMember_keeps | apply State.noteIdle_keeps | (apply Keeps.foldl; intro _ _ _) | split

theorem State.fixFill_keeps {s0 : State} (s : State) (b : Nat) (h0 : Keeps s0 s) : Keeps s0 (State.fixFill s b) := by
  unfold State.fixFill
  with_reducible repeat' first | assumption | apply State.applyFld_keeps | apply State.setBed_keeps | split | apply Keeps.upd

theorem State.bandDelta_keeps {s0 : State} (s : State) (b k : Nat) (h0 : Keeps s0 s) : Keeps s0 (State.bandDelta s b k) := by
  unfold State.bandDelta
  with_reducible repeat' first | assumption | apply State.delta_keeps | split

theorem State.trimCache_keeps {s0 : State} (s : State) (b : Nat) (h0 : Keeps s0 s) : Keeps s0 (State.trimCache s b) := by
  unfold State.trimCache
  with_reducible repeat' first | assumption | apply State.setBed_keeps | (apply Keeps.foldl1; intro _ _ _) | split

theorem State.startCkpt_keeps {s0 : State} (s : State) (b : Nat) (ks : List Nat) (after : Nat) (free : Bool) (h0 : Keeps s0 s)
    : Keeps s0 (State.startCkpt s b ks after free) := by
  unfold State.startCkpt
  with_reducible repeat' first
    | assumption | apply State.setBed_keeps | apply State.arrivalOf_keeps | apply State.deferAct_keeps
    | apply State.wakeMember_keeps | apply State.announcedWrite_keeps | (apply Keeps.foldl; intro _ _ _)
    | refine Keeps.ite (fun _ => ?_) (fun _ => ?_) | split

theorem State.startPages_keeps {s0 : State} (s : State) (b : Nat) (h0 : Keeps s0 s) : Keeps s0 (State.startPages s b) := by
  unfold State.startPages
  with_reducible repeat' first
    | assumption | apply State.modBed_keeps | refine State.arrivalOf_keepsE (by assumption) ?_ | apply State.wakeMember_keeps
    | apply State.startCkpt_keeps | (apply Keeps.foldl; intro _ _ _) | split

theorem State.forceClose_keeps {s0 : State} (s : State) (b : Nat) (ks : List Nat) (h0 : Keeps s0 s) : Keeps s0
    (State.forceClose s b ks) := by
  unfold State.forceClose
  with_reducible repeat' first | assumption | apply State.startCkpt_keeps

theorem State.wakeAll_keeps {s0 : State} (s : State) (b : Nat) (h0 : Keeps s0 s) : Keeps s0 (State.wakeAll s b) := by
  unfold State.wakeAll
  with_reducible repeat' first | assumption | apply State.wakeMember_keeps | (apply Keeps.foldl; intro _ _ _) | split

theorem State.startRebuild_keeps {s0 : State} (s : State) (b : Nat) (h0 : Keeps s0 s) : Keeps s0 (State.startRebuild s b) := by
  unfold State.startRebuild
  with_reducible repeat' first
    | assumption | apply State.setBed_keeps | apply State.delta_keeps | apply State.wakeAll_keeps | split

theorem State.tryRebuild_keeps {s0 : State} (s : State) (b : Nat) (h0 : Keeps s0 s) : Keeps s0 (State.tryRebuild s b) := by
  unfold State.tryRebuild
  with_reducible repeat' first
    | assumption | refine State.arrivalOf_keepsE (by assumption) ?_ | apply State.startRebuild_keeps | split

theorem State.resumeRebuild_keeps {s0 : State} (s : State) (b : Nat) (h0 : Keeps s0 s) : Keeps s0 (State.resumeRebuild s b) := by
  unfold State.resumeRebuild
  with_reducible repeat' first
    | assumption | apply State.modBed_keeps | refine State.arrivalOf_keepsE (by assumption) ?_ | apply State.wakeAll_keeps
    | apply State.tryRebuild_keeps | split

theorem State.bedEvent_keeps {s0 : State} (s : State) (src sev detail : Nat) (ctx : Bytes) (h0 : Keeps s0 s) : Keeps s0
    (State.bedEvent s src sev detail ctx) := by
  unfold State.bedEvent
  with_reducible repeat' first | assumption | apply State.raise_keeps

theorem State.putDesc_keeps {s0 : State} (s : State) (b : Nat) (h0 : Keeps s0 s) : Keeps s0 (State.putDesc s b) := by
  unfold State.putDesc
  with_reducible repeat' first
    | assumption | apply State.setBed_keeps | apply State.announcedWrite_keeps | (apply Keeps.foldl; intro _ _ _) | split

theorem State.bedState_keeps {s0 : State} (s : State) (b st : Nat) (h0 : Keeps s0 s) : Keeps s0 (State.bedState s b st) := by
  unfold State.bedState
  with_reducible repeat' first
    | assumption | apply State.setBed_keeps | apply State.delta_keeps | apply State.bedEvent_keeps | apply State.putDesc_keeps
    | split

theorem State.addLost_keeps {s0 : State} (s : State) (b : Nat) (rs : List LostRange) (h0 : Keeps s0 s) : Keeps s0
    (State.addLost s b rs) := by
  unfold State.addLost
  with_reducible repeat' first
    | assumption | apply State.delta_keeps | apply State.commitOr_keeps | apply State.bedEvent_keeps
    | (apply Keeps.foldl; intro _ _ _) | refine Keeps.ite (fun _ => ?_) (fun _ => ?_)

theorem State.settleOffline_keeps {s0 : State} (s : State) (b : Nat) (h0 : Keeps s0 s) : Keeps s0 (State.settleOffline s b) := by
  unfold State.settleOffline
  with_reducible repeat' first
    | assumption | apply State.setBed_keeps | apply State.modBed_keeps | apply State.actEndAny_keeps
    | apply State.noteIdle_keeps | apply State.putDesc_keeps | (apply Keeps.foldl; intro _ _ _) | split

theorem State.offline_keeps {s0 : State} (s : State) (b : Nat) (lost : List LostRange) (h0 : Keeps s0 s) : Keeps s0
    (State.offline s b lost) := by
  unfold State.offline
  with_reducible repeat' first
    | assumption | apply State.modBed_keeps | apply State.finish_keeps | apply State.startCkpt_keeps
    | apply State.bedState_keeps | apply State.addLost_keeps | apply State.settleOffline_keeps
    | (apply Keeps.foldl; intro _ _ _) | split | apply Keeps.upd

theorem State.judgeBed_keeps {s0 : State} (s : State) (b : Nat) (h0 : Keeps s0 s) : Keeps s0 (State.judgeBed s b) := by
  unfold State.judgeBed
  with_reducible repeat' first
    | assumption | apply State.bedState_keeps | apply State.addLost_keeps | apply State.offline_keeps | split

theorem State.coverStaged_keeps {s0 : State} (s : State) (b m : Nat) (h0 : Keeps s0 s) : Keeps s0 (State.coverStaged s b m) := by
  unfold State.coverStaged
  with_reducible repeat' first | assumption | apply State.modBed_keeps | apply State.forceClose_keeps | split

theorem State.memberFail_keeps {s0 : State} (s : State) (b m cause : Nat) (h0 : Keeps s0 s) : Keeps s0 (State.memberFail s b m
    cause) := by
  unfold State.memberFail
  with_reducible repeat' first
    | assumption | apply State.setBed_keeps | apply State.ledSync_keeps | apply State.actEndAny_keeps | apply State.delta_keeps
    | apply State.memberOff_keeps | apply State.fixFill_keeps | apply State.tryRebuild_keeps | apply State.bedEvent_keeps
    | apply State.putDesc_keeps | apply State.judgeBed_keeps | apply State.coverStaged_keeps | split | apply Keeps.upd

theorem State.countUre_keeps {s0 : State} (s : State) (b m : Nat) (h0 : Keeps s0 s) : Keeps s0 (State.countUre s b m) := by
  unfold State.countUre
  with_reducible repeat' first
    | assumption | apply State.bump_keeps | apply State.applyFld_keeps | apply State.setBed_keeps | apply State.memberFail_keeps
    | split | apply Keeps.upd

/-! ### OwnJobs.lean -/

theorem State.rillTurn_keeps {s0 : State} (s : State) (n : Nat) (h0 : Keeps s0 s) : Keeps s0 (State.rillTurn s n).1 := by
  unfold State.rillTurn
  with_reducible repeat' first | assumption | apply State.applyRwl_keeps | apply State.coresSynced_keeps | split

theorem State.rillTurn_keepsE {s0 : State} {s : State} {n : Nat} {t0} {q0} (e : State.rillTurn s n = (t0, q0)) (h0 : Keeps s0
    s) : Keeps s0 t0 := by
  have := State.rillTurn_keeps (s0 := s0) s n  h0
  rw [e] at this; exact this

theorem State.cphTurn_keeps {s0 : State} (s : State) (q : Nat) (keys : List (Nat × Nat × Nat)) (h0 : Keeps s0 s) : Keeps s0
    (State.cphTurn s q keys).1 := by
  unfold State.cphTurn
  with_reducible repeat' first | assumption | apply State.applyRwl_keeps | apply State.coresSynced_keeps

theorem State.cphTurn_keepsE {s0 : State} {s : State} {q : Nat} {keys : List (Nat × Nat × Nat)} {t0} {q0} (e : State.cphTurn s
    q keys = (t0, q0)) (h0 : Keeps s0 s) : Keeps s0 t0 := by
  have := State.cphTurn_keeps (s0 := s0) s q keys  h0
  rw [e] at this; exact this

theorem State.sealTurn_keeps {s0 : State} (s : State) (arr : Nat) (h0 : Keeps s0 s) : Keeps s0 (State.sealTurn s arr).1 := by
  unfold State.sealTurn
  with_reducible repeat' first | assumption | apply State.cphTurn_keeps

theorem State.sealTurn_keepsE {s0 : State} {s : State} {arr : Nat} {t0} {q0} (e : State.sealTurn s arr = (t0, q0)) (h0 : Keeps
    s0 s) : Keeps s0 t0 := by
  have := State.sealTurn_keeps (s0 := s0) s arr  h0
  rw [e] at this; exact this

theorem State.ingestTurn_keeps {s0 : State} (s : State) (arr : Nat) (rill : Bool) (h0 : Keeps s0 s) : Keeps s0
    (State.ingestTurn s arr rill).1 := by
  unfold State.ingestTurn
  with_reducible repeat' first | assumption | apply State.rillTurn_keeps | apply State.sealTurn_keeps | split

theorem State.ingestTurn_keepsE {s0 : State} {s : State} {arr : Nat} {rill : Bool} {t0} {q0} (e : State.ingestTurn s arr rill =
    (t0, q0)) (h0 : Keeps s0 s) : Keeps s0 t0 := by
  have := State.ingestTurn_keeps (s0 := s0) s arr rill  h0
  rw [e] at this; exact this

theorem State.rillBytes_keeps {s0 : State} (s : State) (c : Nat) (f : OwnJob) (h0 : Keeps s0 s) : Keeps s0 (State.rillBytes s c
    f) := by
  unfold State.rillBytes
  with_reducible repeat' first | assumption | apply State.pmuEvent_keeps

theorem State.rillJob_keeps {s0 : State} (s : State) (free : List Nat) (ctx : Nat) (f : OwnJob) (h0 : Keeps s0 s) : Keeps s0
    (State.rillJob s free ctx f) := by
  unfold State.rillJob
  with_reducible repeat' first
    | assumption | apply State.bump_keeps | apply State.rillError_keeps | apply State.rillBytes_keeps
    | refine Keeps.ite (fun _ => ?_) (fun _ => ?_)

theorem State.cipherJob_keeps {s0 : State} (s : State) (c ctx : Nat) (f : OwnJob) (h0 : Keeps s0 s) : Keeps s0 (State.cipherJob
    s c ctx f) := by
  unfold State.cipherJob
  with_reducible repeat' first
    | assumption | apply State.pmuEvent_keeps | apply State.pruneKeys_keeps | apply State.useKey_keeps
    | apply State.cphFail_keeps | apply State.raise_keeps | refine Keeps.ite (fun _ => ?_) (fun _ => ?_)

theorem State.ownJob_keeps {s0 : State} (s : State) (by_ b : Nat) (f : OwnJob) (h0 : Keeps s0 s) : Keeps s0 (State.ownJob s by_
    b f) := by
  unfold State.ownJob
  with_reducible repeat' first
    | assumption | apply State.rillJob_keeps | apply State.cipherJob_keeps | refine Keeps.ite (fun _ => ?_) (fun _ => ?_)

theorem State.ingestAll_keeps {s0 : State} (arr b : Nat) (n : Namespace) (l : List (Nat × Bytes)) (s : State) (h0 : Keeps s0 s) :
    Keeps s0 (State.ingestAll arr b n l s).1 := by
  induction l generalizing s with
  | nil => exact h0
  | cons a l ih =>
    obtain ⟨ref, bytes⟩ := a
    unfold State.ingestAll
    have h1 : ∀ r : Nat × Bytes, Keeps s0 (if n.modeD then s.ownJob (s.jobBy arr 1) b ⟨true, r.1, 1, 0, ref, (0, 0, 0), bytes.length, r.2.length⟩ else s) := by
      intro r
      split
      · exact State.ownJob_keeps _ _ _ _ h0
      · exact h0
    by_cases hm : n.modeD = true
    · simp only [hm, if_true] at h1 ⊢
      split
      · exact h1 _
      · exact ih _ (h1 _)
    · simp only [hm, Bool.false_eq_true, if_false]
      split
      · exact h0
      · exact ih _ h0

theorem State.ingestAll_keepsE {s0 : State} {arr b : Nat} {n : Namespace} {l : List (Nat × Bytes)} {s : State} {r q}
    (e : State.ingestAll arr b n l s = (r, q)) (h0 : Keeps s0 s) : Keeps s0 r := by
  have := State.ingestAll_keeps (s0 := s0) arr b n l s h0
  rw [e] at this; exact this

theorem State.rillRound_keeps {s0 : State} (s : State) (c : Nat) (passed : Bool) (h0 : Keeps s0 s) : Keeps s0 (State.rillRound
    s c passed) := by
  unfold State.rillRound
  with_reducible repeat' first
    | assumption | apply State.rillError_keeps | apply State.raise_keeps | (apply Keeps.foldl; intro _ _ _)
    | refine Keeps.ite (fun _ => ?_) (fun _ => ?_)

theorem State.cphRound_keeps {s0 : State} (s : State) (c : Nat) (passed : Bool) (h0 : Keeps s0 s) : Keeps s0 (State.cphRound s
    c passed) := by
  unfold State.cphRound
  with_reducible repeat' first
    | assumption | apply State.cphFail_keeps | apply State.coreKatFail_keeps | refine Keeps.ite (fun _ => ?_) (fun _ => ?_)

theorem State.kdfRound_keeps {s0 : State} (s : State) (passed : Bool) (h0 : Keeps s0 s) : Keeps s0 (State.kdfRound s passed) := by
  unfold State.kdfRound
  with_reducible repeat' first
    | assumption | apply State.raise_keeps | refine Keeps.ite (fun _ => ?_) (fun _ => ?_) | apply Keeps.upd

theorem State.katRound_keeps {s0 : State} (s : State) (src : Nat) (passed : Bool) (h0 : Keeps s0 s) : Keeps s0 (State.katRound
    s src passed) := by
  unfold State.katRound
  with_reducible repeat' first
    | assumption | apply State.rillRound_keeps | apply State.cphRound_keeps | apply State.kdfRound_keeps
    | refine Keeps.ite (fun _ => ?_) (fun _ => ?_)

/-! ### ReadPath.lean -/

theorem State.countLook_keeps {s0 : State} (s : State) (arr pg : Nat) (hit : Bool) (h0 : Keeps s0 s) : Keeps s0
    (State.countLook s arr pg hit) := by
  unfold State.countLook
  with_reducible repeat' first | assumption | apply State.bump_keeps | apply State.mod_keeps | split

theorem State.indexLook_keeps {s0 : State} (s : State) (arr b : Nat) (x : Bed) (nsid : Nat) (key : Bytes) (media : List
    MediaRead) (h0 : Keeps s0 s) : Keeps s0 (State.indexLook s arr b x nsid key media).1 := by
  unfold State.indexLook
  with_reducible repeat' first
    | assumption | apply State.modBed_keeps | apply State.wakeMember_keeps | apply State.announcedWrite_keeps
    | apply State.trimCache_keeps | apply State.bedEvent_keeps | apply State.countLook_keeps
    | refine Keeps.ite (fun _ => ?_) (fun _ => ?_) | refine Keeps.ite1 (fun _ => ?_) (fun _ => ?_) | split

theorem State.indexLook_keepsE {s0 : State} {s : State} {arr b : Nat} {x : Bed} {nsid : Nat} {key : Bytes} {media : List
    MediaRead} {t0} {q0} (e : State.indexLook s arr b x nsid key media = (t0, q0)) (h0 : Keeps s0 s) : Keeps s0 t0 := by
  have := State.indexLook_keeps (s0 := s0) s arr b x nsid key media  h0
  rw [e] at this; exact this

theorem State.indexLooks_keeps {s0 : State} (s : State) (arr b nsid : Nat) (ks : List Bytes) (media : List MediaRead) (h0 :
    Keeps s0 s) : Keeps s0 (State.indexLooks s arr b nsid ks media).1 := by
  unfold State.indexLooks
  with_reducible repeat' first | assumption | apply State.indexLook_keeps | (apply Keeps.foldl1; intro _ _ _) | split

theorem State.indexLooks_keepsE {s0 : State} {s : State} {arr b nsid : Nat} {ks : List Bytes} {media : List MediaRead} {t0}
    {q0} (e : State.indexLooks s arr b nsid ks media = (t0, q0)) (h0 : Keeps s0 s) : Keeps s0 t0 := by
  have := State.indexLooks_keeps (s0 := s0) s arr b nsid ks media  h0
  rw [e] at this; exact this

theorem State.countReads_keeps {s0 : State} (s : State) (b : Nat) (media : List MediaRead) (h0 : Keeps s0 s) : Keeps s0
    (State.countReads s b media) := by
  unfold State.countReads
  with_reducible repeat' first
    | assumption | apply State.bump_keeps | apply State.pmuEvent_keeps | apply State.noteIdle_keeps | apply State.countUre_keeps
    | (apply Keeps.foldl; intro _ _ _) | split

theorem State.readTurn_keeps {s0 : State} (s : State) (q : Nat) (o : ReadOut) (h0 : Keeps s0 s) : Keeps s0 (State.readTurn s q
    o).1 := by
  unfold State.readTurn
  with_reducible repeat' first | assumption | apply State.rillTurn_keeps | apply State.cphTurn_keeps | split | apply Keeps.upd

theorem State.readTurn_keepsE {s0 : State} {s : State} {q : Nat} {o : ReadOut} {t0} {q0} (e : State.readTurn s q o = (t0, q0)) 
 (h0 : Keeps s0 s) : Keeps s0 t0 := by
  have := State.readTurn_keeps (s0 := s0) s q o  h0
  rw [e] at this; exact this

theorem State.noteRead_keeps {s0 : State} (s : State) (arr : Nat) (o : ReadOut) (h0 : Keeps s0 s) : Keeps s0 (State.noteRead s
    arr o) := by
  unfold State.noteRead
  with_reducible repeat' first | assumption | apply State.mod_keeps | refine Keeps.ite (fun _ => ?_) (fun _ => ?_)

theorem State.afterRead_keeps {s0 : State} (s : State) (b serial by_ : Nat) (o : ReadOut) (h0 : Keeps s0 s) : Keeps s0
    (State.afterRead s b serial by_ o) := by
  unfold State.afterRead
  with_reducible repeat' first
    | assumption | apply State.bump_keeps | apply State.raise_keeps | apply State.wakeMember_keeps
    | apply State.announcedWrite_keeps | apply State.bedEvent_keeps | apply State.addLost_keeps | apply State.offline_keeps
    | apply State.ownJob_keeps | (apply Keeps.foldl; intro _ _ _) | split | apply Keeps.upd

/-! ### Fold.lean -/

theorem State.openBand_keeps {s0 : State} (s : State) (b k : Nat) (media : List MediaRead) (h0 : Keeps s0 s) : Keeps s0
    (State.openBand s b k media).1 := by
  unfold State.openBand
  with_reducible repeat' first
    | assumption | apply State.bump_keeps | apply State.applyFld_keeps | apply State.modBed_keeps | apply State.wakeMember_keeps
    | apply State.bandDelta_keeps | apply State.forceClose_keeps | apply State.offline_keeps | apply State.afterRead_keeps
    | refine Keeps.ite1 (fun _ => ?_) (fun _ => ?_) | split

theorem State.openBand_keepsE {s0 : State} {s : State} {b k : Nat} {media : List MediaRead} {t0} {q0} (e : State.openBand s b k
    media = (t0, q0)) (h0 : Keeps s0 s) : Keeps s0 t0 := by
  have := State.openBand_keeps (s0 := s0) s b k media  h0
  rw [e] at this; exact this

theorem State.foldRec_keeps {s0 : State} (s : State) (b : Nat) (r : Staged) (h0 : Keeps s0 s) : Keeps s0 (State.foldRec s b r)
    := by
  unfold State.foldRec
  with_reducible repeat' first
    | assumption | apply State.bump_keeps | apply State.pmuEvent_keeps | apply State.setBed_keeps | apply State.mod_keeps
    | apply State.gusSend_keeps | apply State.delta_keeps | split

/-! ### IoUnit.lean -/

theorem State.judgeSpill_keeps {s0 : State} (s : State) (b arr : Nat) (c : NvmeCmd) (h0 : Keeps s0 s) : Keeps s0
    (State.judgeSpill s b arr c) := by
  unfold State.judgeSpill
  with_reducible repeat' first
    | assumption | apply State.applyFld_keeps | apply State.mod_keeps | refine Keeps.ite (fun _ => ?_) (fun _ => ?_)

theorem State.enterBoard_keeps {s0 : State} (s : State) (arr : Nat) (h0 : Keeps s0 s) : Keeps s0 (State.enterBoard s arr) := by
  unfold State.enterBoard
  with_reducible repeat' first
    | assumption | apply State.setBed_keeps | apply State.mod_keeps | apply State.delta_keeps | apply State.setPhase_keeps
    | apply State.judgeSpill_keeps | (apply Keeps.foldl; intro _ _ _) | refine Keeps.ite (fun _ => ?_) (fun _ => ?_) | split

theorem State.sendWake_keeps {s0 : State} (s : State) (reason : Nat) (h0 : Keeps s0 s) : Keeps s0 (State.sendWake s reason) := by
  unfold State.sendWake
  with_reducible repeat' first | assumption | apply State.bump_keeps | apply State.rackSend_keeps

theorem State.keepAlive_keeps {s0 : State} (s : State) (a : Nat) (h0 : Keeps s0 s) : Keeps s0 (State.keepAlive s a) := by
  unfold State.keepAlive
  with_reducible repeat' first | assumption | apply State.modAssoc_keeps

theorem State.darkWake_keeps {s0 : State} (s : State) (h0 : Keeps s0 s) : Keeps s0 (State.darkWake s) := by
  unfold State.darkWake
  with_reducible repeat' first
    | assumption | apply State.applyFld_keeps | apply State.sendWake_keeps | refine Keeps.ite (fun _ => ?_) (fun _ => ?_)
    | apply Keeps.upd

theorem State.darkAnswer_keeps {s0 : State} (s : State) (n : Nat) (cap : Cap) (status : Nat) (h0 : Keeps s0 s) : Keeps s0
    (State.darkAnswer s n cap status) := by
  unfold State.darkAnswer
  with_reducible repeat' first | assumption | apply State.drawn_keeps | apply State.sendCtl_keeps

theorem State.darkCapsule_keeps {s0 : State} (s : State) (n : Nat) (cap : Cap) (keepAlive : Bool) (h0 : Keeps s0 s) : Keeps s0
    (State.darkCapsule s n cap keepAlive) := by
  unfold State.darkCapsule
  with_reducible repeat' first
    | assumption | apply State.bump_keeps | apply State.keepAlive_keeps | apply State.darkWake_keeps
    | apply State.darkAnswer_keeps | refine Keeps.ite (fun _ => ?_) (fun _ => ?_) | apply Keeps.upd

theorem State.park_keeps {s0 : State} (s : State) (arr : Nat) (h0 : Keeps s0 s) : Keeps s0 (State.park s arr) := by
  unfold State.park
  with_reducible repeat' first
    | assumption | apply State.setPhase_keeps | apply State.sendWake_keeps | refine Keeps.ite (fun _ => ?_) (fun _ => ?_)
    | apply Keeps.upd

theorem State.putRecord_keeps {s0 : State} {s : State} {b arr kind magic flags orig ref : Nat} {pt : Bytes} {last : Bool}
    {r q}
    (e : State.putRecord s b arr kind magic flags orig ref pt last = some (r, q)) (h0 : Keeps s0 s) : Keeps s0 r := by
  unfold State.putRecord at e
  dsimp only at e
  repeat' (split at e)
  all_goals first
    | contradiction
    | (injection e with e; injection e with e1 e2; subst e1
       repeat' (first
        | assumption
        | with_reducible apply State.foldRec_keeps
        | with_reducible apply State.stage_keeps
        | with_reducible apply State.ownJob_keeps
        | with_reducible apply State.mod_keeps
        | with_reducible apply State.modBed_keeps
        | with_reducible apply State.setBed_keeps
        | split))

theorem State.refuse_keeps {s0 : State} (s : State) (b arr status : Nat) (h0 : Keeps s0 s) : Keeps s0 (State.refuse s b arr
    status) := by
  unfold State.refuse
  with_reducible repeat' first | assumption | apply State.modBed_keeps | apply State.finish_keeps

theorem State.noKey_keeps {s0 : State} (s : State) (b arr : Nat) (h0 : Keeps s0 s) : Keeps s0 (State.noKey s b arr) := by
  unfold State.noKey
  with_reducible repeat' first | assumption | apply State.ownJob_keeps | apply State.refuse_keeps

theorem putUnits_keeps {s0 : State} {b arr : Nat} {l} {s : State} {es} {r q}
    (e : putUnits b arr l s es = some (r, q)) (h0 : Keeps s0 s) : Keeps s0 r := by
  induction l generalizing s es with
  | nil => unfold putUnits at e; injection e with e; injection e with e1 e2; subst e1; exact h0
  | cons a l ih =>
    obtain ⟨u, k, mode, pt⟩ := a
    unfold putUnits at e
    split at e
    · cases e
    · rename_i h2
      exact ih e (State.putRecord_keeps h2 h0)

theorem State.setIndex_keeps {s0 : State} (s : State) (b : Nat) (l : List IndexEntry) (h0 : Keeps s0 s) : Keeps s0
    (State.setIndex s b l) := by
  unfold State.setIndex
  with_reducible repeat' first | assumption | apply State.setFld_keeps | apply State.modBed_keeps

theorem State.mapRoom_keeps {s0 : State} {s : State} {b arr n : Nat} {r q}
    (e : State.mapRoom s b arr n = some (r, q)) (h0 : Keeps s0 s) : Keeps s0 r := by
  unfold State.mapRoom at e
  dsimp only at e
  repeat' (split at e)
  all_goals first
    | contradiction
    | (injection e with e
       exact State.openBand_keepsE e (State.mod_keeps _ _ _ (State.setBed_keeps _ _ _ h0)))

theorem State.advance_keeps {s0 : State} (s : State) (b arr : Nat) (h0 : Keeps s0 s) : Keeps s0 (State.advance s b arr) := by
  unfold State.advance
  with_reducible repeat' first
    | assumption
    | (refine Keeps.foldlO _ (fun x a hx t e => (?_ : Keeps _ t)) _ (fun t e => ?_) _ (by assumption);
       next =>
         try dsimp only at e
         split at e
         · cases e
         · rw [Option.map_eq_some_iff] at e
           obtain ⟨⟨a, b⟩, h1, rfl⟩ := e
           (exact State.putRecord_keeps h1 (hx _ rfl))
       injection e with e; subst e)
    | apply State.mod_keeps
    | apply State.setPhase_keeps
    | apply State.sealTurn_keeps
    | refine State.putRecord_keeps (by assumption) ?_
    | apply State.refuse_keeps
    | apply State.noKey_keeps
    | refine State.mapRoom_keeps (by assumption) ?_
    | refine Keeps.ite (fun _ => ?_) (fun _ => ?_)
    | split
    | apply Keeps.upd

theorem State.advanceAll_keeps {s0 : State} (s : State) (b : Nat) (h0 : Keeps s0 s) : Keeps s0 (State.advanceAll s b) := by
  unfold State.advanceAll
  with_reducible repeat' first | assumption | apply State.advance_keeps | (apply Keeps.foldl; intro _ _ _)

theorem State.effect_keeps {s0 : State} (s : State) (b arr dw0 : Nat) (h0 : Keeps s0 s) : Keeps s0 (State.effect s b arr dw0)
    := by
  unfold State.effect
  with_reducible repeat' first | assumption | apply State.setPhase_keeps | apply State.finish_keeps | apply State.advanceAll_keeps

theorem State.applyMap_keeps {s0 : State} (s : State) (b arr : Nat) (h0 : Keeps s0 s) : Keeps s0 (State.applyMap s b arr) := by
  unfold State.applyMap
  with_reducible repeat' first
    | assumption | apply State.setBed_keeps | apply State.delta_keeps | apply State.effect_keeps
    | (apply Keeps.foldl; intro _ _ _) | split

theorem State.pinPressure_keeps {s0 : State} (s : State) (b : Nat) (h0 : Keeps s0 s) : Keeps s0 (State.pinPressure s b) := by
  unfold State.pinPressure
  with_reducible repeat' first | assumption | apply State.startPages_keeps | apply State.forceClose_keeps | split

theorem State.applyIndex_keeps {s0 : State} (s : State) (b arr : Nat) (h0 : Keeps s0 s) : Keeps s0 (State.applyIndex s b arr)
    := by
  unfold State.applyIndex
  with_reducible repeat' first
    | assumption | apply State.modBed_keeps | apply State.delta_keeps | apply State.setIndex_keeps | apply State.effect_keeps
    | apply State.pinPressure_keeps | split

theorem State.take_keeps {s0 : State} (s : State) (cap : Cap) (nsid : Nat) (c : NvmeCmd) (bad : Nat) (h0 : Keeps s0 s) : KeepsT
    s0 (State.take s cap nsid c bad) := by
  unfold State.take
  try dsimp only
  with_reducible repeat' first
    | assumption | apply State.setBed_keeps | apply State.mod_keeps | apply State.arrive_keeps | apply State.finish_keeps
    | apply State.enterBoard_keeps | apply State.darkCapsule_keeps | apply State.park_keeps
    | refine KeepsT.ite (fun _ => ?_) (fun _ => ?_) | apply KeepsT.stop | apply KeepsT.go | split

theorem State.take_keepsS {s0 : State} {s : State} {cap : Cap} {nsid : Nat} {c : NvmeCmd} {bad : Nat} {r} (e : State.take s cap
    nsid c bad = .stop r) (h0 : Keeps s0 s) : Keeps s0 r := by
  have := State.take_keeps (s0 := s0) s cap nsid c bad  h0
  rw [e] at this; exact this

theorem State.take_keepsG {s0 : State} {s : State} {cap : Cap} {nsid : Nat} {c : NvmeCmd} {bad : Nat} {r a1 a2 a3} (e :
    State.take s cap nsid c bad = .go r a1 a2 a3) (h0 : Keeps s0 s) : Keeps s0 r := by
  have := State.take_keeps (s0 := s0) s cap nsid c bad  h0
  rw [e] at this; exact this

theorem State.takeR_keeps {s0 : State} (s : State) (media : List MediaRead) (cap : Cap) (nsid : Nat) (c : NvmeCmd) (bad : Nat)
 (h0 : Keeps s0 s) : KeepsT s0 (State.takeR s media cap nsid c bad) := by
  unfold State.takeR
  with_reducible repeat' first
    | assumption | apply State.countReads_keeps | refine State.take_keepsS (by assumption) ?_
    | refine State.take_keepsG (by assumption) ?_ | apply KeepsT.stop | apply KeepsT.go | split | dsimp only

theorem State.takeR_keepsS {s0 : State} {s : State} {media : List MediaRead} {cap : Cap} {nsid : Nat} {c : NvmeCmd} {bad : Nat}
    {r} (e : State.takeR s media cap nsid c bad = .stop r) (h0 : Keeps s0 s) : Keeps s0 r := by
  have := State.takeR_keeps (s0 := s0) s media cap nsid c bad  h0
  rw [e] at this; exact this

theorem State.takeR_keepsG {s0 : State} {s : State} {media : List MediaRead} {cap : Cap} {nsid : Nat} {c : NvmeCmd} {bad : Nat}
    {r a1 a2 a3} (e : State.takeR s media cap nsid c bad = .go r a1 a2 a3) (h0 : Keeps s0 s) : Keeps s0 r := by
  have := State.takeR_keeps (s0 := s0) s media cap nsid c bad  h0
  rw [e] at this; exact this

theorem State.beginWork_keeps {s0 : State} (s : State) (arr : Nat) (h0 : Keeps s0 s) : Keeps s0 (State.beginWork s arr) := by
  unfold State.beginWork
  with_reducible repeat' first | assumption | apply State.setPhase_keeps | apply State.cmdDelta_keeps | split

/-! ### Ckpt.lean -/

theorem State.putSuper_keeps {s0 : State} (s : State) (b m : Nat) (clean : Bool) (f : Bed → Bed) (h0 : Keeps s0 s) : Keeps s0
    (State.putSuper s b m clean f) := by
  unfold State.putSuper
  with_reducible repeat' first | assumption | apply State.setBed_keeps | apply State.announcedWrite_keeps | split

theorem State.putPages_keeps {s0 : State} (s : State) (b snap : Nat) (h0 : Keeps s0 s) : Keeps s0 (State.putPages s b snap) := by
  unfold State.putPages
  with_reducible repeat' first
    | assumption | apply State.announcedWrite_keeps | apply State.putSuper_keeps | (apply Keeps.foldl; intro _ _ _) | split

theorem State.ckptMeta_keeps {s0 : State} (s : State) (b : Nat) (c : Ckpt) (h0 : Keeps s0 s) : Keeps s0 (State.ckptMeta s b c)
    := by
  unfold State.ckptMeta
  with_reducible repeat' first | assumption | apply State.modBed_keeps | apply State.putPages_keeps

theorem State.clearDirty_keeps {s0 : State} (s : State) (b : Nat) (c : Ckpt) (h0 : Keeps s0 s) : Keeps s0 (State.clearDirty s b
    c) := by
  unfold State.clearDirty
  with_reducible repeat' first
    | assumption | apply State.setDirty_keeps | apply State.delta_keeps | (apply Keeps.foldl; intro _ _ _)
    | refine Keeps.ite (fun _ => ?_) (fun _ => ?_) | split

theorem State.ckptGo_keeps {s0 : State} (s : State) (b : Nat) (h0 : Keeps s0 s) : Keeps s0 (State.ckptGo s b) := by
  unfold State.ckptGo
  with_reducible repeat' first | assumption | apply State.ckptMeta_keeps | split

theorem State.ckptOver_keeps {s0 : State} (s : State) (b : Nat) (c : Ckpt) (h0 : Keeps s0 s) : Keeps s0 (State.ckptOver s b c)
    := by
  unfold State.ckptOver
  with_reducible repeat' first
    | assumption | apply State.modBed_keeps | apply State.actEnd_keeps | apply State.forceClose_keeps
    | apply State.settleOffline_keeps | apply State.ckptGo_keeps

theorem State.endCkpt_keeps {s0 : State} (s : State) (b : Nat) (c : Ckpt) (h0 : Keeps s0 s) : Keeps s0 (State.endCkpt s b c) := by
  unfold State.endCkpt
  with_reducible repeat' first
    | assumption | apply State.setBed_keeps | apply State.modBed_keeps | apply State.bandDelta_keeps
    | apply State.trimCache_keeps | apply State.advanceAll_keeps | apply State.ckptOver_keeps | (apply Keeps.foldl; intro _ _ _)
    | split

theorem State.failCkpt_keeps {s0 : State} (s : State) (b : Nat) (c : Ckpt) (h0 : Keeps s0 s) : Keeps s0 (State.failCkpt s b c)
    := by
  unfold State.failCkpt
  with_reducible repeat' first | assumption | apply State.modBed_keeps | apply State.advanceAll_keeps | apply State.ckptOver_keeps

theorem State.ckptNext_keeps {s0 : State} (s : State) (b : Nat) (c : Ckpt) (ok : Bool) (h0 : Keeps s0 s) : Keeps s0
    (State.ckptNext s b c ok) := by
  unfold State.ckptNext
  with_reducible repeat' first
    | assumption | apply State.modBed_keeps | apply State.advanceAll_keeps | apply State.clearDirty_keeps
    | apply State.ckptGo_keeps | apply State.endCkpt_keeps | apply State.failCkpt_keeps
    | refine Keeps.ite (fun _ => ?_) (fun _ => ?_) | apply Keeps.upd

theorem State.closePassed_keeps {s0 : State} (s : State) (b : Nat) (h0 : Keeps s0 s) : Keeps s0 (State.closePassed s b) := by
  unfold State.closePassed
  with_reducible repeat' first | assumption | apply State.startCkpt_keeps | (apply Keeps.foldl; intro _ _ _) | split

theorem State.foldFirst_keeps {s0 : State} (s : State) (b : Nat) (media : List MediaRead) (l : List Staged) (w : List Nat)
 (h0 : Keeps s0 s) : Keeps s0 (State.foldFirst s b media l w) := by
  induction l generalizing s w with
  | nil => exact h0
  | cons r rs ih =>
    unfold State.foldFirst
    split
    · exact ih _ _ h0
    · have h1 := State.openBand_keeps s b r.band media h0
      dsimp only
      split
      · exact ih _ _ h1
      · split
        · split
          · exact State.forceClose_keeps _ _ _ (State.foldRec_keeps _ _ _ h1)
          · exact State.foldRec_keeps _ _ _ h1
        · exact State.foldRec_keeps _ _ _ h1

theorem State.foldNext_keeps {s0 : State} (s : State) (b : Nat) (media : List MediaRead) (h0 : Keeps s0 s) : Keeps s0
    (State.foldNext s b media) := by
  unfold State.foldNext
  with_reducible repeat' first
    | assumption | apply State.openBand_keeps | apply State.advanceAll_keeps | apply State.closePassed_keeps
    | apply State.foldFirst_keeps | (apply Keeps.foldl; intro _ _ _) | split

theorem State.openMove_keeps {s0 : State} (s : State) (b nsid path : Nat) (c : NvmeCmd) (h0 : Keeps s0 s) : Keeps s0
    (State.openMove s b nsid path c).1 := by
  unfold State.openMove
  with_reducible repeat' first | assumption | apply State.enterBoard_keeps | apply Keeps.upd

theorem State.openMove_keepsE {s0 : State} {s : State} {b nsid path : Nat} {c : NvmeCmd} {t0} {q0} (e : State.openMove s b nsid
    path c = (t0, q0)) (h0 : Keeps s0 s) : Keeps s0 t0 := by
  have := State.openMove_keeps (s0 := s0) s b nsid path c  h0
  rw [e] at this; exact this

theorem State.moveTurn_keeps {s0 : State} (s : State) (n : Namespace) (nsid : Nat) (o : ReadOut) (h0 : Keeps s0 s) : Keeps s0
    (State.moveTurn s n nsid o).1 := by
  unfold State.moveTurn
  with_reducible repeat' first
    | assumption | apply State.cphTurn_keeps | apply State.readTurn_keeps | refine Keeps.ite1 (fun _ => ?_) (fun _ => ?_)

theorem State.moveTurn_keepsE {s0 : State} {s : State} {n : Namespace} {nsid : Nat} {o : ReadOut} {t0} {q0} (e : State.moveTurn
    s n nsid o = (t0, q0)) (h0 : Keeps s0 s) : Keeps s0 t0 := by
  have := State.moveTurn_keeps (s0 := s0) s n nsid o  h0
  rw [e] at this; exact this

theorem State.moveUnits_keeps {s0 : State} (s : State) (path b : Nat) (x : Bed) (nsid : Nat) (n : Namespace) (m sector u : Nat)
    (media : List MediaRead) (h0 : Keeps s0 s) : Keeps s0 (State.moveUnits s path b x nsid n m sector u media) := by
  unfold State.moveUnits
  with_reducible repeat' first
    | assumption | apply State.mod_keeps | apply State.fixFill_keeps | apply State.afterRead_keeps
    | refine State.putRecord_keeps (by assumption) ?_ | apply State.refuse_keeps | apply State.advance_keeps
    | apply State.openMove_keeps | refine State.moveTurn_keepsE (by assumption) ?_ | split | apply Keeps.upd

theorem State.storeMoved_keeps {s0 : State} (s : State) (path b : Nat) (e : IndexEntry) (raw : List (Nat × Nat × Bytes × Bool))
 (h0 : Keeps s0 s) : Keeps s0 (State.storeMoved s path b e raw) := by
  unfold State.storeMoved
  with_reducible repeat' first
    | assumption
    | (refine Keeps.foldlO1 _ (fun x a hx t b e => (?_ : Keeps _ t)) _ (fun t b e => ?_) _ _ (by assumption);
       next =>
         try dsimp only at e
         split at e
         · cases e
         · split at e
           · cases e
           · rename_i h2
             injection e with e; injection e with e1 e2; subst e1
             (exact State.putRecord_keeps h2 (hx _ _ rfl))
       injection e with e; injection e with e1 e2; subst e1)
    | apply State.mod_keeps
    | apply State.fixFill_keeps
    | apply State.refuse_keeps
    | apply State.advance_keeps
    | refine State.openMove_keepsE (by assumption) ?_
    | split
    | apply Keeps.upd

theorem State.moveObject_keeps {s0 : State} (s : State) (path b : Nat) (x : Bed) (n : Namespace) (e : IndexEntry) (media : List
    MediaRead) (h0 : Keeps s0 s) : Keeps s0 (State.moveObject s path b x n e media) := by
  unfold State.moveObject
  with_reducible repeat' first
    | assumption | apply State.afterRead_keeps | apply State.moveTurn_keeps | apply State.storeMoved_keeps
    | refine Keeps.ite (fun _ => ?_) (fun _ => ?_)

theorem State.beginCompact_keeps {s0 : State} (s : State) (b : Nat) (h0 : Keeps s0 s) : Keeps s0 (State.beginCompact s b) := by
  unfold State.beginCompact
  with_reducible repeat' first | assumption | apply State.setBed_keeps | split

theorem State.checkCompact_keeps {s0 : State} (s : State) (b : Nat) (h0 : Keeps s0 s) : Keeps s0 (State.checkCompact s b) := by
  unfold State.checkCompact
  with_reducible repeat' first
    | assumption | apply State.applyFld_keeps | refine State.arrivalOf_keepsE (by assumption) ?_
    | apply State.beginCompact_keeps | split | apply Keeps.upd

theorem State.moveRow_keeps {s0 : State} (s : State) (b row : Nat) (media : List MediaRead) (h0 : Keeps s0 s) : Keeps s0
    (State.moveRow s b row media) := by
  unfold State.moveRow
  with_reducible repeat' first
    | assumption | apply State.wakeMember_keeps | apply State.wakeFill_keeps | apply State.fixFill_keeps
    | apply State.moveUnits_keeps | apply State.moveObject_keeps | (apply Keeps.foldl; intro _ _ _) | split | apply Keeps.upd

theorem State.reclaimRow_keeps {s0 : State} (s : State) (b row : Nat) (h0 : Keeps s0 s) : Keeps s0 (State.reclaimRow s b row)
    := by
  unfold State.reclaimRow
  with_reducible repeat' first
    | assumption | apply State.setDirty_keeps | apply State.modBed_keeps | apply State.actEndAny_keeps | apply State.delta_keeps
    | apply State.driveCmd_keeps | apply State.announcedWrite_keeps | apply State.bandDelta_keeps
    | (apply Keeps.foldl; intro _ _ _) | split

theorem State.walkJobs_keeps {s0 : State} (s : State) (b : Nat) (ws : List Walked) (h0 : Keeps s0 s) : Keeps s0 (State.walkJobs
    s b ws) := by
  unfold State.walkJobs
  with_reducible repeat' first | assumption | apply State.ownJob_keeps | (apply Keeps.foldl; intro _ _ _)

theorem State.mountBed_keeps {s0 : State} (s : State) (a : MountAnswer) (h0 : Keeps s0 s) : Keeps s0 (State.mountBed s a) := by
  unfold State.mountBed
  with_reducible repeat' first
    | assumption | apply State.setFld_keeps | apply State.setDirty_keeps | apply State.setBed_keeps | apply State.ledSync_keeps
    | apply State.arrivalOf_keeps | apply State.bedEvent_keeps | apply State.judgeBed_keeps | apply State.memberFail_keeps
    | apply State.countReads_keeps | apply State.setIndex_keeps | apply State.walkJobs_keeps | (apply Keeps.foldl; intro _ _ _)
    | split | apply Keeps.upd

theorem State.superAll_keeps {s0 : State} (s : State) (b : Nat) (clean : Bool) (h0 : Keeps s0 s) : Keeps s0 (State.superAll s b
    clean) := by
  unfold State.superAll
  with_reducible repeat' first
    | assumption | apply State.announcedWrite_keeps | apply State.putSuper_keeps | (apply Keeps.foldl; intro _ _ _) | split

/-! ### IoCmds.lean -/

theorem State.runWrite_keeps {s0 : State} (s : State) (arr b : Nat) (n : Namespace) (cap : Cap) (slba nlb : Nat) (d : DataPtr)
    (data : Bytes) (media : List MediaRead) (h0 : Keeps s0 s) : Keeps s0 (State.runWrite s arr b n cap slba nlb d data media) := by
  unfold State.runWrite
  with_reducible repeat' first
    | assumption | apply State.mod_keeps | apply State.fromHost_keeps | apply State.wakeFill_keeps | apply State.fixFill_keeps
    | apply State.ingestTurn_keeps | apply State.ingestAll_keeps | apply State.readTurn_keeps | apply State.noteRead_keeps
    | apply State.afterRead_keeps | apply State.refuse_keeps | apply State.noKey_keeps
    | refine putUnits_keeps (by assumption) ?_ | apply State.advance_keeps | refine Keeps.ite (fun _ => ?_) (fun _ => ?_)
    | split | apply Keeps.upd

theorem State.runRead_keeps {s0 : State} (s : State) (arr b : Nat) (n : Namespace) (cap : Cap) (slba nlb : Nat) (d : Option
    DataPtr) (media : List MediaRead) (h0 : Keeps s0 s) : Keeps s0 (State.runRead s arr b n cap slba nlb d media) := by
  unfold State.runRead
  with_reducible repeat' first
    | assumption | apply State.toHost_keeps | apply State.finish_keeps | apply State.readTurn_keeps | apply State.noteRead_keeps
    | apply State.afterRead_keeps | apply State.advanceAll_keeps | apply State.effect_keeps | apply State.beginWork_keeps
    | refine Keeps.ite (fun _ => ?_) (fun _ => ?_) | split

theorem State.runZero_keeps {s0 : State} (s : State) (arr b : Nat) (n : Namespace) (rs : List (Nat × Nat)) (media : List
    MediaRead) (h0 : Keeps s0 s) : Keeps s0 (State.runZero s arr b n rs media) := by
  unfold State.runZero
  with_reducible repeat' first
    | assumption | apply State.mod_keeps | apply State.fixFill_keeps | apply State.ingestTurn_keeps
    | apply State.ingestAll_keeps | apply State.readTurn_keeps | apply State.noteRead_keeps | apply State.afterRead_keeps
    | apply State.refuse_keeps | apply State.noKey_keeps | refine putUnits_keeps (by assumption) ?_ | apply State.advance_keeps
    | apply State.effect_keeps | refine Keeps.ite (fun _ => ?_) (fun _ => ?_) | split | apply Keeps.upd

theorem State.unsupported_keeps {s0 : State} (s : State) (cap : Cap) (nsid opcode : Nat) (h0 : Keeps s0 s) : Keeps s0
    (State.unsupported s cap nsid opcode) := by
  unfold State.unsupported
  with_reducible repeat' first
    | assumption | refine State.take_keepsS (by assumption) ?_ | refine State.take_keepsG (by assumption) ?_ | split

theorem putChunks_keeps {s0 : State} {b arr serial : Nat} {l} {s : State} {ext} {k : Nat} {r q}
    (e : putChunks b arr serial l s ext k = some (r, q)) (h0 : Keeps s0 s) : Keeps s0 r := by
  induction l generalizing s ext k with
  | nil => unfold putChunks at e; injection e with e; injection e with e1 e2; subst e1; exact h0
  | cons a l ih =>
    obtain ⟨f, o, pt, la⟩ := a
    unfold putChunks at e
    dsimp only at e
    split at e
    · cases e
    · rename_i h2
      exact ih e (State.putRecord_keeps h2 h0)

theorem State.chunksOf_keeps {s0 : State} (s : State) (arr b : Nat) (n : Namespace) (serial : Nat) (data : Bytes) (h0 : Keeps
    s0 s) : Keeps s0 (State.chunksOf s arr b n serial data).1 := by
  unfold State.chunksOf
  with_reducible repeat' first | assumption | apply State.ingestAll_keeps

theorem State.chunksOf_keepsE {s0 : State} {s : State} {arr b : Nat} {n : Namespace} {serial : Nat} {data : Bytes} {t0} {q0} (e
    : State.chunksOf s arr b n serial data = (t0, q0)) (h0 : Keeps s0 s) : Keeps s0 t0 := by
  have := State.chunksOf_keeps (s0 := s0) s arr b n serial data  h0
  rw [e] at this; exact this

theorem State.storeValue_keeps {s0 : State} (s : State) (arr b : Nat) (key : Bytes) (imported : Bool) (mode len : Nat) (cs :
    List (Nat × Nat × Bytes × Bool)) (h0 : Keeps s0 s) : Keeps s0 (State.storeValue s arr b key imported mode len cs) := by
  unfold State.storeValue
  with_reducible repeat' first
    | assumption | apply State.mod_keeps | apply State.wakeFill_keeps | apply State.fixFill_keeps | apply State.refuse_keeps
    | apply State.advance_keeps | refine putChunks_keeps (by assumption) ?_ | split | apply Keeps.upd

theorem State.withEntry_keeps {s0 : State} (s : State) (arr b nsid : Nat) (key : Bytes) (media : List MediaRead) (f : State →
    Bed → IndexEntry → State) (hff : ∀ t0 t1 t2, Keeps s0 t0 → Keeps s0 (f t0 t1 t2)) (h0 : Keeps s0 s) : Keeps s0 (State.withEntry s arr b nsid key media f) := by
  unfold State.withEntry
  with_reducible repeat' first
    | assumption | (apply hff) | apply State.mod_keeps | apply State.finish_keeps
    | refine State.indexLook_keepsE (by assumption) ?_ | apply State.advanceAll_keeps | split

theorem State.runRecord_keeps {s0 : State} (s : State) (arr b nsid : Nat) (key : Bytes) (media : List MediaRead) (h0 : Keeps s0
    s) : Keeps s0 (State.runRecord s arr b nsid key media) := by
  unfold State.runRecord
  with_reducible repeat' first
    | assumption | apply State.mod_keeps | apply State.fixFill_keeps | refine State.indexLook_keepsE (by assumption) ?_
    | apply State.refuse_keeps | apply State.noKey_keeps | apply State.advance_keeps | split

theorem State.runHold_keeps {s0 : State} (s : State) (cap : Cap) (nsid : Nat) (key : KvKey) (action until_ : Nat) (media : List
    MediaRead) (h0 : Keeps s0 s) : Keeps s0 (State.runHold s cap nsid key action until_ media) := by
  unfold State.runHold
  with_reducible repeat' first
    | assumption | refine State.takeR_keepsS (by assumption) ?_ | refine State.takeR_keepsG (by assumption) ?_
    | apply State.runRecord_keeps | split

theorem State.importJobs_keeps {s0 : State} (s : State) (arr b serial : Nat) (es : List (Nat × Bytes)) (h0 : Keeps s0 s) :
    Keeps s0 (State.importJobs s arr b serial es) := by
  unfold State.importJobs
  with_reducible repeat' first | assumption | apply State.ownJob_keeps | (apply Keeps.foldl; intro _ _ _)

theorem State.importRun_keeps {s0 : State} (s : State) (go : Bool) (arr b : Nat) (x : Bed) (serial nsid : Nat) (key : Bytes)
    (origLen : Nat) (es : List (Nat × Bytes)) (media : List MediaRead) (h0 : Keeps s0 s) : Keeps s0 (State.importRun s go arr b x serial nsid key origLen es media) := by
  unfold State.importRun
  with_reducible repeat' first
    | assumption | refine State.indexLook_keepsE (by assumption) ?_ | apply State.refuse_keeps | apply State.noKey_keeps
    | apply State.storeValue_keeps | apply State.importJobs_keeps | split

/-! ### BedCmds.lean -/

theorem State.writeDesc_keeps {s0 : State} (s : State) (b m : Nat) (h0 : Keeps s0 s) : Keeps s0 (State.writeDesc s b m) := by
  unfold State.writeDesc
  with_reducible repeat' first | assumption | apply State.modBed_keeps | apply State.announcedWrite_keeps | split

theorem State.admitNow_keeps {s0 : State} (s : State) (b m slot : Nat) (d : DriveInfo) (h0 : Keeps s0 s) : Keeps s0
    (State.admitNow s b m slot d) := by
  unfold State.admitNow
  with_reducible repeat' first
    | assumption | apply State.setBed_keeps | apply State.ledSync_keeps | apply State.actEnd_keeps | apply State.delta_keeps
    | apply State.setChan_keeps | apply State.driveCmd_keeps | apply State.tryRebuild_keeps | apply State.putDesc_keeps
    | apply State.judgeBed_keeps | apply State.putSuper_keeps | split

theorem State.admitDrive_keeps {s0 : State} (s : State) (b m slot : Nat) (d : DriveInfo) (forced : Bool) (session : Option (Nat
    × Nat)) (h0 : Keeps s0 s) : Keeps s0 (State.admitDrive s b m slot d forced session).1 := by
  unfold State.admitDrive
  with_reducible repeat' first
    | assumption | apply State.arrivalOf_keeps | apply State.admitNow_keeps | refine Keeps.ite (fun _ => ?_) (fun _ => ?_)
    | refine Keeps.ite1 (fun _ => ?_) (fun _ => ?_)

theorem State.admitDrive_keepsE {s0 : State} {s : State} {b m slot : Nat} {d : DriveInfo} {forced : Bool} {session : Option
    (Nat × Nat)} {t0} {q0} (e : State.admitDrive s b m slot d forced session = (t0, q0)) (h0 : Keeps s0 s) : Keeps s0 t0 := by
  have := State.admitDrive_keeps (s0 := s0) s b m slot d forced session  h0
  rw [e] at this; exact this

theorem State.consider_keeps {s0 : State} (s : State) (slot : Nat) (d : DriveInfo) (h0 : Keeps s0 s) : Keeps s0 (State.consider
    s slot d) := by
  unfold State.consider
  with_reducible repeat' first
    | assumption | apply State.applyFld_keeps | apply State.bedEvent_keeps | apply State.admitDrive_keeps | split
    | apply Keeps.upd

theorem State.driveDone_keeps {s0 : State} (s : State) (c : DriveCmd) (data : Bytes) (h0 : Keeps s0 s) : Keeps s0
    (State.driveDone s c data) := by
  unfold State.driveDone
  with_reducible repeat' first
    | assumption | apply State.modBed_keeps | apply State.setPort_keeps | apply State.gusSend_keeps | apply State.delta_keeps
    | apply State.joinAsk_keeps | apply State.advanceAll_keeps | apply State.closePassed_keeps | split

theorem State.fencedOut_keeps {s0 : State} (s : State) (b : Nat) (h0 : Keeps s0 s) : Keeps s0 (State.fencedOut s b) := by
  unfold State.fencedOut
  with_reducible repeat' first
    | assumption | apply State.modBed_keeps | apply State.dropCmd_keeps | apply State.selfFenceBed_keeps
    | (apply Keeps.foldl; intro _ _ _) | apply Keeps.upd

theorem State.driveLinkDown_keeps {s0 : State} (s : State) (slot : Nat) (peerReaches : Bool) (h0 : Keeps s0 s) : Keeps s0
    (State.driveLinkDown s slot peerReaches) := by
  unfold State.driveLinkDown
  with_reducible repeat' first
    | assumption | apply State.bump_keeps | apply State.modBed_keeps | apply State.setPort_keeps | apply State.issueDrive_keeps
    | (apply Keeps.foldl; intro _ _ _) | split | apply Keeps.upd

theorem relieveF_keeps {s0 : State} (n : Nat) (x : Nat) (s : State) (h0 : Keeps s0 s) : Keeps s0 (relieveF n x s) := by
  induction n generalizing s x with
  | zero => unfold relieveF; exact h0
  | succ n ih =>
    unfold relieveF
    try dsimp only
    repeat' (first
      | with_reducible assumption
      | with_reducible exact Keeps.refl _
      | with_reducible apply ih
      | with_reducible apply State.forceClose_keeps
      | (with_reducible apply Keeps.foldl; intro _ _ _)
      | (with_reducible apply Keeps.foldl1; intro _ _ _)
      | with_reducible refine Keeps.ite (fun _ => ?_) (fun _ => ?_)
      | with_reducible refine Keeps.ite1 (fun _ => ?_) (fun _ => ?_)
      | with_reducible apply Keeps.getD
      | split
      | with_reducible intro _
      | (with_reducible injection ‹some _ = some _› with h; subst h)
      | (with_reducible injection ‹(_, _) = (_, _)› with h; subst h)
      | (with_reducible cases ‹none = some _›)
      | with_reducible apply Keeps.upd
      | dsimp only)

theorem State.ckptNow_keeps {s0 : State} (s : State) (b : Nat) (h0 : Keeps s0 s) : Keeps s0 (State.ckptNow s b) := by
  unfold State.ckptNow
  with_reducible repeat' first | assumption | apply State.startCkpt_keeps | split

theorem State.passOver_keeps {s0 : State} (s : State) (b : Nat) (x : Bed) (r : Rebuild) (k : Nat) (h0 : Keeps s0 s) : Keeps s0
    (State.passOver s b x r k) := by
  unfold State.passOver
  with_reducible repeat' first | assumption | apply State.modBed_keeps | refine Keeps.ite (fun _ => ?_) (fun _ => ?_)

theorem State.rebuildDone_keeps {s0 : State} (s : State) (b : Nat) (h0 : Keeps s0 s) : Keeps s0 (State.rebuildDone s b) := by
  unfold State.rebuildDone
  with_reducible repeat' first
    | assumption | apply State.setBed_keeps | apply State.actEndAny_keeps | apply State.delta_keeps | apply State.fixFill_keeps
    | apply State.tryRebuild_keeps | apply State.putDesc_keeps | apply State.judgeBed_keeps | apply State.passOver_keeps | split

theorem State.rebuildSlice_keeps {s0 : State} (s : State) (b : Nat) (x : Bed) (r : Rebuild) (k off count : Nat) (media : List
    MediaRead) (h0 : Keeps s0 s) : Keeps s0 (State.rebuildSlice s b x r k off count media) := by
  unfold State.rebuildSlice
  with_reducible repeat' first
    | assumption | apply State.modBed_keeps | apply State.wakeMember_keeps | apply State.driveCmd_keeps
    | apply State.announcedWrite_keeps | apply State.addLost_keeps | apply State.offline_keeps | apply State.afterRead_keeps
    | apply State.passOver_keeps | (apply Keeps.foldl; intro _ _ _) | refine Keeps.ite (fun _ => ?_) (fun _ => ?_) | split

theorem State.mendIndex_keeps {s0 : State} (s : State) (b : Nat) (x : Bed) (media : List MediaRead) (h0 : Keeps s0 s) : Keeps
    s0 (State.mendIndex s b x media) := by
  unfold State.mendIndex
  with_reducible repeat' first | assumption | apply State.setIndex_keeps | apply State.walkJobs_keeps

theorem State.rebuildMeta_keeps {s0 : State} (s : State) (b : Nat) (r : Rebuild) (h0 : Keeps s0 s) : Keeps s0
    (State.rebuildMeta s b r) := by
  unfold State.rebuildMeta
  with_reducible repeat' first
    | assumption | apply State.modBed_keeps | apply State.announcedWrite_keeps | apply State.putSuper_keeps
    | (apply Keeps.foldl; intro _ _ _) | split

theorem State.resyncWrite_keeps {s0 : State} (s : State) (b : Nat) (x : Bed) (k : Nat) (t : Tab (Bytes × Bytes)) (h0 : Keeps s0
    s) : Keeps s0 (State.resyncWrite s b x k t) := by
  unfold State.resyncWrite
  with_reducible repeat' first | assumption | apply State.announcedWrite_keeps | (apply Keeps.foldl; intro _ _ _)

theorem State.resyncBand_keeps {s0 : State} (s : State) (b : Nat) (x : Bed) (k : Nat) (ks : List Nat) (t : Tab (Bytes × Bytes))
    (media : List MediaRead) (h0 : Keeps s0 s) : Keeps s0 (State.resyncBand s b x k ks t media) := by
  unfold State.resyncBand
  with_reducible repeat' first
    | assumption | apply State.setDirty_keeps | apply State.modBed_keeps | apply State.actEndAny_keeps | apply State.delta_keeps
    | apply State.foldRec_keeps | apply State.advanceAll_keeps | apply State.resyncWrite_keeps
    | (apply Keeps.foldl; intro _ _ _) | refine Keeps.ite (fun _ => ?_) (fun _ => ?_)

theorem State.rewrapStep_keeps {s0 : State} (s : State) (b nsid : Nat) (media : List MediaRead) (h0 : Keeps s0 s) : Keeps s0
    (State.rewrapStep s b nsid media).1 := by
  unfold State.rewrapStep
  with_reducible repeat' first
    | assumption | apply State.wakeMember_keeps | apply State.moveUnits_keeps | apply State.moveObject_keeps
    | (apply Keeps.foldl; intro _ _ _) | split

theorem State.rewrapStep_keepsE {s0 : State} {s : State} {b nsid : Nat} {media : List MediaRead} {t0} {q0} (e :
    State.rewrapStep s b nsid media = (t0, q0)) (h0 : Keeps s0 s) : Keeps s0 t0 := by
  have := State.rewrapStep_keeps (s0 := s0) s b nsid media  h0
  rw [e] at this; exact this

theorem State.compactStep_keeps {s0 : State} (s : State) (b : Nat) (media : List MediaRead) (h0 : Keeps s0 s) : Keeps s0
    (State.compactStep s b media) := by
  unfold State.compactStep
  with_reducible repeat' first
    | assumption | apply State.modBed_keeps | apply State.startPages_keeps | apply State.checkCompact_keeps
    | apply State.moveRow_keeps | apply State.reclaimRow_keeps | split

theorem State.rewrapReport_keeps {s0 : State} (s : State) (nsid : Nat) (h0 : Keeps s0 s) : Keeps s0 (State.rewrapReport s nsid)
    := by
  unfold State.rewrapReport
  with_reducible repeat' first | assumption | apply State.emit_keeps | split

theorem State.rewrapGo_keeps {s0 : State} (s : State) (b : Nat) (media : List MediaRead) (h0 : Keeps s0 s) : Keeps s0
    (State.rewrapGo s b media) := by
  unfold State.rewrapGo
  with_reducible repeat' first
    | assumption | apply State.modBed_keeps | apply State.actEndAny_keeps | refine State.rewrapStep_keepsE (by assumption) ?_
    | apply State.rewrapReport_keeps | split

end Sys2Proof.Machine
end

