-- ==== Sys2Proof/Laws/KeepsUnits.lean ====
section
/-! SUPPORT. `Keeps` for the remaining units: slots, jobs, faults, peers, shelf, rack, register accesses and service requests, one lemma an operation. -/

namespace Sys2Proof.Machine

/-! ### Slot.lean -/

theorem State.unlatch_keeps {s0 : State} (s : State) (k : Nat) (h0 : Keeps s0 s) : Keeps s0 (State.unlatch s k) := by
  unfold State.unlatch
  with_reducible repeat' first
    | assumption | apply State.setChan_keeps | apply State.wait_keeps | refine Keeps.ite (fun _ => ?_) (fun _ => ?_)

theorem State.clearFault_keeps {s0 : State} (s : State) (k : Nat) (h0 : Keeps s0 s) : Keeps s0 (State.clearFault s k) := by
  unfold State.clearFault
  with_reducible repeat' first
    | assumption | apply State.setChan_keeps | apply State.unlatch_keeps | refine Keeps.ite (fun _ => ?_) (fun _ => ?_)

theorem State.slotTest_keeps {s0 : State} (s : State) (k : Nat) (h0 : Keeps s0 s) : Keeps s0 (State.slotTest s k).1 := by
  unfold State.slotTest
  with_reducible repeat' first | assumption | apply State.setChan_keeps | apply State.wait_keeps | split

theorem State.slotTest_keepsE {s0 : State} {s : State} {k : Nat} {t0} {q0} (e : State.slotTest s k = (t0, q0)) (h0 : Keeps s0
    s) : Keeps s0 t0 := by
  have := State.slotTest_keeps (s0 := s0) s k  h0
  rw [e] at this; exact this

theorem State.pwrdis_keeps {s0 : State} (s : State) (k : Nat) (h0 : Keeps s0 s) : Keeps s0 (State.pwrdis s k) := by
  unfold State.pwrdis
  with_reducible repeat' first | assumption | apply State.setChan_keeps | refine Keeps.ite (fun _ => ?_) (fun _ => ?_)

theorem State.slotEnable_keeps {s0 : State} (s : State) (k : Nat) (en : Bool) (h0 : Keeps s0 s) : Keeps s0 (State.slotEnable s
    k en) := by
  unfold State.slotEnable
  with_reducible repeat' first
    | assumption | apply State.setFld_keeps | apply State.setChan_keeps | apply State.wait_keeps | apply State.gateOff_keeps
    | refine Keeps.ite (fun _ => ?_) (fun _ => ?_)

theorem State.inserted_keeps {s0 : State} (s : State) (k : Nat) (h0 : Keeps s0 s) : Keeps s0 (State.inserted s k) := by
  unfold State.inserted
  with_reducible repeat' first
    | assumption | apply State.setFld_keeps | apply State.bump_keeps | apply State.setChan_keeps | apply State.chanMet_keeps
    | apply State.startIns_keeps | apply State.raiseReq_keeps | refine Keeps.ite (fun _ => ?_) (fun _ => ?_)

theorem State.removed_keeps {s0 : State} (s : State) (k : Nat) (h0 : Keeps s0 s) : Keeps s0 (State.removed s k) := by
  unfold State.removed
  with_reducible repeat' first
    | assumption | apply State.setPort_keeps | apply State.setChan_keeps | apply State.dropReq_keeps
    | apply State.memberFail_keeps | split | apply Keeps.upd

theorem State.rampRwl_keeps {s0 : State} (s : State) (k : Nat) (h0 : Keeps s0 s) : Keeps s0 (State.rampRwl s k) := by
  unfold State.rampRwl
  with_reducible repeat' first | assumption | apply State.applyFld_keeps | (apply Keeps.foldl; intro _ _ _)

theorem State.trip_keeps {s0 : State} (s : State) (k cause : Nat) (peerLatched : Bool) (h0 : Keeps s0 s) : Keeps s0 (State.trip
    s k cause peerLatched) := by
  unfold State.trip
  with_reducible repeat' first
    | assumption | apply State.latch_keeps | apply State.memberFail_keeps | refine Keeps.ite (fun _ => ?_) (fun _ => ?_) | split

theorem State.vinBack_keeps {s0 : State} (s : State) (h0 : Keeps s0 s) : Keeps s0 (State.vinBack s) := by
  unfold State.vinBack
  with_reducible repeat' first
    | assumption | apply State.startIns_keeps | (apply Keeps.foldl; intro _ _ _) | refine Keeps.ite (fun _ => ?_) (fun _ => ?_)
    | apply Keeps.upd

theorem State.vinOut_keeps {s0 : State} (s : State) (h0 : Keeps s0 s) : Keeps s0 (State.vinOut s) := by
  unfold State.vinOut
  with_reducible repeat' first | assumption | apply Keeps.upd

theorem State.allSoftOff_keeps {s0 : State} (s : State) (cause : Nat) (h0 : Keeps s0 s) : Keeps s0 (State.allSoftOff s cause)
    := by
  unfold State.allSoftOff
  with_reducible repeat' first
    | assumption | apply State.softOff_keeps | (apply Keeps.foldl; intro _ _ _) | refine Keeps.ite (fun _ => ?_) (fun _ => ?_)

/-! ### Jobs.lean -/

theorem State.rillSubmit_keeps {s0 : State} (s : State) (d : RillDesc) (input : Bytes) (host areas : Bool) (svc : Option (Nat ×
    Nat)) (h0 : Keeps s0 s) : Keeps s0 (State.rillSubmit s d input host areas svc) := by
  unfold State.rillSubmit
  with_reducible repeat' first
    | assumption | apply State.rillError_keeps | apply State.rillAnswer_keeps | apply State.rillDispatch_keeps
    | apply State.coresSynced_keeps | refine Keeps.ite (fun _ => ?_) (fun _ => ?_) | apply Keeps.upd

theorem State.rillOn_keeps {s0 : State} (s : State) (core : Nat) (h0 : Keeps s0 s) : Keeps s0 (State.rillOn s core) := by
  unfold State.rillOn
  with_reducible repeat' first | assumption | apply State.rillReady_keeps | refine Keeps.ite (fun _ => ?_) (fun _ => ?_)

/-! ### Faults.lean -/

theorem State.faultUnit_keeps {s0 : State} (s : State) (src sev group : Nat) (h0 : Keeps s0 s) : Keeps s0 (State.faultUnit s
    src sev group) := by
  unfold State.faultUnit
  with_reducible repeat' first
    | assumption | apply State.bump_keeps | apply State.rillLoseCore_keeps | apply State.cphLoseCore_keeps
    | apply State.cellError_keeps | refine Keeps.ite (fun _ => ?_) (fun _ => ?_) | apply Keeps.upd

theorem State.thmFence_keeps {s0 : State} (s : State) (src : Nat) (h0 : Keeps s0 s) : Keeps s0 (State.thmFence s src).1 := by
  unfold State.thmFence
  with_reducible repeat' first
    | assumption | apply State.cfgErr_keeps | refine State.serviceFence_keeps (by assumption) ?_ | split

theorem State.thmFence_keepsE {s0 : State} {s : State} {src : Nat} {t0} {q0} (e : State.thmFence s src = (t0, q0)) (h0 : Keeps
    s0 s) : Keeps s0 t0 := by
  have := State.thmFence_keeps (s0 := s0) s src  h0
  rw [e] at this; exact this

theorem State.thmClear_keeps {s0 : State} (s : State) (src : Nat) (path : AccessPath) (h0 : Keeps s0 s) : Keeps s0
    (State.thmClear s src path) := by
  unfold State.thmClear
  with_reducible repeat' first | assumption | apply State.cfgErr_keeps | apply State.clearPermanent_keeps | split

theorem State.bbxStart_keeps {s0 : State} (s : State) (hi : Nat) (h0 : Keeps s0 s) : Keeps s0 (State.bbxStart s hi) := by
  unfold State.bbxStart
  with_reducible repeat' first | assumption | apply State.setReg_keeps | apply Keeps.upd

theorem State.pmuWrite_keeps {s0 : State} (s : State) (f : State → State) (hff : ∀ t0, Keeps s0 t0 → Keeps s0 (f t0)) (h0 :
    Keeps s0 s) : Keeps s0 (State.pmuWrite s f) := by
  unfold State.pmuWrite
  with_reducible repeat' first | assumption | (apply hff) | refine Keeps.ite (fun _ => ?_) (fun _ => ?_)

theorem State.pmuHistClr_keeps {s0 : State} (s : State) (h : Nat) (h0 : Keeps s0 s) : Keeps s0 (State.pmuHistClr s h) := by
  unfold State.pmuHistClr
  with_reducible repeat' first | assumption | apply Keeps.upd

theorem State.smpStart_keeps {s0 : State} (s : State) (q : Nat) (h0 : Keeps s0 s) : Keeps s0 (State.smpStart s q) := by
  unfold State.smpStart
  with_reducible repeat' first | assumption | apply State.setReg_keeps | apply Keeps.upd

/-! ### NetCmds.lean -/

theorem State.toUnit_keeps {s0 : State} (s : State) (unit cls : Nat) (f : Frame) (h0 : Keeps s0 s) : Keeps s0 (State.toUnit s
    unit cls f) := by
  unfold State.toUnit
  with_reducible repeat' first | assumption | apply State.emit_keeps | apply State.capture_keeps

theorem State.consumed_keeps {s0 : State} (s : State) (n unit cls : Nat) (f : Frame) (h0 : Keeps s0 s) : Keeps s0
    (State.consumed s n unit cls f) := by
  unfold State.consumed
  with_reducible repeat' first | assumption | apply State.capture_keeps | apply State.toUnit_keeps

theorem State.toControl_keeps {s0 : State} (s : State) (n cls : Nat) (f : Frame) (h0 : Keeps s0 s) : Keeps s0 (State.toControl
    s n cls f) := by
  unfold State.toControl
  with_reducible repeat' first
    | assumption | apply State.emit_keeps | apply State.setNet_keeps | apply State.sendInternal_keeps | apply State.toUnit_keeps
    | refine Keeps.ite (fun _ => ?_) (fun _ => ?_) | split

theorem State.localFrame_keeps {s0 : State} (s : State) (n cls : Nat) (f : Frame) (h0 : Keeps s0 s) : Keeps s0
    (State.localFrame s n cls f) := by
  unfold State.localFrame
  with_reducible repeat' first
    | assumption | apply State.bump_keeps | apply State.capture_keeps | apply State.dropIn_keeps
    | refine State.police_keepsE (by assumption) ?_ | apply State.consumed_keeps | apply State.toControl_keeps | split

theorem State.pauseBy_keeps {s0 : State} (s : State) (n : Nat) (ts : List (Nat × Nat)) (h0 : Keeps s0 s) : Keeps s0
    (State.pauseBy s n ts) := by
  unfold State.pauseBy
  with_reducible repeat' first
    | assumption | apply State.applyFld_keeps | apply State.setQueue_keeps | apply State.startNext_keeps
    | (apply Keeps.foldl; intro _ _ _) | refine Keeps.ite (fun _ => ?_) (fun _ => ?_)

theorem State.takeFrame_keeps {s0 : State} (s : State) (n cls : Nat) (f : Frame) (h0 : Keeps s0 s) : Keeps s0 (State.takeFrame
    s n cls f) := by
  unfold State.takeFrame
  with_reducible repeat' first
    | assumption | apply State.dropIn_keeps | apply State.transit_keeps | apply State.toControl_keeps
    | apply State.localFrame_keeps | apply State.pauseBy_keeps | split | apply Keeps.upd

theorem State.refillOne_keeps {s0 : State} (s : State) (t : Nat) (h0 : Keeps s0 s) : Keeps s0 (State.refillOne s t) := by
  unfold State.refillOne
  with_reducible repeat' first | assumption | apply State.applyRwls_keeps | apply Keeps.upd

theorem State.refillShp_keeps {s0 : State} (s : State) (n c : Nat) (h0 : Keeps s0 s) : Keeps s0 (State.refillShp s n c) := by
  unfold State.refillShp
  with_reducible repeat' first | assumption | apply State.applyRwls_keeps | apply State.setQueue_keeps

theorem State.gclCommit_keeps {s0 : State} (s : State) (n : Nat) (h0 : Keeps s0 s) : Keeps s0 (State.gclCommit s n) := by
  unfold State.gclCommit
  extract_lets
  with_reducible refine Keeps.ite (fun _ => ?_) (fun _ => ?_)
  · exact State.cfgErr_keeps _ _ _ h0
  · extract_lets
    split
    extract_lets
    with_reducible refine Keeps.ite (fun _ => ?_) (fun _ => ?_)
    · exact State.setFld_keeps _ _ _ (State.setFld_keeps _ _ _ (State.setFld_keeps _ _ _ (State.setNet_keeps _ _ _ h0)))
    · exact State.setFld_keeps _ _ _ (State.setFld_keeps _ _ _ (State.setNet_keeps _ _ _ h0))

theorem State.gclCancel_keeps {s0 : State} (s : State) (n : Nat) (h0 : Keeps s0 s) : Keeps s0 (State.gclCancel s n) := by
  unfold State.gclCancel
  with_reducible repeat' first | assumption | apply State.setNet_keeps

/-! ### SluCmds.lean -/

theorem State.disconnect_keeps {s0 : State} (s : State) (i : Nat) (h0 : Keeps s0 s) : Keeps s0 (State.disconnect s i) := by
  unfold State.disconnect
  with_reducible repeat' first | assumption | apply State.qpDestroy_keeps | apply State.endAssoc_keeps | split

theorem State.logError_keeps {s0 : State} (s : State) (a code : Nat) (h0 : Keeps s0 s) : Keeps s0 (State.logError s a code) := by
  unfold State.logError
  with_reducible repeat' first | assumption | apply State.drawn_keeps | apply State.aer_keeps | split | apply Keeps.upd

theorem State.reportRdma_keeps {s0 : State} (s : State) (i psn key cause : Nat) (win : Option Nat) (h0 : Keeps s0 s) : Keeps s0
    (State.reportRdma s i psn key cause win) := by
  unfold State.reportRdma
  with_reducible repeat' first
    | assumption | apply State.setFld_keeps | apply State.bump_keeps | apply State.raise_keeps | apply State.logError_keeps
    | split

theorem State.refuseRdma_keeps {s0 : State} (s : State) (i psn key cause : Nat) (win : Option Nat) (h0 : Keeps s0 s) : Keeps s0
    (State.refuseRdma s i psn key cause win) := by
  unfold State.refuseRdma
  with_reducible repeat' first | assumption | apply State.putNak_keeps | apply State.qpError_keeps | apply State.reportRdma_keeps

theorem State.place_keeps {s0 : State} (s : State) (i : Nat) (q : Qp) (p : Packet) (st : Start) (h0 : Keeps s0 s) : Keeps s0
    (State.place s i q p st) := by
  unfold State.place
  try dsimp only
  with_reducible repeat' first
    | assumption | apply State.pmuEvent_keeps | apply State.gusSend_keeps | apply State.modQp_keeps
    | refine Keeps.ite (fun _ => ?_) (fun _ => ?_) | split | apply Keeps.upd

theorem State.hold_keeps {s0 : State} (s : State) (i : Nat) (p : Packet) (h0 : Keeps s0 s) : Keeps s0 (State.hold s i p) := by
  unfold State.hold
  with_reducible repeat' first
    | assumption | apply State.bump_keeps | apply State.applyFld_keeps | apply State.modQp_keeps
    | refine Keeps.ite (fun _ => ?_) (fun _ => ?_) | apply Keeps.upd

theorem State.admitPacket_keeps {s0 : State} (s : State) (i : Nat) (q : Qp) (p : Packet) (st : Start) (h0 : Keeps s0 s) : Keeps
    s0 (State.admitPacket s i q p st) := by
  unfold State.admitPacket
  with_reducible repeat' first | assumption | apply State.refuseRdma_keeps | apply State.place_keeps | split

theorem releaseHeldF_keeps {s0 : State} (n : Nat) (x : Nat) (s : State) (h0 : Keeps s0 s) : Keeps s0 (releaseHeldF n x s) := by
  induction n generalizing s x with
  | zero => unfold releaseHeldF; exact h0
  | succ n ih =>
    unfold releaseHeldF
    try dsimp only
    repeat' (first
      | with_reducible assumption
      | with_reducible exact Keeps.refl _
      | with_reducible apply ih
      | with_reducible apply State.modQp_keeps
      | with_reducible apply State.admitPacket_keeps
      | (with_reducible apply Keeps.foldl; intro _ _ _)
      | (with_reducible apply Keeps.foldl1; intro _ _ _)
      | with_reducible refine Keeps.ite (fun _ => ?_) (fun _ => ?_)
      | with_reducible refine Keeps.ite1 (fun _ => ?_) (fun _ => ?_)
      | with_reducible apply Keeps.getD
      | split
      | with_reducible intro _
      | (with_reducible injection ‹some _ = some _› with h; subst h)
      | (with_reducible injection ‹(_, _) = (_, _)› with h; subst h)
      | (with_reducible cases ‹none = some _›)
      | with_reducible apply Keeps.upd
      | dsimp only)

theorem State.passPsn_keeps {s0 : State} (s : State) (i : Nat) (h0 : Keeps s0 s) : Keeps s0 (State.passPsn s i) := by
  unfold State.passPsn
  with_reducible repeat' first | assumption | apply State.applyFld_keeps | apply State.modQp_keeps | split

theorem State.drainCheck_keeps {s0 : State} (s : State) (w : Nat) (h0 : Keeps s0 s) : Keeps s0 (State.drainCheck s w) := by
  unfold State.drainCheck
  with_reducible repeat' first | assumption | apply State.winFinish_keeps | split

theorem State.deliver_keeps {s0 : State} (s : State) (i : Nat) (q : Qp) (m : RxMsg) (last : Nat) (h0 : Keeps s0 s) : Keeps s0
    (State.deliver s i q m last) := by
  unfold State.deliver
  with_reducible repeat' first
    | assumption | apply State.arrive_keeps | apply State.modQp_keeps | apply State.countUp_keeps | apply State.drainCheck_keeps
    | split | apply Keeps.upd

theorem deliverF_keeps {s0 : State} (n : Nat) (x : Nat) (s : State) (h0 : Keeps s0 s) : Keeps s0 (deliverF n x s) := by
  induction n generalizing s x with
  | zero => unfold deliverF; exact h0
  | succ n ih =>
    unfold deliverF
    try dsimp only
    repeat' (first
      | with_reducible assumption
      | with_reducible exact Keeps.refl _
      | with_reducible apply ih
      | with_reducible apply State.deliver_keeps
      | (with_reducible apply Keeps.foldl; intro _ _ _)
      | (with_reducible apply Keeps.foldl1; intro _ _ _)
      | with_reducible refine Keeps.ite (fun _ => ?_) (fun _ => ?_)
      | with_reducible refine Keeps.ite1 (fun _ => ?_) (fun _ => ?_)
      | with_reducible apply Keeps.getD
      | split
      | with_reducible intro _
      | (with_reducible injection ‹some _ = some _› with h; subst h)
      | (with_reducible injection ‹(_, _) = (_, _)› with h; subst h)
      | (with_reducible cases ‹none = some _›)
      | with_reducible apply Keeps.upd
      | dsimp only)

theorem State.again_keeps {s0 : State} (s : State) (i : Nat) (q : Qp) (h0 : Keeps s0 s) : Keeps s0 (State.again s i q) := by
  unfold State.again
  with_reducible repeat' first | assumption | apply State.bump_keeps | apply State.putAck_keeps

theorem State.answerCe_keeps {s0 : State} (s : State) (i : Nat) (q : Qp) (p : Packet) (h0 : Keeps s0 s) : Keeps s0
    (State.answerCe s i q p) := by
  unfold State.answerCe
  with_reducible repeat' first
    | assumption | apply State.bump_keeps | apply State.applyFld_keeps | apply State.modQp_keeps | apply State.putCnp_keeps
    | refine Keeps.ite (fun _ => ?_) (fun _ => ?_)

theorem State.probeEnd_keeps {s0 : State} (s : State) (i e : Nat) (h0 : Keeps s0 s) : Keeps s0 (State.probeEnd s i e) := by
  unfold State.probeEnd
  with_reducible repeat' first
    | assumption | apply State.dropCmd_keeps | apply State.modQp_keeps | (apply Keeps.foldl; intro _ _ _) | split

theorem State.putAgain_keeps {s0 : State} (s : State) (i psn : Nat) (r : TxReq) (h0 : Keeps s0 s) : Keeps s0
    (State.putAgain s i psn r) := by
  unfold State.putAgain
  with_reducible repeat' first
    | assumption | apply State.putRequest_keeps | apply State.putPacket_keeps | (apply Keeps.foldl; intro _ _ _)
    | refine Keeps.ite (fun _ => ?_) (fun _ => ?_)

theorem State.resend_keeps {s0 : State} (s : State) (i psn : Nat) (h0 : Keeps s0 s) : Keeps s0 (State.resend s i psn) := by
  unfold State.resend
  with_reducible repeat' first
    | assumption | apply State.bump_keeps | apply State.modQp_keeps | apply State.putAgain_keeps
    | (apply Keeps.foldl; intro _ _ _) | split

theorem State.resendPacket_keeps {s0 : State} (s : State) (i psn : Nat) (h0 : Keeps s0 s) : Keeps s0 (State.resendPacket s i
    psn) := by
  unfold State.resendPacket
  with_reducible repeat' first
    | assumption | apply State.bump_keeps | apply State.modQp_keeps | apply State.putPacket_keeps | split

/-! ### AdminUnit.lean -/

theorem State.takeAdmin_keeps {s0 : State} (s : State) (cap : Cap) (op : Nat) (member : Bool) (h0 : Keeps s0 s) : KeepsA s0
    (State.takeAdmin s cap op member) := by
  unfold State.takeAdmin
  try dsimp only
  with_reducible repeat' first
    | assumption | apply State.mod_keeps | apply State.arrive_keeps | apply State.finish_keeps | apply State.darkCapsule_keeps
    | apply State.park_keeps | apply KeepsA.stop | apply KeepsA.go | split

theorem State.takeAdmin_keepsS {s0 : State} {s : State} {cap : Cap} {op : Nat} {member : Bool} {r} (e : State.takeAdmin s cap
    op member = .stop r) (h0 : Keeps s0 s) : Keeps s0 r := by
  have := State.takeAdmin_keeps (s0 := s0) s cap op member  h0
  rw [e] at this; exact this

theorem State.takeAdmin_keepsG {s0 : State} {s : State} {cap : Cap} {op : Nat} {member : Bool} {r a1 a2} (e : State.takeAdmin s
    cap op member = .go r a1 a2) (h0 : Keeps s0 s) : Keeps s0 r := by
  have := State.takeAdmin_keeps (s0 := s0) s cap op member  h0
  rw [e] at this; exact this

theorem State.admin_keeps {s0 : State} (s : State) (cap : Cap) (op : Nat) (f : State → Nat → Assoc → State) (hff : ∀ t0 t1 t2,
    Keeps s0 t0 → Keeps s0 (f t0 t1 t2)) (h0 : Keeps s0 s) : KeepsO s0 (State.admin s cap op f) := by
  unfold State.admin
  with_reducible repeat' first
    | assumption | (apply hff) | refine State.takeAdmin_keepsS (by assumption) ?_
    | refine State.takeAdmin_keepsG (by assumption) ?_ | apply KeepsO.next | split

theorem State.adminMember_keeps {s0 : State} (s : State) (cap : Cap) (op : Nat) (f : State → Nat → Assoc → State) (hff : ∀ t0
    t1 t2, Keeps s0 t0 → Keeps s0 (f t0 t1 t2)) (h0 : Keeps s0 s) : KeepsO s0 (State.adminMember s cap op f) := by
  unfold State.adminMember
  with_reducible repeat' first
    | assumption | (apply hff) | refine State.takeAdmin_keepsS (by assumption) ?_
    | refine State.takeAdmin_keepsG (by assumption) ?_ | apply KeepsO.next | split

theorem State.nsChanged_keeps {s0 : State} (s : State) (nsid : Nat) (l : List Nat) (h0 : Keeps s0 s) : Keeps s0
    (State.nsChanged s nsid l) := by
  unfold State.nsChanged
  with_reducible repeat' first
    | assumption | apply State.modAssoc_keeps | apply State.aer_keeps | (apply Keeps.foldl; intro _ _ _) | split
    | apply Keeps.upd

theorem State.endTest_keeps {s0 : State} (s : State) (result : Nat) (h0 : Keeps s0 s) : Keeps s0 (State.endTest s result) := by
  unfold State.endTest
  with_reducible repeat' first | assumption | apply State.actEndAny_keeps | split | apply Keeps.upd

theorem State.beginTest_keeps {s0 : State} (s : State) (kind nsid starter : Nat) (h0 : Keeps s0 s) : Keeps s0 (State.beginTest
    s kind nsid starter) := by
  unfold State.beginTest
  with_reducible repeat' first | assumption | apply Keeps.upd

/-! ### AdminCmds.lean -/

theorem State.refuseConnect_keeps {s0 : State} (s : State) (cap : Cap) (status dw0 : Nat) (h0 : Keeps s0 s) : Keeps s0
    (State.refuseConnect s cap status dw0) := by
  unfold State.refuseConnect
  with_reducible repeat' first
    | assumption | apply State.release_keeps | refine Keeps.ite (fun _ => ?_) (fun _ => ?_) | apply Keeps.upd

theorem State.addQueue_keeps {s0 : State} (s : State) (a qid size : Nat) (h0 : Keeps s0 s) : Keeps s0 (State.addQueue s a qid
    size) := by
  unfold State.addQueue
  with_reducible repeat' first | assumption | apply Keeps.upd

theorem State.detachOthers_keeps {s0 : State} (s : State) (a tenantId : Nat) (h0 : Keeps s0 s) : Keeps s0 (State.detachOthers s
    a tenantId) := by
  unfold State.detachOthers
  with_reducible repeat' first | assumption | apply Keeps.upd

theorem State.fabrics_keeps {s0 : State} (s : State) (cap : Cap) (f : State → Nat → Assoc → State) (hff : ∀ t0 t1 t2, Keeps s0
    t0 → Keeps s0 (f t0 t1 t2)) (h0 : Keeps s0 s) : KeepsO s0 (State.fabrics s cap f) := by
  unfold State.fabrics
  with_reducible repeat' first
    | assumption | (apply hff) | apply State.finish_keeps | apply State.admin_keeps
    | refine Keeps.ite (fun _ => ?_) (fun _ => ?_) | intro _

theorem State.winRegister_keeps {s0 : State} (s : State) (assoc : Nat) (a : Assoc) (h0 : Keeps s0 s) : Keeps s0
    (State.winRegister s assoc a) := by
  unfold State.winRegister
  with_reducible repeat' first
    | assumption | apply State.applyFld_keeps | apply State.delta_keeps | apply State.modAssoc_keeps | split | apply Keeps.upd

theorem State.testOfReset_keeps {s0 : State} (s : State) (assoc : Nat) (h0 : Keeps s0 s) : Keeps s0 (State.testOfReset s assoc)
    := by
  unfold State.testOfReset
  with_reducible repeat' first | assumption | apply State.endTest_keeps | split

theorem State.sendPage_keeps {s0 : State} (s : State) (cap : Cap) (arr : Nat) (page : Bytes) (off len : Nat) (d : DataPtr) (h0
    : Keeps s0 s) : Keeps s0 (State.sendPage s cap arr page off len d) := by
  unfold State.sendPage
  with_reducible repeat' first
    | assumption | apply State.toHost_keeps | apply State.finish_keeps | refine Keeps.ite (fun _ => ?_) (fun _ => ?_)

theorem State.putEpochs_keeps {s0 : State} (s : State) (nsid floor highest : Nat) (h0 : Keeps s0 s) : Keeps s0 (State.putEpochs
    s nsid floor highest) := by
  unfold State.putEpochs
  with_reducible repeat' first | assumption | apply State.putStore_keeps | apply State.note_keeps | split

theorem State.dropNs_keeps {s0 : State} (s : State) (b nsid : Nat) (h0 : Keeps s0 s) : Keeps s0 (State.dropNs s b nsid) := by
  unfold State.dropNs
  with_reducible repeat' first
    | assumption | apply State.modBed_keeps | apply State.delta_keeps | apply State.setIndex_keeps
    | (apply Keeps.foldl; intro _ _ _) | split

theorem State.startTest_keeps {s0 : State} (s : State) (cap : Cap) (kind nsid : Nat) (h0 : Keeps s0 s) : KeepsO s0
    (State.startTest s cap kind nsid) := by
  unfold State.startTest
  with_reducible repeat' first
    | assumption | apply State.applyFld_keeps | apply State.setActs_keeps | apply State.arrivalOf_keeps
    | apply State.finish_keeps | apply State.admin_keeps | apply State.beginTest_keeps
    | refine Keeps.ite (fun _ => ?_) (fun _ => ?_) | intro _

theorem State.queueCmd_keeps {s0 : State} (s : State) (cap : Cap) (op : Nat) (f : State → Nat → State) (hff : ∀ t0 t1, Keeps s0
    t0 → Keeps s0 (f t0 t1)) (h0 : Keeps s0 s) : KeepsO s0 (State.queueCmd s cap op f) := by
  unfold State.queueCmd
  with_reducible repeat' first
    | assumption | (apply hff) | apply State.finish_keeps | apply State.admin_keeps
    | refine Keeps.ite (fun _ => ?_) (fun _ => ?_) | intro _

/-! ### GusCmds.lean -/

theorem State.delivered_keeps {s0 : State} (s : State) (g : GTx) (h0 : Keeps s0 s) : Keeps s0 (State.delivered s g) := by
  unfold State.delivered
  with_reducible repeat' first
    | assumption | apply State.modBed_keeps | apply State.modQp_keeps | apply State.putAck_keeps | apply State.putRequest_keeps
    | apply State.sendAck_keeps | apply State.issueDrive_keeps | apply State.issueStaged_keeps | split | apply Keeps.upd

theorem State.linkAcked_keeps {s0 : State} (s : State) (q : Nat) (h0 : Keeps s0 s) : Keeps s0 (State.linkAcked s q) := by
  unfold State.linkAcked
  with_reducible repeat' first | assumption | apply State.delivered_keeps | (apply Keeps.foldl; intro _ _ _) | apply Keeps.upd

theorem State.resendFrame_keeps {s0 : State} (s : State) (g : GTx) (h0 : Keeps s0 s) : Keeps s0 (State.resendFrame s g) := by
  unfold State.resendFrame
  with_reducible repeat' first
    | assumption | apply State.bump_keeps | apply State.pmuEvent_keeps | apply State.putGusset_keeps
    | refine Keeps.ite (fun _ => ?_) (fun _ => ?_)

theorem State.resendFrom_keeps {s0 : State} (s : State) (q : Nat) (h0 : Keeps s0 s) : Keeps s0 (State.resendFrom s q) := by
  unfold State.resendFrom
  with_reducible repeat' first | assumption | apply State.resendFrame_keeps | (apply Keeps.foldl; intro _ _ _) | apply Keeps.upd

theorem State.shelfNote_keeps {s0 : State} (s : State) (old : Nat) (mask : Nat) (h0 : Keeps s0 s) : Keeps s0 (State.shelfNote s
    old mask) := by
  unfold State.shelfNote
  with_reducible repeat' first | assumption | apply State.note_keeps

theorem State.unmirror_keeps {s0 : State} (s : State) (bs : List Nat) (h0 : Keeps s0 s) : Keeps s0 (State.unmirror s bs) := by
  unfold State.unmirror
  with_reducible repeat' first
    | assumption | apply State.ackAll_keeps | apply State.releaseAll_keeps | apply State.delivered_keeps
    | (apply Keeps.foldl; intro _ _ _) | apply Keeps.upd

theorem State.gusEvent_keeps {s0 : State} (s : State) (group : Nat) (h0 : Keeps s0 s) : Keeps s0 (State.gusEvent s group) := by
  unfold State.gusEvent
  with_reducible repeat' first | assumption | apply State.raise_keeps

theorem State.askDetach_keeps {s0 : State} (s : State) (h0 : Keeps s0 s) : Keeps s0 (State.askDetach s) := by
  unfold State.askDetach
  with_reducible repeat' first
    | assumption | apply State.gusControl_keeps | refine Keeps.ite (fun _ => ?_) (fun _ => ?_) | apply Keeps.upd

theorem State.detachDone_keeps {s0 : State} (s : State) (mask : Nat) (h0 : Keeps s0 s) : Keeps s0 (State.detachDone s mask) := by
  unfold State.detachDone
  with_reducible repeat' first
    | assumption | apply State.shelfNote_keeps | apply State.unmirror_keeps | refine Keeps.ite (fun _ => ?_) (fun _ => ?_)
    | apply Keeps.upd

theorem State.detachStandby_keeps {s0 : State} (s : State) (mask : Nat) (h0 : Keeps s0 s) : Keeps s0 (State.detachStandby s
    mask) := by
  unfold State.detachStandby
  with_reducible repeat' first
    | assumption | apply State.shelfNote_keeps | refine Keeps.ite (fun _ => ?_) (fun _ => ?_) | apply Keeps.upd

theorem State.modCopy_keeps {s0 : State} (s : State) (b : Nat) (f : StandbyCopy → StandbyCopy) (h0 : Keeps s0 s) : Keeps s0
    (State.modCopy s b f) := by
  unfold State.modCopy
  with_reducible repeat' first | assumption | apply State.modBed_keeps

theorem State.onStandby_keeps {s0 : State} (s : State) (b : Nat) (f : State → Bed → State) (hff : ∀ t0 t1, Keeps s0 t0 → Keeps
    s0 (f t0 t1)) (h0 : Keeps s0 s) : Keeps s0 (State.onStandby s b f) := by
  unfold State.onStandby
  with_reducible repeat' first | assumption | (apply hff) | split

theorem State.checkDigest_keeps {s0 : State} (s : State) (b k count sum : Nat) (h0 : Keeps s0 s) : Keeps s0 (State.checkDigest
    s b k count sum) := by
  unfold State.checkDigest
  with_reducible repeat' first
    | assumption | apply State.bump_keeps | apply State.modBed_keeps | apply State.gusControl_keeps | apply State.raise_keeps
    | apply State.modCopy_keeps | refine Keeps.ite (fun _ => ?_) (fun _ => ?_) | split

theorem State.copyIndex_keeps {s0 : State} (s : State) (b : Nat) (f : List IndexEntry → List IndexEntry) (pg : Nat) (h0 : Keeps
    s0 s) : Keeps s0 (State.copyIndex s b f pg) := by
  unfold State.copyIndex
  with_reducible repeat' first | assumption | apply State.modBed_keeps | apply State.setIndex_keeps | split

theorem State.applyEntry_keeps {s0 : State} (s : State) (b tick : Nat) (x : DeltaEntry) (h0 : Keeps s0 s) : Keeps s0
    (State.applyEntry s b tick x) := by
  cases x
  all_goals
    unfold State.applyEntry
    try dsimp only
    repeat' (first
      | with_reducible assumption
      | with_reducible exact Keeps.refl _
      | with_reducible apply State.setDirty_keeps
      | with_reducible apply State.modBed_keeps
      | with_reducible apply State.pruneKeys_keeps
      | with_reducible apply State.bedState_keeps
      | with_reducible apply State.putEpochs_keeps
      | with_reducible apply State.driveCmd_keeps
      | with_reducible apply State.modCopy_keeps
      | with_reducible apply State.checkDigest_keeps
      | with_reducible apply State.copyIndex_keeps
      | (with_reducible apply Keeps.foldl; intro _ _ _)
      | (with_reducible apply Keeps.foldl1; intro _ _ _)
      | with_reducible refine Keeps.ite (fun _ => ?_) (fun _ => ?_)
      | with_reducible refine Keeps.ite1 (fun _ => ?_) (fun _ => ?_)
      | with_reducible apply Keeps.getD
      | split
      | with_reducible intro _
      | (with_reducible injection ‹some _ = some _› with h; subst h)
      | (with_reducible injection ‹(_, _) = (_, _)› with h; subst h)
      | (with_reducible cases ‹none = some _›)
      | with_reducible apply Keeps.upd
      | dsimp only)

theorem State.handOver_keeps {s0 : State} (s : State) (b tick : Nat) (h0 : Keeps s0 s) : Keeps s0 (State.handOver s b tick) := by
  unfold State.handOver
  with_reducible repeat' first | assumption | apply State.gusControl_keeps | apply State.selfFenceBed_keeps | apply Keeps.upd

theorem State.noteAck_keeps {s0 : State} (s : State) (b tick : Nat) (h0 : Keeps s0 s) : Keeps s0 (State.noteAck s b tick) := by
  unfold State.noteAck
  with_reducible repeat' first | assumption | apply State.setFld_keeps | apply State.histAdd_keeps | split | apply Keeps.upd

theorem State.installKey_keeps {s0 : State} (s : State) (k : Bytes) (h0 : Keeps s0 s) : Keeps s0 (State.installKey s k) := by
  unfold State.installKey
  with_reducible repeat' first | assumption | apply State.putStore_keeps | apply Keeps.upd

theorem State.keyNote_keeps {s0 : State} (s : State) (h0 : Keeps s0 s) : Keeps s0 (State.keyNote s) := by
  unfold State.keyNote
  with_reducible repeat' first | assumption | apply State.note_keeps

theorem State.startJoin_keeps {s0 : State} (s : State) (g : BedGeom) (h0 : Keeps s0 s) : Keeps s0 (State.startJoin s g) := by
  unfold State.startJoin
  with_reducible repeat' first
    | assumption | apply State.joinAsk_keeps | apply State.setBed_keeps | apply State.driveCmd_keeps
    | (apply Keeps.foldl; intro _ _ _) | refine Keeps.ite (fun _ => ?_) (fun _ => ?_)

theorem State.rejoin_keeps {s0 : State} (s : State) (b : Nat) (h0 : Keeps s0 s) : Keeps s0 (State.rejoin s b) := by
  unfold State.rejoin
  with_reducible repeat' first
    | assumption | apply State.startJoin_keeps | refine Keeps.ite (fun _ => ?_) (fun _ => ?_) | split

theorem State.keysApart_keeps {s0 : State} (s : State) (h0 : Keeps s0 s) : Keeps s0 (State.keysApart s) := by
  unfold State.keysApart
  with_reducible repeat' first | assumption | apply State.unmirror_keeps | apply Keeps.upd

theorem State.joinDelta_keeps {s0 : State} (s : State) (b : Nat) (x : Bed) (h0 : Keeps s0 s) : Keeps s0 (State.joinDelta s b x)
    := by
  unfold State.joinDelta
  with_reducible repeat' first
    | assumption | apply State.delta_keeps | apply State.cmdDelta_keeps | apply State.qpTell_keeps
    | (apply Keeps.foldl; intro _ _ _) | split | apply Keeps.upd

theorem State.mirrorStaged_keeps {s0 : State} (s : State) (b : Nat) (h0 : Keeps s0 s) : Keeps s0 (State.mirrorStaged s b) := by
  unfold State.mirrorStaged
  with_reducible repeat' first
    | assumption | apply State.modBed_keeps | apply State.gusSend_keeps | (apply Keeps.foldl; intro _ _ _) | split

theorem State.putAcc_keeps {s0 : State} (s : State) (b k fold : Nat) (l : List (Nat × Bytes × Bytes)) (h0 : Keeps s0 s) : Keeps
    s0 (State.putAcc s b k fold l) := by
  unfold State.putAcc
  with_reducible repeat' first | assumption | apply State.modBed_keeps | apply State.modCopy_keeps

/-! ### PeerCmds.lean -/

theorem State.declare_keeps {s0 : State} (s : State) (h0 : Keeps s0 s) : Keeps s0 (State.declare s) := by
  unfold State.declare
  with_reducible repeat' first
    | assumption | apply State.setFld_keeps | apply State.proxyLost_keeps | apply State.raise_keeps | apply State.unmirror_keeps
    | refine Keeps.ite (fun _ => ?_) (fun _ => ?_) | apply Keeps.upd

theorem State.noteConflict_keeps {s0 : State} (s : State) (w : HbWord) (h0 : Keeps s0 s) : Keeps s0 (State.noteConflict s w) := by
  unfold State.noteConflict
  with_reducible repeat' first
    | assumption | apply State.bootEvent_keeps | refine Keeps.ite (fun _ => ?_) (fun _ => ?_) | apply Keeps.upd

theorem State.takeWord_keeps {s0 : State} (s : State) (path : Nat) (w : HbWord) (h0 : Keeps s0 s) : Keeps s0 (State.takeWord s
    path w) := by
  unfold State.takeWord
  with_reducible repeat' first
    | assumption | apply State.raise_keeps | apply State.detachDone_keeps | apply State.detachStandby_keeps
    | refine Keeps.ite (fun _ => ?_) (fun _ => ?_) | apply Keeps.upd

theorem State.askJoins_keeps {s0 : State} (s : State) (h0 : Keeps s0 s) : Keeps s0 (State.askJoins s) := by
  unfold State.askJoins
  with_reducible repeat' first
    | assumption | apply State.joinAsk_keeps | apply State.modCopy_keeps | (apply Keeps.foldl; intro _ _ _)
    | refine Keeps.ite (fun _ => ?_) (fun _ => ?_)

theorem State.takeAssocs_keeps {s0 : State} (s : State) (b : Nat) (l : List AssocCopy) (m : List (Nat × Nat)) (c : StandbyCopy)
 (h0 : Keeps s0 s) : Keeps s0 (State.takeAssocs s b l m c) := by
  unfold State.takeAssocs
  with_reducible repeat' first | assumption | apply State.addQueue_keeps | (apply Keeps.foldl; intro _ _ _) | apply Keeps.upd

theorem State.takeSpaces_keeps {s0 : State} (s : State) (b : Nat) (l : List NsCopy) (m : List (Nat × Nat)) (h0 : Keeps s0 s) :
    Keeps s0 (State.takeSpaces s b l m) := by
  unfold State.takeSpaces
  with_reducible repeat' first | assumption | apply State.commitOr_keeps

theorem State.takeCmds_keeps {s0 : State} (s : State) (c : StandbyCopy) (m : List (Nat × Nat)) (h0 : Keeps s0 s) : Keeps s0
    (State.takeCmds s c m).1 := by
  unfold State.takeCmds
  with_reducible repeat' first | assumption | apply State.samplePick_keeps | (apply Keeps.foldl1; intro _ _ _) | apply Keeps.upd

theorem State.takeCmds_keepsE {s0 : State} {s : State} {c : StandbyCopy} {m : List (Nat × Nat)} {t0} {q0} (e : State.takeCmds s
    c m = (t0, q0)) (h0 : Keeps s0 s) : Keeps s0 t0 := by
  have := State.takeCmds_keeps (s0 := s0) s c m  h0
  rw [e] at this; exact this

theorem State.takeQp_keeps {s0 : State} (s : State) (info : PeerInfo) (c : StandbyCopy) (m slots : List (Nat × Nat)) (q :
    QpCopy) (h0 : Keeps s0 s) : Keeps s0 (State.takeQp s info c m slots q) := by
  unfold State.takeQp
  with_reducible repeat' first
    | assumption | apply State.applyRwl_keeps | apply State.modQp_keeps | apply State.putNak_keeps | apply State.qpDestroy_keeps
    | apply State.endAssoc_keeps | split | apply Keeps.upd

theorem State.probeAll_keeps {s0 : State} (s : State) (h0 : Keeps s0 s) : Keeps s0 (State.probeAll s) := by
  unfold State.probeAll
  with_reducible repeat' first
    | assumption | apply State.modQp_keeps | apply State.txPump_keeps | (apply Keeps.foldl; intro _ _ _)
    | refine Keeps.ite (fun _ => ?_) (fun _ => ?_)

theorem State.takeWindows_keeps {s0 : State} (s : State) (c : StandbyCopy) (m : List (Nat × Nat)) (h0 : Keeps s0 s) : Keeps s0
    (State.takeWindows s c m) := by
  unfold State.takeWindows
  with_reducible repeat' first | assumption | (apply Keeps.foldl; intro _ _ _) | split | apply Keeps.upd

theorem State.takeEffects_keeps {s0 : State} (s : State) (b : Nat) (x : Bed) (caps : List Cap) (m : List (Nat × Nat)) (h0 :
    Keeps s0 s) : Keeps s0 (State.takeEffects s b x caps m) := by
  unfold State.takeEffects
  with_reducible repeat' first | assumption | apply State.modBed_keeps | apply State.setIndex_keeps | apply State.walkJobs_keeps

theorem State.takeJoined_keeps {s0 : State} (s : State) (b : Nat) (info : PeerInfo) (m : List (Nat × Nat)) (preempt : Nat) (h0
    : Keeps s0 s) : Keeps s0 (State.takeJoined s b info m preempt) := by
  unfold State.takeJoined
  with_reducible repeat' first
    | assumption | apply State.setDirty_keeps | apply State.setBed_keeps | apply State.ledSync_keeps
    | apply State.arrivalOf_keeps | apply State.commitOr_keeps | apply State.resumeRebuild_keeps | apply State.judgeBed_keeps
    | apply State.takeAssocs_keeps | apply State.takeSpaces_keeps | apply State.takeCmds_keeps | apply State.takeQp_keeps
    | apply State.takeWindows_keeps | apply State.takeEffects_keeps | (apply Keeps.foldl; intro _ _ _) | split

theorem State.takeAddrs_keeps {s0 : State} (s : State) (info : PeerInfo) (mask : Nat) (h0 : Keeps s0 s) : Keeps s0
    (State.takeAddrs s info mask) := by
  unfold State.takeAddrs
  with_reducible repeat' first
    | assumption | apply State.bump_keeps | apply State.addLaddr_keeps | apply State.shelfNote_keeps
    | (apply Keeps.foldl; intro _ _ _) | apply Keeps.upd

theorem State.announceTaken_keeps {s0 : State} (s : State) (h0 : Keeps s0 s) : Keeps s0 (State.announceTaken s) := by
  unfold State.announceTaken
  with_reducible repeat' first
    | assumption | apply State.sendCtl_keeps | (apply Keeps.foldl; intro _ _ _) | refine Keeps.ite (fun _ => ?_) (fun _ => ?_)

theorem State.preemptBed_keeps {s0 : State} (s : State) (b : Nat) (h0 : Keeps s0 s) : Keeps s0 (State.preemptBed s b) := by
  unfold State.preemptBed
  with_reducible repeat' first | assumption | apply State.driveCmd_keeps | (apply Keeps.foldl; intro _ _ _) | split

theorem State.issueWaiting_keeps {s0 : State} (s : State) (b : Nat) (h0 : Keeps s0 s) : Keeps s0 (State.issueWaiting s b) := by
  unfold State.issueWaiting
  with_reducible repeat' first | assumption | apply State.issueDrive_keeps | (apply Keeps.foldl; intro _ _ _)

theorem State.rewriteMeta_keeps {s0 : State} (s : State) (b : Nat) (x : Bed) (h : MirrorHead) (h0 : Keeps s0 s) : Keeps s0
    (State.rewriteMeta s b x h) := by
  unfold State.rewriteMeta
  with_reducible repeat' first
    | assumption | apply State.announcedWrite_keeps | (apply Keeps.foldl; intro _ _ _)
    | refine Keeps.ite (fun _ => ?_) (fun _ => ?_)

theorem State.rewriteInFlight_keeps {s0 : State} (s : State) (b : Nat) (h0 : Keeps s0 s) : Keeps s0 (State.rewriteInFlight s b)
    := by
  unfold State.rewriteInFlight
  with_reducible repeat' first
    | assumption | apply State.setBed_keeps | apply State.issueStaged_keeps | apply State.startCkpt_keeps
    | apply State.issueWaiting_keeps | apply State.rewriteMeta_keeps | (apply Keeps.foldl; intro _ _ _) | split

theorem State.resumeBed_keeps {s0 : State} (s : State) (b : Nat) (h0 : Keeps s0 s) : Keeps s0 (State.resumeBed s b) := by
  unfold State.resumeBed
  with_reducible repeat' first
    | assumption | apply State.modBed_keeps | apply State.ledSync_keeps | apply State.txPump_keeps
    | apply State.issueStaged_keeps | apply State.advanceAll_keeps | apply State.unmirror_keeps | apply State.issueWaiting_keeps
    | (apply Keeps.foldl; intro _ _ _)

theorem State.testReads_keeps {s0 : State} (s : State) (h0 : Keeps s0 s) : Keeps s0 (State.testReads s) := by
  unfold State.testReads
  with_reducible repeat' first | assumption | apply State.driveCmd_keeps | (apply Keeps.foldl; intro _ _ _)

/-! ### ShelfUnit.lean -/

theorem State.beginMove_keeps {s0 : State} (s : State) (m : Move) (h0 : Keeps s0 s) : Keeps s0 (State.beginMove s m) := by
  unfold State.beginMove
  with_reducible repeat' first
    | assumption | apply State.winRevoke_keeps | apply State.syncDomains_keeps | apply State.raiseReq_keeps
    | (apply Keeps.foldl; intro _ _ _) | refine Keeps.ite (fun _ => ?_) (fun _ => ?_) | apply Keeps.upd

theorem State.ckptAll_keeps {s0 : State} (s : State) (h0 : Keeps s0 s) : Keeps s0 (State.ckptAll s) := by
  unfold State.ckptAll
  with_reducible repeat' first
    | assumption | apply State.startCkpt_keeps | (apply Keeps.foldl; intro _ _ _) | refine Keeps.ite (fun _ => ?_) (fun _ => ?_)

theorem State.unmountBed_keeps {s0 : State} (s : State) (b : Nat) (x : Bed) (h0 : Keeps s0 s) : Keeps s0 (State.unmountBed s b
    x) := by
  unfold State.unmountBed
  with_reducible repeat' first
    | assumption | apply State.modBed_keeps | apply State.putPages_keeps | apply State.superAll_keeps
    | refine Keeps.ite (fun _ => ?_) (fun _ => ?_)

theorem State.unmountAll_keeps {s0 : State} (s : State) (h0 : Keeps s0 s) : Keeps s0 (State.unmountAll s) := by
  unfold State.unmountAll
  with_reducible repeat' first
    | assumption | apply State.unmountBed_keeps | (apply Keeps.foldl; intro _ _ _)
    | refine Keeps.ite (fun _ => ?_) (fun _ => ?_)

theorem State.pauseRebuilds_keeps {s0 : State} (s : State) (h0 : Keeps s0 s) : Keeps s0 (State.pauseRebuilds s) := by
  unfold State.pauseRebuilds
  with_reducible repeat' first
    | assumption | apply State.setBed_keeps | apply State.actEndAny_keeps | (apply Keeps.foldl; intro _ _ _) | split

theorem State.pathsOff_keeps {s0 : State} (s : State) (h0 : Keeps s0 s) : Keeps s0 (State.pathsOff s) := by
  unfold State.pathsOff
  with_reducible repeat' first
    | assumption | apply State.dropReq_keeps | (apply Keeps.foldl; intro _ _ _) | refine Keeps.ite (fun _ => ?_) (fun _ => ?_)
    | apply Keeps.upd

theorem State.stepDown_keeps {s0 : State} (s : State) (m : Move) (h0 : Keeps s0 s) : Keeps s0 (State.stepDown s m).1 := by
  unfold State.stepDown
  with_reducible repeat' first
    | assumption | apply State.ckptAll_keeps | apply State.unmountAll_keeps | apply State.pauseRebuilds_keeps
    | apply State.pathsOff_keeps | refine Keeps.ite (fun _ => ?_) (fun _ => ?_) | refine Keeps.ite1 (fun _ => ?_) (fun _ => ?_)

theorem State.stepDown_keepsE {s0 : State} {s : State} {m : Move} {t0} {q0} (e : State.stepDown s m = (t0, q0)) (h0 : Keeps s0
    s) : Keeps s0 t0 := by
  have := State.stepDown_keeps (s0 := s0) s m  h0
  rw [e] at this; exact this

theorem State.reserveBed_keeps {s0 : State} (s : State) (b : Nat) (h0 : Keeps s0 s) : Keeps s0 (State.reserveBed s b) := by
  unfold State.reserveBed
  with_reducible repeat' first | assumption | apply State.driveCmd_keeps | (apply Keeps.foldl; intro _ _ _) | split

theorem State.mountOwn_keeps {s0 : State} (s : State) (b : Nat) (found : List BedGeom) (mounts : List MountAnswer) (h0 : Keeps
    s0 s) : Keeps s0 (State.mountOwn s b found mounts) := by
  unfold State.mountOwn
  with_reducible repeat' first
    | assumption | apply State.setBed_keeps | apply State.modBed_keeps | apply State.commitOr_keeps | apply State.mountBed_keeps
    | apply State.superAll_keeps | apply State.preemptBed_keeps | apply State.reserveBed_keeps | split | apply Keeps.upd

theorem State.unpark_keeps {s0 : State} (s : State) (h0 : Keeps s0 s) : Keeps s0 (State.unpark s) := by
  unfold State.unpark
  with_reducible repeat' first
    | assumption | apply State.mod_keeps | apply State.setPhase_keeps | apply State.cmdDelta_keeps
    | apply State.enterBoard_keeps | (apply Keeps.foldl; intro _ _ _) | split | apply Keeps.upd

theorem State.enterAwake_keeps {s0 : State} (s : State) (found : List BedGeom) (mounts : List MountAnswer) (info : PeerInfo)
 (h0 : Keeps s0 s) : Keeps s0 (State.enterAwake s found mounts info) := by
  unfold State.enterAwake
  with_reducible repeat' first
    | assumption | apply State.putOwnAddrs_keeps | apply State.raiseReq_keeps | apply State.slotRequest_keeps
    | apply State.resumeRebuild_keeps | apply State.consider_keeps | apply State.startJoin_keeps | apply State.takeSpaces_keeps
    | apply State.takeAddrs_keeps | apply State.mountOwn_keeps | apply State.unpark_keeps | (apply Keeps.foldl; intro _ _ _)
    | split | apply Keeps.upd

theorem State.enterBelow_keeps {s0 : State} (s : State) (old target : ShelfSt) (h0 : Keeps s0 s) : Keeps s0 (State.enterBelow s
    old target) := by
  unfold State.enterBelow
  with_reducible repeat' first
    | assumption | apply State.pmuReset_keeps | apply State.finish_keeps | apply State.endTest_keeps
    | (apply Keeps.foldl; intro _ _ _) | refine Keeps.ite (fun _ => ?_) (fun _ => ?_) | apply Keeps.upd

theorem State.endMove_keeps {s0 : State} (s : State) (m : Move) (found : List BedGeom) (mounts : List MountAnswer) (info :
    PeerInfo) (h0 : Keeps s0 s) : Keeps s0 (State.endMove s m found mounts info) := by
  unfold State.endMove
  with_reducible repeat' first
    | assumption | apply State.syncDomains_keeps | apply State.sendWake_keeps | apply State.shelfNote_keeps
    | apply State.enterAwake_keeps | apply State.enterBelow_keeps | refine Keeps.ite (fun _ => ?_) (fun _ => ?_)
    | apply Keeps.upd

/-! ### RackUnit.lean -/

theorem State.takeEpoch_keeps {s0 : State} (s : State) (e : Nat) (h0 : Keeps s0 s) : Keeps s0 (State.takeEpoch s e) := by
  unfold State.takeEpoch
  with_reducible repeat' first | assumption | apply State.twoCopies_keeps | apply Keeps.upd

theorem State.rackStop_keeps {s0 : State} (s : State) (h0 : Keeps s0 s) : Keeps s0 (State.rackStop s) := by
  unfold State.rackStop
  with_reducible repeat' first | assumption | apply Keeps.upd

theorem State.rackIn_keeps {s0 : State} (s : State) (h : RackHead) (isStatus : Bool) (h0 : Keeps s0 s) : Keeps s0 (State.rackIn
    s h isStatus).1 := by
  unfold State.rackIn
  with_reducible repeat' first
    | assumption | apply State.bump_keeps | apply State.rackStop_keeps | refine Keeps.ite (fun _ => ?_) (fun _ => ?_)
    | refine Keeps.ite1 (fun _ => ?_) (fun _ => ?_) | apply Keeps.upd

theorem State.rackIn_keepsE {s0 : State} {s : State} {h : RackHead} {isStatus : Bool} {t0} {q0} (e : State.rackIn s h isStatus
    = (t0, q0)) (h0 : Keeps s0 s) : Keeps s0 t0 := by
  have := State.rackIn_keeps (s0 := s0) s h isStatus  h0
  rw [e] at this; exact this

theorem State.sendStatus_keeps {s0 : State} (s : State) (dest : Nat) (h0 : Keeps s0 s) : Keeps s0 (State.sendStatus s dest) := by
  unfold State.sendStatus
  with_reducible repeat' first | assumption | apply State.drawn_keeps | apply State.rackSend_keeps

theorem State.doneIn_keeps {s0 : State} (s : State) (i id state : Nat) (h0 : Keeps s0 s) : Keeps s0 (State.doneIn s i id state)
    := by
  unfold State.doneIn
  with_reducible repeat' first | assumption | split | apply Keeps.upd

theorem State.sendDone_keeps {s0 : State} (s : State) (dest id result : Nat) (h0 : Keeps s0 s) : Keeps s0 (State.sendDone s
    dest id result) := by
  unfold State.sendDone
  with_reducible repeat' first
    | assumption | apply State.setFld_keeps | apply State.rackSend_keeps | apply State.doneIn_keeps
    | refine Keeps.ite (fun _ => ?_) (fun _ => ?_) | split

theorem State.endOrder_keeps {s0 : State} (s : State) (o : OrderRec) (result : Nat) (h0 : Keeps s0 s) : Keeps s0
    (State.endOrder s o result) := by
  unfold State.endOrder
  with_reducible repeat' first
    | assumption | apply State.bump_keeps | apply State.sendDone_keeps | refine Keeps.ite (fun _ => ?_) (fun _ => ?_)
    | apply Keeps.upd

theorem State.noteOrder_keeps {s0 : State} (s : State) (id target : Nat) (h0 : Keeps s0 s) : Keeps s0 (State.noteOrder s id
    target) := by
  unfold State.noteOrder
  with_reducible repeat' first | assumption | apply State.setFld_keeps

theorem State.refuseOrder_keeps {s0 : State} (s : State) (dest id target : Nat) (h0 : Keeps s0 s) : Keeps s0
    (State.refuseOrder s dest id target) := by
  unfold State.refuseOrder
  with_reducible repeat' first | assumption | apply State.bump_keeps | apply State.sendDone_keeps | apply State.noteOrder_keeps

theorem State.takePeerBeds_keeps {s0 : State} (s : State) (h0 : Keeps s0 s) : Keeps s0 (State.takePeerBeds s) := by
  unfold State.takePeerBeds
  with_reducible repeat' first
    | assumption | apply State.setFld_keeps | apply State.setBed_keeps | apply State.commitOr_keeps
    | (apply Keeps.foldl; intro _ _ _)

theorem State.beginOrder_keeps {s0 : State} (s : State) (o : OrderRec) (h0 : Keeps s0 s) : Keeps s0 (State.beginOrder s o) := by
  unfold State.beginOrder
  with_reducible repeat' first
    | assumption | apply State.beginMove_keeps | apply State.endOrder_keeps | apply State.takePeerBeds_keeps
    | refine Keeps.ite (fun _ => ?_) (fun _ => ?_) | apply Keeps.upd

theorem State.orderIn_keeps {s0 : State} (s : State) (o : OrderRec) (h0 : Keeps s0 s) : Keeps s0 (State.orderIn s o) := by
  unfold State.orderIn
  with_reducible repeat' first
    | assumption | apply State.noteOrder_keeps | apply State.sendStatus_keeps | apply State.sendDone_keeps
    | apply State.endOrder_keeps | apply State.refuseOrder_keeps | apply State.beginOrder_keeps | split | apply Keeps.upd

theorem State.orderDone_keeps {s0 : State} (s : State) (h0 : Keeps s0 s) : Keeps s0 (State.orderDone s) := by
  unfold State.orderDone
  with_reducible repeat' first | assumption | apply State.endOrder_keeps | apply State.beginOrder_keeps | split | apply Keeps.upd

theorem State.sendOrder_keeps {s0 : State} (s : State) (i target : Nat) (flag0 : Bool) (h0 : Keeps s0 s) : Keeps s0
    (State.sendOrder s i target flag0) := by
  unfold State.sendOrder
  with_reducible repeat' first
    | assumption | apply State.rackSend_keeps | apply State.orderIn_keeps | refine Keeps.ite (fun _ => ?_) (fun _ => ?_)
    | apply Keeps.upd

theorem State.orderShelf_keeps {s0 : State} (s : State) (sh target : Nat) (h0 : Keeps s0 s) : Keeps s0 (State.orderShelf s sh
    target) := by
  unfold State.orderShelf
  with_reducible repeat' first
    | assumption | apply State.sendOrder_keeps | (apply Keeps.foldl; intro _ _ _) | split | apply Keeps.upd

theorem planOver_keeps {s0 : State} (n : Nat) (s : State) (h0 : Keeps s0 s) : Keeps s0 (planOver n s) := by
  induction n generalizing s  with
  | zero => unfold planOver; exact h0
  | succ n ih =>
    unfold planOver
    try dsimp only
    repeat' (first
      | with_reducible assumption
      | with_reducible exact Keeps.refl _
      | with_reducible apply ih
      | with_reducible apply State.orderShelf_keeps
      | (with_reducible apply Keeps.foldl; intro _ _ _)
      | (with_reducible apply Keeps.foldl1; intro _ _ _)
      | with_reducible refine Keeps.ite (fun _ => ?_) (fun _ => ?_)
      | with_reducible refine Keeps.ite1 (fun _ => ?_) (fun _ => ?_)
      | with_reducible apply Keeps.getD
      | split
      | with_reducible intro _
      | (with_reducible injection ‹some _ = some _› with h; subst h)
      | (with_reducible injection ‹(_, _) = (_, _)› with h; subst h)
      | (with_reducible cases ‹none = some _›)
      | with_reducible apply Keeps.upd
      | dsimp only)

theorem State.serveWake_keeps {s0 : State} (s : State) (sh : Nat) (h0 : Keeps s0 s) : Keeps s0 (State.serveWake s sh) := by
  unfold State.serveWake
  with_reducible repeat' first
    | assumption | apply State.orderShelf_keeps | (apply Keeps.foldl; intro _ _ _)
    | refine Keeps.ite (fun _ => ?_) (fun _ => ?_) | split

theorem State.sleepIdle_keeps {s0 : State} (s : State) (h0 : Keeps s0 s) : Keeps s0 (State.sleepIdle s) := by
  unfold State.sleepIdle
  with_reducible repeat' first
    | assumption | apply State.orderShelf_keeps | (apply Keeps.foldl; intro _ _ _)
    | refine Keeps.ite (fun _ => ?_) (fun _ => ?_)

theorem State.orderTakeovers_keeps {s0 : State} (s : State) (h0 : Keeps s0 s) : Keeps s0 (State.orderTakeovers s) := by
  unfold State.orderTakeovers
  with_reducible repeat' first
    | assumption | apply State.sendOrder_keeps | (apply Keeps.foldl; intro _ _ _) | split | apply Keeps.upd

theorem State.noteSelf_keeps {s0 : State} (s : State) (h0 : Keeps s0 s) : Keeps s0 (State.noteSelf s) := by
  unfold State.noteSelf
  with_reducible repeat' first | assumption | split | apply Keeps.upd

theorem State.evalPlan_keeps {s0 : State} (s : State) (h0 : Keeps s0 s) : Keeps s0 (State.evalPlan s) := by
  unfold State.evalPlan
  with_reducible repeat' first
    | assumption | apply State.setFld_keeps | apply State.applyFld_keeps | apply planOver_keeps | apply State.serveWake_keeps
    | apply State.sleepIdle_keeps | apply State.orderTakeovers_keeps | apply State.noteSelf_keeps
    | (apply Keeps.foldl; intro _ _ _) | refine Keeps.ite (fun _ => ?_) (fun _ => ?_) | apply Keeps.upd

/-! ### RackCmds.lean -/

theorem State.claim_keeps {s0 : State} (s : State) (h0 : Keeps s0 s) : Keeps s0 (State.claim s) := by
  unfold State.claim
  with_reducible repeat' first
    | assumption | apply State.bump_keeps | apply State.rackSend_keeps | apply State.takeEpoch_keeps | apply Keeps.upd

theorem State.renew_keeps {s0 : State} (s : State) (h0 : Keeps s0 s) : Keeps s0 (State.renew s) := by
  unfold State.renew
  with_reducible repeat' first | assumption | apply State.rackSend_keeps | apply Keeps.upd

/-! ### EptCmds.lean -/

theorem State.flr_keeps {s0 : State} (s : State) (fn : Nat) (h0 : Keeps s0 s) : Keeps s0 (State.flr s fn) := by
  unfold State.flr
  with_reducible repeat' first
    | assumption | apply State.bump_keeps | apply State.setCfgTab_keeps | apply State.fn0Reset_keeps | apply State.winsOff_keeps
    | refine Keeps.ite (fun _ => ?_) (fun _ => ?_) | apply Keeps.upd

theorem State.fn0Dropped_keeps {s0 : State} (s : State) (h0 : Keeps s0 s) : Keeps s0 (State.fn0Dropped s) := by
  unfold State.fn0Dropped
  with_reducible repeat' first | assumption | apply State.aerSet_keeps | refine Keeps.ite (fun _ => ?_) (fun _ => ?_)

theorem State.cfgEffect_keeps {s0 : State} (s : State) (fn o : Nat) (h0 : Keeps s0 s) : Keeps s0 (State.cfgEffect s fn o) := by
  unfold State.cfgEffect
  with_reducible repeat' first
    | assumption | apply State.msixFlush_keeps | apply State.eptPump_keeps | apply State.releaseAll_keeps
    | refine Keeps.ite (fun _ => ?_) (fun _ => ?_)

theorem State.eptReadFailed_keeps {s0 : State} (s : State) (r : EptRead) (h0 : Keeps s0 s) : Keeps s0 (State.eptReadFailed s r)
    := by
  unfold State.eptReadFailed
  with_reducible repeat' first | assumption | apply State.finish_keeps | apply State.refuse_keeps | split | apply Keeps.upd

theorem State.eptTimedOut_keeps {s0 : State} (s : State) (tag : Nat) (r : EptRead) (aer : Nat) (h0 : Keeps s0 s) : Keeps s0
    (State.eptTimedOut s tag r aer) := by
  unfold State.eptTimedOut
  with_reducible repeat' first
    | assumption | apply State.bump_keeps | apply State.aerSet_keeps | apply State.eptPump_keeps | apply State.raise_keeps
    | apply State.eptReadFailed_keeps | apply Keeps.upd

theorem State.bar2Refuse_keeps {s0 : State} (s : State) (w : Nat) (isWrite : Bool) (h0 : Keeps s0 s) : Keeps s0
    (State.bar2Refuse s w isWrite) := by
  unfold State.bar2Refuse
  with_reducible repeat' first
    | assumption | apply State.bump_keeps | apply State.emit_keeps | apply State.aerSet_keeps | apply State.raise_keeps
    | refine Keeps.ite (fun _ => ?_) (fun _ => ?_) | apply Keeps.upd

theorem State.pwinEnable_keeps {s0 : State} (s : State) (w : Nat) (en : Bool) (h0 : Keeps s0 s) : Keeps s0 (State.pwinEnable s
    w en) := by
  unfold State.pwinEnable
  with_reducible repeat' first | assumption | apply State.setFld_keeps | refine Keeps.ite (fun _ => ?_) (fun _ => ?_)

theorem State.pwinMap_keeps {s0 : State} (s : State) (w : Nat) (rdonly : Bool) (offset : Nat) (h0 : Keeps s0 s) : Keeps s0
    (State.pwinMap s w rdonly offset).1 := by
  unfold State.pwinMap
  with_reducible repeat' first | assumption | apply State.setFld_keeps | apply State.cfgErr_keeps | split

theorem State.pwinMap_keepsE {s0 : State} {s : State} {w : Nat} {rdonly : Bool} {offset : Nat} {t0} {q0} (e : State.pwinMap s w
    rdonly offset = (t0, q0)) (h0 : Keeps s0 s) : Keeps s0 t0 := by
  have := State.pwinMap_keeps (s0 := s0) s w rdonly offset  h0
  rw [e] at this; exact this

/-! ### RegAccess.lean -/

theorem RegWr.refuse_keeps {s0 : State} (x : RegWr) (reason addr : Nat) (h0 : Keeps s0 x.1) : Keeps s0 (RegWr.refuse x reason
    addr).1 := by
  unfold RegWr.refuse
  with_reducible repeat' first | assumption | apply State.cfgErr_keeps | split

theorem State.putQ_keeps {s0 : State} (s : State) (base i addr : Nat) (f : FieldDesc) (v : Nat) (h0 : Keeps s0 s) : Keeps s0
    (State.putQ s base i addr f v) := by
  unfold State.putQ
  with_reducible repeat' first
    | assumption | apply State.setReg_keeps | refine Keeps.ite (fun _ => ?_) (fun _ => ?_) | apply Keeps.upd

theorem State.clearW1c_keeps {s0 : State} (s : State) (base i addr : Nat) (f : FieldDesc) (v : Nat) (h0 : Keeps s0 s) : Keeps
    s0 (State.clearW1c s base i addr f v) := by
  unfold State.clearW1c
  with_reducible repeat' first
    | assumption | apply State.setReg_keeps | apply State.setChan_keeps | refine Keeps.ite (fun _ => ?_) (fun _ => ?_)
    | apply Keeps.upd

theorem writeField_keeps {s0 : State} (base i addr : Nat) (w : Word) (q : Bool) (x : RegWr) (f : FieldDesc) (h0 : Keeps s0 x.1)
    : Keeps s0 (writeField base i addr w q x f).1 := by
  unfold writeField
  with_reducible repeat' first
    | assumption | apply State.setReg_keeps | apply RegWr.refuse_keeps | apply State.putQ_keeps | apply State.clearW1c_keeps
    | refine Keeps.ite1 (fun _ => ?_) (fun _ => ?_) | split | apply Keeps.upd

theorem thmCommand_keeps {s0 : State} (path : AccessPath) (v : Word) (x : RegWr) (h0 : Keeps s0 x.1) : Keeps s0 (thmCommand
    path v x).1 := by
  unfold thmCommand
  with_reducible repeat' first
    | assumption | apply State.serviceReadmit_keeps | apply State.thmFence_keeps | apply State.thmClear_keeps
    | refine Keeps.ite1 (fun _ => ?_) (fun _ => ?_) | split

theorem State.slotCommand_keeps {s0 : State} (s : State) (k op : Nat) (h0 : Keeps s0 s) : Keeps s0 (State.slotCommand s k op)
    := by
  unfold State.slotCommand
  with_reducible repeat' first
    | assumption | apply State.raiseReq_keeps | apply State.dropReq_keeps | apply State.clearFault_keeps
    | apply State.slotTest_keeps | apply State.pwrdis_keeps | refine Keeps.ite (fun _ => ?_) (fun _ => ?_)

theorem State.pmuEffect_keeps {s0 : State} (s old : State) (base i : Nat) (v : Word) (h0 : Keeps s0 s) (h1 : Keeps s0 old) :
    Keeps s0 (State.pmuEffect s old base i v) := by
  unfold State.pmuEffect
  with_reducible repeat' first
    | assumption | apply State.pmuClearAll_keeps | apply State.pmuSnap_keeps | apply State.pmuHistClr_keeps
    | apply State.smpStart_keeps | refine Keeps.ite (fun _ => ?_) (fun _ => ?_) | apply Keeps.upd

theorem State.gclEnable_keeps {s0 : State} (s : State) (i : Nat) (h0 : Keeps s0 s) : Keeps s0 (State.gclEnable s i) := by
  unfold State.gclEnable
  with_reducible repeat' first
    | assumption | apply State.startNext_keeps | apply State.applyFld_keeps | refine Keeps.ite (fun _ => ?_) (fun _ => ?_)

theorem regEffect_keeps {s0 : State} (old : State) (path : AccessPath) (base i : Nat) (v : Word) (x : RegWr) (h0 : Keeps s0
    old) (h1 : Keeps s0 x.1) : Keeps s0 (regEffect old path base i v x).1 := by
  unfold regEffect
  with_reducible repeat' first
    | assumption | apply State.setFld_keeps | apply State.applyFld_keeps | apply State.linkLost_keeps
    | apply State.resetAssert_keeps | apply State.kick_keeps | apply State.ckptNow_keeps | apply State.slotEnable_keeps
    | apply State.bbxStart_keeps | apply State.gclCommit_keeps | apply State.gclCancel_keeps | apply State.pwinEnable_keeps
    | apply State.gclEnable_keeps | apply RegWr.refuse_keeps | apply thmCommand_keeps | apply State.slotCommand_keeps | apply State.pmuEffect_keeps
    | refine Keeps.ite (fun _ => ?_) (fun _ => ?_) | refine Keeps.ite1 (fun _ => ?_) (fun _ => ?_) | apply Keeps.upd

theorem State.msixWrite_keeps {s0 : State} (s : State) (dw : Nat) (v : Word) (h0 : Keeps s0 s) : Keeps s0 (State.msixWrite s dw
    v) := by
  unfold State.msixWrite
  with_reducible repeat' first | assumption | apply State.msixFlush_keeps | apply Keeps.upd

theorem State.regWrite_keeps {s0 : State} (s : State) (path : AccessPath) (addr : Nat) (w : Word) (h0 : Keeps s0 s) : Keeps s0
    (State.regWrite s path addr w).1 := by
  unfold State.regWrite
  with_reducible repeat' first
    | assumption | apply State.pwinMap_keeps | apply RegWr.refuse_keeps | apply writeField_keeps | apply regEffect_keeps
    | apply State.msixWrite_keeps | (apply Keeps.foldl1; intro _ _ _) | split

theorem State.busWrite_keeps {s0 : State} (s : State) (path : AccessPath) (addr be : Nat) (w : Word) (h0 : Keeps s0 s) : Keeps
    s0 (State.busWrite s path addr be w).1 := by
  unfold State.busWrite
  with_reducible repeat' first | assumption | apply RegWr.refuse_keeps | apply State.regWrite_keeps | split

theorem State.clearRc_keeps {s0 : State} (s : State) (r : RegDesc) (addr be : Nat) (h0 : Keeps s0 s) : Keeps s0 (State.clearRc
    s r addr be) := by
  unfold State.clearRc
  with_reducible repeat' first
    | assumption | apply State.setReg_keeps | (apply Keeps.foldl; intro _ _ _) | refine Keeps.ite (fun _ => ?_) (fun _ => ?_)

theorem State.regRead_keeps {s0 : State} (s : State) (path : AccessPath) (addr be : Nat) (h0 : Keeps s0 s) : Keeps s0
    (State.regRead s path addr be).1 := by
  unfold State.regRead
  with_reducible repeat' first | assumption | apply State.clearRc_keeps | split | apply Keeps.upd

theorem State.regRead_keepsE {s0 : State} {s : State} {path : AccessPath} {addr be : Nat} {t0} {q0} (e : State.regRead s path
    addr be = (t0, q0)) (h0 : Keeps s0 s) : Keeps s0 t0 := by
  have := State.regRead_keeps (s0 := s0) s path addr be  h0
  rw [e] at this; exact this

theorem State.busRead_keeps {s0 : State} (s : State) (path : AccessPath) (addr be : Nat) (h0 : Keeps s0 s) : Keeps s0
    (State.busRead s path addr be) := by
  unfold State.busRead
  with_reducible repeat' first
    | assumption | apply State.emit_keeps | apply State.aerSet_keeps | apply State.regRead_keeps
    | refine Keeps.ite (fun _ => ?_) (fun _ => ?_)

/-! ### SvcUnit.lean -/

theorem State.respond_keeps {s0 : State} (s : State) (h : SvcHead) (type : Nat) (st : SvcStatus) (body : Bytes) (h0 : Keeps s0
    s) : Keeps s0 (State.respond s h type st body) := by
  unfold State.respond
  with_reducible repeat' first | assumption | apply State.respondTo_keeps

theorem State.badTag_keeps {s0 : State} (s : State) (h0 : Keeps s0 s) : Keeps s0 (State.badTag s) := by
  unfold State.badTag
  with_reducible repeat' first | assumption | apply State.bump_keeps

theorem State.svc_keeps {s0 : State} (s : State) (h : SvcHead) (type : Nat) (run : State → State) (hfrun : ∀ t0, Keeps s0 t0 →
    Keeps s0 (run t0)) (h0 : Keeps s0 s) : Keeps s0 (State.svc s h type run) := by
  unfold State.svc
  with_reducible repeat' first
    | assumption | (apply hfrun) | apply State.svcEmit_keeps | apply State.note_keeps | apply State.respond_keeps
    | apply State.badTag_keeps | split | apply Keeps.upd

theorem State.endSession_keeps {s0 : State} (s : State) (k : Nat) (h0 : Keeps s0 s) : Keeps s0 (State.endSession s k) := by
  unfold State.endSession
  with_reducible repeat' first | assumption | apply Keeps.upd

/-! ### SvcCmds.lean -/

theorem readDwords_keeps {s0 : State} (path : AccessPath) (n addr : Nat) (s : State) (b : Bytes) (h0 : Keeps s0 s) :
    Keeps s0 (readDwords path n addr s b).1 := by
  induction n generalizing addr s b with
  | zero => exact h0
  | succ n ih =>
    unfold readDwords
    exact ih _ _ _ (State.regRead_keeps _ _ _ _ h0)

theorem readDwords_keepsE {s0 : State} {path : AccessPath} {n addr : Nat} {s : State} {b : Bytes} {r q}
    (e : readDwords path n addr s b = (r, q)) (h0 : Keeps s0 s) : Keeps s0 r := by
  have := readDwords_keeps path n addr s b h0
  rw [e] at this; exact this

theorem State.putBudgets_keeps {s0 : State} (s : State) (budget allow : Word) (h0 : Keeps s0 s) : Keeps s0 (State.putBudgets s
    budget allow) := by
  unfold State.putBudgets
  with_reducible repeat' first | assumption | apply State.regWrite_keeps

/-! ### ImgCmds.lean -/

theorem State.actBegin_keeps {s0 : State} (s : State) (h0 : Keeps s0 s) : Keeps s0 (State.actBegin s) := by
  unfold State.actBegin
  with_reducible repeat' first
    | assumption | apply State.actRestarted_keeps | apply State.rillDispatch_keeps | apply State.resetAssert_keeps
    | apply State.swapDone_keeps | refine Keeps.ite (fun _ => ?_) (fun _ => ?_) | split | apply Keeps.upd

/-! ### BedSvc.lean -/

theorem State.pinIndex_keeps {s0 : State} (s : State) (b : Nat) (old : List IndexEntry) (h0 : Keeps s0 s) : Keeps s0
    (State.pinIndex s b old) := by
  unfold State.pinIndex
  with_reducible repeat' first | assumption | apply State.modBed_keeps

theorem State.setEpochs_keeps {s0 : State} {s : State} {nsid : Nat} {n : Namespace} {cur floor highest : Nat} {r} (e :
    State.setEpochs s nsid n cur floor highest = some r) (h0 : Keeps s0 s) : Keeps s0 r := by
  unfold State.setEpochs at e
  try dsimp only at e
  repeat' (split at e)
  repeat' (first
    | with_reducible assumption
    | with_reducible exact Keeps.refl _
    | with_reducible apply State.delta_keeps
    | with_reducible refine State.commitData_keeps (by with_reducible assumption) ?_
    | with_reducible apply State.putEpochs_keeps
    | (with_reducible apply Keeps.foldl; intro _ _ _)
    | (with_reducible apply Keeps.foldl1; intro _ _ _)
    | with_reducible refine Keeps.ite (fun _ => ?_) (fun _ => ?_)
    | with_reducible refine Keeps.ite1 (fun _ => ?_) (fun _ => ?_)
    | with_reducible apply Keeps.getD
    | split at e
    | split
    | with_reducible intro _
    | (with_reducible injection ‹some _ = some _› with h; subst h)
    | (with_reducible injection ‹(_, _) = (_, _)› with h; subst h)
    | (with_reducible cases ‹none = some _›)
    | with_reducible apply Keeps.upd
    | dsimp only)

theorem State.eraseKey_keeps {s0 : State} (s : State) (state : Nat) (h0 : Keeps s0 s) : Keeps s0 (State.eraseKey s state) := by
  unfold State.eraseKey
  with_reducible repeat' first | assumption | apply State.putStore_keeps | apply State.cphDispatch_keeps | apply Keeps.upd

/-! ### FleetSvc.lean -/

theorem State.putTenants_keeps {s0 : State} (s : State) (head : SvcHead) (op pos : Nat) (t : Tab Tenant) (after : State →
    State) (hfafter : ∀ t0, Keeps s0 t0 → Keeps s0 (after t0)) (h0 : Keeps s0 s) : Keeps s0 (State.putTenants s head op pos t after) := by
  unfold State.putTenants
  with_reducible repeat' first
    | assumption | (apply hfafter) | refine State.commitData_keeps (by assumption) ?_ | apply State.respond_keeps | split

theorem State.onTenant_keeps {s0 : State} (s : State) (head : SvcHead) (op pos : Nat) (f : Tenant → Option Tenant) (after :
    State → State) (hfafter : ∀ t0, Keeps s0 t0 → Keeps s0 (after t0)) (h0 : Keeps s0 s) : Keeps s0 (State.onTenant s head op pos f after) := by
  unfold State.onTenant
  with_reducible repeat' first | assumption | apply State.respond_keeps | apply State.putTenants_keeps | split

theorem State.revokeTenant_keeps {s0 : State} (s : State) (id : Nat) (h0 : Keeps s0 s) : Keeps s0 (State.revokeTenant s id) := by
  unfold State.revokeTenant
  with_reducible repeat' first | assumption | apply State.winRevoke_keeps | (apply Keeps.foldl; intro _ _ _) | split

theorem State.onJob_keeps {s0 : State} (s : State) (head : SvcHead) (f : SvcJob → State) (hff : ∀ t0, Keeps s0 (f t0)) (h0 :
    Keeps s0 s) : Keeps s0 (State.onJob s head f) := by
  unfold State.onJob
  with_reducible repeat' first | assumption | (apply hff) | apply State.respond_keeps | split

/-! ### ActCmds.lean -/

theorem State.goTest_keeps {s0 : State} (s : State) (kind nsid starter : Nat) (h0 : Keeps s0 s) : Keeps s0 (State.goTest s kind
    nsid starter) := by
  unfold State.goTest
  with_reducible repeat' first | assumption | apply State.applyFld_keeps | apply State.beginTest_keeps

theorem State.actCkpt_keeps {s0 : State} (s : State) (head : SvcHead) (b : Nat) (x : Bed) (h0 : Keeps s0 s) : Keeps s0
    (State.actCkpt s head b x).1 := by
  unfold State.actCkpt
  with_reducible repeat' first
    | assumption | apply State.setActs_keeps | apply State.startCkpt_keeps | refine Keeps.ite (fun _ => ?_) (fun _ => ?_)

theorem State.actCkpt_keepsE {s0 : State} {s : State} {head : SvcHead} {b : Nat} {x : Bed} {t0} {q0} (e : State.actCkpt s head
    b x = (t0, q0)) (h0 : Keeps s0 s) : Keeps s0 t0 := by
  have := State.actCkpt_keeps (s0 := s0) s head b x  h0
  rw [e] at this; exact this

theorem State.startDeferred_keeps {s0 : State} (s : State) (a : Activity) (h0 : Keeps s0 s) : Keeps s0 (State.startDeferred s
    a) := by
  unfold State.startDeferred
  with_reducible repeat' first
    | assumption | apply State.modBed_keeps | apply State.setActs_keeps | apply State.startCkpt_keeps
    | apply State.startRebuild_keeps | apply State.beginCompact_keeps | apply State.admitNow_keeps | apply State.actBegin_keeps
    | apply State.goTest_keeps | split | apply Keeps.upd

theorem State.secondResponse_keeps {s0 : State} (s : State) (a : Activity) (v : Nat) (h0 : Keeps s0 s) : Keeps s0
    (State.secondResponse s a v) := by
  unfold State.secondResponse
  with_reducible repeat' first | assumption | apply State.svcEmit_keeps | split

end Sys2Proof.Machine
end

