-- ==== Sys2Proof/Laws/State.lean ====
section
/-! SUPPORT. What each shared update of the state leaves alone, one lemma a field, and the fields it writes. -/

namespace Sys2Proof.Machine

/-! `State.emit` writes `out` only. -/

@[simp] theorem State.emit_now (s : State) (o : Out) : (s.emit o).now = s.now := rfl
@[simp] theorem State.emit_frac (s : State) (o : Out) : (s.emit o).frac = s.frac := rfl
@[simp] theorem State.emit_toff (s : State) (o : Out) : (s.emit o).toff = s.toff := rfl
@[simp] theorem State.emit_fuses (s : State) (o : Out) : (s.emit o).fuses = s.fuses := rfl
@[simp] theorem State.emit_regs (s : State) (o : Out) : (s.emit o).regs = s.regs := rfl
@[simp] theorem State.emit_shelf (s : State) (o : Out) : (s.emit o).shelf = s.shelf := rfl
@[simp] theorem State.emit_rst (s : State) (o : Out) : (s.emit o).rst = s.rst := rfl
@[simp] theorem State.emit_pwr (s : State) (o : Out) : (s.emit o).pwr = s.pwr := rfl
@[simp] theorem State.emit_clk (s : State) (o : Out) : (s.emit o).clk = s.clk := rfl
@[simp] theorem State.emit_thm (s : State) (o : Out) : (s.emit o).thm = s.thm := rfl
@[simp] theorem State.emit_spc (s : State) (o : Out) : (s.emit o).spc = s.spc := rfl
@[simp] theorem State.emit_cmd (s : State) (o : Out) : (s.emit o).cmd = s.cmd := rfl
@[simp] theorem State.emit_cfg (s : State) (o : Out) : (s.emit o).cfg = s.cfg := rfl
@[simp] theorem State.emit_beds (s : State) (o : Out) : (s.emit o).beds = s.beds := rfl
@[simp] theorem State.emit_drv (s : State) (o : Out) : (s.emit o).drv = s.drv := rfl
@[simp] theorem State.emit_rill (s : State) (o : Out) : (s.emit o).rill = s.rill := rfl
@[simp] theorem State.emit_cph (s : State) (o : Out) : (s.emit o).cph = s.cph := rfl
@[simp] theorem State.emit_gus (s : State) (o : Out) : (s.emit o).gus = s.gus := rfl
@[simp] theorem State.emit_mnt (s : State) (o : Out) : (s.emit o).mnt = s.mnt := rfl
@[simp] theorem State.emit_net (s : State) (o : Out) : (s.emit o).net = s.net := rfl
@[simp] theorem State.emit_slu (s : State) (o : Out) : (s.emit o).slu = s.slu := rfl
@[simp] theorem State.emit_rack (s : State) (o : Out) : (s.emit o).rack = s.rack := rfl
@[simp] theorem State.emit_ept (s : State) (o : Out) : (s.emit o).ept = s.ept := rfl
@[simp] theorem State.emit_pmu (s : State) (o : Out) : (s.emit o).pmu = s.pmu := rfl
@[simp] theorem State.emit_mram (s : State) (o : Out) : (s.emit o).mram = s.mram := rfl
@[simp] theorem State.emit_nor (s : State) (o : Out) : (s.emit o).nor = s.nor := rfl
@[simp] theorem State.emit_out (s : State) (o : Out) : (s.emit o).out = o :: s.out := rfl
@[simp] theorem State.emit_free (s : State) (o : Out) : (s.emit o).free = s.free := rfl
@[simp] theorem State.emit_pending (s : State) (o : Out) : (s.emit o).pending = s.pending := rfl

/-! `State.drawn` writes `free` only. -/

@[simp] theorem State.drawn_now (s : State) : (s.drawn).now = s.now := rfl
@[simp] theorem State.drawn_frac (s : State) : (s.drawn).frac = s.frac := rfl
@[simp] theorem State.drawn_toff (s : State) : (s.drawn).toff = s.toff := rfl
@[simp] theorem State.drawn_fuses (s : State) : (s.drawn).fuses = s.fuses := rfl
@[simp] theorem State.drawn_regs (s : State) : (s.drawn).regs = s.regs := rfl
@[simp] theorem State.drawn_shelf (s : State) : (s.drawn).shelf = s.shelf := rfl
@[simp] theorem State.drawn_rst (s : State) : (s.drawn).rst = s.rst := rfl
@[simp] theorem State.drawn_pwr (s : State) : (s.drawn).pwr = s.pwr := rfl
@[simp] theorem State.drawn_clk (s : State) : (s.drawn).clk = s.clk := rfl
@[simp] theorem State.drawn_thm (s : State) : (s.drawn).thm = s.thm := rfl
@[simp] theorem State.drawn_spc (s : State) : (s.drawn).spc = s.spc := rfl
@[simp] theorem State.drawn_cmd (s : State) : (s.drawn).cmd = s.cmd := rfl
@[simp] theorem State.drawn_cfg (s : State) : (s.drawn).cfg = s.cfg := rfl
@[simp] theorem State.drawn_beds (s : State) : (s.drawn).beds = s.beds := rfl
@[simp] theorem State.drawn_drv (s : State) : (s.drawn).drv = s.drv := rfl
@[simp] theorem State.drawn_rill (s : State) : (s.drawn).rill = s.rill := rfl
@[simp] theorem State.drawn_cph (s : State) : (s.drawn).cph = s.cph := rfl
@[simp] theorem State.drawn_gus (s : State) : (s.drawn).gus = s.gus := rfl
@[simp] theorem State.drawn_mnt (s : State) : (s.drawn).mnt = s.mnt := rfl
@[simp] theorem State.drawn_net (s : State) : (s.drawn).net = s.net := rfl
@[simp] theorem State.drawn_slu (s : State) : (s.drawn).slu = s.slu := rfl
@[simp] theorem State.drawn_rack (s : State) : (s.drawn).rack = s.rack := rfl
@[simp] theorem State.drawn_ept (s : State) : (s.drawn).ept = s.ept := rfl
@[simp] theorem State.drawn_pmu (s : State) : (s.drawn).pmu = s.pmu := rfl
@[simp] theorem State.drawn_mram (s : State) : (s.drawn).mram = s.mram := rfl
@[simp] theorem State.drawn_nor (s : State) : (s.drawn).nor = s.nor := rfl
@[simp] theorem State.drawn_out (s : State) : (s.drawn).out = s.out := rfl
@[simp] theorem State.drawn_free (s : State) : (s.drawn).free = s.free + 1 := rfl
@[simp] theorem State.drawn_pending (s : State) : (s.drawn).pending = s.pending := rfl

/-! `State.setReg` writes `regs` only. -/

@[simp] theorem State.setReg_now (s : State) (a : Nat) (w : Word) : (s.setReg a w).now = s.now := rfl
@[simp] theorem State.setReg_frac (s : State) (a : Nat) (w : Word) : (s.setReg a w).frac = s.frac := rfl
@[simp] theorem State.setReg_toff (s : State) (a : Nat) (w : Word) : (s.setReg a w).toff = s.toff := rfl
@[simp] theorem State.setReg_fuses (s : State) (a : Nat) (w : Word) : (s.setReg a w).fuses = s.fuses := rfl
@[simp] theorem State.setReg_regs (s : State) (a : Nat) (w : Word) : (s.setReg a w).regs = { s.regs with vals := s.regs.vals.put a w } := rfl
@[simp] theorem State.setReg_shelf (s : State) (a : Nat) (w : Word) : (s.setReg a w).shelf = s.shelf := rfl
@[simp] theorem State.setReg_rst (s : State) (a : Nat) (w : Word) : (s.setReg a w).rst = s.rst := rfl
@[simp] theorem State.setReg_pwr (s : State) (a : Nat) (w : Word) : (s.setReg a w).pwr = s.pwr := rfl
@[simp] theorem State.setReg_clk (s : State) (a : Nat) (w : Word) : (s.setReg a w).clk = s.clk := rfl
@[simp] theorem State.setReg_thm (s : State) (a : Nat) (w : Word) : (s.setReg a w).thm = s.thm := rfl
@[simp] theorem State.setReg_spc (s : State) (a : Nat) (w : Word) : (s.setReg a w).spc = s.spc := rfl
@[simp] theorem State.setReg_cmd (s : State) (a : Nat) (w : Word) : (s.setReg a w).cmd = s.cmd := rfl
@[simp] theorem State.setReg_cfg (s : State) (a : Nat) (w : Word) : (s.setReg a w).cfg = s.cfg := rfl
@[simp] theorem State.setReg_beds (s : State) (a : Nat) (w : Word) : (s.setReg a w).beds = s.beds := rfl
@[simp] theorem State.setReg_drv (s : State) (a : Nat) (w : Word) : (s.setReg a w).drv = s.drv := rfl
@[simp] theorem State.setReg_rill (s : State) (a : Nat) (w : Word) : (s.setReg a w).rill = s.rill := rfl
@[simp] theorem State.setReg_cph (s : State) (a : Nat) (w : Word) : (s.setReg a w).cph = s.cph := rfl
@[simp] theorem State.setReg_gus (s : State) (a : Nat) (w : Word) : (s.setReg a w).gus = s.gus := rfl
@[simp] theorem State.setReg_mnt (s : State) (a : Nat) (w : Word) : (s.setReg a w).mnt = s.mnt := rfl
@[simp] theorem State.setReg_net (s : State) (a : Nat) (w : Word) : (s.setReg a w).net = s.net := rfl
@[simp] theorem State.setReg_slu (s : State) (a : Nat) (w : Word) : (s.setReg a w).slu = s.slu := rfl
@[simp] theorem State.setReg_rack (s : State) (a : Nat) (w : Word) : (s.setReg a w).rack = s.rack := rfl
@[simp] theorem State.setReg_ept (s : State) (a : Nat) (w : Word) : (s.setReg a w).ept = s.ept := rfl
@[simp] theorem State.setReg_pmu (s : State) (a : Nat) (w : Word) : (s.setReg a w).pmu = s.pmu := rfl
@[simp] theorem State.setReg_mram (s : State) (a : Nat) (w : Word) : (s.setReg a w).mram = s.mram := rfl
@[simp] theorem State.setReg_nor (s : State) (a : Nat) (w : Word) : (s.setReg a w).nor = s.nor := rfl
@[simp] theorem State.setReg_out (s : State) (a : Nat) (w : Word) : (s.setReg a w).out = s.out := rfl
@[simp] theorem State.setReg_free (s : State) (a : Nat) (w : Word) : (s.setReg a w).free = s.free := rfl
@[simp] theorem State.setReg_pending (s : State) (a : Nat) (w : Word) : (s.setReg a w).pending = s.pending := rfl

/-! `State.setBed` writes `beds` only. -/

@[simp] theorem State.setBed_now (s : State) (b : Nat) (x : Bed) : (s.setBed b x).now = s.now := rfl
@[simp] theorem State.setBed_frac (s : State) (b : Nat) (x : Bed) : (s.setBed b x).frac = s.frac := rfl
@[simp] theorem State.setBed_toff (s : State) (b : Nat) (x : Bed) : (s.setBed b x).toff = s.toff := rfl
@[simp] theorem State.setBed_fuses (s : State) (b : Nat) (x : Bed) : (s.setBed b x).fuses = s.fuses := rfl
@[simp] theorem State.setBed_regs (s : State) (b : Nat) (x : Bed) : (s.setBed b x).regs = s.regs := rfl
@[simp] theorem State.setBed_shelf (s : State) (b : Nat) (x : Bed) : (s.setBed b x).shelf = s.shelf := rfl
@[simp] theorem State.setBed_rst (s : State) (b : Nat) (x : Bed) : (s.setBed b x).rst = s.rst := rfl
@[simp] theorem State.setBed_pwr (s : State) (b : Nat) (x : Bed) : (s.setBed b x).pwr = s.pwr := rfl
@[simp] theorem State.setBed_clk (s : State) (b : Nat) (x : Bed) : (s.setBed b x).clk = s.clk := rfl
@[simp] theorem State.setBed_thm (s : State) (b : Nat) (x : Bed) : (s.setBed b x).thm = s.thm := rfl
@[simp] theorem State.setBed_spc (s : State) (b : Nat) (x : Bed) : (s.setBed b x).spc = s.spc := rfl
@[simp] theorem State.setBed_cmd (s : State) (b : Nat) (x : Bed) : (s.setBed b x).cmd = s.cmd := rfl
@[simp] theorem State.setBed_cfg (s : State) (b : Nat) (x : Bed) : (s.setBed b x).cfg = s.cfg := rfl
@[simp] theorem State.setBed_beds (s : State) (b : Nat) (x : Bed) : (s.setBed b x).beds = s.beds.put b x := rfl
@[simp] theorem State.setBed_drv (s : State) (b : Nat) (x : Bed) : (s.setBed b x).drv = s.drv := rfl
@[simp] theorem State.setBed_rill (s : State) (b : Nat) (x : Bed) : (s.setBed b x).rill = s.rill := rfl
@[simp] theorem State.setBed_cph (s : State) (b : Nat) (x : Bed) : (s.setBed b x).cph = s.cph := rfl
@[simp] theorem State.setBed_gus (s : State) (b : Nat) (x : Bed) : (s.setBed b x).gus = s.gus := rfl
@[simp] theorem State.setBed_mnt (s : State) (b : Nat) (x : Bed) : (s.setBed b x).mnt = s.mnt := rfl
@[simp] theorem State.setBed_net (s : State) (b : Nat) (x : Bed) : (s.setBed b x).net = s.net := rfl
@[simp] theorem State.setBed_slu (s : State) (b : Nat) (x : Bed) : (s.setBed b x).slu = s.slu := rfl
@[simp] theorem State.setBed_rack (s : State) (b : Nat) (x : Bed) : (s.setBed b x).rack = s.rack := rfl
@[simp] theorem State.setBed_ept (s : State) (b : Nat) (x : Bed) : (s.setBed b x).ept = s.ept := rfl
@[simp] theorem State.setBed_pmu (s : State) (b : Nat) (x : Bed) : (s.setBed b x).pmu = s.pmu := rfl
@[simp] theorem State.setBed_mram (s : State) (b : Nat) (x : Bed) : (s.setBed b x).mram = s.mram := rfl
@[simp] theorem State.setBed_nor (s : State) (b : Nat) (x : Bed) : (s.setBed b x).nor = s.nor := rfl
@[simp] theorem State.setBed_out (s : State) (b : Nat) (x : Bed) : (s.setBed b x).out = s.out := rfl
@[simp] theorem State.setBed_free (s : State) (b : Nat) (x : Bed) : (s.setBed b x).free = s.free := rfl
@[simp] theorem State.setBed_pending (s : State) (b : Nat) (x : Bed) : (s.setBed b x).pending = s.pending := rfl

/-! `State.modBed` writes `beds` only. -/

@[simp] theorem State.modBed_now (s : State) (b : Nat) (f : Bed → Bed) : (s.modBed b f).now = s.now := rfl
@[simp] theorem State.modBed_frac (s : State) (b : Nat) (f : Bed → Bed) : (s.modBed b f).frac = s.frac := rfl
@[simp] theorem State.modBed_toff (s : State) (b : Nat) (f : Bed → Bed) : (s.modBed b f).toff = s.toff := rfl
@[simp] theorem State.modBed_fuses (s : State) (b : Nat) (f : Bed → Bed) : (s.modBed b f).fuses = s.fuses := rfl
@[simp] theorem State.modBed_regs (s : State) (b : Nat) (f : Bed → Bed) : (s.modBed b f).regs = s.regs := rfl
@[simp] theorem State.modBed_shelf (s : State) (b : Nat) (f : Bed → Bed) : (s.modBed b f).shelf = s.shelf := rfl
@[simp] theorem State.modBed_rst (s : State) (b : Nat) (f : Bed → Bed) : (s.modBed b f).rst = s.rst := rfl
@[simp] theorem State.modBed_pwr (s : State) (b : Nat) (f : Bed → Bed) : (s.modBed b f).pwr = s.pwr := rfl
@[simp] theorem State.modBed_clk (s : State) (b : Nat) (f : Bed → Bed) : (s.modBed b f).clk = s.clk := rfl
@[simp] theorem State.modBed_thm (s : State) (b : Nat) (f : Bed → Bed) : (s.modBed b f).thm = s.thm := rfl
@[simp] theorem State.modBed_spc (s : State) (b : Nat) (f : Bed → Bed) : (s.modBed b f).spc = s.spc := rfl
@[simp] theorem State.modBed_cmd (s : State) (b : Nat) (f : Bed → Bed) : (s.modBed b f).cmd = s.cmd := rfl
@[simp] theorem State.modBed_cfg (s : State) (b : Nat) (f : Bed → Bed) : (s.modBed b f).cfg = s.cfg := rfl
@[simp] theorem State.modBed_beds (s : State) (b : Nat) (f : Bed → Bed) : (s.modBed b f).beds = s.beds.modify b f := rfl
@[simp] theorem State.modBed_drv (s : State) (b : Nat) (f : Bed → Bed) : (s.modBed b f).drv = s.drv := rfl
@[simp] theorem State.modBed_rill (s : State) (b : Nat) (f : Bed → Bed) : (s.modBed b f).rill = s.rill := rfl
@[simp] theorem State.modBed_cph (s : State) (b : Nat) (f : Bed → Bed) : (s.modBed b f).cph = s.cph := rfl
@[simp] theorem State.modBed_gus (s : State) (b : Nat) (f : Bed → Bed) : (s.modBed b f).gus = s.gus := rfl
@[simp] theorem State.modBed_mnt (s : State) (b : Nat) (f : Bed → Bed) : (s.modBed b f).mnt = s.mnt := rfl
@[simp] theorem State.modBed_net (s : State) (b : Nat) (f : Bed → Bed) : (s.modBed b f).net = s.net := rfl
@[simp] theorem State.modBed_slu (s : State) (b : Nat) (f : Bed → Bed) : (s.modBed b f).slu = s.slu := rfl
@[simp] theorem State.modBed_rack (s : State) (b : Nat) (f : Bed → Bed) : (s.modBed b f).rack = s.rack := rfl
@[simp] theorem State.modBed_ept (s : State) (b : Nat) (f : Bed → Bed) : (s.modBed b f).ept = s.ept := rfl
@[simp] theorem State.modBed_pmu (s : State) (b : Nat) (f : Bed → Bed) : (s.modBed b f).pmu = s.pmu := rfl
@[simp] theorem State.modBed_mram (s : State) (b : Nat) (f : Bed → Bed) : (s.modBed b f).mram = s.mram := rfl
@[simp] theorem State.modBed_nor (s : State) (b : Nat) (f : Bed → Bed) : (s.modBed b f).nor = s.nor := rfl
@[simp] theorem State.modBed_out (s : State) (b : Nat) (f : Bed → Bed) : (s.modBed b f).out = s.out := rfl
@[simp] theorem State.modBed_free (s : State) (b : Nat) (f : Bed → Bed) : (s.modBed b f).free = s.free := rfl
@[simp] theorem State.modBed_pending (s : State) (b : Nat) (f : Bed → Bed) : (s.modBed b f).pending = s.pending := rfl

/-! `State.setPort` writes `drv` only. -/

@[simp] theorem State.setPort_now (s : State) (k : Nat) (p : DrvPort) : (s.setPort k p).now = s.now := rfl
@[simp] theorem State.setPort_frac (s : State) (k : Nat) (p : DrvPort) : (s.setPort k p).frac = s.frac := rfl
@[simp] theorem State.setPort_toff (s : State) (k : Nat) (p : DrvPort) : (s.setPort k p).toff = s.toff := rfl
@[simp] theorem State.setPort_fuses (s : State) (k : Nat) (p : DrvPort) : (s.setPort k p).fuses = s.fuses := rfl
@[simp] theorem State.setPort_regs (s : State) (k : Nat) (p : DrvPort) : (s.setPort k p).regs = s.regs := rfl
@[simp] theorem State.setPort_shelf (s : State) (k : Nat) (p : DrvPort) : (s.setPort k p).shelf = s.shelf := rfl
@[simp] theorem State.setPort_rst (s : State) (k : Nat) (p : DrvPort) : (s.setPort k p).rst = s.rst := rfl
@[simp] theorem State.setPort_pwr (s : State) (k : Nat) (p : DrvPort) : (s.setPort k p).pwr = s.pwr := rfl
@[simp] theorem State.setPort_clk (s : State) (k : Nat) (p : DrvPort) : (s.setPort k p).clk = s.clk := rfl
@[simp] theorem State.setPort_thm (s : State) (k : Nat) (p : DrvPort) : (s.setPort k p).thm = s.thm := rfl
@[simp] theorem State.setPort_spc (s : State) (k : Nat) (p : DrvPort) : (s.setPort k p).spc = s.spc := rfl
@[simp] theorem State.setPort_cmd (s : State) (k : Nat) (p : DrvPort) : (s.setPort k p).cmd = s.cmd := rfl
@[simp] theorem State.setPort_cfg (s : State) (k : Nat) (p : DrvPort) : (s.setPort k p).cfg = s.cfg := rfl
@[simp] theorem State.setPort_beds (s : State) (k : Nat) (p : DrvPort) : (s.setPort k p).beds = s.beds := rfl
@[simp] theorem State.setPort_drv (s : State) (k : Nat) (p : DrvPort) : (s.setPort k p).drv = { s.drv with ports := s.drv.ports.put k p } := rfl
@[simp] theorem State.setPort_rill (s : State) (k : Nat) (p : DrvPort) : (s.setPort k p).rill = s.rill := rfl
@[simp] theorem State.setPort_cph (s : State) (k : Nat) (p : DrvPort) : (s.setPort k p).cph = s.cph := rfl
@[simp] theorem State.setPort_gus (s : State) (k : Nat) (p : DrvPort) : (s.setPort k p).gus = s.gus := rfl
@[simp] theorem State.setPort_mnt (s : State) (k : Nat) (p : DrvPort) : (s.setPort k p).mnt = s.mnt := rfl
@[simp] theorem State.setPort_net (s : State) (k : Nat) (p : DrvPort) : (s.setPort k p).net = s.net := rfl
@[simp] theorem State.setPort_slu (s : State) (k : Nat) (p : DrvPort) : (s.setPort k p).slu = s.slu := rfl
@[simp] theorem State.setPort_rack (s : State) (k : Nat) (p : DrvPort) : (s.setPort k p).rack = s.rack := rfl
@[simp] theorem State.setPort_ept (s : State) (k : Nat) (p : DrvPort) : (s.setPort k p).ept = s.ept := rfl
@[simp] theorem State.setPort_pmu (s : State) (k : Nat) (p : DrvPort) : (s.setPort k p).pmu = s.pmu := rfl
@[simp] theorem State.setPort_mram (s : State) (k : Nat) (p : DrvPort) : (s.setPort k p).mram = s.mram := rfl
@[simp] theorem State.setPort_nor (s : State) (k : Nat) (p : DrvPort) : (s.setPort k p).nor = s.nor := rfl
@[simp] theorem State.setPort_out (s : State) (k : Nat) (p : DrvPort) : (s.setPort k p).out = s.out := rfl
@[simp] theorem State.setPort_free (s : State) (k : Nat) (p : DrvPort) : (s.setPort k p).free = s.free := rfl
@[simp] theorem State.setPort_pending (s : State) (k : Nat) (p : DrvPort) : (s.setPort k p).pending = s.pending := rfl

/-! `State.setChan` writes `spc` only. -/

@[simp] theorem State.setChan_now (s : State) (k : Nat) (c : Chan) : (s.setChan k c).now = s.now := rfl
@[simp] theorem State.setChan_frac (s : State) (k : Nat) (c : Chan) : (s.setChan k c).frac = s.frac := rfl
@[simp] theorem State.setChan_toff (s : State) (k : Nat) (c : Chan) : (s.setChan k c).toff = s.toff := rfl
@[simp] theorem State.setChan_fuses (s : State) (k : Nat) (c : Chan) : (s.setChan k c).fuses = s.fuses := rfl
@[simp] theorem State.setChan_regs (s : State) (k : Nat) (c : Chan) : (s.setChan k c).regs = s.regs := rfl
@[simp] theorem State.setChan_shelf (s : State) (k : Nat) (c : Chan) : (s.setChan k c).shelf = s.shelf := rfl
@[simp] theorem State.setChan_rst (s : State) (k : Nat) (c : Chan) : (s.setChan k c).rst = s.rst := rfl
@[simp] theorem State.setChan_pwr (s : State) (k : Nat) (c : Chan) : (s.setChan k c).pwr = s.pwr := rfl
@[simp] theorem State.setChan_clk (s : State) (k : Nat) (c : Chan) : (s.setChan k c).clk = s.clk := rfl
@[simp] theorem State.setChan_thm (s : State) (k : Nat) (c : Chan) : (s.setChan k c).thm = s.thm := rfl
@[simp] theorem State.setChan_spc (s : State) (k : Nat) (c : Chan) : (s.setChan k c).spc = { s.spc with chans := s.spc.chans.put k c } := rfl
@[simp] theorem State.setChan_cmd (s : State) (k : Nat) (c : Chan) : (s.setChan k c).cmd = s.cmd := rfl
@[simp] theorem State.setChan_cfg (s : State) (k : Nat) (c : Chan) : (s.setChan k c).cfg = s.cfg := rfl
@[simp] theorem State.setChan_beds (s : State) (k : Nat) (c : Chan) : (s.setChan k c).beds = s.beds := rfl
@[simp] theorem State.setChan_drv (s : State) (k : Nat) (c : Chan) : (s.setChan k c).drv = s.drv := rfl
@[simp] theorem State.setChan_rill (s : State) (k : Nat) (c : Chan) : (s.setChan k c).rill = s.rill := rfl
@[simp] theorem State.setChan_cph (s : State) (k : Nat) (c : Chan) : (s.setChan k c).cph = s.cph := rfl
@[simp] theorem State.setChan_gus (s : State) (k : Nat) (c : Chan) : (s.setChan k c).gus = s.gus := rfl
@[simp] theorem State.setChan_mnt (s : State) (k : Nat) (c : Chan) : (s.setChan k c).mnt = s.mnt := rfl
@[simp] theorem State.setChan_net (s : State) (k : Nat) (c : Chan) : (s.setChan k c).net = s.net := rfl
@[simp] theorem State.setChan_slu (s : State) (k : Nat) (c : Chan) : (s.setChan k c).slu = s.slu := rfl
@[simp] theorem State.setChan_rack (s : State) (k : Nat) (c : Chan) : (s.setChan k c).rack = s.rack := rfl
@[simp] theorem State.setChan_ept (s : State) (k : Nat) (c : Chan) : (s.setChan k c).ept = s.ept := rfl
@[simp] theorem State.setChan_pmu (s : State) (k : Nat) (c : Chan) : (s.setChan k c).pmu = s.pmu := rfl
@[simp] theorem State.setChan_mram (s : State) (k : Nat) (c : Chan) : (s.setChan k c).mram = s.mram := rfl
@[simp] theorem State.setChan_nor (s : State) (k : Nat) (c : Chan) : (s.setChan k c).nor = s.nor := rfl
@[simp] theorem State.setChan_out (s : State) (k : Nat) (c : Chan) : (s.setChan k c).out = s.out := rfl
@[simp] theorem State.setChan_free (s : State) (k : Nat) (c : Chan) : (s.setChan k c).free = s.free := rfl
@[simp] theorem State.setChan_pending (s : State) (k : Nat) (c : Chan) : (s.setChan k c).pending = s.pending := rfl

/-! `State.mod` writes `cmd` only. -/

@[simp] theorem State.mod_now (s : State) (a : Nat) (f : CmdRec → CmdRec) : (s.mod a f).now = s.now := rfl
@[simp] theorem State.mod_frac (s : State) (a : Nat) (f : CmdRec → CmdRec) : (s.mod a f).frac = s.frac := rfl
@[simp] theorem State.mod_toff (s : State) (a : Nat) (f : CmdRec → CmdRec) : (s.mod a f).toff = s.toff := rfl
@[simp] theorem State.mod_fuses (s : State) (a : Nat) (f : CmdRec → CmdRec) : (s.mod a f).fuses = s.fuses := rfl
@[simp] theorem State.mod_regs (s : State) (a : Nat) (f : CmdRec → CmdRec) : (s.mod a f).regs = s.regs := rfl
@[simp] theorem State.mod_shelf (s : State) (a : Nat) (f : CmdRec → CmdRec) : (s.mod a f).shelf = s.shelf := rfl
@[simp] theorem State.mod_rst (s : State) (a : Nat) (f : CmdRec → CmdRec) : (s.mod a f).rst = s.rst := rfl
@[simp] theorem State.mod_pwr (s : State) (a : Nat) (f : CmdRec → CmdRec) : (s.mod a f).pwr = s.pwr := rfl
@[simp] theorem State.mod_clk (s : State) (a : Nat) (f : CmdRec → CmdRec) : (s.mod a f).clk = s.clk := rfl
@[simp] theorem State.mod_thm (s : State) (a : Nat) (f : CmdRec → CmdRec) : (s.mod a f).thm = s.thm := rfl
@[simp] theorem State.mod_spc (s : State) (a : Nat) (f : CmdRec → CmdRec) : (s.mod a f).spc = s.spc := rfl
@[simp] theorem State.mod_cmd (s : State) (a : Nat) (f : CmdRec → CmdRec) : (s.mod a f).cmd = { s.cmd with cmds := s.cmd.cmds.modify a f } := rfl
@[simp] theorem State.mod_cfg (s : State) (a : Nat) (f : CmdRec → CmdRec) : (s.mod a f).cfg = s.cfg := rfl
@[simp] theorem State.mod_beds (s : State) (a : Nat) (f : CmdRec → CmdRec) : (s.mod a f).beds = s.beds := rfl
@[simp] theorem State.mod_drv (s : State) (a : Nat) (f : CmdRec → CmdRec) : (s.mod a f).drv = s.drv := rfl
@[simp] theorem State.mod_rill (s : State) (a : Nat) (f : CmdRec → CmdRec) : (s.mod a f).rill = s.rill := rfl
@[simp] theorem State.mod_cph (s : State) (a : Nat) (f : CmdRec → CmdRec) : (s.mod a f).cph = s.cph := rfl
@[simp] theorem State.mod_gus (s : State) (a : Nat) (f : CmdRec → CmdRec) : (s.mod a f).gus = s.gus := rfl
@[simp] theorem State.mod_mnt (s : State) (a : Nat) (f : CmdRec → CmdRec) : (s.mod a f).mnt = s.mnt := rfl
@[simp] theorem State.mod_net (s : State) (a : Nat) (f : CmdRec → CmdRec) : (s.mod a f).net = s.net := rfl
@[simp] theorem State.mod_slu (s : State) (a : Nat) (f : CmdRec → CmdRec) : (s.mod a f).slu = s.slu := rfl
@[simp] theorem State.mod_rack (s : State) (a : Nat) (f : CmdRec → CmdRec) : (s.mod a f).rack = s.rack := rfl
@[simp] theorem State.mod_ept (s : State) (a : Nat) (f : CmdRec → CmdRec) : (s.mod a f).ept = s.ept := rfl
@[simp] theorem State.mod_pmu (s : State) (a : Nat) (f : CmdRec → CmdRec) : (s.mod a f).pmu = s.pmu := rfl
@[simp] theorem State.mod_mram (s : State) (a : Nat) (f : CmdRec → CmdRec) : (s.mod a f).mram = s.mram := rfl
@[simp] theorem State.mod_nor (s : State) (a : Nat) (f : CmdRec → CmdRec) : (s.mod a f).nor = s.nor := rfl
@[simp] theorem State.mod_out (s : State) (a : Nat) (f : CmdRec → CmdRec) : (s.mod a f).out = s.out := rfl
@[simp] theorem State.mod_free (s : State) (a : Nat) (f : CmdRec → CmdRec) : (s.mod a f).free = s.free := rfl
@[simp] theorem State.mod_pending (s : State) (a : Nat) (f : CmdRec → CmdRec) : (s.mod a f).pending = s.pending := rfl

/-! `State.modAssoc` writes `cmd` only. -/

@[simp] theorem State.modAssoc_now (s : State) (a : Nat) (f : Assoc → Assoc) : (s.modAssoc a f).now = s.now := rfl
@[simp] theorem State.modAssoc_frac (s : State) (a : Nat) (f : Assoc → Assoc) : (s.modAssoc a f).frac = s.frac := rfl
@[simp] theorem State.modAssoc_toff (s : State) (a : Nat) (f : Assoc → Assoc) : (s.modAssoc a f).toff = s.toff := rfl
@[simp] theorem State.modAssoc_fuses (s : State) (a : Nat) (f : Assoc → Assoc) : (s.modAssoc a f).fuses = s.fuses := rfl
@[simp] theorem State.modAssoc_regs (s : State) (a : Nat) (f : Assoc → Assoc) : (s.modAssoc a f).regs = s.regs := rfl
@[simp] theorem State.modAssoc_shelf (s : State) (a : Nat) (f : Assoc → Assoc) : (s.modAssoc a f).shelf = s.shelf := rfl
@[simp] theorem State.modAssoc_rst (s : State) (a : Nat) (f : Assoc → Assoc) : (s.modAssoc a f).rst = s.rst := rfl
@[simp] theorem State.modAssoc_pwr (s : State) (a : Nat) (f : Assoc → Assoc) : (s.modAssoc a f).pwr = s.pwr := rfl
@[simp] theorem State.modAssoc_clk (s : State) (a : Nat) (f : Assoc → Assoc) : (s.modAssoc a f).clk = s.clk := rfl
@[simp] theorem State.modAssoc_thm (s : State) (a : Nat) (f : Assoc → Assoc) : (s.modAssoc a f).thm = s.thm := rfl
@[simp] theorem State.modAssoc_spc (s : State) (a : Nat) (f : Assoc → Assoc) : (s.modAssoc a f).spc = s.spc := rfl
@[simp] theorem State.modAssoc_cmd (s : State) (a : Nat) (f : Assoc → Assoc) : (s.modAssoc a f).cmd = { s.cmd with assocs := s.cmd.assocs.modify a f } := rfl
@[simp] theorem State.modAssoc_cfg (s : State) (a : Nat) (f : Assoc → Assoc) : (s.modAssoc a f).cfg = s.cfg := rfl
@[simp] theorem State.modAssoc_beds (s : State) (a : Nat) (f : Assoc → Assoc) : (s.modAssoc a f).beds = s.beds := rfl
@[simp] theorem State.modAssoc_drv (s : State) (a : Nat) (f : Assoc → Assoc) : (s.modAssoc a f).drv = s.drv := rfl
@[simp] theorem State.modAssoc_rill (s : State) (a : Nat) (f : Assoc → Assoc) : (s.modAssoc a f).rill = s.rill := rfl
@[simp] theorem State.modAssoc_cph (s : State) (a : Nat) (f : Assoc → Assoc) : (s.modAssoc a f).cph = s.cph := rfl
@[simp] theorem State.modAssoc_gus (s : State) (a : Nat) (f : Assoc → Assoc) : (s.modAssoc a f).gus = s.gus := rfl
@[simp] theorem State.modAssoc_mnt (s : State) (a : Nat) (f : Assoc → Assoc) : (s.modAssoc a f).mnt = s.mnt := rfl
@[simp] theorem State.modAssoc_net (s : State) (a : Nat) (f : Assoc → Assoc) : (s.modAssoc a f).net = s.net := rfl
@[simp] theorem State.modAssoc_slu (s : State) (a : Nat) (f : Assoc → Assoc) : (s.modAssoc a f).slu = s.slu := rfl
@[simp] theorem State.modAssoc_rack (s : State) (a : Nat) (f : Assoc → Assoc) : (s.modAssoc a f).rack = s.rack := rfl
@[simp] theorem State.modAssoc_ept (s : State) (a : Nat) (f : Assoc → Assoc) : (s.modAssoc a f).ept = s.ept := rfl
@[simp] theorem State.modAssoc_pmu (s : State) (a : Nat) (f : Assoc → Assoc) : (s.modAssoc a f).pmu = s.pmu := rfl
@[simp] theorem State.modAssoc_mram (s : State) (a : Nat) (f : Assoc → Assoc) : (s.modAssoc a f).mram = s.mram := rfl
@[simp] theorem State.modAssoc_nor (s : State) (a : Nat) (f : Assoc → Assoc) : (s.modAssoc a f).nor = s.nor := rfl
@[simp] theorem State.modAssoc_out (s : State) (a : Nat) (f : Assoc → Assoc) : (s.modAssoc a f).out = s.out := rfl
@[simp] theorem State.modAssoc_free (s : State) (a : Nat) (f : Assoc → Assoc) : (s.modAssoc a f).free = s.free := rfl
@[simp] theorem State.modAssoc_pending (s : State) (a : Nat) (f : Assoc → Assoc) : (s.modAssoc a f).pending = s.pending := rfl

/-! `State.setFld` writes `regs` only. -/

@[simp] theorem State.setFld_now (s : State) (f : Fld) (v : Nat) : (s.setFld f v).now = s.now := rfl
@[simp] theorem State.setFld_frac (s : State) (f : Fld) (v : Nat) : (s.setFld f v).frac = s.frac := rfl
@[simp] theorem State.setFld_toff (s : State) (f : Fld) (v : Nat) : (s.setFld f v).toff = s.toff := rfl
@[simp] theorem State.setFld_fuses (s : State) (f : Fld) (v : Nat) : (s.setFld f v).fuses = s.fuses := rfl
@[simp] theorem State.setFld_shelf (s : State) (f : Fld) (v : Nat) : (s.setFld f v).shelf = s.shelf := rfl
@[simp] theorem State.setFld_rst (s : State) (f : Fld) (v : Nat) : (s.setFld f v).rst = s.rst := rfl
@[simp] theorem State.setFld_pwr (s : State) (f : Fld) (v : Nat) : (s.setFld f v).pwr = s.pwr := rfl
@[simp] theorem State.setFld_clk (s : State) (f : Fld) (v : Nat) : (s.setFld f v).clk = s.clk := rfl
@[simp] theorem State.setFld_thm (s : State) (f : Fld) (v : Nat) : (s.setFld f v).thm = s.thm := rfl
@[simp] theorem State.setFld_spc (s : State) (f : Fld) (v : Nat) : (s.setFld f v).spc = s.spc := rfl
@[simp] theorem State.setFld_cmd (s : State) (f : Fld) (v : Nat) : (s.setFld f v).cmd = s.cmd := rfl
@[simp] theorem State.setFld_cfg (s : State) (f : Fld) (v : Nat) : (s.setFld f v).cfg = s.cfg := rfl
@[simp] theorem State.setFld_beds (s : State) (f : Fld) (v : Nat) : (s.setFld f v).beds = s.beds := rfl
@[simp] theorem State.setFld_drv (s : State) (f : Fld) (v : Nat) : (s.setFld f v).drv = s.drv := rfl
@[simp] theorem State.setFld_rill (s : State) (f : Fld) (v : Nat) : (s.setFld f v).rill = s.rill := rfl
@[simp] theorem State.setFld_cph (s : State) (f : Fld) (v : Nat) : (s.setFld f v).cph = s.cph := rfl
@[simp] theorem State.setFld_gus (s : State) (f : Fld) (v : Nat) : (s.setFld f v).gus = s.gus := rfl
@[simp] theorem State.setFld_mnt (s : State) (f : Fld) (v : Nat) : (s.setFld f v).mnt = s.mnt := rfl
@[simp] theorem State.setFld_net (s : State) (f : Fld) (v : Nat) : (s.setFld f v).net = s.net := rfl
@[simp] theorem State.setFld_slu (s : State) (f : Fld) (v : Nat) : (s.setFld f v).slu = s.slu := rfl
@[simp] theorem State.setFld_rack (s : State) (f : Fld) (v : Nat) : (s.setFld f v).rack = s.rack := rfl
@[simp] theorem State.setFld_ept (s : State) (f : Fld) (v : Nat) : (s.setFld f v).ept = s.ept := rfl
@[simp] theorem State.setFld_pmu (s : State) (f : Fld) (v : Nat) : (s.setFld f v).pmu = s.pmu := rfl
@[simp] theorem State.setFld_mram (s : State) (f : Fld) (v : Nat) : (s.setFld f v).mram = s.mram := rfl
@[simp] theorem State.setFld_nor (s : State) (f : Fld) (v : Nat) : (s.setFld f v).nor = s.nor := rfl
@[simp] theorem State.setFld_out (s : State) (f : Fld) (v : Nat) : (s.setFld f v).out = s.out := rfl
@[simp] theorem State.setFld_free (s : State) (f : Fld) (v : Nat) : (s.setFld f v).free = s.free := rfl
@[simp] theorem State.setFld_pending (s : State) (f : Fld) (v : Nat) : (s.setFld f v).pending = s.pending := rfl

/-! `State.bump` writes `regs` only. -/

@[simp] theorem State.bump_now (s : State) (f : Fld) (n : Nat) : (s.bump f n).now = s.now := rfl
@[simp] theorem State.bump_frac (s : State) (f : Fld) (n : Nat) : (s.bump f n).frac = s.frac := rfl
@[simp] theorem State.bump_toff (s : State) (f : Fld) (n : Nat) : (s.bump f n).toff = s.toff := rfl
@[simp] theorem State.bump_fuses (s : State) (f : Fld) (n : Nat) : (s.bump f n).fuses = s.fuses := rfl
@[simp] theorem State.bump_shelf (s : State) (f : Fld) (n : Nat) : (s.bump f n).shelf = s.shelf := rfl
@[simp] theorem State.bump_rst (s : State) (f : Fld) (n : Nat) : (s.bump f n).rst = s.rst := rfl
@[simp] theorem State.bump_pwr (s : State) (f : Fld) (n : Nat) : (s.bump f n).pwr = s.pwr := rfl
@[simp] theorem State.bump_clk (s : State) (f : Fld) (n : Nat) : (s.bump f n).clk = s.clk := rfl
@[simp] theorem State.bump_thm (s : State) (f : Fld) (n : Nat) : (s.bump f n).thm = s.thm := rfl
@[simp] theorem State.bump_spc (s : State) (f : Fld) (n : Nat) : (s.bump f n).spc = s.spc := rfl
@[simp] theorem State.bump_cmd (s : State) (f : Fld) (n : Nat) : (s.bump f n).cmd = s.cmd := rfl
@[simp] theorem State.bump_cfg (s : State) (f : Fld) (n : Nat) : (s.bump f n).cfg = s.cfg := rfl
@[simp] theorem State.bump_beds (s : State) (f : Fld) (n : Nat) : (s.bump f n).beds = s.beds := rfl
@[simp] theorem State.bump_drv (s : State) (f : Fld) (n : Nat) : (s.bump f n).drv = s.drv := rfl
@[simp] theorem State.bump_rill (s : State) (f : Fld) (n : Nat) : (s.bump f n).rill = s.rill := rfl
@[simp] theorem State.bump_cph (s : State) (f : Fld) (n : Nat) : (s.bump f n).cph = s.cph := rfl
@[simp] theorem State.bump_gus (s : State) (f : Fld) (n : Nat) : (s.bump f n).gus = s.gus := rfl
@[simp] theorem State.bump_mnt (s : State) (f : Fld) (n : Nat) : (s.bump f n).mnt = s.mnt := rfl
@[simp] theorem State.bump_net (s : State) (f : Fld) (n : Nat) : (s.bump f n).net = s.net := rfl
@[simp] theorem State.bump_slu (s : State) (f : Fld) (n : Nat) : (s.bump f n).slu = s.slu := rfl
@[simp] theorem State.bump_rack (s : State) (f : Fld) (n : Nat) : (s.bump f n).rack = s.rack := rfl
@[simp] theorem State.bump_ept (s : State) (f : Fld) (n : Nat) : (s.bump f n).ept = s.ept := rfl
@[simp] theorem State.bump_pmu (s : State) (f : Fld) (n : Nat) : (s.bump f n).pmu = s.pmu := rfl
@[simp] theorem State.bump_mram (s : State) (f : Fld) (n : Nat) : (s.bump f n).mram = s.mram := rfl
@[simp] theorem State.bump_nor (s : State) (f : Fld) (n : Nat) : (s.bump f n).nor = s.nor := rfl
@[simp] theorem State.bump_out (s : State) (f : Fld) (n : Nat) : (s.bump f n).out = s.out := rfl
@[simp] theorem State.bump_free (s : State) (f : Fld) (n : Nat) : (s.bump f n).free = s.free := rfl
@[simp] theorem State.bump_pending (s : State) (f : Fld) (n : Nat) : (s.bump f n).pending = s.pending := rfl

end Sys2Proof.Machine
end

