-- ==== Sys2Proof/Laws/Pmu.lean ====
section
/-! SUPPORT. Counting writes nothing but the performance monitor, the endpoint's pending vectors and the record of outputs;
an expiry moves time on and lets the counters run. -/

namespace Sys2Proof.Machine

/-- `t` differs from `s` at most in `pmu`, `ept` and `out`. -/
def PmuOnly (s t : State) : Prop := t = { s with pmu := t.pmu, ept := t.ept, out := t.out }

theorem PmuOnly.refl (s : State) : PmuOnly s s := rfl

theorem PmuOnly.trans {s t u : State} (h : PmuOnly s t) (k : PmuOnly t u) : PmuOnly s u := by
  unfold PmuOnly at *; rw [h] at k; exact k

theorem PmuOnly.foldl {α : Type} (f : State → α → State) (h : ∀ s a, PmuOnly s (f s a)) (l : List α) (s : State) :
    PmuOnly s (l.foldl f s) := by
  induction l generalizing s with
  | nil => exact .refl s
  | cons a l ih => exact (h s a).trans (ih _)

theorem State.setPba_only (s : State) (fn v : Nat) (on : Bool) : PmuOnly s (s.setPba fn v on) := by
  unfold State.setPba; split <;> rfl

theorem State.msix_only (s : State) (fn v : Nat) : PmuOnly s (s.msix fn v) := by
  unfold State.msix; split
  · exact .refl s
  · split
    · exact State.setPba_only ..
    · rfl

theorem State.msixFlush_only (s : State) (fn : Nat) : PmuOnly s (s.msixFlush fn) := by
  unfold State.msixFlush
  refine PmuOnly.foldl _ (fun s v => ?_) _ s
  split
  · exact (State.setPba_only ..).trans (State.msix_only ..)
  · exact .refl s

theorem State.pmuOvf_only (s : State) (n : Nat) : PmuOnly s (s.pmuOvf n) := by
  unfold State.pmuOvf; dsimp only; split
  · exact PmuOnly.trans (t := { s with pmu := { s.pmu with ovf := setBit s.pmu.ovf n true } }) rfl (State.msix_only _ _ _)
  · rfl

theorem State.ctrAdd_only (s : State) (n k : Nat) : PmuOnly s (s.ctrAdd n k).1 := rfl

theorem State.pmuAdd_only (s : State) (n k : Nat) : PmuOnly s (s.pmuAdd n k) := by
  unfold State.pmuAdd; split
  · exact .refl s
  · dsimp only; split
    · exact State.ctrAdd_only s n k
    · split
      · split
        · split
          · exact (State.ctrAdd_only s n k).trans (State.ctrAdd_only _ _ _)
          · exact ((State.ctrAdd_only s n k).trans (State.ctrAdd_only _ _ _)).trans (State.pmuOvf_only _ _)
        · exact State.ctrAdd_only s n k
      · exact (State.ctrAdd_only s n k).trans (State.pmuOvf_only _ _)

theorem State.pmuEvent_only (s : State) (code inst k : Nat) : PmuOnly s (s.pmuEvent code inst k) := by
  unfold State.pmuEvent
  refine PmuOnly.foldl _ (fun s n => ?_) _ s
  split
  · exact State.pmuAdd_only _ _ _
  · exact .refl s

theorem State.histAdd_only (s : State) (src inst v : Nat) (keep : Nat → Bool) : PmuOnly s (s.histAdd src inst v keep) := by
  unfold State.histAdd; split
  · exact .refl s
  · refine PmuOnly.foldl _ (fun s n => ?_) _ s
    split
    · rfl
    · exact .refl s

theorem State.pmuCycles_only (s : State) (k : Nat) : PmuOnly s (s.pmuCycles k) := by
  unfold State.pmuCycles; split
  · exact .refl s
  · refine PmuOnly.foldl _ (fun s n => ?_) _ s
    dsimp only
    split
    · split
      · exact State.pmuAdd_only _ _ _
      · split
        · exact State.pmuAdd_only _ _ _
        · exact .refl s
    · split
      · split
        · exact State.pmuAdd_only _ _ _
        · exact .refl s
      · split
        · exact State.pmuAdd_only _ _ _
        · split
          · exact PmuOnly.trans (t := { s with pmu := { s.pmu with above := _ } }) rfl (State.pmuAdd_only _ _ _)
          · rfl

/-- An expiry at `d` moves time on to `d` where that lies ahead. -/
@[simp] theorem State.at_now (s : State) (d : Nat) : (s.at d).now = max s.now d := rfl

theorem PmuOnly.now {s t : State} (h : PmuOnly s t) : t.now = s.now := by rw [h]
theorem PmuOnly.frac {s t : State} (h : PmuOnly s t) : t.frac = s.frac := by rw [h]
theorem PmuOnly.toff {s t : State} (h : PmuOnly s t) : t.toff = s.toff := by rw [h]
theorem PmuOnly.fuses {s t : State} (h : PmuOnly s t) : t.fuses = s.fuses := by rw [h]
theorem PmuOnly.regs {s t : State} (h : PmuOnly s t) : t.regs = s.regs := by rw [h]
theorem PmuOnly.shelf {s t : State} (h : PmuOnly s t) : t.shelf = s.shelf := by rw [h]
theorem PmuOnly.rst {s t : State} (h : PmuOnly s t) : t.rst = s.rst := by rw [h]
theorem PmuOnly.pwr {s t : State} (h : PmuOnly s t) : t.pwr = s.pwr := by rw [h]
theorem PmuOnly.clk {s t : State} (h : PmuOnly s t) : t.clk = s.clk := by rw [h]
theorem PmuOnly.thm {s t : State} (h : PmuOnly s t) : t.thm = s.thm := by rw [h]
theorem PmuOnly.spc {s t : State} (h : PmuOnly s t) : t.spc = s.spc := by rw [h]
theorem PmuOnly.cmd {s t : State} (h : PmuOnly s t) : t.cmd = s.cmd := by rw [h]
theorem PmuOnly.cfg {s t : State} (h : PmuOnly s t) : t.cfg = s.cfg := by rw [h]
theorem PmuOnly.beds {s t : State} (h : PmuOnly s t) : t.beds = s.beds := by rw [h]
theorem PmuOnly.drv {s t : State} (h : PmuOnly s t) : t.drv = s.drv := by rw [h]
theorem PmuOnly.rill {s t : State} (h : PmuOnly s t) : t.rill = s.rill := by rw [h]
theorem PmuOnly.cph {s t : State} (h : PmuOnly s t) : t.cph = s.cph := by rw [h]
theorem PmuOnly.gus {s t : State} (h : PmuOnly s t) : t.gus = s.gus := by rw [h]
theorem PmuOnly.mnt {s t : State} (h : PmuOnly s t) : t.mnt = s.mnt := by rw [h]
theorem PmuOnly.net {s t : State} (h : PmuOnly s t) : t.net = s.net := by rw [h]
theorem PmuOnly.slu {s t : State} (h : PmuOnly s t) : t.slu = s.slu := by rw [h]
theorem PmuOnly.rack {s t : State} (h : PmuOnly s t) : t.rack = s.rack := by rw [h]
theorem PmuOnly.mram {s t : State} (h : PmuOnly s t) : t.mram = s.mram := by rw [h]
theorem PmuOnly.nor {s t : State} (h : PmuOnly s t) : t.nor = s.nor := by rw [h]
theorem PmuOnly.free {s t : State} (h : PmuOnly s t) : t.free = s.free := by rw [h]
theorem PmuOnly.pending {s t : State} (h : PmuOnly s t) : t.pending = s.pending := by rw [h]

@[simp] theorem State.pmuEvent_now (s : State) (c i k : Nat) : (s.pmuEvent c i k).now = s.now := (s.pmuEvent_only c i k).now
@[simp] theorem State.pmuEvent_frac (s : State) (c i k : Nat) : (s.pmuEvent c i k).frac = s.frac := (s.pmuEvent_only c i k).frac
@[simp] theorem State.pmuEvent_toff (s : State) (c i k : Nat) : (s.pmuEvent c i k).toff = s.toff := (s.pmuEvent_only c i k).toff
@[simp] theorem State.pmuEvent_fuses (s : State) (c i k : Nat) : (s.pmuEvent c i k).fuses = s.fuses := (s.pmuEvent_only c i k).fuses
@[simp] theorem State.pmuEvent_regs (s : State) (c i k : Nat) : (s.pmuEvent c i k).regs = s.regs := (s.pmuEvent_only c i k).regs
@[simp] theorem State.pmuEvent_shelf (s : State) (c i k : Nat) : (s.pmuEvent c i k).shelf = s.shelf := (s.pmuEvent_only c i k).shelf
@[simp] theorem State.pmuEvent_rst (s : State) (c i k : Nat) : (s.pmuEvent c i k).rst = s.rst := (s.pmuEvent_only c i k).rst
@[simp] theorem State.pmuEvent_pwr (s : State) (c i k : Nat) : (s.pmuEvent c i k).pwr = s.pwr := (s.pmuEvent_only c i k).pwr
@[simp] theorem State.pmuEvent_clk (s : State) (c i k : Nat) : (s.pmuEvent c i k).clk = s.clk := (s.pmuEvent_only c i k).clk
@[simp] theorem State.pmuEvent_thm (s : State) (c i k : Nat) : (s.pmuEvent c i k).thm = s.thm := (s.pmuEvent_only c i k).thm
@[simp] theorem State.pmuEvent_spc (s : State) (c i k : Nat) : (s.pmuEvent c i k).spc = s.spc := (s.pmuEvent_only c i k).spc
@[simp] theorem State.pmuEvent_cmd (s : State) (c i k : Nat) : (s.pmuEvent c i k).cmd = s.cmd := (s.pmuEvent_only c i k).cmd
@[simp] theorem State.pmuEvent_cfg (s : State) (c i k : Nat) : (s.pmuEvent c i k).cfg = s.cfg := (s.pmuEvent_only c i k).cfg
@[simp] theorem State.pmuEvent_beds (s : State) (c i k : Nat) : (s.pmuEvent c i k).beds = s.beds := (s.pmuEvent_only c i k).beds
@[simp] theorem State.pmuEvent_drv (s : State) (c i k : Nat) : (s.pmuEvent c i k).drv = s.drv := (s.pmuEvent_only c i k).drv
@[simp] theorem State.pmuEvent_rill (s : State) (c i k : Nat) : (s.pmuEvent c i k).rill = s.rill := (s.pmuEvent_only c i k).rill
@[simp] theorem State.pmuEvent_cph (s : State) (c i k : Nat) : (s.pmuEvent c i k).cph = s.cph := (s.pmuEvent_only c i k).cph
@[simp] theorem State.pmuEvent_gus (s : State) (c i k : Nat) : (s.pmuEvent c i k).gus = s.gus := (s.pmuEvent_only c i k).gus
@[simp] theorem State.pmuEvent_mnt (s : State) (c i k : Nat) : (s.pmuEvent c i k).mnt = s.mnt := (s.pmuEvent_only c i k).mnt
@[simp] theorem State.pmuEvent_net (s : State) (c i k : Nat) : (s.pmuEvent c i k).net = s.net := (s.pmuEvent_only c i k).net
@[simp] theorem State.pmuEvent_slu (s : State) (c i k : Nat) : (s.pmuEvent c i k).slu = s.slu := (s.pmuEvent_only c i k).slu
@[simp] theorem State.pmuEvent_rack (s : State) (c i k : Nat) : (s.pmuEvent c i k).rack = s.rack := (s.pmuEvent_only c i k).rack
@[simp] theorem State.pmuEvent_mram (s : State) (c i k : Nat) : (s.pmuEvent c i k).mram = s.mram := (s.pmuEvent_only c i k).mram
@[simp] theorem State.pmuEvent_nor (s : State) (c i k : Nat) : (s.pmuEvent c i k).nor = s.nor := (s.pmuEvent_only c i k).nor
@[simp] theorem State.pmuEvent_free (s : State) (c i k : Nat) : (s.pmuEvent c i k).free = s.free := (s.pmuEvent_only c i k).free
@[simp] theorem State.pmuEvent_pending (s : State) (c i k : Nat) : (s.pmuEvent c i k).pending = s.pending := (s.pmuEvent_only c i k).pending

@[simp] theorem State.pmuCycles_now (s : State) (k : Nat) : (s.pmuCycles k).now = s.now := (s.pmuCycles_only k).now
@[simp] theorem State.pmuCycles_frac (s : State) (k : Nat) : (s.pmuCycles k).frac = s.frac := (s.pmuCycles_only k).frac
@[simp] theorem State.pmuCycles_toff (s : State) (k : Nat) : (s.pmuCycles k).toff = s.toff := (s.pmuCycles_only k).toff
@[simp] theorem State.pmuCycles_fuses (s : State) (k : Nat) : (s.pmuCycles k).fuses = s.fuses := (s.pmuCycles_only k).fuses
@[simp] theorem State.pmuCycles_regs (s : State) (k : Nat) : (s.pmuCycles k).regs = s.regs := (s.pmuCycles_only k).regs
@[simp] theorem State.pmuCycles_shelf (s : State) (k : Nat) : (s.pmuCycles k).shelf = s.shelf := (s.pmuCycles_only k).shelf
@[simp] theorem State.pmuCycles_rst (s : State) (k : Nat) : (s.pmuCycles k).rst = s.rst := (s.pmuCycles_only k).rst
@[simp] theorem State.pmuCycles_pwr (s : State) (k : Nat) : (s.pmuCycles k).pwr = s.pwr := (s.pmuCycles_only k).pwr
@[simp] theorem State.pmuCycles_clk (s : State) (k : Nat) : (s.pmuCycles k).clk = s.clk := (s.pmuCycles_only k).clk
@[simp] theorem State.pmuCycles_thm (s : State) (k : Nat) : (s.pmuCycles k).thm = s.thm := (s.pmuCycles_only k).thm
@[simp] theorem State.pmuCycles_spc (s : State) (k : Nat) : (s.pmuCycles k).spc = s.spc := (s.pmuCycles_only k).spc
@[simp] theorem State.pmuCycles_cmd (s : State) (k : Nat) : (s.pmuCycles k).cmd = s.cmd := (s.pmuCycles_only k).cmd
@[simp] theorem State.pmuCycles_cfg (s : State) (k : Nat) : (s.pmuCycles k).cfg = s.cfg := (s.pmuCycles_only k).cfg
@[simp] theorem State.pmuCycles_beds (s : State) (k : Nat) : (s.pmuCycles k).beds = s.beds := (s.pmuCycles_only k).beds
@[simp] theorem State.pmuCycles_drv (s : State) (k : Nat) : (s.pmuCycles k).drv = s.drv := (s.pmuCycles_only k).drv
@[simp] theorem State.pmuCycles_rill (s : State) (k : Nat) : (s.pmuCycles k).rill = s.rill := (s.pmuCycles_only k).rill
@[simp] theorem State.pmuCycles_cph (s : State) (k : Nat) : (s.pmuCycles k).cph = s.cph := (s.pmuCycles_only k).cph
@[simp] theorem State.pmuCycles_gus (s : State) (k : Nat) : (s.pmuCycles k).gus = s.gus := (s.pmuCycles_only k).gus
@[simp] theorem State.pmuCycles_mnt (s : State) (k : Nat) : (s.pmuCycles k).mnt = s.mnt := (s.pmuCycles_only k).mnt
@[simp] theorem State.pmuCycles_net (s : State) (k : Nat) : (s.pmuCycles k).net = s.net := (s.pmuCycles_only k).net
@[simp] theorem State.pmuCycles_slu (s : State) (k : Nat) : (s.pmuCycles k).slu = s.slu := (s.pmuCycles_only k).slu
@[simp] theorem State.pmuCycles_rack (s : State) (k : Nat) : (s.pmuCycles k).rack = s.rack := (s.pmuCycles_only k).rack
@[simp] theorem State.pmuCycles_mram (s : State) (k : Nat) : (s.pmuCycles k).mram = s.mram := (s.pmuCycles_only k).mram
@[simp] theorem State.pmuCycles_nor (s : State) (k : Nat) : (s.pmuCycles k).nor = s.nor := (s.pmuCycles_only k).nor
@[simp] theorem State.pmuCycles_free (s : State) (k : Nat) : (s.pmuCycles k).free = s.free := (s.pmuCycles_only k).free
@[simp] theorem State.pmuCycles_pending (s : State) (k : Nat) : (s.pmuCycles k).pending = s.pending := (s.pmuCycles_only k).pending

@[simp] theorem State.histAdd_now (s : State) (c i v : Nat) (p : Nat → Bool) : (s.histAdd c i v p).now = s.now := (s.histAdd_only c i v p).now
@[simp] theorem State.histAdd_frac (s : State) (c i v : Nat) (p : Nat → Bool) : (s.histAdd c i v p).frac = s.frac := (s.histAdd_only c i v p).frac
@[simp] theorem State.histAdd_toff (s : State) (c i v : Nat) (p : Nat → Bool) : (s.histAdd c i v p).toff = s.toff := (s.histAdd_only c i v p).toff
@[simp] theorem State.histAdd_fuses (s : State) (c i v : Nat) (p : Nat → Bool) : (s.histAdd c i v p).fuses = s.fuses := (s.histAdd_only c i v p).fuses
@[simp] theorem State.histAdd_regs (s : State) (c i v : Nat) (p : Nat → Bool) : (s.histAdd c i v p).regs = s.regs := (s.histAdd_only c i v p).regs
@[simp] theorem State.histAdd_shelf (s : State) (c i v : Nat) (p : Nat → Bool) : (s.histAdd c i v p).shelf = s.shelf := (s.histAdd_only c i v p).shelf
@[simp] theorem State.histAdd_rst (s : State) (c i v : Nat) (p : Nat → Bool) : (s.histAdd c i v p).rst = s.rst := (s.histAdd_only c i v p).rst
@[simp] theorem State.histAdd_pwr (s : State) (c i v : Nat) (p : Nat → Bool) : (s.histAdd c i v p).pwr = s.pwr := (s.histAdd_only c i v p).pwr
@[simp] theorem State.histAdd_clk (s : State) (c i v : Nat) (p : Nat → Bool) : (s.histAdd c i v p).clk = s.clk := (s.histAdd_only c i v p).clk
@[simp] theorem State.histAdd_thm (s : State) (c i v : Nat) (p : Nat → Bool) : (s.histAdd c i v p).thm = s.thm := (s.histAdd_only c i v p).thm
@[simp] theorem State.histAdd_spc (s : State) (c i v : Nat) (p : Nat → Bool) : (s.histAdd c i v p).spc = s.spc := (s.histAdd_only c i v p).spc
@[simp] theorem State.histAdd_cmd (s : State) (c i v : Nat) (p : Nat → Bool) : (s.histAdd c i v p).cmd = s.cmd := (s.histAdd_only c i v p).cmd
@[simp] theorem State.histAdd_cfg (s : State) (c i v : Nat) (p : Nat → Bool) : (s.histAdd c i v p).cfg = s.cfg := (s.histAdd_only c i v p).cfg
@[simp] theorem State.histAdd_beds (s : State) (c i v : Nat) (p : Nat → Bool) : (s.histAdd c i v p).beds = s.beds := (s.histAdd_only c i v p).beds
@[simp] theorem State.histAdd_drv (s : State) (c i v : Nat) (p : Nat → Bool) : (s.histAdd c i v p).drv = s.drv := (s.histAdd_only c i v p).drv
@[simp] theorem State.histAdd_rill (s : State) (c i v : Nat) (p : Nat → Bool) : (s.histAdd c i v p).rill = s.rill := (s.histAdd_only c i v p).rill
@[simp] theorem State.histAdd_cph (s : State) (c i v : Nat) (p : Nat → Bool) : (s.histAdd c i v p).cph = s.cph := (s.histAdd_only c i v p).cph
@[simp] theorem State.histAdd_gus (s : State) (c i v : Nat) (p : Nat → Bool) : (s.histAdd c i v p).gus = s.gus := (s.histAdd_only c i v p).gus
@[simp] theorem State.histAdd_mnt (s : State) (c i v : Nat) (p : Nat → Bool) : (s.histAdd c i v p).mnt = s.mnt := (s.histAdd_only c i v p).mnt
@[simp] theorem State.histAdd_net (s : State) (c i v : Nat) (p : Nat → Bool) : (s.histAdd c i v p).net = s.net := (s.histAdd_only c i v p).net
@[simp] theorem State.histAdd_slu (s : State) (c i v : Nat) (p : Nat → Bool) : (s.histAdd c i v p).slu = s.slu := (s.histAdd_only c i v p).slu
@[simp] theorem State.histAdd_rack (s : State) (c i v : Nat) (p : Nat → Bool) : (s.histAdd c i v p).rack = s.rack := (s.histAdd_only c i v p).rack
@[simp] theorem State.histAdd_mram (s : State) (c i v : Nat) (p : Nat → Bool) : (s.histAdd c i v p).mram = s.mram := (s.histAdd_only c i v p).mram
@[simp] theorem State.histAdd_nor (s : State) (c i v : Nat) (p : Nat → Bool) : (s.histAdd c i v p).nor = s.nor := (s.histAdd_only c i v p).nor
@[simp] theorem State.histAdd_free (s : State) (c i v : Nat) (p : Nat → Bool) : (s.histAdd c i v p).free = s.free := (s.histAdd_only c i v p).free
@[simp] theorem State.histAdd_pending (s : State) (c i v : Nat) (p : Nat → Bool) : (s.histAdd c i v p).pending = s.pending := (s.histAdd_only c i v p).pending

@[simp] theorem State.at_frac (s : State) (d : Nat) : (s.at d).frac = s.frac := s.pmuCycles_frac (d - s.now)
@[simp] theorem State.at_toff (s : State) (d : Nat) : (s.at d).toff = s.toff := s.pmuCycles_toff (d - s.now)
@[simp] theorem State.at_fuses (s : State) (d : Nat) : (s.at d).fuses = s.fuses := s.pmuCycles_fuses (d - s.now)
@[simp] theorem State.at_regs (s : State) (d : Nat) : (s.at d).regs = s.regs := s.pmuCycles_regs (d - s.now)
@[simp] theorem State.at_shelf (s : State) (d : Nat) : (s.at d).shelf = s.shelf := s.pmuCycles_shelf (d - s.now)
@[simp] theorem State.at_rst (s : State) (d : Nat) : (s.at d).rst = s.rst := s.pmuCycles_rst (d - s.now)
@[simp] theorem State.at_pwr (s : State) (d : Nat) : (s.at d).pwr = s.pwr := s.pmuCycles_pwr (d - s.now)
@[simp] theorem State.at_clk (s : State) (d : Nat) : (s.at d).clk = s.clk := s.pmuCycles_clk (d - s.now)
@[simp] theorem State.at_thm (s : State) (d : Nat) : (s.at d).thm = s.thm := s.pmuCycles_thm (d - s.now)
@[simp] theorem State.at_spc (s : State) (d : Nat) : (s.at d).spc = s.spc := s.pmuCycles_spc (d - s.now)
@[simp] theorem State.at_cmd (s : State) (d : Nat) : (s.at d).cmd = s.cmd := s.pmuCycles_cmd (d - s.now)
@[simp] theorem State.at_cfg (s : State) (d : Nat) : (s.at d).cfg = s.cfg := s.pmuCycles_cfg (d - s.now)
@[simp] theorem State.at_beds (s : State) (d : Nat) : (s.at d).beds = s.beds := s.pmuCycles_beds (d - s.now)
@[simp] theorem State.at_drv (s : State) (d : Nat) : (s.at d).drv = s.drv := s.pmuCycles_drv (d - s.now)
@[simp] theorem State.at_rill (s : State) (d : Nat) : (s.at d).rill = s.rill := s.pmuCycles_rill (d - s.now)
@[simp] theorem State.at_cph (s : State) (d : Nat) : (s.at d).cph = s.cph := s.pmuCycles_cph (d - s.now)
@[simp] theorem State.at_gus (s : State) (d : Nat) : (s.at d).gus = s.gus := s.pmuCycles_gus (d - s.now)
@[simp] theorem State.at_mnt (s : State) (d : Nat) : (s.at d).mnt = s.mnt := s.pmuCycles_mnt (d - s.now)
@[simp] theorem State.at_net (s : State) (d : Nat) : (s.at d).net = s.net := s.pmuCycles_net (d - s.now)
@[simp] theorem State.at_slu (s : State) (d : Nat) : (s.at d).slu = s.slu := s.pmuCycles_slu (d - s.now)
@[simp] theorem State.at_rack (s : State) (d : Nat) : (s.at d).rack = s.rack := s.pmuCycles_rack (d - s.now)
@[simp] theorem State.at_mram (s : State) (d : Nat) : (s.at d).mram = s.mram := s.pmuCycles_mram (d - s.now)
@[simp] theorem State.at_nor (s : State) (d : Nat) : (s.at d).nor = s.nor := s.pmuCycles_nor (d - s.now)
@[simp] theorem State.at_free (s : State) (d : Nat) : (s.at d).free = s.free := s.pmuCycles_free (d - s.now)
@[simp] theorem State.at_pending (s : State) (d : Nat) : (s.at d).pending = s.pending := s.pmuCycles_pending (d - s.now)

@[simp] theorem State.at_reg (s : State) (d a : Nat) : (s.at d).reg a = s.reg a := by simp [State.reg]

@[simp] theorem State.at_fld (s : State) (d : Nat) (f : Fld) : (s.at d).fld f = s.fld f := by simp [State.fld]

@[simp] theorem State.at_chan (s : State) (d k : Nat) : (s.at d).chan k = s.chan k := by simp [State.chan]

@[simp] theorem State.setChan_chan_same (s : State) (k : Nat) (c : Chan) : (s.setChan k c).chan k = c := by
  simp [State.chan]

theorem State.setChan_chan_other (s : State) (k j : Nat) (c : Chan) (h : j ≠ k) : (s.setChan k c).chan j = s.chan j := by
  simp [State.chan, Tab.getD_put_other _ _ _ _ _ h]

end Sys2Proof.Machine
end

