-- ==== Sys2Proof/Tests/Slice0.lean ====
section
/-! SUPPORT. Tests: ill-formed commands refused, values the spec states, and for every statement with hypotheses a state and
operands that meet them (wit_<Statement>, one existential for each clause). -/

set_option Elab.async false

namespace Sys2Proof.Tests

open Sys2Proof Sys2Proof.Machine

/-! ### Answers taken apart -/

theorem get_of {α : Type} (o : Option α) (h : o.isSome = true) : o = some (o.get h) := by cases o <;> simp_all
theorem get2_of {α β : Type} (o : Option (α × β)) (h : o.isSome = true) : o = some ((o.get h).1, (o.get h).2) := by
  cases o with
  | none => simp at h
  | some x => rfl

def nx : Outcome → State
  | .next t => t
  | _ => State.reset
def isNx : Outcome → Bool
  | .next _ => true
  | _ => false
theorem next_of (o : Outcome) (h : isNx o = true) : o = .next (nx o) := by cases o <;> simp_all [isNx, nx]

def aOk : AdminTaken → Bool
  | .go .. => true
  | .stop _ => false
def aU : AdminTaken → State
  | .go u _ _ => u
  | .stop s => s
def aN : AdminTaken → Nat
  | .go _ n _ => n
  | .stop _ => 0
def aA (o : AdminTaken) (d : Assoc) : Assoc :=
  match o with
  | .go _ _ a => a
  | .stop _ => d
theorem go_of (o : AdminTaken) (d : Assoc) (h : aOk o = true) : o = .go (aU o) (aN o) (aA o d) := by
  cases o <;> simp_all [aOk, aU, aN, aA]

def tOk : Taken → Bool
  | .go .. => true
  | .stop _ => false
def tU : Taken → State
  | .go u _ _ _ => u
  | .stop s => s
def tN : Taken → Nat
  | .go _ n _ _ => n
  | .stop _ => 0
def tB : Taken → Nat
  | .go _ _ b _ => b
  | .stop _ => 0
def tS (o : Taken) (d : Namespace) : Namespace :=
  match o with
  | .go _ _ _ n => n
  | .stop _ => d
theorem iogo_of (o : Taken) (d : Namespace) (h : tOk o = true) : o = .go (tU o) (tN o) (tB o) (tS o d) := by
  cases o <;> simp_all [tOk, tU, tN, tB, tS]

theorem pairT_of {α : Type} (p : α × Bool) (h : p.2 = true) : p = (p.1, true) := by cases p; simp_all
theorem pairZ_of {α : Type} (p : α × Nat) (h : p.2 = 0) : p = (p.1, 0) := by cases p; simp_all
theorem pairE_of {α β : Type} (p : α × β) : p = (p.1, p.2) := rfl
theorem tripE_of {α β γ : Type} (p : α × β × γ) : p = (p.1, p.2.1, p.2.2) := rfl
theorem pairL_of {α : Type} (p : Nat × α) (h : p.1 = 0) : p = (0, p.2) := by cases p; simp_all
theorem pairS_of {α : Type} (p : α × Option Nat) (h : p.2 = some 0) : p = (p.1, some 0) := by cases p; simp_all
theorem pair0_of {α β : Type} (p : α × Nat × β) (h : p.2.1 = 0) : p = (p.1, 0, p.2.2) := by
  obtain ⟨a, b, c⟩ := p; simp_all

theorem pairSm_of {α β : Type} (p : α × Option β) (h : p.2.isSome = true) : p = (p.1, some (p.2.get h)) := by
  obtain ⟨a, b⟩ := p; cases b <;> simp_all
theorem pair1_of {α β : Type} (p : α × Nat × β) (h : p.2.1 = 1) : p = (p.1, 1, p.2.2) := by
  obtain ⟨a, b, c⟩ := p; simp_all

/-! ### States to start from -/

/-- Start-up is over, the shelf is Awake, the first 62 domains and the links are on, one service session is open. -/
def up : State :=
  { State.reset with
    now := 5000000000
    rst := { RstSt.init with phase := 10 }
    shelf := { Shelf.init with st := .awake, peerState := 0, strapDone := true }
    pwr := { PwrSt.init with on := 2 ^ 62 - 1 }
    regs := { RegFile.init with vals := ⟨(List.range 64).map (fun e => (0x40100 + 8 * e, 0))⟩ }
    ept := { EptSt.init with link := true, cfg0 := ⟨[(4, 6)]⟩, cfg1 := ⟨[(4, 6)]⟩ }
    spc := { SpcSt.init with seqRun := true, vin := 480, vinIn := true }
    gus := { GusSt.init with link := true, lastValid := some 4999000000 }
    mnt := { MntSt.init with sessions := ⟨[(1, ⟨[], 4, [], 0⟩)]⟩, nextSession := 2 } }

/-- A head that the open session takes. -/
def hd : SvcHead := ⟨1, 5, true, false, true⟩

def upChan (k : Nat) (c : Chan) : State := up.setChan k c

def capA : Cap := ⟨1, 0, 5⟩
def capI : Cap := ⟨1, 1, 9⟩

/-- A rack message of controller 2, sent now. -/
def rh : RackHead := ⟨true, 2, 5, 5000000000, 1, 0⟩

/-- A system episode that runs. -/
def ep0 : Episode :=
  { reach := 2, first := 1, joined := 2, asserted := 0, began := 4000000000, stretchAt := 4002000000, stretched := false
    lineAt := none, deadline5 := none }

/-- Every network port on and linked. -/
def netUp : State :=
  let s := (List.range 4).foldl (fun (s : State) n => s.setFld (F.NET_CTRL_ENABLE n) 1) up
  { s with net := { NetSt.init with ports := ⟨(List.range 4).map (fun n => (n, { NetPort.init with link := true }))⟩ } }

/-- PTP on over every port, from the network (`src` 0) or from PPS_IN (1). -/
def ptpUp (src : Nat) : State :=
  ((netUp.setFld F.CLK_PTP_CFG_EN 1).setFld F.CLK_PTP_CFG_SRC src).setFld F.CLK_PTP_CFG_PORTS 15

def ppsReg : RegDesc × Nat × Nat := (findReg 0x20038).get (by decide)

/-- Counter 255 of the PMU counts. -/
def pmuUp : State := up.setFld (F.PMU_CTR_CFG_EN 255) 1

/-- Association 1 is function 0's, with its admin completion queue. -/
def fn0Up : State :=
  { up with cmd := { up.cmd with assocs := ⟨[(1,
    { bed := some 0, hostNqn := [], tenant := 0, kato := 0, kaAt := none, ioLimit := 63, ended := false, fn0 := true
      tempThr := 0, errRec := 0, aerCfg := 0, hostId := 0, aers := [], aborts := 0, changedNs := [], cc := 0, ready := true
      window := none, winSize := 0, winRefused := false, qpn := none })]⟩ } }

/-- A pool of 1 GiB, window 7 open for writes. -/
def winUp : State := (up.setFld F.EPT_CFG_POOL_GIB 1).setFld (F.EPT_PWIN_CTL_EN 0) 1

def portUp (n : Nat) (p : NetPort) : State := { up with net := { NetSt.init with ports := ⟨[(n, p)]⟩ } }

/-- A ring of both bank ports, with nothing wrong. -/
def ringUp : State :=
  { up.setFld F.BSN_RING_ENABLE 1 with
    net := { NetSt.init with ports := ⟨[(0, { NetPort.init with ring := 0 }), (1, { NetPort.init with ring := 0 })]⟩ } }

/-- Three controllers in the rack table, this one in the role `role` at epoch `e`. -/
def rackUp (role : Nat) (view : Option (Nat × Nat)) (e : Nat) : State :=
  { up.setFld F.RACK_CFG_MGR_EN 1 with
    shelf := { up.shelf with strapCode := 4 }
    clk := { ClkSt.init with locked := true }
    cfg := { CfgSt.init with data := { CfgData.init with
      rackKey := some ⟨1, [], []⟩
      rack := [⟨0x000000A100000001, 0, 0, true, 0, 0⟩, ⟨2, 0, 1, true, 1, 0⟩, ⟨3, 1, 0, true, 2, 0⟩] } }
    rack := { RackSt.init with role := role, view := view, epoch := e } }

def rackMod (s : State) (f : RackSt → RackSt) : State := { s with rack := f s.rack }

def sb0 : StatusBody := ⟨0, 0, 0, false, false, false, true, 1, 0, 0, 0, 0, 0, 0, 0, 0, 0⟩

/-- A Rill job that decodes three bytes. -/
def rj : RillJob :=
  { desc := ⟨3, 0, 0, 0, 0, 0, 0, 3, 65536, 65536, 7, 0⟩, input := [2, 0, 1, 0, 2, 0, 2, 0, 0, 6, 6, 0, 130, 145, 30, 242, 48, 241], core := 15, avoid := none, first := 0
    firstCore := 0, host := false, since := 0, svc := none }

def cj : CphJob :=
  { id := 0, desc := ⟨2, 15, 0, 0, 0, 0, [], 4096, 0, 8192, 7, 0⟩, input := [], phase := 2, core := 7, status := 0, reason := 0
    output := [], since := 0, avoid := none, floor := 0 }

def fr0 : Frame := ⟨64, 5, false, 0, none, none, false, false, true, .other, []⟩
def qf : QFrame := ⟨0, 7, 64, false, false, 0, false, [], false, 0, 0, false, false⟩

def qp (st : Nat) : Qp :=
  { gen := 0, qpn := 8, st := st, mtu := 1024, depth := 16, size := 32, assoc := 1, qid := 0, remoteGid := 0, remoteQpn := 0
    remoteMac := 0, vlan := 0, localMac := 0, paths := 1, retryCnt := 0, rnrCnt := 0, timeout := 14, freeAt := none, ePsn := 0, msn := 0
    got := [], held := [], msgs := [], runLen := 0, runAt := none, acked := 0, ackHold := [], mirHold := [], gapAt := none
    nakSent := false, flushes := [], cnpAt := none, sq := [], sent := [], nextPsn := 0, retries := 0, rnrLeft := 0, ackAt := none
    rnrAt := none, rate := 0, rateAt := none, rtt := 0, sampled := false, probing := false
    probe := none, half := 0, moveBy := none, gapMin := 0, told := none }
def qpUp (q : Qp) : State := { up with slu := { SluSt.init with qps := ⟨[(4095, q)]⟩ } }
def pk : Packet := ⟨0, 8, 0, .send, true, true, false, none, none, none, [1]⟩
def tr : TxReq := txReq 1 1 0 0 0 [1] none

def as0 : Assoc :=
  { bed := some 0, hostNqn := [1], tenant := 4095, kato := 0, kaAt := none, ioLimit := 63, ended := false, fn0 := false
    tempThr := 0, errRec := 0, aerCfg := 0, hostId := 0, aers := [], aborts := 0, changedNs := [], cc := 0, ready := true
    window := none, winSize := 0, winRefused := false, qpn := none }
/-- An admin command that holds a slot, and an I/O command in the scoreboard. -/
def ca : CmdRec :=
  { number := 7, cap := capA, nsid := 0, cmd := some (.admin 6), capsule := [], tick := 0, time := 0, slot := some 0, phase := .held
    serial := none, epoch := none, status := 0, dw0 := 0, dw1 := 0, discard := false, isAdmin := true, bare := false, work := CmdWork.init
    times := [], since := 0 }
def ci : CmdRec :=
  { ca with cap := capI, nsid := 1, cmd := some (.flush 1), slot := some 1, phase := .board, isAdmin := false }
def mb (slot : Nat) : Member :=
  { slot := slot, st := 0, sectors := 2 ^ 33, serial := [], eui := 0, append := 0, full := false, single := false, ures := []
    failedAt := 0, idleAt := none, descGen := 0, offPending := false, sbGen := 0, skipped := [] }
/-- A bed of four members, owned and mounted. -/
def bd0 : Bed :=
  { Bed.init with
    owned := true, mounted := true, n := 4, bandCount := 4096, members := ⟨[(0, mb 0), (1, mb 1), (2, mb 2), (3, mb 3)]⟩, e := 4
    fill := [2, 3], eIdx := 1 }
def ns1 : Namespace := ⟨false, 0, 1, 65536, false, 1024, 0, [1]⟩
def ns2 : Namespace := { ns1 with kv := true }
/-- A host with an admin and an I/O queue, a block and a key-value namespace of bed 0. -/
def hostAs (a : Assoc) : State :=
  { (up.setFld (F.DDR_STAT_TRAINED 0) 1).setFld (F.DDR_STAT_SIZE_GIB 0) 64 with
    cmd := { CmdSt.init with
      assocs := ⟨[(1, a)]⟩, queues := ⟨[(65536, ⟨1, 0, 32, 0⟩), (65537, ⟨1, 1, 32, 1⟩)]⟩
      cmds := ⟨[(7, ca), (8, ci)]⟩, arrival := 8 }
    beds := ⟨[(0, bd0)]⟩
    ept := { up.ept with cqs := ⟨[(1, ⟨1024, 0, 0, none⟩)]⟩ }
    cfg := { CfgSt.init with data := { CfgData.init with
      ns := ⟨[(1, ns1), (2, ns2)]⟩, tenants := ⟨[(4095, ⟨1, [], [[1]], false⟩)]⟩ } } }
def host : State := hostAs as0

theorem cmds_all (t : Tab CmdRec) (p : CmdRec → Bool) (h : t.entries.all (fun e => p e.2) = true) (k : Nat) (r : CmdRec)
    (hr : t.get? k = some r) : p r = true := by
  obtain ⟨l⟩ := t
  simp only [Tab.get?] at hr
  induction l with
  | nil => simp [Tab.getL] at hr
  | cons e l ih =>
    simp only [Tab.getL] at hr
    simp only [List.all_cons, Bool.and_eq_true] at h
    split at hr
    · cases hr; exact h.1
    · exact ih h.2 hr

def kd0 : Bytes := List.replicate 32 1
def keyed : State := { host with cph := { CphSt.init with kDomain := some kd0 } }
def key1 : KvKey := ⟨1, 65 :: List.replicate 15 0⟩
def ie : IndexEntry := ⟨2, [65], false, false, false, 0, 5, 2, 263168, 0, 0, 0, 1, 0, []⟩
/-- An I/O command past its commit point. -/
def cw : CmdRec :=
  { ci with phase := .working, work := { CmdWork.init with commitIssued := true, mapDelta := [(0, ⟨2, 0, 262144⟩)], idxPut := some ie } }

/-- The write of a whole unit, up to its record. -/
def wt : Taken :=
  keyed.takeR [] capI 1 (.write 1 1008 16 (.keyed 0 0 65536)) (firstBad (keyed.lbaBad 1 1008 16) (keyed.dptrBad capI (.keyed 0 0 65536) 65536))
def wrc : CmdRec := ((tU wt).cmd.cmds.get? 8).get (by decide)
def wv : State := ((tU wt).ingestTurn 8 false).1
def wr : State × ReadOut := wv.readTurn (wv.queueOf 8) { ReadOut.init.join ReadOut.init with data := [] }
def wy : State :=
  State.wakeFill (State.fromHost ((wr.1.afterRead 0 (wrc.serial.getD 0) (wr.1.jobBy 8 2) wr.2).noteRead 8 wr.2) capI (.keyed 0 0 65536) 65536) 0
theorem fit_length (n : Nat) (bs : Bytes) : (fitTo n bs).length = n := by simp [fitTo, zeros]; omega
theorem ingest_plain (arr b : Nat) (n : Namespace) (ref : Nat) (bytes : Bytes) (s : State) (h : n.modeD = false) :
    State.ingestAll arr b n [(ref, bytes)] s = (s, some [(0, bytes)]) := by simp [State.ingestAll, h]

def wAll : Bytes :=
  (if 1008 % 16 ≠ 0 then ReadOut.init.data.take (1008 % 16 * 4096) else []) ++ wy.fetched (.keyed 0 0 65536) 65536 [1] ++
    (if (1008 + 16) % 16 ≠ 0 then ReadOut.init.data.drop ((1008 + 16) % 16 * 4096) else [])
theorem wAll_length : wAll.length = 65536 := by
  have h : wAll = fitTo 65536 [1] := by simp [wAll, State.fetched]
  rw [h, fit_length]
theorem put_some (pt : Bytes) (h : pt.length = 65536) :
    ((wy.fixFill 0).putRecord 0 8 1 magicData 0 65536 63 pt false).isSome = true := by
  unfold State.putRecord
  rw [h]
  rfl
theorem units_some (d : Bytes) (h : d.length = 65536) : (putUnits 0 8 [(63, 1, 0, slice d 0 65536)] (wy.fixFill 0) []).isSome = true := by
  have p := put_some (slice d 0 65536) (by simp [slice, h])
  simp only [putUnits]
  cases hq : (wy.fixFill 0).putRecord 0 8 1 magicData 0 (1 * 65536) 63 (slice d 0 65536) false with
  | none => rw [hq] at p; cases p
  | some r => simp
def wp : Option (State × List (Nat × MapEntry)) := putUnits 0 8 [(63, 1, 0, slice wAll 0 65536)] (wy.fixFill 0) []
theorem wp_some : wp.isSome = true := units_some _ wAll_length

/-- Write Zeroes of a whole unit. -/
def wz : Taken := keyed.takeR [] capI 1 (.writeZeroes 1 1008 16) (keyed.lbaBad 1 1008 16)
def wzc : CmdRec := ((tU wz).cmd.cmds.get? 8).get (by decide)
def wzr : State × ReadOut := (tU wz).readTurn ((tU wz).queueOf 8) ReadOut.init
def wzy : State := State.fixFill ((wzr.1.afterRead 0 (wzc.serial.getD 0) (wzr.1.jobBy 8 2) wzr.2).noteRead 8 wzr.2) 0

theorem look_hit (s : State) (arr b : Nat) (x : Bed) (nsid : Nat) (key : Bytes) (media : List MediaRead)
    (h : x.cached = [Config.indexPage nsid key]) :
    s.indexLook arr b x nsid key media = (s.countLook arr (Config.indexPage nsid key) true, some 0) := by
  simp [State.indexLook, h]

theorem looks_hit (s : State) (arr b : Nat) (x : Bed) (nsid : Nat) (key : Bytes) (media : List MediaRead) (hb : s.bed? b = some x)
    (h : x.cached = [Config.indexPage nsid key]) :
    s.indexLooks arr b nsid [key] media = (s.countLook arr (Config.indexPage nsid key) true, some 0) := by
  simp [State.indexLooks, pageKeys, hb, look_hit s arr b x nsid key media h, lookJoin]

/-- The bed with an object of no bytes, its index page cached. -/
def bdK : Bed := { bd0 with cached := [Config.indexPage 2 [65]], index := [ie] }
def kst : State :=
  { keyed with
    beds := ⟨[(0, bdK)]⟩
    cmd := { host.cmd with cmds := ⟨[(8, { ci with nsid := 2, cmd := some (.exist 2 key1) })]⟩ } }
/-- What its drive returns for its commit record. -/
def rd1 : MediaRead := ⟨2, 263168, 1, .data (sealRecord kd0 (recordIv 2 263168 0) (recordHeader magicCommit 0 0 1 2 5 0 0) [])⟩

/-- The page of its key is found. -/
def looked (s : State) : State := s.countLook 8 (Config.indexPage 2 (kvBytes key1)) true

/-- A store of three bytes, up to its index page. -/
def kt : Taken :=
  kst.takeR [] capI 2 (.store 2 key1 3 false false (.keyed 0 0 3)) (firstBad (kst.kvBad 2 key1 false)
    (firstBad (if false && false then Status.invalidField else 0) (if 3 = 0 then 0 else kst.dptrBad capI (.keyed 0 0 3) 3)))
theorem kt_go : kt = .go (tU kt) 8 0 ns2 := iogo_of _ ns1 (by decide)
def ktc : CmdRec := ((tU kt).cmd.cmds.get? 8).get (by decide)
def ktx : Bed := ((tU kt).beds.get? 0).get (by decide)
def ktv : State := ((tU kt).ingestTurn 8 (ns2.modeD && decide (0 < 3))).1
theorem chunks_three (s : State) (arr b serial : Nat) :
    s.chunksOf arr b ns2 serial [1, 2, 3] = (s, some [(0, 3, [1, 2, 3], true)]) := by
  have h : chunks (max 65536 ns2.chunk) ([1, 2, 3] : Bytes) = [[1, 2, 3]] := by decide +kernel
  simp only [State.chunksOf, h, List.map, ingest_plain _ _ _ _ _ _ (rfl : ns2.modeD = false)]
  rfl
def kty : State := (looked ktv).fromHost capI (.keyed 0 0 3) 3
theorem kty_chunks : kty.chunksOf 8 0 ns2 (ktc.serial.getD 0) (kty.fetched (.keyed 0 0 3) 3 [1, 2, 3]) = (kty, some [(0, 3, [1, 2, 3], true)]) :=
  chunks_three _ _ _ _
theorem ktv_turn : (tU kt).ingestTurn 8 (ns2.modeD && decide (0 < 3)) = (ktv, true) := pairT_of _ (by decide +kernel)
/-- An import of the entry `st3`, up to its index page. -/
def ki : Taken :=
  kst.takeR [] capI 2 (.importRecord 2 key1 32 3 1 (.keyed 0 0 32))
    (firstBad (kst.kvBad 2 key1 false) (if 32 = 0 then 0 else kst.dptrBad capI (.keyed 0 0 32) 32))
def kiw : State := (((tU ki).fromHost capI (.keyed 0 0 32) 32).ingestTurn 8 true).1

/-- The retrieve of that object. -/
def rt : Taken := kst.takeR [rd1] capI 2 (.retrieve 2 key1 3 (.keyed 0 0 3)) (firstBad (kst.kvBad 2 key1 false) (kst.dptrBad capI (.keyed 0 0 3) 3))
def bdV : Bed := ((tU rt).beds.get? 0).get (by decide)
def ro : State × ReadOut :=
  State.readTurn (looked (tU rt)) (State.queueOf (looked (tU rt)) 8) (State.readObject (looked (tU rt)) 0 bdV ns2.tenant ie [rd1])
theorem ro_ok : ro.2.waiting = false ∧ ro.2.status = 0 := by decide +kernel

/-- The Mode P stream of the bytes 1, 2, 3. -/
def st3 : Bytes := [2, 0, 1, 0, 2, 0, 2, 0, 0, 6, 6, 0, 130, 145, 30, 242, 48, 241]
theorem st3_ok : (rillDecode (some 3) 1048576 st3).toOption = some [1, 2, 3] := by decide +kernel
theorem ok_of {α β : Type} (e : Except α β) (o : β) (h : e.toOption = some o) : e = .ok o := by
  cases e <;> simp_all [Except.toOption]
/-- An import payload of that one entry. -/
def imp : Bytes := le 4 18 ++ le 4 3 ++ st3 ++ zeros 6
theorem imp_ok : ∀ e ∈ [(3, st3)], e.1 ≠ 0 ∧ e.1 ≤ 1048576 ∧ ∃ o, rillDecode (some e.1) 1048576 e.2 = .ok o := by
  intro e he
  rw [List.mem_singleton.mp he]
  exact ⟨by decide, by decide, [1, 2, 3], ok_of _ _ st3_ok⟩

def hostBed (x : Bed) : State := { host with beds := ⟨[(0, x)]⟩ }
def dc : DriveCmd :=
  { op := .read, bed := 0, member := 3, slot := 3, sector := 262144, count := 1, data := [], purpose := .rebuild, retried := false
    deadline := 13000000000, proxied := false, st := 2 }
/-- The bed with an idle member. -/
def bdI : Bed := { bd0 with members := ⟨[(3, { mb 3 with idleAt := some 1 })]⟩ }
def di : DriveInfo := ⟨true, true, 2 ^ 33, true, true, true, true, [1], 1, 0, none⟩
def sg : Staged :=
  { cmd := 8, kind := 1, member := 2, sector := 262144, band := 0, bytes := [], mirror := none, mirId := 0, issued := false
    written := false, folded := false, foldNo := none, foldAt := some 1, last := true }
/-- The bed with member 2 rebuilding. -/
def bdR (r : Rebuild) : Bed :=
  { bd0 with
    members := ⟨[(0, mb 0), (1, mb 1), (2, { mb 2 with st := 2, append := 1048576 }), (3, mb 3)]⟩
    bands := ⟨[(0, { Band.init with st := 2 }), (1, { Band.init with st := 2 })]⟩, rebuild := some r }
def rbF : Rebuild := ⟨2, 0, 0, false, false, 0, true, false, none⟩
def rbP : Rebuild := ⟨2, 0, 0, false, true, 0, true, false, none⟩
/-- The flush of the rebuild `r` is taken away, which is now `q`. -/
def flushed (r q : Rebuild) : State :=
  State.modBed { hostBed (bdR r) with drv := { (hostBed (bdR r)).drv with cmds := (hostBed (bdR r)).drv.cmds.filterT (fun _ (c : DriveCmd) =>
    !(c.bed = 0 && c.member = r.member && c.purpose = DrivePurpose.rebuildFlush)) } } 0 (fun x => { x with rebuild := some q })
def bdS : Bed := { bd0 with bands := ⟨[(1, { Band.init with st := 2 }), (2, { Band.init with st := 2 })]⟩, resync := [1, 2] }
def rsm : List MediaRead :=
  [⟨2, bdS.base 2 + 1 * bdS.h, bdS.h, .data []⟩, ⟨3, bdS.base 3 + 1 * bdS.h, bdS.h, .data []⟩]
def rsu : List MediaRead := [⟨2, bdS.base 2 + 1 * bdS.h, bdS.h, .unrecovered⟩]
def bdT : Bed := (((hostBed bdS).countReads 0 rsm).beds.get? 0).getD bdS
/-- The bed with an object in row 1, which is being compacted. -/
def bdC : Bed := { bd0 with index := [{ ie with sector := 524288 }], compact := some ⟨1, 1, 0, false⟩ }
/-- A bed of the other controller, which this one stands by for. -/
def bdJ : Bed := { bd0 with owned := false, mounted := false, joined := true }
def mh : MirrorHead := ⟨3, 2, 1, 262144, 1, 0, 1, 1, 1, false⟩
def bdM : Bed := { bdJ with standby := { StandbyCopy.init with mirrored := [⟨7, mh, [], false, false⟩] } }
def standby : State := { up with beds := ⟨[(3, bdJ)]⟩ }
def bdA : Bed := { bd0 with copying := true, bands := ⟨[(5, { Band.init with st := 1, acc := some .empty })]⟩ }
def hw : HbWord := ⟨true, true, 0, 1, false, false, true, true, true, false, 7, 0, 2, 1, 0, 0⟩

def upMnt (f : MntSt → MntSt) : State := { up with mnt := f up.mnt }
def upCfg (f : CfgData → CfgData) : State := { up with cfg := { CfgSt.init with data := f CfgData.init } }
def ac0 : Activity := { code := 1, bed := none, st := 1, handle := 1, forced := false, arg := 0, session := none, starter := 0 }
/-- A bed of four drives. -/
def bc0 : BedCreate := ⟨3, 4, 256, 2, 128, 64, 4, 3, [20, 21, 22, 23], [di, di, di, di], 7⟩
/-- The domain key sealed for this part by a sender 0: an escrow transfer, or a pairing one. -/
def ke : Bytes × Bytes := gcmSeal (transportKey kd0 0 0x000000A100000001) (zeros 12) (keyCheckValue kd0) kd0
theorem ke_ok : gcmOpen (transportKey kd0 0 0x000000A100000001) (zeros 12) (keyCheckValue kd0) ke.1 ke.2 = some kd0 := by decide +kernel

/-! ### Ill-formed commands are refused, one term for each check -/

def noMsg (l : List Instr) : Bool := l.all (fun c => !c.wf)

theorem ill_cap : [(⟨65536, 0, 0⟩ : Cap), ⟨0, 65536, 0⟩, ⟨0, 0, 65536⟩].any Cap.wf = false := by decide
theorem ill_key : [(⟨256, List.replicate 16 0⟩ : KvKey), ⟨1, List.replicate 15 0⟩].any KvKey.wf = false := by decide
theorem ill_data_pointer :
    [DataPtr.inCapsule (2 ^ 32), .keyed (2 ^ 64) 0 0, .keyed 0 (2 ^ 32) 0, .keyed 0 0 (2 ^ 24), .window (2 ^ 32) 0 0,
     .window 0 (2 ^ 64) 0, .window 0 0 (2 ^ 24), .prp (2 ^ 32), .segments (2 ^ 32)].any DataPtr.wf = false := by decide
theorem ill_media :
    [(⟨24, 0, 0, .data []⟩ : MediaRead), ⟨0, 2 ^ 64, 0, .data []⟩, ⟨0, 0, 1, .data []⟩].any MediaRead.wf = false := by decide
theorem ill_service_head : [(⟨65536, 0, true, false, true⟩ : SvcHead), ⟨0, 2 ^ 32, true, false, true⟩].any SvcHead.wf = false := by
  decide
theorem ill_rill_descriptor :
    [(⟨256, 0, 0, 0, 0, 0, 0, 0, 0, 0, 0, 0⟩ : RillDesc), ⟨0, 256, 0, 0, 0, 0, 0, 0, 0, 0, 0, 0⟩,
     ⟨0, 0, 2 ^ 32, 0, 0, 0, 0, 0, 0, 0, 0, 0⟩, ⟨0, 0, 0, 256, 0, 0, 0, 0, 0, 0, 0, 0⟩, ⟨0, 0, 0, 0, 256, 0, 0, 0, 0, 0, 0, 0⟩,
     ⟨0, 0, 0, 0, 0, 2 ^ 64, 0, 0, 0, 0, 0, 0⟩, ⟨0, 0, 0, 0, 0, 0, 2 ^ 32, 0, 0, 0, 0, 0⟩, ⟨0, 0, 0, 0, 0, 0, 0, 2 ^ 32, 0, 0, 0, 0⟩,
     ⟨0, 0, 0, 0, 0, 0, 0, 0, 2 ^ 64, 0, 0, 0⟩, ⟨0, 0, 0, 0, 0, 0, 0, 0, 0, 2 ^ 32, 0, 0⟩,
     ⟨0, 0, 0, 0, 0, 0, 0, 0, 0, 0, 2 ^ 64, 0⟩].any RillDesc.wf = false := by decide
theorem ill_cipher_descriptor :
    [(⟨256, 0, 0, 0, 0, 0, zeros 12, 0, 0, 0, 0, 0⟩ : CipherDesc), ⟨0, 256, 0, 0, 0, 0, zeros 12, 0, 0, 0, 0, 0⟩,
     ⟨0, 0, 2 ^ 32, 0, 0, 0, zeros 12, 0, 0, 0, 0, 0⟩, ⟨0, 0, 0, 2 ^ 32, 0, 0, zeros 12, 0, 0, 0, 0, 0⟩,
     ⟨0, 0, 0, 0, 2 ^ 32, 0, zeros 12, 0, 0, 0, 0, 0⟩, ⟨0, 0, 0, 0, 0, 2 ^ 64, zeros 12, 0, 0, 0, 0, 0⟩,
     ⟨0, 0, 0, 0, 0, 0, zeros 11, 0, 0, 0, 0, 0⟩, ⟨0, 0, 0, 0, 0, 0, zeros 12, 2 ^ 32, 0, 0, 0, 0⟩,
     ⟨0, 0, 0, 0, 0, 0, zeros 12, 0, 2 ^ 64, 0, 0, 0⟩, ⟨0, 0, 0, 0, 0, 0, zeros 12, 0, 0, 2 ^ 64, 0, 0⟩,
     ⟨0, 0, 0, 0, 0, 0, zeros 12, 0, 0, 0, 2 ^ 64, 0⟩].any CipherDesc.wf = false := by decide
theorem ill_frame :
    [{ fr0 with length := 65536 }, { fr0 with dmac := 2 ^ 48 }, { fr0 with vid := 4096 }, { fr0 with pcp := some 8 },
     { fr0 with dscp := some 64 }].any Frame.wf = false := by decide
theorem ill_packet : [{ pk with dmac := 2 ^ 48 }, { pk with qpn := 2 ^ 24 }, { pk with psn := 2 ^ 24 }, { pk with imm := some (2 ^ 32) }].any Packet.wf = false := by
  decide
def cmOk : CmReq := ⟨1024, 1, 31, 1, 0, 0, 0, 0, 0, 0, 0, zeros 8⟩
theorem ill_connection_request :
    [{ cmOk with mtu := 65536 }, { cmOk with responderRes := 256 }, { cmOk with hsqsize := 65536 }, { cmOk with assoc := 65536 },
     { cmOk with qid := 65536 }, { cmOk with remoteGid := 2 ^ 128 }, { cmOk with remoteQpn := 2 ^ 24 }, { cmOk with remoteMac := 2 ^ 48 },
     { cmOk with vlan := 4096 }, { cmOk with localMac := 2 ^ 48 }, { cmOk with startPsn := 2 ^ 24 }, { cmOk with priv := [] }].any
      CmReq.wf = false := by decide
theorem ill_work_request :
    [(⟨0, 0, 0, 0, 0, 0⟩ : WorkReq), ⟨4, 0, 0, 0, 0, 0⟩, ⟨1, 2 ^ 32, 0, 0, 0, 0⟩, ⟨1, 0, 2 ^ 32, 0, 0, 0⟩, ⟨1, 0, 0, 2 ^ 32, 0, 0⟩,
     ⟨1, 0, 0, 0, 2 ^ 64, 0⟩].any WorkReq.wf = false := by decide
theorem ill_mirror_head :
    [{ mh with bed := 4 }, { mh with member := 24 }, { mh with start := 2 ^ 32 }, { mh with count := 2 ^ 32 }].any MirrorHead.wf = false := by
  decide
theorem ill_heartbeat_word :
    [{ hw with state := 16 }, { hw with position := 2 }, { hw with seq := 65536 }, { hw with peerMiss := 256 }, { hw with owned := 16 },
     { hw with joined := 16 }, { hw with units := 65536 }, { hw with tickAck := 65536 }].any HbWord.wf = false := by decide
def gfOk : GussetFrame := ⟨true, 7, true, true, 0, 1, 0, 0, 0, 0, 1⟩
theorem ill_gusset_frame :
    [{ gfOk with kind := 256 }, { gfOk with length := 65536 }, { gfOk with seq := 2 ^ 32 }, { gfOk with ack := 2 ^ 32 },
     { gfOk with bed := 256 }, { gfOk with nak := 2 ^ 32 }, { gfOk with message := 256 }].any GussetFrame.wf = false := by decide
theorem ill_rack_head :
    [{ rh with sender := 2 ^ 64 }, { rh with epoch := 2 ^ 64 }, { rh with sendTime := 2 ^ 64 }, { rh with position := 256 },
     { rh with shelf := 256 }].any RackHead.wf = false := by decide
theorem ill_endpoint_request :
    [(⟨2, false, 0, 0, 0⟩ : CfgReq), ⟨0, false, 4096, 0, 0⟩, ⟨0, false, 0, 16, 0⟩].any CfgReq.wf = false ∧
    [(⟨true, 2 ^ 64, 1, false, []⟩ : Bar2Req), ⟨true, 0, 0, false, []⟩, ⟨true, 0, 4097, false, []⟩].any Bar2Req.wf = false := by decide
theorem ill_bed_create :
    [{ bc0 with bed := 256 }, { bc0 with members := 256 }, { bc0 with hMib := 2 ^ 32 }, { bc0 with bedId := 2 ^ 64 }].any
      BedCreate.wf = false := by decide
theorem ill_connect :
    [(⟨65536, 0, 0, [], [], .other⟩ : ConnectReq), ⟨0, 65536, 0, [], [], .other⟩, ⟨0, 0, 2 ^ 32, [], [], .other⟩,
     ⟨0, 0, 0, List.replicate 257 0, [], .other⟩, ⟨0, 0, 0, [], List.replicate 257 0, .other⟩,
     ⟨0, 0, 0, [], [], .prp (2 ^ 32)⟩].any ConnectReq.wf = false := by decide +kernel
theorem ill_ring_header : [(⟨4096, 0, 0⟩ : RapsHdr), ⟨0, 2 ^ 48, 0⟩, ⟨0, 0, 8⟩].any RapsHdr.wf = false := by decide
theorem ill_drive : [{ di with sectors := 2 ^ 64 }, { di with eui := 2 ^ 64 }, { di with smart := 256 }].any DriveInfo.wf = false := by decide

theorem ill_accesses_and_admin :
    noMsg [.registerWrite .bar0 (2 ^ 24) 15 0, .registerWrite .bar0 0 16 0, .readClearAccess .bar0 0 16, .loReadLatch .bar0 (2 ^ 24),
      .propertyGet capA (2 ^ 64), .propertySet capA 0 (2 ^ 64), .keepAliveExpiry 65536, .getLogPage capA 256 0 0 .other,
      .getLogPage capA 0 0 (2 ^ 32) .other, .identify capA 256 0 .other, .identify capA 0 (2 ^ 32) .other, .abort capA 65536 0,
      .setFeatures capA 256 ⟨0, .other⟩, .getFeatures capA 256 .other, .namespaceDelete capA (2 ^ 32), .selfTestSlice (2 ^ 32) true true,
      .adminOpcodeUnsupported capA 256, .createIoSubmissionQueue capA 65536 0 0, .deleteIoCompletionQueue capA 65536] = true := by
  decide
theorem ill_host_commands :
    noMsg [.flush capI (2 ^ 32), .write capI 1 (2 ^ 64) 1 .other [] [], .write capI 1 0 0 .other [] [], .read capI 1 0 65537 .other [],
      .ioOpcodeUnsupported capI 1 256, .parkTimeout (2 ^ 64), .darkCapsuleResponse 4 capI true, .store capI 1 key1 (2 ^ 32) false false .other [] [],
      .setRetainUntil capI 1 key1 (2 ^ 64) [], .driveCommandCompletion (2 ^ 64) .success [], .driveReadyTimeout 24,
      .proxyCommand 0 .read 24 0 0 [], .rebuildFlushComplete 4, .memberIdleTimeout 0 24, .checkpointIntervalExpiry 4 0] = true := by decide
theorem ill_units_and_network :
    noMsg [.rillJobComplete 16 0, .rillPairIdle 8, .cipherJobComplete 16, .pfcRefresh 4 0, .pfcRefresh 0 8, .linkUp 4, .cmRtu 4096,
      .requestAckReceived 0 (2 ^ 32), .windowDrainEnd 1024, .localWrComplete (2 ^ 32), .gussetLinkAck (2 ^ 32), .foldNotice 4 0 0,
      .tickDelta 0 (2 ^ 64) [], .joinRequest 0 0 0 [], .pairing 0 0 [] [] [] [], .slotRequest (2 ^ 32) 0, .heartbeatWord 3 hw,
      .order rh 0 3 true 0, .orderRepeat 32, .raiseRequest 24, .modelStep 0 (2 ^ 32) 0 0 0 true true, .vinReturn (2 ^ 32)] = true := by
  decide
theorem ill_part_and_service :
    noMsg [.strapReadRound [], .railFault ⟨9, true, false, 0⟩, .domainSwitchOnDone ⟨64, true⟩, .ptpSync 4 ⟨0, 0⟩, .resetSourceAssert 12 0,
      .resetSourceAssert 0 4, .resetSourceRelease 12, .functionLevelReset 2, .controllerEnable 65536 0, .pwinEnableWrite 8 true,
      .pwinMapWrite 0 true 256, .endpointCompletionTimeout 1024, .faultEvent 4096 0 0 0 (zeros 16), .faultEvent 0 5 0 0 (zeros 16),
      .faultEvent 0 0 256 0 (zeros 16), .faultEvent 0 0 0 0 [], .thmFence 4096, .bbxReadStart (2 ^ 32), .pmuHistClr 64,
      .regRead hd (2 ^ 32) 0, .cfgRecordRead hd 65536 0 0, .timeSet hd (2 ^ 64), .activate hd 256, .bedDelete hd 256,
      .epochAdvance hd (2 ^ 32), .keyPairingSecret hd [], .keyZeroize hd 65536, .rackKey hd [], .tenantSuspend hd 65536,
      .unitFence hd 65536, .readRing hd 256 0 0, .serviceSessionTimeout 65536, .drivePortLinkUp 0 65536 0, .consoleReset 3,
      .serdesRefclkLoss 0, .serdesRefclkReturn 4, .pmuCounterWrap 256] = true := by decide
theorem wf_some : [Instr.slotGrant, .raiseRequest 23, .serdesRefclkLoss 3, .resetSourceAssert 11 1, .activate hd 0xFF].all Instr.wf = true := by
  decide

/-! ### Values the spec or a published standard states -/

/-- CRC-32C of nine ASCII digits, the check value of its definition, and of 32 zero bytes (R12; chapter 6, first example). -/
theorem test_crc : crc32c (ascii "123456789") = 0xE3069283 ∧ crc32c (zeros 32) = 0x8A9136AA := by decide +kernel

/-- FIPS 197, appendix C.3: AES-256. -/
theorem test_aes : aes256 ((List.range 32).map (BitVec.ofNat 8)) ((List.range 16).map (fun i => BitVec.ofNat 8 (0x11 * i))) =
    [0x8E, 0xA2, 0xB7, 0xCA, 0x51, 0x67, 0x45, 0xBF, 0xEA, 0xFC, 0x49, 0x90, 0x4B, 0x49, 0x60, 0x89] := by decide +kernel

/-- The Mode D stream of 32 zero bytes (chapter 6, first example). -/
theorem test_mode_d_example : (rillDecode (some 32) 32
    [0x01, 0x08, 0x00, 0x00, 0x1F, 0x00, 0x0E, 0x00, 0x00, 0x05, 0x14, 0x00, 0x0F, 0x00, 0x07, 0x00, 0x00, 0x00, 0x00, 0x04, 0xE5,
     0x4F, 0xBF, 0xC5, 0x79, 0x01, 0xAA, 0x36, 0x91, 0x8A]).toOption = some (zeros 32) := by decide +kernel

/-- The Mode P stream of 0x00 to 0x1F (chapter 6, second example). -/
theorem test_mode_p_example : rillEncodeP 4 0 ((List.range 32).map (BitVec.ofNat 8)) =
    [0x02, 0x04, 0x00, 0x00, 0x1F, 0x00, 0x0D, 0x00, 0x00, 0x06, 0x14, 0x00, 0xC0, 0xB6, 0x6D, 0xDB, 0xB6, 0x6D, 0xDB, 0xB6, 0x6D,
     0xDB, 0xB6, 0x6D, 0x03, 0x4E, 0x79, 0xDD, 0x46] := by decide +kernel

/-- The IV of the record at sector 0x260000 of member 5 under write generation 1 (R147). -/
theorem test_record_iv : recordIv 5 0x260000 1 = [0x05, 0x00, 0x02, 0x60, 0x00, 0x00, 0x00, 0x00, 0x00, 0x10, 0x00, 0x00] := by decide

/-- The bed of the example under R80: its Band count, and the Band of sector 3,000,000,000. -/
theorem test_bed_geometry : bedBands 64 256 (List.replicate 12 15000000000) = some 911408 ∧
    ({ Bed.init with e := 256 } : Bed).bandOf 5 3000000000 = 183089 := by decide

/-- The strap of the example under R288: 12.4 kΩ at its worst readings is code 12. -/
theorem test_strap : roundCode [12400, 12194, 12606, 12400, 12400, 12400, 12400, 12400] = some 12 := by decide

/-- The text form of a serial (R31). -/
theorem test_serial_text : serialText 0x000000A100000001 = ascii "0000-00A1-0000-0001" := by decide +kernel

/-- The starts of the example under R214. -/
theorem test_gate_list_start : gclStart 1000000000 500000 1003249000 = (1003500000, true) ∧
    gclStart 1000000000 500000 1003499000 = (1004000000, true) := by decide

/-- The policer of chapter 10's example, 8,000 Mb/s and 1,024 KiB: a refill adds 8,192,000 milli-bytes. -/
theorem test_policer_refill :
    (nx (exec .refillBoundary { (up.setFld (F.WEIR_POL_RATE_RATE 17) 8000).setFld (F.WEIR_POL_BURST_BURST 17) 1024 with
      net := { NetSt.init with pol := ⟨[(17, 0)]⟩ } })).net.pol.get? 17 = some 8192000 := by decide +kernel

/-- The register addresses of chapter 21's example. -/
theorem test_register_map : (findReg 0x1C3080).map (·.1.name) = some "WEIR_GCL_CTL" ∧
    (findReg 0x30224).map (fun r => (r.1.name, r.2.1)) = some ("SPC_SLOT_STAT", 9) := by decide +kernel

/-- Keys in order: a key before those it is a prefix of (R59). -/
theorem test_key_order : keyLt [65] [65, 66] = true ∧ keyLt [65, 66] [65] = false ∧ keyLt [255] [65, 66] = false := by decide

/-- Step 3 of the example in chapter 18: the third error of Rill core 5 within the window fences it, with severity 3 and
reaction 2 in THM_LAST. -/
def third : State :=
  nx (exec (.faultEvent 0x805 2 3 0 (zeros 16)) ((up.putEntry 6 (0x800, 0xFF0, 3, 600, 1, 2)).setSrc 0x805
    { SrcSt.init with count := 2, wstart := 4590000000 }))
theorem test_rill_core_fenced : (third.srcSt 0x805).state = 1 ∧ third.fld F.THM_LAST_SOURCE = 0x805 ∧
    third.fld F.THM_LAST_SEVERITY = 3 ∧ third.fld F.THM_LAST_REACTION = 2 := by decide +kernel

/-- Steps 1 and 2 of the example under R314: source 7 starts a core episode, and SYSRST_N held by the board widens it. -/
def epCore : State := nx (exec (.resetSourceAssert 7 1) up)
theorem test_core_episode :
    epCore.rst.episode.map (fun e => (e.reach, e.first, e.stretchAt)) = some (1, 7, up.now + 2000000) := by decide +kernel
theorem test_episode_widens : (nx (exec (.resetSourceAssert 3 0) { epCore with now := epCore.now + 800000 })).rst.episode.map
      (fun e => (e.reach, e.first, e.stretchAt)) = some (2, 7, up.now + 2800000) ∧
    (nx (exec (.resetSourceAssert 3 0) epCore)).rst.sysrstLow = true := by decide +kernel

/-- A write of a part of a register is refused with reason 2 (R9). -/
theorem test_partial_write : (nx (exec (.registerWrite .bar0 0x20038 7 0) up)).fld F.TOP_CFGERR_REASON = 2 := by decide +kernel

/-- A command at the front of the queue runs, and leaves it. -/
theorem test_step : (nx (step { up with pending := [.raiseRequest 23, .slotGrant] })).pending = [.slotGrant] := by decide +kernel

/-! ### The statements' hypotheses can be met -/

theorem wit_StepRunsTheFrontCommand :
    (∃ (c : Instr) (rest : List Instr) (s : State), s.pending = c :: rest) :=
  ⟨(.slotGrant : Instr), ([] : List Instr), ({ up with pending := [.slotGrant] } : State), by decide⟩

theorem wit_EmptyQueueStepTakesTenNanoseconds :
    (∃ (s : State), s.pending = [] ∧ (s.net.ctl = [] ∨ s.coreStop = true)) ∧
    (∃ (c : Instr) (rest : List Instr) (s : State), s.pending = [] ∧ s.coreStop = false ∧ s.net.ctl = c :: rest) :=
  ⟨⟨up, by decide, by decide⟩,
   ⟨(.slotGrant : Instr), ([] : List Instr), ({ up with net := { NetSt.init with ctl := [.slotGrant] } } : State), by decide,
     by decide, by decide⟩⟩

theorem wit_AccessesFollowTheByteEnables :
    (∃ (path : AccessPath) (addr : Nat) (be : Nat) (s : State), s.pathOpen path = true ∧ (addr % 4 ≠ 0 ∨ be ≠ 15)) ∧
    (∃ (path : AccessPath) (addr : Nat) (s : State), s.pathOpen path = true ∧ addr % 4 = 0 ∧ addr < 2 ^ 24 ∧
      s.absentReg addr = false ∧ findReg addr = none ∧ ¬(0x708000 ≤ addr ∧ addr < 0x708040) ∧ ¬(0x709000 ≤ addr ∧
      addr < 0x709008)) ∧
    (∃ (reason : Nat) (addr : Nat) (s : State), reason < 16 ∧ addr < 2 ^ 24 ∧ s.flag F.TOP_CFGERR_VALID = false) ∧
    (∃ (path : AccessPath) (addr : Nat) (s : State) (r : RegDesc) (i : Nat) (j : Nat), s.pathOpen path = true ∧ addr % 4 = 0 ∧
      addr < 2 ^ 24 ∧ s.absentReg addr = false ∧ s.pmuDeaf addr = false ∧ findReg addr = some (r, i, j) ∧ r.base ≠ 0x700014 ∧
      ¬(0x708000 ≤ addr ∧ addr < 0x708040) ∧ ¬(0x709000 ≤ addr ∧ addr < 0x709008)) ∧
    (∃ (path : AccessPath) (addr : Nat) (s : State), s.pathOpen path = true ∧ addr % 4 = 0 ∧ addr < 2 ^ 24 ∧ findReg addr = none ∧
      ¬(0x708000 ≤ addr ∧ addr < 0x708040) ∧ addr ≠ 0x709000) ∧
    (∃ (path : AccessPath) (addr : Nat) (s : State) (r : RegDesc) (i : Nat) (j : Nat), s.pathOpen path = true ∧ addr % 4 = 0 ∧
      addr < 2 ^ 24 ∧ s.absentReg addr = false ∧ s.pmuDeaf addr = false ∧ findReg addr = some (r, i, j) ∧ ¬(0x708000 ≤ addr ∧
      addr < 0x708040) ∧ addr ≠ 0x709000 ∧ isHi r.base = false ∧ hiOf r.base = none) ∧
    (∃ (addr : Nat) (r : RegDesc) (i : Nat) (j : Nat), findReg addr = some (r, i, j)) :=
  ⟨⟨(.cores : AccessPath), 3, 15, up, by decide, by decide⟩,
   ⟨(.cores : AccessPath), 0xFFFFFC, up, by decide, by decide, by decide, by decide, by decide, by decide, by decide⟩,
   ⟨15, 0xFFFFFC, up, by decide, by decide, by decide⟩,
   ⟨(.cores : AccessPath), 0x20038, up, ppsReg.1, ppsReg.2.1, ppsReg.2.2, by decide, by decide, by decide, by decide, by decide,
     by decide, by decide, by decide, by decide⟩,
   ⟨(.cores : AccessPath), 0xFFFFFC, up, by decide, by decide, by decide, by decide, by decide, by decide⟩,
   ⟨(.cores : AccessPath), 0x20038, up, ppsReg.1, ppsReg.2.1, ppsReg.2.2, by decide, by decide, by decide, by decide, by decide,
     by decide, by decide, by decide, by decide, by decide⟩,
   ⟨0x20038, ppsReg.1, ppsReg.2.1, ppsReg.2.2, by decide⟩⟩

theorem wit_OtherRegisterAccessesTakeEffect :
    (∃ (path : AccessPath) (addr : Nat) (s : State), s.pathOpen path = true ∧ addr % 4 = 0 ∧ addr < 2 ^ 24 ∧
      s.absentReg addr = true) ∧
    (∃ (path : AccessPath) (w : Nat) (s : State), s.pathOpen path = true ∧ w < 8) ∧
    (∃ (path : AccessPath) (dw : Nat) (s : State), s.pathOpen path = true ∧ dw < 16) ∧
    (∃ (path : AccessPath) (s : State), s.pathOpen path = true) ∧
    (∃ (path : AccessPath) (addr : Nat) (s : State), s.pathOpen path = true ∧ addr % 4 = 0 ∧ 0x60000 ≤ addr ∧ addr < 0x70000 ∧
      s.pmuOn = false) ∧
    (∃ (s : State), s.pathOpen .bar0 = false) :=
  ⟨⟨(.cores : AccessPath), 0x120000, ({ up with fuses := { Fuses.init with part := 0x7236 } } : State), by decide, by decide,
     by decide, by decide⟩,
   ⟨(.cores : AccessPath), 7, up, by decide, by decide⟩,
   ⟨(.cores : AccessPath), 15, up, by decide, by decide⟩,
   ⟨(.cores : AccessPath), up, by decide⟩,
   ⟨(.cores : AccessPath), 0x6FFFC, ({ up with shelf := { up.shelf with st := .dark } } : State), by decide, by decide, by decide,
     by decide, by decide⟩,
   ⟨({ up with ept := EptSt.init } : State), by decide⟩⟩

theorem wit_ReservedBitsAreIgnoredAndReadZero :
    (∃ (addr : Nat) (v : Word) (w : Word) (r : RegDesc) (i : Nat) (j : Nat), addr % 4 = 0 ∧ addr < 2 ^ 24 ∧
      findReg addr = some (r, i, j) ∧ (∀ f ∈ r.fields, getBits v f.hi f.lo = getBits w f.hi f.lo)) ∧
    (∃ (path : AccessPath) (addr : Nat) (b : Nat) (s : State) (r : RegDesc) (i : Nat) (j : Nat), addr % 4 = 0 ∧ addr < 2 ^ 24 ∧
      findReg addr = some (r, i, j) ∧ isHi r.base = false ∧ (∀ f ∈ r.fields, ¬(f.lo ≤ b ∧ b ≤ f.hi)) ∧ s.pathOpen path = true) ∧
    (∃ (addr : Nat) (b : Nat) (r : RegDesc) (i : Nat) (j : Nat), findReg addr = some (r, i, j) ∧ (∀ f ∈ r.fields, ¬(f.lo ≤ b ∧
      b ≤ f.hi))) ∧
    (∃ (n : Nat) (v : Word) (w : Word), n < 256 ∧ n % 2 = 0 ∧ (∀ b, b ≠ 30 → v.getLsbD b = w.getLsbD b)) :=
  ⟨⟨0x20038, 0x40000000#32, 0, ppsReg.1, ppsReg.2.1, ppsReg.2.2, by decide, by decide, by decide, by decide⟩,
   ⟨(.cores : AccessPath), 0x20038, 30, up, ppsReg.1, ppsReg.2.1, ppsReg.2.2, by decide, by decide, by decide, by decide,
     by decide, by decide⟩,
   ⟨0x20038, 30, ppsReg.1, ppsReg.2.1, ppsReg.2.2, by decide, by decide⟩,
   ⟨254, 0x40000000#32, 0, by decide, by decide, (fun b hb => if h : b < 32 then (by decide : ∀ c,
     c < 32 → c ≠ 30 → (0x40000000#32).getLsbD c = (0#32).getLsbD c) b h hb else by rw [BitVec.getLsbD_of_ge _ _ (by omega),
     BitVec.getLsbD_of_ge _ _ (by omega)])⟩⟩

theorem wit_LoReadLatchesHiForItsPath :
    (∃ (path : AccessPath) (addr : Nat) (s : State), s.pathOpen path = true ∧ ((∃ b, b < 4 ∧
      addr = 0x380010 + 8 * b) ∨ addr = 0x680010 ∨ addr = 0x20030 ∨ addr = 0x50000 ∨ ∃ n, n < 256 ∧ s.pmuOn = true ∧
      addr = 0x62000 + 8 * n)) ∧
    (∃ (path : AccessPath) (addr : Nat) (s : State), s.regs.latch.find? (fun x => x.1 = path && x.2.1 = addr) = none) ∧
    (∃ (path : AccessPath) (n : Nat) (s : State), s.pathOpen path = true ∧ n < 256 ∧ s.pmuOn = false) :=
  ⟨⟨(.cores : AccessPath), 0x62000 + 8 * 255, up, by decide, .inr (.inr (.inr (.inr ⟨255, by decide, by decide, rfl⟩)))⟩,
   ⟨(.cores : AccessPath), 0x20030, up, by decide⟩,
   ⟨(.cores : AccessPath), 255, ({ up with shelf := { up.shelf with st := .held } } : State), by decide, by decide, by decide⟩⟩

theorem wit_SlotCommandsAndTimersTakeEffect :
    (∃ (k : Nat) (s : State), k < 24 ∧ (s.chan k).request = false ∧ (s.chan k).st ≠ .off) ∧
    (∃ (k : Nat) (s : State), k < 24 ∧ (s.chan k).request = true ∧ (s.chan k).st ≠ .fault ∧ (s.chan k).st ≠ .disabled) ∧
    (∃ (k : Nat) (s : State), k < 24 ∧ ((s.chan k).request = true ∨ (s.chan k).testing = false) ∧
      ((s.chan k).st = .fault ∨ (s.chan k).st = .disabled)) ∧
    (∃ (k : Nat) (s : State), k < 24 ∧ (s.chan k).st = .fault ∧ (s.chan k).request = false) ∧
    (∃ (k : Nat) (s : State), k < 24 ∧ (s.chan k).st = .off) ∧
    (∃ (k : Nat), k < 24) ∧
    (∃ (k : Nat) (d : Nat) (s : State), (s.chan k).pwrdisAt = some d ∧ s.now ≤ d) ∧
    (∃ (k : Nat) (d : Nat) (s : State), (s.chan k).testAt = some d) ∧
    (∃ (k : Nat), k < 24) ∧
    (∃ (k : Nat), k < 24) ∧
    (∃ (k : Nat) (d : Nat) (s : State), (s.chan k).dbAt = some d) ∧
    (∃ (k : Nat) (d : Nat) (s : State), (s.chan k).lostAt = some d) ∧
    (∃ (k : Nat) (d : Nat) (s : State), (s.chan k).insAt = some d ∧ s.spc.vinIn = true ∧ (s.chan k).present = true) ∧
    (∃ (k : Nat) (d : Nat) (s : State), (s.chan k).retryAt = some d ∧ (s.chan k).st = .fault ∧ (s.chan k).request = false) ∧
    (∃ (k : Nat) (d : Nat) (s : State), (s.chan k).pg60At = some d) :=
  ⟨⟨23, upChan 23 { Chan.init with st := .on }, by decide, by decide, by decide⟩,
   ⟨23, upChan 23 { Chan.init with st := .on, request := true }, by decide, by decide, by decide, by decide⟩,
   ⟨23, upChan 23 { Chan.init with st := .disabled }, by decide, by decide, by decide⟩,
   ⟨23, upChan 23 { Chan.init with st := .fault }, by decide, by decide, by decide⟩,
   ⟨23, up, by decide, by decide⟩,
   ⟨23, by decide⟩,
   ⟨23, 5000000000, upChan 23 { Chan.init with pwrdisAt := some 5000000000 }, by decide, by decide⟩,
   ⟨23, 5000000000, upChan 23 { Chan.init with testAt := some 5000000000 }, by decide⟩,
   ⟨23, by decide⟩,
   ⟨23, by decide⟩,
   ⟨23, 1, upChan 23 { Chan.init with dbAt := some 1 }, by decide⟩,
   ⟨23, 1, upChan 23 { Chan.init with lostAt := some 1 }, by decide⟩,
   ⟨23, 1, upChan 23 { Chan.init with insAt := some 1, present := true }, by decide, by decide, by decide⟩,
   ⟨23, 1, upChan 23 { Chan.init with retryAt := some 1, st := .fault }, by decide, by decide, by decide⟩,
   ⟨23, 1, upChan 23 { Chan.init with pg60At := some 1 }, by decide⟩⟩

theorem wit_SlotPathEventsTakeEffect :
    (∃ (k : Nat) (s : State), (s.chan k).st = .waiting ∧ (s.chan k).met.isSome = true ∧ s.mayPower = true ∧
      s.spc.swapHold = false ∧ s.cool k = true ∧ ((s.chan k).request || (s.chan k).testing) = true ∧ (s.chan k).joinAt = none) ∧
    (∃ (k : Nat) (d : Nat) (s : State), (s.chan k).joinAt = some d ∧ s.mayPower = true ∧ s.spc.swapHold = false ∧ s.cool k = true) ∧
    (∃ (k : Nat) (s : State), (s.chan k).st = .ramping) ∧
    (∃ (k : Nat) (s : State), (s.chan k).st = .ramping) ∧
    (∃ (k : Nat) (d : Nat) (s : State), (s.chan k).rampMaxAt = some d ∧ (s.chan k).st = .ramping) ∧
    (∃ (k : Nat) (s : State), (s.chan k).st = .on) ∧
    (∃ (k : Nat) (s : State), (s.chan k).st = .on) ∧
    (∃ (k : Nat) (s : State), (s.chan k).driving = true) ∧
    (∃ (k : Nat) (s : State), (s.chan k).st = .on) ∧
    (∃ (k : Nat) (s : State), (s.chan k).driving = false) :=
  ⟨⟨23, upChan 23 { Chan.init with st := .waiting, met := some 1, request := true }, by decide, by decide, by decide, by decide,
     by decide, by decide, by decide⟩,
   ⟨23, 1, upChan 23 { Chan.init with joinAt := some 1 }, by decide, by decide, by decide, by decide⟩,
   ⟨23, upChan 23 { Chan.init with st := .ramping }, by decide⟩,
   ⟨23, upChan 23 { Chan.init with st := .ramping }, by decide⟩,
   ⟨23, 1, upChan 23 { Chan.init with st := .ramping, rampMaxAt := some 1 }, by decide, by decide⟩,
   ⟨23, upChan 23 { Chan.init with st := .on }, by decide⟩,
   ⟨23, upChan 23 { Chan.init with st := .on }, by decide⟩,
   ⟨23, upChan 23 { Chan.init with st := .on }, by decide⟩,
   ⟨23, upChan 23 { Chan.init with st := .on }, by decide⟩,
   ⟨23, up, by decide⟩⟩

theorem wit_SuppliesAndClocksTakeEffect :
    (∃ (info : RailInfo), info.rail ≤ 8 ∧ info.ok = true) ∧
    (∃ (info : RailInfo), info.rail ≤ 8 ∧ info.ok = false) ∧
    (∃ (s : State), s.rst.episode = none ∧ s.shelf.st ≠ .held ∧ s.pwr.pf = none) ∧
    (∃ (p : PfSeq) (s : State), s.pwr.pf = some p) ∧
    (∃ (d : Nat) (u : Nat) (s : State), s.pwr.rising.find? (fun e => e.1 = d) = some (d, u)) ∧
    (∃ (s : State), bit s.clk.refs 0 = true) ∧
    (∃ (d : Nat) (s : State), s.clk.holdAt = some d) ∧
    (∃ (r : Nat) (s : State), 1 ≤ r ∧ r ≤ 3 ∧ bit s.clk.refs r = true) ∧
    (∃ (r : Nat), 1 ≤ r ∧ r ≤ 3) ∧
    (∃ (port : Nat) (s : State) (u : State), s.ctlWaits = false ∧ u = s.applyRwl 0x20020 ∧ u.flag F.CLK_PTP_CFG_EN = true ∧
      u.flag F.CLK_PTP_CFG_SRC = false ∧ bit (u.fld F.CLK_PTP_CFG_PORTS) port = true ∧ u.netUp port = true) ∧
    (∃ (d : Nat) (s : State), s.clk.sampleAt = some d) ∧
    (∃ (s : State), (s.applyRwl 0x20020).flag F.CLK_PTP_CFG_EN = true ∧ (s.applyRwl 0x20020).flag F.CLK_PTP_CFG_SRC = true ∧
      (s.applyRwl 0x20020).clk.tod = none ∧ (s.applyRwl 0x20020).clk.todSet = true) ∧
    (∃ (s : State), (s.applyRwl 0x20038).clk.locked = true ∧ (s.applyRwl 0x20038).flag F.CLK_PPS_OUT_EN = true) :=
  ⟨⟨(⟨8, true, false, 0⟩ : RailInfo), by decide, by decide⟩,
   ⟨(⟨8, false, false, 0⟩ : RailInfo), by decide, by decide⟩,
   ⟨up, by decide, by decide, by decide⟩,
   ⟨(⟨0, 1, 0⟩ : PfSeq), ({ up with pwr := { up.pwr with pf := some ⟨0, 1, 0⟩ } } : State), by decide⟩,
   ⟨59, 7, ({ up with pwr := { up.pwr with rising := [(59, 7)] } } : State), by decide⟩,
   ⟨up, by decide⟩,
   ⟨1, ({ up with clk := { ClkSt.init with holdAt := some 1 } } : State), by decide⟩,
   ⟨3, up, by decide, by decide, by decide⟩,
   ⟨3, by decide, by decide⟩,
   ⟨3, ptpUp 0, (ptpUp 0).applyRwl 0x20020, by decide, rfl, by decide, by decide, by decide, by decide⟩,
   ⟨1, ({ up with clk := { ClkSt.init with sampleAt := some 1 } } : State), by decide⟩,
   ⟨({ ptpUp 1 with clk := { ClkSt.init with todSet := true } } : State), by decide, by decide, by decide, by decide⟩,
   ⟨({ up with clk := { ClkSt.init with locked := true } }).setFld F.CLK_PPS_OUT_EN 1, by decide, by decide⟩⟩

theorem wit_ResetCommandsTakeEffect :
    (∃ (src : Nat), src ≤ 11 ∧ src ≠ 3) ∧
    (∃ (src : Nat), src ≠ 5) ∧
    (∃ (d : Nat) (s : State), s.clk.refGoodAt = some d) ∧
    (∃ (ep : Episode) (s : State), s.rst.episode = some ep ∧ ep.stretched = false ∧ 2 ≤ ep.reach ∧ ep.asserted = 0 ∧
      s.shelf.strapDone = false) ∧
    (∃ (s : State), s.rst.sysrstLow = false) ∧
    (∃ (ep : Episode) (d : Nat) (s : State), s.rst.episode = some ep ∧ ep.deadline5 = some d) ∧
    (∃ (d : Nat) (s : State), s.rst.wdCore0 = some d) ∧
    (∃ (d : Nat) (s : State), s.rst.wdCores = some d) ∧
    (∃ (d : Nat) (s : State), s.rst.startAt = some d ∧ s.rst.svcWait = false ∧ s.rst.episode = none ∧ s.rst.phase < 10) ∧
    (∃ (readings : List Nat) (ep : Episode) (c : Nat) (s : State), s.rst.episode = some ep ∧ 2 ≤ ep.reach ∧ readings.length = 8 ∧
      s.shelf.strapDone = false ∧ roundCode readings = some c) ∧
    (∃ (level : Nat) (s : State), s.svcPort = true ∧ (level = 1 ∨ level = 2)) ∧
    (∃ (s : State), s.coreStop = true) ∧
    (∃ (s : State), s.ctlWaits = true) ∧
    (∃ (s : State), s.coreStop = true) :=
  ⟨⟨11, by decide, by decide⟩,
   ⟨0, by decide⟩,
   ⟨1, ({ up with clk := { ClkSt.init with refGoodAt := some 1 } } : State), by decide⟩,
   ⟨ep0, ({ up with rst := { up.rst with episode := some ep0 }, shelf := { up.shelf with strapDone := false } } : State),
     by decide, by decide, by decide, by decide, by decide⟩,
   ⟨up, by decide⟩,
   ⟨({ ep0 with deadline5 := some 1 } : Episode), 1,
     ({ up with rst := { up.rst with episode := some { ep0 with deadline5 := some 1 } } } : State), by decide, by decide⟩,
   ⟨1, ({ up with rst := { up.rst with wdCore0 := some 1 } } : State), by decide⟩,
   ⟨1, ({ up with rst := { up.rst with wdCores := some 1 } } : State), by decide⟩,
   ⟨1, ({ up with rst := { up.rst with startAt := some 1, phase := 9 } } : State), by decide, by decide, by decide, by decide⟩,
   ⟨List.replicate 8 1000, ep0, (roundCode (List.replicate 8 1000)).get (by decide),
     ({ up with rst := { up.rst with episode := some ep0 }, shelf := { up.shelf with strapDone := false } } : State), by decide,
     by decide, by decide, by decide, get_of _ _⟩,
   ⟨2, up, by decide, by decide⟩,
   ⟨({ up with rst := { up.rst with episode := some { ep0 with reach := 1 } } } : State), by decide⟩,
   ⟨({ up with rst := { up.rst with episode := some { ep0 with reach := 1 } } } : State), by decide⟩,
   ⟨({ up with rst := { up.rst with episode := some { ep0 with reach := 1 } } } : State), by decide⟩⟩

theorem wit_ResetStartsAnEpisode :
    (∃ (s : State), s.rst.episode = none) :=
  ⟨up, by decide⟩

theorem wit_FaultCommandsTakeEffect :
    (∃ (src : Nat) (s : State), ((s.at (s.now + (sec 1 - s.dev % sec 1))).srcSt src).recLeft = 0) ∧
    (∃ (src : Nat) (d : Nat) (s : State), (s.srcSt src).quietAt = some d) ∧
    (∃ (src : Nat) (s : State) (u : State), s.serviceFence src = some u) ∧
    (∃ (s : State), s.thm.staged = []) :=
  ⟨⟨0x100, up, by decide⟩,
   ⟨0x100, 1, up.setSrc 0x100 { SrcSt.init with quietAt := some 1 }, by decide⟩,
   ⟨0x200, up, ((up).serviceFence (0x200)).get (by decide), get_of _ _⟩,
   ⟨up, by decide⟩⟩

theorem wit_PermanentFenceIsClearedByServiceOnly :
    (∃ (path : AccessPath), (path = .bar0 ∨ path = .cores)) :=
  ⟨(.cores : AccessPath), by decide⟩

theorem wit_MonitorCommandsTakeEffect :
    (∃ (s : State), s.pmuOn = true) ∧
    (∃ (s : State), s.pmuOn = true) ∧
    (∃ (s : State), s.pmuOn = true) ∧
    (∃ (s : State), s.pmuOn = true) ∧
    (∃ (s : State), s.pmuOn = true) ∧
    (∃ (s : State), s.pmuOn = false) ∧
    (∃ (n : Nat) (s : State), s.pmuLive.contains n = true ∧ s.pmu.ctr.getD n 0 < 2 ^ 48 ∧ n % 2 = 1) ∧
    (∃ (readings : List Nat) (s : State), readings.foldl max 0 < 105 ∧ s.tooHot (readings.foldl max 0) = false) ∧
    (∃ (s : State), s.svcPort = true) :=
  ⟨⟨up, by decide⟩,
   ⟨up, by decide⟩,
   ⟨up, by decide⟩,
   ⟨up, by decide⟩,
   ⟨up, by decide⟩,
   ⟨({ up with shelf := { up.shelf with st := .held } } : State), by decide⟩,
   ⟨255, pmuUp, by decide, by decide, by decide⟩,
   ⟨([104] : List Nat), up, by decide, by decide⟩,
   ⟨up, by decide⟩⟩

theorem wit_EndpointCommandsTakeEffect :
    (∃ (s : State), s.domOn 61 = true ∧ s.ept.perstLow = false ∧ s.ept.link = false) ∧
    (∃ (s : State), s.ept.link = true) ∧
    (∃ (s : State), s.ept.link = true) ∧
    (∃ (fn : Nat) (s : State), s.ept.link = true ∧ fn < 2) ∧
    (∃ (s : State), s.fnMemory 0 = true) ∧
    (∃ (s : State), s.fnMemory 0 = false) ∧
    (∃ (n : Nat) (s : State), s.fnMemory 0 = true ∧ s.fn0Assoc = none ∧ s.cmd.assocs.size < s.half 1024 ∧
      s.cmd.assocs.freeKey 65536 = some n) ∧
    (∃ (r : CfgReq) (s : State), s.ept.link = true ∧ s.ept.crsTo = none ∧ r.fn < 2 ∧ r.offset < 4096 ∧ r.isWrite = false) ∧
    (∃ (r : CfgReq) (s : State), s.ept.link = true ∧ s.ept.crsTo = none ∧ r.fn < 2 ∧ r.offset < 4096 ∧ r.isWrite = true) ∧
    (∃ (qid : Nat) (a : Nat) (v : Nat) (q : EptCq) (s : State), s.fn0Assoc = some a ∧ s.fnMemory 0 = true ∧
      s.ept.cqs.get? qid = some q ∧ v < q.size) ∧
    (∃ (tag : Nat) (r : EptRead) (q : Nat) (s : State), s.ept.tags.get? tag = some r ∧ r.fetch = .sqe q) ∧
    (∃ (tag : Nat) (d : Nat) (r : EptRead) (s : State), s.ept.tags.get? tag = some r ∧ r.deadline = some d) ∧
    (∃ (tag : Nat) (d : Nat) (s : State), s.ept.quar.get? tag = some d) ∧
    (∃ (r : Bar2Req) (s : State), s.ept.link = true ∧ r.poisoned = false ∧ s.poolGib ≠ 0 ∧ r.offset / 2 ^ s.winLog2 < 8 ∧
      s.fnMemory 1 = true ∧ s.ept.wedge1 = false ∧ s.flag (F.EPT_PWIN_CTL_EN (r.offset / 2 ^ s.winLog2)) = true ∧
      s.flag (F.EPT_PWIN_MAP_RDONLY (r.offset / 2 ^ s.winLog2)) = false) ∧
    (∃ (w : Nat), w < 8) ∧
    (∃ (w : Nat), w < 8) :=
  ⟨⟨({ up with ept := EptSt.init } : State), by decide, by decide, by decide⟩,
   ⟨up, by decide⟩,
   ⟨up, by decide⟩,
   ⟨1, up, by decide, by decide⟩,
   ⟨up, by decide⟩,
   ⟨({ up with ept := { EptSt.init with link := true } } : State), by decide⟩,
   ⟨0, up, by decide, by decide, by decide, by decide +kernel⟩,
   ⟨(⟨1, false, 4092, 15, 0⟩ : CfgReq), up, by decide, by decide, by decide, by decide, by decide⟩,
   ⟨(⟨1, true, 4092, 15, 0⟩ : CfgReq), up, by decide, by decide, by decide, by decide, by decide⟩,
   ⟨0, 1, 31, (⟨32, 0, 0, none⟩ : EptCq), ({ fn0Up with ept := { fn0Up.ept with cqs := ⟨[(0, ⟨32, 0, 0, none⟩)]⟩ } } : State),
     by decide, by decide, by decide, by decide⟩,
   ⟨0, (⟨.sqe 0, 64, none⟩ : EptRead), 0, ({ up with ept := { up.ept with tags := ⟨[(0, ⟨.sqe 0, 64, none⟩)]⟩ } } : State),
     by decide, by decide⟩,
   ⟨0, 1, (⟨.sqe 0, 64, some 1⟩ : EptRead), ({ up with ept := { up.ept with tags := ⟨[(0, ⟨.sqe 0, 64, some 1⟩)]⟩ } } : State),
     by decide, by decide⟩,
   ⟨0, 1, ({ up with ept := { up.ept with quar := ⟨[(0, 1)]⟩ } } : State), by decide⟩,
   ⟨(⟨true, 0, 8, false, [1, 2, 3, 4, 5, 6, 7, 8]⟩ : Bar2Req), winUp, by decide, by decide, by decide, by decide, by decide,
     by decide, by decide, by decide⟩,
   ⟨7, by decide⟩,
   ⟨7, by decide⟩⟩

theorem wit_PeerWindowWritesStoreOnlyTheirBytes :
    (∃ (r : Bar2Req) (s : State) (t : State) (x : Nat), r.isWrite = true ∧ s.ept.pool.wf = true ∧
      exec (.bar2Request r) s = .next t ∧
      (x < s.fld (F.EPT_PWIN_MAP_OFFSET (r.offset / 2 ^ s.winLog2)) * 2 ^ s.winLog2 + r.offset % 2 ^ s.winLog2 ∨ s.fld (F.EPT_PWIN_MAP_OFFSET (r.offset / 2 ^ s.winLog2)) * 2 ^ s.winLog2 + r.offset % 2 ^ s.winLog2 + r.data.length ≤ x)) :=
  ⟨(⟨true, 0, 8, false, [1, 2, 3, 4, 5, 6, 7, 8]⟩ : Bar2Req), winUp, (nx (exec (.bar2Request (⟨true, 0, 8, false, [1, 2, 3, 4, 5,
    6, 7, 8]⟩ : Bar2Req)) (winUp))), 8, by decide, by decide, next_of _ (by decide), by decide⟩

theorem wit_RackMessagesAndTimersTakeEffect :
    (∃ (h : RackHead) (s : State) (u : State), s.ctlWaits = false ∧ s.rackIn h false = (u, true) ∧ u.rackMe.isSome = true ∧
      s.claimReason h.sender h.epoch = 0) ∧
    (∃ (h : RackHead) (cand : Nat) (s : State) (u : State), s.ctlWaits = false ∧ s.rackIn h false = (u, true) ∧
      u.rack.countAt.isSome = true ∧ h.epoch = u.rack.claimed ∧ cand = u.fuses.serial) ∧
    (∃ (s : State), s.ctlWaits = false) ∧
    (∃ (h : RackHead) (s : State) (u : State), s.ctlWaits = false ∧ s.rackIn h false = (u, true) ∧ h.epoch = u.rack.epoch ∧
      u.rack.view = none) ∧
    (∃ (h : RackHead) (e : Nat) (s : State) (u : State), s.ctlWaits = false ∧ s.rackIn h false = (u, true) ∧
      u.rack.view = some (h.sender, e) ∧ h.epoch = u.rack.epoch) ∧
    (∃ (h : RackHead) (i : Nat) (s : State) (u : State), s.ctlWaits = false ∧ s.rackIn h true = (u, true) ∧ u.rack.role = 2 ∧
      u.rackIdx h.sender = some i) ∧
    (∃ (h : RackHead) (e : RackEntry) (s : State) (u : State), s.ctlWaits = false ∧ s.rackIn h false = (u, true) ∧
      u.rack.role = 2 ∧ (u.rackIdx h.sender).bind u.rackAt = some e ∧ u.rack.wakes = []) ∧
    (∃ (h : RackHead) (x : Nat) (s : State) (u : State), s.ctlWaits = false ∧ s.rackIn h false = (u, true) ∧
      u.rack.view = some (h.sender, x) ∧ h.epoch = u.rack.epoch ∧ u.viewCurrent = true) ∧
    (∃ (h : RackHead) (i : Nat) (s : State) (u : State), s.ctlWaits = false ∧ s.rackIn h false = (u, true) ∧ u.rack.role = 2 ∧
      u.rackIdx h.sender = some i) ∧
    (∃ (d : Nat) (s : State), s.mayClaim = true ∧ s.rack.role ≠ 2 ∧ s.rack.countAt = none ∧ s.rack.claimAt = some d) ∧
    (∃ (d : Nat) (s : State), s.rack.countAt = some d ∧ s.majority s.rack.accepts.length = false) ∧
    (∃ (d : Nat) (s : State), s.rack.renewAt = some d ∧ s.rack.role = 2) ∧
    (∃ (d : Nat) (s : State), s.rack.confirmAt = some d ∧ s.majority s.rack.replies.length = true) ∧
    (∃ (s : State), s.rack.role = 2) ∧
    (∃ (i : Nat) (o : SentOrder) (s : State), s.rack.orders.get? i = some o ∧ s.myIdx ≠ some i ∧
      (s.at (o.sentAt + sec ((s.now - o.sentAt) / sec 1 + 1))).mayOrder = true) ∧
    (∃ (i : Nat) (d : Nat) (o : SentOrder) (s : State), s.rack.orders.get? i = some o ∧ o.limitAt = some d) ∧
    (∃ (m : Move) (s : State), s.shelf.move = some m ∧ s.rst.episode = none ∧ m.target = .awake ∧ s.upReady = true) :=
  ⟨⟨({ rh with epoch := 6 } : RackHead), rackUp 1 none 0,
     (((rackUp 1 none 0).rackIn ({ rh with epoch := 6 } : RackHead) false).1), by decide, pairT_of _ (by decide), by decide,
     by decide⟩,
   ⟨rh, 0x000000A100000001, rackMod (rackUp 1 none 5) (fun r => { r with countAt := some 9, claimed := 5 }),
     ((rackMod (rackUp 1 none 5) (fun r => { r with countAt := some 9, claimed := 5 })).rackIn (rh) false).1, by decide,
     pairT_of _ (by decide), by decide, by decide, by decide⟩,
   ⟨up, by decide⟩,
   ⟨rh, rackUp 1 none 5, ((rackUp 1 none 5).rackIn (rh) false).1, by decide, pairT_of _ (by decide), by decide, by decide⟩,
   ⟨rh, 7, rackUp 1 (some (2, 7)) 5, ((rackUp 1 (some (2, 7)) 5).rackIn (rh) false).1, by decide, pairT_of _ (by decide),
     by decide, by decide⟩,
   ⟨({ rh with epoch := 4 } : RackHead), 1, rackUp 2 none 5,
     (((rackUp 2 none 5).rackIn ({ rh with epoch := 4 } : RackHead) true).1), by decide, pairT_of _ (by decide), by decide,
     by decide⟩,
   ⟨rh, (⟨2, 0, 1, true, 1, 0⟩ : RackEntry), rackUp 2 none 5, ((rackUp 2 none 5).rackIn (rh) false).1, by decide,
     pairT_of _ (by decide), by decide, by decide, by decide⟩,
   ⟨rh, 6000000000, rackUp 1 (some (2, 6000000000)) 5, ((rackUp 1 (some (2, 6000000000)) 5).rackIn (rh) false).1, by decide,
     pairT_of _ (by decide), by decide, by decide, by decide⟩,
   ⟨rh, 1, rackUp 2 none 5, ((rackUp 2 none 5).rackIn (rh) false).1, by decide, pairT_of _ (by decide), by decide, by decide⟩,
   ⟨1, rackMod (rackUp 1 none 5) (fun r => { r with claimAt := some 1 }), by decide, by decide, by decide, by decide⟩,
   ⟨1, rackMod (rackUp 1 none 5) (fun r => { r with countAt := some 1, accepts := [0] }), by decide, by decide⟩,
   ⟨1, rackMod (rackUp 2 none 5) (fun r => { r with renewAt := some 1 }), by decide, by decide⟩,
   ⟨1, rackMod (rackUp 2 none 5) (fun r => { r with confirmAt := some 1, replies := [0, 1] }), by decide, by decide⟩,
   ⟨rackUp 2 none 5, by decide⟩,
   ⟨1, (⟨1, 0, false, 4000000000, none, false⟩ : SentOrder),
     rackMod (rackUp 2 none 5) (fun r => { r with orders := ⟨[(1, ⟨1, 0, false, 4000000000, none, false⟩)]⟩, rounds := 1, confirmed := 9000000000 }),
     by decide, by decide, by decide⟩,
   ⟨1, 1, (⟨1, 0, false, 0, some 1, false⟩ : SentOrder),
     rackMod (rackUp 2 none 5) (fun r => { r with orders := ⟨[(1, ⟨1, 0, false, 0, some 1, false⟩)]⟩ }), by decide, by decide⟩,
   ⟨(⟨.awake, none, 0, 0, 0⟩ : Move),
     ({ up with shelf := { up.shelf with st := .dormant, move := some ⟨.awake, none, 0, 0, 0⟩ } } : State), by decide, by decide,
     by decide, by decide⟩⟩

theorem wit_RillCommandsTakeEffect :
    (∃ (core : Nat) (j : RillJob) (r : Nat × Bytes) (s : State), s.rill.running.get? core = some j ∧ j.first = 0 ∧ j.svc = none ∧
      r = rillRun s.rillTables j.desc j.input ∧ j.reruns r.1 = false) ∧
    (∃ (core : Nat) (j : RillJob) (s : State), s.rill.running.get? core = some j) ∧
    (∃ (pair : Nat) (d : Nat) (s : State), s.rill.idleAt.get? pair = some d) :=
  ⟨⟨15, rj, (rillRun ({ up with rill := { RillSt.init with running := ⟨[(15, rj)]⟩ } } : State).rillTables (rj).desc (rj).input),
     ({ up with rill := { RillSt.init with running := ⟨[(15, rj)]⟩ } } : State), by decide +kernel, by decide +kernel,
     by decide +kernel, rfl, by decide +kernel⟩,
   ⟨15, rj, ({ up with rill := { RillSt.init with running := ⟨[(15, rj)]⟩ } } : State), by decide⟩,
   ⟨7, 1, ({ up with rill := { RillSt.init with idleAt := ⟨[(7, 1)]⟩ } } : State), by decide⟩⟩

theorem wit_CipherCommandsTakeEffect :
    (∃ (k : Nat × Nat × Nat) (s : State) (u : State), s.cph.deriving_ = some k ∧ s.cacheKey k = some u) ∧
    (∃ (core : Nat) (j : CphJob) (s : State), s.cph.jobs.find? (fun j => j.phase = 2 && j.core = core) = some j) ∧
    (∃ (core : Nat) (s : State), s.cph.jobs.any (fun j => j.phase = 2 && j.core = core) = true) :=
  ⟨⟨(1, 2, 3), ({ up with cph := { CphSt.init with deriving_ := some (1, 2, 3) } } : State),
     ((({ up with cph := { CphSt.init with deriving_ := some (1, 2, 3) } } : State).cacheKey ((1, 2, 3))).get (by decide)),
     by decide, get_of _ _⟩,
   ⟨7, cj, ({ up with cph := { CphSt.init with jobs := [cj] } } : State), by decide⟩,
   ⟨7, ({ up with cph := { CphSt.init with jobs := [cj] } } : State), by decide⟩⟩

theorem wit_FramesAndPausesTakeEffect :
    (∃ (n : Nat) (f : Frame) (ts : List (Nat × Nat)) (s : State), s.netPowered n = true ∧ (s.nport n).link = true ∧
      s.flag (F.NET_CTRL_ENABLE n) = true ∧ s.flag (F.NET_CTRL_LOOPBACK n) = false ∧ f.kind = .pfc ts) ∧
    (∃ (n : Nat) (s : State), (s.netPowered n = false ∨ (s.nport n).link = false ∨ s.flag (F.NET_CTRL_ENABLE n) = false)) ∧
    (∃ (n : Nat) (f : Frame) (s : State) (u : State), s.netPowered n = true ∧ (s.nport n).link = true ∧
      s.flag (F.NET_CTRL_ENABLE n) = true ∧ s.flag (F.NET_CTRL_LOOPBACK n) = false ∧ (∀ ts, f.kind ≠ .pfc ts) ∧
      u = State.applyFld ((s.pmuEvent 0x300 n 1).pmuEvent 0x301 n f.length) F.BSN_CFG_CT_EN ∧ u.ringBlocks n f = false ∧
      u.isLocal f.dmac f.vid = true) ∧
    (∃ (n : Nat) (f : Frame) (s : State) (u : State), n < 2 ∧ s.netPowered n = true ∧ (s.nport n).link = true ∧
      s.flag (F.NET_CTRL_ENABLE n) = true ∧ s.flag (F.NET_CTRL_LOOPBACK n) = false ∧ (∀ ts, f.kind ≠ .pfc ts) ∧
      u = State.applyFld ((s.pmuEvent 0x300 n 1).pmuEvent 0x301 n f.length) F.BSN_CFG_CT_EN ∧ u.ringBlocks n f = false ∧
      u.isLocal f.dmac f.vid = false) ∧
    (∃ (n : Nat) (f : Frame) (s : State) (u : State), 2 ≤ n ∧ s.netPowered n = true ∧ (s.nport n).link = true ∧
      s.flag (F.NET_CTRL_ENABLE n) = true ∧ s.flag (F.NET_CTRL_LOOPBACK n) = false ∧ (∀ ts, f.kind ≠ .pfc ts) ∧
      u = State.applyFld ((s.pmuEvent 0x300 n 1).pmuEvent 0x301 n f.length) F.BSN_CFG_CT_EN ∧ u.isLocal f.dmac f.vid = false) ∧
    (∃ (n : Nat) (q : QFrame) (cut : Bool) (s : State), (s.nport n).sending = some (q, cut)) ∧
    (∃ (n : Nat) (c : Nat) (d : Nat) (s : State), (s.nport n).pfcAt.get? c = some d) ∧
    (∃ (n : Nat) (c : Nat) (d : Nat) (s : State), (s.egq n c).pausedTo = some d ∧ (s.egq n c).tripped = false) ∧
    (∃ (n : Nat) (c : Nat) (d : Nat) (s : State), (s.egq n c).pausedTo = some d ∧ (s.egq n c).tripped = true) ∧
    (∃ (n : Nat) (c : Nat) (d : Nat) (s : State), (s.egq n c).pausedFrom = some d ∧ (s.egq n c).wd ≠ 0 ∧
      (s.egq n c).tripped = false ∧ s.losslessOn n c = true) ∧
    (∃ (n : Nat) (c : Nat) (d : Nat) (s : State), (s.egq n c).restoreAt = some d) :=
  ⟨⟨3, ({ fr0 with kind := .pfc [(3, 65535)] } : Frame), ([(3, 65535)] : List (Nat × Nat)), netUp, by decide, by decide,
     by decide, by decide, by decide⟩,
   ⟨3, up, by decide⟩,
   ⟨3, fr0, ((netUp.setFld (F.BSN_LADDR_HI_VALID 15) 1).setFld (F.BSN_LADDR_LO_MAC_LO 15) 5).setFld F.BSN_RING_ENABLE 0,
     State.applyFld (((((netUp.setFld (F.BSN_LADDR_HI_VALID 15) 1).setFld (F.BSN_LADDR_LO_MAC_LO 15) 5).setFld F.BSN_RING_ENABLE 0).pmuEvent 0x300 (3) 1).pmuEvent 0x301 (3) (fr0).length) F.BSN_CFG_CT_EN,
     by decide, by decide, by decide, by decide, (by intro ts h; cases h), rfl, by decide, by decide⟩,
   ⟨1, ({ fr0 with dmac := 6 } : Frame), netUp.setFld F.BSN_RING_ENABLE 0,
     (State.applyFld (((netUp.setFld F.BSN_RING_ENABLE 0).pmuEvent 0x300 (1) 1).pmuEvent 0x301 (1) ({ fr0 with dmac := 6 } : Frame).length) F.BSN_CFG_CT_EN),
     by decide, by decide, by decide, by decide, by decide, (by intro ts h; cases h), rfl, by decide, by decide⟩,
   ⟨3, ({ fr0 with dmac := 6 } : Frame), netUp.setFld F.BSN_RING_ENABLE 0,
     (State.applyFld (((netUp.setFld F.BSN_RING_ENABLE 0).pmuEvent 0x300 (3) 1).pmuEvent 0x301 (3) ({ fr0 with dmac := 6 } : Frame).length) F.BSN_CFG_CT_EN),
     by decide, by decide, by decide, by decide, by decide, (by intro ts h; cases h), rfl, by decide⟩,
   ⟨3, qf, false, portUp 3 { NetPort.init with sending := some (qf, false) }, by decide⟩,
   ⟨3, 7, 1, portUp 3 { NetPort.init with pfcAt := ⟨[(7, 1)]⟩ }, by decide⟩,
   ⟨3, 7, 1, portUp 3 { NetPort.init with queues := ⟨[(7, { EgQueue.init with pausedTo := some 1 })]⟩ }, by decide, by decide⟩,
   ⟨3, 7, 1, portUp 3 { NetPort.init with queues := ⟨[(7, { EgQueue.init with pausedTo := some 1, tripped := true })]⟩ },
     by decide, by decide⟩,
   ⟨3, 7, 1,
     (portUp 3 { NetPort.init with queues := ⟨[(7, { EgQueue.init with pausedFrom := some 1, wd := 1 })]⟩ }).setFld (F.NET_CLASS_LOSSLESS 3) 128,
     by decide, by decide, by decide, by decide⟩,
   ⟨3, 7, 1, portUp 3 { NetPort.init with queues := ⟨[(7, { EgQueue.init with restoreAt := some 1 })]⟩ }, by decide⟩⟩

theorem wit_LinksAndRingEventsTakeEffect :
    (∃ (n : Nat) (s : State), (s.nport n).link = true) ∧
    (∃ (n : Nat) (s : State), s.netPowered n = true ∧ s.flag (F.NET_CTRL_ENABLE n) = true ∧ (s.nport n).link = false) ∧
    (∃ (n : Nat) (d : Nat) (s : State), 2 ≤ n ∧ (s.nport n).holdAt = some d) ∧
    (∃ (n : Nat) (d : Nat) (s : State), n < 2 ∧ (s.nport n).holdAt = some d) ∧
    (∃ (d : Nat) (s : State), s.net.drainAt = some d) ∧
    (∃ (n : Nat) (v : Nat) (q : RapsReq) (s : State), n < 2 ∧ s.ctlWaits = false ∧ s.flag F.BSN_RING_ENABLE = true ∧
      s.net.guardAt = none ∧ (s.nport 0).ring = 0 ∧ (s.nport 1).ring = 0 ∧ (q = .nrRb ∧ v = 0 ∨ q = .sf ∧ v = 1 ∨ q = .ms ∧
      v = 2 ∨ q = .fs ∧ v = 3 ∨ q = .nr ∧ v = 4)) ∧
    (∃ (n : Nat) (s : State), n < 2 ∧ s.ctlWaits = false ∧ s.flag F.BSN_RING_ENABLE = true) ∧
    (∃ (h : RapsHdr) (s : State), s.ctlWaits = false ∧ (s.flag F.BSN_RING_ENABLE = false ∨ h ≠ s.rapsHdr)) ∧
    (∃ (n : Nat) (d : Nat) (s : State), (s.nport n).holdoffAt = some d ∧ (s.nport n).link = true) ∧
    (∃ (n : Nat) (d : Nat) (s : State), (s.nport n).holdoffAt = some d ∧ (s.nport n).link = false) ∧
    (∃ (d : Nat) (s : State), s.net.guardAt = some d) :=
  ⟨⟨3, netUp, by decide⟩,
   ⟨3, (portUp 3 NetPort.init).setFld (F.NET_CTRL_ENABLE 3) 1, by decide, by decide, by decide⟩,
   ⟨2, 1, portUp 2 { NetPort.init with holdAt := some 1 }, by decide, by decide⟩,
   ⟨1, 1, portUp 1 { NetPort.init with holdAt := some 1 }, by decide, by decide⟩,
   ⟨1, ({ up with net := { NetSt.init with drainAt := some 1 } } : State), by decide⟩,
   ⟨1, 1, (.sf : RapsReq), ringUp, by decide, by decide, by decide, by decide, by decide, by decide, by decide⟩,
   ⟨1, ringUp, by decide, by decide, by decide⟩,
   ⟨(⟨0, 0, 0⟩ : RapsHdr), up, by decide, by decide⟩,
   ⟨1, 1, portUp 1 { NetPort.init with link := true, holdoffAt := some 1 }, by decide, by decide⟩,
   ⟨1, 1, portUp 1 { NetPort.init with holdoffAt := some 1 }, by decide, by decide⟩,
   ⟨1, ({ up with net := { NetSt.init with guardAt := some 1 } } : State), by decide⟩⟩

theorem wit_WeirEventsTakeEffect :
    (∃ (n : Nat) (g : GateList) (s : State), (s.nport n).admin = some g ∧ (s.nport n).sending = none) ∧
    (∃ (n : Nat) (g : GateList) (q : QFrame) (cut : Bool) (s : State), (s.nport n).admin = some g ∧ (s.nport n).sending = some (q,
      cut)) ∧
    (∃ (n : Nat) (g : GateList) (s : State) (u : State), (s.nport n).oper = some g ∧ u = s.at (s.now + (s.gclNow g).2.2)) ∧
    (∃ (n : Nat) (s : State), s.regs.pend.get? 0x1C0004 = none ∧ s.flag F.WEIR_SMP_CFG_EN = true ∧ s.netPowered n = true ∧ n < 4) :=
  ⟨⟨3, (⟨[(255, 1000)], 1000, 5000000000⟩ : GateList),
     portUp 3 { NetPort.init with admin := some ⟨[(255, 1000)], 1000, 5000000000⟩ }, by decide, by decide⟩,
   ⟨3, (⟨[(255, 1000)], 1000, 5000000000⟩ : GateList), qf, false,
     portUp 3 { NetPort.init with admin := some ⟨[(255, 1000)], 1000, 5000000000⟩, sending := some (qf, false) }, by decide,
     by decide⟩,
   ⟨3, (⟨[(255, 1000)], 1000, 4000000000⟩ : GateList),
     portUp 3 { NetPort.init with oper := some ⟨[(255, 1000)], 1000, 4000000000⟩ },
     ((portUp 3 { NetPort.init with oper := some ⟨[(255, 1000)], 1000, 4000000000⟩ }).at ((portUp 3 { NetPort.init with oper := some ⟨[(255, 1000)], 1000, 4000000000⟩ }).now + ((portUp 3 { NetPort.init with oper := some ⟨[(255, 1000)], 1000, 4000000000⟩ }).gclNow (⟨[(255,
     1000)], 1000, 4000000000⟩ : GateList)).2.2)), by decide, rfl⟩,
   ⟨3, netUp.setFld F.WEIR_SMP_CFG_EN 1, by decide, by decide, by decide, by decide⟩⟩

theorem wit_ConnectionsTakeEffect :
    (∃ (req : CmReq) (i : Nat) (s : State), s.ctlWaits = false ∧ s.sluIn = true ∧ s.regs.pend = .empty ∧ 1024 ≤ req.mtu ∧
      req.responderRes ≠ 0 ∧ s.slu.qps.size < s.qpLimit ∧ s.slu.qps.freeKey 4096 = some i) ∧
    (∃ (s : State), s.ctlWaits = false ∧ s.sluIn = true ∧ s.regs.pend = .empty) ∧
    (∃ (i : Nat) (q : Qp) (s : State), s.ctlWaits = false ∧ s.slu.qps.get? i = some q ∧ q.st = 0 ∧ s.sluIn = true) ∧
    (∃ (i : Nat) (q : Qp) (s : State), s.ctlWaits = false ∧ s.slu.qps.get? i = some q ∧ q.st = 0 ∧ s.sluIn = true) ∧
    (∃ (i : Nat) (q : Qp) (s : State), s.ctlWaits = false ∧ s.slu.qps.get? i = some q ∧ s.sluIn = true) ∧
    (∃ (s : State), s.sluIn = true) :=
  ⟨⟨(⟨1024, 1, 31, 1, 0, 0, 0, 0, 0, 0, 0, []⟩ : CmReq), 0, up, by decide, by decide, by decide, by decide, by decide, by decide,
     by decide +kernel⟩,
   ⟨up, by decide, by decide, by decide⟩,
   ⟨4095, qp 0, qpUp (qp 0), by decide, by decide, by decide, by decide⟩,
   ⟨4095, qp 0, qpUp (qp 0), by decide, by decide, by decide, by decide⟩,
   ⟨4095, qp 1, qpUp (qp 1), by decide, by decide, by decide⟩,
   ⟨up, by decide⟩⟩

theorem wit_PacketsTakeEffect :
    (∃ (p : Packet) (i : Nat) (q : Qp) (r : Qp) (st : Start) (s : State) (u : State), s.sluIn = true ∧
      s.findQpn p.qpn p.dmac = some (i, q) ∧ s.qpFenced q = false ∧ u = (s.pmuEvent 0x600 (s.halfOf i) 1).answerCe i q p ∧
      u.slu.qps.get? i = some r ∧ psnDist r.ePsn p.psn < 256 ∧ r.got.contains p.psn = false ∧
      (r.held.any fun h => h.psn = p.psn) = false ∧ r.start p = some st) ∧
    (∃ (p : Packet) (i : Nat) (q : Qp) (r : Qp) (s : State) (u : State), s.sluIn = true ∧ s.findQpn p.qpn p.dmac = some (i, q) ∧
      s.qpFenced q = false ∧ u = (s.pmuEvent 0x600 (s.halfOf i) 1).answerCe i q p ∧ u.slu.qps.get? i = some r) ∧
    (∃ (p : Packet) (s : State), s.sluIn = true ∧ s.findQpn p.qpn p.dmac = none) :=
  ⟨⟨pk, 4095, qp 1,
     ((((qpUp (qp 1)).pmuEvent 0x600 ((qpUp (qp 1)).halfOf (4095)) 1).answerCe (4095) (qp 1) (pk)).slu.qps.get? (4095)).get (by decide),
     (⟨0, .send, 0, 0, 0, 0⟩ : Start), qpUp (qp 1),
     ((qpUp (qp 1)).pmuEvent 0x600 ((qpUp (qp 1)).halfOf (4095)) 1).answerCe (4095) (qp 1) (pk), by decide, by decide, by decide,
     rfl, get_of _ _, by decide, by decide, by decide, by decide⟩,
   ⟨pk, 4095, qp 1,
     ((((qpUp (qp 1)).pmuEvent 0x600 ((qpUp (qp 1)).halfOf (4095)) 1).answerCe (4095) (qp 1) (pk)).slu.qps.get? (4095)).get (by decide),
     qpUp (qp 1), ((qpUp (qp 1)).pmuEvent 0x600 ((qpUp (qp 1)).halfOf (4095)) 1).answerCe (4095) (qp 1) (pk), by decide,
     by decide, by decide, rfl, get_of _ _⟩,
   ⟨pk, up, by decide, by decide⟩⟩

theorem wit_TransportTimersAndAnswersTakeEffect :
    (∃ (i : Nat) (d : Nat) (q : Qp) (s : State), s.slu.qps.get? i = some q ∧ q.runAt = some d ∧ q.st = 1 ∧ s.sluOn = true) ∧
    (∃ (i : Nat) (d : Nat) (q : Qp) (s : State), s.slu.qps.get? i = some q ∧ q.gapAt = some d ∧ q.st = 1 ∧ q.nakSent = false ∧
      s.sluOn = true) ∧
    (∃ (i : Nat) (q : Qp) (s : State), s.slu.qps.get? i = some q ∧ q.st = 1 ∧ s.sluIn = true) ∧
    (∃ (i : Nat) (d : Nat) (q : Qp) (s : State), s.slu.qps.get? i = some q ∧ q.rateAt = some d ∧ q.st = 1 ∧ s.sluOn = true ∧
      s.regs.pend = .empty) ∧
    (∃ (i : Nat) (d : Nat) (q : Qp) (s : State), s.slu.qps.get? i = some q ∧ q.freeAt = some d ∧ q.st = 3) ∧
    (∃ (w : Nat) (d : Nat) (x : Win) (s : State), s.slu.windows.get? w = some x ∧ x.drainAt = some d ∧ x.revoking = true ∧
      (s.drainCheck w).slu.windows.has w = true) ∧
    (∃ (w : Nat) (d : Nat) (x : Win) (s : State), s.slu.windows.get? w = some x ∧ x.drainAt = some d ∧ x.revoking = true ∧
      (s.drainCheck w).slu.windows.has w = false) ∧
    (∃ (i : Nat) (psn : Nat) (q : Qp) (r : TxReq) (s : State), s.slu.qps.get? i = some q ∧ q.st = 1 ∧ s.sluIn = true ∧
      q.probe = none ∧ q.sent = [r] ∧ r.covered psn = true ∧ r.kind ≠ 4 ∧ r.counter = none) ∧
    (∃ (i : Nat) (q : Qp) (s : State), s.slu.qps.get? i = some q ∧ q.st = 1 ∧ s.sluIn = true ∧ q.probe = none) ∧
    (∃ (i : Nat) (q : Qp) (s : State), s.slu.qps.get? i = some q ∧ q.st = 1 ∧ s.sluIn = true) ∧
    (∃ (i : Nat) (q : Qp) (r : TxReq) (l : List TxReq) (s : State), s.slu.qps.get? i = some q ∧ q.st = 1 ∧ s.sluIn = true ∧
      q.sent = r :: l) ∧
    (∃ (i : Nat) (q : Qp) (s : State), s.slu.qps.get? i = some q ∧ q.st = 1 ∧ s.sluIn = true ∧ q.rnrCnt ≠ 7 ∧ q.rnrLeft = 0) ∧
    (∃ (i : Nat) (q : Qp) (s : State), s.slu.qps.get? i = some q ∧ q.st = 1 ∧ s.sluIn = true ∧ (q.rnrLeft ≠ 0 ∨ q.rnrCnt = 7)) ∧
    (∃ (i : Nat) (d : Nat) (q : Qp) (s : State), s.slu.qps.get? i = some q ∧ q.ackAt = some d ∧ q.st = 1 ∧ q.sent ≠ [] ∧
      s.sluOn = true ∧ q.retryCnt ≤ q.retries) ∧
    (∃ (i : Nat) (d : Nat) (q : Qp) (s : State), s.slu.qps.get? i = some q ∧ q.ackAt = some d ∧ q.st = 1 ∧ q.sent ≠ [] ∧
      s.sluOn = true ∧ q.retries < q.retryCnt) ∧
    (∃ (i : Nat) (d : Nat) (q : Qp) (s : State), s.slu.qps.get? i = some q ∧ q.rnrAt = some d ∧ q.st = 1 ∧ s.sluOn = true) :=
  ⟨⟨4095, 1, ({ qp 1 with runAt := some 1 } : Qp), qpUp { qp 1 with runAt := some 1 }, by decide, by decide, by decide, by decide⟩,
   ⟨4095, 1, ({ qp 1 with gapAt := some 1 } : Qp), qpUp { qp 1 with gapAt := some 1 }, by decide, by decide, by decide, by decide,
     by decide⟩,
   ⟨4095, qp 1, qpUp (qp 1), by decide, by decide, by decide⟩,
   ⟨4095, 1, ({ qp 1 with rateAt := some 1 } : Qp), qpUp { qp 1 with rateAt := some 1 }, by decide, by decide, by decide,
     by decide, by decide⟩,
   ⟨4095, 1, ({ qp 3 with freeAt := some 1 } : Qp), qpUp { qp 3 with freeAt := some 1 }, by decide, by decide, by decide⟩,
   ⟨63, 1, (⟨5, 1, 1, true, some 1, [(4095, 7)], .empty⟩ : Win),
     ({ qpUp { qp 1 with msgs := [⟨7, .write, true, 0, 0, none, none, .empty, 1⟩] } with slu := { (qpUp { qp 1 with msgs := [⟨7, .write, true, 0, 0, none, none, .empty, 1⟩] }).slu with windows := ⟨[(63, ⟨5, 1, 1, true, some 1, [(4095, 7)], .empty⟩)]⟩ } } : State),
     by decide, by decide, by decide, by decide⟩,
   ⟨63, 1, (⟨5, 1, 1, true, some 1, [], .empty⟩ : Win),
     ({ qpUp (qp 1) with slu := { (qpUp (qp 1)).slu with windows := ⟨[(63, ⟨5, 1, 1, true, some 1, [], .empty⟩)]⟩ } } : State),
     by decide, by decide, by decide, by decide⟩,
   ⟨4095, 0, ({ qp 1 with sent := [tr] } : Qp), tr, qpUp { qp 1 with sent := [tr] }, by decide, by decide, by decide, by decide,
     by decide, by decide, by decide, by decide⟩,
   ⟨4095, qp 1, qpUp (qp 1), by decide, by decide, by decide, by decide⟩,
   ⟨4095, qp 1, qpUp (qp 1), by decide, by decide, by decide⟩,
   ⟨4095, ({ qp 1 with sent := [tr] } : Qp), tr, ([] : List TxReq), qpUp { qp 1 with sent := [tr] }, by decide, by decide,
     by decide, by decide⟩,
   ⟨4095, qp 1, qpUp (qp 1), by decide, by decide, by decide, by decide, by decide⟩,
   ⟨4095, ({ qp 1 with rnrLeft := 1 } : Qp), qpUp { qp 1 with rnrLeft := 1 }, by decide, by decide, by decide, by decide⟩,
   ⟨4095, 1, ({ qp 1 with sent := [tr], ackAt := some 1 } : Qp), qpUp { qp 1 with sent := [tr], ackAt := some 1 }, by decide,
     by decide, by decide, by decide, by decide, by decide⟩,
   ⟨4095, 1, ({ qp 1 with sent := [tr], ackAt := some 1, retryCnt := 1 } : Qp),
     qpUp { qp 1 with sent := [tr], ackAt := some 1, retryCnt := 1 }, by decide, by decide, by decide, by decide, by decide,
     by decide⟩,
   ⟨4095, 1, ({ qp 1 with rnrAt := some 1 } : Qp), qpUp { qp 1 with rnrAt := some 1 }, by decide, by decide, by decide, by decide⟩⟩

theorem wit_TriggeredWritesTakeEffect :
    (∃ (i : Nat) (q : Qp) (s : State), s.sluOn = true ∧ s.is36 = false ∧ s.slu.qps.get? i = some q ∧ q.st = 1 ∧ s.slu.trigs = []) ∧
    (∃ (i : Nat) (q : Qp) (s : State), s.sluOn = true ∧ s.is36 = true ∧ s.slu.qps.get? i = some q ∧ q.st = 1) ∧
    (∃ (i : Nat) (s : State), s.sluOn = true ∧ s.slu.qps.get? i = none) ∧
    (∃ (counter : Nat) (s : State), s.is36 = false ∧ s.sluOn = true ∧ counter < 1024) :=
  ⟨⟨4095, qp 1, qpUp (qp 1), by decide, by decide, by decide, by decide, by decide⟩,
   ⟨4095, qp 1, ({ qpUp (qp 1) with fuses := { Fuses.init with part := 0x7236 } } : State), by decide, by decide, by decide,
     by decide⟩,
   ⟨4095, up, by decide, by decide⟩,
   ⟨1023, up, by decide, by decide, by decide⟩⟩

theorem wit_AdminCommandsAreTakenUp :
    (∃ (cap : Cap) (arr : Nat) (m : Bool) (a : Assoc) (r : CmdRec) (s : State), s.cmd.assocs.get? cap.assoc = some a ∧
      a.ended = false ∧ s.capFenced cap = false ∧ s.findCap cap = some (arr, r) ∧ s.cmd.cmds.get? arr = some r ∧
      r.slot.isSome = true ∧ r.phase ≠ .effect ∧ r.phase ≠ .done ∧ s.coreStop = false ∧
      (s.shelf.st = .awake ∨ s.shelf.st = .dormant ∧ m = false) ∧ s.shelf.move = none) ∧
    (∃ (cap : Cap) (op : Nat) (a : Assoc) (r : CmdRec) (s : State) (u : State), s.cmd.assocs.get? cap.assoc = some a ∧
      a.ended = false ∧ s.capFenced cap = false ∧ s.shelf.st = .awake ∧ s.findCap cap = none ∧
      u = (s.arrive cap 0 (some (.admin op)) [] true).1 ∧ u.cmd.cmds.get? (s.cmd.arrival + 1) = some r ∧ r.slot.isSome = true ∧
      r.phase = .held ∧ u.shelf.st = .awake ∧ u.coreStop = false ∧ u.shelf.move = none) :=
  ⟨⟨capA, 7, true, as0, ca, host, by decide, by decide, by decide, by decide, by decide, by decide, by decide, by decide,
     by decide, by decide, by decide⟩,
   ⟨(⟨1, 0, 6⟩ : Cap), 6, as0, (((((host).arrive (⟨1, 0,
     6⟩ : Cap) 0 (some (.admin (6))) [] true).1).cmd.cmds.get? ((host).cmd.arrival + 1)).get (by decide)), host,
     (((host).arrive (⟨1, 0, 6⟩ : Cap) 0 (some (.admin (6))) [] true).1), by decide, by decide, by decide, by decide, by decide,
     rfl, get_of _ _, by decide, by decide, by decide, by decide, by decide⟩⟩

theorem wit_AssociationsAndPropertiesTakeEffect :
    (∃ (cap : Cap) (req : ConnectReq) (bed : Option Nat) (pos : Nat) (ten : Tenant) (s : State), s.connectWaits = false ∧
      (s.shelf.st = .awake ∨ s.shelf.st = .dormant) ∧ s.sluIn = true ∧ s.connectBad cap req = none ∧ req.qid = 0 ∧
      s.subsystem req.subnqn = some bed ∧ s.tenantFor req.hostnqn = some (pos, ten)) ∧
    (∃ (cap : Cap) (req : ConnectReq) (st : Nat) (dw0 : Nat) (s : State), s.connectWaits = false ∧
      (s.shelf.st = .awake ∨ s.shelf.st = .dormant) ∧ s.sluIn = true ∧ s.connectBad cap req = some (st, dw0)) ∧
    (∃ (cap : Cap) (req : ConnectReq) (s : State), s.connectWaits = false ∧ (s.shelf.st = .awake ∨ s.shelf.st = .dormant) ∧
      s.sluIn = true ∧ s.connectBad cap req = none ∧ req.qid ≠ 0) ∧
    (∃ (cap : Cap) (arr : Nat) (a : Assoc) (s : State) (u : State), s.takeAdmin cap 0x7F false = .go u arr a ∧ a.fn0 = false) ∧
    (∃ (i : Nat) (d : Nat) (a : Assoc) (s : State), s.cmd.assocs.get? i = some a ∧ a.kaAt = some d ∧ a.ended = false) ∧
    (∃ (cap : Cap) (arr : Nat) (a : Assoc) (s : State) (u : State), s.takeAdmin cap 0x18 false = .go u arr a) ∧
    (∃ (arr : Nat) (s : State), s.nextGrant = some arr) ∧
    (∃ (d : Nat) (s : State), s.cmd.wakeAt = some d ∧ s.parkedCount ≠ 0) ∧
    (∃ (arr : Nat) (r : CmdRec) (s : State), s.cmd.cmds.get? arr = some r ∧ r.phase = .parked) ∧
    (∃ (n : Nat) (s : State), s.ctlWaits = false ∧ s.shelf.st = .dark ∧ s.darkTokens ≠ 0 ∧ s.netPowered n = true ∧
      (s.nport n).link = true ∧ n < 2 ∧ s.flag F.BSN_RING_ENABLE = false) ∧
    (∃ (s : State), s.ctlWaits = false ∧ s.shelf.st ≠ .dark) ∧
    (∃ (cap : Cap) (off : Nat) (lo : Nat) (hi : Nat) (arr : Nat) (a : Assoc) (s : State) (u : State),
      s.takeAdmin cap 0x7F false = .go u arr a ∧ a.fn0 = false ∧ u.property a off = some (lo, hi)) ∧
    (∃ (cap : Cap) (off : Nat) (arr : Nat) (a : Assoc) (s : State) (u : State), s.takeAdmin cap 0x7F false = .go u arr a ∧
      a.fn0 = false ∧ u.property a off = none) ∧
    (∃ (cap : Cap) (v : Nat) (arr : Nat) (a : Assoc) (s : State) (u : State), s.takeAdmin cap 0x7F false = .go u arr a ∧
      a.fn0 = false ∧ v % 2 = 0) ∧
    (∃ (cap : Cap) (v : Nat) (arr : Nat) (a : Assoc) (s : State) (u : State), s.takeAdmin cap 0x7F false = .go u arr a ∧
      a.fn0 = false ∧ v % 2 = 1) ∧
    (∃ (cap : Cap) (arr : Nat) (a : Assoc) (s : State) (u : State), s.takeAdmin cap 0x7F false = .go u arr a ∧ a.fn0 = false) ∧
    (∃ (cap : Cap) (w : Nat) (arr : Nat) (a : Assoc) (s : State) (u : State), s.takeAdmin cap 0x7F false = .go u arr a ∧
      a.fn0 = false ∧ a.window = some w) :=
  ⟨⟨(⟨2, 0, 1⟩ : Cap), (⟨0, 31, 1, discoveryNqn, [1, 2], .inCapsule 1024⟩ : ConnectReq), none, 4095, (⟨1, [], [[1]],
     false⟩ : Tenant), host, by decide +kernel, by decide +kernel, by decide +kernel, by decide +kernel, by decide +kernel,
     by decide +kernel, by decide +kernel⟩,
   ⟨(⟨2, 0, 1⟩ : Cap), (⟨0, 31, 0, discoveryNqn, [1, 2], .inCapsule 1024⟩ : ConnectReq), Status.invalidField, 0, host,
     by decide +kernel, by decide +kernel, by decide +kernel, by decide +kernel⟩,
   ⟨capA, (⟨2, 31, 1, host.nqn 0, [], .inCapsule 1024⟩ : ConnectReq), host, by decide +kernel, by decide +kernel,
     by decide +kernel, by decide +kernel, by decide +kernel⟩,
   ⟨capA, aN ((host).takeAdmin (capA) 0x7F false), aA ((host).takeAdmin (capA) 0x7F false) as0, host,
     aU ((host).takeAdmin (capA) 0x7F false), go_of _ as0 (by decide), by decide⟩,
   ⟨1, 1, ({ as0 with kaAt := some 1 } : Assoc), hostAs { as0 with kaAt := some 1 }, by decide, by decide, by decide⟩,
   ⟨capA, aN ((host).takeAdmin (capA) 0x18 false), aA ((host).takeAdmin (capA) 0x18 false) as0, host,
     aU ((host).takeAdmin (capA) 0x18 false), go_of _ as0 (by decide)⟩,
   ⟨9, ({ host with cmd := { host.cmd with cmds := ⟨[(9, { ci with slot := none, phase := .waiting })]⟩ } } : State), by decide⟩,
   ⟨1, ({ host with cmd := { host.cmd with wakeAt := some 1, cmds := ⟨[(8, { ci with phase := .parked })]⟩ } } : State),
     by decide, by decide⟩,
   ⟨8, ({ ci with phase := .parked } : CmdRec),
     ({ host with cmd := { host.cmd with cmds := ⟨[(8, { ci with phase := .parked })]⟩ } } : State), by decide, by decide⟩,
   ⟨1, ({ netUp with shelf := { up.shelf with st := .dark } }).setFld F.BSN_RING_ENABLE 0, by decide, by decide, by decide,
     by decide, by decide, by decide, by decide⟩,
   ⟨up, by decide, by decide⟩,
   ⟨capA, 0x1C,
     (((aU ((host).takeAdmin (capA) 0x7F false)).property (aA ((host).takeAdmin (capA) 0x7F false) as0) (0x1C)).get (by decide)).1,
     (((aU ((host).takeAdmin (capA) 0x7F false)).property (aA ((host).takeAdmin (capA) 0x7F false) as0) (0x1C)).get (by decide)).2,
     aN ((host).takeAdmin (capA) 0x7F false), aA ((host).takeAdmin (capA) 0x7F false) as0, host,
     aU ((host).takeAdmin (capA) 0x7F false), go_of _ as0 (by decide), by decide, get2_of _ _⟩,
   ⟨capA, 4, aN ((host).takeAdmin (capA) 0x7F false), aA ((host).takeAdmin (capA) 0x7F false) as0, host,
     aU ((host).takeAdmin (capA) 0x7F false), go_of _ as0 (by decide), by decide, by decide⟩,
   ⟨capA, 0, aN ((host).takeAdmin (capA) 0x7F false), aA ((host).takeAdmin (capA) 0x7F false) as0, host,
     aU ((host).takeAdmin (capA) 0x7F false), go_of _ as0 (by decide), by decide, by decide⟩,
   ⟨capA, 1, aN ((host).takeAdmin (capA) 0x7F false), aA ((host).takeAdmin (capA) 0x7F false) as0, host,
     aU ((host).takeAdmin (capA) 0x7F false), go_of _ as0 (by decide), by decide, by decide⟩,
   ⟨capA, aN ((host).takeAdmin (capA) 0x7F false), aA ((host).takeAdmin (capA) 0x7F false) as0, host,
     aU ((host).takeAdmin (capA) 0x7F false), go_of _ as0 (by decide), by decide⟩,
   ⟨capA, 63, aN ((hostAs { as0 with window := some 63 }).takeAdmin (capA) 0x7F false),
     aA ((hostAs { as0 with window := some 63 }).takeAdmin (capA) 0x7F false) as0, hostAs { as0 with window := some 63 },
     aU ((hostAs { as0 with window := some 63 }).takeAdmin (capA) 0x7F false), go_of _ as0 (by decide), by decide, by decide⟩⟩

theorem wit_AdminCommandsTakeEffect :
    (∃ (cap : Cap) (lid : Nat) (arr : Nat) (a : Assoc) (p : Bytes) (s : State) (u : State),
      s.takeAdmin cap 0x02 false = .go u arr a ∧ u.logPage cap.assoc a lid = some p ∧ lid ≠ 4) ∧
    (∃ (cap : Cap) (lid : Nat) (arr : Nat) (a : Assoc) (s : State) (u : State), s.takeAdmin cap 0x02 false = .go u arr a ∧
      u.logPage cap.assoc a lid = none) ∧
    (∃ (cap : Cap) (cns : Nat) (nsid : Nat) (arr : Nat) (a : Assoc) (p : Bytes) (s : State) (u : State),
      s.takeAdmin cap 0x06 false = .go u arr a ∧ cns ∈ [0, 1, 2, 3, 5, 6, 0x1C] ∧ u.identify cap.assoc a cns nsid = some p) ∧
    (∃ (cap : Cap) (arr : Nat) (a : Assoc) (s : State) (u : State), s.takeAdmin cap 0x09 false = .go u arr a) ∧
    (∃ (cap : Cap) (arr : Nat) (a : Assoc) (s : State) (u : State), s.takeAdmin cap 0x0A false = .go u arr a) ∧
    (∃ (cap : Cap) (arr : Nat) (a : Assoc) (s : State) (u : State), s.takeAdmin cap 0x0C false = .go u arr a ∧ a.aers.length < 4 ∧
      cap ∉ a.aers) ∧
    (∃ (cap : Cap) (op : Nat) (arr : Nat) (a : Assoc) (s : State) (u : State), s.takeAdmin cap op false = .go u arr a) ∧
    (∃ (cap : Cap) (q : Nat) (c : Nat) (arr : Nat) (k : Nat) (b : Nat) (a : Assoc) (r : CmdRec) (s : State) (u : State),
      s.takeAdmin cap 0x08 false = .go u arr a ∧ u.abortsOf cap.assoc ≤ 4 ∧ u.findCap ⟨cap.assoc, q, c⟩ = some (k, r) ∧
      r.catchable = true ∧ k ≠ arr ∧ u.bedOf r.cap = some b ∧ a.bed = some b) ∧
    (∃ (cap : Cap) (q : Nat) (c : Nat) (arr : Nat) (a : Assoc) (s : State) (u : State), s.takeAdmin cap 0x08 false = .go u arr a ∧
      u.abortsOf cap.assoc ≤ 4 ∧ u.findCap ⟨cap.assoc, q, c⟩ = none) :=
  ⟨⟨capA, 2, aN ((host).takeAdmin (capA) 0x02 false), aA ((host).takeAdmin (capA) 0x02 false) as0,
     ((aU ((host).takeAdmin (capA) 0x02 false)).logPage (capA).assoc (aA ((host).takeAdmin (capA) 0x02 false) as0) (2)).get (by decide),
     host, aU ((host).takeAdmin (capA) 0x02 false), go_of _ as0 (by decide), get_of _ _, by decide⟩,
   ⟨capA, 0xFF, aN ((host).takeAdmin (capA) 0x02 false), aA ((host).takeAdmin (capA) 0x02 false) as0, host,
     aU ((host).takeAdmin (capA) 0x02 false), go_of _ as0 (by decide), by decide⟩,
   ⟨capA, 0x1C, 0, aN ((host).takeAdmin (capA) 0x06 false), aA ((host).takeAdmin (capA) 0x06 false) as0,
     ((aU ((host).takeAdmin (capA) 0x06 false)).identify (capA).assoc (aA ((host).takeAdmin (capA) 0x06 false) as0) (0x1C) (0)).get (by decide),
     host, aU ((host).takeAdmin (capA) 0x06 false), go_of _ as0 (by decide), by decide, get_of _ _⟩,
   ⟨capA, aN ((host).takeAdmin (capA) 0x09 false), aA ((host).takeAdmin (capA) 0x09 false) as0, host,
     aU ((host).takeAdmin (capA) 0x09 false), go_of _ as0 (by decide)⟩,
   ⟨capA, aN ((host).takeAdmin (capA) 0x0A false), aA ((host).takeAdmin (capA) 0x0A false) as0, host,
     aU ((host).takeAdmin (capA) 0x0A false), go_of _ as0 (by decide)⟩,
   ⟨capA, aN ((host).takeAdmin (capA) 0x0C false), aA ((host).takeAdmin (capA) 0x0C false) as0, host,
     aU ((host).takeAdmin (capA) 0x0C false), go_of _ as0 (by decide), by decide, by decide⟩,
   ⟨capA, 0xFF, aN ((host).takeAdmin (capA) (0xFF) false), aA ((host).takeAdmin (capA) (0xFF) false) as0, host,
     aU ((host).takeAdmin (capA) (0xFF) false), go_of _ as0 (by decide)⟩,
   ⟨capA, 1, 9, aN ((host).takeAdmin (capA) 0x08 false), 8, 0, aA ((host).takeAdmin (capA) 0x08 false) as0, ci, host,
     aU ((host).takeAdmin (capA) 0x08 false), go_of _ as0 (by decide), by decide, by decide, by decide, by decide, by decide,
     by decide⟩,
   ⟨capA, 1, 65535, aN ((host).takeAdmin (capA) 0x08 false), aA ((host).takeAdmin (capA) 0x08 false) as0, host,
     aU ((host).takeAdmin (capA) 0x08 false), go_of _ as0 (by decide), by decide, by decide⟩⟩

theorem wit_NamespaceCommandsTakeEffect :
    (∃ (cap : Cap) (kv : Bool) (lbas : Nat) (arr : Nat) (b : Nat) (nsid : Nat) (chunk : Option Nat) (modeD : Option Bool) (d : DataPtr) (a : Assoc) (x : Bed) (s : State) (u : State) (v : State),
      s.takeAdmin cap 0x0D true = .go u arr a ∧ u.dptrBad cap d 4096 = 0 ∧ a.bed = some b ∧ u.beds.get? b = some x ∧
      x.refuses true = 0 ∧ chunkOk (chunk.getD 262144) = true ∧
      ((List.range 257).drop 1).find? (fun i => !u.cfg.data.ns.has i) = some nsid ∧
      (kv = true ∨ sumN ((u.cfg.data.ns.vals.filter (fun n => !n.kv)).map (·.lbas)) + lbas ≤ 2 ^ 37 ∧
      u.mapsFit u.chansIn (8 * cdiv lbas 16) = true ∧
      mapPages lbas + sumN ((u.cfg.data.ns.vals.filter (fun n => !n.kv && n.bed = b)).map (fun n => mapPages n.lbas)) ≤ (x.e - x.eIdx) * 262144) ∧
      (u.putEpochs nsid ((u.epochsOf nsid).2 + 1) ((u.epochsOf nsid).2 + 1)).commitData { u.cfg.data with ns := u.cfg.data.ns.put nsid (.mk kv b (u.tenantId a.tenant) (chunk.getD 262144) (modeD.getD true) (if kv then 0 else lbas) ((u.epochsOf nsid).2 + 1) []) } = some v) ∧
    (∃ (cap : Cap) (nsid : Nat) (arr : Nat) (b : Nat) (a : Assoc) (n : Namespace) (x : Bed) (s : State) (u : State),
      s.takeAdmin cap 0x0D true = .go u arr a ∧ u.ownNs a nsid = some (b, n) ∧ u.beds.get? b = some x ∧ x.refuses true = 0 ∧
      (x.index.any (fun e => e.nsid = nsid && u.objHeld e)) = false) ∧
    (∃ (cap : Cap) (nsid : Nat) (arr : Nat) (b : Nat) (c : Nat) (d : DataPtr) (a : Assoc) (y : Assoc) (n : Namespace) (x : Bed) (s : State) (u : State),
      s.takeAdmin cap 0x15 false = .go u arr a ∧ u.dptrBad cap d 4096 = 0 ∧ u.ownNs a nsid = some (b, n) ∧
      u.beds.get? b = some x ∧ x.st ≠ 3 ∧ u.cmd.assocs.get? c = some y ∧ y.ended = false ∧ y.bed = some b ∧
      u.tenantId y.tenant = n.tenant) :=
  ⟨⟨capA, true, 16, aN ((host).takeAdmin (capA) 0x0D true), 0, 3, (.none : Option Nat), (.none : Option Bool),
     (.keyed 0 0 4096 : DataPtr), aA ((host).takeAdmin (capA) 0x0D true) as0, bd0, host, aU ((host).takeAdmin (capA) 0x0D true),
     ((((aU ((host).takeAdmin (capA) 0x0D true)).putEpochs (3) (((aU ((host).takeAdmin (capA) 0x0D true)).epochsOf (3)).2 + 1) (((aU ((host).takeAdmin (capA) 0x0D true)).epochsOf (3)).2 + 1)).commitData { (aU ((host).takeAdmin (capA) 0x0D true)).cfg.data with ns := (aU ((host).takeAdmin (capA) 0x0D true)).cfg.data.ns.put (3) (.mk (true) (0) ((aU ((host).takeAdmin (capA) 0x0D true)).tenantId (aA ((host).takeAdmin (capA) 0x0D true) as0).tenant) ((.none : Option Nat).getD 262144) ((.none : Option Bool).getD true) (if (true) then 0 else (16)) (((aU ((host).takeAdmin (capA) 0x0D true)).epochsOf (3)).2 + 1) []) }).get (by decide)),
     go_of _ as0 (by decide), by decide, by decide, by decide, by decide, by decide, by decide, by decide, get_of _ _⟩,
   ⟨capA, 1, aN ((host).takeAdmin (capA) 0x0D true), 0, aA ((host).takeAdmin (capA) 0x0D true) as0, ns1, bd0, host,
     aU ((host).takeAdmin (capA) 0x0D true), go_of _ as0 (by decide), by decide, by decide, by decide, by decide⟩,
   ⟨capA, 1, aN ((host).takeAdmin (capA) 0x15 false), 0, 1, (.keyed 0 0 4096 : DataPtr),
     aA ((host).takeAdmin (capA) 0x15 false) as0, as0, ns1, bd0, host, aU ((host).takeAdmin (capA) 0x15 false),
     go_of _ as0 (by decide), by decide, by decide, by decide, by decide, by decide, by decide, by decide, by decide⟩⟩

theorem wit_SelfTestsAndQueueCommandsTakeEffect :
    (∃ (cap : Cap) (nsid : Nat) (arr : Nat) (h : Nat) (c : Nat) (a : Assoc) (s : State) (u : State) (v : State),
      s.takeAdmin cap 0x14 false = .go u arr a ∧ (nsid = 0 ∨ nsid = 0xFFFFFFFF ∨ (u.ownNs a nsid).isSome = true) ∧
      u.cmd.selfTest = none ∧ u.arrivalOf c none nsid false none = (v, 0, h)) ∧
    (∃ (cap : Cap) (nsid : Nat) (arr : Nat) (h : Nat) (c : Nat) (a : Assoc) (s : State) (u : State) (v : State),
      s.takeAdmin cap 0x14 false = .go u arr a ∧ (nsid = 0 ∨ nsid = 0xFFFFFFFF ∨ (u.ownNs a nsid).isSome = true) ∧
      u.cmd.selfTest = none ∧ u.arrivalOf c none nsid false none = (v, 1, h)) ∧
    (∃ (cap : Cap) (nsid : Nat) (arr : Nat) (a : Assoc) (s : State) (u : State), s.takeAdmin cap 0x14 false = .go u arr a ∧
      (nsid = 0 ∨ nsid = 0xFFFFFFFF ∨ (u.ownNs a nsid).isSome = true) ∧ u.cmd.selfTest.isSome = true) ∧
    (∃ (cap : Cap) (arr : Nat) (a : Assoc) (s : State) (u : State), s.takeAdmin cap 0x14 false = .go u arr a) ∧
    (∃ (w : Nat) (p : Option Nat) (y : SelfTest) (z : SelfTest) (s : State) (u : State), s.cmd.selfTest = some y ∧
      y.nextAt = some w ∧ y.pausedAt = none ∧ u = (s.at w).applyFld F.CMD_CFG_DST_GAP ∧
      z = { y with todo := y.todo.filter (fun k => (u.testUnits { y with kind := 2 }).contains k) } ∧ u.testPick z = p ∧
      (z.todo = [] ∨ p.isSome = true) ∧ y.step ≤ y.steps) ∧
    (∃ (w : Nat) (y : SelfTest) (z : SelfTest) (s : State) (u : State), s.cmd.selfTest = some y ∧ y.nextAt = some w ∧
      y.pausedAt = none ∧ u = (s.at w).applyFld F.CMD_CFG_DST_GAP ∧
      z = { y with todo := y.todo.filter (fun k => (u.testUnits { y with kind := 2 }).contains k) } ∧ u.testPick z = none ∧
      z.todo ≠ []) ∧
    (∃ (p : Nat) (y : SelfTest) (s : State), s.cmd.selfTest = some y ∧ y.pausedAt = some p) ∧
    (∃ (cap : Cap) (qid : Nat) (size : Nat) (cqid : Nat) (arr : Nat) (a : Assoc) (s : State) (u : State),
      s.takeAdmin cap 0x01 false = .go u arr a ∧ a.fn0 = true ∧ qid ≠ 0 ∧ qid ≤ 63 ∧
      u.cmd.queues.has (qkey cap.assoc qid) = false ∧ size ≠ 0 ∧ size ≤ 1024 ∧ cqid ≠ 0 ∧ u.ept.cqs.has cqid = true ∧
      u.cmd.queues.size < u.half 4096 ∧ sumN (u.cmd.queues.vals.map (·.size)) + size ≤ u.half 262144) ∧
    (∃ (cap : Cap) (qid : Nat) (arr : Nat) (a : Assoc) (s : State) (u : State), s.takeAdmin cap 0x00 false = .go u arr a ∧
      a.fn0 = true ∧ qid ≠ 0 ∧ u.cmd.queues.has (qkey cap.assoc qid) = true) ∧
    (∃ (cap : Cap) (qid : Nat) (size : Nat) (arr : Nat) (a : Assoc) (s : State) (u : State),
      s.takeAdmin cap 0x05 false = .go u arr a ∧ a.fn0 = true ∧ qid ≠ 0 ∧ qid ≤ 63 ∧ u.ept.cqs.has qid = false ∧ size ≠ 0 ∧
      size ≤ 1024) ∧
    (∃ (cap : Cap) (qid : Nat) (arr : Nat) (a : Assoc) (s : State) (u : State), s.takeAdmin cap 0x04 false = .go u arr a ∧
      a.fn0 = true ∧ qid ≠ 0 ∧ u.ept.cqs.has qid = true ∧
      (u.cmd.queues.vals.any (fun q => q.assoc = cap.assoc && q.cqid = qid && q.qid ≠ 0)) = false) :=
  ⟨⟨capA, 0, aN ((host).takeAdmin (capA) 0x14 false),
     ((aU ((host).takeAdmin (capA) 0x14 false)).arrivalOf (1) none (0) false none).2.2, 1,
     aA ((host).takeAdmin (capA) 0x14 false) as0, host, aU ((host).takeAdmin (capA) 0x14 false),
     ((aU ((host).takeAdmin (capA) 0x14 false)).arrivalOf (1) none (0) false none).1, go_of _ as0 (by decide), by decide,
     by decide, pair0_of _ (by decide)⟩,
   ⟨capA, 0,
     (aN (({ host with mnt := { host.mnt with acts := [⟨3, some 0, 0, 1, false, 0, none, 0⟩] } } : State).takeAdmin (capA) 0x14 false)),
     (((aU (({ host with mnt := { host.mnt with acts := [⟨3, some 0, 0, 1, false, 0, none, 0⟩] } } : State).takeAdmin (capA) 0x14 false)).arrivalOf (2) none (0) false none).2.2),
     2,
     (aA (({ host with mnt := { host.mnt with acts := [⟨3, some 0, 0, 1, false, 0, none, 0⟩] } } : State).takeAdmin (capA) 0x14 false) as0),
     ({ host with mnt := { host.mnt with acts := [⟨3, some 0, 0, 1, false, 0, none, 0⟩] } } : State),
     (aU (({ host with mnt := { host.mnt with acts := [⟨3, some 0, 0, 1, false, 0, none, 0⟩] } } : State).takeAdmin (capA) 0x14 false)),
     (((aU (({ host with mnt := { host.mnt with acts := [⟨3, some 0, 0, 1, false, 0, none, 0⟩] } } : State).takeAdmin (capA) 0x14 false)).arrivalOf (2) none (0) false none).1),
     go_of _ as0 (by decide), by decide, by decide, pair1_of _ (by decide)⟩,
   ⟨capA, 0,
     (aN (({ host with cmd := { host.cmd with selfTest := some ⟨1, 0, 0, 0, some 1, none, 0, 0, 0, [], none, 0, none⟩ } } : State).takeAdmin (capA) 0x14 false)),
     (aA (({ host with cmd := { host.cmd with selfTest := some ⟨1, 0, 0, 0, some 1, none, 0, 0, 0, [], none, 0, none⟩ } } : State).takeAdmin (capA) 0x14 false) as0),
     ({ host with cmd := { host.cmd with selfTest := some ⟨1, 0, 0, 0, some 1, none, 0, 0, 0, [], none, 0, none⟩ } } : State),
     (aU (({ host with cmd := { host.cmd with selfTest := some ⟨1, 0, 0, 0, some 1, none, 0, 0, 0, [], none, 0, none⟩ } } : State).takeAdmin (capA) 0x14 false)),
     go_of _ as0 (by decide), by decide, by decide⟩,
   ⟨capA, aN ((host).takeAdmin (capA) 0x14 false), aA ((host).takeAdmin (capA) 0x14 false) as0, host,
     aU ((host).takeAdmin (capA) 0x14 false), go_of _ as0 (by decide)⟩,
   ⟨1, (.none : Option Nat), (⟨1, 0, 0, 0, some 1, none, 0, 0, 0, [], none, 0, none⟩ : SelfTest),
     ({ (⟨1, 0, 0, 0, some 1, none, 0, 0, 0, [], none, 0, none⟩ : SelfTest) with todo := (⟨1, 0, 0, 0, some 1, none, 0, 0, 0, [], none, 0, none⟩ : SelfTest).todo.filter (fun k => (((({ host with cmd := { host.cmd with selfTest := some ⟨1, 0, 0, 0, some 1, none, 0, 0, 0, [], none, 0, none⟩ } } : State).at (1)).applyFld F.CMD_CFG_DST_GAP).testUnits { (⟨1, 0, 0, 0, some 1, none, 0, 0, 0, [], none, 0, none⟩ : SelfTest) with kind := 2 }).contains k) }),
     ({ host with cmd := { host.cmd with selfTest := some ⟨1, 0, 0, 0, some 1, none, 0, 0, 0, [], none, 0, none⟩ } } : State),
     ((({ host with cmd := { host.cmd with selfTest := some ⟨1, 0, 0, 0, some 1, none, 0, 0, 0, [], none, 0, none⟩ } } : State).at (1)).applyFld F.CMD_CFG_DST_GAP),
     by decide, by decide, by decide, rfl, rfl, by decide, by decide, by decide⟩,
   ⟨1, (⟨1, 0, 2, 0, some 1, none, 0, 0, 0, [0x800], none, 0, none⟩ : SelfTest),
     ({ (⟨1, 0, 2, 0, some 1, none, 0, 0, 0, [0x800], none, 0, none⟩ : SelfTest) with todo := (⟨1, 0, 2, 0, some 1, none, 0, 0, 0, [0x800], none, 0, none⟩ : SelfTest).todo.filter (fun k => (((({ host with pwr := { host.pwr with on := 2 ^ 62 - 1 }, rill := { RillSt.init with running := ⟨[(0, rj)]⟩ }, cmd := { host.cmd with selfTest := some ⟨1, 0, 2, 0, some 1, none, 0, 0, 0, [0x800], none, 0, none⟩ } } : State).at (1)).applyFld F.CMD_CFG_DST_GAP).testUnits { (⟨1, 0, 2, 0, some 1, none, 0, 0, 0, [0x800], none, 0, none⟩ : SelfTest) with kind := 2 }).contains k) }),
     ({ host with pwr := { host.pwr with on := 2 ^ 62 - 1 }, rill := { RillSt.init with running := ⟨[(0, rj)]⟩ }, cmd := { host.cmd with selfTest := some ⟨1, 0, 2, 0, some 1, none, 0, 0, 0, [0x800], none, 0, none⟩ } } : State),
     ((({ host with pwr := { host.pwr with on := 2 ^ 62 - 1 }, rill := { RillSt.init with running := ⟨[(0, rj)]⟩ }, cmd := { host.cmd with selfTest := some ⟨1, 0, 2, 0, some 1, none, 0, 0, 0, [0x800], none, 0, none⟩ } } : State).at (1)).applyFld F.CMD_CFG_DST_GAP),
     by decide, by decide, by decide, rfl, rfl, by decide, by decide⟩,
   ⟨1, (⟨2, 0, 0, 0, none, some 1, 0, 0, 0, [], none, 0, none⟩ : SelfTest),
     ({ host with cmd := { host.cmd with selfTest := some ⟨2, 0, 0, 0, none, some 1, 0, 0, 0, [], none, 0, none⟩ } } : State),
     by decide, by decide⟩,
   ⟨capA, 63, 1024, 1, aN ((hostAs { as0 with fn0 := true }).takeAdmin (capA) 0x01 false),
     aA ((hostAs { as0 with fn0 := true }).takeAdmin (capA) 0x01 false) as0, hostAs { as0 with fn0 := true },
     aU ((hostAs { as0 with fn0 := true }).takeAdmin (capA) 0x01 false), go_of _ as0 (by decide), by decide, by decide, by decide,
     by decide, by decide, by decide, by decide, by decide, by decide, by decide⟩,
   ⟨capA, 1, aN ((hostAs { as0 with fn0 := true }).takeAdmin (capA) 0x00 false),
     aA ((hostAs { as0 with fn0 := true }).takeAdmin (capA) 0x00 false) as0, hostAs { as0 with fn0 := true },
     aU ((hostAs { as0 with fn0 := true }).takeAdmin (capA) 0x00 false), go_of _ as0 (by decide), by decide, by decide, by decide⟩,
   ⟨capA, 63, 1024, aN ((hostAs { as0 with fn0 := true }).takeAdmin (capA) 0x05 false),
     aA ((hostAs { as0 with fn0 := true }).takeAdmin (capA) 0x05 false) as0, hostAs { as0 with fn0 := true },
     aU ((hostAs { as0 with fn0 := true }).takeAdmin (capA) 0x05 false), go_of _ as0 (by decide), by decide, by decide, by decide,
     by decide, by decide, by decide⟩,
   ⟨capA, 1,
     (aN (({ hostAs { as0 with fn0 := true } with cmd := { (hostAs { as0 with fn0 := true }).cmd with queues := ⟨[(65536, ⟨1, 0, 32, 0⟩)]⟩ } } : State).takeAdmin (capA) 0x04 false)),
     (aA (({ hostAs { as0 with fn0 := true } with cmd := { (hostAs { as0 with fn0 := true }).cmd with queues := ⟨[(65536, ⟨1, 0, 32, 0⟩)]⟩ } } : State).takeAdmin (capA) 0x04 false) as0),
     ({ hostAs { as0 with fn0 := true } with cmd := { (hostAs { as0 with fn0 := true }).cmd with queues := ⟨[(65536, ⟨1, 0, 32, 0⟩)]⟩ } } : State),
     (aU (({ hostAs { as0 with fn0 := true } with cmd := { (hostAs { as0 with fn0 := true }).cmd with queues := ⟨[(65536, ⟨1, 0, 32, 0⟩)]⟩ } } : State).takeAdmin (capA) 0x04 false)),
     go_of _ as0 (by decide), by decide, by decide, by decide, by decide⟩⟩

theorem wit_BlockCommandsTakeEffect :
    (∃ (cap : Cap) (nsid : Nat) (arr : Nat) (b : Nat) (r : CmdRec) (n : Namespace) (x : Bed) (s : State),
      s.capFenced cap = false ∧ s.findCap cap = some (arr, r) ∧ s.cmd.cmds.get? arr = some r ∧ r.slot.isSome = true ∧
      r.phase ≠ .done ∧ s.coreStop = false ∧ s.shelf.st = .awake ∧ s.target cap nsid = some (b, n) ∧ s.beds.get? b = some x ∧
      x.st ≠ 3) ∧
    (∃ (cap : Cap) (nsid : Nat) (slba : Nat) (nlb : Nat) (arr : Nat) (b : Nat) (d : DataPtr) (data : Bytes) (all : Bytes) (media : List MediaRead) (r : CmdRec) (x : Bed) (n : Namespace) (cut : List Nat) (o0 : ReadOut) (o1 : ReadOut) (o : ReadOut) (recs : List (Nat × Nat)) (cs : List (Nat × Bytes)) (es : List (Nat × MapEntry)) (s : State) (u : State) (v : State) (w : State) (y : State) (z : State) (p : State),
      s.takeR media cap nsid (.write nsid slba nlb d) (firstBad (s.lbaBad nsid slba nlb) (s.dptrBad cap d (nlb * 4096))) = .go u arr b n ∧
      u.cmd.cmds.get? arr = some r ∧ u.beds.get? b = some x ∧ r.phase = .board ∧ r.work.mapDelta = [] ∧
      cut = (if slba % 16 ≠ 0 then [slba / 16] else []) ++ (if (slba + nlb) % 16 ≠ 0 then [(slba + nlb + 15) / 16 - 1] else []) ∧
      (cut = [] ∨ u.blocked arr = false ∧ u.unitShared arr cut = false) ∧ u.ingestTurn arr n.modeD = (v, true) ∧
      v.keyNow.isSome = true ∧ o0 = (if slba % 16 ≠ 0 then v.readUnit b x r.nsid n.tenant (slba / 16) media else ReadOut.init) ∧
      o1 = (if (slba + nlb) % 16 = 0 then ReadOut.init else if slba % 16 ≠ 0 ∧
      (slba + nlb + 15) / 16 - 1 = slba / 16 then o0 else v.readUnit b x r.nsid n.tenant ((slba + nlb + 15) / 16 - 1) media) ∧
      v.readTurn (v.queueOf arr) { o0.join o1 with data := [] } = (w, o) ∧ o.waiting = false ∧ o.status = 0 ∧
      y = State.wakeFill ((((w.afterRead b (r.serial.getD 0) (w.jobBy arr 2) o).noteRead arr o)).fromHost cap d (nlb * 4096)) b ∧
      all = (if slba % 16 ≠ 0 then o0.data.take (slba % 16 * 4096) else []) ++ y.fetched d (nlb * 4096) data ++ (if (slba + nlb) % 16 ≠ 0 then o1.data.drop ((slba + nlb) % 16 * 4096) else []) ∧
      recs = recordUnits (max 1 (n.chunk / 65536)) ((slba + nlb + 15) / 16 - slba / 16 + 1) (slba / 16) ((slba + nlb + 15) / 16) ∧
      State.ingestAll arr b n (recs.map (fun q => (q.1, slice all ((q.1 - slba / 16) * 65536) (q.2 * 65536)))) (y.fixFill b) = (z,
      some cs) ∧ putUnits b arr ((recs.zip cs).map (fun q => (q.1.1, q.1.2, q.2))) z [] = some (p, es)) ∧
    (∃ (cap : Cap) (nsid : Nat) (slba : Nat) (nlb : Nat) (arr : Nat) (b : Nat) (d : DataPtr) (media : List MediaRead) (r : CmdRec) (x : Bed) (n : Namespace) (o : ReadOut) (s : State) (u : State) (v : State),
      s.takeR media cap nsid (.read nsid slba nlb d) (firstBad (s.lbaBad nsid slba nlb) (s.dptrBad cap d (nlb * 4096))) = .go u arr b n ∧
      u.cmd.cmds.get? arr = some r ∧ u.beds.get? b = some x ∧ u.blocked arr = false ∧
      u.readTurn (u.queueOf arr) (u.readUnits b x r.nsid n.tenant media (slba / 16) ((slba + nlb + 15) / 16 - slba / 16)) = (v,
      o) ∧ o.held = false ∧ o.waits = [] ∧ o.status = 0) ∧
    (∃ (cap : Cap) (nsid : Nat) (slba : Nat) (nlb : Nat) (arr : Nat) (b : Nat) (media : List MediaRead) (r : CmdRec) (x : Bed) (n : Namespace) (o : ReadOut) (s : State) (u : State) (v : State),
      s.takeR media cap nsid (.verify nsid slba nlb) (s.lbaBad nsid slba nlb) = .go u arr b n ∧ u.cmd.cmds.get? arr = some r ∧
      u.beds.get? b = some x ∧ u.blocked arr = false ∧
      u.readTurn (u.queueOf arr) (u.readUnits b x r.nsid n.tenant media (slba / 16) ((slba + nlb + 15) / 16 - slba / 16)) = (v,
      o) ∧ o.held = false ∧ o.waits = [] ∧ o.status = 0) ∧
    (∃ (arr : Nat) (b : Nat) (rs : List (Nat × Nat)) (media : List MediaRead) (r : CmdRec) (x : Bed) (n : Namespace) (es : List (Nat × MapEntry)) (parts : List Nat) (o : ReadOut) (cs : List (Nat × Bytes)) (l : List (Nat × MapEntry)) (u : State) (v : State) (w : State) (y : State) (z : State),
      u.cmd.cmds.get? arr = some r ∧ u.beds.get? b = some x ∧ r.phase = .board ∧ r.work.mapToWrite = false ∧
      r.work.mapDelta = [] ∧ es = zeroUnits (rs.filter (fun q => q.2 ≠ 0)) ∧
      parts = ((((rs.filter (fun q => q.2 ≠ 0)).flatMap (fun r => (if r.1 % 16 ≠ 0 then [r.1 / 16] else []) ++ (if (r.1 + r.2) % 16 ≠ 0 then [(r.1 + r.2) / 16] else []))).eraseDups.filter (fun k => !es.any (fun e => e.1 = k))).filter (fun k => (x.map.getD r.nsid .empty).has k)) ∧
      (parts = [] ∧ v = u ∨ u.blocked arr = false ∧ u.unitShared arr parts = false ∧ u.ingestTurn arr n.modeD = (v, true) ∧
      v.keyNow.isSome = true ∧ parts ≠ []) ∧
      v.readTurn (v.queueOf arr) (parts.foldl (fun o k => o.join (v.readUnit b x r.nsid n.tenant k media)) ReadOut.init) = (w,
      o) ∧ o.waiting = false ∧ o.status = 0 ∧ State.ingestAll arr b n ((parts.zipIdx).map (fun p => (p.1,
      ((List.range 16).map (fun j => if (rs.filter (fun q => q.2 ≠ 0)).any (fun q => q.1 ≤ p.1 * 16 + j && p.1 * 16 + j < q.1 + q.2) then zeros 4096 else slice o.data (p.2 * 65536 + j * 4096) 4096)).flatten))) (State.fixFill ((w.afterRead b (r.serial.getD 0) (w.jobBy arr 2) o).noteRead arr o) b) = (y,
      some cs) ∧ putUnits b arr ((parts.zip cs).map (fun p => (p.1, 1, p.2))) y [] = some (z, l) ∧ es ++ l ≠ []) ∧
    (∃ (cap : Cap) (nsid : Nat) (arr : Nat) (b : Nat) (rs : List (Nat × Nat)) (d : DataPtr) (media : List MediaRead) (n : Namespace) (m : Namespace) (s : State) (u : State),
      s.cfg.data.ns.get? nsid = some m ∧ m.kv = false ∧ rs.length ≤ 256 ∧ (∀ q ∈ rs, q.1 + q.2 ≤ m.lbas) ∧
      s.takeR media cap nsid (.dsm nsid false rs) (s.dptrBad cap d (16 * rs.length)) = .go u arr b n) ∧
    (∃ (cap : Cap) (arr : Nat) (r : CmdRec) (s : State), s.capFenced cap = false ∧ s.shelf.st = .awake ∧ s.shelf.move = none ∧
      s.coreStop = false ∧ s.findCap cap = some (arr, r) ∧ s.cmd.cmds.get? arr = some r ∧ r.slot.isSome = true ∧
      r.phase ≠ .effect ∧ r.phase ≠ .done) ∧
    (∃ (arr : Nat) (b : Nat) (r : CmdRec) (x : Bed) (s : State), s.cmd.cmds.get? arr = some r ∧ s.bedOf r.cap = some b ∧
      s.beds.get? b = some x ∧ s.coreStop = false ∧ r.phase = .working ∧ r.work.commitIssued = true ∧ r.work.mapDelta ≠ [] ∧
      x.cmdWritten arr 3 = true ∧ s.blocked arr = false) ∧
    (∃ (arr : Nat) (b : Nat) (dl : Bool) (r : CmdRec) (x : Bed) (e : IndexEntry) (s : State), s.cmd.cmds.get? arr = some r ∧
      s.bedOf r.cap = some b ∧ s.coreStop = false ∧ s.beds.get? b = some x ∧ r.phase = .working ∧ r.work.commitIssued = true ∧
      r.work.idxPut = some e ∧ r.work.idxDel = dl ∧ x.cmdWritten arr 2 = true ∧ s.blocked arr = false) :=
  ⟨⟨capI, 1, 8, 0, ci, ns1, bd0, host, by decide, by decide, by decide, by decide, by decide, by decide, by decide, by decide,
     by decide, by decide⟩,
   ⟨capI, 1, 1008, 16, 8, 0, (.keyed 0 0 65536 : DataPtr), ([1] : Bytes), wAll, ([] : List MediaRead), wrc,
     ((tU wt).beds.get? (0)).get (by decide), ns1, ([] : List Nat), ReadOut.init, ReadOut.init, wr.2, ([(63,
     1)] : List (Nat × Nat)), ([(0, slice wAll 0 65536)] : List (Nat × Bytes)), (wp.get wp_some).2, keyed, tU wt, wv, wr.1, wy,
     wy.fixFill 0, (wp.get wp_some).1, iogo_of _ ns1 (by decide), get_of _ _, get_of _ _, by decide, by decide, rfl, by decide,
     pairT_of _ (by decide +kernel), by decide, rfl, rfl, rfl, by decide, by decide, rfl, rfl, by decide,
     ingest_plain _ _ _ _ _ _ rfl, get2_of wp wp_some⟩,
   ⟨capI, 1, 1008, 16,
     (tN ((host).takeR ([] : List MediaRead) (capI) (1) (.read (1) (1008) (16) (.keyed 0 0 65536 : DataPtr)) (firstBad ((host).lbaBad (1) (1008) (16)) ((host).dptrBad (capI) (.keyed 0 0 65536 : DataPtr) ((16) * 4096))))),
     (tB ((host).takeR ([] : List MediaRead) (capI) (1) (.read (1) (1008) (16) (.keyed 0 0 65536 : DataPtr)) (firstBad ((host).lbaBad (1) (1008) (16)) ((host).dptrBad (capI) (.keyed 0 0 65536 : DataPtr) ((16) * 4096))))),
     (.keyed 0 0 65536 : DataPtr), ([] : List MediaRead),
     (((tU ((host).takeR ([] : List MediaRead) (capI) (1) (.read (1) (1008) (16) (.keyed 0 0 65536 : DataPtr)) (firstBad ((host).lbaBad (1) (1008) (16)) ((host).dptrBad (capI) (.keyed 0 0 65536 : DataPtr) ((16) * 4096))))).cmd.cmds.get? (tN ((host).takeR ([] : List MediaRead) (capI) (1) (.read (1) (1008) (16) (.keyed 0 0 65536 : DataPtr)) (firstBad ((host).lbaBad (1) (1008) (16)) ((host).dptrBad (capI) (.keyed 0 0 65536 : DataPtr) ((16) * 4096)))))).get (by decide)),
     (((tU ((host).takeR ([] : List MediaRead) (capI) (1) (.read (1) (1008) (16) (.keyed 0 0 65536 : DataPtr)) (firstBad ((host).lbaBad (1) (1008) (16)) ((host).dptrBad (capI) (.keyed 0 0 65536 : DataPtr) ((16) * 4096))))).beds.get? (tB ((host).takeR ([] : List MediaRead) (capI) (1) (.read (1) (1008) (16) (.keyed 0 0 65536 : DataPtr)) (firstBad ((host).lbaBad (1) (1008) (16)) ((host).dptrBad (capI) (.keyed 0 0 65536 : DataPtr) ((16) * 4096)))))).get (by decide)),
     (tS ((host).takeR ([] : List MediaRead) (capI) (1) (.read (1) (1008) (16) (.keyed 0 0 65536 : DataPtr)) (firstBad ((host).lbaBad (1) (1008) (16)) ((host).dptrBad (capI) (.keyed 0 0 65536 : DataPtr) ((16) * 4096)))) ns1),
     (((tU ((host).takeR ([] : List MediaRead) (capI) (1) (.read (1) (1008) (16) (.keyed 0 0 65536 : DataPtr)) (firstBad ((host).lbaBad (1) (1008) (16)) ((host).dptrBad (capI) (.keyed 0 0 65536 : DataPtr) ((16) * 4096))))).readTurn ((tU ((host).takeR ([] : List MediaRead) (capI) (1) (.read (1) (1008) (16) (.keyed 0 0 65536 : DataPtr)) (firstBad ((host).lbaBad (1) (1008) (16)) ((host).dptrBad (capI) (.keyed 0 0 65536 : DataPtr) ((16) * 4096))))).queueOf (tN ((host).takeR ([] : List MediaRead) (capI) (1) (.read (1) (1008) (16) (.keyed 0 0 65536 : DataPtr)) (firstBad ((host).lbaBad (1) (1008) (16)) ((host).dptrBad (capI) (.keyed 0 0 65536 : DataPtr) ((16) * 4096)))))) ((tU ((host).takeR ([] : List MediaRead) (capI) (1) (.read (1) (1008) (16) (.keyed 0 0 65536 : DataPtr)) (firstBad ((host).lbaBad (1) (1008) (16)) ((host).dptrBad (capI) (.keyed 0 0 65536 : DataPtr) ((16) * 4096))))).readUnits (tB ((host).takeR ([] : List MediaRead) (capI) (1) (.read (1) (1008) (16) (.keyed 0 0 65536 : DataPtr)) (firstBad ((host).lbaBad (1) (1008) (16)) ((host).dptrBad (capI) (.keyed 0 0 65536 : DataPtr) ((16) * 4096))))) (((tU ((host).takeR ([] : List MediaRead) (capI) (1) (.read (1) (1008) (16) (.keyed 0 0 65536 : DataPtr)) (firstBad ((host).lbaBad (1) (1008) (16)) ((host).dptrBad (capI) (.keyed 0 0 65536 : DataPtr) ((16) * 4096))))).beds.get? (tB ((host).takeR ([] : List MediaRead) (capI) (1) (.read (1) (1008) (16) (.keyed 0 0 65536 : DataPtr)) (firstBad ((host).lbaBad (1) (1008) (16)) ((host).dptrBad (capI) (.keyed 0 0 65536 : DataPtr) ((16) * 4096)))))).get (by decide)) (((tU ((host).takeR ([] : List MediaRead) (capI) (1) (.read (1) (1008) (16) (.keyed 0 0 65536 : DataPtr)) (firstBad ((host).lbaBad (1) (1008) (16)) ((host).dptrBad (capI) (.keyed 0 0 65536 : DataPtr) ((16) * 4096))))).cmd.cmds.get? (tN ((host).takeR ([] : List MediaRead) (capI) (1) (.read (1) (1008) (16) (.keyed 0 0 65536 : DataPtr)) (firstBad ((host).lbaBad (1) (1008) (16)) ((host).dptrBad (capI) (.keyed 0 0 65536 : DataPtr) ((16) * 4096)))))).get (by decide)).nsid (tS ((host).takeR ([] : List MediaRead) (capI) (1) (.read (1) (1008) (16) (.keyed 0 0 65536 : DataPtr)) (firstBad ((host).lbaBad (1) (1008) (16)) ((host).dptrBad (capI) (.keyed 0 0 65536 : DataPtr) ((16) * 4096)))) ns1).tenant ([] : List MediaRead) ((1008) / 16) (((1008) + (16) + 15) / 16 - (1008) / 16))).2),
     host,
     (tU ((host).takeR ([] : List MediaRead) (capI) (1) (.read (1) (1008) (16) (.keyed 0 0 65536 : DataPtr)) (firstBad ((host).lbaBad (1) (1008) (16)) ((host).dptrBad (capI) (.keyed 0 0 65536 : DataPtr) ((16) * 4096))))),
     (((tU ((host).takeR ([] : List MediaRead) (capI) (1) (.read (1) (1008) (16) (.keyed 0 0 65536 : DataPtr)) (firstBad ((host).lbaBad (1) (1008) (16)) ((host).dptrBad (capI) (.keyed 0 0 65536 : DataPtr) ((16) * 4096))))).readTurn ((tU ((host).takeR ([] : List MediaRead) (capI) (1) (.read (1) (1008) (16) (.keyed 0 0 65536 : DataPtr)) (firstBad ((host).lbaBad (1) (1008) (16)) ((host).dptrBad (capI) (.keyed 0 0 65536 : DataPtr) ((16) * 4096))))).queueOf (tN ((host).takeR ([] : List MediaRead) (capI) (1) (.read (1) (1008) (16) (.keyed 0 0 65536 : DataPtr)) (firstBad ((host).lbaBad (1) (1008) (16)) ((host).dptrBad (capI) (.keyed 0 0 65536 : DataPtr) ((16) * 4096)))))) ((tU ((host).takeR ([] : List MediaRead) (capI) (1) (.read (1) (1008) (16) (.keyed 0 0 65536 : DataPtr)) (firstBad ((host).lbaBad (1) (1008) (16)) ((host).dptrBad (capI) (.keyed 0 0 65536 : DataPtr) ((16) * 4096))))).readUnits (tB ((host).takeR ([] : List MediaRead) (capI) (1) (.read (1) (1008) (16) (.keyed 0 0 65536 : DataPtr)) (firstBad ((host).lbaBad (1) (1008) (16)) ((host).dptrBad (capI) (.keyed 0 0 65536 : DataPtr) ((16) * 4096))))) (((tU ((host).takeR ([] : List MediaRead) (capI) (1) (.read (1) (1008) (16) (.keyed 0 0 65536 : DataPtr)) (firstBad ((host).lbaBad (1) (1008) (16)) ((host).dptrBad (capI) (.keyed 0 0 65536 : DataPtr) ((16) * 4096))))).beds.get? (tB ((host).takeR ([] : List MediaRead) (capI) (1) (.read (1) (1008) (16) (.keyed 0 0 65536 : DataPtr)) (firstBad ((host).lbaBad (1) (1008) (16)) ((host).dptrBad (capI) (.keyed 0 0 65536 : DataPtr) ((16) * 4096)))))).get (by decide)) (((tU ((host).takeR ([] : List MediaRead) (capI) (1) (.read (1) (1008) (16) (.keyed 0 0 65536 : DataPtr)) (firstBad ((host).lbaBad (1) (1008) (16)) ((host).dptrBad (capI) (.keyed 0 0 65536 : DataPtr) ((16) * 4096))))).cmd.cmds.get? (tN ((host).takeR ([] : List MediaRead) (capI) (1) (.read (1) (1008) (16) (.keyed 0 0 65536 : DataPtr)) (firstBad ((host).lbaBad (1) (1008) (16)) ((host).dptrBad (capI) (.keyed 0 0 65536 : DataPtr) ((16) * 4096)))))).get (by decide)).nsid (tS ((host).takeR ([] : List MediaRead) (capI) (1) (.read (1) (1008) (16) (.keyed 0 0 65536 : DataPtr)) (firstBad ((host).lbaBad (1) (1008) (16)) ((host).dptrBad (capI) (.keyed 0 0 65536 : DataPtr) ((16) * 4096)))) ns1).tenant ([] : List MediaRead) ((1008) / 16) (((1008) + (16) + 15) / 16 - (1008) / 16))).1),
     iogo_of _ ns1 (by decide), get_of _ _, get_of _ _, by decide, pairE_of _, by decide, by decide, by decide⟩,
   ⟨capI, 1, 1008, 16,
     (tN ((host).takeR ([] : List MediaRead) (capI) (1) (.verify (1) (1008) (16)) ((host).lbaBad (1) (1008) (16)))),
     (tB ((host).takeR ([] : List MediaRead) (capI) (1) (.verify (1) (1008) (16)) ((host).lbaBad (1) (1008) (16)))),
     ([] : List MediaRead),
     (((tU ((host).takeR ([] : List MediaRead) (capI) (1) (.verify (1) (1008) (16)) ((host).lbaBad (1) (1008) (16)))).cmd.cmds.get? (tN ((host).takeR ([] : List MediaRead) (capI) (1) (.verify (1) (1008) (16)) ((host).lbaBad (1) (1008) (16))))).get (by decide)),
     (((tU ((host).takeR ([] : List MediaRead) (capI) (1) (.verify (1) (1008) (16)) ((host).lbaBad (1) (1008) (16)))).beds.get? (tB ((host).takeR ([] : List MediaRead) (capI) (1) (.verify (1) (1008) (16)) ((host).lbaBad (1) (1008) (16))))).get (by decide)),
     (tS ((host).takeR ([] : List MediaRead) (capI) (1) (.verify (1) (1008) (16)) ((host).lbaBad (1) (1008) (16))) ns1),
     (((tU ((host).takeR ([] : List MediaRead) (capI) (1) (.verify (1) (1008) (16)) ((host).lbaBad (1) (1008) (16)))).readTurn ((tU ((host).takeR ([] : List MediaRead) (capI) (1) (.verify (1) (1008) (16)) ((host).lbaBad (1) (1008) (16)))).queueOf (tN ((host).takeR ([] : List MediaRead) (capI) (1) (.verify (1) (1008) (16)) ((host).lbaBad (1) (1008) (16))))) ((tU ((host).takeR ([] : List MediaRead) (capI) (1) (.verify (1) (1008) (16)) ((host).lbaBad (1) (1008) (16)))).readUnits (tB ((host).takeR ([] : List MediaRead) (capI) (1) (.verify (1) (1008) (16)) ((host).lbaBad (1) (1008) (16)))) (((tU ((host).takeR ([] : List MediaRead) (capI) (1) (.verify (1) (1008) (16)) ((host).lbaBad (1) (1008) (16)))).beds.get? (tB ((host).takeR ([] : List MediaRead) (capI) (1) (.verify (1) (1008) (16)) ((host).lbaBad (1) (1008) (16))))).get (by decide)) (((tU ((host).takeR ([] : List MediaRead) (capI) (1) (.verify (1) (1008) (16)) ((host).lbaBad (1) (1008) (16)))).cmd.cmds.get? (tN ((host).takeR ([] : List MediaRead) (capI) (1) (.verify (1) (1008) (16)) ((host).lbaBad (1) (1008) (16))))).get (by decide)).nsid (tS ((host).takeR ([] : List MediaRead) (capI) (1) (.verify (1) (1008) (16)) ((host).lbaBad (1) (1008) (16))) ns1).tenant ([] : List MediaRead) ((1008) / 16) (((1008) + (16) + 15) / 16 - (1008) / 16))).2),
     host, (tU ((host).takeR ([] : List MediaRead) (capI) (1) (.verify (1) (1008) (16)) ((host).lbaBad (1) (1008) (16)))),
     (((tU ((host).takeR ([] : List MediaRead) (capI) (1) (.verify (1) (1008) (16)) ((host).lbaBad (1) (1008) (16)))).readTurn ((tU ((host).takeR ([] : List MediaRead) (capI) (1) (.verify (1) (1008) (16)) ((host).lbaBad (1) (1008) (16)))).queueOf (tN ((host).takeR ([] : List MediaRead) (capI) (1) (.verify (1) (1008) (16)) ((host).lbaBad (1) (1008) (16))))) ((tU ((host).takeR ([] : List MediaRead) (capI) (1) (.verify (1) (1008) (16)) ((host).lbaBad (1) (1008) (16)))).readUnits (tB ((host).takeR ([] : List MediaRead) (capI) (1) (.verify (1) (1008) (16)) ((host).lbaBad (1) (1008) (16)))) (((tU ((host).takeR ([] : List MediaRead) (capI) (1) (.verify (1) (1008) (16)) ((host).lbaBad (1) (1008) (16)))).beds.get? (tB ((host).takeR ([] : List MediaRead) (capI) (1) (.verify (1) (1008) (16)) ((host).lbaBad (1) (1008) (16))))).get (by decide)) (((tU ((host).takeR ([] : List MediaRead) (capI) (1) (.verify (1) (1008) (16)) ((host).lbaBad (1) (1008) (16)))).cmd.cmds.get? (tN ((host).takeR ([] : List MediaRead) (capI) (1) (.verify (1) (1008) (16)) ((host).lbaBad (1) (1008) (16))))).get (by decide)).nsid (tS ((host).takeR ([] : List MediaRead) (capI) (1) (.verify (1) (1008) (16)) ((host).lbaBad (1) (1008) (16))) ns1).tenant ([] : List MediaRead) ((1008) / 16) (((1008) + (16) + 15) / 16 - (1008) / 16))).1),
     iogo_of _ ns1 (by decide), get_of _ _, get_of _ _, by decide, pairE_of _, by decide, by decide, by decide⟩,
   ⟨8, 0, ([(1008, 16)] : List (Nat × Nat)), ([] : List MediaRead), wzc, ((tU wz).beds.get? (0)).get (by decide), ns1,
     (zeroUnits (([(1008, 16)] : List (Nat × Nat)).filter (fun q => q.2 ≠ 0))), ([] : List Nat), wzr.2, ([] : List (Nat × Bytes)),
     ([] : List (Nat × MapEntry)), tU wz, tU wz, wzr.1, wzy, wzy, get_of _ _, get_of _ _, by decide, by decide, by decide, rfl,
     by decide, .inl ⟨rfl, rfl⟩, rfl, by decide, by decide, rfl, rfl, by decide⟩,
   ⟨capI, 1, (tN ((host).takeR ([] : List MediaRead) (capI) (1) (.dsm (1) false ([(1008,
     16)] : List (Nat × Nat))) ((host).dptrBad (capI) (.keyed 0 0 16 : DataPtr) (16 * ([(1008,
     16)] : List (Nat × Nat)).length)))), (tB ((host).takeR ([] : List MediaRead) (capI) (1) (.dsm (1) false ([(1008,
     16)] : List (Nat × Nat))) ((host).dptrBad (capI) (.keyed 0 0 16 : DataPtr) (16 * ([(1008,
     16)] : List (Nat × Nat)).length)))), ([(1008, 16)] : List (Nat × Nat)), (.keyed 0 0 16 : DataPtr), ([] : List MediaRead),
     (tS ((host).takeR ([] : List MediaRead) (capI) (1) (.dsm (1) false ([(1008,
     16)] : List (Nat × Nat))) ((host).dptrBad (capI) (.keyed 0 0 16 : DataPtr) (16 * ([(1008,
     16)] : List (Nat × Nat)).length))) ns1), ns1, host,
     (tU ((host).takeR ([] : List MediaRead) (capI) (1) (.dsm (1) false ([(1008,
     16)] : List (Nat × Nat))) ((host).dptrBad (capI) (.keyed 0 0 16 : DataPtr) (16 * ([(1008,
     16)] : List (Nat × Nat)).length)))), by decide, by decide, by decide, by decide, iogo_of _ ns1 (by decide)⟩,
   ⟨capI, 8, ci, host, by decide, by decide, by decide, by decide, by decide, by decide, by decide, by decide, by decide⟩,
   ⟨8, 0, cw, bd0, ({ host with cmd := { host.cmd with cmds := ⟨[(8, cw)]⟩ } } : State), by decide, by decide, by decide,
     by decide, by decide, by decide, by decide, by decide, by decide⟩,
   ⟨8, 0, false, cw, bd0, ie, ({ host with cmd := { host.cmd with cmds := ⟨[(8, cw)]⟩ } } : State), by decide, by decide,
     by decide, by decide, by decide, by decide, by decide, by decide, by decide, by decide⟩⟩

theorem wit_KeyValueCommandsTakeEffect :
    (∃ (cap : Cap) (nsid : Nat) (size : Nat) (arr : Nat) (b : Nat) (key : KvKey) (me : Bool) (mn : Bool) (d : DataPtr) (data : Bytes) (media : List MediaRead) (r : CmdRec) (x : Bed) (n : Namespace) (cs : List (Nat × Nat × Bytes × Bool)) (s : State) (u : State) (v : State) (w : State) (y : State),
      s.takeR media cap nsid (.store nsid key size me mn d) (firstBad (s.kvBad nsid key false) (firstBad (if me && mn then Status.invalidField else 0) (if size = 0 then 0 else s.dptrBad cap d size))) = .go u arr b n ∧
      u.cmd.cmds.get? arr = some r ∧ u.beds.get? b = some x ∧ r.phase = .board ∧ r.work.commitToWrite = false ∧
      r.work.commitIssued = false ∧ u.ingestTurn arr (n.modeD && decide (0 < size)) = (v, true) ∧ v.keyNow.isSome = true ∧
      v.indexLook arr b x nsid (kvBytes key) media = (w, some 0) ∧
      (w.fromHost cap d size).chunksOf arr b n (r.serial.getD 0) ((w.fromHost cap d size).fetched d size data) = (y, some cs)) ∧
    (∃ (cap : Cap) (nsid : Nat) (len : Nat) (arr : Nat) (b : Nat) (key : KvKey) (d : DataPtr) (media : List MediaRead) (x : Bed) (n : Namespace) (e : IndexEntry) (o : ReadOut) (s : State) (u : State) (v : State) (w : State),
      s.takeR media cap nsid (.retrieve nsid key len d) (firstBad (s.kvBad nsid key false) (if len = 0 then 0 else s.dptrBad cap d len)) = .go u arr b n ∧
      u.beds.get? b = some x ∧ u.blocked arr = false ∧ u.indexLook arr b x nsid (kvBytes key) media = (v, some 0) ∧
      idxFind x.index nsid (kvBytes key) = some e ∧ v.readTurn (v.queueOf arr) (v.readObject b x n.tenant e media) = (w, o) ∧
      o.waiting = false ∧ o.status = 0) ∧
    (∃ (cap : Cap) (nsid : Nat) (len : Nat) (arr : Nat) (b : Nat) (key : KvKey) (d : DataPtr) (media : List MediaRead) (x : Bed) (n : Namespace) (ks : List Bytes) (es : List Bytes) (s : State) (u : State) (v : State),
      4 ≤ len ∧
      s.takeR media cap nsid (.list nsid key len d) (firstBad (s.kvBad nsid key true) (firstBad 0 (s.dptrBad cap d len))) = .go u arr b n ∧
      u.beds.get? b = some x ∧ u.blocked arr = false ∧
      ks = ((x.index.filter (fun e => e.nsid = nsid)).map (·.key)).filter (fun k => !keyLt k (kvBytes key)) ∧
      es = listFit (len - 4) ks ∧ u.indexLooks arr b nsid (kvBytes key :: ks.take es.length) media = (v, some 0)) ∧
    (∃ (cap : Cap) (nsid : Nat) (arr : Nat) (b : Nat) (key : KvKey) (media : List MediaRead) (r : CmdRec) (x : Bed) (n : Namespace) (s : State) (u : State) (v : State),
      s.takeR media cap nsid (.delete nsid key) (s.kvBad nsid key false) = .go u arr b n ∧ u.cmd.cmds.get? arr = some r ∧
      u.beds.get? b = some x ∧ r.phase = .board ∧ r.work.commitToWrite = false ∧
      u.indexLook arr b x nsid (kvBytes key) media = (v, some 0) ∧ v.keyNow.isSome = true) ∧
    (∃ (cap : Cap) (nsid : Nat) (arr : Nat) (b : Nat) (key : KvKey) (media : List MediaRead) (x : Bed) (n : Namespace) (e : IndexEntry) (s : State) (u : State) (v : State),
      s.takeR media cap nsid (.exist nsid key) (s.kvBad nsid key false) = .go u arr b n ∧ u.beds.get? b = some x ∧
      u.blocked arr = false ∧ u.indexLook arr b x nsid (kvBytes key) media = (v, some 0) ∧
      idxFind x.index nsid (kvBytes key) = some e) ∧
    (∃ (cap : Cap) (nsid : Nat) (len : Nat) (arr : Nat) (b : Nat) (key : KvKey) (d : DataPtr) (media : List MediaRead) (x : Bed) (n : Namespace) (e : IndexEntry) (s : State) (u : State) (v : State),
      64 ≤ len ∧
      s.takeR media cap nsid (.objectInfo nsid key len d) (firstBad (s.kvBad nsid key false) (firstBad 0 (s.dptrBad cap d 64))) = .go u arr b n ∧
      u.beds.get? b = some x ∧ u.blocked arr = false ∧ u.indexLook arr b x nsid (kvBytes key) media = (v, some 0) ∧
      idxFind x.index nsid (kvBytes key) = some e) ∧
    (∃ (cap : Cap) (nsid : Nat) (arr : Nat) (b : Nat) (a : Nat) (t : Nat) (key : KvKey) (media : List MediaRead) (r : CmdRec) (x : Bed) (n : Namespace) (s : State) (u : State) (v : State),
      s.takeR media cap nsid (.hold nsid key a t) (firstBad (s.kvBad nsid key false) 0) = .go u arr b n ∧
      u.cmd.cmds.get? arr = some r ∧ u.beds.get? b = some x ∧ r.phase = .board ∧ r.work.commitToWrite = false ∧
      u.indexLook arr b x nsid (kvBytes key) media = (v, some 0) ∧ v.keyNow.isSome = true) ∧
    (∃ (cap : Cap) (nsid : Nat) (len : Nat) (orig : Nat) (arr : Nat) (b : Nat) (key : KvKey) (d : DataPtr) (data : Bytes) (media : List MediaRead) (r : CmdRec) (x : Bed) (n : Namespace) (es : List (Nat × Bytes)) (s : State) (u : State) (v : State) (w : State) (y : State),
      s.takeR media cap nsid (.importRecord nsid key len orig es.length d) (firstBad (s.kvBad nsid key false) (if len = 0 then 0 else s.dptrBad cap d len)) = .go u arr b n ∧
      u.cmd.cmds.get? arr = some r ∧ u.beds.get? b = some x ∧ r.phase = .board ∧ r.work.commitToWrite = false ∧
      r.work.commitIssued = false ∧ v = u.fromHost cap d len ∧
      importEntries ((v.fetched d len data).length + 1) (v.fetched d len data) = some es ∧ es ≠ [] ∧ es.length ≤ 65536 ∧
      sumN (es.map (·.1)) = orig ∧ (∀ e ∈ es, e.1 ≠ 0 ∧ e.1 ≤ 1048576) ∧ v.ingestTurn arr true = (w, true) ∧
      importBad es = false ∧ w.keyNow.isSome = true ∧ w.indexLook arr b x nsid (kvBytes key) media = (y, some 0)) :=
  ⟨⟨capI, 2, 3, 8, 0, key1, false, false, (.keyed 0 0 3 : DataPtr), ([1, 2, 3] : Bytes), ([] : List MediaRead), ktc, ktx, ns2,
     ([(0, 3, [1, 2, 3], true)] : List (Nat × Nat × Bytes × Bool)), kst, tU kt, ktv, looked ktv, kty, kt_go, get_of _ _,
     get_of _ _, by decide, by decide, by decide, ktv_turn, by decide, look_hit _ _ _ _ _ _ _ rfl, kty_chunks⟩,
   ⟨capI, 2, 3, 8, 0, key1, (.keyed 0 0 3 : DataPtr), ([rd1] : List MediaRead), bdV, ns2, ie, ro.2, kst, tU rt, looked (tU rt),
     ro.1, iogo_of _ ns1 (by decide), get_of _ _, by decide, look_hit _ _ _ _ _ _ _ rfl, rfl, pairE_of ro, ro_ok.1, ro_ok.2⟩,
   ⟨capI, 2, 4, 8,
     (tB ((kst).takeR ([] : List MediaRead) (capI) (2) (.list (2) (key1) (4) (.keyed 0 0 4 : DataPtr)) (firstBad ((kst).kvBad (2) (key1) true) (firstBad 0 ((kst).dptrBad (capI) (.keyed 0 0 4 : DataPtr) (4)))))),
     key1, (.keyed 0 0 4 : DataPtr), ([] : List MediaRead),
     (((tU ((kst).takeR ([] : List MediaRead) (capI) (2) (.list (2) (key1) (4) (.keyed 0 0 4 : DataPtr)) (firstBad ((kst).kvBad (2) (key1) true) (firstBad 0 ((kst).dptrBad (capI) (.keyed 0 0 4 : DataPtr) (4)))))).beds.get? (tB ((kst).takeR ([] : List MediaRead) (capI) (2) (.list (2) (key1) (4) (.keyed 0 0 4 : DataPtr)) (firstBad ((kst).kvBad (2) (key1) true) (firstBad 0 ((kst).dptrBad (capI) (.keyed 0 0 4 : DataPtr) (4))))))).get (by decide)),
     (tS ((kst).takeR ([] : List MediaRead) (capI) (2) (.list (2) (key1) (4) (.keyed 0 0 4 : DataPtr)) (firstBad ((kst).kvBad (2) (key1) true) (firstBad 0 ((kst).dptrBad (capI) (.keyed 0 0 4 : DataPtr) (4))))) ns1),
     ([[65]] : List Bytes), ([] : List Bytes), kst,
     (tU ((kst).takeR ([] : List MediaRead) (capI) (2) (.list (2) (key1) (4) (.keyed 0 0 4 : DataPtr)) (firstBad ((kst).kvBad (2) (key1) true) (firstBad 0 ((kst).dptrBad (capI) (.keyed 0 0 4 : DataPtr) (4)))))),
     looked (tU (kst.takeR [] capI 2 (.list 2 key1 4 (.keyed 0 0 4)) 0)), by decide, iogo_of _ ns1 (by decide), get_of _ _,
     by decide, by decide, by decide, looks_hit _ _ _ _ _ _ _ rfl rfl⟩,
   ⟨capI, 2, 8, (tB ((kst).takeR ([] : List MediaRead) (capI) (2) (.delete (2) (key1)) ((kst).kvBad (2) (key1) false))), key1,
     ([] : List MediaRead),
     (((tU ((kst).takeR ([] : List MediaRead) (capI) (2) (.delete (2) (key1)) ((kst).kvBad (2) (key1) false))).cmd.cmds.get? (8)).get (by decide)),
     (((tU ((kst).takeR ([] : List MediaRead) (capI) (2) (.delete (2) (key1)) ((kst).kvBad (2) (key1) false))).beds.get? (tB ((kst).takeR ([] : List MediaRead) (capI) (2) (.delete (2) (key1)) ((kst).kvBad (2) (key1) false)))).get (by decide)),
     (tS ((kst).takeR ([] : List MediaRead) (capI) (2) (.delete (2) (key1)) ((kst).kvBad (2) (key1) false)) ns1), kst,
     (tU ((kst).takeR ([] : List MediaRead) (capI) (2) (.delete (2) (key1)) ((kst).kvBad (2) (key1) false))),
     looked (tU (kst.takeR [] capI 2 (.delete 2 key1) 0)), iogo_of _ ns1 (by decide), get_of _ _, get_of _ _, by decide,
     by decide, look_hit _ _ _ _ _ _ _ rfl, by decide +kernel⟩,
   ⟨capI, 2, 8, (tB ((kst).takeR ([] : List MediaRead) (capI) (2) (.exist (2) (key1)) ((kst).kvBad (2) (key1) false))), key1,
     ([] : List MediaRead),
     (((tU ((kst).takeR ([] : List MediaRead) (capI) (2) (.exist (2) (key1)) ((kst).kvBad (2) (key1) false))).beds.get? (tB ((kst).takeR ([] : List MediaRead) (capI) (2) (.exist (2) (key1)) ((kst).kvBad (2) (key1) false)))).get (by decide)),
     (tS ((kst).takeR ([] : List MediaRead) (capI) (2) (.exist (2) (key1)) ((kst).kvBad (2) (key1) false)) ns1),
     ((idxFind (((tU ((kst).takeR ([] : List MediaRead) (capI) (2) (.exist (2) (key1)) ((kst).kvBad (2) (key1) false))).beds.get? (tB ((kst).takeR ([] : List MediaRead) (capI) (2) (.exist (2) (key1)) ((kst).kvBad (2) (key1) false)))).get (by decide)).index (2) (kvBytes (key1))).get (by decide)),
     kst, (tU ((kst).takeR ([] : List MediaRead) (capI) (2) (.exist (2) (key1)) ((kst).kvBad (2) (key1) false))),
     looked (tU (kst.takeR [] capI 2 (.exist 2 key1) 0)), iogo_of _ ns1 (by decide), get_of _ _, by decide,
     look_hit _ _ _ _ _ _ _ rfl, get_of _ _⟩,
   ⟨capI, 2, 64, 8,
     (tB ((kst).takeR ([] : List MediaRead) (capI) (2) (.objectInfo (2) (key1) (64) (.keyed 0 0 64 : DataPtr)) (firstBad ((kst).kvBad (2) (key1) false) (firstBad 0 ((kst).dptrBad (capI) (.keyed 0 0 64 : DataPtr) 64))))),
     key1, (.keyed 0 0 64 : DataPtr), ([] : List MediaRead),
     (((tU ((kst).takeR ([] : List MediaRead) (capI) (2) (.objectInfo (2) (key1) (64) (.keyed 0 0 64 : DataPtr)) (firstBad ((kst).kvBad (2) (key1) false) (firstBad 0 ((kst).dptrBad (capI) (.keyed 0 0 64 : DataPtr) 64))))).beds.get? (tB ((kst).takeR ([] : List MediaRead) (capI) (2) (.objectInfo (2) (key1) (64) (.keyed 0 0 64 : DataPtr)) (firstBad ((kst).kvBad (2) (key1) false) (firstBad 0 ((kst).dptrBad (capI) (.keyed 0 0 64 : DataPtr) 64)))))).get (by decide)),
     (tS ((kst).takeR ([] : List MediaRead) (capI) (2) (.objectInfo (2) (key1) (64) (.keyed 0 0 64 : DataPtr)) (firstBad ((kst).kvBad (2) (key1) false) (firstBad 0 ((kst).dptrBad (capI) (.keyed 0 0 64 : DataPtr) 64)))) ns1),
     ((idxFind (((tU ((kst).takeR ([] : List MediaRead) (capI) (2) (.objectInfo (2) (key1) (64) (.keyed 0 0 64 : DataPtr)) (firstBad ((kst).kvBad (2) (key1) false) (firstBad 0 ((kst).dptrBad (capI) (.keyed 0 0 64 : DataPtr) 64))))).beds.get? (tB ((kst).takeR ([] : List MediaRead) (capI) (2) (.objectInfo (2) (key1) (64) (.keyed 0 0 64 : DataPtr)) (firstBad ((kst).kvBad (2) (key1) false) (firstBad 0 ((kst).dptrBad (capI) (.keyed 0 0 64 : DataPtr) 64)))))).get (by decide)).index (2) (kvBytes (key1))).get (by decide)),
     kst,
     (tU ((kst).takeR ([] : List MediaRead) (capI) (2) (.objectInfo (2) (key1) (64) (.keyed 0 0 64 : DataPtr)) (firstBad ((kst).kvBad (2) (key1) false) (firstBad 0 ((kst).dptrBad (capI) (.keyed 0 0 64 : DataPtr) 64))))),
     looked (tU (kst.takeR [] capI 2 (.objectInfo 2 key1 64 (.keyed 0 0 64)) 0)), by decide, iogo_of _ ns1 (by decide),
     get_of _ _, by decide, look_hit _ _ _ _ _ _ _ rfl, get_of _ _⟩,
   ⟨capI, 2, 8,
     (tB ((kst).takeR ([] : List MediaRead) (capI) (2) (.hold (2) (key1) (1) (0)) (firstBad ((kst).kvBad (2) (key1) false) 0))),
     1, 0, key1, ([] : List MediaRead),
     (((tU ((kst).takeR ([] : List MediaRead) (capI) (2) (.hold (2) (key1) (1) (0)) (firstBad ((kst).kvBad (2) (key1) false) 0))).cmd.cmds.get? (8)).get (by decide)),
     (((tU ((kst).takeR ([] : List MediaRead) (capI) (2) (.hold (2) (key1) (1) (0)) (firstBad ((kst).kvBad (2) (key1) false) 0))).beds.get? (tB ((kst).takeR ([] : List MediaRead) (capI) (2) (.hold (2) (key1) (1) (0)) (firstBad ((kst).kvBad (2) (key1) false) 0)))).get (by decide)),
     (tS ((kst).takeR ([] : List MediaRead) (capI) (2) (.hold (2) (key1) (1) (0)) (firstBad ((kst).kvBad (2) (key1) false) 0)) ns1),
     kst,
     (tU ((kst).takeR ([] : List MediaRead) (capI) (2) (.hold (2) (key1) (1) (0)) (firstBad ((kst).kvBad (2) (key1) false) 0))),
     looked (tU (kst.takeR [] capI 2 (.hold 2 key1 1 0) 0)), iogo_of _ ns1 (by decide), get_of _ _, get_of _ _, by decide,
     by decide, look_hit _ _ _ _ _ _ _ rfl, by decide +kernel⟩,
   ⟨capI, 2, 32, 3, 8, 0, key1, (.keyed 0 0 32 : DataPtr), imp, ([] : List MediaRead),
     ((tU ki).cmd.cmds.get? (8)).get (by decide), ((tU ki).beds.get? (0)).get (by decide), ns2, ([(3, st3)] : List (Nat × Bytes)),
     kst, tU ki, ((tU ki).fromHost (capI) (.keyed 0 0 32 : DataPtr) (32)), kiw, looked kiw, iogo_of _ ns1 (by decide +kernel),
     get_of _ _, get_of _ _, by decide +kernel, by decide +kernel, by decide +kernel, rfl, by decide +kernel, by decide +kernel,
     by decide +kernel, by decide +kernel, by decide +kernel, pairT_of _ (by decide +kernel), by decide +kernel,
     by decide +kernel, look_hit _ _ _ _ _ _ _ rfl⟩⟩

theorem wit_DriveCommandsTakeEffect :
    (∃ (id : Nat) (c : DriveCmd) (s : State) (u : State), s.coreStop = false ∧ s.drv.cmds.get? id = some c ∧ c.st = 2 ∧
      u = (State.noteIdle { s with drv := { s.drv with cmds := s.drv.cmds.del id } } c.bed c.member).histAdd 0x10 c.slot (s.now - (c.deadline - sec 8)) (fun _ => true)) ∧
    (∃ (id : Nat) (c : DriveCmd) (s : State), s.drv.cmds.get? id = some c ∧ c.st = 2) ∧
    (∃ (slot : Nat) (b : Nat) (m : Nat) (s : State), s.memberAt slot upSt = some (b, m)) ∧
    (∃ (slot : Nat) (s : State), s.memberAt slot upSt = none) :=
  ⟨⟨7, dc, ({ host with drv := { DrvSt.init with cmds := ⟨[(7, dc)]⟩ } } : State),
     ((State.noteIdle { ({ host with drv := { DrvSt.init with cmds := ⟨[(7, dc)]⟩ } } : State) with drv := { ({ host with drv := { DrvSt.init with cmds := ⟨[(7, dc)]⟩ } } : State).drv with cmds := ({ host with drv := { DrvSt.init with cmds := ⟨[(7, dc)]⟩ } } : State).drv.cmds.del (7) } } (dc).bed (dc).member).histAdd 0x10 (dc).slot (({ host with drv := { DrvSt.init with cmds := ⟨[(7, dc)]⟩ } } : State).now - ((dc).deadline - sec 8)) (fun _ => true)),
     by decide, by decide, by decide, rfl⟩,
   ⟨7, dc, ({ host with drv := { DrvSt.init with cmds := ⟨[(7, dc)]⟩ } } : State), by decide, by decide⟩,
   ⟨3, 0, 3, host, by decide⟩,
   ⟨23, host, by decide⟩⟩

theorem wit_DriveEventsTakeEffect :
    (∃ (slot : Nat) (d : Nat) (s : State) (u : State), (s.port slot).readyAt = some d ∧
      u = (s.at d).setPort slot { s.port slot with readyAt := none, resetting := false } ∧ u.memberAt slot upSt = none) ∧
    (∃ (slot : Nat) (d : Nat) (b : Nat) (m : Nat) (s : State) (u : State), (s.port slot).readyAt = some d ∧
      u = (s.at d).setPort slot { s.port slot with readyAt := none, resetting := false } ∧ u.memberAt slot upSt = some (b, m)) ∧
    (∃ (slot : Nat) (b : Nat) (m : Nat) (info : DriveInfo) (x : Bed) (y : Member) (s : State) (u : State),
      s.memberAt slot upSt = some (b, m) ∧ s.beds.get? b = some x ∧ x.members.get? m = some y ∧
      u = s.setPort slot { s.port slot with ready := !y.single, readyAt := none, resetting := false, info := some info } ∧
      u.memberAt slot upSt = some (b, m)) ∧
    (∃ (slot : Nat) (info : DriveInfo) (s : State) (u : State), s.memberAt slot upSt = none ∧
      u = s.setPort slot { s.port slot with ready := true, readyAt := none, resetting := false, info := some info } ∧
      u.memberAt slot upSt = none) ∧
    (∃ (slot : Nat) (d : Nat) (b : Nat) (m : Nat) (s : State) (u : State), (s.port slot).unreachAt = some d ∧
      u = (s.at d).setPort slot { s.port slot with unreachAt := none } ∧ u.memberAt slot upSt = some (b, m)) ∧
    (∃ (slot : Nat) (d : Nat) (s : State) (u : State), (s.port slot).unreachAt = some d ∧
      u = (s.at d).setPort slot { s.port slot with unreachAt := none } ∧ u.memberAt slot upSt = none) ∧
    (∃ (slot : Nat) (s : State), s.memberAt slot upSt = none) ∧
    (∃ (slot : Nat) (b : Nat) (m : Nat) (x : Bed) (y : Member) (s : State), s.memberAt slot upSt = some (b, m) ∧
      s.beds.get? b = some x ∧ x.members.get? m = some y) ∧
    (∃ (b : Nat) (m : Nat) (d : Nat) (x : Bed) (y : Member) (s : State) (u : State), s.beds.get? b = some x ∧
      x.members.get? m = some y ∧ y.idleAt = some d ∧
      u = ((s.at d).applyFld (F.BED_CKPT_IDLE_S b)).setBed b (x.modMember m (fun y => { y with idleAt := none })) ∧
      (x.staged.any (fun r => r.member = m && !r.written)) = false ∧
      (u.drv.cmds.vals.any (fun c => c.bed = b && c.member = m)) = false ∧ (∀ r, x.rebuild = some r → r.paused = true)) ∧
    (∃ (b : Nat) (m : Nat) (d : Nat) (x : Bed) (y : Member) (s : State) (u : State), s.beds.get? b = some x ∧
      x.members.get? m = some y ∧ y.idleAt = some d ∧
      u = ((s.at d).applyFld (F.BED_CKPT_IDLE_S b)).setBed b (x.modMember m (fun y => { y with idleAt := none })) ∧
      ((x.staged.any (fun r => r.member = m && !r.written)) = true ∨ (u.drv.cmds.vals.any (fun c => c.bed = b && c.member = m)) = true ∨ (∃ r,
      x.rebuild = some r ∧ r.paused = false))) :=
  ⟨⟨23, 1, host.setPort 23 { DrvPort.init with readyAt := some 1 },
     ((host.setPort 23 { DrvPort.init with readyAt := some 1 }).at (1)).setPort (23) { (host.setPort 23 { DrvPort.init with readyAt := some 1 }).port (23) with readyAt := none, resetting := false },
     by decide, rfl, by decide⟩,
   ⟨3, 1, 0, 3, host.setPort 3 { DrvPort.init with readyAt := some 1 },
     ((host.setPort 3 { DrvPort.init with readyAt := some 1 }).at (1)).setPort (3) { (host.setPort 3 { DrvPort.init with readyAt := some 1 }).port (3) with readyAt := none, resetting := false },
     by decide, rfl, by decide⟩,
   ⟨3, 0, 3, di, bd0, mb 3, host,
     (host).setPort (3) { (host).port (3) with ready := !(mb 3).single, readyAt := none, resetting := false, info := some (di) },
     by decide, by decide, by decide, rfl, by decide⟩,
   ⟨23, di, host,
     (host).setPort (23) { (host).port (23) with ready := true, readyAt := none, resetting := false, info := some (di) },
     by decide, rfl, by decide⟩,
   ⟨3, 1, 0, 3, host.setPort 3 { DrvPort.init with unreachAt := some 1 },
     ((host.setPort 3 { DrvPort.init with unreachAt := some 1 }).at (1)).setPort (3) { (host.setPort 3 { DrvPort.init with unreachAt := some 1 }).port (3) with unreachAt := none },
     by decide, rfl, by decide⟩,
   ⟨23, 1, host.setPort 23 { DrvPort.init with unreachAt := some 1 },
     ((host.setPort 23 { DrvPort.init with unreachAt := some 1 }).at (1)).setPort (23) { (host.setPort 23 { DrvPort.init with unreachAt := some 1 }).port (23) with unreachAt := none },
     by decide, rfl, by decide⟩,
   ⟨23, host, by decide⟩,
   ⟨3, 0, 3, bd0, mb 3, host, by decide, by decide, by decide⟩,
   ⟨0, 3, 1, bdI, ({ mb 3 with idleAt := some 1 } : Member), ({ up with beds := ⟨[(0, bdI)]⟩ } : State),
     (((({ up with beds := ⟨[(0, bdI)]⟩ } : State).at (1)).applyFld (F.BED_CKPT_IDLE_S (0))).setBed (0) ((bdI).modMember (3) (fun y => { y with idleAt := none }))),
     by decide, by decide, by decide, rfl, by decide, by decide, (by intro r h; cases h)⟩,
   ⟨0, 3, 1, bdI, ({ mb 3 with idleAt := some 1 } : Member),
     ({ up with beds := ⟨[(0, bdI)]⟩, drv := { DrvSt.init with cmds := ⟨[(7, dc)]⟩ } } : State),
     (((({ up with beds := ⟨[(0, bdI)]⟩, drv := { DrvSt.init with cmds := ⟨[(7, dc)]⟩ } } : State).at (1)).applyFld (F.BED_CKPT_IDLE_S (0))).setBed (0) ((bdI).modMember (3) (fun y => { y with idleAt := none }))),
     by decide, by decide, by decide, rfl, .inr (.inl (by decide))⟩⟩

theorem wit_BedMaintenanceTakesEffect :
    (∃ (b : Nat) (x : Bed) (media : List MediaRead) (s : State) (u : State), s.coreStop = false ∧
      u = (s.countReads b media).foldNext b media ∧ u.beds.get? b = some x) ∧
    (∃ (b : Nat) (d : Nat) (x : Bed) (r : Staged) (s : State), s.beds.get? b = some x ∧ s.coreStop = false ∧
      x.staged.find? (fun r => !r.folded && r.foldAt.isSome) = some r ∧ r.foldAt = some d) ∧
    (∃ (b : Nat) (k : Nat) (d : Nat) (x : Bed) (y : Band) (s : State) (u : State), s.beds.get? b = some x ∧
      x.bands.get? k = some y ∧ y.ckptAt = some d ∧ u = (s.at d).applyFld (F.BED_CKPT_INTERVAL_S b)) ∧
    (∃ (b : Nat) (x : Bed) (s : State), s.beds.get? b = some x ∧ x.owned = true ∧ x.openBands ≠ []) ∧
    (∃ (b : Nat) (k : Nat) (x : Bed) (c : Ckpt) (s : State), s.beds.get? b = some x ∧ s.coreStop = false ∧
      x.ckpts.find? (fun c => c.bands.contains k || c.bands.isEmpty) = some c) ∧
    (∃ (b : Nat) (media : List MediaRead) (x : Bed) (r : Rebuild) (s : State) (u : State) (v : State),
      u = State.countReads (s.applyFld (F.BED_RBCFG_RATE b)) b media ∧ s.coreStop = false ∧ u.beds.get? b = some x ∧
      x.rebuild = some r ∧ r.paused = false ∧ r.flushing = false ∧ (r.member < 2 → r.metaDone = true) ∧
      v = (match r.nextAt with | some d => u.at d | none => u)) ∧
    (∃ (b : Nat) (x : Bed) (y : Bed) (r : Rebuild) (q : Rebuild) (stop : Bool) (s : State) (u : State), s.coreStop = false ∧
      s.beds.get? b = some x ∧ x.rebuild = some r ∧ r.flushing = true ∧ r.pauseWanted = false ∧
      stop = (decide (s.shelf.st ≠ .awake) || s.shelf.move.isSome) ∧
      q = { r with cursor := r.cursor + 1, slice := 0, flushing := false, paused := stop } ∧
      u = (let v := State.modBed { s with drv := { s.drv with cmds := s.drv.cmds.filterT (fun _ (c : DriveCmd) => !(c.bed = b && c.member = r.member && c.purpose = DrivePurpose.rebuildFlush)) } } b (fun x => { x with rebuild := some q }); if stop then v.actEndAny 3 (some b) else v) ∧
      u.beds.get? b = some y ∧ y.rebuild = some q) ∧
    (∃ (b : Nat) (x : Bed) (y : Bed) (r : Rebuild) (q : Rebuild) (s : State) (u : State), s.coreStop = false ∧
      s.beds.get? b = some x ∧ x.rebuild = some r ∧ r.flushing = true ∧ r.pauseWanted = true ∧
      q = { r with cursor := r.cursor + 1, slice := 0, flushing := false, paused := true, pauseWanted := false } ∧
      u = (let v := State.modBed { s with drv := { s.drv with cmds := s.drv.cmds.filterT (fun _ (c : DriveCmd) => !(c.bed = b && c.member = r.member && c.purpose = DrivePurpose.rebuildFlush)) } } b (fun x => { x with rebuild := some q }); v.setActs (v.mnt.acts.map (fun a => if a.code = 3 && a.bed = some b && a.st = 0 then { a with st := 2 } else a))) ∧
      u.beds.get? b = some y ∧ y.rebuild = some q) ∧
    (∃ (b : Nat) (k : Nat) (ks : List Nat) (media : List MediaRead) (x : Bed) (s : State) (u : State), u = s.countReads b media ∧
      s.coreStop = false ∧ u.beds.get? b = some x ∧ x.resync = k :: ks ∧ x.st ≠ 3 ∧
      (u.mnt.acts.any (fun a => a.code = 4 && a.bed = some b && a.st ≠ 0)) = false ∧ (x.band k).st ≠ 0 ∧
      (x.dataMembers.any (fun m => mediaGet media m (x.base m + k * x.h) x.h = some .unrecovered)) = false) ∧
    (∃ (b : Nat) (k : Nat) (m : Nat) (ks : List Nat) (l : List Nat) (media : List MediaRead) (x : Bed) (s : State) (u : State),
      u = s.countReads b media ∧ s.coreStop = false ∧ u.beds.get? b = some x ∧ x.resync = k :: ks ∧ x.st ≠ 3 ∧
      (u.mnt.acts.any (fun a => a.code = 4 && a.bed = some b && a.st ≠ 0)) = false ∧ (x.band k).st ≠ 0 ∧
      x.dataMembers.filter (fun m => mediaGet media m (x.base m + k * x.h) x.h = some .unrecovered) = m :: l) ∧
    (∃ (b : Nat) (media : List MediaRead) (x : Bed) (c : Compact) (s : State) (u : State), s.coreStop = false ∧
      u = s.countReads b media ∧ u.shelf.st = .awake ∧ u.shelf.move = none ∧ u.beds.get? b = some x ∧ x.compact = some c ∧
      c.paused = false ∧ c.step = 1 ∧ x.liveIn c.row ≠ 0) ∧
    (∃ (b : Nat) (media : List MediaRead) (x : Bed) (s : State) (u : State), s.coreStop = false ∧ u = s.countReads b media ∧
      u.shelf.st = .awake ∧ u.shelf.move = none ∧ u.beds.get? b = some x ∧ x.compact = none) :=
  ⟨⟨0, (((((host).countReads (0) ([] : List MediaRead)).foldNext (0) ([] : List MediaRead)).beds.get? (0)).get (by decide)),
     ([] : List MediaRead), host, (((host).countReads (0) ([] : List MediaRead)).foldNext (0) ([] : List MediaRead)), by decide,
     rfl, get_of _ _⟩,
   ⟨0, 1, ({ bd0 with staged := [sg] } : Bed), sg, hostBed { bd0 with staged := [sg] }, by decide, by decide, by decide,
     by decide⟩,
   ⟨0, 4095, 1, ({ bd0 with bands := ⟨[(4095, { Band.init with ckptAt := some 1 })]⟩ } : Bed),
     ({ Band.init with ckptAt := some 1 } : Band), hostBed { bd0 with bands := ⟨[(4095, { Band.init with ckptAt := some 1 })]⟩ },
     ((hostBed { bd0 with bands := ⟨[(4095, { Band.init with ckptAt := some 1 })]⟩ }).at (1)).applyFld (F.BED_CKPT_INTERVAL_S (0)),
     by decide, by decide, by decide, rfl⟩,
   ⟨0, ({ bd0 with bands := ⟨[(4095, { Band.init with st := 1 })]⟩ } : Bed),
     hostBed { bd0 with bands := ⟨[(4095, { Band.init with st := 1 })]⟩ }, by decide, by decide, by decide⟩,
   ⟨0, 7, ({ bd0 with ckpts := [⟨[7], 0, 1, 0, false, [], [], [], [], 0⟩] } : Bed), (⟨[7], 0, 1, 0, false, [], [], [], [],
     0⟩ : Ckpt), hostBed { bd0 with ckpts := [⟨[7], 0, 1, 0, false, [], [], [], [], 0⟩] }, by decide, by decide, by decide⟩,
   ⟨0, ([] : List MediaRead), (((State.countReads ((hostBed (bdR ⟨2, 0, 0, false, false, 0, false, false,
     none⟩)).applyFld (F.BED_RBCFG_RATE (0))) (0) ([] : List MediaRead)).beds.get? (0)).get (by decide)), (⟨2, 0, 0, false, false,
     0, false, false, none⟩ : Rebuild), hostBed (bdR ⟨2, 0, 0, false, false, 0, false, false, none⟩),
     (State.countReads ((hostBed (bdR ⟨2, 0, 0, false, false, 0, false, false,
     none⟩)).applyFld (F.BED_RBCFG_RATE (0))) (0) ([] : List MediaRead)), ((match (⟨2, 0, 0, false, false, 0, false, false,
     none⟩ : Rebuild).nextAt with | some d => (State.countReads ((hostBed (bdR ⟨2, 0, 0, false, false, 0, false, false,
     none⟩)).applyFld (F.BED_RBCFG_RATE (0))) (0) ([] : List MediaRead)).at d | none => (State.countReads ((hostBed (bdR ⟨2, 0, 0,
     false, false, 0, false, false, none⟩)).applyFld (F.BED_RBCFG_RATE (0))) (0) ([] : List MediaRead)))), rfl, by decide,
     get_of _ _, by decide, by decide, by decide, by decide, rfl⟩,
   ⟨0, bdR rbF, ((flushed rbF { rbF with cursor := 1, flushing := false }).beds.get? (0)).get (by decide), rbF,
     ({ rbF with cursor := 1, flushing := false } : Rebuild), false, hostBed (bdR rbF),
     flushed rbF { rbF with cursor := 1, flushing := false }, by decide, by decide, by decide, by decide, by decide, by decide,
     rfl, rfl, get_of _ _, by decide⟩,
   ⟨0, bdR rbP,
     (((flushed rbP { rbP with cursor := 1, flushing := false, paused := true, pauseWanted := false }).setActs []).beds.get? (0)).get (by decide),
     rbP, ({ rbP with cursor := 1, flushing := false, paused := true, pauseWanted := false } : Rebuild), hostBed (bdR rbP),
     (flushed rbP { rbP with cursor := 1, flushing := false, paused := true, pauseWanted := false }).setActs [], by decide,
     by decide, by decide, by decide, by decide, rfl, rfl, get_of _ _, by decide⟩,
   ⟨0, 1, ([2] : List Nat), rsm, bdT, hostBed bdS, (hostBed bdS).countReads (0) (rsm), rfl, by decide, by decide, by decide,
     by decide, by decide, by decide, by decide⟩,
   ⟨0, 1, 2, ([2] : List Nat), ([] : List Nat), rsu, (((hostBed bdS).countReads (0) (rsu)).beds.get? (0)).get (by decide),
     hostBed bdS, (hostBed bdS).countReads (0) (rsu), rfl, by decide, get_of _ _, by decide, by decide, by decide, by decide,
     by decide⟩,
   ⟨0, ([] : List MediaRead), bdC, (⟨1, 1, 0, false⟩ : Compact), hostBed bdC,
     ((hostBed bdC).countReads (0) ([] : List MediaRead)), by decide, rfl, by decide, by decide, by decide, by decide, by decide,
     by decide, by decide⟩,
   ⟨0, ([] : List MediaRead), ((((host).countReads (0) ([] : List MediaRead)).beds.get? (0)).get (by decide)), host,
     ((host).countReads (0) ([] : List MediaRead)), by decide, rfl, by decide, by decide, get_of _ _, by decide⟩⟩

theorem wit_GussetLinkTakesEffect :
    (∃ (s : State), s.domOn 44 = true ∧ s.gus.link = false) ∧
    (∃ (d : Nat) (s : State), s.gus.retrainAt = some d) ∧
    (∃ (d : Nat) (s : State), s.gus.downAt = some d ∧ s.gus.link = false ∧ s.pathValid 2 = true ∧ s.gus.detachAsked = 0) ∧
    (∃ (f : GussetFrame) (s : State) (u : State), s.gus.link = true ∧ f.crcOk = true ∧ f.length ≤ 9152 ∧ f.zeroFields = 0 ∧
      f.kind ≠ 8 ∧ f.kind ≠ 9 ∧ (f.kind ≠ 0xB ∨ f.first = false ∨ f.message ≠ 0 ∧ f.message ≤ 0xE) ∧
      u = (s.gusFrames false [(20 + 4 * cdiv f.length 4, s.gussetHead f)]).linkAcked f.ack) ∧
    (∃ (f : GussetFrame) (s : State) (u : State), s.gus.link = true ∧ f.crcOk = true ∧ f.length ≤ 9152 ∧ f.zeroFields = 0 ∧
      u = (s.gusFrames false [(20 + 4 * cdiv f.length 4, s.gussetHead f)]).linkAcked f.ack) ∧
    (∃ (f : GussetFrame) (s : State), s.gus.link = true ∧ (f.crcOk = false ∨ 9152 < f.length ∨ f.zeroFields ≠ 0)) ∧
    (∃ (d : Nat) (s : State), s.gus.ackAt = some d ∧ s.gus.link = true) ∧
    (∃ (g : GTx) (l : List GTx) (s : State), s.gus.unacked = g :: l ∧ s.gus.link = true ∧ g.tries < 8) ∧
    (∃ (g : GTx) (l : List GTx) (s : State), s.gus.unacked = g :: l ∧ s.gus.link = true ∧ 8 ≤ g.tries) :=
  ⟨⟨({ up with gus := GusSt.init } : State), by decide, by decide⟩,
   ⟨1, ({ up with gus := { up.gus with retrainAt := some 1 } } : State), by decide⟩,
   ⟨1, ({ up with gus := { GusSt.init with downAt := some 1, seq2 := some 1, miss2 := 9 } } : State), by decide, by decide,
     by decide, by decide⟩,
   ⟨(⟨true, 7, true, true, 9152, 1, 0, 0, 0, 0, 1⟩ : GussetFrame), up, (((up).gusFrames false [(20 + 4 * cdiv (⟨true, 7, true,
     true, 9152, 1, 0, 0, 0, 0, 1⟩ : GussetFrame).length 4, (up).gussetHead (⟨true, 7, true, true, 9152, 1, 0, 0, 0, 0,
     1⟩ : GussetFrame))]).linkAcked (⟨true, 7, true, true, 9152, 1, 0, 0, 0, 0, 1⟩ : GussetFrame).ack), by decide, by decide,
     by decide, by decide, by decide, by decide, by decide, rfl⟩,
   ⟨(⟨true, 8, true, true, 0, 1, 0, 0, 0, 0, 1⟩ : GussetFrame), up, (((up).gusFrames false [(20 + 4 * cdiv (⟨true, 8, true, true,
     0, 1, 0, 0, 0, 0, 1⟩ : GussetFrame).length 4, (up).gussetHead (⟨true, 8, true, true, 0, 1, 0, 0, 0, 0,
     1⟩ : GussetFrame))]).linkAcked (⟨true, 8, true, true, 0, 1, 0, 0, 0, 0, 1⟩ : GussetFrame).ack), by decide, by decide,
     by decide, by decide, rfl⟩,
   ⟨(⟨false, 7, true, true, 9152, 1, 0, 0, 0, 0, 1⟩ : GussetFrame), up, by decide, by decide⟩,
   ⟨1, ({ up with gus := { up.gus with ackAt := some 1 } } : State), by decide, by decide⟩,
   ⟨(⟨1, 1, 0, .test, 0, 7, .nothing, false⟩ : GTx), ([] : List GTx),
     ({ up with gus := { up.gus with unacked := [⟨1, 1, 0, .test, 0, 7, .nothing, false⟩] } } : State), by decide, by decide,
     by decide⟩,
   ⟨(⟨1, 1, 0, .test, 0, 8, .nothing, false⟩ : GTx), ([] : List GTx),
     ({ up with gus := { up.gus with unacked := [⟨1, 1, 0, .test, 0, 8, .nothing, false⟩] } } : State), by decide, by decide,
     by decide⟩⟩

theorem wit_StandbyMessagesTakeEffect :
    (∃ (head : MirrorHead) (x : Bed) (s : State), s.beds.get? head.bed = some x ∧ x.stands_by = true) ∧
    (∃ (head : MirrorHead) (x : Bed) (s : State), s.beds.get? head.bed = some x ∧ x.stands_by = true) ∧
    (∃ (b : Nat) (x : Bed) (s : State), s.beds.get? b = some x ∧ x.stands_by = true) ∧
    (∃ (b : Nat) (x : Bed) (s : State), s.beds.get? b = some x ∧ x.stands_by = true) ∧
    (∃ (b : Nat) (x : Bed) (s : State), s.beds.get? b = some x ∧ x.stands_by = true) ∧
    (∃ (b : Nat) (id : Nat) (m : Mirrored) (x : Bed) (s : State), s.beds.get? b = some x ∧ x.stands_by = true ∧ id ≠ 0 ∧
      x.standby.mirrored.find? (fun m => m.id = id && !m.folded && id ≠ 0) = some m) ∧
    (∃ (b : Nat) (tick : Nat) (x : Bed) (s : State), s.beds.get? b = some x ∧ x.stands_by = true ∧
      (x.joined = true ∨ x.standby.joinTick ≤ tick)) ∧
    (∃ (b : Nat) (x : Bed) (s : State), s.beds.get? b = some x ∧ x.stands_by = true) :=
  ⟨⟨mh, bdJ, standby, by decide, by decide⟩,
   ⟨mh, bdJ, standby, by decide, by decide⟩,
   ⟨3, bdJ, standby, by decide, by decide⟩,
   ⟨3, bdJ, standby, by decide, by decide⟩,
   ⟨3, bdJ, standby, by decide, by decide⟩,
   ⟨3, 7, (⟨7, mh, [], false, false⟩ : Mirrored), bdM, ({ up with beds := ⟨[(3, bdM)]⟩ } : State), by decide, by decide,
     by decide, by decide⟩,
   ⟨3, 0, bdJ, standby, by decide, by decide, by decide⟩,
   ⟨3, bdJ, standby, by decide, by decide⟩⟩

theorem wit_TicksTakeEffect :
    (∃ (d : Nat) (s : State), s.gus.tickEndAt = some d ∧ s.shelf.st = .awake) ∧
    (∃ (d : Nat) (s : State), s.gus.tickEndAt = some d ∧ s.shelf.st ≠ .awake) ∧
    (∃ (b : Nat) (s : State), s.copied b = true) ∧
    (∃ (b : Nat) (s : State), s.copied b = false) ∧
    (∃ (k : Nat) (d : Nat) (l : List (Nat × Nat)) (s : State), s.gus.ends = (k, d) :: l ∧ s.withStandby ≠ 0 ∧
      s.gus.detachAsked = 0) :=
  ⟨⟨1, ({ up with gus := { up.gus with tickEndAt := some 1 } } : State), by decide, by decide⟩,
   ⟨1, ({ up with shelf := { up.shelf with st := .dormant }, gus := { up.gus with tickEndAt := some 1 } } : State), by decide,
     by decide⟩,
   ⟨0, hostBed { bd0 with copying := true }, by decide⟩,
   ⟨0, host, by decide⟩,
   ⟨5, 1, ([] : List (Nat × Nat)),
     ({ hostBed { bd0 with peerJoined := true } with gus := { up.gus with ends := [(5, 1)] } } : State), by decide, by decide,
     by decide⟩⟩

theorem wit_PeerMessagesTakeEffect :
    (∃ (b : Nat) (serial : Nat) (kcv : Bytes) (x : Bed) (k : KeyStore) (s : State) (u : State), s.beds.get? b = some x ∧
      s.store = some k ∧ k.state = 1 ∧ k.kcv = kcv ∧ x.owned = true ∧ x.fenced = false ∧ x.mounted = true ∧
      s.shelf.conflict = false ∧ s.shelf.st = .awake ∧ serial ≠ s.fuses.serial ∧
      u = s.setBed b { x with copying := true, peerJoined := false }) ∧
    (∃ (b : Nat) (x : Bed) (s : State), s.beds.get? b = some x ∧ x.owned = false ∧ x.standby.joining = true) ∧
    (∃ (b : Nat) (x : Bed) (s : State), s.beds.get? b = some x ∧ x.owned = true ∧ x.copying = true) ∧
    (∃ (st : Nat), st ≠ 1) ∧
    (∃ (kcv : Bytes) (k : KeyStore) (s : State) (u : State), s.store = some k ∧ k.state = 1 ∧ k.kcv = kcv ∧
      u = { s with gus := { s.gus with peerKcv := some kcv }, cph := { s.cph with peerMatch := true } }) ∧
    (∃ (sender : Nat) (iv : Bytes) (wrapped : Bytes) (tag : Bytes) (kcv : Bytes) (sec : Bytes) (k : Bytes) (st : KeyStore) (s : State),
      s.store = some st ∧ st.state = 0 ∧ s.cph.secret = some sec ∧
      gcmOpen (transportKey sec sender s.fuses.serial) iv kcv wrapped tag = some k ∧ keyCheckValue k = kcv) ∧
    (∃ (b : Nat) (x : Bed) (s : State), s.beds.get? b = some x ∧ s.copied b = true) ∧
    (∃ (b : Nat) (x : Bed) (s : State), s.beds.get? b = some x ∧ s.copied b = false) :=
  ⟨⟨0, 2, ([1, 2, 3, 4] : Bytes), bd0, ({ KeyStore.init with state := 1, kcv := [1, 2, 3, 4] } : KeyStore),
     ({ host with cph := { CphSt.init with store0 := some { KeyStore.init with state := 1, kcv := [1, 2, 3, 4] }, store1 := none } } : State),
     (({ host with cph := { CphSt.init with store0 := some { KeyStore.init with state := 1, kcv := [1, 2, 3, 4] }, store1 := none } } : State).setBed (0) { (bd0) with copying := true, peerJoined := false }),
     by decide, by decide, by decide, by decide, by decide, by decide, by decide, by decide, by decide, by decide, rfl⟩,
   ⟨3, ({ bdJ with standby := { StandbyCopy.init with joining := true } } : Bed),
     ({ up with beds := ⟨[(3, { bdJ with standby := { StandbyCopy.init with joining := true } })]⟩ } : State), by decide,
     by decide, by decide⟩,
   ⟨0, ({ bd0 with copying := true } : Bed), hostBed { bd0 with copying := true }, by decide, by decide, by decide⟩,
   ⟨0, by decide⟩,
   ⟨([1, 2, 3, 4] : Bytes), ({ KeyStore.init with state := 1, kcv := [1, 2, 3, 4] } : KeyStore),
     ({ host with cph := { CphSt.init with store0 := some { KeyStore.init with state := 1, kcv := [1, 2, 3, 4] }, store1 := none } } : State),
     ({ ({ host with cph := { CphSt.init with store0 := some { KeyStore.init with state := 1, kcv := [1, 2, 3, 4] }, store1 := none } } : State) with gus := { ({ host with cph := { CphSt.init with store0 := some { KeyStore.init with state := 1, kcv := [1, 2, 3, 4] }, store1 := none } } : State).gus with peerKcv := some ([1, 2, 3, 4] : Bytes) }, cph := { ({ host with cph := { CphSt.init with store0 := some { KeyStore.init with state := 1, kcv := [1, 2, 3, 4] }, store1 := none } } : State).cph with peerMatch := true } }),
     by decide, by decide, by decide, rfl⟩,
   ⟨0, zeros 12, ke.1, ke.2, keyCheckValue kd0, kd0, kd0, KeyStore.init,
     ({ up with cph := { CphSt.init with secret := some kd0 } } : State), by decide, by decide, by decide, ke_ok, rfl⟩,
   ⟨0, bdA, hostBed bdA, by decide, by decide⟩,
   ⟨0, bd0, host, by decide, by decide⟩⟩

theorem wit_TakeoverTakesEffect :
    (∃ (s : State), s.hbOn = true) ∧
    (∃ (path : Nat) (w : HbWord) (s : State), s.hbOn = true ∧ w.crcOk = true ∧ (path = 2 ∨ path = 1 ∧ s.gus.link = true)) ∧
    (∃ (s : State) (u : State) (v : State),
      u = { s.at s.gus.missAt with gus := { s.gus with missAt := max s.now s.gus.missAt + 1000000 } } ∧ u.hbOn = true ∧
      v = (let a := if s.gus.got1 then u else u.bump (F.GUS_CNT_COUNT 3) 1; if s.gus.got2 then a else a.bump (F.GUS_CNT_COUNT 4) 1)) ∧
    (∃ (l : Nat) (s : State) (u : State), s.gus.lastValid = some l ∧ s.gus.declared = false ∧ u = s.at (l + msec 8)) ∧
    (∃ (t0 : Nat) (s : State) (u : State), s.gus.takeT0 = some t0 ∧ s.gus.declared = true ∧ s.gus.announced = 0 ∧
      s.shelf.st = .awake ∧ u = s.at (max s.gus.declaredAt (t0 + msec 10)) ∧ u.takeable = []) ∧
    (∃ (t0 : Nat) (k : Nat) (s : State), s.gus.takeT0 = some t0 ∧ s.gus.announced = k ∧ k ≠ 0 ∧ k < 4) ∧
    (∃ (b : Nat) (d : Nat) (x : Bed) (s : State), s.beds.get? b = some x ∧ x.preemptAt = some d) ∧
    (∃ (b : Nat) (d : Nat) (x : Bed) (s : State), s.beds.get? b = some x ∧ x.reclaimAt = some d ∧ x.fenced = true ∧
      x.reportMember = none) ∧
    (∃ (h : Nat) (k : Nat) (s : State) (u : State) (v : State), s.flag F.GUS_CFG_MODE = true ∧ s.shelf.st = .awake ∧
      s.beds.vals.any (fun x => !x.owned && x.joined) = true ∧ s.mnt.acts = [] ∧ s.arrivalOf 10 none 0 false none = (v, 0, h) ∧
      k = testUnits.getD (v.gus.testNext % 5) 0 ∧ u = { v with gus := { v.gus with testNext := (v.gus.testNext + 1) % 5 } } ∧
      (2 ≤ k ∨ (u.roundCore k).isSome = true)) ∧
    (∃ (b : Nat) (tick : Nat) (info : PeerInfo) (x : Bed) (s : State) (u : State), s.beds.get? b = some x ∧ x.owned = false ∧
      x.joined = true ∧ x.standby.tick = tick ∧ s.shelf.st = .awake ∧
      u = (State.preemptBed (s.takeJoined b info (info.assocs.map (fun a => (a.number,
      s.assocHere a.number))) s.now) b).rewriteInFlight b) ∧
    (∃ (b : Nat) (x : Bed) (s : State) (u : State) (v : State), s.beds.get? b = some x ∧ x.owned = true ∧ x.fenced = true ∧
      u = (((((s.cmd.assocs.entries.filter (fun e => e.2.bed = some b)).map (·.1)).foldl State.endAssoc (s.fencedOut b)).modBed b (fun x => { x with owned := false, left := true })).ledSync) ∧
      v = u.shelfNote u.shelf.st.code (2 ^ b)) :=
  ⟨⟨up, by decide⟩,
   ⟨2, hw, up, by decide, by decide, by decide⟩,
   ⟨({ up with gus := { up.gus with got1 := true, got2 := true } } : State),
     ({ ({ up with gus := { up.gus with got1 := true, got2 := true } } : State).at ({ up with gus := { up.gus with got1 := true, got2 := true } } : State).gus.missAt with gus := { ({ up with gus := { up.gus with got1 := true, got2 := true } } : State).gus with missAt := max ({ up with gus := { up.gus with got1 := true, got2 := true } } : State).now ({ up with gus := { up.gus with got1 := true, got2 := true } } : State).gus.missAt + 1000000 } }),
     ((let a := if ({ up with gus := { up.gus with got1 := true, got2 := true } } : State).gus.got1 then ({ ({ up with gus := { up.gus with got1 := true, got2 := true } } : State).at ({ up with gus := { up.gus with got1 := true, got2 := true } } : State).gus.missAt with gus := { ({ up with gus := { up.gus with got1 := true, got2 := true } } : State).gus with missAt := max ({ up with gus := { up.gus with got1 := true, got2 := true } } : State).now ({ up with gus := { up.gus with got1 := true, got2 := true } } : State).gus.missAt + 1000000 } }) else ({ ({ up with gus := { up.gus with got1 := true, got2 := true } } : State).at ({ up with gus := { up.gus with got1 := true, got2 := true } } : State).gus.missAt with gus := { ({ up with gus := { up.gus with got1 := true, got2 := true } } : State).gus with missAt := max ({ up with gus := { up.gus with got1 := true, got2 := true } } : State).now ({ up with gus := { up.gus with got1 := true, got2 := true } } : State).gus.missAt + 1000000 } }).bump (F.GUS_CNT_COUNT 3) 1; if ({ up with gus := { up.gus with got1 := true, got2 := true } } : State).gus.got2 then a else a.bump (F.GUS_CNT_COUNT 4) 1)),
     rfl, by decide, rfl⟩,
   ⟨4999000000, up, (up).at ((4999000000) + msec 8), by decide, by decide, rfl⟩,
   ⟨4000000000, ({ up with gus := { up.gus with takeT0 := some 4000000000, declared := true } } : State),
     (({ up with gus := { up.gus with takeT0 := some 4000000000, declared := true } } : State).at (max ({ up with gus := { up.gus with takeT0 := some 4000000000, declared := true } } : State).gus.declaredAt ((4000000000) + msec 10))),
     by decide, by decide, by decide, by decide, rfl, by decide⟩,
   ⟨1, 3, ({ up with gus := { up.gus with takeT0 := some 1, announced := 3 } } : State), by decide, by decide, by decide,
     by decide⟩,
   ⟨0, 1, ({ bd0 with preemptAt := some 1 } : Bed), hostBed { bd0 with preemptAt := some 1 }, by decide, by decide⟩,
   ⟨0, 1, ({ bd0 with reclaimAt := some 1, fenced := true, members := .empty } : Bed),
     hostBed { bd0 with reclaimAt := some 1, fenced := true, members := .empty }, by decide, by decide, by decide, by decide⟩,
   ⟨((standby.setFld F.GUS_CFG_MODE 1).arrivalOf 10 none 0 false none).2.2,
     testUnits.getD ((((standby.setFld F.GUS_CFG_MODE 1).arrivalOf 10 none 0 false none).1).gus.testNext % 5) 0,
     standby.setFld F.GUS_CFG_MODE 1,
     { (((standby.setFld F.GUS_CFG_MODE 1).arrivalOf 10 none 0 false none).1) with gus := { (((standby.setFld F.GUS_CFG_MODE 1).arrivalOf 10 none 0 false none).1).gus with testNext := ((((standby.setFld F.GUS_CFG_MODE 1).arrivalOf 10 none 0 false none).1).gus.testNext + 1) % 5 } },
     ((standby.setFld F.GUS_CFG_MODE 1).arrivalOf 10 none 0 false none).1, by decide, by decide, by decide, by decide,
     pair0_of _ (by decide), rfl, rfl, by decide⟩,
   ⟨3, 0, (⟨0x7240, [], [], [], []⟩ : PeerInfo), bdJ, standby, ((State.preemptBed ((standby).takeJoined (3) (⟨0x7240, [], [], [],
     []⟩ : PeerInfo) ((⟨0x7240, [], [], [], []⟩ : PeerInfo).assocs.map (fun a => (a.number,
     (standby).assocHere a.number))) (standby).now) (3)).rewriteInFlight (3)), by decide, by decide, by decide, by decide,
     by decide, rfl⟩,
   ⟨0, ({ bd0 with fenced := true } : Bed), ({ hostBed { bd0 with fenced := true } with cmd := CmdSt.init } : State),
     ((((((({ hostBed { bd0 with fenced := true } with cmd := CmdSt.init } : State).cmd.assocs.entries.filter (fun e => e.2.bed = some (0))).map (·.1)).foldl State.endAssoc (({ hostBed { bd0 with fenced := true } with cmd := CmdSt.init } : State).fencedOut (0))).modBed (0) (fun x => { x with owned := false, left := true })).ledSync)),
     (((((((({ hostBed { bd0 with fenced := true } with cmd := CmdSt.init } : State).cmd.assocs.entries.filter (fun e => e.2.bed = some (0))).map (·.1)).foldl State.endAssoc (({ hostBed { bd0 with fenced := true } with cmd := CmdSt.init } : State).fencedOut (0))).modBed (0) (fun x => { x with owned := false, left := true })).ledSync)).shelfNote ((((((({ hostBed { bd0 with fenced := true } with cmd := CmdSt.init } : State).cmd.assocs.entries.filter (fun e => e.2.bed = some (0))).map (·.1)).foldl State.endAssoc (({ hostBed { bd0 with fenced := true } with cmd := CmdSt.init } : State).fencedOut (0))).modBed (0) (fun x => { x with owned := false, left := true })).ledSync)).shelf.st.code (2 ^ (0))),
     by decide, by decide, by decide, rfl, rfl⟩⟩

theorem wit_ServiceRequestsAreCarriedOut :
    (∃ (h : SvcHead) (type : Nat) (s : State), s.svcOpen h type = true) ∧
    (∃ (h : SvcHead) (x : Session) (r : SvcResp) (s : State), s.svcPort = true ∧ h.tagOk = true ∧
      s.mnt.sessions.get? h.session = some x ∧ x.responses.find? (fun r => r.request = h.request) = some r) ∧
    (∃ (h : SvcHead) (x : Session) (s : State), s.svcPort = true ∧ h.tagOk = true ∧ s.mnt.sessions.get? h.session = some x ∧
      x.responses.find? (fun r => r.request = h.request) = none ∧ h.request ≤ x.lastReq) ∧
    (∃ (h : SvcHead) (s : State), (s.svcPort = false ∨ s.mnt.sessions.get? h.session = none)) ∧
    (∃ (h : SvcHead) (x : Session) (s : State), s.svcPort = true ∧ h.tagOk = false ∧ s.mnt.sessions.get? h.session = some x) :=
  ⟨⟨hd, 3, up, by decide⟩,
   ⟨hd, (⟨[], 4, [⟨1, 5, 3, .ok, []⟩], 0⟩ : Session), (⟨1, 5, 3, .ok, []⟩ : SvcResp),
     upMnt (fun m => { m with sessions := ⟨[(1, ⟨[], 4, [⟨1, 5, 3, .ok, []⟩], 0⟩)]⟩ }), by decide, by decide, by decide,
     by decide⟩,
   ⟨({ hd with request := 4 } : SvcHead), (⟨[], 4, [], 0⟩ : Session), up, by decide, by decide, by decide, by decide, by decide⟩,
   ⟨({ hd with session := 2 } : SvcHead), up, by decide⟩,
   ⟨({ hd with tagOk := false } : SvcHead), (⟨[], 4, [], 0⟩ : Session), up, by decide, by decide, by decide⟩⟩

theorem wit_ServiceMessagesTakeEffect :
    (∃ (key : WrappedKey) (s : State), s.svcPort = true ∧ s.cfg.data.svcKey = some key ∧ s.mnt.sessions.size < 4) ∧
    (∃ (key : WrappedKey) (s : State), s.svcPort = true ∧ s.cfg.data.svcKey = some key ∧ 4 ≤ s.mnt.sessions.size) ∧
    (∃ (s : State), s.svcPort = true) ∧
    (∃ (k : Nat) (x : Session) (s : State), s.mnt.sessions.get? k = some x) ∧
    (∃ (h : SvcHead) (addr : Nat) (count : Nat) (b : Bytes) (s : State) (u : State) (v : State), s.svcOpen h 0x03 = true ∧
      u = s.svcNoted h 0x03 ∧ addr % 4 = 0 ∧ count ≠ 0 ∧ count ≤ 256 ∧ readDwords (.service h.session) count addr u [] = (v, b)) ∧
    (∃ (h : SvcHead) (addr : Nat) (value : Word) (w : Word) (s : State) (u : State) (v : State) (x : State),
      s.svcOpen h 0x04 = true ∧ u = s.svcNoted h 0x04 ∧ addr < 2 ^ 24 ∧ u.busWrite (.service h.session) addr 15 value = (v, 0) ∧
      v.regRead (.service h.session) addr 15 = (x, w)) ∧
    (∃ (h : SvcHead) (addr : Nat) (n : Nat) (value : Word) (s : State) (u : State) (v : State), s.svcOpen h 0x04 = true ∧
      u = s.svcNoted h 0x04 ∧ addr < 2 ^ 24 ∧ u.busWrite (.service h.session) addr 15 value = (v, n) ∧ n ≠ 0) ∧
    (∃ (h : SvcHead) (s : State) (u : State), s.svcOpen h 0x05 = true ∧ u = s.svcNoted h 0x05) ∧
    (∃ (h : SvcHead) (s : State) (u : State), s.svcOpen h 0x06 = true ∧ u = s.svcNoted h 0x06) ∧
    (∃ (h : SvcHead) (f : Nat) (len : Nat) (s : State) (u : State), s.svcOpen h 0x07 = true ∧ u = s.svcNoted h 0x07 ∧
      isRecord f = true ∧ len ≤ 1024) ∧
    (∃ (h : SvcHead) (f : Nat) (off : Nat) (piece : Bytes) (v : Bytes) (s : State) (u : State), s.svcOpen h 0x07 = true ∧
      u = s.svcNoted h 0x07 ∧ (f = 0xF001 ∨ f = 0xF030 ∨ f = 0xF040) ∧ piece.length ≤ 1024 ∧
      v = layPiece (u.cfg.pieces.getD f []) piece off ∧ v.length ≤ 65535) ∧
    (∃ (h : SvcHead) (f : Nat) (off : Nat) (piece : Bytes) (v : Bytes) (al : List Nat) (table : List RackEntry) (s : State) (u : State) (w : State) (x : State),
      s.svcOpen h 0x07 = true ∧ u = s.svcNoted h 0x07 ∧ (f = 0xF001 ∨ f = 0xF030 ∧ rackTableOk table = true ∨ f = 0xF040) ∧
      piece.length ≤ 1024 ∧ v = layPiece (u.cfg.pieces.getD f []) piece off ∧ v.length ≤ 65535 ∧ v ≠ [] ∧
      w = { u with cfg := { u.cfg with pieces := u.cfg.pieces.del f } } ∧
      w.commitData (w.cfg.data.withRecord f v al table) = some x) ∧
    (∃ (h : SvcHead) (s : State) (u : State), s.svcOpen h 0x08 = true ∧ u = s.svcNoted h 0x08) ∧
    (∃ (h : SvcHead) (r : Nat) (first : Nat) (count : Nat) (k : Nat) (e : Nat) (b : Bytes) (s : State) (u : State),
      s.svcOpen h 0x30 = true ∧ u = s.svcNoted h 0x30 ∧ 1 ≤ r ∧ r ≤ 3 ∧ count ≠ 0 ∧ count ≤ (if r = 1 then 20 else 10) ∧
      (r = 1 ∨ u.rst.svcWait = false) ∧ ringRecords u r count first 0 [] = (k, e, b)) ∧
    (∃ (h : SvcHead) (s : State) (u : State), s.svcOpen h 0x31 = true ∧ u = s.svcNoted h 0x31) ∧
    (∃ (s : State), s.svcPort = true ∧ s.cfg.data.svcKey = none) ∧
    (∃ (key : Bytes) (s : State) (u : State) (v : State), s.svcPort = true ∧ s.rst.svcWait = false ∧ s.cfg.data.svcKey = none ∧
      s.mnt.confirmed = true ∧ u = s.note 0x70 (le 2 0x32) ∧
      u.commitData { u.cfg.data with svcKey := some (u.wrapKeyAs 2 key) } = some v) ∧
    (∃ (h : SvcHead) (key : Bytes) (s : State) (u : State) (v : State), s.svcOpen h 0x32 = true ∧ u = s.svcNoted h 0x32 ∧
      u.commitData { u.cfg.data with svcKey := some (u.wrapKeyAs 2 key) } = some v) :=
  ⟨⟨(⟨1, [], []⟩ : WrappedKey), upCfg (fun d => { d with svcKey := some ⟨1, [], []⟩ }), by decide, by decide, by decide⟩,
   ⟨(⟨1, [], []⟩ : WrappedKey),
     ({ upCfg (fun d => { d with svcKey := some ⟨1, [], []⟩ }) with mnt := { up.mnt with sessions := ⟨[(1, ⟨[], 4, [], 0⟩), (2, ⟨[], 4, [], 0⟩), (3, ⟨[], 4, [], 0⟩), (4, ⟨[], 4, [], 0⟩)]⟩ } } : State),
     by decide, by decide, by decide⟩,
   ⟨up, by decide⟩,
   ⟨1, (⟨[], 4, [], 0⟩ : Session), up, by decide⟩,
   ⟨hd, 0x20038, 256, (readDwords (.service (hd).session) (256) (0x20038) ((up).svcNoted (hd) 0x03) []).2, up,
     (up).svcNoted (hd) 0x03, (readDwords (.service (hd).session) (256) (0x20038) ((up).svcNoted (hd) 0x03) []).1, by decide, rfl,
     by decide, by decide, by decide, pairE_of _⟩,
   ⟨hd, 0x20038, 0,
     (((((up).svcNoted (hd) 0x04).busWrite (.service (hd).session) (0x20038) 15 (0)).1).regRead (.service (hd).session) (0x20038) 15).2,
     up, (up).svcNoted (hd) 0x04, (((up).svcNoted (hd) 0x04).busWrite (.service (hd).session) (0x20038) 15 (0)).1,
     (((((up).svcNoted (hd) 0x04).busWrite (.service (hd).session) (0x20038) 15 (0)).1).regRead (.service (hd).session) (0x20038) 15).1,
     by decide, rfl, by decide, pairZ_of _ (by decide), pairE_of _⟩,
   ⟨hd, 0x800001, (((up).svcNoted (hd) 0x04).busWrite (.service (hd).session) (0x800001) 15 (0)).2, 0, up,
     (up).svcNoted (hd) 0x04, (((up).svcNoted (hd) 0x04).busWrite (.service (hd).session) (0x800001) 15 (0)).1, by decide, rfl,
     by decide, pairE_of _, by decide⟩,
   ⟨hd, up, (up).svcNoted (hd) 0x05, by decide, rfl⟩,
   ⟨hd, up, (up).svcNoted (hd) 0x06, by decide, rfl⟩,
   ⟨hd, 0xF040, 1024, up, (up).svcNoted (hd) 0x07, by decide, rfl, by decide, by decide⟩,
   ⟨hd, 0xF040, 16, ([1, 2] : Bytes), (layPiece (((up).svcNoted (hd) 0x07).cfg.pieces.getD (0xF040) []) ([1, 2] : Bytes) (16)),
     up, (up).svcNoted (hd) 0x07, by decide, rfl, by decide, by decide, rfl, by decide⟩,
   ⟨hd, 0xF040, 16, ([1, 2] : Bytes), (layPiece (((up).svcNoted (hd) 0x07).cfg.pieces.getD (0xF040) []) ([1, 2] : Bytes) (16)),
     ([] : List Nat), ([] : List RackEntry), up, (up).svcNoted (hd) 0x07,
     { ((up).svcNoted (hd) 0x07) with cfg := { ((up).svcNoted (hd) 0x07).cfg with pieces := ((up).svcNoted (hd) 0x07).cfg.pieces.del (0xF040) } },
     ((({ ((up).svcNoted (hd) 0x07) with cfg := { ((up).svcNoted (hd) 0x07).cfg with pieces := ((up).svcNoted (hd) 0x07).cfg.pieces.del (0xF040) } }).commitData (({ ((up).svcNoted (hd) 0x07) with cfg := { ((up).svcNoted (hd) 0x07).cfg with pieces := ((up).svcNoted (hd) 0x07).cfg.pieces.del (0xF040) } }).cfg.data.withRecord (0xF040) (layPiece (((up).svcNoted (hd) 0x07).cfg.pieces.getD (0xF040) []) ([1,
     2] : Bytes) (16)) ([] : List Nat) ([] : List RackEntry))).get (by decide)), by decide, rfl, by decide, by decide, rfl,
     by decide, by decide, rfl, get_of _ _⟩,
   ⟨hd, up, (up).svcNoted (hd) 0x08, by decide, rfl⟩,
   ⟨hd, 1, 0, 20, (ringRecords ((up).svcNoted (hd) 0x30) (1) (20) (0) 0 []).1,
     (ringRecords ((up).svcNoted (hd) 0x30) (1) (20) (0) 0 []).2.1, (ringRecords ((up).svcNoted (hd) 0x30) (1) (20) (0) 0 []).2.2,
     up, (up).svcNoted (hd) 0x30, by decide, rfl, by decide, by decide, by decide, by decide, by decide, tripE_of _⟩,
   ⟨hd, up, (up).svcNoted (hd) 0x31, by decide, rfl⟩,
   ⟨up, by decide, by decide⟩,
   ⟨kd0, upMnt (fun m => { m with confirmed := true }), (upMnt (fun m => { m with confirmed := true })).note 0x70 (le 2 0x32),
     (((upMnt (fun m => { m with confirmed := true })).note 0x70 (le 2 0x32)).commitData { ((upMnt (fun m => { m with confirmed := true })).note 0x70 (le 2 0x32)).cfg.data with svcKey := some (((upMnt (fun m => { m with confirmed := true })).note 0x70 (le 2 0x32)).wrapKeyAs 2 (kd0)) }).get (by decide),
     by decide, by decide, by decide, by decide, rfl, get_of _ _⟩,
   ⟨hd, kd0, up, (up).svcNoted (hd) 0x32,
     (((up).svcNoted (hd) 0x32).commitData { ((up).svcNoted (hd) 0x32).cfg.data with svcKey := some (((up).svcNoted (hd) 0x32).wrapKeyAs 2 (kd0)) }).get (by decide),
     by decide, rfl, get_of _ _⟩⟩

theorem wit_ImageMessagesTakeEffect :
    (∃ (h : SvcHead) (len : Nat) (s : State) (u : State), s.svcOpen h 0x10 = true ∧ u = s.svcNoted h 0x10 ∧ len ≠ 0 ∧
      len % 4096 = 0 ∧ len ≤ 48 * 2 ^ 20 ∧ u.mnt.activation = none ∧
      (match u.mnt.install with | some i => i.session | none => h.session) = h.session) ∧
    (∃ (h : SvcHead) (off : Nat) (piece : Bytes) (i : Install) (j : Install) (s : State) (u : State), s.svcOpen h 0x11 = true ∧
      u = s.svcNoted h 0x11 ∧ u.mnt.install = some i ∧ i.session = h.session ∧ off % 1024 = 0 ∧ piece.length = 1024 ∧
      off + 1024 ≤ i.length ∧ j = { i with got := i.got.writeN off piece, have_ := (off :: i.have_).eraseDups }) ∧
    (∃ (h : SvcHead) (i : Install) (s : State) (u : State) (v : State), s.svcOpen h 0x12 = true ∧ u = s.svcNoted h 0x12 ∧
      u.mnt.install = some i ∧ i.session = h.session ∧ v = { u with mnt := { u.mnt with install := none } }) ∧
    (∃ (h : SvcHead) (g : Nat) (n : Nat) (k : Nat) (x : ImageInfo) (s : State) (u : State) (v : State), s.svcOpen h 0x13 = true ∧
      u = s.svcNoted h 0x13 ∧ (g = 0xFF ∨ 1 ≤ g ∧ g ≤ 9 ∧ u.rst.svcWait = false ∧ x.sections.has g = true ∧
      x.major = u.mnt.major) ∧ u.mnt.images.get? (1 - u.mnt.slotOf g) = some x ∧ u.fuses.secVer ≤ x.secVer ∧
      u.mnt.activation = none ∧ u.arrivalOf 8 none g h.force (some (h.session, h.request)) = (v, n, k)) ∧
    (∃ (d : Nat) (a : Activation) (s : State), s.mnt.activation = some a ∧ a.healthAt = some d ∧ a.phase = 4) ∧
    (∃ (h : SvcHead) (s : State) (u : State), s.svcOpen h 0x14 = true ∧ u = s.svcNoted h 0x14 ∧ u.mnt.trial = 0 ∧
      u.mnt.activation = none ∧ (u.mnt.active = 0 ∨ u.mnt.active = 0x1FF) ∧ u.fuses.secVer ≤ u.slotSecVer (u.mnt.active % 2) ∧
      u.slotSecVer (u.mnt.active % 2) ≤ 32) :=
  ⟨⟨hd, 48 * 2 ^ 20, up, (up).svcNoted (hd) 0x10, by decide, rfl, by decide, by decide, by decide, by decide, by decide⟩,
   ⟨hd, 3072, List.replicate 1024 1#8, (⟨1, 1, 4096, .empty, [], []⟩ : Install),
     ({ (⟨1, 1, 4096, .empty, [], []⟩ : Install) with got := (⟨1, 1, 4096, .empty, [], []⟩ : Install).got.writeN (3072) (List.replicate 1024 1#8), have_ := ((3072) :: (⟨1, 1, 4096, .empty, [], []⟩ : Install).have_).eraseDups }),
     upMnt (fun m => { m with install := some ⟨1, 1, 4096, .empty, [], []⟩ }),
     (upMnt (fun m => { m with install := some ⟨1, 1, 4096, .empty, [], []⟩ })).svcNoted (hd) 0x11, by decide, rfl, by decide,
     by decide, by decide, (by decide +kernel), by decide, rfl⟩,
   ⟨hd, (⟨1, 1, 4096, .empty, [], [0]⟩ : Install), upMnt (fun m => { m with install := some ⟨1, 1, 4096, .empty, [], [0]⟩ }),
     (upMnt (fun m => { m with install := some ⟨1, 1, 4096, .empty, [], [0]⟩ })).svcNoted (hd) 0x12,
     { ((upMnt (fun m => { m with install := some ⟨1, 1, 4096, .empty, [], [0]⟩ })).svcNoted (hd) 0x12) with mnt := { ((upMnt (fun m => { m with install := some ⟨1, 1, 4096, .empty, [], [0]⟩ })).svcNoted (hd) 0x12).mnt with install := none } },
     by decide, rfl, by decide, by decide, rfl⟩,
   ⟨hd, 0xFF,
     (((upMnt (fun m => { m with images := ⟨[(1, ⟨1, 0, 1, 0, .empty⟩)]⟩ })).svcNoted (hd) 0x13).arrivalOf 8 none (0xFF) (hd).force (some ((hd).session,
     (hd).request))).2.1,
     (((upMnt (fun m => { m with images := ⟨[(1, ⟨1, 0, 1, 0, .empty⟩)]⟩ })).svcNoted (hd) 0x13).arrivalOf 8 none (0xFF) (hd).force (some ((hd).session,
     (hd).request))).2.2, (⟨1, 0, 1, 0, .empty⟩ : ImageInfo), upMnt (fun m => { m with images := ⟨[(1, ⟨1, 0, 1, 0, .empty⟩)]⟩ }),
     (upMnt (fun m => { m with images := ⟨[(1, ⟨1, 0, 1, 0, .empty⟩)]⟩ })).svcNoted (hd) 0x13,
     (((upMnt (fun m => { m with images := ⟨[(1, ⟨1, 0, 1, 0, .empty⟩)]⟩ })).svcNoted (hd) 0x13).arrivalOf 8 none (0xFF) (hd).force (some ((hd).session,
     (hd).request))).1, by decide, rfl, by decide, by decide, by decide, by decide, tripE_of _⟩,
   ⟨1, (⟨0xFF, 4, 1, false, some 1, false⟩ : Activation),
     upMnt (fun m => { m with activation := some ⟨0xFF, 4, 1, false, some 1, false⟩ }), by decide, by decide, by decide⟩,
   ⟨hd, upMnt (fun m => { m with images := ⟨[(0, ⟨1, 32, 1, 0, .empty⟩)]⟩ }),
     (upMnt (fun m => { m with images := ⟨[(0, ⟨1, 32, 1, 0, .empty⟩)]⟩ })).svcNoted (hd) 0x14, by decide, rfl, by decide,
     by decide, by decide, by decide, by decide⟩⟩

theorem wit_ActivitiesTakeEffect :
    (∃ (h : SvcHead) (c : Nat) (n : Nat) (k : Nat) (s : State) (u : State) (v : State), s.svcOpen h 0x20 = true ∧
      u = s.svcNoted h 0x20 ∧ (c = 1 ∨ c = 2) ∧ u.arrivalOf c none 0 h.force (some (h.session, h.request)) = (v, n, k)) ∧
    (∃ (h : SvcHead) (n : Nat) (k : Nat) (s : State) (u : State) (v : State), s.svcOpen h 0x20 = true ∧ u = s.svcNoted h 0x20 ∧
      u.standsBy = true ∧ u.arrivalOf 10 none 0 h.force (some (h.session, h.request)) = (v, n, k)) ∧
    (∃ (h : SvcHead) (bed : Nat) (x : Bed) (s : State) (u : State), s.svcOpen h 0x20 = true ∧ u = s.svcNoted h 0x20 ∧
      u.beds.get? bed = some x ∧ x.owned = true ∧ x.mounted = true ∧ x.st ≠ 3 ∧ x.st ≠ 4) ∧
    (∃ (h : SvcHead) (k : Nat) (a : Activity) (s : State) (u : State), s.svcOpen h 0x20 = true ∧ u = s.svcNoted h 0x20 ∧
      u.mnt.acts.find? (fun a => a.handle = k) = some a ∧ a.st = 1) ∧
    (∃ (h : SvcHead) (s : State) (u : State), s.svcOpen h 0x20 = true ∧ u = s.svcNoted h 0x20) ∧
    (∃ (k : Nat) (a : Activity) (s : State) (u : State), s.mnt.acts.find? (fun a => a.handle = k && a.st = 1) = some a ∧
      u = s.setActs (s.mnt.acts.filter (fun x => x.handle ≠ k)) ∧ s.lapsed a = false) ∧
    (∃ (k : Nat) (a : Activity) (s : State) (u : State), s.mnt.acts.find? (fun a => a.handle = k && a.st = 1) = some a ∧
      u = s.setActs (s.mnt.acts.filter (fun x => x.handle ≠ k)) ∧ s.lapsed a = true) :=
  ⟨⟨hd, 1, (((up).svcNoted (hd) 0x20).arrivalOf (1) none 0 (hd).force (some ((hd).session, (hd).request))).2.1,
     (((up).svcNoted (hd) 0x20).arrivalOf (1) none 0 (hd).force (some ((hd).session, (hd).request))).2.2, up,
     (up).svcNoted (hd) 0x20, (((up).svcNoted (hd) 0x20).arrivalOf (1) none 0 (hd).force (some ((hd).session, (hd).request))).1,
     by decide, rfl, by decide, tripE_of _⟩,
   ⟨hd, (((standby).svcNoted (hd) 0x20).arrivalOf 10 none 0 (hd).force (some ((hd).session, (hd).request))).2.1,
     (((standby).svcNoted (hd) 0x20).arrivalOf 10 none 0 (hd).force (some ((hd).session, (hd).request))).2.2, standby,
     (standby).svcNoted (hd) 0x20, (((standby).svcNoted (hd) 0x20).arrivalOf 10 none 0 (hd).force (some ((hd).session,
     (hd).request))).1, by decide, rfl, by decide, tripE_of _⟩,
   ⟨hd, 0, bd0, host, (host).svcNoted (hd) 0x20, by decide, rfl, by decide, by decide, by decide, by decide, by decide⟩,
   ⟨hd, 1, ac0, upMnt (fun m => { m with acts := [ac0] }), (upMnt (fun m => { m with acts := [ac0] })).svcNoted (hd) 0x20,
     by decide, rfl, by decide, by decide⟩,
   ⟨hd, up, (up).svcNoted (hd) 0x20, by decide, rfl⟩,
   ⟨1, ac0, upMnt (fun m => { m with acts := [ac0] }),
     (upMnt (fun m => { m with acts := [ac0] })).setActs ((upMnt (fun m => { m with acts := [ac0] })).mnt.acts.filter (fun x => x.handle ≠ (1))),
     by decide, rfl, by decide⟩,
   ⟨1, ac0,
     ({ upMnt (fun m => { m with acts := [ac0] }) with cmd := { CmdSt.init with selfTest := some ⟨1, 0, 0, 0, some 1, none, 0, 0, 0, [], none, 0, none⟩ } } : State),
     (({ upMnt (fun m => { m with acts := [ac0] }) with cmd := { CmdSt.init with selfTest := some ⟨1, 0, 0, 0, some 1, none, 0, 0, 0, [], none, 0, none⟩ } } : State).setActs (({ upMnt (fun m => { m with acts := [ac0] }) with cmd := { CmdSt.init with selfTest := some ⟨1, 0, 0, 0, some 1, none, 0, 0, 0, [], none, 0, none⟩ } } : State).mnt.acts.filter (fun x => x.handle ≠ (1)))),
     by decide, rfl, by decide⟩⟩

theorem wit_BedMessagesTakeEffect :
    (∃ (h : SvcHead) (c : BedCreate) (k : Nat) (s : State) (u : State) (v : State), s.svcOpen h 0x21 = true ∧
      u = s.svcNoted h 0x21 ∧ createFits c = true ∧ u.beds.get? c.bed = none ∧ u.shelf.st = .awake ∧ (∀ m,
      m < c.members → u.createRefusal c m = 0) ∧ bedBands c.hMib (createE c) (c.drives.map (·.sectors)) = some k ∧
      u.commitData { u.cfg.data with beds := u.cfg.data.beds.put c.bed ⟨c.bedId, u.fuses.serial, [], false⟩ } = some v) ∧
    (∃ (h : SvcHead) (b : Nat) (x : Bed) (s : State) (u : State) (v : State), s.svcOpen h 0x21 = true ∧ u = s.svcNoted h 0x21 ∧
      u.beds.get? b = some x ∧ x.owned = true ∧ (u.cfg.data.ns.vals.any (fun n => n.bed = b)) = false ∧
      u.commitData { u.cfg.data with beds := u.cfg.data.beds.del b } = some v) ∧
    (∃ (h : SvcHead) (b : Nat) (m : Nat) (slot : Nat) (n : Nat) (k : Nat) (x : Bed) (d : DriveInfo) (s : State) (u : State) (v : State),
      s.svcOpen h 0x21 = true ∧ u = s.svcNoted h 0x21 ∧ u.beds.get? b = some x ∧ (u.port slot).info = some d ∧ m < x.n ∧
      slot < 24 ∧ x.owned = true ∧ u.shelf.st = .awake ∧ downSt (x.memberSt m) = true ∧
      (slot = x.slotOf m ∨ u.beds.vals.all (fun y => y.members.vals.all (fun z => z.slot ≠ slot)) = true) ∧
      refusal d (x.needSectors m) true = 0 ∧ u.admitDrive b m slot d h.force (some (h.session, h.request)) = (v, n, k)) ∧
    (∃ (h : SvcHead) (b : Nat) (x : Bed) (s : State) (u : State), s.svcOpen h 0x21 = true ∧ u = s.svcNoted h 0x21 ∧
      u.beds.get? b = some x ∧ x.owned = true ∧ x.st = 3 ∧ (u.bedRec b).full = false) ∧
    (∃ (h : SvcHead) (b : Nat) (x : Bed) (s : State) (u : State), s.svcOpen h 0x21 = true ∧ u = s.svcNoted h 0x21 ∧
      u.beds.get? b = some x ∧ x.owned = true ∧ x.mounted = true ∧ u.shelf.st = .awake) ∧
    (∃ (h : SvcHead) (b : Nat) (x : Bed) (s : State) (u : State), s.svcOpen h 0x21 = true ∧ u = s.svcNoted h 0x21 ∧
      u.beds.get? b = some x ∧ x.owned = true ∧ x.peerJoined = true ∧ x.detached = false ∧ u.shelf.st = .awake ∧
      u.shelf.peerState = 0 ∧ u.gus.handover = none) ∧
    (∃ (h : SvcHead) (nsid : Nat) (floor : Nat) (high : Nat) (n : Namespace) (s : State) (u : State) (v : State),
      s.svcOpen h 0x22 = true ∧ u = s.svcNoted h 0x22 ∧ u.cfg.data.ns.get? nsid = some n ∧ u.epochsOf nsid = (floor, high) ∧
      high < 0xFFFFFFFF ∧ u.setEpochs nsid n (high + 1) floor (high + 1) = some v) ∧
    (∃ (h : SvcHead) (nsid : Nat) (r : Nat) (k : Nat) (n : Namespace) (s : State) (u : State) (v : State),
      s.svcOpen h 0x22 = true ∧ u = s.svcNoted h 0x22 ∧ u.cfg.data.ns.get? nsid = some n ∧ n.epoch ≠ (u.epochsOf nsid).1 ∧
      u.arrivalOf 7 (some n.bed) nsid h.force (some (h.session, h.request)) = (v, r, k)) ∧
    (∃ (h : SvcHead) (nsid : Nat) (e : Nat) (floor : Nat) (high : Nat) (n : Namespace) (x : Bed) (s : State) (u : State) (v : State),
      s.svcOpen h 0x22 = true ∧ u = s.svcNoted h 0x22 ∧ u.cfg.data.ns.get? nsid = some n ∧ u.epochsOf nsid = (floor, high) ∧
      e < n.epoch ∧ u.beds.get? n.bed = some x ∧ (x.index.any (fun i => i.nsid = nsid && i.epoch ≤ e && u.objHeld i)) = false ∧
      u.setEpochs nsid n n.epoch (max floor (e + 1)) high = some v) :=
  ⟨⟨hd, bc0, 131052, up, (up).svcNoted (hd) 0x21,
     (((up).svcNoted (hd) 0x21).commitData { ((up).svcNoted (hd) 0x21).cfg.data with beds := ((up).svcNoted (hd) 0x21).cfg.data.beds.put (bc0).bed ⟨(bc0).bedId, ((up).svcNoted (hd) 0x21).fuses.serial, [], false⟩ }).get (by decide),
     by decide, rfl, by decide +kernel, by decide, by decide, by decide, by decide +kernel, get_of _ _⟩,
   ⟨hd, 0, bd0, ({ host with cfg := CfgSt.init } : State), (({ host with cfg := CfgSt.init } : State).svcNoted (hd) 0x21),
     (((({ host with cfg := CfgSt.init } : State).svcNoted (hd) 0x21).commitData { (({ host with cfg := CfgSt.init } : State).svcNoted (hd) 0x21).cfg.data with beds := (({ host with cfg := CfgSt.init } : State).svcNoted (hd) 0x21).cfg.data.beds.del (0) }).get (by decide)),
     by decide, rfl, by decide, by decide, by decide, get_of _ _⟩,
   ⟨hd, 0, 3, 3,
     ((((hostBed { bd0 with members := ⟨[(3, { mb 3 with st := 1 })]⟩ }).setPort 3 { DrvPort.init with info := some di }).svcNoted (hd) 0x21).admitDrive (0) (3) (3) (di) (hd).force (some ((hd).session,
     (hd).request))).2.1,
     ((((hostBed { bd0 with members := ⟨[(3, { mb 3 with st := 1 })]⟩ }).setPort 3 { DrvPort.init with info := some di }).svcNoted (hd) 0x21).admitDrive (0) (3) (3) (di) (hd).force (some ((hd).session,
     (hd).request))).2.2, ({ bd0 with members := ⟨[(3, { mb 3 with st := 1 })]⟩ } : Bed), di,
     (hostBed { bd0 with members := ⟨[(3, { mb 3 with st := 1 })]⟩ }).setPort 3 { DrvPort.init with info := some di },
     ((hostBed { bd0 with members := ⟨[(3, { mb 3 with st := 1 })]⟩ }).setPort 3 { DrvPort.init with info := some di }).svcNoted (hd) 0x21,
     ((((hostBed { bd0 with members := ⟨[(3, { mb 3 with st := 1 })]⟩ }).setPort 3 { DrvPort.init with info := some di }).svcNoted (hd) 0x21).admitDrive (0) (3) (3) (di) (hd).force (some ((hd).session,
     (hd).request))).1, by decide, rfl, by decide, by decide, by decide, by decide, by decide, by decide, by decide, by decide,
     by decide, tripE_of _⟩,
   ⟨hd, 0, ({ bd0 with st := 3 } : Bed), hostBed { bd0 with st := 3 }, (hostBed { bd0 with st := 3 }).svcNoted (hd) 0x21,
     by decide, rfl, by decide, by decide, by decide, by decide⟩,
   ⟨hd, 0, bd0, host, (host).svcNoted (hd) 0x21, by decide, rfl, by decide, by decide, by decide, by decide⟩,
   ⟨hd, 0, ({ bd0 with peerJoined := true } : Bed), hostBed { bd0 with peerJoined := true },
     (hostBed { bd0 with peerJoined := true }).svcNoted (hd) 0x21, by decide, rfl, by decide, by decide, by decide, by decide,
     by decide, by decide, by decide⟩,
   ⟨hd, 2, 0, 0, ns2, host, (host).svcNoted (hd) 0x22,
     (((host).svcNoted (hd) 0x22).setEpochs (2) (ns2) ((0) + 1) (0) ((0) + 1)).get (by decide), by decide, rfl, by decide,
     by decide, by decide, get_of _ _⟩,
   ⟨hd, 1,
     ((((upCfg (fun d => { d with ns := ⟨[(1, { ns1 with epoch := 1 })]⟩ })).svcNoted (hd) 0x22).arrivalOf 7 (some ({ ns1 with epoch := 1 } : Namespace).bed) (1) (hd).force (some ((hd).session,
     (hd).request))).2.1),
     ((((upCfg (fun d => { d with ns := ⟨[(1, { ns1 with epoch := 1 })]⟩ })).svcNoted (hd) 0x22).arrivalOf 7 (some ({ ns1 with epoch := 1 } : Namespace).bed) (1) (hd).force (some ((hd).session,
     (hd).request))).2.2), ({ ns1 with epoch := 1 } : Namespace),
     upCfg (fun d => { d with ns := ⟨[(1, { ns1 with epoch := 1 })]⟩ }),
     (upCfg (fun d => { d with ns := ⟨[(1, { ns1 with epoch := 1 })]⟩ })).svcNoted (hd) 0x22,
     ((((upCfg (fun d => { d with ns := ⟨[(1, { ns1 with epoch := 1 })]⟩ })).svcNoted (hd) 0x22).arrivalOf 7 (some ({ ns1 with epoch := 1 } : Namespace).bed) (1) (hd).force (some ((hd).session,
     (hd).request))).1), by decide, rfl, by decide, by decide, tripE_of _⟩,
   ⟨hd, 1, 0, 0, 0, ({ ns1 with epoch := 1 } : Namespace), bd0,
     ({ upCfg (fun d => { d with ns := ⟨[(1, { ns1 with epoch := 1 })]⟩ }) with beds := ⟨[(0, bd0)]⟩ } : State),
     (({ upCfg (fun d => { d with ns := ⟨[(1, { ns1 with epoch := 1 })]⟩ }) with beds := ⟨[(0, bd0)]⟩ } : State).svcNoted (hd) 0x22),
     (((({ upCfg (fun d => { d with ns := ⟨[(1, { ns1 with epoch := 1 })]⟩ }) with beds := ⟨[(0, bd0)]⟩ } : State).svcNoted (hd) 0x22).setEpochs (1) ({ ns1 with epoch := 1 } : Namespace) ({ ns1 with epoch := 1 } : Namespace).epoch (max (0) ((0) + 1)) (0)).get (by decide)),
     by decide, rfl, by decide, by decide, by decide, by decide, by decide, get_of _ _⟩⟩

theorem wit_KeyMessagesTakeEffect :
    (∃ (h : SvcHead) (s : State) (u : State), s.svcOpen h 0x23 = true ∧ u = s.svcNoted h 0x23) ∧
    (∃ (d : Nat) (s : State), s.cph.secretAt = some d) ∧
    (∃ (h : SvcHead) (s : State) (u : State) (v : State), s.svcOpen h 0x23 = true ∧ u = s.svcNoted h 0x23 ∧ u.keyState = 0 ∧
      v = State.installKey { u with mnt := { u.mnt with randoms := u.mnt.randoms + 2 }, cph := { u.cph with peerMatch := false } } (randomBytes u.mnt.randoms ++ randomBytes (u.mnt.randoms + 1))) ∧
    (∃ (h : SvcHead) (receiver : Nat) (sec : Bytes) (k : Bytes) (iv : Bytes) (st : KeyStore) (s : State) (u : State) (v : State),
      s.svcOpen h 0x23 = true ∧ u = s.svcNoted h 0x23 ∧ u.cph.secret = some sec ∧ u.cph.kDomain = some k ∧ u.store = some st ∧
      u.keyState = 1 ∧ u.gus.link = true ∧ iv = (randomBytes u.mnt.randoms).take 12 ∧
      v = State.gusControl { u with mnt := { u.mnt with randoms := u.mnt.randoms + 1 }, cph := { u.cph with pairing := some receiver } } 0xFF 8 (be 8 u.fuses.serial ++ be 8 receiver ++ iv ++ (gcmSeal (transportKey sec u.fuses.serial receiver) iv st.kcv k).1 ++ (gcmSeal (transportKey sec u.fuses.serial receiver) iv st.kcv k).2 ++ st.kcv)) ∧
    (∃ (h : SvcHead) (iv : Bytes) (sealed : Bytes) (tag : Bytes) (kcv : Bytes) (sec : Bytes) (k : Bytes) (s : State) (u : State) (v : State),
      s.svcOpen h 0x23 = true ∧ u = s.svcNoted h 0x23 ∧ u.cph.secret = some sec ∧ u.keyState = 0 ∧
      gcmOpen (transportKey sec 0 u.fuses.serial) iv kcv sealed tag = some k ∧ keyCheckValue k = kcv ∧
      v = State.keyNote (State.installKey { u with cph := { u.cph with secret := none, secretAt := none } } k)) ∧
    (∃ (h : SvcHead) (s : State) (u : State), s.svcOpen h 0x23 = true ∧ u = s.svcNoted h 0x23) :=
  ⟨⟨hd, up, (up).svcNoted (hd) 0x23, by decide, rfl⟩,
   ⟨1, ({ up with cph := { CphSt.init with secretAt := some 1 } } : State), by decide⟩,
   ⟨hd, up, (up).svcNoted (hd) 0x23,
     State.installKey { ((up).svcNoted (hd) 0x23) with mnt := { ((up).svcNoted (hd) 0x23).mnt with randoms := ((up).svcNoted (hd) 0x23).mnt.randoms + 2 }, cph := { ((up).svcNoted (hd) 0x23).cph with peerMatch := false } } (randomBytes ((up).svcNoted (hd) 0x23).mnt.randoms ++ randomBytes (((up).svcNoted (hd) 0x23).mnt.randoms + 1)),
     by decide, rfl, by decide, rfl⟩,
   ⟨hd, 2, kd0, kd0,
     ((randomBytes (({ up with cph := { CphSt.init with secret := some kd0, kDomain := some kd0, store0 := some { KeyStore.init with state := 1 }, store1 := none } } : State).svcNoted (hd) 0x23).mnt.randoms).take 12),
     ({ KeyStore.init with state := 1 } : KeyStore),
     ({ up with cph := { CphSt.init with secret := some kd0, kDomain := some kd0, store0 := some { KeyStore.init with state := 1 }, store1 := none } } : State),
     (({ up with cph := { CphSt.init with secret := some kd0, kDomain := some kd0, store0 := some { KeyStore.init with state := 1 }, store1 := none } } : State).svcNoted (hd) 0x23),
     (State.gusControl { (({ up with cph := { CphSt.init with secret := some kd0, kDomain := some kd0, store0 := some { KeyStore.init with state := 1 }, store1 := none } } : State).svcNoted (hd) 0x23) with mnt := { (({ up with cph := { CphSt.init with secret := some kd0, kDomain := some kd0, store0 := some { KeyStore.init with state := 1 }, store1 := none } } : State).svcNoted (hd) 0x23).mnt with randoms := (({ up with cph := { CphSt.init with secret := some kd0, kDomain := some kd0, store0 := some { KeyStore.init with state := 1 }, store1 := none } } : State).svcNoted (hd) 0x23).mnt.randoms + 1 }, cph := { (({ up with cph := { CphSt.init with secret := some kd0, kDomain := some kd0, store0 := some { KeyStore.init with state := 1 }, store1 := none } } : State).svcNoted (hd) 0x23).cph with pairing := some (2) } } 0xFF 8 (be 8 (({ up with cph := { CphSt.init with secret := some kd0, kDomain := some kd0, store0 := some { KeyStore.init with state := 1 }, store1 := none } } : State).svcNoted (hd) 0x23).fuses.serial ++ be 8 (2) ++ ((randomBytes (({ up with cph := { CphSt.init with secret := some kd0, kDomain := some kd0, store0 := some { KeyStore.init with state := 1 }, store1 := none } } : State).svcNoted (hd) 0x23).mnt.randoms).take 12) ++ (gcmSeal (transportKey (kd0) (({ up with cph := { CphSt.init with secret := some kd0, kDomain := some kd0, store0 := some { KeyStore.init with state := 1 }, store1 := none } } : State).svcNoted (hd) 0x23).fuses.serial (2)) ((randomBytes (({ up with cph := { CphSt.init with secret := some kd0, kDomain := some kd0, store0 := some { KeyStore.init with state := 1 }, store1 := none } } : State).svcNoted (hd) 0x23).mnt.randoms).take 12) ({ KeyStore.init with state := 1 } : KeyStore).kcv (kd0)).1 ++ (gcmSeal (transportKey (kd0) (({ up with cph := { CphSt.init with secret := some kd0, kDomain := some kd0, store0 := some { KeyStore.init with state := 1 }, store1 := none } } : State).svcNoted (hd) 0x23).fuses.serial (2)) ((randomBytes (({ up with cph := { CphSt.init with secret := some kd0, kDomain := some kd0, store0 := some { KeyStore.init with state := 1 }, store1 := none } } : State).svcNoted (hd) 0x23).mnt.randoms).take 12) ({ KeyStore.init with state := 1 } : KeyStore).kcv (kd0)).2 ++ ({ KeyStore.init with state := 1 } : KeyStore).kcv)),
     by decide, rfl, by decide, by decide, by decide, by decide, by decide, rfl, rfl⟩,
   ⟨hd, zeros 12, ke.1, ke.2, keyCheckValue kd0, kd0, kd0, ({ up with cph := { CphSt.init with secret := some kd0 } } : State),
     (({ up with cph := { CphSt.init with secret := some kd0 } } : State).svcNoted (hd) 0x23),
     (State.keyNote (State.installKey { (({ up with cph := { CphSt.init with secret := some kd0 } } : State).svcNoted (hd) 0x23) with cph := { (({ up with cph := { CphSt.init with secret := some kd0 } } : State).svcNoted (hd) 0x23).cph with secret := none, secretAt := none } } (kd0))),
     by decide, rfl, by decide, by decide, ke_ok, rfl, rfl⟩,
   ⟨hd, up, (up).svcNoted (hd) 0x23, by decide, rfl⟩⟩

theorem wit_FleetMessagesTakeEffect :
    (∃ (h : SvcHead) (off : Nat) (piece : Bytes) (v : Bytes) (s : State) (u : State), s.svcOpen h 0x24 = true ∧
      u = s.svcNoted h 0x24 ∧ piece.length ≤ 1024 ∧ v = layPiece (u.mnt.rackPieces.getD 0 []) piece off ∧ v.length ≤ 65535) ∧
    (∃ (h : SvcHead) (off : Nat) (piece : Bytes) (v : Bytes) (table : List RackEntry) (s : State) (u : State) (w : State) (x : State),
      s.svcOpen h 0x24 = true ∧ u = s.svcNoted h 0x24 ∧ piece.length ≤ 1024 ∧
      v = layPiece (u.mnt.rackPieces.getD 0 []) piece off ∧ v.length ≤ 65535 ∧ rackTableOk table = true ∧
      w = { u with mnt := { u.mnt with rackPieces := .empty } } ∧ w.commitData (w.cfg.data.withRecord 0xF030 v [] table) = some x) ∧
    (∃ (h : SvcHead) (key : Bytes) (s : State) (u : State) (v : State), s.svcOpen h 0x24 = true ∧ u = s.svcNoted h 0x24 ∧
      u.commitData { u.cfg.data with rackKey := some (u.wrapKeyAs 1 key) } = some v) ∧
    (∃ (h : SvcHead) (s : State) (u : State), s.svcOpen h 0x24 = true ∧ u = s.svcNoted h 0x24 ∧ u.rack.role = 2) ∧
    (∃ (h : SvcHead) (s : State) (u : State), s.svcOpen h 0x24 = true ∧ u = s.svcNoted h 0x24) ∧
    (∃ (h : SvcHead) (pos : Nat) (id : Nat) (name : Bytes) (s : State) (u : State) (v : State), s.svcOpen h 0x25 = true ∧
      u = s.svcNoted h 0x25 ∧ pos < 4096 ∧ id ≠ 0 ∧ name.length ≤ 32 ∧
      (u.cfg.data.tenants.entries.any (fun e => e.1 ≠ pos && e.2.id = id)) = false ∧
      u.commitData { u.cfg.data with tenants := u.cfg.data.tenants.put pos (match u.cfg.data.tenants.get? pos with | some t => { t with id := id, name := name } | none => { id := id, name := name, prefixes := [], suspended := false }) } = some v) ∧
    (∃ (h : SvcHead) (pos : Nat) (x : Tenant) (s : State) (u : State), s.svcOpen h 0x25 = true ∧ u = s.svcNoted h 0x25 ∧
      u.cfg.data.tenants.get? pos = some x) ∧
    (∃ (h : SvcHead) (pos : Nat) (w : Nat) (x : Tenant) (y : Win) (a : Assoc) (s : State) (u : State), s.svcOpen h 0x25 = true ∧
      u = s.svcNoted h 0x25 ∧ u.cfg.data.tenants.get? pos = some x ∧ u.slu.windows.get? w = some y ∧
      u.cmd.assocs.get? y.assoc = some a ∧ a.tenant = pos) :=
  ⟨⟨hd, 16, ([1, 2] : Bytes), (layPiece (((up).svcNoted (hd) 0x24).mnt.rackPieces.getD 0 []) ([1, 2] : Bytes) (16)), up,
     (up).svcNoted (hd) 0x24, by decide, rfl, by decide, rfl, (by decide +kernel)⟩,
   ⟨hd, 16, ([1, 2] : Bytes), (layPiece (((up).svcNoted (hd) 0x24).mnt.rackPieces.getD 0 []) ([1, 2] : Bytes) (16)),
     ([] : List RackEntry), up, (up).svcNoted (hd) 0x24,
     { ((up).svcNoted (hd) 0x24) with mnt := { ((up).svcNoted (hd) 0x24).mnt with rackPieces := .empty } },
     ((({ ((up).svcNoted (hd) 0x24) with mnt := { ((up).svcNoted (hd) 0x24).mnt with rackPieces := .empty } }).commitData (({ ((up).svcNoted (hd) 0x24) with mnt := { ((up).svcNoted (hd) 0x24).mnt with rackPieces := .empty } }).cfg.data.withRecord 0xF030 (layPiece (((up).svcNoted (hd) 0x24).mnt.rackPieces.getD 0 []) ([1,
     2] : Bytes) (16)) [] ([] : List RackEntry))).get (by decide)), by decide, rfl, by decide, rfl, (by decide +kernel),
     by decide, rfl, get_of _ _⟩,
   ⟨hd, kd0, up, (up).svcNoted (hd) 0x24,
     (((up).svcNoted (hd) 0x24).commitData { ((up).svcNoted (hd) 0x24).cfg.data with rackKey := some (((up).svcNoted (hd) 0x24).wrapKeyAs 1 (kd0)) }).get (by decide),
     by decide, rfl, get_of _ _⟩,
   ⟨hd, rackUp 2 none 5, (rackUp 2 none 5).svcNoted (hd) 0x24, by decide, rfl, by decide⟩,
   ⟨hd, up, (up).svcNoted (hd) 0x24, by decide, rfl⟩,
   ⟨hd, 4095, 1, List.replicate 32 65, up, (up).svcNoted (hd) 0x25,
     (((up).svcNoted (hd) 0x25).commitData { ((up).svcNoted (hd) 0x25).cfg.data with tenants := ((up).svcNoted (hd) 0x25).cfg.data.tenants.put (4095) (match ((up).svcNoted (hd) 0x25).cfg.data.tenants.get? (4095) with | some t => { t with id := (1), name := (List.replicate 32 65) } | none => { id := (1), name := (List.replicate 32 65), prefixes := [], suspended := false }) }).get (by decide),
     by decide, rfl, by decide, by decide, by decide, by decide, get_of _ _⟩,
   ⟨hd, 4095, (⟨1, [], [[1]], false⟩ : Tenant), host, (host).svcNoted (hd) 0x25, by decide, rfl, by decide⟩,
   ⟨hd, 4095, 63, (⟨1, [], [[1]], false⟩ : Tenant), (⟨5, 1, 1, false, none, [], .empty⟩ : Win),
     ({ as0 with tenant := 4095 } : Assoc),
     ({ hostAs { as0 with tenant := 4095 } with slu := { SluSt.init with windows := ⟨[(63, ⟨5, 1, 1, false, none, [], .empty⟩)]⟩ } } : State),
     (({ hostAs { as0 with tenant := 4095 } with slu := { SluSt.init with windows := ⟨[(63, ⟨5, 1, 1, false, none, [], .empty⟩)]⟩ } } : State).svcNoted (hd) 0x25),
     by decide, rfl, by decide, by decide, by decide, by decide⟩⟩

theorem wit_UnitMessagesTakeEffect :
    (∃ (h : SvcHead) (src : Nat) (s : State) (u : State), s.svcOpen h 0x26 = true ∧ u = s.svcNoted h 0x26 ∧ u.listed src = true) ∧
    (∃ (h : SvcHead) (s : State) (u : State), s.svcOpen h 0x26 = true ∧ u = s.svcNoted h 0x26) ∧
    (∃ (h : SvcHead) (c : Nat) (s : State) (u : State), s.svcOpen h 0x26 = true ∧ u = s.svcNoted h 0x26 ∧ c ≠ 0 ∧
      u.chansIn.contains c = true ∧ u.mapsFit (u.chansIn.filter (fun d => d ≠ c)) 0 = true) ∧
    (∃ (h : SvcHead) (d : RillDesc) (s : State) (u : State), s.svcOpen h 0x27 = true ∧ u = s.svcNoted h 0x27 ∧
      (match u.mnt.svcJob with | some j => j.session | none => h.session) = h.session ∧ d.inputAddr = 0 ∧ d.outputAddr = 0 ∧
      d.inputLen ≤ svcArea ∧ d.outputLen ≤ svcArea) ∧
    (∃ (h : SvcHead) (j : SvcJob) (s : State) (u : State), s.svcOpen h 0x27 = true ∧ u = s.svcNoted h 0x27 ∧
      u.mnt.svcJob = some j ∧ j.session = h.session) :=
  ⟨⟨hd, 0x200, up, (up).svcNoted (hd) 0x26, by decide, rfl, by decide⟩,
   ⟨hd, up, (up).svcNoted (hd) 0x26, by decide, rfl⟩,
   ⟨hd, 1,
     ((((up.setFld (F.DDR_STAT_TRAINED 0) 1).setFld (F.DDR_STAT_SIZE_GIB 0) 64).setFld (F.DDR_STAT_TRAINED 1) 1).setFld (F.DDR_STAT_SIZE_GIB 1) 64),
     (((((up.setFld (F.DDR_STAT_TRAINED 0) 1).setFld (F.DDR_STAT_SIZE_GIB 0) 64).setFld (F.DDR_STAT_TRAINED 1) 1).setFld (F.DDR_STAT_SIZE_GIB 1) 64)).svcNoted (hd) 0x26,
     by decide, rfl, by decide, by decide, by decide⟩,
   ⟨hd, (⟨3, 0, 0, 0, 0, 0, 1048712, 3, 0, 1048712, 7, 0⟩ : RillDesc), up, (up).svcNoted (hd) 0x27, by decide, rfl, by decide,
     by decide, by decide, by decide, by decide⟩,
   ⟨hd, (⟨1, ⟨3, 0, 0, 0, 0, 0, 16, 3, 0, 16, 7, 0⟩, .empty, []⟩ : SvcJob),
     upMnt (fun m => { m with svcJob := some ⟨1, ⟨3, 0, 0, 0, 0, 0, 16, 3, 0, 16, 7, 0⟩, .empty, []⟩ }),
     (upMnt (fun m => { m with svcJob := some ⟨1, ⟨3, 0, 0, 0, 0, 0, 16, 3, 0, 16, 7, 0⟩, .empty, []⟩ })).svcNoted (hd) 0x27,
     by decide, rfl, by decide, by decide⟩⟩

theorem wit_EveryStepGoesOn :
    (∃ (c : Instr) (rest : List Instr) (s : State) (t : State), s.pending = c :: rest ∧ step s = .next t) ∧
    (∃ (s : State) (t : State), step s = .next t) :=
  ⟨⟨(.slotGrant : Instr), ([] : List Instr), ({ up with pending := [.slotGrant] } : State),
     (nx (step ({ up with pending := [.slotGrant] } : State))), by decide, next_of _ (by decide)⟩,
   ⟨up, nx (step (up)), next_of _ (by decide)⟩⟩

theorem wit_MemoriesStayCanonical :
    (∃ (s : State) (t : State), s.memoryOk = true ∧ step s = .next t) :=
  ⟨up, nx (step (up)), by decide, next_of _ (by decide)⟩

theorem wit_SecurityVersionNeverFalls :
    (∃ (s : State) (t : State), step s = .next t) ∧
    (∃ (c : Instr) (s : State) (t : State), (∀ h, c ≠ .secverAdvance h) ∧ exec c s = .next t) :=
  ⟨⟨up, nx (step (up)), next_of _ (by decide)⟩,
   ⟨(.slotGrant : Instr), up, (nx (exec (.slotGrant : Instr) (up))), (by intro h e; cases e), next_of _ (by decide)⟩⟩

theorem wit_RillModeDStreamsDecode :
    (∃ (w : Nat) (bs : Bytes), w ≤ 10 ∧ bs ≠ []) :=
  ⟨10, ([0] : Bytes), by decide, by decide⟩

theorem wit_RillModePStreamsDecode :
    (∃ (param : Nat) (s : Nat) (bs : Bytes), param < 16 ∧ param % 4 ≠ 3 ∧ s < 65536 ∧ (2 ≤ param / 4 → s ≠ 0) ∧ bs ≠ []) :=
  ⟨14, 65535, ([0] : Bytes), by decide, by decide, by decide, by decide, by decide⟩

theorem wit_SealedRecordsOpen :
    (∃ (pt : Bytes) (magic : Nat) (epoch : Nat) (tenant : Nat) (nsid : Nat) (serial : Nat) (floor : Nat) (e : Nat),
      (magic = magicData ∨ magic = magicCommit ∨ magic = magicMap) ∧ epoch < 2 ^ 32 ∧ tenant < 2 ^ 32 ∧ nsid < 2 ^ 32 ∧
      serial < 2 ^ 64 ∧ pt.length < 2 ^ 32 ∧ floor ≤ epoch ∧ (e = 0 ∨ e = epoch)) :=
  ⟨([1] : Bytes), magicMap, 0xFFFFFFFF, 0xFFFFFFFF, 0xFFFFFFFF, 0xFFFFFFFFFFFFFFFF, 0xFFFFFFFF, 0, by decide, by decide,
    by decide, by decide, by decide, by decide, by decide, by decide⟩

theorem wit_RegisterNetworkAndSlotCommandsLeaveTheRest :
    (∃ (path : AccessPath) (addr : Nat) (be : Nat) (s : State) (t : State), exec (.readClearAccess path addr be) s = .next t) ∧
    (∃ (path : AccessPath) (addr : Nat) (s : State) (t : State), exec (.loReadLatch path addr) s = .next t) ∧
    (∃ (c : Instr) (s : State) (t : State), c.ofMonitor = true ∧ exec c s = .next t) ∧
    (∃ (c : Instr) (s : State) (t : State), c.ofNetwork = true ∧ exec c s = .next t) ∧
    (∃ (c : Instr) (s : State) (t : State), c.ofSlots = true ∧ exec c s = .next t) ∧
    (∃ (j : Nat) (k : Nat) (s : State) (t : State), j ≠ k ∧ exec (.raiseRequest k) s = .next t) ∧
    (∃ (j : Nat) (k : Nat) (s : State) (t : State), j ≠ k ∧ exec (.clearFault k) s = .next t) ∧
    (∃ (j : Nat) (k : Nat) (s : State) (t : State), j ≠ k ∧ exec (.slotTest k) s = .next t) ∧
    (∃ (j : Nat) (k : Nat) (s : State) (t : State), j ≠ k ∧ exec (.assertPwrdis k) s = .next t) ∧
    (∃ (j : Nat) (k : Nat) (level : Bool) (s : State) (t : State), j ≠ k ∧ exec (.presentPinEdge k level) s = .next t) ∧
    (∃ (j : Nat) (k : Nat) (vout : Nat) (s : State) (t : State), j ≠ k ∧ exec (.reverseBlock k vout) s = .next t) :=
  ⟨⟨(.cores : AccessPath), 0x20038, 15, up, (nx (exec (.readClearAccess (.cores : AccessPath) (0x20038) (15)) (up))),
     next_of _ (by decide)⟩,
   ⟨(.cores : AccessPath), 0x20030, up, (nx (exec (.loReadLatch (.cores : AccessPath) (0x20030)) (up))), next_of _ (by decide)⟩,
   ⟨(.pmuSnap : Instr), up, (nx (exec (.pmuSnap : Instr) (up))), by decide, next_of _ (by decide)⟩,
   ⟨(.linkUp 3 : Instr), up, (nx (exec (.linkUp 3 : Instr) (up))), by decide, next_of _ (by decide)⟩,
   ⟨(.raiseRequest 23 : Instr), up, (nx (exec (.raiseRequest 23 : Instr) (up))), by decide, next_of _ (by decide)⟩,
   ⟨0, 23, up, nx (exec (.raiseRequest (23)) (up)), by decide, next_of _ (by decide)⟩,
   ⟨0, 23, up, nx (exec (.clearFault (23)) (up)), by decide, next_of _ (by decide)⟩,
   ⟨0, 23, up, nx (exec (.slotTest (23)) (up)), by decide, next_of _ (by decide)⟩,
   ⟨0, 23, up, nx (exec (.assertPwrdis (23)) (up)), by decide, next_of _ (by decide)⟩,
   ⟨0, 23, true, up, nx (exec (.presentPinEdge (23) (true)) (up)), by decide, next_of _ (by decide)⟩,
   ⟨0, 23, 0, up, nx (exec (.reverseBlock (23) (0)) (up)), by decide, next_of _ (by decide)⟩⟩

theorem wit_TransportAndStandbyCommandsLeaveTheRest :
    (∃ (c : Instr) (s : State) (t : State), c.ofTransport = true ∧ exec c s = .next t) ∧
    (∃ (c : Instr) (s : State) (t : State), c.ofLink = true ∧ exec c s = .next t) ∧
    (∃ (c : Instr) (s : State) (t : State), c.ofStandby = true ∧ exec c s = .next t) :=
  ⟨⟨(.cmDrep 0 : Instr), up, (nx (exec (.cmDrep 0 : Instr) (up))), by decide, next_of _ (by decide)⟩,
   ⟨(.gussetLinkUp : Instr), up, (nx (exec (.gussetLinkUp : Instr) (up))), by decide, next_of _ (by decide)⟩,
   ⟨(.foldNotice 3 0 0 : Instr), up, (nx (exec (.foldNotice 3 0 0 : Instr) (up))), by decide, next_of _ (by decide)⟩⟩

theorem wit_FabricsRackAndClockCommandsLeaveTheRest :
    (∃ (c : Instr) (s : State) (t : State), c.ofFabrics = true ∧ exec c s = .next t) ∧
    (∃ (c : Instr) (s : State) (t : State), c.ofUnknown = true ∧ exec c s = .next t) ∧
    (∃ (c : Instr) (s : State) (t : State), c.ofRack = true ∧ exec c s = .next t) ∧
    (∃ (c : Instr) (s : State) (t : State), c.ofClocks = true ∧ exec c s = .next t) :=
  ⟨⟨(.keepAliveExpiry 1 : Instr), up, (nx (exec (.keepAliveExpiry 1 : Instr) (up))), by decide, next_of _ (by decide)⟩,
   ⟨(.ioOpcodeUnsupported capI 1 0xFF : Instr), up, (nx (exec (.ioOpcodeUnsupported capI 1 0xFF : Instr) (up))), by decide,
     next_of _ (by decide)⟩,
   ⟨(.renewTimer : Instr), up, (nx (exec (.renewTimer : Instr) (up))), by decide, next_of _ (by decide)⟩,
   ⟨(.refclkReturn : Instr), up, (nx (exec (.refclkReturn : Instr) (up))), by decide, next_of _ (by decide)⟩⟩

theorem wit_MemoryWritesStayInTheirPlaces :
    (∃ (c : Instr) (s : State) (t : State), (∀ h o p, c ≠ .imageData h o p) ∧ exec c s = .next t) ∧
    (∃ (head : SvcHead) (offset : Nat) (piece : Bytes) (s : State) (t : State) (i : Install) (a : Nat), s.nor.wf = true ∧
      s.svcOpen head 0x11 = true ∧ (s.svcNoted head 0x11).mnt.install = some i ∧
      (a < slotBase i.slot + 4096 * (offset / 4096) ∨ slotBase i.slot + 4096 * (offset / 4096) + 4096 ≤ a) ∧
      exec (.imageData head offset piece) s = .next t) ∧
    (∃ (head : SvcHead) (confirm : Nat) (s : State) (t : State) (a : Nat), (s.svcNoted head 0x31).mram.wf = true ∧
      s.svcOpen head 0x31 = true ∧ 4096 + 64 * bbxSlots ≤ a ∧ exec (.bbxFormat head confirm) s = .next t) :=
  ⟨⟨(.slotGrant : Instr), up, (nx (exec (.slotGrant : Instr) (up))), (by intro h o p e; cases e), next_of _ (by decide)⟩,
   ⟨hd, 0, ([] : Bytes), upMnt (fun m => { m with install := some ⟨1, 1, 4096, .empty, [], []⟩ }),
     (nx (exec (.imageData (hd) (0) ([] : Bytes)) (upMnt (fun m => { m with install := some ⟨1, 1, 4096, .empty, [], []⟩ })))),
     (⟨1, 1, 4096, .empty, [], []⟩ : Install), 0, by decide, by decide, by decide, by decide, next_of _ (by decide)⟩,
   ⟨hd, 0, up, nx (exec (.bbxFormat (hd) (0)) (up)), 4096 + 64 * bbxSlots, by decide, by decide, by decide, next_of _ (by decide)⟩⟩

end Sys2Proof.Tests
end

section
/-! SUPPORT. The bits of a dword: what `getBits` and `putBits` read and write, bit by bit. -/

namespace Sys2Proof.Machine

theorem testBit_getBits (w : Word) (hi lo k : Nat) :
    (getBits w hi lo).testBit k = (decide (k < hi + 1 - lo) && w.getLsbD (lo + k)) := by
  simp [getBits, BitVec.getLsbD, Nat.testBit_div_two_pow, Nat.add_comm]

theorem getLsbD_putBits (w : Word) {hi lo b : Nat} (v : Nat) (hlo : lo ≤ hi) (hb : b < 32) :
    (putBits w hi lo v).getLsbD b = if lo ≤ b ∧ b ≤ hi then v.testBit (b - lo) else w.getLsbD b := by
  have hpow : 2 ^ (hi + 1) = 2 ^ lo * 2 ^ (hi + 1 - lo) := by rw [← Nat.pow_add]; congr 1; omega
  have hsum : w.toNat % 2 ^ lo + v % 2 ^ (hi + 1 - lo) * 2 ^ lo + w.toNat / 2 ^ (hi + 1) * 2 ^ (hi + 1) =
      2 ^ lo * (2 ^ (hi + 1 - lo) * (w.toNat / 2 ^ (hi + 1)) + v % 2 ^ (hi + 1 - lo)) + w.toNat % 2 ^ lo := by
    simp only [hpow, Nat.mul_add]; ac_rfl
  rw [putBits, BitVec.getLsbD_ofNat, hsum, Nat.testBit_two_pow_mul_add _ (Nat.mod_lt _ (Nat.two_pow_pos lo)),
    Nat.testBit_two_pow_mul_add _ (Nat.mod_lt _ (Nat.two_pow_pos _))]
  simp only [hb, decide_true, Bool.true_and, Nat.testBit_mod_two_pow, Nat.testBit_div_two_pow, BitVec.getLsbD]
  by_cases h1 : b < lo
  · rw [if_pos h1, if_neg (by omega)]; simp [h1]
  · rw [if_neg h1]
    by_cases h2 : b ≤ hi
    · rw [if_pos (by omega), if_pos (by omega)]; simp only [Bool.and_eq_right_iff_imp, decide_eq_true_eq]; omega
    · rw [if_neg (by omega), if_neg (by omega)]; congr 1; omega

/-- Two dwords hold the same bits [hi:lo]. -/
def AgreeOn (v w : Word) (hi lo : Nat) : Prop := ∀ b, lo ≤ b → b ≤ hi → v.getLsbD b = w.getLsbD b

theorem AgreeOn.getBits {v w : Word} {hi lo : Nat} (h : AgreeOn v w hi lo) : getBits v hi lo = getBits w hi lo := by
  refine Nat.eq_of_testBit_eq fun k => ?_
  rw [testBit_getBits, testBit_getBits]
  by_cases hk : k < hi + 1 - lo
  · rw [h (lo + k) (by omega) (by omega)]
  · simp [hk]

theorem AgreeOn.of_getBits {v w : Word} {hi lo : Nat} (h : Machine.getBits v hi lo = Machine.getBits w hi lo) :
    AgreeOn v w hi lo := by
  intro b h1 h2
  have hk := congrArg (Nat.testBit · (b - lo)) h
  have hb : lo + (b - lo) = b := by omega
  simpa [testBit_getBits, hb, show b - lo < hi + 1 - lo by omega] using hk

theorem AgreeOn.bit {v w : Word} {b : Nat} (h : AgreeOn v w b b) : v.getLsbD b = w.getLsbD b := h b (Nat.le_refl b) (Nat.le_refl b)

theorem AgreeOn.eq {v w : Word} (h : AgreeOn v w 31 0) : v = w :=
  BitVec.eq_of_getLsbD_eq fun b hb => h b (Nat.zero_le _) (by omega)

theorem AgreeOn.mod {v w : Word} {hi : Nat} (h : AgreeOn v w hi 0) : v.toNat % 2 ^ (hi + 1) = w.toNat % 2 ^ (hi + 1) := by
  simpa [Machine.getBits] using h.getBits

theorem getBits_putBits_same (w : Word) {hi lo : Nat} (v : Nat) (hlo : lo ≤ hi) (hhi : hi ≤ 31) :
    getBits (putBits w hi lo v) hi lo = v % 2 ^ (hi + 1 - lo) := by
  refine Nat.eq_of_testBit_eq fun k => ?_
  rw [testBit_getBits, Nat.testBit_mod_two_pow]
  by_cases hk : k < hi + 1 - lo
  · rw [getLsbD_putBits w v hlo (by omega), if_pos (by omega), Nat.add_sub_cancel_left]
  · simp [hk]

theorem getBits_putBits_other (w : Word) {hi lo hi' lo' : Nat} (v : Nat) (hlo : lo ≤ hi) (hd : hi' < lo ∨ hi < lo') :
    getBits (putBits w hi lo v) hi' lo' = getBits w hi' lo' := by
  refine AgreeOn.getBits fun b h1 h2 => ?_
  by_cases hb : b < 32
  · rw [getLsbD_putBits w v hlo hb, if_neg (by omega)]
  · rw [BitVec.getLsbD_of_ge _ _ (by omega), BitVec.getLsbD_of_ge _ _ (by omega)]

end Sys2Proof.Machine
end

section
/-! SUPPORT. The stored register space: what a dword and a field read after a write. -/

namespace Sys2Proof.Machine

@[simp] theorem State.setReg_reg_same (s : State) (a : Nat) (w : Word) : (s.setReg a w).reg a = w := by simp [State.reg]

theorem State.setReg_reg_other (s : State) {a b : Nat} (w : Word) (h : b ≠ a) : (s.setReg a w).reg b = s.reg b := by
  simp [State.reg, Tab.get?_put_other _ _ _ _ h]

theorem State.setFld_reg_other (s : State) (f : Fld) (v : Nat) {a : Nat} (h : a ≠ f.addr) : (s.setFld f v).reg a = s.reg a :=
  s.setReg_reg_other _ h

theorem State.setFld_fld_same (s : State) (f : Fld) (v : Nat) (hlo : f.lo ≤ f.hi) (hhi : f.hi ≤ 31) :
    (s.setFld f v).fld f = v % 2 ^ (f.hi + 1 - f.lo) := by
  rw [State.fld, State.setFld, State.setReg_reg_same, getBits_putBits_same _ _ hlo hhi]

/-- Writing a field keeps every field of the same dword that shares no bit with it. -/
theorem State.setFld_fld_disjoint (s : State) (f g : Fld) (v : Nat) (ha : g.addr = f.addr) (hlo : f.lo ≤ f.hi)
    (hd : g.hi < f.lo ∨ f.hi < g.lo) : (s.setFld f v).fld g = s.fld g := by
  rw [State.fld, State.setFld, ha, State.setReg_reg_same, getBits_putBits_other _ _ hlo hd, State.fld, ha]

end Sys2Proof.Machine
end

section
/-! SUPPORT. The register table: what an address that finds a register says of it, and the shape of its fields. -/

namespace Sys2Proof.Machine

/-- The address of the last register of an array. -/
def RegDesc.last (r : RegDesc) : Nat := r.base + (r.d1 - 1) * r.s1 + (r.d2 - 1) * r.s2

theorem RegDesc.inst_eq_some {r : RegDesc} {addr i j : Nat} (h : r.inst addr = some (i, j)) :
    addr = r.base + i * r.s1 + j * r.s2 ∧ i < r.d1 ∧ j < r.d2 := by
  simp only [RegDesc.inst, Option.ite_none_left_eq_some, Option.ite_none_right_eq_some, Bool.and_eq_true, decide_eq_true_eq,
    Option.some.injEq, Prod.mk.injEq] at h
  obtain ⟨hb, ⟨⟨hi, hj⟩, ho⟩, rfl, rfl⟩ := h
  exact ⟨by omega, hi, hj⟩

theorem RegDesc.inst_bounds {r : RegDesc} {addr i j : Nat} (h : r.inst addr = some (i, j)) :
    r.base ≤ addr ∧ addr ≤ r.last := by
  obtain ⟨rfl, hi, hj⟩ := RegDesc.inst_eq_some h
  have h1 := Nat.mul_le_mul_right r.s1 (Nat.le_sub_one_of_lt hi)
  have h2 := Nat.mul_le_mul_right r.s2 (Nat.le_sub_one_of_lt hj)
  unfold RegDesc.last
  omega

theorem findReg_eq_some {addr i j : Nat} {r : RegDesc} (h : findReg addr = some (r, i, j)) :
    r ∈ regTable ∧ r.inst addr = some (i, j) := by
  obtain ⟨r', hr', h'⟩ := List.exists_of_findSome?_eq_some h
  obtain ⟨ij, hij, he⟩ := Option.map_eq_some_iff.mp h'
  obtain ⟨rfl, hi, hj⟩ : r' = r ∧ ij.1 = i ∧ ij.2 = j := by simpa only [Prod.mk.injEq] using he
  exact ⟨hr', by rw [hij, ← hi, ← hj]⟩

theorem findReg_isSome {addr : Nat} {r : RegDesc} (hr : r ∈ regTable) (hi : (r.inst addr).isSome = true) :
    ∃ r' i j, findReg addr = some (r', i, j) := by
  cases h : findReg addr with
  | some x => exact ⟨x.1, x.2.1, x.2.2, rfl⟩
  | none =>
    have hn := List.findSome?_eq_none_iff.mp h r hr
    rw [Option.map_eq_none_iff] at hn
    simp [hn] at hi

/-- What holds of every register of the table that reaches into a range of addresses holds of the one found there. -/
theorem findReg_range {lo hi addr i j : Nat} {r : RegDesc} {P : RegDesc → Prop} (h : findReg addr = some (r, i, j))
    (hlo : lo ≤ addr) (hhi : addr ≤ hi) (hP : ∀ r ∈ regTable, lo ≤ r.last → r.base ≤ hi → P r) : P r := by
  obtain ⟨hr, hi'⟩ := findReg_eq_some h
  obtain ⟨h1, h2⟩ := RegDesc.inst_bounds hi'
  exact hP r hr (by omega) (by omega)

/-- Function 1's MSI-X table and its pending bits stand outside the register table (R337, R395). -/
theorem findReg_msix {addr : Nat} (h1 : 0x708000 ≤ addr) (h2 : addr < 0x709008) : findReg addr = none := by
  cases h : findReg addr with
  | none => rfl
  | some x =>
    exact (findReg_range (P := fun _ => False) (r := x.1) (i := x.2.1) (j := x.2.2) h h1 (Nat.le_of_lt_succ h2)
      (by decide +kernel)).elim

/-- The map of peer window `w`. -/
theorem findReg_pwinMap {w : Nat} (hw : w < 8) : ∃ r j, findReg (0x700014 + 8 * w) = some (r, w, j) ∧ r.base = 0x700014 := by
  have key : ∀ w < 8, (findReg (0x700014 + 8 * w)).map (fun x => (x.1.base, x.2.1)) = some (0x700014, w) := by decide
  obtain ⟨x, hx, he⟩ := Option.map_eq_some_iff.mp (key w hw)
  exact ⟨x.1, x.2.2, by rw [hx, ← (Prod.mk.inj he).2], (Prod.mk.inj he).1⟩

/-- The bits of a field lie in a dword. -/
def FieldDesc.fits (f : FieldDesc) : Prop := f.lo ≤ f.hi ∧ f.hi ≤ 31

/-- Two fields share no bit. -/
def FieldDesc.apart (f g : FieldDesc) : Prop := g.hi < f.lo ∨ f.hi < g.lo

theorem regTable_fits : ∀ r ∈ regTable, ∀ f ∈ r.fields, f.fits := by
  unfold FieldDesc.fits; decide +kernel

theorem regTable_apart : ∀ r ∈ regTable, r.fields.Pairwise FieldDesc.apart := by
  unfold FieldDesc.apart; decide +kernel

end Sys2Proof.Machine
end

section
/-! SUPPORT. Register accesses: what a write and a read of one dword answer, one equation a kind of address (R2, R9, R331,
R337, R355). -/

namespace Sys2Proof.Machine

@[simp] theorem RegWr.refuse_first (s : State) (reason addr : Nat) :
    RegWr.refuse (s, 0) reason addr = (s.cfgErr reason addr, reason) := rfl

/-! ### The path -/

/-- A write through a path that function 1 does not answer is an Unsupported Request (R337). -/
theorem exec_registerWrite_closed {path : AccessPath} {s : State} (h : s.pathOpen path = false) (addr be : Nat) (v : Word) :
    exec (.registerWrite path addr be v) s = .next (s.aerSet 1 20) := by
  simp [exec, execRegisterWrite, h]

theorem exec_readClearAccess_closed {path : AccessPath} {s : State} (h : s.pathOpen path = false) (addr be : Nat) :
    exec (.readClearAccess path addr be) s = .next ((s.aerSet 1 20).emit (.tlp 1 [])) := by
  simp [exec, execReadClearAccess, State.busRead, h]

theorem exec_registerWrite_misaligned {path : AccessPath} {s : State} (h : s.pathOpen path = true) {addr be : Nat} (v : Word)
    (hm : addr % 4 ≠ 0 ∨ be ≠ 15) : exec (.registerWrite path addr be v) s = .next (s.cfgErr 2 (addr % 2 ^ 24)) := by
  simp [exec, execRegisterWrite, State.busWrite, h, hm]

theorem exec_registerWrite_dword {path : AccessPath} {s : State} (h : s.pathOpen path = true) {addr : Nat} (v : Word)
    (h4 : addr % 4 = 0) (hlt : addr < 2 ^ 24) :
    exec (.registerWrite path addr 15 v) s = .next (s.regWrite path addr v).1 := by
  have hm : addr % 2 ^ 24 = addr := Nat.mod_eq_of_lt hlt
  simp [exec, execRegisterWrite, State.busWrite, h, h4, -Nat.reducePow, hm]

theorem exec_readClearAccess_dword {path : AccessPath} {s : State} (h : s.pathOpen path = true) {addr : Nat} (be : Nat)
    (h4 : addr % 4 = 0) (hlt : addr < 2 ^ 24) :
    exec (.readClearAccess path addr be) s =
      .next ((s.regRead path addr be).1.emit (.regData path addr (s.regRead path addr be).2)) := by
  have ha : addr % 2 ^ 24 / 4 * 4 = addr := by omega
  simp only [exec, execReadClearAccess, State.busRead, h, ha, Bool.not_true, Bool.false_eq_true, if_false]

/-! ### The address -/

theorem State.pmuDeaf_outside (s : State) {addr : Nat} (h : addr < 0x60000 ∨ 0x70000 ≤ addr) : s.pmuDeaf addr = false := by
  rcases h with h | h
  · simp [State.pmuDeaf, Nat.not_le.mpr h]
  · simp [State.pmuDeaf, Nat.not_lt.mpr h]

theorem State.pmuDeaf_off {s : State} {addr : Nat} (h : s.pmuOn = false) (h1 : 0x60000 ≤ addr) (h2 : addr < 0x70000) :
    s.pmuDeaf addr = true := by
  simp [State.pmuDeaf, h, h1, h2]

/-- Only ports, gate schedules and DDR channels are absent from an NE7236 (R396). -/
theorem State.absentReg_elsewhere (s : State) {addr : Nat} (h : addr < 0x120000 ∨ (0x1C5000 ≤ addr ∧ addr < 0x803000)) :
    s.absentReg addr = false := by
  simp only [State.absentReg, Bool.and_eq_false_iff, Bool.or_eq_false_iff, decide_eq_false_iff_not]
  omega

/-! ### A write -/

section
variable {s : State} {addr : Nat}

theorem State.regWrite_absent (path : AccessPath) (w : Word) (h : s.absentReg addr = true) :
    s.regWrite path addr w = (s.cfgErr 4 addr, 4) := by
  simp [State.regWrite, h]

theorem State.regWrite_msix (path : AccessPath) (w : Word) (h1 : 0x708000 ≤ addr) (h2 : addr < 0x708040) :
    s.regWrite path addr w = (s.msixWrite ((addr - 0x708000) / 4) w, 0) := by
  simp [State.regWrite, s.absentReg_elsewhere (addr := addr) (by omega), h1, h2]

theorem State.regWrite_pending (path : AccessPath) (w : Word) (h1 : 0x709000 ≤ addr) (h2 : addr < 0x709008) :
    s.regWrite path addr w = (s, 0) := by
  simp [State.regWrite, s.absentReg_elsewhere (addr := addr) (by omega), h1, h2, show ¬addr < 0x708040 by omega]

theorem State.regWrite_unmapped (path : AccessPath) (w : Word) (ha : s.absentReg addr = false)
    (h1 : ¬(0x708000 ≤ addr ∧ addr < 0x708040)) (h2 : ¬(0x709000 ≤ addr ∧ addr < 0x709008)) (hf : findReg addr = none) :
    s.regWrite path addr w = (s.cfgErr 3 addr, 3) := by
  simp only [State.regWrite, ha, hf, Bool.false_eq_true, if_false, Bool.and_eq_true, decide_eq_true_eq, if_neg h1, if_neg h2]
  rfl

/-- A write of a register of the table that the part holds. -/
theorem State.regWrite_found (path : AccessPath) (w : Word) {r : RegDesc} {i j : Nat} (ha : s.absentReg addr = false)
    (hf : findReg addr = some (r, i, j)) :
    s.regWrite path addr w =
      if s.pmuDeaf addr then (s, 0)
      else if r.base = 0x700014 then
        ((s.pwinMap i (w.getLsbD 31) (w.toNat % 256)).1, if (s.pwinMap i (w.getLsbD 31) (w.toNat % 256)).2 then 1 else 0)
      else regEffect s path r.base i w (r.fields.foldl (writeField r.base i addr w (s.quiesced r.base i)) (s, 0)) := by
  have h : ¬(0x708000 ≤ addr ∧ addr < 0x709008) := fun h => by simp [findReg_msix h.1 h.2] at hf
  simp only [State.regWrite, ha, hf, Bool.false_eq_true, if_false, Bool.and_eq_true, decide_eq_true_eq]
  rw [if_neg (by omega), if_neg (by omega)]

/-! ### A read -/

theorem State.regRead_absent (path : AccessPath) (be : Nat) (h : s.absentReg addr = true) :
    s.regRead path addr be = (s, 0) := by
  simp [State.regRead, h]

theorem State.regRead_deaf (path : AccessPath) (be : Nat) (h : s.pmuDeaf addr = true) : s.regRead path addr be = (s, 0) := by
  simp [State.regRead, h]

theorem State.regRead_msix (path : AccessPath) (be : Nat) (h1 : 0x708000 ≤ addr) (h2 : addr < 0x708040) :
    s.regRead path addr be =
      (s, s.ept.msix1.getD ((addr - 0x708000) / 4) (if addr / 4 % 4 = 3 then 1 else 0) &&& BitVec.ofNat 32 (beMask be)) := by
  simp [State.regRead, s.absentReg_elsewhere (addr := addr) (by omega), s.pmuDeaf_outside (addr := addr) (by omega), h1, h2]

theorem State.regRead_pending (path : AccessPath) (be : Nat) :
    s.regRead path 0x709000 be = (s, BitVec.ofNat 32 s.ept.pba1 &&& BitVec.ofNat 32 (beMask be)) := by
  simp [State.regRead, s.absentReg_elsewhere (addr := 0x709000) (by omega), s.pmuDeaf_outside (addr := 0x709000) (by omega)]

theorem State.regRead_unmapped (path : AccessPath) (be : Nat) (h1 : ¬(0x708000 ≤ addr ∧ addr < 0x708040)) (h2 : addr ≠ 0x709000)
    (hf : findReg addr = none) : s.regRead path addr be = (s, 0) := by
  simp only [State.regRead, hf, Bool.and_eq_true, decide_eq_true_eq, if_neg h1, if_neg h2, ite_self]

/-- A read of a register of the table, neither half of a 64-bit pair that is read LO first (R9, R397). -/
theorem State.regRead_single (path : AccessPath) (be : Nat) {r : RegDesc} {i j : Nat} (ha : s.absentReg addr = false)
    (hd : s.pmuDeaf addr = false) (hf : findReg addr = some (r, i, j)) (hhi : isHi r.base = false) (hlo : hiOf r.base = none) :
    s.regRead path addr be = (s.clearRc r addr be, s.classRead r i j addr &&& BitVec.ofNat 32 (beMask be)) := by
  have h : ¬(0x708000 ≤ addr ∧ addr < 0x709008) := fun h => by simp [findReg_msix h.1 h.2] at hf
  simp only [State.regRead, ha, hd, hf, hhi, hlo, Bool.or_self, Bool.false_eq_true, if_false, Bool.and_eq_true, decide_eq_true_eq]
  rw [if_neg (by omega), if_neg (by omega)]

/-- A read of a register that is no HI half returns 0 or requested bytes of the register. -/
theorem State.regRead_value (path : AccessPath) (be : Nat) {r : RegDesc} {i j : Nat} (hf : findReg addr = some (r, i, j))
    (hhi : isHi r.base = false) :
    (s.regRead path addr be).2 = 0 ∨
      (s.regRead path addr be).2 = s.classRead r i j addr &&& BitVec.ofNat 32 (beMask be) := by
  have h : ¬(0x708000 ≤ addr ∧ addr < 0x709008) := fun h => by simp [findReg_msix h.1 h.2] at hf
  simp only [State.regRead, hf, hhi, Bool.false_eq_true, if_false, Bool.and_eq_true, decide_eq_true_eq]
  by_cases hz : s.absentReg addr || s.pmuDeaf addr
  · exact .inl (by rw [if_pos hz])
  · rw [if_neg hz, if_neg (by omega), if_neg (by omega)]
    right; split <;> rfl

end

end Sys2Proof.Machine
end

section
namespace Sys2Proof.Machine

/-- Settles O4: the accesses that the register table does not settle, one equation of the access layer each. -/
theorem otherRegisterAccessesTakeEffect : Obligations.OtherRegisterAccessesTakeEffect := by
  refine ⟨?absent, ?pwinMap, ?msix, ?pending, ?deaf, ?closed⟩
  case absent =>
    intro path addr v s ho h4 hlt ha
    refine ⟨?_, fun be => ?_⟩
    · rw [exec_registerWrite_dword ho v h4 hlt, State.regWrite_absent path v ha]
    · rw [exec_readClearAccess_dword ho be h4 hlt, State.regRead_absent path be ha]
  case pwinMap =>
    intro path w v s ho hw
    obtain ⟨r, j, hf, hb⟩ := findReg_pwinMap hw
    rw [exec_registerWrite_dword ho v (by omega) (by omega),
      State.regWrite_found path v (s.absentReg_elsewhere (by omega)) hf, s.pmuDeaf_outside (by omega),
      if_neg Bool.false_ne_true, if_pos hb]
  case msix =>
    intro path dw v s ho hdw
    have hdiv : (0x708000 + 4 * dw - 0x708000) / 4 = dw := by omega
    have hmod : (0x708000 + 4 * dw) / 4 % 4 = dw % 4 := by omega
    refine ⟨?_, fun be => ?_⟩
    · rw [exec_registerWrite_dword ho v (by omega) (by omega), State.regWrite_msix path v (by omega) (by omega), hdiv]
    · rw [exec_readClearAccess_dword ho be (by omega) (by omega), State.regRead_msix path be (by omega) (by omega), hdiv, hmod]
  case pending =>
    intro path be v s ho
    refine ⟨?_, ?_, ?_⟩
    · rw [exec_registerWrite_dword ho v (by omega) (by omega), State.regWrite_pending path v (by omega) (by omega)]
    · rw [exec_registerWrite_dword ho v (by omega) (by omega), State.regWrite_pending path v (by omega) (by omega)]
    · rw [exec_readClearAccess_dword ho be (by omega) (by omega), State.regRead_pending]
  case deaf =>
    intro path addr v s ho h4 h1 h2 hoff
    have hd := State.pmuDeaf_off hoff h1 h2
    refine ⟨fun hne => ?_, fun be => ?_⟩
    · obtain ⟨⟨r, i, j⟩, hf⟩ := Option.ne_none_iff_exists'.mp hne
      rw [exec_registerWrite_dword ho v h4 (by omega), State.regWrite_found path v (s.absentReg_elsewhere (by omega)) hf,
        if_pos hd]
    · rw [exec_readClearAccess_dword ho be h4 (by omega), State.regRead_deaf path be hd]
  case closed =>
    intro addr be v s hc
    exact ⟨exec_registerWrite_closed hc addr be v, exec_readClearAccess_closed hc addr be⟩

end Sys2Proof.Machine
end

section
/-! SUPPORT. The record of a refused write (R11). -/

namespace Sys2Proof.Machine

/-- A refused write is recorded in TOP_CFGERR and nowhere else. -/
theorem State.cfgErr_reg_other (s : State) (reason addr : Nat) {a : Nat} (h : a ≠ 0x10) : (s.cfgErr reason addr).reg a = s.reg a := by
  unfold State.cfgErr
  split
  · exact State.setFld_reg_other _ _ _ h
  · rw [State.setFld_reg_other _ _ _ h, State.setFld_reg_other _ _ _ h, State.setFld_reg_other _ _ _ h]

theorem State.cfgErr_mram (s : State) (reason addr : Nat) : (s.cfgErr reason addr).mram = s.mram := by
  unfold State.cfgErr; split <;> rfl

section
variable {s : State} (h : s.flag F.TOP_CFGERR_VALID = false) (reason addr : Nat)
include h

/-- The first refused write stores VALID, the reason and the address. -/
theorem State.cfgErr_first : s.cfgErr reason addr =
    ((s.setFld F.TOP_CFGERR_VALID 1).setFld F.TOP_CFGERR_REASON reason).setFld F.TOP_CFGERR_ADDR addr := by
  rw [State.cfgErr, h, if_neg Bool.false_ne_true]

theorem State.cfgErr_valid : (s.cfgErr reason addr).flag F.TOP_CFGERR_VALID = true := by
  rw [State.cfgErr_first h, State.flag,
    State.setFld_fld_disjoint _ F.TOP_CFGERR_ADDR F.TOP_CFGERR_VALID _ rfl (by decide) (by decide),
    State.setFld_fld_disjoint _ F.TOP_CFGERR_REASON F.TOP_CFGERR_VALID _ rfl (by decide) (by decide),
    State.setFld_fld_same _ _ _ (by decide) (by decide)]
  rfl

theorem State.cfgErr_reason (hr : reason < 16) : (s.cfgErr reason addr).fld F.TOP_CFGERR_REASON = reason := by
  rw [State.cfgErr_first h,
    State.setFld_fld_disjoint _ F.TOP_CFGERR_ADDR F.TOP_CFGERR_REASON _ rfl (by decide) (by decide),
    State.setFld_fld_same _ _ _ (by decide) (by decide)]
  exact Nat.mod_eq_of_lt hr

theorem State.cfgErr_addr (ha : addr < 2 ^ 24) : (s.cfgErr reason addr).fld F.TOP_CFGERR_ADDR = addr := by
  rw [State.cfgErr_first h, State.setFld_fld_same _ _ _ (by decide) (by decide)]
  exact Nat.mod_eq_of_lt ha

end

end Sys2Proof.Machine
end

section
/-! SUPPORT. What a read clears (R9): of one field, of a list of fields that share no bit, of a register. -/

namespace Sys2Proof.Machine

/-- The byte enables hold every bit of a field of class RC. -/
def FieldDesc.rcRead (f : FieldDesc) (be : Nat) : Prop := f.acc = .rc ∧ ∀ b, f.lo ≤ b → b ≤ f.hi → bit be (b / 8) = true

/-- What a read does to one field. -/
def State.clearField (s : State) (addr be : Nat) (f : FieldDesc) : State :=
  if f.acc = .rc && (List.range 32).all (fun b => !(f.lo ≤ b && b ≤ f.hi) || bit be (b / 8)) then
    s.setReg addr (putBits (s.reg addr) f.hi f.lo 0) else s

theorem State.clearRc_eq_foldl (s : State) (r : RegDesc) (addr be : Nat) :
    s.clearRc r addr be = r.fields.foldl (fun s f => s.clearField addr be f) s := rfl

/-- The table's check of the byte enables, as R9 says it. -/
theorem FieldDesc.rcRead_iff {f : FieldDesc} (hf : f.fits) (be : Nat) :
    (f.acc = .rc && (List.range 32).all (fun b => !(f.lo ≤ b && b ≤ f.hi) || bit be (b / 8))) = true ↔ f.rcRead be := by
  have hhi := hf.2
  simp only [FieldDesc.rcRead, Bool.and_eq_true, decide_eq_true_eq, List.all_eq_true, List.mem_range, Bool.or_eq_true,
    Bool.not_eq_true', Bool.and_eq_false_iff, decide_eq_false_iff_not]
  refine and_congr_right fun _ => forall_congr' fun b => ⟨fun h h1 h2 => ?_, fun h hb => ?_⟩
  · exact (h (by omega)).resolve_left (by omega)
  · by_cases hin : f.lo ≤ b ∧ b ≤ f.hi
    · exact .inr (h hin.1 hin.2)
    · exact .inl (by omega)

/-- The place of a field in the register at an address. -/
def FieldDesc.at (f : FieldDesc) (addr : Nat) : Fld := ⟨addr, f.hi, f.lo⟩

section
variable (s : State) (addr be : Nat) {f g : FieldDesc}

theorem State.clearField_reg_other (f : FieldDesc) {a : Nat} (h : a ≠ addr) : (s.clearField addr be f).reg a = s.reg a := by
  unfold State.clearField
  split
  · exact s.setReg_reg_other _ h
  · rfl

theorem State.clearField_read (hf : f.fits) (h : f.rcRead be) : (s.clearField addr be f).fld (f.at addr) = 0 := by
  rw [State.clearField, if_pos ((FieldDesc.rcRead_iff hf be).mpr h)]
  exact (s.setFld_fld_same (f.at addr) 0 hf.1 hf.2).trans (Nat.zero_mod _)

theorem State.clearField_unread (hf : f.fits) (h : ¬f.rcRead be) : s.clearField addr be f = s := by
  rw [State.clearField, if_neg (mt (FieldDesc.rcRead_iff hf be).mp h)]

theorem State.clearField_apart (hf : f.fits) (h : f.apart g) : (s.clearField addr be f).fld (g.at addr) = s.fld (g.at addr) := by
  unfold State.clearField
  split
  · exact s.setFld_fld_disjoint (f.at addr) (g.at addr) 0 rfl hf.1 h
  · rfl

end

theorem State.clearFields_reg_other (l : List FieldDesc) (s : State) (addr be : Nat) {a : Nat} (h : a ≠ addr) :
    (l.foldl (fun s f => s.clearField addr be f) s).reg a = s.reg a := by
  induction l generalizing s with
  | nil => rfl
  | cons f l ih => exact (ih _).trans (s.clearField_reg_other addr be f h)

theorem State.clearFields_apart (l : List FieldDesc) (s : State) (addr be : Nat) {g : FieldDesc} (hfit : ∀ f ∈ l, f.fits)
    (h : ∀ f ∈ l, f.apart g) : (l.foldl (fun s f => s.clearField addr be f) s).fld (g.at addr) = s.fld (g.at addr) := by
  induction l generalizing s with
  | nil => rfl
  | cons f l ih =>
    have step := s.clearField_apart addr be (hfit f List.mem_cons_self) (h f List.mem_cons_self)
    exact (ih _ (fun f hf => hfit f (List.mem_cons_of_mem _ hf)) (fun f hf => h f (List.mem_cons_of_mem _ hf))).trans step

theorem FieldDesc.apart.symm {f g : FieldDesc} (h : f.apart g) : g.apart f := Or.symm h

/-- Among fields that share no bit, each is cleared or kept by its own class and bytes. -/
theorem State.clearFields_fld (l : List FieldDesc) (s : State) (addr be : Nat) {g : FieldDesc} (hfit : ∀ f ∈ l, f.fits)
    (hap : l.Pairwise FieldDesc.apart) (hg : g ∈ l) :
    (g.rcRead be → (l.foldl (fun s f => s.clearField addr be f) s).fld (g.at addr) = 0) ∧
    (¬g.rcRead be → (l.foldl (fun s f => s.clearField addr be f) s).fld (g.at addr) = s.fld (g.at addr)) := by
  induction l generalizing s with
  | nil => cases hg
  | cons f l ih =>
    have hff : f.fits := hfit f List.mem_cons_self
    have hfl : ∀ f ∈ l, f.fits := fun f hf => hfit f (List.mem_cons_of_mem _ hf)
    obtain ⟨hhead, htail⟩ := List.pairwise_cons.mp hap
    rw [List.foldl_cons]
    rcases List.mem_cons.mp hg with rfl | hgl
    · rw [State.clearFields_apart l _ addr be hfl fun f hf => (hhead f hf).symm]
      exact ⟨s.clearField_read addr be hff, fun h => by rw [s.clearField_unread addr be hff h]⟩
    · rw [← s.clearField_apart addr be hff (hhead g hgl)]
      exact ih _ hfl htail hgl

end Sys2Proof.Machine
end

section
namespace Sys2Proof.Machine

/-- Settles O3: the equations of the access layer, the record of a refusal, and the induction over a register's fields. -/
theorem accessesFollowTheByteEnables : Obligations.AccessesFollowTheByteEnables := by
  refine ⟨?misaligned, ?unmapped, ?refusal, ?write, ?readUnmapped, ?read, ?clear⟩
  case misaligned => exact fun path addr be v s ho hm => exec_registerWrite_misaligned ho v hm
  case unmapped =>
    intro path addr v s ho h4 hlt ha hf h1 h2
    rw [exec_registerWrite_dword ho v h4 hlt, State.regWrite_unmapped path v ha h1 h2 hf]
  case refusal =>
    intro reason addr s hr ha hv
    exact ⟨fun a h => s.cfgErr_reg_other reason addr h, s.cfgErr_mram reason addr, State.cfgErr_valid hv reason addr,
      State.cfgErr_reason hv reason addr hr, State.cfgErr_addr hv reason addr ha⟩
  case write =>
    intro path addr v s r i j ho h4 hlt ha hd hf hb _ _
    rw [exec_registerWrite_dword ho v h4 hlt, State.regWrite_found path v ha hf, hd, if_neg Bool.false_ne_true, if_neg hb]
  case readUnmapped =>
    intro path addr be s ho h4 hlt hf h1 h2
    rw [exec_readClearAccess_dword ho be h4 hlt, State.regRead_unmapped path be h1 h2 hf]
  case read =>
    intro path addr be s r i j ho h4 hlt ha hd hf _ _ hhi hlo
    rw [exec_readClearAccess_dword ho be h4 hlt, State.regRead_single path be ha hd hf hhi hlo]
  case clear =>
    intro addr be s r i j hf
    have hr := (findReg_eq_some hf).1
    rw [State.clearRc_eq_foldl]
    exact ⟨fun a h => State.clearFields_reg_other r.fields s addr be h, fun f hm =>
      State.clearFields_fld r.fields s addr be (regTable_fits r hr) (regTable_apart r hr) hm⟩

end Sys2Proof.Machine
end

section
/-! SUPPORT. What a write takes from the value written: the bits of the register's fields and no others (R8). -/

namespace Sys2Proof.Machine

/-- The bits [hi:lo] of the value written that the block of a register looks at, beside what its fields store. -/
def effectBits : Nat → List (Nat × Nat)
  | 0x10 => [(31, 31)]
  | 0x1000C => [(31, 16), (1, 0)]
  | 0x10010 => [(31, 0)]
  | 0x30100 => [(31, 31)]
  | 0x30110 => [(3, 0)]
  | 0x4001C => [(31, 0)]
  | 0x50014 => [(31, 0)]
  | 0x60000 => [(30, 30), (29, 29)]
  | 0x60400 => [(30, 30)]
  | 0x6004C => [(31, 0)]
  | 0x400004 => [(31, 31)]
  | 0x1C1080 => [(30, 30), (29, 29)]
  | 0x100000 => [(0, 0)]
  | 0x700010 => [(31, 31)]
  | 0x700014 => [(31, 31), (7, 0)]
  | _ => []

/-- Every bit that a block looks at lies in a field of its register. -/
theorem effectBits_in_fields : ∀ r ∈ regTable, ∀ p ∈ effectBits r.base, ∀ b < 32, p.2 ≤ b → b ≤ p.1 →
    ∃ f ∈ r.fields, f.lo ≤ b ∧ b ≤ f.hi := by decide +kernel

/-- No block looks at a bit beyond the dword. -/
theorem effectBits_below_32 : ∀ r ∈ regTable, ∀ p ∈ effectBits r.base, p.1 < 32 := by decide +kernel

/-- The values written agree wherever a block looks. -/
def AgreeEffect (base : Nat) (v w : Word) : Prop := ∀ p ∈ effectBits base, AgreeOn v w p.1 p.2

theorem agreeEffect_of_fields {r : RegDesc} {v w : Word} (hr : r ∈ regTable)
    (h : ∀ f ∈ r.fields, AgreeOn v w f.hi f.lo) : AgreeEffect r.base v w := by
  intro p hp b h1 h2
  have hb := effectBits_below_32 r hr p hp
  obtain ⟨f, hf, hin⟩ := effectBits_in_fields r hr p hp b (by omega) h1 h2
  exact h f hf b hin.1 hin.2

section
variable {v w : Word}

theorem AgreeEffect.bit {base b : Nat} (h : AgreeEffect base v w) (hb : (b, b) ∈ effectBits base) : v.getLsbD b = w.getLsbD b :=
  (h _ hb).bit

theorem AgreeEffect.bits {base hi lo : Nat} (h : AgreeEffect base v w) (hb : (hi, lo) ∈ effectBits base) :
    getBits v hi lo = getBits w hi lo :=
  (h _ hb).getBits

theorem AgreeEffect.eq {base : Nat} (h : AgreeEffect base v w) (hb : (31, 0) ∈ effectBits base) : v = w := (h _ hb).eq

theorem AgreeEffect.mod {base hi m : Nat} (h : AgreeEffect base v w) (hb : (hi, 0) ∈ effectBits base)
    (hm : 2 ^ (hi + 1) = m) : v.toNat % m = w.toNat % m :=
  hm ▸ (h _ hb).mod

theorem State.pmuEffect_congr (s old : State) {base : Nat} (i : Nat) (h : AgreeEffect base v w) :
    s.pmuEffect old base i v = s.pmuEffect old base i w := by
  unfold State.pmuEffect
  split
  · subst base; rw [h.bit (b := 30) (by decide), h.bit (b := 29) (by decide)]
  split
  · subst base; rw [h.bit (b := 30) (by decide)]
  split
  · subst base; rw [h.eq (by decide)]
  · rfl

/-- What a write does at once in its block follows from the bits the block looks at. -/
theorem regEffect_congr (old : State) (path : AccessPath) {base : Nat} (i : Nat) (x : RegWr) (h : AgreeEffect base v w) :
    regEffect old path base i v x = regEffect old path base i w x := by
  unfold regEffect
  dsimp only
  refine ite_congr rfl (fun hb => ?cfgErr) fun _ => ite_congr rfl (fun hb => ?rstCtrl) fun _ =>
    ite_congr rfl (fun hb => ?watchdog) fun _ => ite_congr rfl (fun _ => rfl) fun _ =>
    ite_congr rfl (fun hb => ?slotCfg) fun _ => ite_congr rfl (fun hb => ?slotCmd) fun _ =>
    ite_congr rfl (fun hb => ?thmCmd) fun _ => ite_congr rfl (fun hb => ?bbxRead) fun _ =>
    ite_congr rfl (fun _ => ?monitor) fun _ => ite_congr rfl (fun hb => ?ckpt) fun _ =>
    ite_congr rfl (fun hb => ?gclCtl) fun _ => ite_congr rfl (fun hb => ?netCtrl) fun _ =>
    ite_congr rfl (fun hb => ?pwinCtl) fun _ => rfl
  case monitor => rw [State.pmuEffect_congr x.1 old i h]
  all_goals subst hb
  case cfgErr | slotCfg | ckpt | pwinCtl => rw [h.bit (b := 31) (by decide)]
  case rstCtrl => rw [h.bits (hi := 31) (lo := 16) (by decide), h.bits (hi := 1) (lo := 0) (by decide)]
  case watchdog | thmCmd | bbxRead => rw [h.eq (by decide)]
  case slotCmd => rw [h.mod (hi := 3) (m := 16) (by decide) rfl]
  case gclCtl => rw [h.bit (b := 30) (by decide), h.bit (b := 29) (by decide)]
  case netCtrl => rw [h.bit (b := 0) (by decide)]

theorem writeField_congr (base i addr : Nat) (q : Bool) (x : RegWr) {f : FieldDesc} (h : AgreeOn v w f.hi f.lo) :
    writeField base i addr v q x f = writeField base i addr w q x f := by
  unfold writeField
  rw [h.getBits]

/-- CHAIN of an even counter is a reserved bit (R358). -/
theorem writeField_even_chain {i : Nat} (addr : Nat) (v : Word) (q : Bool) (x : RegWr) {f : FieldDesc} (hf : f.lo = 30)
    (hi : i % 2 = 0) : writeField 0x61000 i addr v q x f = x := by
  simp [writeField, hf, hi]

/-- A write of a register follows from what its fields and its block take from the value. -/
theorem State.regWrite_congr (s : State) (path : AccessPath) {addr i j : Nat} {r : RegDesc} (hf : findReg addr = some (r, i, j))
    (hfld : ∀ f ∈ r.fields, ∀ q x, writeField r.base i addr v q x f = writeField r.base i addr w q x f)
    (heff : AgreeEffect r.base v w) : s.regWrite path addr v = s.regWrite path addr w := by
  cases ha : s.absentReg addr with
  | true => rw [State.regWrite_absent path v ha, State.regWrite_absent path w ha]
  | false =>
    rw [State.regWrite_found path v ha hf, State.regWrite_found path w ha hf]
    split
    next => rfl
    split
    next hb =>
      rw [hb] at heff
      rw [heff.bit (b := 31) (by decide), heff.mod (hi := 7) (m := 256) (by decide) rfl]
    next =>
      have hfold : r.fields.foldl (writeField r.base i addr v (s.quiesced r.base i)) (s, 0) =
          r.fields.foldl (writeField r.base i addr w (s.quiesced r.base i)) (s, 0) :=
        List.foldl_rel (r := Eq) rfl fun f hm x y hxy => hxy ▸ hfld f hm _ x
      rw [hfold]
      exact regEffect_congr s path i _ heff

/-- A write of all four bytes follows from it on every path. -/
theorem exec_registerWrite_congr (s : State) (path : AccessPath) {addr i j : Nat} {r : RegDesc} (h4 : addr % 4 = 0)
    (hlt : addr < 2 ^ 24) (hf : findReg addr = some (r, i, j))
    (hfld : ∀ f ∈ r.fields, ∀ q x, writeField r.base i addr v q x f = writeField r.base i addr w q x f)
    (heff : AgreeEffect r.base v w) :
    exec (.registerWrite path addr 15 v) s = exec (.registerWrite path addr 15 w) s := by
  cases ho : s.pathOpen path with
  | true => rw [exec_registerWrite_dword ho v h4 hlt, exec_registerWrite_dword ho w h4 hlt, s.regWrite_congr path hf hfld heff]
  | false => rw [exec_registerWrite_closed ho, exec_registerWrite_closed ho]

end

end Sys2Proof.Machine
end

section
/-! SUPPORT. What a read shows in a bit: of no field, 0; of a field that reads live, the live bit (R7, R8). -/

namespace Sys2Proof.Machine

/-- A bit reads 0 where every field over it reads live and its live value is 0 there. -/
theorem State.classRead_bit_zero (s : State) {r : RegDesc} (i j addr : Nat) {b : Nat} (hfit : ∀ f ∈ r.fields, f.fits)
    (h : ∀ f ∈ r.fields, f.lo ≤ b → b ≤ f.hi → f.acc ≠ .rwl ∧ f.acc ≠ .rwb ∧ (s.live r i j addr).getLsbD b = false) :
    (s.classRead r i j addr).getLsbD b = false := by
  by_cases hb : b < 32
  case neg => exact BitVec.getLsbD_of_ge _ _ (by omega)
  unfold State.classRead
  refine List.foldlRecOn r.fields _ (motive := fun w => BitVec.getLsbD w b = false) (by simp) fun w hw f hf => ?_
  have hlo := (hfit f hf).1
  by_cases hin : f.lo ≤ b ∧ b ≤ f.hi
  · obtain ⟨hrwl, hrwb, hlive⟩ := h f hf hin.1 hin.2
    have hput : (putBits w f.hi f.lo (getBits (s.live r i j addr) f.hi f.lo)).getLsbD b = false := by
      rw [getLsbD_putBits _ _ hlo hb, if_pos hin, testBit_getBits, show f.lo + (b - f.lo) = b by omega, hlive, Bool.and_false]
    split
    next => exact hw
    next hacc => exact absurd hacc hrwl
    next hacc => exact absurd hacc hrwb
    next => exact hput
  · have hput : ∀ v, (putBits w f.hi f.lo v).getLsbD b = false := fun v => by
      rw [getLsbD_putBits _ _ hlo hb, if_neg hin, hw]
    split
    next => exact hw
    all_goals exact hput _

theorem exec_readClearAccess_bit_zero {path : AccessPath} {s : State} (ho : s.pathOpen path = true) {addr i j : Nat}
    {r : RegDesc} (be b : Nat) (h4 : addr % 4 = 0) (hlt : addr < 2 ^ 24) (hf : findReg addr = some (r, i, j))
    (hhi : isHi r.base = false) (hz : (s.classRead r i j addr).getLsbD b = false) :
    ∃ t w, exec (.readClearAccess path addr be) s = .next t ∧ t.out.head? = some (.regData path addr w) ∧
      w.getLsbD b = false := by
  refine ⟨_, _, exec_readClearAccess_dword ho be h4 hlt, rfl, ?_⟩
  rcases State.regRead_value (s := s) path be hf hhi with h | h
  · rw [h]; exact BitVec.getLsbD_zero
  · rw [h, BitVec.getLsbD_and, hz, Bool.false_and]

/-- The registers of an array along its first dimension. -/
theorem RegDesc.inst_first {r : RegDesc} {i : Nat} (hs : 0 < r.s1) (hi : i < r.d1) (hj : 0 < r.d2) :
    r.inst (r.base + r.s1 * i) = some (i, 0) := by
  simp [RegDesc.inst, Nat.mul_div_cancel_left i hs, hi, hj, Nat.mul_comm i]

/-- PMU_CTR_CFG of counter `n`: bit 30, CHAIN, is a field of class RWQ of its own (R369). -/
theorem findReg_pmuCtrCfg {n : Nat} (hn : n < 256) : ∃ r j, findReg (0x61000 + 4 * n) = some (r, n, j) ∧ r.base = 0x61000 ∧
    ∀ f ∈ r.fields, f.lo ≤ 30 → 30 ≤ f.hi → f.lo = 30 ∧ f.acc = .rwq := by
  have exists_array : ∃ r ∈ regTable, r.base = 0x61000 ∧ r.s1 = 4 ∧ r.d1 = 256 ∧ r.d2 = 1 := by decide +kernel
  have unique : ∀ r ∈ regTable, 0x61000 ≤ r.last → r.base ≤ 0x613FC → r.base = 0x61000 ∧ r.s1 = 4 ∧ r.d2 = 1 ∧
      ∀ f ∈ r.fields, f.lo ≤ 30 → 30 ≤ f.hi → f.lo = 30 ∧ f.acc = .rwq := by decide +kernel
  obtain ⟨r₀, hr₀, hb₀, hs₀, hd₀, he₀⟩ := exists_array
  have hinst := RegDesc.inst_first (r := r₀) (i := n) (by omega) (by omega) (by omega)
  rw [hb₀, hs₀] at hinst
  obtain ⟨r, i, j, hf⟩ := findReg_isSome hr₀ (by rw [hinst]; rfl)
  obtain ⟨hb, hs, hd, hfld⟩ := findReg_range hf (by omega) (by omega) unique
  obtain ⟨haddr, -, hj⟩ := RegDesc.inst_eq_some (findReg_eq_some hf).2
  obtain rfl : j = 0 := by omega
  obtain rfl : i = n := by rw [hb, hs] at haddr; omega
  exact ⟨r, 0, hf, hb, hfld⟩

theorem State.live_even_chain (s : State) {r : RegDesc} {i : Nat} (j addr : Nat) (hb : r.base = 0x61000) (hi : i % 2 = 0) :
    (s.live r i j addr).getLsbD 30 = false := by
  have hl : s.liveFields r.base i j = [(30, 30, 0)] := by simp [State.liveFields, State.pmuFields, hb, hi]
  rw [State.live, hl]
  exact getLsbD_putBits _ _ (by decide) (by decide)

end Sys2Proof.Machine
end

section
namespace Sys2Proof.Machine

/-- Settles O5: a write looks at the bits of fields only, and a read builds its answer from the fields alone; CHAIN of an even
counter is passed over by the write and live at 0 in the read. -/
theorem reservedBitsAreIgnoredAndReadZero : Obligations.ReservedBitsAreIgnoredAndReadZero := by
  have noField : ∀ (addr b : Nat) (s : State) (r : RegDesc) (i j : Nat), findReg addr = some (r, i, j) →
      (∀ f ∈ r.fields, ¬(f.lo ≤ b ∧ b ≤ f.hi)) → (s.classRead r i j addr).getLsbD b = false :=
    fun addr b s r i j hf hb => s.classRead_bit_zero i j addr (regTable_fits r (findReg_eq_some hf).1)
      fun f hm h1 h2 => absurd ⟨h1, h2⟩ (hb f hm)
  refine ⟨?write, ?read, noField, ?chain⟩
  case write =>
    intro path addr v w s r i j h4 hlt hf hagree
    have hbits : ∀ f ∈ r.fields, AgreeOn v w f.hi f.lo := fun f hm => .of_getBits (hagree f hm)
    exact exec_registerWrite_congr s path h4 hlt hf (fun f hm q x => writeField_congr _ _ _ q x (hbits f hm))
      (agreeEffect_of_fields (findReg_eq_some hf).1 hbits)
  case read =>
    intro path addr be b s r i j h4 hlt hf hhi hb ho
    exact exec_readClearAccess_bit_zero ho be b h4 hlt hf hhi (noField addr b s r i j hf hb)
  case chain =>
    intro path n be v w s hn heven hagree
    obtain ⟨r, j, hf, hb, hchain⟩ := findReg_pmuCtrCfg hn
    refine ⟨?_, fun ho => ?_⟩
    · refine exec_registerWrite_congr s path (by omega) (by omega) hf (fun f hm q x => ?_) (by rw [hb]; intro p hp; cases hp)
      by_cases hin : f.lo ≤ 30 ∧ 30 ≤ f.hi
      · have hlo := (hchain f hm hin.1 hin.2).1
        rw [hb, writeField_even_chain _ v q x hlo heven, writeField_even_chain _ w q x hlo heven]
      · exact writeField_congr _ _ _ q x fun b h1 h2 => hagree b (by omega)
    · refine exec_readClearAccess_bit_zero ho be 30 (by omega) (by omega) hf (by rw [hb]; rfl) ?_
      refine s.classRead_bit_zero n j _ (regTable_fits r (findReg_eq_some hf).1) fun f hm h1 h2 => ?_
      have hacc := (hchain f hm h1 h2).2
      exact ⟨by rw [hacc]; decide, by rw [hacc]; decide, s.live_even_chain j _ hb heven⟩

end Sys2Proof.Machine
end

section
namespace Sys2Proof.Machine

/-- An Unsupported Request is recorded in function 1's configuration space (R332, R337, R338). -/
theorem aerSet_reset_cfg1 : (State.reset.aerSet 1 20).ept.cfg1 ≠ State.reset.ept.cfg1 := by decide

/-- Refutes O57: a register read that comes through BAR0 while function 1 answers no memory request is an Unsupported Request,
which writes the AER and status registers of function 1's configuration space. The state after power-on, whose link is down,
and a read of address 0 show it. -/
theorem not_registerNetworkAndSlotCommandsLeaveTheRest : ¬ Obligations.RegisterNetworkAndSlotCommandsLeaveTheRest := by
  rintro ⟨hread, -⟩
  have closed : State.reset.pathOpen .bar0 = false := by decide
  have h := hread .bar0 0 15 State.reset _ (exec_readClearAccess_closed closed 0 15)
  exact aerSet_reset_cfg1 (congrArg (fun t => t.ept.cfg1) h)

end Sys2Proof.Machine
end

section
/-! The command service: connections and packets, associations, admin commands, self-tests and queues, block commands, and drive
commands (O23, O24, O28, O29, O31, O32, O34). The proofs are elaborated in order, as the tests are, so that few are in memory at once. -/

set_option Elab.async false

section
/-! SUPPORT. Where nothing waits for a boundary, the pending values change nothing (R7, R374). -/

namespace Sys2Proof.Machine

theorem State.applyFld_of_noPend {s : State} {f : Fld} (h : s.regs.pend.get? f.addr = none) : s.applyFld f = s := by
  simp [State.applyFld, h]

theorem State.applyRwl_of_noPend {s : State} {addr : Nat} (h : s.regs.pend.get? addr = none) : s.applyRwl addr = s := by
  simp [State.applyRwl, h]

end Sys2Proof.Machine
end

section
/-! O23. Connections: requests, their answers, and their end (R34, R183, R184). -/

namespace Sys2Proof.Machine

/-- The queue pair that an accepted connection request makes: its place in the table and what was agreed for it (R183). -/
theorem exec_cmReq_accepted {req : CmReq} {i : Nat} {s : State} (hw : s.ctlWaits = false) (hin : s.sluIn = true)
    (hp : s.regs.pend = .empty) (hm : 1024 ≤ req.mtu) (hr : req.responderRes ≠ 0) (hl : s.slu.qps.size < s.qpLimit)
    (hf : s.slu.qps.freeKey 4096 = some i) :
    ∃ q : Qp, exec (.cmReq req) s =
      .next (State.putCm { s.drawn with slu := { s.slu with qps := s.slu.qps.put i q, gens := s.slu.gens.put i (s.nextGen i) } }
        req.remoteMac req.vlan req.remoteGid (.cm .rep i 0 (privOf (s.sprayPaths req.priv)))) ∧
      q.st = 0 ∧ q.gen = s.nextGen i ∧ q.qpn = s.nextGen i * 4096 + i ∧ q.mtu = min req.mtu s.mtuMax ∧
      q.depth = min 16 req.responderRes ∧ q.timeout = clamp 8 20 (s.fld F.SLU_RETRY_TIMEOUT) ∧
      q.ePsn = req.startPsn % psnMod := by
  have hpend : ∀ a, s.regs.pend.get? a = none := fun a => by rw [hp]; rfl
  simp only [exec, execCmReq, hw, hin, State.applyFld_of_noPend (hpend _), State.applyRwl_of_noPend (hpend _), hf,
    Nat.not_lt.2 hm, hr, Nat.not_le.2 hl, Bool.not_true, Bool.false_eq_true, if_false]
  exact ⟨_, rfl, rfl, rfl, rfl, rfl, rfl, rfl, rfl⟩

/-- Settles O23: each connection message that reaches Sluice, taken through the checks of R183 in their order. -/
theorem connectionsTakeEffect : Obligations.ConnectionsTakeEffect := by
  refine ⟨?accepted, ?refused, ?rtu, ?rej, ?dreq, ?drep⟩
  case accepted =>
    intro req i s hw hin hp hm hr hl hf
    obtain ⟨q, hexec, hst, hgen, hqpn, hmtu, hdepth, htime, hpsn⟩ := exec_cmReq_accepted hw hin hp hm hr hl hf
    exact ⟨_, q, hexec, Tab.get?_put_same _ _ _, hst, hgen, hqpn, hmtu, hdepth, htime, hpsn,
      fun j hj => Tab.get?_put_other _ _ _ _ hj⟩
  case refused =>
    intro req s hw hin hp
    have hpend : ∀ f, s.applyFld f = s := fun f => State.applyFld_of_noPend (by rw [hp]; rfl)
    refine ⟨fun hm => ?mtu, fun hm hr => ?resources, fun hm hr hl => ?limit⟩
    case mtu => simp [exec, execCmReq, hw, hin, hpend, hm]
    case resources => simp [exec, execCmReq, hw, hin, hpend, Nat.not_lt.2 hm, hr]
    case limit => simp [exec, execCmReq, hw, hin, hpend, Nat.not_lt.2 hm, hr, hl]
  case rtu =>
    intro i q s hw hq hst hin
    simp only [exec, execCmRtu, State.qp?, hw, hq, hst, hin, ne_eq, not_true_eq_false, decide_false, Bool.not_true, Bool.or_false,
      Bool.false_eq_true, if_false] <;> rfl
  case rej =>
    intro i q s hw hq hst hin
    simp [exec, execCmRej, State.qp?, hw, hq, hst, hin]
  case dreq =>
    intro i q s hw hq hin
    simp [exec, execCmDreq, State.qp?, hw, hq, hin]
  case drep =>
    intro i s hin
    simp [exec, execCmDrep, hin]

end Sys2Proof.Machine
end

section
/-! O24. Packets of a queue pair: the one its bed's fence stops, those behind, past or already in the window, and a new one
(R45, R190). -/

namespace Sys2Proof.Machine

/-- Settles O24: a packet of a queue pair is judged by its distance from the expected PSN (R190). -/
theorem packetsTakeEffect : Obligations.PacketsTakeEffect := by
  refine ⟨?placed, ?seen, ?stray⟩
  case placed =>
    intro p i q r st s u hin hf hfree hu hr hd hgot hheld hst v w x hv hw hwst hx hxst hop
    subst hu hv
    have hbeh : ¬8388608 ≤ psnDist r.ePsn p.psn := by omega
    simp only [exec, execPacketReceive, hin, hf, State.qp?, hr, Option.getD_some, Bool.not_true, Bool.false_eq_true, if_false]
    refine (if_neg (c := s.qpFenced q = true) (by simp [hfree])).trans ?_
    rw [if_neg hbeh, if_neg (Nat.not_le.2 hd), if_neg (by rw [hgot, hheld]; decide)]
    simp only [hst, hw, hwst, hx, hxst, beq_eq_false_iff_ne.2 hop, ne_eq, not_true_eq_false, decide_true, Bool.false_and,
      Bool.or_false, Bool.true_and, decide_eq_true_eq, if_false] <;> rfl
  case seen =>
    intro p i q r s u hin hf hfree hu hr
    subst hu
    refine ⟨fun hd => ?behind, fun hlo hhi => ?past, fun hd hgot => ?there⟩
    all_goals
      simp only [exec, execPacketReceive, hin, hf, State.qp?, hr, Option.getD_some, Bool.not_true, Bool.false_eq_true, if_false]
      refine (if_neg (c := s.qpFenced q = true) (by simp [hfree])).trans ?_
    case behind => rw [if_pos hd]
    case past => rw [if_neg (Nat.not_le.2 hhi), if_pos hlo]
    case there => rw [if_neg (by omega), if_neg (Nat.not_le.2 hd), if_pos (by rw [hgot]; rfl)]
  case stray =>
    intro p s hin hf
    simp [exec, execPacketReceive, hin, hf]

end Sys2Proof.Machine
end

section
/-! SUPPORT. An admin command that is taken up: what `admin`, `fabrics` and `queueCmd` hand on (R35, R36, R326). -/

namespace Sys2Proof.Machine

section
variable {s u : State} {cap : Cap} {op arr : Nat} {a : Assoc}

theorem State.admin_go (h : s.takeAdmin cap op false = .go u arr a) (f : State → Nat → Assoc → State) :
    s.admin cap op f = .next (f u arr a) := by
  simp only [State.admin, h]

/-- A Fabrics command of an association that is not endpoint function 0's. -/
theorem State.fabrics_go (h : s.takeAdmin cap 0x7F false = .go u arr a) (hfn : a.fn0 = false) (f : State → Nat → Assoc → State) :
    s.fabrics cap f = .next (f u arr a) := by
  simp [State.fabrics, State.admin_go h, hfn]

/-- A queue command of endpoint function 0's association. -/
theorem State.queueCmd_go (h : s.takeAdmin cap op false = .go u arr a) (hfn : a.fn0 = true) (f : State → Nat → State) :
    s.queueCmd cap op f = .next (f u arr) := by
  simp [State.queueCmd, State.admin_go h, hfn]

end

end Sys2Proof.Machine
end

section
/-! O28. Associations, slots, parking, the responder in Dark, and properties (R33–R36, R47–R49, R195, R199). -/

namespace Sys2Proof.Machine

theorem ShelfSt.ne_held_dark {t : ShelfSt} (h : t = .awake ∨ t = .dormant) : t ≠ .held ∧ t ≠ .dark := by
  rcases h with rfl | rfl <;> decide

/-- A Connect that is served is judged by `connectBad`: what that says against it is its answer (R33). -/
theorem exec_connect_refused {cap : Cap} {req : ConnectReq} {st dw0 : Nat} {s : State} (hw : s.connectWaits = false)
    (hsh : s.shelf.st = .awake ∨ s.shelf.st = .dormant) (hin : s.sluIn = true) (hbad : s.connectBad cap req = some (st, dw0)) :
    exec (.connect cap req) s = .next (s.refuseConnect cap st dw0) := by
  obtain ⟨hheld, hdark⟩ := ShelfSt.ne_held_dark hsh
  simp [exec, execConnect, hw, hheld, hdark, hin, hbad]

/-- A Connect of queue 0 makes the association (R33, R54). -/
theorem exec_connect_admin {cap : Cap} {req : ConnectReq} {bed : Option Nat} {pos : Nat} {ten : Tenant} {s : State}
    (hw : s.connectWaits = false) (hsh : s.shelf.st = .awake ∨ s.shelf.st = .dormant) (hin : s.sluIn = true)
    (hbad : s.connectBad cap req = none) (hq : req.qid = 0) (hsub : s.subsystem req.subnqn = some bed)
    (hten : s.tenantFor req.hostnqn = some (pos, ten)) :
    exec (.connect cap req) s =
      .next (let u : State := { s with cmd := { s.cmd with
               assocs := s.cmd.assocs.put cap.assoc (newAssoc bed req.hostnqn pos (katoOf req.kato) s.now) } }
             ((u.detachOthers cap.assoc ten.id).addQueue cap.assoc 0 (req.sqsize + 1)).answer cap 0 (.admin 0x7F) true 0 cap.assoc 0) := by
  obtain ⟨hheld, hdark⟩ := ShelfSt.ne_held_dark hsh
  simp [exec, execConnect, hw, hheld, hdark, hin, hbad, hq, hsub, hten]

/-- A Connect of a further queue joins its association, whatever subsystem and tenant its names give. -/
theorem exec_connect_queue {cap : Cap} {req : ConnectReq} {s : State} (hw : s.connectWaits = false)
    (hsh : s.shelf.st = .awake ∨ s.shelf.st = .dormant) (hin : s.sluIn = true) (hbad : s.connectBad cap req = none)
    (hq : req.qid ≠ 0) :
    exec (.connect cap req) s = .next ((s.addQueue cap.assoc req.qid (req.sqsize + 1)).answer cap 0 (.admin 0x7F) true 0 cap.assoc 0) := by
  obtain ⟨hheld, hdark⟩ := ShelfSt.ne_held_dark hsh
  simp only [exec, execConnect, hw, hheld, hdark, hin, hbad, decide_false, Bool.true_or, Bool.not_true, Bool.or_self, Bool.false_eq_true,
    if_false]
  split
  · rw [if_pos hq]
  · rfl

/-- A capsule on a port that is up takes a token from the responder's bucket and is answered (R49). -/
theorem State.darkCapsule_token {n : Nat} (cap : Cap) (ka : Bool) {s : State} (ht : s.darkTokens ≠ 0) (hpow : s.netPowered n = true)
    (hlink : (s.nport n).link = true) (hring : s.flag F.BSN_RING_ENABLE = false) :
    ∃ u : State, u.cmd.bucket = s.darkTokens - 1 ∧ u.beds = s.beds ∧
      s.darkCapsule n cap ka =
        if ka then (u.keepAlive cap.assoc).darkAnswer n cap 0 else u.darkWake.darkAnswer n cap Status.shelfDark := by
  simp only [State.darkCapsule, hpow, hlink, hring, ht, Bool.not_true, Bool.and_false, Bool.false_and, Bool.or_self, Bool.false_eq_true,
    if_false]
  refine ⟨_, ?tokens, ?beds, rfl⟩
  case tokens => rfl
  case beds => rfl

/-- Settles O28: every command is followed through the checks before its effect; a refusal of them is a statement of its own. -/
theorem associationsAndPropertiesTakeEffect : Obligations.AssociationsAndPropertiesTakeEffect := by
  refine ⟨?connectAdmin, ?connectRefused, ?connectQueue, ?disconnect, ?keepAliveExpiry, ?keepAlive, ?slotGrant, ?wakeRepeat,
    ?parkTimeout, ?darkToken, ?notDark, ?propertyGet, ?propertyUnknown, ?ccOff, ?ccOn, ?windowRegister, ?windowRevoke⟩
  case connectAdmin =>
    intro cap req bed pos ten s hw hsh hin hbad hq hsub hten
    exact exec_connect_admin hw hsh hin hbad hq hsub hten
  case connectRefused =>
    intro cap req st dw0 s hw hsh hin hbad
    exact exec_connect_refused hw hsh hin hbad
  case connectQueue =>
    intro cap req s hw hsh hin hbad hq
    exact exec_connect_queue hw hsh hin hbad hq
  case disconnect =>
    intro cap arr a s u ht hfn
    simp only [exec, execDisconnect, State.fabrics_go ht hfn]
  case keepAliveExpiry =>
    intro i d a s ha hd he
    simp [exec, execKeepAliveExpiry, State.assoc?, ha, hd, he]
  case keepAlive =>
    intro cap arr a s u ht
    simp only [exec, execKeepAlive, State.admin_go ht, State.keepAlive]
  case slotGrant =>
    intro arr s hg
    simp only [exec, execSlotGrant, hg]
  case wakeRepeat =>
    intro d s hd hp
    simp only [exec, execWakeRequestRepeat, hd, hp, if_false, State.at_now, State.at_cmd]
    rfl
  case parkTimeout =>
    intro arr r s hr hp
    simp only [exec, execParkTimeout, State.cmd?, hr, hp, if_true]
    rfl
  case darkToken =>
    intro n cap ka s hw hst ht hpow hlink hn hring
    obtain ⟨u, hb, hbeds, hu⟩ := State.darkCapsule_token cap ka ht hpow hlink hring
    exact ⟨u, hb, hbeds, by simp [exec, execDarkCapsuleResponse, hw, hst, hu, -Bool.if_true_left]⟩
  case notDark =>
    intro n cap ka s hw hst
    simp [exec, execDarkCapsuleResponse, hw, hst]
  case propertyGet =>
    intro cap off lo hi arr a s u ht hfn hp
    simp only [exec, execPropertyGet, State.fabrics_go ht hfn, hp]
  case propertyUnknown =>
    intro cap off arr a s u ht hfn hp
    simp only [exec, execPropertyGet, State.fabrics_go ht hfn, hp]
  case ccOff =>
    intro cap v arr a s u ht hfn hv
    simp [exec, execPropertySet, State.fabrics_go ht hfn, hv]
  case ccOn =>
    intro cap v arr a s u ht hfn hv
    simp [exec, execPropertySet, State.fabrics_go ht hfn, hv]
  case windowRegister =>
    intro cap arr a s u ht hfn
    simp only [exec, execWindowRegister, State.fabrics_go ht hfn]
  case windowRevoke =>
    intro cap w arr a s u ht hfn hw
    simp only [exec, execWindowRevokeProperty, State.fabrics_go ht hfn, State.winUnset, hw]

end Sys2Proof.Machine
end

section
/-! O29. Log pages, Identify, features, event requests, Abort and opcodes that are not supported (R36–R38, R43). -/

namespace Sys2Proof.Machine

theorem State.bedOf_modAssoc (s : State) (i : Nat) {f : Assoc → Assoc} (c : Cap) (hf : ∀ x, (f x).bed = x.bed) :
    (s.modAssoc i f).bedOf c = s.bedOf c := by
  unfold State.bedOf State.assoc? State.modAssoc
  by_cases h : c.assoc = i
  · subst h
    cases hx : s.cmd.assocs.get? c.assoc <;> simp [Tab.get?_modify_same, hx, hf]
  · simp [Tab.get?_modify_other _ _ _ _ h]

/-- Settles O29: each is an admin command, so all of its effect is what follows its taking up. -/
theorem adminCommandsTakeEffect : Obligations.AdminCommandsTakeEffect := by
  refine ⟨?logPage, ?logPageUnknown, ?identify, ?setFeatures, ?getFeatures, ?eventRequest, ?unsupported, ?abortCaught, ?abortMissed⟩
  case logPage =>
    intro cap lid off len arr d a p s u ht hp hlid
    simp [exec, execGetLogPage, State.admin_go ht, hp, hlid]
  case logPageUnknown =>
    intro cap lid off len arr d a s u ht hp
    simp only [exec, execGetLogPage, State.admin_go ht, hp]
  case identify =>
    intro cap cns nsid arr d a p s u ht hc hp
    have hc' : List.contains [0, 1, 2, 3, 5, 6, 0x1C] cns = true := List.contains_iff_mem.2 hc
    simp only [exec, execIdentify, State.admin_go ht, hc', hp, Bool.not_true, Bool.false_eq_true, if_false]
  case setFeatures =>
    intro cap v arr d a s u ht
    refine ⟨?_, ?_, ?_, ?_, ?_, ?_⟩ <;> simp +contextual [exec, execSetFeatures, State.admin_go ht]
  case getFeatures =>
    intro cap arr d a s u ht
    refine ⟨?_, ?_, ?_, ?_, ?_, ?_, ?_⟩ <;> simp [exec, execGetFeatures, State.admin_go ht]
  case eventRequest =>
    intro cap arr a s u ht hlen hnew
    simp [exec, execAsynchronousEventRequest, State.admin_go ht, hnew, Nat.not_le.2 hlen]
  case unsupported =>
    intro cap op arr a s u ht
    simp only [exec, execAdminOpcodeUnsupported, State.admin_go ht]
  case abortCaught =>
    intro cap q c arr k b a r s u ht hn hf hc hk hb hbed
    simp [exec, execAbort, State.admin_go ht, hf, hc, hbed, Nat.not_lt.2 hn, hk, State.bedOf_modAssoc, hb]
  case abortMissed =>
    intro cap q c arr a s u ht hn hf
    simp only [exec, execAbort, State.admin_go ht, hf, Nat.not_lt.2 hn, if_false]

end Sys2Proof.Machine
end

section
/-! O31. Self-tests (R50–R52) and the queues of endpoint function 0 (R326). -/

namespace Sys2Proof.Machine

section
variable {s u v : State} {cap : Cap} {kind nsid arr h : Nat} {a : Assoc}

variable (ht : s.takeAdmin cap 0x14 false = .go u arr a) (hk : nsid = 0 ∨ nsid = 0xFFFFFFFF ∨ (u.ownNs a nsid).isSome = true)
include ht hk

/-- A second self-test is refused (R50). -/
theorem State.startTest_busy (hrun : u.cmd.selfTest.isSome = true) :
    s.startTest cap kind nsid = .next (u.finish arr Status.selfTestInProgress 0 0) := by
  have hk' : (nsid = 0 || nsid = 0xFFFFFFFF || (u.ownNs a nsid).isSome) = true := by simpa [or_assoc] using hk
  simp only [State.startTest, State.admin_go ht, hk', hrun, Bool.not_true, Bool.false_eq_true, if_false, if_true]

/-- The arbiter lets the self-test run (R50, R371). -/
theorem State.startTest_runs (hno : u.cmd.selfTest = none) (harb : u.arrivalOf kind none nsid false none = (v, 0, h)) :
    s.startTest cap kind nsid = .next (((v.applyFld F.CMD_CFG_DST_GAP).beginTest kind nsid cap.assoc).finish arr 0 0 0) := by
  have hk' : (nsid = 0 || nsid = 0xFFFFFFFF || (u.ownNs a nsid).isSome) = true := by simpa [or_assoc] using hk
  simp only [State.startTest, State.admin_go ht, hk', hno, harb, Option.isSome_none, Bool.not_true, Bool.false_eq_true, if_false]
  rfl

/-- The arbiter defers the self-test: it then belongs to the association that asked for it (R371). -/
theorem State.startTest_waits (hno : u.cmd.selfTest = none) (harb : u.arrivalOf kind none nsid false none = (v, 1, h)) :
    s.startTest cap kind nsid =
      .next (State.finish (v.setActs (v.mnt.acts.map (fun x => if x.st = 1 && x.code = kind then { x with starter := cap.assoc } else x)))
        arr 0 0 0) := by
  have hk' : (nsid = 0 || nsid = 0xFFFFFFFF || (u.ownNs a nsid).isSome) = true := by simpa [or_assoc] using hk
  simp only [State.startTest, State.admin_go ht, hk', hno, harb, Option.isSome_none, Bool.not_true, Bool.false_eq_true, if_false]
  rfl

end

/-- Settles O31: a test starts, waits or is refused by what `startTest` finds; a slice is followed for a unit that was picked and for
a segment that has none left. -/
theorem selfTestsAndQueueCommandsTakeEffect : Obligations.SelfTestsAndQueueCommandsTakeEffect := by
  refine ⟨?runs, ?waits, ?busy, ?abort, ?slice, ?putOff, ?pauseLimit, ?createSq, ?deleteSq, ?createCq, ?deleteCq⟩
  case runs =>
    intro cap nsid arr h c a s u v ht hk hno harb
    refine ⟨fun hc => ?_, fun hc => ?_⟩ <;> subst hc <;> exact State.startTest_runs ht hk hno harb
  case waits =>
    intro cap nsid arr h c a s u v ht hk hno harb
    refine ⟨fun hc => ?_, fun hc => ?_⟩ <;> subst hc <;> exact State.startTest_waits ht hk hno harb
  case busy =>
    intro cap nsid arr a s u ht hk hrun
    exact ⟨State.startTest_busy ht hk hrun, State.startTest_busy ht hk hrun⟩
  case abort =>
    intro cap arr a s u ht
    simp only [exec, execSelfTestAbort, State.admin_go ht]
  case slice =>
    intro took w p passed y z s u hy hw hpause hu hz hp hgo hsteps
    have hrun : ¬(!z.todo.isEmpty && p.isNone) = true := by
      rcases hgo with h | h
      · simp [h]
      · simp [Option.isSome_iff_ne_none.1 h]
    obtain ⟨⟩ := y
    dsimp only at hw hpause
    subst hw hpause hu hz
    simp only [exec, execSelfTestSlice, hy, hp]
    refine ⟨(if_neg hrun).trans ?_, (if_neg hrun).trans ?_⟩
    · cases p <;> exact congrArg Host.Outcome.next (if_neg (Nat.not_lt.2 hsteps))
    · cases p <;> rfl
  case putOff =>
    intro took w last passed y z s u hy hw hpause hu hz hp htodo
    obtain ⟨⟩ := y
    subst hw hpause hu hz
    simp only [exec, execSelfTestSlice, hy, Option.isSome_none, Bool.false_eq_true, if_false]
    exact if_pos (by simp only [hp, List.isEmpty_eq_false_iff.2 htodo, Option.isNone_none, Bool.not_false, Bool.and_self])
  case pauseLimit =>
    intro p y s hy hp
    simp only [exec, execSelfTestPauseLimit, hy, hp]
  case createSq =>
    intro cap qid size cqid arr a s u ht hfn hq0 hq63 hnew hs0 hs hc0 hc hn hsum
    simp [exec, execCreateIoSubmissionQueue, State.queueCmd_go ht hfn, hq0, Nat.not_lt.2 hq63, hnew, hs0, Nat.not_lt.2 hs, hc0, hc,
      Nat.not_le.2 hn, Nat.not_lt.2 hsum]
  case deleteSq =>
    intro cap qid arr a s u ht hfn hq0 hhas
    simp only [exec, execDeleteIoSubmissionQueue, State.queueCmd_go ht hfn, hq0, hhas, decide_false, Bool.not_true, Bool.or_self,
      Bool.false_eq_true, if_false] <;> rfl
  case createCq =>
    intro cap qid size arr vec a s u ht hfn hq0 hq63 hnew hs0 hs
    simp [exec, execCreateIoCompletionQueue, State.queueCmd_go ht hfn, hq0, Nat.not_lt.2 hq63, hnew, hs0, Nat.not_lt.2 hs]
  case deleteCq =>
    intro cap qid arr a s u ht hfn hq0 hhas hfree
    simp only [exec, execDeleteIoCompletionQueue, State.queueCmd_go ht hfn, hq0, hhas, hfree, decide_false, Bool.not_true, Bool.or_self,
      Bool.false_eq_true, if_false]

end Sys2Proof.Machine
end

section
/-! O32. Block commands, and the deltas of commits that are written (R36, R41, R45, R61, R82). -/

namespace Sys2Proof.Machine

theorem insertBy_ne_nil {α : Type} (le : α → α → Bool) (a : α) (l : List α) : insertBy le a l ≠ [] := by
  cases l with
  | nil => simp [insertBy]
  | cons c t => unfold insertBy; split <;> simp

theorem sortBy_ne_nil {α : Type} (le : α → α → Bool) {l : List α} (h : l ≠ []) : sortBy le l ≠ [] := by
  cases l with
  | nil => exact absurd rfl h
  | cons a t => exact insertBy_ne_nil le a _

/-- What a write's last unit is merged with: nothing where the range ends with a unit, what was read for the first unit where they
are the same. -/
theorem ite_lastUnit {α : Type} (tail head same : Prop) [Decidable tail] [Decidable head] [Decidable same] (a o i : α) :
    (if decide tail && (decide (¬same) || !decide head) then a else if tail then o else i) =
      if ¬tail then i else if head ∧ same then o else a := by
  by_cases ht : tail <;> by_cases hh : head <;> by_cases hs : same <;> simp [ht, hh, hs]

/-- A Dataset Management whose ranges lie in its namespace: Deallocate changes the map, any other hint nothing (R41, R82). -/
theorem exec_datasetManagement_taken {cap : Cap} {nsid arr b : Nat} {dealloc : Bool} {rs : List (Nat × Nat)} {d : DataPtr}
    {media : List MediaRead} {n m : Namespace} {s u : State} (hm : s.cfg.data.ns.get? nsid = some m) (hkv : m.kv = false)
    (hlen : rs.length ≤ 256) (hfit : ∀ q ∈ rs, q.1 + q.2 ≤ m.lbas)
    (ht : s.takeR media cap nsid (.dsm nsid dealloc rs) (s.dptrBad cap d (16 * rs.length)) = .go u arr b n) :
    exec (.datasetManagement cap nsid dealloc ⟨rs, d, media⟩) s =
      .next (if dealloc then u.runZero arr b n rs media else u.effect b arr 0) := by
  have hany : rs.any (fun q => decide (m.lbas < q.1 + q.2)) = false := by
    rw [List.any_eq_false]; intro q hq; simp [hfit q hq]
  have hbad : ∀ x, firstBad 0 x = x := fun _ => rfl
  simp only [exec, execDatasetManagement, hm, hkv, Nat.not_lt.2 hlen, hany, hbad, ht, Bool.false_eq_true, if_false]

/-- A command that holds its slot in Awake and has not ended is taken up and refused for its opcode (R36). -/
theorem State.unsupported_taken {cap : Cap} {nsid op arr : Nat} {r : CmdRec} {s : State} (hfree : s.capFenced cap = false)
    (hsh : s.shelf.st = .awake) (hmove : s.shelf.move = none) (hcs : s.coreStop = false) (hf : s.findCap cap = some (arr, r))
    (hr : s.cmd.cmds.get? arr = some r) (hslot : r.slot.isSome = true) (heff : r.phase ≠ .effect) (hdone : r.phase ≠ .done) :
    s.unsupported cap nsid op =
      (s.mod arr (fun r => { r with cmd := some (.admin op), nsid := nsid })).finish arr Status.invalidOpcode 0 0 := by
  obtain ⟨k, hk⟩ := Option.isSome_iff_exists.1 hslot
  have hr' : (s.mod arr (fun r => { r with cmd := some (.admin op), nsid := nsid })).cmd? arr =
      some { r with cmd := some (.admin op), nsid := nsid } := by
    simp [State.cmd?, State.mod, Tab.get?_modify_same, hr]
  have hcs' : ∀ f, (s.mod arr f).coreStop = false := fun _ => hcs
  have hbad : Status.invalidOpcode ≠ 0 := by decide
  simp [State.unsupported, State.take, State.intakeOff, hfree, hsh, hmove, hf, hr', hcs', hk, heff, hdone, hbad]

/-- Settles O32: a command that is taken up runs through the checks of R41 in their order; the hypotheses of each clause say what the
checks find. -/
theorem blockCommandsTakeEffect : Obligations.BlockCommandsTakeEffect := by
  refine ⟨?flush, ?write, ?read, ?verify, ?zero, ?hint, ?unsupported, ?map, ?index⟩
  case flush =>
    intro cap nsid arr b r n x s hfree hf hr hslot hph hcs hsh htgt hx hst
    obtain ⟨k, hk⟩ := Option.isSome_iff_exists.1 hslot
    simp [exec, execFlush, State.cmd?, State.bed?, hfree, hsh, hf, hr, hk, hph, hcs, htgt, hx, hst]
  case write =>
    intro cap nsid slba nlb arr b d data all media r x n cut o0 o1 o recs cs es s u v w y z p ht hr hx hph hmd hcut hgo hturn hkey ho0
      ho1 hread hwait hstat hy hall hrecs hing hput
    have hfree : (!cut.isEmpty && (u.blocked arr || u.unitShared arr cut)) = false := by
      rcases hgo with h | ⟨hb, hu⟩
      · simp [h]
      · simp [hb, hu]
    dsimp only at hread
    simp only [exec, execWrite, ht, State.runWrite, State.cmd?, State.bed?, hr, hx, hph, hmd, hturn, ← hcut, hfree, ← ho0, ne_eq,
      ite_lastUnit, Decidable.not_not, ← ho1, Option.isNone_eq_false_iff.2 hkey, hread, hwait, hstat, ← hy, ← hrecs, ← hall, hing,
      hput, not_true_eq_false, decide_false, List.isEmpty_nil, Bool.not_true, Bool.or_self, Bool.false_eq_true, if_false]
  case read =>
    intro cap nsid slba nlb arr b d media r x n o s u v ht hr hx hfree hread hheld hwaits hstat
    simp [exec, execRead, ht, State.runRead, State.cmd?, State.bed?, hr, hx, hfree, hread, hheld, hwaits, hstat]
  case verify =>
    intro cap nsid slba nlb arr b media r x n o s u v ht hr hx hfree hread hheld hwaits hstat
    simp [exec, execVerify, ht, State.runRead, State.cmd?, State.bed?, hr, hx, hfree, hread, hheld, hwaits, hstat]
  case zero =>
    intro cap nsid slba nlb arr b rs d media r x n m es parts o cs l s u v w y z hr hx hph hmw hmd hes hparts hgo hread hwait hstat
      hing hput hne
    have hfree : (!parts.isEmpty && (u.blocked arr || u.unitShared arr parts)) = false := by
      rcases hgo with ⟨h, -⟩ | ⟨hb, hu, -⟩
      · simp [h]
      · simp [hb, hu]
    have hturn : (if parts.isEmpty then (u, true) else u.ingestTurn arr n.modeD) = (v, true) := by
      rcases hgo with ⟨h, rfl⟩ | ⟨-, -, ht, -, hp⟩
      · simp [h]
      · simp [hp, ht]
    have hkey : (!parts.isEmpty && v.keyNow.isNone) = false := by
      rcases hgo with ⟨h, -⟩ | ⟨-, -, -, hk, -⟩
      · simp [h]
      · simp [Option.isNone_eq_false_iff.2 hk]
    have hrun : u.runZero arr b n rs media = State.advance (z.mod arr (fun q => { q with work := { q.work with
        mapDelta := sortBy (fun a c => decide (a.1 ≤ c.1)) (es ++ l), mapToWrite := true } })) b arr := by
      simp only [State.runZero, State.cmd?, State.bed?, hr, hx, hph, hmw, hmd, ← hes, ← hparts, hfree, hturn, hkey, hread, hwait, hstat,
        hing, hput, List.isEmpty_eq_false_iff.2 (sortBy_ne_nil _ hne), ne_eq, not_true_eq_false, decide_false, List.isEmpty_nil,
        Bool.not_true, Bool.or_self, Bool.false_eq_true, if_false]
    refine ⟨fun hrs ht => ?zeroes, fun hm hkv hlen hfit ht => ?deallocate⟩
    case zeroes => simp only [exec, execWriteZeroes, ht, ← hrs, hrun]
    case deallocate => rw [exec_datasetManagement_taken hm hkv hlen hfit ht, if_pos rfl, hrun]
  case hint =>
    intro cap nsid arr b rs d media n m s u hm hkv hlen hfit ht
    rw [exec_datasetManagement_taken hm hkv hlen hfit ht, if_neg Bool.false_ne_true]
  case unsupported =>
    intro cap nsid op arr r s hfree hsh hmove hcs hf hr hslot heff hdone
    have h := State.unsupported_taken (nsid := nsid) (op := op) hfree hsh hmove hcs hf hr hslot heff hdone
    exact ⟨congrArg Host.Outcome.next h, congrArg Host.Outcome.next h⟩
  case map =>
    intro arr b r x s hr hb hx hcs hph hiss hmd hwr hfree
    simp only [exec, execMapDeltaApply, hcs, State.cmdBed, State.cmd?, hr, hb, State.applyMap, State.bed?, hx, hph, hiss, hwr, hfree,
      List.isEmpty_eq_false_iff.2 hmd, ne_eq, not_true_eq_false, decide_false, Bool.not_true, Bool.or_self, Bool.false_eq_true, if_false]
    refine ⟨_, ?bedMap, rfl⟩
    case bedMap => rfl
  case index =>
    intro arr b dl r x e s hr hb hcs hx hph hiss hput hdel hwr hfree
    simp [exec, execIndexDeltaApply, hcs, State.cmdBed, State.cmd?, hr, hb, State.applyIndex, State.bed?, hx, hph, hiss, hput, hdel, hwr,
      hfree]

end Sys2Proof.Machine
end

section
/-! O34. Completions, time-outs and the peer's commands at a drive (R43, R98, R100, R101). -/

namespace Sys2Proof.Machine

section
variable {id : Nat} {c : DriveCmd} {s u : State} (hcs : s.coreStop = false) (hc : s.drv.cmds.get? id = some c) (hst : c.st = 2)
  (hu : u = (State.noteIdle { s with drv := { s.drv with cmds := s.drv.cmds.del id } } c.bed c.member).histAdd 0x10 c.slot
    (s.now - (c.deadline - sec 8)) (fun _ => true))
include hcs hc hst hu

/-- What the peer asked for goes back to it, with the drive's status (R101). -/
theorem exec_completion_proxy {p : Nat} (hp : c.purpose = .proxy p) (st : DriveStatus) (data : Bytes) :
    exec (.driveCommandCompletion id st data) s = .next (u.gusSend c.bed (.proxyResult p st data) .nothing) := by
  simp only [exec, execDriveCommandCompletion, hcs, hc, hst, hp, hu, ne_eq, not_true_eq_false, Bool.false_eq_true, if_false]

variable (hown : ∀ p, c.purpose ≠ .proxy p)
include hown

/-- A command of this controller's own that succeeds goes to its purpose (R98). -/
theorem exec_completion_success (data : Bytes) :
    exec (.driveCommandCompletion id .success data) s = .next (u.driveDone c data) := by
  cases hp : c.purpose with
  | proxy p => exact absurd hp (hown p)
  | _ => simp only [exec, execDriveCommandCompletion, hcs, hc, hst, hp, hu, ne_eq, not_true_eq_false, Bool.false_eq_true, if_false]

/-- The peer's key has replaced this controller's (R100). -/
theorem exec_completion_conflict (data : Bytes) :
    exec (.driveCommandCompletion id .reservationConflict data) s = .next (u.fencedOut c.bed) := by
  cases hp : c.purpose with
  | proxy p => exact absurd hp (hown p)
  | _ => simp only [exec, execDriveCommandCompletion, hcs, hc, hst, hp, hu, ne_eq, not_true_eq_false, Bool.false_eq_true, if_false]

/-- A command that fails: a write or a flush is sent once more before its member fails; any other is counted against the member,
unless it is a control command or the failure no unrecovered read (R43, R98). -/
theorem exec_completion_failed {e : DriveStatus} (he : e = .error ∨ ∃ l, e = .unrecovered l) (data : Bytes) :
    exec (.driveCommandCompletion id e data) s =
      if c.op = .write || c.op = .flush then
        if c.retried then .next (u.memberFail c.bed c.member 2)
        else .next (State.issueDrive { u with drv := { u.drv with
          cmds := u.drv.cmds.put u.drv.nextId { c with retried := true }, nextId := u.drv.nextId + 1 } } u.drv.nextId)
      else .next (if e = .error || c.purpose = .control then u.joinAsk c.bed else u.countUre c.bed c.member) := by
  rcases he with rfl | ⟨l, rfl⟩ <;> cases hp : c.purpose with
  | proxy p => exact absurd hp (hown p)
  | _ => simp only [exec, execDriveCommandCompletion, hcs, hc, hst, hp, hu, ne_eq, not_true_eq_false, Bool.false_eq_true, if_false]

end

/-- Settles O34: by the purpose of the command, then by the drive's status; a time-out by the way the command went. -/
theorem driveCommandsTakeEffect : Obligations.DriveCommandsTakeEffect := by
  refine ⟨?completion, ?timeout, ?proxy, ?proxyNoMember⟩
  case completion =>
    intro id c data s u hcs hc hst hu
    refine ⟨fun p st hp => exec_completion_proxy hcs hc hst hu hp st data, fun hown => ?_⟩
    have hfail := fun e he => exec_completion_failed hcs hc hst hu hown (e := e) he data
    refine ⟨exec_completion_success hcs hc hst hu hown data, exec_completion_conflict hcs hc hst hu hown data,
      fun l hw hf => ?unrecovered, fun hw hf => ?error, fun e he hop hr => ?again, fun e he hop hr => ?first⟩
    case unrecovered => simp [hfail _ (.inr ⟨l, rfl⟩), hw, hf]
    case error => simp [hfail _ (.inl rfl), hw, hf]
    case again => rw [hfail e he, if_pos (by simpa using hop), if_pos hr]
    case first => rw [hfail e he, if_pos (by simpa using hop), if_neg (by simp [hr])]
  case timeout =>
    intro id c s hc hst
    simp only [exec, execDriveCommandTimeout, hc, hst, ne_eq, not_true_eq_false, if_false]
    cases c.proxied <;> rfl
  case proxy =>
    intro id slot sector count b m op data s hm
    simp only [exec, execProxyCommand, hm]
  case proxyNoMember =>
    intro id slot sector count op data s hm
    simp only [exec, execProxyCommand, hm]

end Sys2Proof.Machine
end

end

section
/-! The object service: namespace and key-value commands, peer messages and key messages (O30, O33, O40, O47). -/

section
/-! SUPPORT. A request of the service port that is carried out (R378). -/

namespace Sys2Proof.Machine

theorem Tab.putL_putL_same {α : Type} (k : Nat) (v w : α) (l : List (Nat × α)) : Tab.putL k v (Tab.putL k w l) = Tab.putL k v l := by
  induction l with
  | nil => simp [Tab.putL]
  | cons e t ih =>
    obtain ⟨j, z⟩ := e
    by_cases hlt : k < j
    · simp [Tab.putL, hlt]
    · by_cases heq : j = k
      · simp [Tab.putL, heq]
      · simp [Tab.putL, hlt, heq, ih]

/-- Of two entries under one key the later stays. -/
@[simp] theorem Tab.put_put_same {α : Type} (t : Tab α) (k : Nat) (v w : α) : (t.put k w).put k v = t.put k v :=
  congrArg Tab.mk (Tab.putL_putL_same k v w t.entries)

/-- A new request that is sound, in an open session, is noted and carried out. -/
theorem State.svc_open {s : State} {h : SvcHead} {type : Nat} (ho : s.svcOpen h type = true) (run : State → State) :
    s.svc h type run = run (s.svcNoted h type) := by
  cases hx : s.mnt.sessions.get? h.session with
  | none => simp [State.svcOpen, hx] at ho
  | some x =>
    simp only [State.svcOpen, hx, Bool.and_eq_true, Bool.not_eq_true', Option.isNone_iff_eq_none, decide_eq_true_eq] at ho
    obtain ⟨⟨⟨⟨hport, htag⟩, hbody⟩, hrom⟩, hnew, hreq⟩ := ho
    simp [State.svc, State.svcNoted, hport, htag, hbody, hrom, hx, hnew, Nat.not_le.2 hreq, Tab.modify]

end Sys2Proof.Machine
end

section
/-! O30. Namespaces: created, deleted, attached and detached (R55, R69, R83, R154). -/

namespace Sys2Proof.Machine

/-- An admin command that needs a member, taken up (R46). -/
theorem State.adminMember_go {s u : State} {cap : Cap} {op arr : Nat} {a : Assoc} (h : s.takeAdmin cap op true = .go u arr a)
    (f : State → Nat → Assoc → State) : s.adminMember cap op f = .next (f u arr a) := by
  simp only [State.adminMember, h]

/-- The check of a new namespace's capacity, which only one of blocks can fail: by its sectors, the Cistern, or its map pages
(R83). -/
theorem nsCapacity_passes {kv fits : Bool} {lbas limit pages room : Nat} (h : kv = true ∨ lbas ≤ limit ∧ fits = true ∧ pages ≤ room) :
    (!kv && (decide (limit < lbas) || !fits || decide (room < pages))) = false := by
  rcases h with rfl | ⟨hl, rfl, hp⟩
  · rfl
  · simp [hl, hp]

/-- Settles O30: each is an admin command, followed through its checks in their order. -/
theorem namespaceCommandsTakeEffect : Obligations.NamespaceCommandsTakeEffect := by
  refine ⟨?create, ?delete, ?attachment⟩
  case create =>
    intro cap kv lbas arr b nsid chunk modeD d a x s u v ht hd hb hx href hch hfind hcap hcom
    simp only [exec, execNamespaceCreate, State.adminMember_go ht, hd, hb, State.bed?, hx, href, hch, hfind, nsCapacity_passes hcap,
      hcom, ne_eq, not_true_eq_false, Bool.not_true, Bool.and_false, Bool.false_eq_true, if_false]
  case delete =>
    intro cap nsid arr b a n x s u ht hns hx href hheld
    simp only [exec, execNamespaceDelete, State.adminMember_go ht, hns, State.bed?, hx, href, hheld, ne_eq, not_true_eq_false,
      Bool.false_eq_true, if_false] <;> rfl
  case attachment =>
    intro cap nsid arr b c att d a y n x s u ht hd hns hx hst hy hend hbed hten
    simp only [exec, execNamespaceAttachment, State.admin_go ht, hd, hns, State.bed?, hx, State.assoc?, hy, hst, hend, hbed, hten,
      List.all_cons, List.all_nil, ne_eq, not_true_eq_false, decide_true, decide_false, Bool.not_false, Bool.not_true, Bool.and_self,
      Bool.false_eq_true, if_false]

end Sys2Proof.Machine
end

section
/-! O33. Key-value commands (R57–R61, R64, R65, R69–R71). -/

namespace Sys2Proof.Machine

section
variable {s u v : State} {arr b nsid : Nat} {media : List MediaRead} {x : Bed}

/-- A command that reads the index has its effect on the entry, where its pages have come and nothing earlier conflicts (R61, R65). -/
theorem State.withEntry_found {key : Bytes} {e : IndexEntry} (hx : u.beds.get? b = some x) (hfree : u.blocked arr = false)
    (hlook : u.indexLook arr b x nsid key media = (v, some 0)) (hfind : idxFind x.index nsid key = some e)
    (f : State → Bed → IndexEntry → State) : u.withEntry arr b nsid key media f = f v x e := by
  simp only [State.withEntry, State.bed?, hx, hfree, hlook, hfind, Bool.false_eq_true, if_false]

section
variable {r : CmdRec} (hr : u.cmd.cmds.get? arr = some r) (hx : u.beds.get? b = some x) (hph : r.phase = .board)
  (hcw : r.work.commitToWrite = false) (hkey : v.keyNow.isSome = true)
include hr hx hph hcw hkey

/-- A Delete or a hold whose conditions hold goes on to write its one record (R61). -/
theorem State.runRecord_ready {key : Bytes} (hlook : u.indexLook arr b x nsid key media = (v, some 0)) :
    u.runRecord arr b nsid key media =
      State.advance ((v.fixFill b).mod arr (fun q => { q with work := { q.work with commitToWrite := true } })) b arr := by
  simp only [State.runRecord, State.cmd?, State.bed?, hr, hx, hph, hcw, hlook, Option.isNone_eq_false_iff.2 hkey, ne_eq,
    not_true_eq_false, decide_false, Bool.or_self, Bool.false_eq_true, if_false]

/-- A Retention Hold of one of the three actions (R69). -/
theorem State.runHold_ready {cap : Cap} {key : KvKey} {a t : Nat} {n : Namespace} (ha : a ≤ 2)
    (ht : s.takeR media cap nsid (.hold nsid key a t) (firstBad (s.kvBad nsid key false) 0) = .go u arr b n)
    (hlook : u.indexLook arr b x nsid (kvBytes key) media = (v, some 0)) :
    s.runHold cap nsid key a t media =
      State.advance ((v.fixFill b).mod arr (fun q => { q with work := { q.work with commitToWrite := true } })) b arr := by
  simp only [State.runHold, Nat.not_lt.2 ha, if_false, ht, State.runRecord_ready hr hx hph hcw hkey hlook]

end

end

/-- The entries of an Import Record agree with a command that gives their number and the sum of their lengths (R70). -/
theorem importSizes_of_entries {es : List (Nat × Bytes)} (hne : es ≠ []) (hlen : es.length ≤ 65536)
    (hl : ∀ e ∈ es, e.1 ≠ 0 ∧ e.1 ≤ 1048576) : importSizes es (sumN (es.map (·.1))) es.length = true := by
  have hall : es.all (fun e => decide (e.1 ≠ 0) && decide (e.1 ≤ 1048576)) = true :=
    List.all_eq_true.2 fun e he => by simpa using hl e he
  simp only [importSizes, hall, hlen, ne_eq, mt List.length_eq_zero_iff.1 hne, not_false_eq_true, decide_true, Bool.and_self]

/-- Settles O33: a command that is taken up runs through its checks in their order; the hypotheses of each clause say what the checks
find. -/
theorem keyValueCommandsTakeEffect : Obligations.KeyValueCommandsTakeEffect := by
  refine ⟨?store, ?retrieve, ?list, ?delete, ?exist, ?objectInfo, ?hold, ?importRecord⟩
  case store =>
    intro cap nsid size arr b key me mn d data media r x n cs s u v w y ht hr hx hph hcw hci hturn hkey hlook hcs
    simp only [exec, execStore, ht, State.cmd?, State.bed?, hr, hx, hph, hcw, hci, hturn, Option.isNone_eq_false_iff.2 hkey, hlook, hcs,
      ne_eq, not_true_eq_false, decide_false, Bool.or_self, Bool.not_true, Bool.false_eq_true, if_false] <;> rfl
  case retrieve =>
    intro cap nsid len arr b key d media x n e o s u v w ht hx hfree hlook hfind hread hwait hstat
    simp only [exec, execRetrieve, ht, State.withEntry_found hx hfree hlook hfind, hread, hwait, hstat, ne_eq, not_true_eq_false,
      Bool.false_eq_true, if_false]
  case list =>
    intro cap nsid len arr b key d media x n ks es s u v hlen ht hx hfree hks hes hlook
    simp only [exec, execList, Nat.not_lt.2 hlen, if_false, ht, State.bed?, hx, hfree, keysFrom, ← hks, ← hes, hlook, Bool.false_eq_true]
  case delete =>
    intro cap nsid arr b key media r x n s u v ht hr hx hph hcw hlook hkey
    simp only [exec, execDelete, ht, State.runRecord_ready hr hx hph hcw hkey hlook]
  case exist =>
    intro cap nsid arr b key media x n e s u v ht hx hfree hlook hfind
    simp only [exec, execExist, ht, State.withEntry_found hx hfree hlook hfind]
  case objectInfo =>
    intro cap nsid len arr b key d media x n e s u v hlen ht hx hfree hlook hfind
    simp only [exec, execObjectInfo, Nat.not_lt.2 hlen, if_false, ht, State.withEntry_found hx hfree hlook hfind]
  case hold =>
    intro cap nsid arr b a t key media r x n s u v ht hr hx hph hcw hlook hkey
    have hrun := fun ha => State.runHold_ready hr hx hph hcw hkey ha ht hlook
    refine ⟨_, rfl, ?setLegal, ?clearLegal, ?retainUntil⟩
    case setLegal => rintro rfl rfl; exact congrArg Host.Outcome.next (hrun (by decide))
    case clearLegal => rintro rfl rfl; exact congrArg Host.Outcome.next (hrun (by decide))
    case retainUntil => rintro rfl; exact congrArg Host.Outcome.next (hrun (by decide))
  case importRecord =>
    intro cap nsid len orig arr b key d data media r x n es s u v w y ht hr hx hph hcw hci hv hes hne hlen hsum hall hturn hgood hkey hlook
    subst hv hsum
    simp only [exec, execImportRecord, ht, State.cmd?, State.bed?, hr, hx, hph, hcw, hci, hes, importSizes_of_entries hne hlen hall, hturn,
      State.importRun, hgood, Option.isNone_eq_false_iff.2 hkey, hlook, ne_eq, not_true_eq_false, decide_false, Bool.or_self,
      Bool.not_true, Bool.true_eq_false, Bool.false_eq_true, if_false]

end Sys2Proof.Machine
end

section
/-! O40. Peer messages: joins, detaches, key checks, pairing, accumulators and slot requests (R153, R220, R229, R242, R243, R262). -/

namespace Sys2Proof.Machine

/-- Settles O40: the messages that are judged are followed through their checks; the others have their effect in every state. -/
theorem peerMessagesTakeEffect : Obligations.PeerMessagesTakeEffect := by
  refine ⟨?joinRequest, ?joinDone, ?joinAck, ?detachRequest, ?detachDone, ?keyOther, ?keySame, ?paired, ?unpaired, ?pairingDone,
    ?copied, ?notCopied, ?slotRequest⟩
  case joinRequest =>
    intro b msgId serial kcv x k s u hx hk hst hkcv hown hfen hmt hcon hsh hser hu
    subst hu
    simp only [exec, execJoinRequest, State.bed?, hx, hk, hst, hkcv, hown, hfen, hmt, hcon, hsh, hser, ne_eq, not_true_eq_false, and_self,
      decide_true, decide_false, Bool.not_true, Bool.or_self, Bool.false_eq_true, if_false]
  case joinDone =>
    intro b msgId tick fold x s hx hown hj
    simp only [exec, execJoinDone, State.bed?, hx, hown, hj, Bool.not_true, Bool.or_self, Bool.false_eq_true, if_false]
    rfl
  case joinAck =>
    intro b x s hx hown hc
    simp only [exec, execJoinAck, State.bed?, hx, hown, hc, Bool.not_true, Bool.or_self, Bool.false_eq_true, if_false]
    rfl
  case detachRequest => exact fun _ _ _ => rfl
  case detachDone => exact fun _ _ => rfl
  case keyOther =>
    intro kcv st found s hst
    simp only [exec, execKeyCheck, hst, decide_false, Bool.false_and, Bool.not_false, if_true]
  case keySame =>
    intro kcv found k s u hk hst hkcv hu
    subst hu
    simp only [exec, execKeyCheck, hk, hst, hkcv, and_self, decide_true, Bool.and_self, Bool.not_true, Bool.false_eq_true, if_false]
    split <;> rfl
  case paired =>
    intro msgId sender iv wrapped tag kcv sec k st s hst hst0 hsec hopen hkcv
    simp only [exec, execPairing, hst, hst0, hsec, hopen, hkcv, ne_eq, not_true_eq_false, if_false]
  case unpaired =>
    intro msgId sender iv wrapped tag kcv s
    refine ⟨?hasKey, ?noSecret⟩
    case hasKey =>
      rintro ⟨st, hst, hne⟩
      simp only [exec, execPairing, hst, hne, ne_eq, not_false_eq_true, if_true]
    case noSecret =>
      rintro ⟨st, hst, hst0⟩ hsec
      simp only [exec, execPairing, hst, hst0, hsec, ne_eq, not_true_eq_false, if_false]
  case pairingDone => exact fun _ _ => rfl
  case copied =>
    intro b i k x s hx hc
    simp only [exec, execAccRequest, State.bed?, hx, hc, Bool.not_true, Bool.false_eq_true, if_false] <;> rfl
  case notCopied =>
    intro b i k x s hx hc
    simp only [exec, execAccRequest, State.bed?, hx, hc, Bool.not_false, if_true]
  case slotRequest => exact fun _ _ _ => rfl

end Sys2Proof.Machine
end

section
/-! O47. Key messages of the service port (R152, R153, R156). -/

namespace Sys2Proof.Machine

/-- Settles O47: a key message is a service request, so its effect is what follows the request's being noted. -/
theorem keyMessagesTakeEffect : Obligations.KeyMessagesTakeEffect := by
  refine ⟨?pairingSecret, ?secretExpiry, ?generate, ?transfer, ?escrow, ?erase⟩
  case pairingSecret =>
    intro h secret s u ho hu
    subst hu
    simp only [exec, execKeyPairingSecret, State.svc_open ho, sec, Nat.reduceMul]
  case secretExpiry =>
    intro d s hd
    simp only [exec, execPairingSecretExpiry, hd]
  case generate =>
    intro h s u v ho hu hst hv
    subst hu hv
    simp only [exec, execKeyGenerate, State.svc_open ho, hst, ne_eq, not_true_eq_false, if_false]
  case transfer =>
    intro h receiver sec k iv st s u v ho hu hsec hk hst hkst hlink hiv hv
    subst hu hiv hv
    simp only [exec, execKeyTransfer, State.svc_open ho, hsec, hk, hst, hkst, hlink, ne_eq, not_true_eq_false, decide_false,
      Bool.not_true, Bool.or_self, Bool.false_eq_true, if_false]
  case escrow =>
    intro h iv sealed tag kcv sec k s u v ho hu hsec hst hopen hkcv hv
    subst hu hv
    simp only [exec, execKeyEscrowSend, State.svc_open ho, hsec, hst, hopen, hkcv, ne_eq, not_true_eq_false, if_false]
  case erase =>
    intro h s u ho hu
    subst hu
    refine ⟨?zeroize, fun hst => ?storeReset⟩
    case zeroize => simp only [exec, execKeyZeroize, State.svc_open ho, ne_eq, not_true_eq_false, if_false]
    case storeReset => simp only [exec, execKeyStoreReset, State.svc_open ho, hst, ne_eq, not_true_eq_false, if_false]

end Sys2Proof.Machine
end

end

section
/-! The member layout: sealed records (O56). -/

section
/-! SUPPORT. Byte strings: numbers in byte order, parts, pieces and exclusive or (R6). -/

namespace Sys2Proof.Machine

@[simp] theorem length_le (n v : Nat) : (le n v).length = n := by
  induction n generalizing v with
  | zero => rfl
  | succ n ih => simp [le, ih]

@[simp] theorem length_be (n v : Nat) : (be n v).length = n := by simp [be]

@[simp] theorem length_fitTo (n : Nat) (bs : Bytes) : (fitTo n bs).length = n := by simp [fitTo, zeros]; omega

@[simp] theorem length_xorBytes (a b : Bytes) : (xorBytes a b).length = min a.length b.length := by simp [xorBytes]

theorem leNat_le {n v : Nat} (hv : v < 256 ^ n) : leNat (le n v) = v := by
  induction n generalizing v with
  | zero => simp only [Nat.pow_zero, Nat.lt_one_iff] at hv; simp [le, leNat, hv]
  | succ n ih =>
    have hq : v / 256 < 256 ^ n := Nat.div_lt_of_lt_mul (by rwa [Nat.pow_succ'] at hv)
    simp only [le, leNat, ih hq, BitVec.toNat_ofNat]
    omega

theorem slice_append_left {off n : Nat} {bs : Bytes} (rest : Bytes) (h : off + n ≤ bs.length) :
    slice (bs ++ rest) off n = slice bs off n := by
  rw [slice, slice, List.drop_append_of_le_length (by omega), List.take_append_of_le_length (by simp; omega)]

/-- A part that stands after `off` bytes is read from there. -/
theorem slice_append_right {off n : Nat} {pre bs : Bytes} (rest : Bytes) (hoff : pre.length = off) (hn : bs.length = n) :
    slice (pre ++ (bs ++ rest)) off n = bs := by
  rw [slice, List.drop_left' hoff, List.take_left' hn]

/-- A number that stands in a string is read back. -/
theorem leNat_slice {off n v : Nat} {bs : Bytes} (hat : slice bs off n = le n v) (hv : v < 256 ^ n) : leNat (slice bs off n) = v :=
  hat ▸ leNat_le hv

theorem xorBytes_xorBytes_cancel {a k : Bytes} (h : a.length ≤ k.length) : xorBytes (xorBytes a k) k = a := by
  induction a generalizing k with
  | nil => rfl
  | cons x a ih =>
    cases k with
    | nil => simp at h
    | cons y k =>
      have htail : xorBytes (xorBytes a k) k = a := ih (by simpa using h)
      simpa [xorBytes, BitVec.xor_assoc] using htail

@[simp] theorem chunks_nil (n : Nat) : chunks n [] = [] := rfl

/-- The cut does not depend on the fuel, as long as it is enough. -/
theorem chunksF_eq_chunks {n fuel : Nat} {bs : Bytes} (hn : 0 < n) (hf : bs.length < fuel) : chunksF n fuel bs = chunks n bs := by
  have hany : ∀ f g : Nat, ∀ cs : Bytes, cs.length < f → cs.length < g → chunksF n f cs = chunksF n g cs := by
    intro f
    induction f with
    | zero => intro g cs hlt _; omega
    | succ f ih =>
      intro g cs hf hg
      obtain ⟨g, rfl⟩ : ∃ k, g = k + 1 := ⟨g - 1, by omega⟩
      cases cs with
      | nil => rfl
      | cons c cs =>
        simp only [List.length_cons] at hf hg
        simp only [chunksF, List.isEmpty_cons, Bool.false_eq_true, if_false]
        rw [ih g _ (by simp; omega) (by simp; omega)]
  exact hany _ _ bs hf (Nat.lt_succ_self _)

theorem chunks_of_ne_nil {n : Nat} {bs : Bytes} (hn : 0 < n) (h : bs ≠ []) : chunks n bs = bs.take n :: chunks n (bs.drop n) := by
  have hlen : 0 < bs.length := List.length_pos_iff.2 h
  rw [chunks, chunksF, if_neg (by simpa using h), chunksF_eq_chunks hn (by simp; omega)]

/-- What stands before a cut is a piece of its own: a whole piece, or the shorter last one. -/
theorem chunks_append {n : Nat} {a b : Bytes} (hn : 0 < n) (ha : a ≠ []) (hlen : a.length = n ∨ a.length ≤ n ∧ b = []) :
    chunks n (a ++ b) = a :: chunks n b := by
  rw [chunks_of_ne_nil hn (by simp [ha])]
  obtain hwhole | ⟨hshort, rfl⟩ := hlen
  · rw [List.take_left' hwhole, List.drop_left' hwhole]
  · rw [List.append_nil, List.take_of_length_le hshort, List.drop_of_length_le hshort]

/-- A string of `k` whole pieces is cut into `k` pieces, all of them whole. -/
theorem chunks_of_length_eq {n k : Nat} {bs : Bytes} (hn : 0 < n) (h : bs.length = n * k) :
    (chunks n bs).length = k ∧ ∀ c ∈ chunks n bs, c.length = n := by
  induction k generalizing bs with
  | zero => simp [List.eq_nil_of_length_eq_zero h]
  | succ k ih =>
    rw [Nat.mul_succ] at h
    obtain ⟨hcount, hwhole⟩ := ih (bs := bs.drop n) (by simp [h])
    rw [chunks_of_ne_nil hn (List.ne_nil_of_length_pos (by omega))]
    simpa [hcount, h] using hwhole

end Sys2Proof.Machine
end

section
/-! SUPPORT. AES-256-GCM: every block is 16 bytes long, and an open undoes its seal (R144–R147). -/

namespace Sys2Proof.Machine

/-- The key schedule only adds words, each of 4 bytes. -/
theorem expandF_words {ws : List Bytes} (n i : Nat) (rc : Byte) (hcount : 8 ≤ ws.length) (hword : ∀ w ∈ ws, w.length = 4) :
    (expandF n i rc ws).length = n + ws.length ∧ ∀ w ∈ expandF n i rc ws, w.length = 4 := by
  induction n generalizing i rc ws with
  | zero => simpa [expandF] using hword
  | succ n ih =>
    have hpush : ∀ w : Bytes, w.length = 4 → ∀ j c,
        (expandF n j c (w :: ws)).length = n + 1 + ws.length ∧ ∀ v ∈ expandF n j c (w :: ws), v.length = 4 := by
      intro w hw j c
      obtain ⟨hlen, hmem⟩ := ih (ws := w :: ws) j c (by simp; omega) (by simpa [hw] using hword)
      exact ⟨by simp only [hlen, List.length_cons]; omega, hmem⟩
    have hlast : (ws.headD []).length = 4 := by
      cases ws with
      | nil => simp at hcount
      | cons w ws => exact hword w (by simp)
    have hold : ((ws.drop 7).headD []).length = 4 := by
      cases hd : ws.drop 7 with
      | nil => have := congrArg List.length hd; simp at this; omega
      | cons w t => exact hword w (List.mem_of_mem_drop (hd ▸ List.mem_cons_self))
    simp only [expandF]
    generalize ws.headD [] = t at hlast ⊢
    generalize (ws.drop 7).headD [] = old at hold ⊢
    split
    · exact hpush _ (by simp [hlast, hold]) _ _
    · split
      · exact hpush _ (by simp [hlast, hold]) _ _
      · exact hpush _ (by simp [hlast, hold]) _ _

/-- AES-256 has 15 round keys of 16 bytes, whatever the key's length. -/
theorem roundKeys_shape (key : Bytes) : (roundKeys key).length = 15 ∧ ∀ k ∈ roundKeys key, k.length = 16 := by
  obtain ⟨hcount, hword⟩ := chunks_of_length_eq (n := 4) (k := 8) (bs := fitTo 32 key) (by decide) (by simp)
  obtain ⟨hlen, hmem⟩ := expandF_words (ws := (chunks 4 (fitTo 32 key)).reverse) 52 8 1 (by simp [hcount]) (by simpa using hword)
  refine chunks_of_length_eq (by decide) ?_
  have hsum : ∀ l : List Bytes, (∀ w ∈ l, w.length = 4) → l.flatten.length = 4 * l.length := by
    intro l hl
    rw [List.length_flatten, List.map_congr_left hl, List.map_const', List.sum_replicate_nat, Nat.mul_comm]
  rw [hsum _ (by simpa using hmem), List.length_reverse, hlen, List.length_reverse, hcount]

/-- The last round makes 16 bytes of any state. -/
theorem length_aesRounds {ks : List Bytes} (s : Bytes) (hne : ks ≠ []) (hk : ∀ k ∈ ks, k.length = 16) :
    (aesRounds ks s).length = 16 := by
  induction ks generalizing s with
  | nil => exact absurd rfl hne
  | cons k ks ih =>
    cases ks with
    | nil => simp [aesRounds, shiftRows, hk k]
    | cons k' ks => exact ih _ (by simp) (fun c hc => hk c (List.mem_cons_of_mem _ hc))

@[simp] theorem length_aesBlock_roundKeys (key blk : Bytes) : (aesBlock (roundKeys key) blk).length = 16 := by
  obtain ⟨hcount, hk⟩ := roundKeys_shape key
  cases hr : roundKeys key with
  | nil => simp [hr] at hcount
  | cons k ks =>
    rw [hr] at hcount hk
    exact length_aesRounds _ (List.ne_nil_of_length_pos (by simp at hcount; omega)) (fun c hc => hk c (List.mem_cons_of_mem _ hc))

theorem gctr_of_ne_nil {bs : Bytes} (rks : List Bytes) (iv : Bytes) (c : Nat) (h : bs ≠ []) :
    gctr rks iv c (chunks 16 bs) =
      xorBytes (bs.take 16) (aesBlock rks (iv ++ be 4 c)) ++ gctr rks iv (c + 1) (chunks 16 (bs.drop 16)) := by
  rw [chunks_of_ne_nil (by decide) h, gctr]

theorem length_gctr (key iv : Bytes) (c : Nat) (bs : Bytes) : (gctr (roundKeys key) iv c (chunks 16 bs)).length = bs.length := by
  by_cases h : bs = []
  · subst h; rfl
  · have hpos : 0 < bs.length := List.length_pos_iff.2 h
    rw [gctr_of_ne_nil _ _ _ h, List.length_append, length_gctr key iv (c + 1) (bs.drop 16)]
    simp; omega
termination_by bs.length
decreasing_by simp; omega

/-- Counter mode undoes itself: the pieces of the ciphertext are the enciphered pieces, under the same keystream. -/
theorem gctr_gctr (key iv : Bytes) (c : Nat) (bs : Bytes) :
    gctr (roundKeys key) iv c (chunks 16 (gctr (roundKeys key) iv c (chunks 16 bs))) = bs := by
  by_cases h : bs = []
  · subst h; rfl
  · have hpos : 0 < bs.length := List.length_pos_iff.2 h
    have hne : xorBytes (bs.take 16) (aesBlock (roundKeys key) (iv ++ be 4 c)) ≠ [] :=
      List.ne_nil_of_length_pos (by simp; omega)
    have hcut : min bs.length 16 = 16 ∨ min bs.length 16 ≤ 16 ∧ gctr (roundKeys key) iv (c + 1) (chunks 16 (bs.drop 16)) = [] := by
      by_cases hlong : 16 ≤ bs.length
      · exact .inl (by omega)
      · exact .inr ⟨by omega, by rw [List.drop_of_length_le (by omega)]; rfl⟩
    rw [gctr_of_ne_nil _ _ _ h, chunks_append (by decide) hne (by simpa [Nat.min_comm] using hcut), gctr,
      xorBytes_xorBytes_cancel (by rw [List.length_take, length_aesBlock_roundKeys]; exact Nat.min_le_left ..), gctr_gctr key iv (c + 1) (bs.drop 16), List.take_append_drop]
termination_by bs.length
decreasing_by simp; omega

@[simp] theorem length_gcmSeal_fst (key iv aad pt : Bytes) : (gcmSeal key iv aad pt).1.length = pt.length :=
  length_gctr key iv 2 pt

@[simp] theorem length_gcmSeal_snd (key iv aad pt : Bytes) : (gcmSeal key iv aad pt).2.length = 16 := by
  simp [gcmSeal, gcmTag]

theorem gcmOpen_gcmSeal (key iv aad pt : Bytes) :
    gcmOpen key iv aad (gcmSeal key iv aad pt).1 (gcmSeal key iv aad pt).2 = some pt := by
  simp [gcmOpen, gcmSeal, gctr_gctr]

end Sys2Proof.Machine
end

section
/-! O56. The header's fields, and the open of a sealed record (R63, R81, R144–R149). -/

namespace Sys2Proof.Machine

section
variable {magic b3 epoch tenant nsid serial stored orig : Nat}

@[simp] theorem length_recordHeader : (recordHeader magic b3 epoch tenant nsid serial stored orig).length = 32 := by
  simp [recordHeader]

theorem recordHeader_magic (h : magic < 2 ^ 16) :
    leNat (slice (recordHeader magic b3 epoch tenant nsid serial stored orig) 0 2) = magic := leNat_slice rfl h

theorem recordHeader_version : (recordHeader magic b3 epoch tenant nsid serial stored orig).getD 2 0 = 1 := rfl

theorem recordHeader_epoch (h : epoch < 2 ^ 32) :
    leNat (slice (recordHeader magic b3 epoch tenant nsid serial stored orig) 4 4) = epoch := leNat_slice rfl h

theorem recordHeader_tenant (h : tenant < 2 ^ 32) :
    leNat (slice (recordHeader magic b3 epoch tenant nsid serial stored orig) 8 4) = tenant := leNat_slice rfl h

theorem recordHeader_nsid (h : nsid < 2 ^ 32) :
    leNat (slice (recordHeader magic b3 epoch tenant nsid serial stored orig) 12 4) = nsid := leNat_slice rfl h

theorem recordHeader_serial (h : serial < 2 ^ 64) :
    leNat (slice (recordHeader magic b3 epoch tenant nsid serial stored orig) 16 8) = serial := leNat_slice rfl h

theorem recordHeader_stored (h : stored < 2 ^ 32) :
    leNat (slice (recordHeader magic b3 epoch tenant nsid serial stored orig) 24 4) = stored := leNat_slice rfl h

end

/-- A sealed record is its header, the ciphertext, the tag and the padding, sealed under the key that the header names. -/
theorem sealRecord_layout (kd iv header pt : Bytes) : ∃ pad, sealRecord kd iv header pt =
    let key := recordKey kd (leNat (slice header 8 4)) (leNat (slice header 12 4)) (leNat (slice header 4 4))
    header ++ ((gcmSeal key iv header pt).1 ++ ((gcmSeal key iv header pt).2 ++ pad)) :=
  ⟨_, by simp only [sealRecord, padTo, List.append_assoc]; rfl⟩

/-- What the checks of R145 before the key and the tag ask of the header of a record with `len` bytes of ciphertext. -/
structure HeaderPasses (header : Bytes) (floor len : Nat) (ex : Expect) : Prop where
  length : header.length = 32
  known : leNat (slice header 0 2) = magicData ∨ leNat (slice header 0 2) = magicCommit ∨ leNat (slice header 0 2) = magicMap
  version : header.getD 2 0 = 1
  stored : leNat (slice header 24 4) = len
  tenant : leNat (slice header 8 4) = ex.tenant
  nsid : leNat (slice header 12 4) = ex.nsid
  object : leNat (slice header 16 8) = ex.object
  epoch : ex.epoch = 0 ∨ ex.epoch = leNat (slice header 4 4)
  floor : floor ≤ leNat (slice header 4 4)

/-- A header passes where the open expects what it was written with. -/
theorem headerPasses_recordHeader {magic b3 epoch tenant nsid serial stored orig floor e : Nat}
    (hmagic : magic = magicData ∨ magic = magicCommit ∨ magic = magicMap) (hepoch : epoch < 2 ^ 32) (htenant : tenant < 2 ^ 32)
    (hnsid : nsid < 2 ^ 32) (hserial : serial < 2 ^ 64) (hstored : stored < 2 ^ 32) (hfloor : floor ≤ epoch)
    (he : e = 0 ∨ e = epoch) :
    HeaderPasses (recordHeader magic b3 epoch tenant nsid serial stored orig) floor stored ⟨e, tenant, nsid, serial⟩ where
  length := length_recordHeader
  known := by rwa [recordHeader_magic (by obtain rfl | rfl | rfl := hmagic <;> decide)]
  version := recordHeader_version
  stored := recordHeader_stored hstored
  tenant := recordHeader_tenant htenant
  nsid := recordHeader_nsid hnsid
  object := recordHeader_serial hserial
  epoch := by rwa [recordHeader_epoch hepoch]
  floor := by rwa [recordHeader_epoch hepoch]

/-- Where the header passes and GCM opens the ciphertext under the key the header names, the open answers the plaintext. -/
theorem openRecord_eq_ok {kd iv header ct tag pad pt : Bytes} {floor : Nat} {ex : Expect}
    (hpass : HeaderPasses header floor ct.length ex) (htag : tag.length = 16)
    (hopen : gcmOpen (recordKey kd (leNat (slice header 8 4)) (leNat (slice header 12 4)) (leNat (slice header 4 4)))
      iv header ct tag = some pt) :
    openRecord (some kd) floor iv ex (header ++ (ct ++ (tag ++ pad))) = ⟨0, 0, pt⟩ := by
  obtain ⟨hhdr, hknown, hver, hstored, htenant, hnsid, hobject, hepoch, hfloor⟩ := hpass
  have hfield : ∀ off n, off + n ≤ 32 → slice (header ++ (ct ++ (tag ++ pad))) off n = slice header off n :=
    fun off n h => slice_append_left _ (by omega)
  have hct : slice (header ++ (ct ++ (tag ++ pad))) 32 ct.length = ct := slice_append_right _ hhdr rfl
  have htg : slice (header ++ (ct ++ (tag ++ pad))) (32 + ct.length) 16 = tag := by
    rw [← List.append_assoc]
    exact slice_append_right _ (by simp [hhdr]) htag
  have hver' : (header ++ (ct ++ (tag ++ pad))).getD 2 0 = 1 := by
    rwa [List.getD_eq_getElem?_getD, List.getElem?_append_left (by omega), ← List.getD_eq_getElem?_getD]
  have hroom : ¬ (header ++ (ct ++ (tag ++ pad))).length < 48 + ct.length := by simp [hhdr, htag]; omega
  have hknown' : (decide (leNat (slice header 0 2) = magicData) || decide (leNat (slice header 0 2) = magicCommit) ||
      decide (leNat (slice header 0 2) = magicMap)) = true := by simpa [or_assoc] using hknown
  have hissue : ¬ (ex.epoch ≠ 0 ∧ leNat (slice header 4 4) ≠ ex.epoch) := by omega
  rw [htenant, hnsid] at hopen
  simp only [openRecord, hfield 0 2 (by decide), hfield 4 4 (by decide), hfield 8 4 (by decide), hfield 12 4 (by decide),
    hfield 16 8 (by decide), hfield 24 4 (by decide), hstored, hct, htg, hver', hroom, htenant, hnsid, hobject,
    List.take_left' hhdr, Nat.not_lt.2 hfloor, hknown', hopen]
  simp [hissue]

/-- Settles O56: the header is read back as it was written, so every check of R145 passes and the open derives the key of
the seal, under which GCM undoes itself. -/
theorem sealedRecordsOpen : Obligations.SealedRecordsOpen := by
  intro kd iv pt magic b3 epoch tenant nsid serial orig floor e hmagic hepoch htenant hnsid hserial hlen hfloor he
  obtain ⟨pad, hrec⟩ := sealRecord_layout kd iv (recordHeader magic b3 epoch tenant nsid serial pt.length orig) pt
  rw [hrec]
  refine openRecord_eq_ok ?_ (length_gcmSeal_snd ..) (gcmOpen_gcmSeal ..)
  rw [length_gcmSeal_fst]
  exact headerPasses_recordHeader hmagic hepoch htenant hnsid hserial hlen hfloor he

end Sys2Proof.Machine
end

end

section
/-! Drives and beds: drive events and bed maintenance (O35, O36). -/

section
/-! O35. Drives that come up, fail to, or lose their link, and members that stand idle (R86, R98, R101). -/

namespace Sys2Proof.Machine

/-- Whether the member of a slot is single-path is what its entry in the bed says (R101). -/
theorem State.single_memberAt {slot b m : Nat} {x : Bed} {y : Member} {s : State} (hm : s.memberAt slot upSt = some (b, m))
    (hx : s.beds.get? b = some x) (hy : x.members.get? m = some y) :
    (s.memberAt slot upSt).bind (fun p => (s.bed? p.1).bind (fun x => x.members.get? p.2)) = some y := by
  simp [State.bed?, hm, hx, hy]

section
variable {b m d : Nat} {x : Bed} {y : Member} {s u : State} (hx : s.beds.get? b = some x) (hy : x.members.get? m = some y)
  (hd : y.idleAt = some d)
  (hu : u = ((s.at d).applyFld (F.BED_CKPT_IDLE_S b)).setBed b (x.modMember m (fun y => { y with idleAt := none })))
include hx hy hd hu

/-- An idle member that nothing needs is shut down and its power dropped (R86). -/
theorem exec_memberIdle_stops (hstaged : x.staged.any (fun r => r.member = m && !r.written) = false)
    (hcmds : u.drv.cmds.vals.any (fun c => c.bed = b && c.member = m) = false) (hreb : ∀ r, x.rebuild = some r → r.paused = true) :
    exec (.memberIdleTimeout b m) s =
      .next (let v := u.emit (.drive u.drv.nextId
               { op := .shutdown, bed := b, member := m, slot := y.slot, sector := 0, count := 0, data := [], purpose := .control
                 retried := false, deadline := u.now, proxied := false, st := 2 })
             (v.setPort y.slot { v.port y.slot with ready := false }).memberOff b y.slot) := by
  subst hu
  simp only [exec, execMemberIdleTimeout, State.bed?, hx, hy, hd, hstaged, hcmds, Bool.false_or]
  refine if_neg ?_
  cases hr : x.rebuild with
  | none => exact Bool.false_ne_true
  | some r => simp [hreb r hr]

/-- A record not yet written, an open command or a rebuild that runs keeps an idle member going (R86). -/
theorem exec_memberIdle_goesOn (hneed : x.staged.any (fun r => r.member = m && !r.written) = true ∨
    u.drv.cmds.vals.any (fun c => c.bed = b && c.member = m) = true ∨ ∃ r, x.rebuild = some r ∧ r.paused = false) :
    exec (.memberIdleTimeout b m) s = .next u := by
  subst hu
  simp only [exec, execMemberIdleTimeout, State.bed?, hx, hy, hd]
  refine if_pos ?_
  rcases hneed with hstaged | hcmds | ⟨r, hr, hp⟩
  · simp only [hstaged, Bool.true_or]
  · simp only [hcmds, Bool.or_true, Bool.true_or]
  · simp only [hr, hp, Bool.not_false, Bool.or_true]

end

/-- Settles O35: each event by whether its slot holds a member that is up; the idle timer by what still needs the member. -/
theorem driveEventsTakeEffect : Obligations.DriveEventsTakeEffect := by
  refine ⟨?readyLateNoMember, ?readyLate, ?readyMember, ?readyNoMember, ?unreached, ?unreachedNoMember, ?linkDown, ?linkUpNoMember,
    ?linkUp, ?idleStops, ?idleGoesOn⟩
  case readyLateNoMember =>
    intro slot d s u hd hu hm
    simp only [exec, execDriveReadyTimeout, hd, ← hu, hm]
  case readyLate =>
    intro slot d b m s u hd hu hm
    simp only [exec, execDriveReadyTimeout, hd, ← hu, hm]
  case readyMember =>
    intro slot b m info x y s u hm hx hy hu hmu
    simp only [exec, execDriveReady, State.single_memberAt hm hx hy, ← hu, hmu] <;> rfl
  case readyNoMember =>
    intro slot info s u hm hu hmu
    simp only [exec, execDriveReady, hm, Option.bind_none, Bool.not_false, ← hu, hmu]
  case unreached =>
    intro slot d b m s u hd hu hm
    simp only [exec, execMemberUnreachableTimeout, hd, ← hu, hm]
  case unreachedNoMember =>
    intro slot d s u hd hu hm
    simp only [exec, execMemberUnreachableTimeout, hd, ← hu, hm]
  case linkDown =>
    intro slot reaches s
    rfl
  case linkUpNoMember =>
    intro slot speed width s hm
    simp only [exec, execDrivePortLinkUp, hm]
  case linkUp =>
    intro slot speed width b m x y s hm hx hy
    simp only [exec, execDrivePortLinkUp, hm, State.bed?, hx, hy]
  case idleStops =>
    intro b m d x y s u hx hy hd hu hstaged hcmds hreb
    exact exec_memberIdle_stops hx hy hd hu hstaged hcmds hreb
  case idleGoesOn =>
    intro b m d x y s u hx hy hd hu hneed
    exact exec_memberIdle_goesOn hx hy hd hu hneed

end Sys2Proof.Machine
end

section
/-! O36. Folds, checkpoints, rebuild, resync, compaction and rewrap (R87, R89, R90, R94, R95, R108). -/

namespace Sys2Proof.Machine

section
variable {b k : Nat} {ks bad : List Nat} {media : List MediaRead} {x : Bed} {s u : State} (hu : u = s.countReads b media)
  (hcs : s.coreStop = false) (hx : u.beds.get? b = some x) (hk : x.resync = k :: ks) (hst : x.st ≠ 3)
  (hact : u.mnt.acts.any (fun a => a.code = 4 && a.bed = some b && a.st ≠ 0) = false) (hband : (x.band k).st ≠ 0)
  (hbad : x.dataMembers.filter (fun m => mediaGet media m (x.base m + k * x.h) x.h = some .unrecovered) = bad)
include hu hcs hx hk hst hact hband hbad

/-- The next Band of a resync, where it is not Empty and nothing holds the resync back: a sector that is lost takes the bed offline
(R94, R113). -/
theorem exec_resyncBand_lost (hlost : bad ≠ []) :
    exec (.resyncBandComplete b media) s = .next (u.offline b [⟨k, k, maskOf (bad ++ x.missingAt k), 2⟩]) := by
  simp only [exec, execResyncBandComplete, hcs, ← hu, State.bed?, hx, hk, hst, hact, hband, hbad, List.isEmpty_eq_false_iff.2 hlost,
    decide_false, Bool.or_self, Bool.not_false, Bool.false_eq_true, if_false, if_true]

/-- With no sector lost the Band gets its parity once every data member has answered (R94). -/
theorem exec_resyncBand_read (hnone : bad = []) :
    exec (.resyncBandComplete b media) s =
      .next (match resyncParity x k media with | some t => u.resyncBand b x k ks t media | none => u.wakeAll b) := by
  simp only [exec, execResyncBandComplete, hcs, ← hu, State.bed?, hx, hk, hst, hact, hband, hbad, hnone, List.isEmpty_nil,
    decide_false, Bool.or_self, Bool.not_true, Bool.false_eq_true, if_false]
  cases resyncParity x k media <;> rfl

end

/-- A bed with live records left in the row it compacts moves them (R95). -/
theorem State.compactStep_moves {b : Nat} {media : List MediaRead} {x : Bed} {c : Compact} {s : State} (hx : s.beds.get? b = some x)
    (hc : x.compact = some c) (hp : c.paused = false) (hstep : c.step = 1) (hlive : x.liveIn c.row ≠ 0) :
    s.compactStep b media = s.moveRow b c.row media := by
  simp [State.compactStep, State.bed?, hx, hc, hp, hstep, Nat.pos_of_ne_zero hlive]

theorem State.compactStep_none {b : Nat} {media : List MediaRead} {x : Bed} {s : State} (hx : s.beds.get? b = some x)
    (hc : x.compact = none) : s.compactStep b media = s := by
  simp [State.compactStep, State.bed?, hx, hc]

/-- In Awake, with no change of state under way, a reclaim goes on with the compaction and then with the rewrap (R155, R372). -/
theorem exec_reclaim_awake {b : Nat} {media : List MediaRead} {s u : State} (hcs : s.coreStop = false) (hu : u = s.countReads b media)
    (hst : u.shelf.st = .awake) (hmove : u.shelf.move = none) :
    exec (.reclaim b media) s = .next ((u.compactStep b media).rewrapGo b media) := by
  simp [exec, execReclaim, hcs, ← hu, hst, hmove]

/-- Settles O36: each event of a bed that is there, through the checks before its effect; the hypotheses of each clause say what the
checks find. -/
theorem bedMaintenanceTakesEffect : Obligations.BedMaintenanceTakesEffect := by
  refine ⟨?fold, ?foldWaited, ?ckptInterval, ?ckptNow, ?ckptPhase, ?rebuildSlice, ?rebuildFlush, ?rebuildPause, ?resyncRead, ?resyncLost,
    ?reclaimMoves, ?rewrap⟩
  case fold =>
    intro b x media s u hcs hu hx
    simp only [exec, execRecordFold, hcs, ← hu, State.bed?, hx, Bool.false_eq_true, if_false]
  case foldWaited =>
    intro b d x r media s hx hcs hr hd
    simp only [exec, execFoldWaitExpiry, hcs, State.bed?, hx, Option.bind_some, hr, hd, Bool.false_eq_true, if_false]
  case ckptInterval =>
    intro b k d x y s u hx hy hd hu
    simp only [exec, execCheckpointIntervalExpiry, State.bed?, hx, hy, hd, Option.bind_some, ← hu]
  case ckptNow =>
    intro b x s hx hown hopen
    simp [exec, execCkptNow, State.ckptNow, State.bed?, hx, hown, hopen]
  case ckptPhase =>
    intro b k ok x c s hx hcs hc
    simp only [exec, execCheckpointPhaseComplete, hcs, State.bed?, hx, Option.bind_some, hc, Bool.false_eq_true, if_false]
  case rebuildSlice =>
    intro b media x r s u v hu hcs hx hr hp hfl hmeta hv
    have hmetaDone : (decide (r.member < 2) && !r.metaDone) = false := by
      by_cases h : r.member < 2 <;> simp [h, hmeta]
    subst hv
    simp only [exec, execRebuildSliceComplete, hcs, ← hu, State.bed?, hx, hr, hp, hfl, hmetaDone, Bool.or_self, Bool.false_eq_true,
      if_false]
    cases r.nextAt with
    | none => dsimp only; cases u.nextRebuild b x r <;> rfl
    | some d => dsimp only; cases (u.at d).nextRebuild b x r <;> rfl
  case rebuildFlush =>
    intro b x y r q stop s u hcs hx hr hfl hp hstop hq hu hy hyr
    obtain ⟨⟩ := r
    dsimp only at hfl hp
    subst hfl hp hq
    simp only [exec, execRebuildFlushComplete, hcs, State.bed?, hx, hr, Option.bind_some, Bool.not_true, Bool.false_or, ← hstop,
      Bool.not_false, Bool.and_true, Bool.false_eq_true, if_false, ← hu, hy, hyr]
    split <;> rfl
  case rebuildPause =>
    intro b x y r q s u hcs hx hr hfl hp hq hu hy hyr
    simp only [exec, execRebuildFlushComplete, hcs, State.bed?, hx, hr, hfl, hp, Option.bind_some, Bool.not_true, Bool.true_or, ← hq,
      Bool.and_false, Bool.false_eq_true, if_false, if_true, ← hu, hy, hyr]
    split <;> rfl
  case resyncRead =>
    intro b k ks media x s u hu hcs hx hk hst hact hband hnone
    exact exec_resyncBand_read hu hcs hx hk hst hact hband rfl (List.filter_eq_nil_iff.2 (by simpa using hnone))
  case resyncLost =>
    intro b k m ks l media x s u hu hcs hx hk hst hact hband hlost
    exact exec_resyncBand_lost hu hcs hx hk hst hact hband hlost (List.cons_ne_nil m l)
  case reclaimMoves =>
    intro b media x c s u hcs hu hst hmove hx hc hp hstep hlive
    rw [exec_reclaim_awake hcs hu hst hmove, State.compactStep_moves hx hc hp hstep hlive]
  case rewrap =>
    intro b media x s u hcs hu hst hmove hx hc
    rw [exec_reclaim_awake hcs hu hst hmove, State.compactStep_none hx hc]

end Sys2Proof.Machine
end

end

section
/-! Compression: Rill's events and its stream format (O18, O54, O55). -/

section
/-! O18. The events of Rill (R117, R119, R121). -/

namespace Sys2Proof.Machine

/-- A core that runs a job has no wait after the switch-on of its pair left (R117). -/
theorem State.rillOn_running {core : Nat} {j : RillJob} {s : State} (h : s.rill.running.get? core = some j) : s.rillOn core = s := by
  simp [State.rillOn, Tab.has, h]

/-- Settles O18: a submission is its command; the events of a core act on the job that runs there. -/
theorem rillCommandsTakeEffect : Obligations.RillCommandsTakeEffect := by
  refine ⟨?submit, ?complete, ?noProgress, ?idle⟩
  case submit => exact fun _ _ _ _ => rfl
  case complete =>
    intro core j r s hj hfirst hsvc hr hre
    subst hr
    simp only [exec, execRillJobComplete, State.rillOn_running hj, hj, hfirst, hsvc, hre, State.rillAnswer, ne_eq, not_true_eq_false,
      decide_false, Bool.false_and, Bool.false_eq_true, if_false]
  case noProgress =>
    intro core j s hj
    simp only [exec, execRillCoreNoProgress, State.rillOn_running hj, hj]
  case idle =>
    intro pair d s hd
    simp only [exec, execRillPairIdle, hd]
    exact ⟨_, rfl, by simp, by simp⟩

end Sys2Proof.Machine
end

section
/-! SUPPORT. The bit strings of a coded payload: integers, Rice codes and whole bytes (R124, R135). -/

namespace Sys2Proof.Machine

/-- The bits of an `n`-bit integer, least significant bit first (R124). -/
def lsbBits (n v : Nat) : List Bool := (List.range n).map (fun i => v.testBit i)

@[simp] theorem length_lsbBits (n v : Nat) : (lsbBits n v).length = n := by simp [lsbBits]

theorem lsbBits_succ (n v : Nat) : lsbBits (n + 1) v = v.testBit 0 :: lsbBits n (v / 2) := by
  simp [lsbBits, List.range_succ_eq_map, Nat.testBit_add_one, Function.comp_def]

theorem b2n_testBit_zero (v : Nat) : b2n (v.testBit 0) = v % 2 := by
  rcases Nat.mod_two_eq_zero_or_one v with h | h <;> simp [b2n, Nat.testBit_zero, h]

theorem readBits_lsbBits (n v : Nat) (r : List Bool) : readBits n (lsbBits n v ++ r) = .ok (v % 2 ^ n, r) := by
  induction n generalizing v with
  | zero => simp [lsbBits, readBits, Nat.mod_one]
  | succ n ih =>
    simp only [lsbBits_succ, List.cons_append, readBits, ih, b2n_testBit_zero]
    rw [Nat.pow_succ', Nat.mod_mul]

theorem countOnes_replicate {n q : Nat} (hq : q < n) (r : List Bool) :
    countOnes n (List.replicate q true ++ false :: r) = .ok (q, r) := by
  induction q generalizing n with
  | zero => obtain ⟨m, rfl⟩ := Nat.exists_eq_succ_of_ne_zero (Nat.ne_of_gt hq); simp [countOnes]
  | succ q ih =>
    obtain ⟨m, rfl⟩ := Nat.exists_eq_succ_of_ne_zero (Nat.ne_zero_of_lt hq)
    simp [List.replicate_succ, countOnes, ih (Nat.lt_of_succ_lt_succ hq)]

theorem countOnes_replicate_full (n : Nat) (r : List Bool) : countOnes n (List.replicate n true ++ r) = .ok (n, r) := by
  induction n with
  | zero => simp [countOnes]
  | succ n ih => simp [List.replicate_succ, countOnes, ih]

theorem riceBits_eq (w k z : Nat) : riceBits w k z =
    if z / 2 ^ k < 16 then List.replicate (z / 2 ^ k) true ++ [false] ++ lsbBits k z
    else List.replicate 16 true ++ lsbBits w z := rfl

/-- A Rice code gives back its value (R135). -/
theorem riceDecode_riceBits {w k z : Nat} (hz : z < 2 ^ w) (r : List Bool) : riceDecode w k (riceBits w k z ++ r) = .ok (z, r) := by
  rw [riceBits_eq]
  by_cases hq : z / 2 ^ k < 16
  · have hsplit : z / 2 ^ k * 2 ^ k + z % 2 ^ k = z := Nat.div_add_mod' z (2 ^ k)
    simp [hq, riceDecode, countOnes_replicate hq, readBits_lsbBits, hsplit, Nat.not_le.2 hz, Nat.ne_of_lt hq]
  · rw [if_neg hq, List.append_assoc, riceDecode, countOnes_replicate_full]
    simp [readBits_lsbBits, Nat.mod_eq_of_lt hz]

theorem bestK_lt {w : Nat} (hw : 0 < w) (zs : List Nat) : bestK w zs < w :=
  List.foldlRecOn (motive := fun best : Nat × Nat => best.1 < w) (List.range w) _ hw fun best hb k hk => by
    dsimp only
    split
    · exact List.mem_range.1 hk
    · exact hb

/-- One byte of eight bits, as `bitsToBytes` makes it. -/
def bitsByte (bits : List Bool) : Byte := BitVec.ofNat 8 ((List.zip bits (List.range 8)).map (fun p => b2n p.1 * 2 ^ p.2)).sum

theorem bitsToBytes_succ (n : Nat) (bits : List Bool) :
    bitsToBytes (n + 1) bits = bitsByte (bits.take 8) :: bitsToBytes n (bits.drop 8) := rfl

theorem byteBits_bitsByte {bits : List Bool} (h : bits.length = 8) : byteBits (bitsByte bits) = bits := by
  have hall : ∀ b0 b1 b2 b3 b4 b5 b6 b7 : Bool,
      byteBits (bitsByte [b0, b1, b2, b3, b4, b5, b6, b7]) = [b0, b1, b2, b3, b4, b5, b6, b7] := by decide
  match bits, h with
  | [b0, b1, b2, b3, b4, b5, b6, b7], _ => exact hall b0 b1 b2 b3 b4 b5 b6 b7

@[simp] theorem length_byteBits (b : Byte) : (byteBits b).length = 8 := by simp [byteBits]

theorem byteBits_injective : Function.Injective byteBits := fun _ _ h =>
  BitVec.eq_of_getLsbD_eq fun i hi => List.map_inj_left.1 h i (List.mem_range.2 hi)

theorem bitsByte_byteBits (b : Byte) : bitsByte (byteBits b) = b := byteBits_injective (byteBits_bitsByte (length_byteBits b))

@[simp] theorem toBits_cons (b : Byte) (bs : Bytes) : toBits (b :: bs) = byteBits b ++ toBits bs := by simp [toBits]

@[simp] theorem toBits_append (as bs : Bytes) : toBits (as ++ bs) = toBits as ++ toBits bs := by simp [toBits]

@[simp] theorem length_toBits (bs : Bytes) : (toBits bs).length = 8 * bs.length := by
  induction bs with
  | nil => rfl
  | cons b bs ih => simp [ih]; omega

theorem toBits_bitsToBytes {n : Nat} {bits : List Bool} (h : bits.length = 8 * n) : toBits (bitsToBytes n bits) = bits := by
  induction n generalizing bits with
  | zero => simp [List.length_eq_zero_iff.1 h, bitsToBytes, toBits]
  | succ n ih =>
    rw [bitsToBytes_succ, toBits_cons, byteBits_bitsByte (by simp; omega), ih (by simp; omega), List.take_append_drop]

theorem bitsToBytes_toBits (bs : Bytes) : bitsToBytes bs.length (toBits bs) = bs := by
  induction bs with
  | nil => rfl
  | cons b bs ih =>
    rw [List.length_cons, bitsToBytes_succ, toBits_cons, List.take_left' (length_byteBits b), List.drop_left' (length_byteBits b),
      bitsByte_byteBits, ih]

end Sys2Proof.Machine
end

section
/-! SUPPORT. The output of a decoder: bytes put after it, in the room there is (R122). -/

namespace Sys2Proof.Machine

/-- The output after `bs` more bytes. -/
def RillOut.push (o : RillOut) (bs : Bytes) : RillOut := ⟨bs.reverse ++ o.rev, o.produced + bs.length, o.room - bs.length⟩

/-- The same output in an area with `k` more bytes of room. -/
def RillOut.more (o : RillOut) (k : Nat) : RillOut := { o with room := o.room + k }

@[simp] theorem RillOut.push_rev (o : RillOut) (bs : Bytes) : (o.push bs).rev = bs.reverse ++ o.rev := rfl

@[simp] theorem RillOut.push_produced (o : RillOut) (bs : Bytes) : (o.push bs).produced = o.produced + bs.length := rfl

@[simp] theorem RillOut.push_room (o : RillOut) (bs : Bytes) : (o.push bs).room = o.room - bs.length := rfl

@[simp] theorem RillOut.push_nil (o : RillOut) : o.push [] = o := rfl

@[simp] theorem RillOut.push_push (o : RillOut) (as bs : Bytes) : (o.push as).push bs = o.push (as ++ bs) := by
  simp [RillOut.push, Nat.add_assoc, Nat.sub_sub]

theorem emitByte_eq_ok {o o' : RillOut} {b : Byte} : emitByte o b = .ok o' ↔ 1 ≤ o.room ∧ o' = o.push [b] := by
  unfold emitByte
  split
  · simp; omega
  · simp [RillOut.push, eq_comm]; omega

theorem emitBytes_ok {o : RillOut} {bs : Bytes} (h : bs.length ≤ o.room) : emitBytes o bs = .ok (o.push bs) := by
  induction bs generalizing o with
  | nil => rfl
  | cons b bs ih =>
    have hb : emitByte o b = .ok (o.push [b]) := emitByte_eq_ok.2 ⟨by simp at h; omega, rfl⟩
    have hrest : bs.length ≤ (o.push [b]).room := by simp at h ⊢; omega
    simp [emitBytes, hb, ih hrest]

/-- `o'` is `o` with bytes put after it that its room holds. -/
def RillOut.Puts (o o' : RillOut) : Prop := ∃ bs, bs.length ≤ o.room ∧ o' = o.push bs

theorem RillOut.Puts.refl (o : RillOut) : o.Puts o := ⟨[], Nat.zero_le _, rfl⟩

theorem RillOut.Puts.trans {o o' o'' : RillOut} (h : o.Puts o') (h' : o'.Puts o'') : o.Puts o'' := by
  obtain ⟨as, ha, rfl⟩ := h
  obtain ⟨bs, hb, rfl⟩ := h'
  exact ⟨as ++ bs, by simp at hb ⊢; omega, RillOut.push_push o as bs⟩

@[simp] theorem RillOut.more_produced (o : RillOut) (k : Nat) : (o.more k).produced = o.produced := rfl

@[simp] theorem RillOut.more_rev (o : RillOut) (k : Nat) : (o.more k).rev = o.rev := rfl

/-- What is put is put in the same way where there is more room. -/
theorem emitByte_puts {o o' : RillOut} {b : Byte} (h : emitByte o b = .ok o') (k : Nat) :
    o.Puts o' ∧ emitByte (o.more k) b = .ok (o'.more k) := by
  obtain ⟨hroom, rfl⟩ := emitByte_eq_ok.1 h
  exact ⟨⟨[b], hroom, rfl⟩, emitByte_eq_ok.2 ⟨by simp [RillOut.more]; omega, by simp [RillOut.more, RillOut.push]; omega⟩⟩

theorem copyMatch_puts {n d : Nat} {o o' : RillOut} (h : copyMatch n d o = .ok o') (k : Nat) :
    o.Puts o' ∧ copyMatch n d (o.more k) = .ok (o'.more k) := by
  induction n generalizing o with
  | zero => cases h; exact ⟨.refl _, rfl⟩
  | succ n ih =>
    cases hb : emitByte o (o.rev.getD (d - 1) 0) with
    | error e => simp only [copyMatch, hb, reduceCtorEq] at h
    | ok u =>
      obtain ⟨hput, hmore⟩ := emitByte_puts hb k
      obtain ⟨hput', hmore'⟩ := ih (by simpa only [copyMatch, hb] using h)
      refine ⟨hput.trans hput', ?_⟩
      simp only [copyMatch, RillOut.more_rev, hmore, hmore']

end Sys2Proof.Machine
end

section
/-! SUPPORT. Mode D: what decodes in a small output area decodes to the same in a larger one (R131, R132). -/

namespace Sys2Proof.Machine

theorem decodeSyms_puts {ll dist : PCode} {e : Bool} {hist fuel left left' : Nat} {o o' : RillOut} {bs r : List Bool}
    (h : decodeSyms ll dist e hist fuel left o bs = .ok (left', o', r)) (k : Nat) :
    o.Puts o' ∧ decodeSyms ll dist e hist fuel left (o.more k) bs = .ok (left', o'.more k, r) := by
  induction fuel generalizing left o bs with
  | zero => cases h
  | succ fuel ih =>
    -- Lean derives no equation for `decodeSyms`: it counts `s - 257` down in unary beyond its recursion limit
    conv at h => lhs; whnf
    conv => rhs; lhs; whnf
    split at h
    · cases h
    next s r1 hs =>
    by_cases h256 : s = 256
    · rw [if_pos h256] at h ⊢
      cases h
      exact ⟨.refl _, rfl⟩
    rw [if_neg h256] at h ⊢
    by_cases hlit : s < 256
    · rw [if_pos hlit] at h ⊢
      split at h
      · cases h
      next hleft =>
      split at h
      · cases h
      next hbyte =>
      obtain ⟨hput, hmore⟩ := emitByte_puts hbyte k
      obtain ⟨hput', hmore'⟩ := ih h
      exact ⟨hput.trans hput', by simp only [hleft, if_false, hmore, hmore']⟩
    · rw [if_neg hlit] at h ⊢
      split at h
      · cases h
      next hempty =>
      rw [if_neg hempty]
      split at h
      · cases h
      split at h
      · cases h
      next hfit =>
      iterate 2
        split at h
        · cases h
      split at h
      · cases h
      next hdist =>
      split at h
      · cases h
      next hcopy =>
      obtain ⟨hput, hmore⟩ := copyMatch_puts hcopy k
      obtain ⟨hput', hmore'⟩ := ih h
      exact ⟨hput.trans hput', by simp only [hfit, RillOut.more_produced, hdist, if_false, hmore, hmore']⟩

theorem decodeD_puts {w n : Nat} {o o' : RillOut} {bits r : List Bool} (h : decodeD w n o bits = .ok (o', r)) (k : Nat) :
    o.Puts o' ∧ decodeD w n (o.more k) bits = .ok (o'.more k, r) := by
  unfold decodeD at h ⊢
  dsimp only at h ⊢
  -- what is read before the symbols does not look at the output: both runs pass the same checks
  iterate 5
    split at h
    · cases h
    split at h
    · cases h
    rename_i hcheck
    rw [if_neg hcheck]
  split at h
  · cases h
  next hsyms =>
  obtain ⟨hput, hmore⟩ := decodeSyms_puts hsyms k
  simp only [hmore]
  split at h
  · cases h
  next hleft =>
  split at h
  · cases h
  next hpad =>
  cases h
  rw [if_neg hleft, if_neg hpad]
  exact ⟨hput, rfl⟩

end Sys2Proof.Machine
end

section
/-! SUPPORT. Mode P: samples, residues and groups, and the round trip of a coded block (R133–R135). -/

namespace Sys2Proof.Machine

theorem le_leNat_add (bs : Bytes) (q : Nat) : le bs.length (leNat bs + 256 ^ bs.length * q) = bs := by
  induction bs with
  | nil => rfl
  | cons b bs ih =>
    have hval : leNat (b :: bs) + 256 ^ (bs.length + 1) * q = b.toNat + 256 * (leNat bs + 256 ^ bs.length * q) := by
      rw [leNat, Nat.pow_succ', Nat.mul_assoc, Nat.add_assoc, ← Nat.mul_add]
    have hlt : b.toNat < 256 := b.isLt
    have hbyte : BitVec.ofNat 8 (b.toNat + 256 * (leNat bs + 256 ^ bs.length * q)) = b := by
      apply BitVec.eq_of_toNat_eq; simp only [BitVec.toNat_ofNat]; omega
    have hrest : (b.toNat + 256 * (leNat bs + 256 ^ bs.length * q)) / 256 = leNat bs + 256 ^ bs.length * q := by omega
    rw [List.length_cons, le, hval, hbyte, hrest, ih]

theorem leNat_lt (bs : Bytes) : leNat bs < 256 ^ bs.length := by
  induction bs with
  | nil => simp [leNat]
  | cons b bs ih => have hlt : b.toNat < 256 := b.isLt; simp only [leNat, List.length_cons, Nat.pow_succ]; omega

/-- The zig-zag value of a residue `d` modulo `m` (R134). -/
def zigzag (m d : Nat) : Nat := if d < m / 2 then 2 * d else 2 * (m - d) - 1

theorem unzig_zigzag {w d : Nat} (hd : d < 2 ^ w) : unzig w (zigzag (2 ^ w) d) = d := by
  unfold unzig zigzag
  split <;> split <;> omega

theorem zigzag_lt {m d : Nat} (hm : m % 2 = 0) (hd : d < m) : zigzag m d < m := by
  unfold zigzag
  split <;> omega

/-- The residue of a sample `x` against the prediction `p`, modulo `m`, as the encoder takes it. -/
def residueOf (m p x : Nat) : Nat := (x + m - p % m) % m

theorem residueOf_lt {m : Nat} (hm : 0 < m) (p x : Nat) : residueOf m p x < m := Nat.mod_lt _ hm

theorem residues_succ (b pred s n : Nat) (rev bs : Bytes) : residues b pred s (n + 1) rev bs =
    zigzag (2 ^ (8 * b)) (residueOf (2 ^ (8 * b)) (predict pred b s rev) (leNat (bs.take b))) ::
      residues b pred s n ((bs.take b).reverse ++ rev) (bs.drop b) := rfl

/-- Prediction and residue together give back the sample. -/
theorem add_residueOf_mod {m x : Nat} (p : Nat) (hx : x < m) : (p + residueOf m p x) % m = x := by
  have hsum : p % m + (x + m - p % m) = x + m := by have := Nat.mod_lt p (Nat.zero_lt_of_lt hx); omega
  rw [residueOf, Nat.add_mod_mod, ← Nat.mod_add_mod, hsum, Nat.add_mod_right, Nat.mod_eq_of_lt hx]

theorem le_add_residueOf (p : Nat) (bs : Bytes) : le bs.length (p + residueOf (2 ^ (8 * bs.length)) p (leNat bs)) = bs := by
  have hm : 2 ^ (8 * bs.length) = 256 ^ bs.length := Nat.pow_mul 2 8 bs.length
  have hsplit := Nat.mod_add_div (p + residueOf (256 ^ bs.length) p (leNat bs)) (256 ^ bs.length)
  rw [add_residueOf_mod p (leNat_lt bs)] at hsplit
  rw [hm, ← hsplit, le_leNat_add]

/-- The bytes of a sample that the zig-zag value `z` stands for, after the output `rev` (R134). -/
def rillSample (b pred s : Nat) (rev : Bytes) (z : Nat) : Bytes := le b (predict pred b s rev + unzig (8 * b) z)

/-- The output after the samples of the values `zs`. -/
def putSamples (b pred s : Nat) : List Nat → RillOut → RillOut
  | [], o => o
  | z :: zs, o => putSamples b pred s zs (o.push (rillSample b pred s o.rev z))

theorem putSamples_append (b pred s : Nat) (ys zs : List Nat) (o : RillOut) :
    putSamples b pred s (ys ++ zs) o = putSamples b pred s zs (putSamples b pred s ys o) := by
  induction ys generalizing o with
  | nil => rfl
  | cons y ys ih => exact ih _

theorem putSamples_room (b pred s : Nat) (zs : List Nat) (o : RillOut) : (putSamples b pred s zs o).room = o.room - zs.length * b := by
  induction zs generalizing o with
  | nil => simp [putSamples]
  | cons z zs ih => simp [putSamples, ih, rillSample, Nat.add_mul, Nat.sub_sub, Nat.add_comm]

@[simp] theorem length_residues (b pred s n : Nat) (rev bs : Bytes) : (residues b pred s n rev bs).length = n := by
  induction n generalizing rev bs with
  | zero => rfl
  | succ n ih => rw [residues_succ, List.length_cons, ih]

theorem residues_lt {b pred s n : Nat} {rev bs : Bytes} (hb : 0 < b) : ∀ z ∈ residues b pred s n rev bs, z < 2 ^ (8 * b) := by
  induction n generalizing rev bs with
  | zero => simp [residues]
  | succ n ih =>
    have heven : 2 ^ (8 * b) % 2 = 0 := Nat.mod_eq_zero_of_dvd (Nat.pow_dvd_pow 2 (show 1 ≤ 8 * b by omega))
    rw [residues_succ, List.forall_mem_cons]
    exact ⟨zigzag_lt heven (residueOf_lt (Nat.two_pow_pos _) _ _), ih⟩

/-- The residues of a string give its whole samples back. -/
theorem putSamples_residues {b pred s n : Nat} {bs : Bytes} {o : RillOut} (hn : n * b ≤ bs.length) :
    putSamples b pred s (residues b pred s n o.rev bs) o = o.push (bs.take (n * b)) := by
  induction n generalizing o bs with
  | zero => simp [residues, putSamples]
  | succ n ih =>
    rw [Nat.succ_mul] at hn
    have hlen : (bs.take b).length = b := by simp; omega
    have hsample : rillSample b pred s o.rev
        (zigzag (2 ^ (8 * b)) (residueOf (2 ^ (8 * b)) (predict pred b s o.rev) (leNat (bs.take b)))) = bs.take b := by
      rw [rillSample, unzig_zigzag (residueOf_lt (Nat.two_pow_pos _) _ _)]
      simpa only [hlen] using le_add_residueOf (predict pred b s o.rev) (bs.take b)
    have hrest := ih (bs := bs.drop b) (o := o.push (bs.take b)) (by simp; omega)
    rw [residues_succ, putSamples, hsample, Nat.succ_mul, Nat.add_comm, List.take_add, ← RillOut.push_push]
    exact hrest

/-- What a sample's decoding reads first: the parameter of its group where one begins, else the one in force (R135). -/
def groupHead (i k : Nat) (bs : List Bool) : Except RillStatus (Nat × List Bool) := if i % 256 = 0 then readBits 5 bs else .ok (k, bs)

theorem decodeSamples_succ {b pred s n i k0 k z : Nat} {o : RillOut} {bs r : List Bool} (hk : k < 8 * b) (hz : z < 2 ^ (8 * b))
    (hroom : b ≤ o.room) (hhead : groupHead i k0 bs = .ok (k, riceBits (8 * b) k z ++ r)) :
    decodeSamples b pred s (n + 1) i k0 o bs = decodeSamples b pred s n (i + 1) k (o.push (rillSample b pred s o.rev z)) r := by
  have hput : emitBytes o (rillSample b pred s o.rev z) = .ok (o.push (rillSample b pred s o.rev z)) :=
    emitBytes_ok (by simpa [rillSample] using hroom)
  have hk' : ¬ 8 * b - 1 < k := by omega
  rw [groupHead] at hhead
  rw [rillSample] at hput ⊢
  simp only [decodeSamples, hhead, hk', riceDecode_riceBits hz, hput, if_false]

/-- A group of one parameter, from the index `i` on. -/
theorem decodeSamples_group {b pred s n i k0 k : Nat} {g : List Nat} {o : RillOut} {bs r : List Bool} (hk : k < 8 * b)
    (hg : g ≠ []) (hz : ∀ z ∈ g, z < 2 ^ (8 * b)) (hroom : g.length * b ≤ o.room) (hi : i % 256 + g.length ≤ 256)
    (hhead : groupHead i k0 bs = .ok (k, g.flatMap (riceBits (8 * b) k) ++ r)) :
    decodeSamples b pred s (g.length + n) i k0 o bs = decodeSamples b pred s n (i + g.length) k (putSamples b pred s g o) r := by
  induction g generalizing i k0 o bs with
  | nil => exact absurd rfl hg
  | cons z g ih =>
    rw [List.forall_mem_cons] at hz
    rw [List.flatMap_cons, List.append_assoc] at hhead
    simp only [List.length_cons, Nat.succ_mul] at hroom hi
    rw [List.length_cons, Nat.add_right_comm, decodeSamples_succ hk hz.1 (by omega) hhead, putSamples]
    by_cases hne : g = []
    · simp [hne, putSamples]
    · have hpos := List.length_pos_iff.2 hne
      rw [ih hne hz.2 (by simp [rillSample]; omega) (by omega) (by rw [groupHead, if_neg (by omega)]),
        Nat.add_right_comm, Nat.add_assoc]

/-- The bits of the coded samples: a group head before every 256 (R135). -/
def groupBits (w fuel : Nat) (zs : List Nat) : List Bool :=
  (groupsOf fuel zs).flatMap fun g => lsbBits 5 (bestK w g) ++ g.flatMap (riceBits w (bestK w g))

@[simp] theorem groupBits_nil (w fuel : Nat) : groupBits w fuel [] = [] := by cases fuel <;> rfl

theorem decodeSamples_groups {b pred s fuel i k : Nat} {zs : List Nat} {o : RillOut} {r : List Bool} (hb : 0 < b) (hb4 : b ≤ 4)
    (hfuel : zs.length < fuel) (hz : ∀ z ∈ zs, z < 2 ^ (8 * b)) (hroom : zs.length * b ≤ o.room) (hi : i % 256 = 0) :
    decodeSamples b pred s zs.length i k o (groupBits (8 * b) fuel zs ++ r) = .ok (putSamples b pred s zs o, r) := by
  induction fuel generalizing i k zs o with
  | zero => omega
  | succ fuel ih =>
    by_cases hne : zs = []
    · simp [hne, decodeSamples, putSamples]
    have hk : bestK (8 * b) (zs.take 256) < 8 * b := bestK_lt (by omega) _
    have hk5 : bestK (8 * b) (zs.take 256) < 2 ^ 5 := by omega
    have hbits : groupBits (8 * b) (fuel + 1) zs = lsbBits 5 (bestK (8 * b) (zs.take 256)) ++
        ((zs.take 256).flatMap (riceBits (8 * b) (bestK (8 * b) (zs.take 256))) ++ groupBits (8 * b) fuel (zs.drop 256)) := by
      simp [groupBits, groupsOf, hne]
    have hlen : zs.length = (zs.take 256).length + (zs.drop 256).length := by rw [← List.length_append, List.take_append_drop]
    have hput : putSamples b pred s zs o = putSamples b pred s (zs.drop 256) (putSamples b pred s (zs.take 256) o) := by
      rw [← putSamples_append, List.take_append_drop]
    rw [hlen, Nat.add_mul] at hroom
    rw [hlen, hput, hbits, List.append_assoc, List.append_assoc,
      decodeSamples_group hk (by simpa using hne) (fun z hm => hz z (List.mem_of_mem_take hm)) (by omega) (by simp; omega)
        (by rw [groupHead, if_pos hi, readBits_lsbBits, Nat.mod_eq_of_lt hk5])]
    by_cases hnil : zs.drop 256 = []
    · simp [hnil, decodeSamples, putSamples]
    · have hfull : (zs.take 256).length = 256 := by simp at hnil ⊢; omega
      exact ih (by simp; omega) (fun z hm => hz z (List.mem_of_mem_drop hm)) (by rw [putSamples_room]; omega) (by omega)

theorem padBits_replicate {n : Nat} {coded tail : List Bool} (hn : (8 - coded.length % 8) % 8 = n) :
    padBits (coded ++ (List.replicate n false ++ tail)).length (List.replicate n false ++ tail) = List.replicate n false := by
  rw [padBits, List.length_append, Nat.add_sub_cancel, hn, List.take_left' List.length_replicate]

/-- The bits of a coded payload: the samples, the padding to a byte, and the bytes of the block that fill no sample. -/
theorem toBits_encodePBlock {b pred s n : Nat} {rev blk : Bytes} {zs : List Nat} {coded : List Bool}
    (hzs : residues b pred s (blk.length / b) rev blk = zs) (hcoded : groupBits (8 * b) (zs.length + 1) zs = coded)
    (hn : (8 - coded.length % 8) % 8 = n) :
    toBits (encodePBlock b pred s rev blk) = coded ++ (List.replicate n false ++ toBits (blk.drop (blk.length / b * b))) := by
  have hdef : encodePBlock b pred s rev blk = bitsToBytes ((coded ++ List.replicate n false).length / 8)
      (coded ++ List.replicate n false) ++ blk.drop (blk.length / b * b) := by
    subst hzs hcoded hn
    rfl
  have hwhole : (coded ++ List.replicate n false).length = 8 * ((coded ++ List.replicate n false).length / 8) := by
    simp only [List.length_append, List.length_replicate]; omega
  rw [hdef, toBits_append, toBits_bitsToBytes hwhole, List.append_assoc]

/-- A coded Mode P payload decodes to its block (R133–R135). -/
theorem decodeP_encodePBlock {b pred s : Nat} {blk : Bytes} {o : RillOut} (hb : 0 < b) (hb4 : b ≤ 4)
    (hroom : blk.length ≤ o.room) :
    decodeP b pred s blk.length o (toBits (encodePBlock b pred s o.rev blk)) = .ok (o.push blk, []) := by
  generalize hzs : residues b pred s (blk.length / b) o.rev blk = zs
  generalize hcoded : groupBits (8 * b) (zs.length + 1) zs = coded
  generalize hn : (8 - coded.length % 8) % 8 = n
  generalize htail : blk.drop (blk.length / b * b) = tail
  have hwhole : blk.length / b * b ≤ blk.length := Nat.div_mul_le_self _ _
  have hzlen : zs.length = blk.length / b := by rw [← hzs, length_residues]
  have htlen : tail.length = blk.length % b := by rw [← htail, List.length_drop, Nat.mod_eq_sub_div_mul]
  have hput : putSamples b pred s zs o = o.push (blk.take (blk.length / b * b)) := hzs ▸ putSamples_residues hwhole
  have hsamples : decodeSamples b pred s (blk.length / b) 0 0 o (coded ++ (List.replicate n false ++ toBits tail)) =
      .ok (o.push (blk.take (blk.length / b * b)), List.replicate n false ++ toBits tail) := by
    rw [← hput, ← hzlen, ← hcoded]
    exact decodeSamples_groups hb hb4 (Nat.lt_succ_self _) (hzs ▸ residues_lt hb) (by rw [hzlen]; omega) rfl
  have hrest : emitBytes (o.push (blk.take (blk.length / b * b))) tail = .ok (o.push blk) := by
    rw [emitBytes_ok (by simp [← htail, Nat.min_eq_left hwhole]; omega), RillOut.push_push, ← htail, List.take_append_drop]
  have hhave : min (blk.length % b) ((toBits tail).length / 8) = tail.length := by simp; omega
  rw [toBits_encodePBlock hzs hcoded hn, htail, decodeP, hsamples]
  simp only [padBits_replicate hn, List.length_replicate, List.drop_left' List.length_replicate, hhave, bitsToBytes_toBits, hrest]
  simp [htlen]

end Sys2Proof.Machine
end

section
/-! SUPPORT. Blocks and trailer: the round trip of a stream, given that of its coded payloads (R125, R127, R136). -/

namespace Sys2Proof.Machine

/-- What the decoder reads of a block header and after it (R127). -/
structure ReadsBlock (bs : Bytes) (ty outLen : Nat) (last : Bool) (payload rest : Bytes) : Prop where
  long : 8 ≤ bs.length
  outLen : leNat (slice bs 0 2) + 1 = outLen
  size : leNat (slice bs 2 3) = payload.length
  type : (bs.getD 5 0).toNat = ty + 4 * b2n last
  check : bs.getD 6 0 = (bs.take 6).foldl (· ^^^ ·) 0
  zero : (bs.getD 7 0).toNat = 0
  body : slice bs 8 payload.length = payload
  rest : bs.drop (8 + payload.length) = rest

theorem blockOf_reads {ty outLen : Nat} (last : Bool) {payload : Bytes} (rest : Bytes) (hty : ty < 4)
    (hout : 1 ≤ outLen ∧ outLen ≤ 65536) (hlen : payload.length ≤ 65536) :
    ReadsBlock (blockOf ty last outLen payload ++ rest) ty outLen last payload rest where
  long := by simp [blockOf]; omega
  outLen := by
    have hbytes : slice (blockOf ty last outLen payload ++ rest) 0 2 = le 2 (outLen - 1) := rfl
    rw [hbytes, leNat_le (by omega), Nat.sub_add_cancel hout.1]
  size := leNat_slice (n := 3) rfl (by omega)
  type := by
    have hbyte : (blockOf ty last outLen payload ++ rest).getD 5 0 = BitVec.ofNat 8 (ty + 4 * b2n last) := rfl
    rw [hbyte, BitVec.toNat_ofNat]
    cases last <;> simp [b2n] <;> omega
  check := rfl
  zero := rfl
  body := by
    rw [blockOf, List.append_assoc]
    exact slice_append_right rest rfl rfl
  rest := List.drop_left' (by simp [blockOf]; omega)

/-- The payload of a block decodes, by the block's type, to the output `o'` (R125). -/
def PayloadGives (h : RillHead) (ty outLen : Nat) (payload : Bytes) (o o' : RillOut) : Prop :=
  if ty = 0 then emitBytes o payload = .ok o'
  else (if ty = 1 then decodeD h.w outLen o (toBits payload) else decodeP h.b h.pred h.s outLen o (toBits payload)) = .ok (o', [])

/-- The bounds that a block header is held to (R127, R133). -/
structure BlockPasses (h : RillHead) (ty outLen : Nat) (last : Bool) (payload : Bytes) : Prop where
  type : ty < 3 ∧ (ty = 0 ∨ ty = h.mode)
  length : 1 ≤ outLen ∧ outLen ≤ 65536
  size : 1 ≤ payload.length ∧ payload.length ≤ 65536
  stored : ty = 0 → payload.length = outLen
  whole : h.mode = 2 → last = false → outLen % h.b = 0

/-- A sound block gives its output; after the last one stands the trailer. -/
theorem decodeBlocks_blockOf {h : RillHead} {ty outLen e m : Nat} {last : Bool} {payload rest : Bytes} {o o' : RillOut}
    (hpass : BlockPasses h ty outLen last payload) (hgive : PayloadGives h ty outLen payload o o') (he : o.produced + outLen ≤ e)
    (hend : last = true → o'.produced = e ∧ rest = le 4 (crc32c o'.rev.reverse)) :
    decodeBlocks h (some e) (m + 1) o (blockOf ty last outLen payload ++ rest) =
      if last then .ok o' else decodeBlocks h (some e) m o' rest := by
  obtain ⟨⟨hty, hmode⟩, hout, hsize, hstored, hwhole⟩ := hpass
  obtain ⟨hlong, houtLen, hlen, htype, hcheck, hzero, hbody, hrest⟩ := blockOf_reads last rest (Nat.lt_succ_of_lt hty) hout hsize.2
  have hlast : (ty + 4 * b2n last) / 4 % 2 = 1 ↔ last = true := by cases last <;> simp [b2n] <;> omega
  have hty4 : (ty + 4 * b2n last) % 4 = ty := by omega
  have hty8 : ¬ 8 ≤ ty + 4 * b2n last := by cases last <;> simp [b2n] <;> omega
  have hknown : (decide (ty ≠ 0) && decide (ty ≠ h.mode)) = false := by rcases hmode with hm | hm <;> simp [hm]
  have hsame : (decide (ty = 0) && decide (payload.length ≠ outLen)) = false := by simpa using hstored
  have hfull : (decide (h.mode = 2) && !last && decide (outLen % h.b ≠ 0)) = false := by simpa using hwhole
  have hcrc : leNat ((le 4 (crc32c o'.rev.reverse)).take 4) = crc32c o'.rev.reverse := by
    rw [List.take_of_length_le (by simp)]
    exact leNat_le (BitVec.isLt _)
  rw [decodeBlocks]
  simp only [Nat.not_lt.2 hlong, houtLen, hlen, htype, hcheck, hzero, hbody, hrest, hlast, hty4, hty8, hknown, hsame, hfull,
    Nat.ne_of_lt hty, Nat.not_lt.2 hsize.2, Nat.not_lt.2 he, Nat.ne_zero_of_lt hsize.1, Nat.lt_irrefl, ne_eq, not_true_eq_false,
    decide_false, Bool.decide_eq_true, Bool.or_self, Bool.false_eq_true, if_false]
  unfold PayloadGives at hgive
  by_cases h0 : ty = 0
  · rw [if_pos h0] at hgive
    cases last <;> simp [hgive, h0, hend, hcrc]
  · rw [if_neg h0] at hgive
    cases last <;> simp [hgive, h0, hend, hcrc]

/-- The coded payloads that `enc` gives decode to their blocks; no bytes are no payload, and their block is stored. -/
def RoundTrips (h : RillHead) (enc : Bytes → Bytes → Bytes) : Prop :=
  ∀ (o : RillOut) (blk : Bytes), o.produced = o.rev.length → blk.length ≤ o.room → enc o.rev blk ≠ [] →
    PayloadGives h h.mode blk.length (enc o.rev blk) o (o.push blk)

theorem encodeBlocks_succ (ty n : Nat) (enc : Bytes → Bytes → Bytes) (rev bs : Bytes) : encodeBlocks ty enc (n + 1) rev bs =
    pickBlock ty (bs.drop 65536).isEmpty (bs.take 65536) (enc rev (bs.take 65536)) ++
      if (bs.drop 65536).isEmpty then [] else encodeBlocks ty enc n ((bs.take 65536).reverse ++ rev) (bs.drop 65536) := rfl

section
variable {h : RillHead} {enc : Bytes → Bytes → Bytes} (hmode : h.mode = 1 ∨ h.mode = 2) (hb : h.mode = 2 → 65536 % h.b = 0)
  (henc : RoundTrips h enc)
include hmode hb henc

/-- The block that the encoder picks, coded or stored, decodes to its bytes (R136). -/
theorem pickBlock_sound {o : RillOut} {blk : Bytes} {last : Bool} (hprod : o.produced = o.rev.length) (hroom : blk.length ≤ o.room)
    (hlen : 1 ≤ blk.length ∧ blk.length ≤ 65536) (hlast : last = false → blk.length = 65536) :
    ∃ ty payload, pickBlock h.mode last blk (enc o.rev blk) = blockOf ty last blk.length payload ∧
      BlockPasses h ty blk.length last payload ∧ PayloadGives h ty blk.length payload o (o.push blk) := by
  have hwhole : h.mode = 2 → last = false → blk.length % h.b = 0 := fun h2 hl => hlast hl ▸ hb h2
  unfold pickBlock
  split
  · next hcoded =>
    simp only [Bool.and_eq_true, decide_eq_true_eq] at hcoded
    exact ⟨h.mode, enc o.rev blk, rfl, ⟨by omega, hlen, by omega, by omega, hwhole⟩,
      henc o blk hprod hroom (List.length_pos_iff.1 (Nat.pos_of_ne_zero hcoded.2))⟩
  · exact ⟨0, blk, rfl, ⟨by omega, hlen, hlen, fun _ => rfl, hwhole⟩, emitBytes_ok hroom⟩

/-- The blocks of a string and the trailer behind them decode to the string. The decoder's fuel is enough, as every block has bytes. -/
theorem decodeBlocks_encodeBlocks {n m : Nat} {o : RillOut} {bs all : Bytes} (hn : bs.length < n)
    (hm : (encodeBlocks h.mode enc n o.rev bs).length < m) (hne : bs ≠ []) (hprod : o.produced = o.rev.length)
    (hroom : o.room = bs.length) (hall : all = o.rev.reverse ++ bs) :
    decodeBlocks h (some all.length) m o (encodeBlocks h.mode enc n o.rev bs ++ le 4 (crc32c all)) = .ok (o.push bs) := by
  induction n generalizing m o bs with
  | zero => omega
  | succ n ih =>
    obtain ⟨m, rfl⟩ := Nat.exists_eq_succ_of_ne_zero (Nat.ne_zero_of_lt hm)
    rw [encodeBlocks_succ] at hm ⊢
    generalize hblk : bs.take 65536 = blk at hm ⊢
    generalize hrest : bs.drop 65536 = rest at hm ⊢
    have hbs : bs = blk ++ rest := by rw [← hblk, ← hrest, List.take_append_drop]
    have hblkLen : blk.length = min 65536 bs.length := by rw [← hblk, List.length_take]
    have hrestLen : rest.length = bs.length - 65536 := by rw [← hrest, List.length_drop]
    have hpos := List.length_pos_iff.2 hne
    have hallLen : all.length = o.produced + bs.length := by rw [hall, hprod]; simp
    have hfull : rest.isEmpty = false → blk.length = 65536 := by
      rw [← Bool.not_eq_true, List.isEmpty_iff_length_eq_zero]; omega
    obtain ⟨ty, payload, hpick, hpass, hgive⟩ :=
      pickBlock_sound hmode hb henc (o := o) (blk := blk) hprod (by omega) (by omega) hfull
    rw [hpick] at hm ⊢
    by_cases hmore : rest = []
    · subst hmore
      rw [List.append_nil] at hbs
      subst hbs
      simp only [List.isEmpty_nil, if_true, List.append_nil] at hpass ⊢
      exact decodeBlocks_blockOf hpass hgive (by omega) fun _ => ⟨hallLen.symm, by simp [hall]⟩
    · have hnot : rest.isEmpty = false := by simpa using hmore
      simp only [hnot, Bool.false_eq_true, if_false, List.append_assoc] at hpass hm ⊢
      have hnext := ih (m := m) (o := o.push blk) (bs := rest) (by omega) (by simp [blockOf] at hm ⊢; omega) hmore
        (by simp [hprod]; omega) (by simp; omega) (by simp [hall, hbs])
      rw [decodeBlocks_blockOf hpass hgive (by omega) (fun h => absurd h (by decide)), if_neg Bool.false_ne_true, hbs,
        ← RillOut.push_push]
      exact hnext

end

/-- A stream of a header that the decoder takes, blocks and trailer decodes, given that the coded payloads do. -/
theorem rillDecode_stream {h : RillHead} {enc : Bytes → Bytes → Bytes} {hd bs : Bytes} (hlen : hd.length = 4)
    (hparse : ∀ rest, parseHead (hd ++ rest) = .ok h) (hmode : h.mode = 1 ∨ h.mode = 2) (hb : h.mode = 2 → 65536 % h.b = 0)
    (henc : RoundTrips h enc) (hne : bs ≠ []) :
    rillDecode (some bs.length) bs.length (hd ++ encodeBlocks h.mode enc (bs.length + 1) [] bs ++ le 4 (crc32c bs)) = .ok bs := by
  have hblocks {m : Nat} (hm : (encodeBlocks h.mode enc (bs.length + 1) [] bs).length < m) :
      decodeBlocks h (some bs.length) m ⟨[], 0, bs.length⟩ (encodeBlocks h.mode enc (bs.length + 1) [] bs ++ le 4 (crc32c bs)) =
        .ok (RillOut.push ⟨[], 0, bs.length⟩ bs) :=
    decodeBlocks_encodeBlocks hmode hb henc (o := ⟨[], 0, bs.length⟩) (Nat.lt_succ_self _) hm hne rfl rfl rfl
  rw [List.append_assoc, rillDecode, hparse, List.drop_left' hlen]
  dsimp only
  rw [hblocks (by simp; omega)]
  simp

end Sys2Proof.Machine
end

section
/-! O54, O55. Mode D and Mode P streams (R124–R136). -/

namespace Sys2Proof.Machine

/-- A proposal that the encoder keeps decodes to its block, in the rest of the output area as in the room of the block alone. -/
theorem roundTrips_encodeDBlock (tables : Nat × Nat) (w : Nat) : RoundTrips ⟨1, w, 1, 0, 0⟩ (encodeDBlock tables w) := by
  intro o blk hprod hroom hne
  unfold encodeDBlock at hne ⊢
  dsimp only at hne ⊢
  split at hne
  · next o' r hdec =>
    split at hne
    · next hkept =>
      rw [if_pos hkept]
      simp only [Bool.and_eq_true, List.isEmpty_iff, decide_eq_true_eq] at hkept
      obtain ⟨rfl, hrev⟩ := hkept
      obtain ⟨⟨bs, hbs, rfl⟩, hmore⟩ := decodeD_puts hdec (o.room - blk.length)
      have hsame : bs = blk := by simpa using hrev
      subst hsame
      have hstart : RillOut.more ⟨o.rev, o.rev.length, bs.length⟩ (o.room - bs.length) = o := by
        simp [RillOut.more, ← hprod, Nat.add_sub_cancel' hroom]
      have hend : (RillOut.push ⟨o.rev, o.rev.length, bs.length⟩ bs).more (o.room - bs.length) = o.push bs := by
        simp [RillOut.more, RillOut.push, hprod]
      rw [hstart, hend] at hmore
      exact hmore
    · exact absurd rfl hne
  · exact absurd rfl hne

theorem roundTrips_encodePBlock {b : Nat} (pred s : Nat) (hb : 0 < b) (hb4 : b ≤ 4) :
    RoundTrips ⟨2, 0, b, pred, s⟩ (encodePBlock b pred s) :=
  fun _ _ _ hroom _ => decodeP_encodePBlock hb hb4 hroom

theorem parseHead_modeD {w : Nat} (hw : w ≤ 10) (rest : Bytes) :
    parseHead ([1, BitVec.ofNat 8 w, 0, 0] ++ rest) = .ok ⟨1, w, 1, 0, 0⟩ := by
  have hbyte : w % 256 = w := Nat.mod_eq_of_lt (by omega)
  have hlong : ¬ rest.length + 1 + 1 + 1 + 1 < 4 := by omega
  simp [parseHead, slice, leNat, hbyte, hlong, Nat.not_lt.2 hw]

theorem parseHead_modeP {param s : Nat} (hparam : param < 16) (hwidth : param % 4 ≠ 3) (hs : s < 65536)
    (hstride : 2 ≤ param / 4 → s ≠ 0) (rest : Bytes) :
    parseHead ([2, BitVec.ofNat 8 param] ++ le 2 s ++ rest) = .ok ⟨2, 0, 2 ^ (param % 4), param / 4 % 4, s⟩ := by
  have hbyte : param % 256 = param := Nat.mod_eq_of_lt (by omega)
  have hpred : param / 4 % 4 = param / 4 := Nat.mod_eq_of_lt (by omega)
  have hval : leNat (slice ([2, BitVec.ofNat 8 param] ++ le 2 s ++ rest) 2 2) = s := leNat_slice rfl hs
  have hlong : ¬ ([2, BitVec.ofNat 8 param] ++ le 2 s ++ rest).length < 4 := by simp
  have hb0 : (([2, BitVec.ofNat 8 param] ++ le 2 s ++ rest).getD 0 0).toNat = 2 := rfl
  have hb1 : (([2, BitVec.ofNat 8 param] ++ le 2 s ++ rest).getD 1 0).toNat = param := hbyte
  have hcond : (decide (param % 4 = 3) || decide (16 ≤ param) || decide (s = 0) && decide (2 ≤ param / 4 % 4)) = false := by
    simp [hpred]; omega
  rw [parseHead, if_neg hlong]
  simp only [hb0, hb1, hval, hcond, Bool.false_eq_true, if_false, if_true, show (2 : Nat) ≠ 1 by decide]

/-- Settles O54: a proposal counts only where it decodes to its block, and a block that is not coded is stored. -/
theorem rillModeDStreamsDecode : Obligations.RillModeDStreamsDecode := by
  intro tables w bs hw hne
  have hwidth : (1 : Nat) = 2 → 65536 % 1 = 0 := fun h => absurd h (by decide)
  exact rillDecode_stream (h := ⟨1, w, 1, 0, 0⟩) (hd := [1, BitVec.ofNat 8 w, 0, 0]) rfl (parseHead_modeD hw) (.inl rfl) hwidth
    (roundTrips_encodeDBlock tables w) hne

/-- Settles O55: the samples of a block come back from their residues, and the bytes that fill no sample stand as they are. -/
theorem rillModePStreamsDecode : Obligations.RillModePStreamsDecode := by
  intro param s bs hparam hwidth hs hstride hne
  have hwide : param % 4 ≤ 2 := by omega
  have hwhole : 2 = 2 → 65536 % 2 ^ (param % 4) = 0 := fun _ =>
    Nat.mod_eq_zero_of_dvd (Nat.pow_dvd_pow 2 (show param % 4 ≤ 16 by omega))
  exact rillDecode_stream (h := ⟨2, 0, 2 ^ (param % 4), param / 4 % 4, s⟩) (hd := [2, BitVec.ofNat 8 param] ++ le 2 s) rfl
    (parseHead_modeP hparam hwidth hs hstride) (.inr rfl) hwhole
    (roundTrips_encodePBlock _ _ (Nat.two_pow_pos _) (Nat.pow_le_pow_right (n := 2) (by omega) hwide)) hne

end Sys2Proof.Machine
end

end

section
/-! O19. The events of the cipher (R142–R146). -/

namespace Sys2Proof.Machine

/-- The job that a submission makes: its input cut to the descriptor's length, on no core, under the floor its key has now (R142,
R156). It is queued as it stands where it needs no derivation. -/
def CphJob.submitted (d : CipherDesc) (input : Bytes) (s : State) : CphJob :=
  let j : CphJob := { id := s.cph.nextId, desc := d, input := fitTo d.inputLen input, phase := 1, core := 0xFF, status := 0, reason := 0,
                      output := [], since := s.now, avoid := none, floor := 0 }
  { j with floor := (s.epochsOf j.keyCtx.2.1).1 }

/-- The job `j` stands last in the cipher's queue, and the next submission has the next number. -/
def State.cphPut (s : State) (j : CphJob) : State :=
  { s with cph := { s.cph with jobs := s.cph.jobs ++ [j], nextId := s.cph.nextId + 1 } }

section
variable {d : CipherDesc} {input : Bytes} {s : State} {j : CphJob}

/-- A bad job ends at once with AUTH_FAIL and reason 3 and is recorded; its completion waits for its queue's order (R142, R144). -/
theorem exec_cipherJobSubmit_bad (hj : j = .submitted d input s) (hbad : CipherDesc.bad d j.input (cphAreas d j.input) = true) :
    exec (.cipherJobSubmit d input) s =
      .next ((((s.cphPut { j with phase := 3, status := 0x10, reason := 3, output := cphRefused d j.input }).cphFail
        0x10 3 0xFF d.context).raise 0x908 2 0x05000000 (le 8 d.context)).cphRelease d.queue) := by
  subst hj
  exact if_pos hbad

/-- With no domain key a job needs none derived: it may be dispatched. -/
theorem exec_cipherJobSubmit_noKey (hj : j = .submitted d input s) (hgood : ¬ CipherDesc.bad d j.input (cphAreas d j.input) = true)
    (hkey : s.keyNow.isNone = true) : exec (.cipherJobSubmit d input) s = .next (s.cphPut j).cphDispatch := by
  subst hj
  exact (if_neg hgood).trans (if_pos hkey)

/-- A job whose key is cached may be dispatched, and its key is the most recently used (R142, R151). -/
theorem exec_cipherJobSubmit_cached (hj : j = .submitted d input s) (hgood : ¬ CipherDesc.bad d j.input (cphAreas d j.input) = true)
    (hkey : ¬ s.keyNow.isNone = true) (hhit : s.cph.cache.contains j.keyCtx = true) :
    exec (.cipherJobSubmit d input) s =
      .next ((s.cphPut j).coresSynced (((s.cphPut j).cacheKey j.keyCtx).getD (s.cphPut j)).cphDispatch) := by
  subst hj
  exact (if_neg hgood).trans ((if_neg hkey).trans (if_pos hhit))

/-- A job whose key is not cached waits for its derivation, which starts where the unit is idle (R142). -/
theorem exec_cipherJobSubmit_missed (hj : j = .submitted d input s) (hgood : ¬ CipherDesc.bad d j.input (cphAreas d j.input) = true)
    (hkey : ¬ s.keyNow.isNone = true) (hmiss : ¬ s.cph.cache.contains j.keyCtx = true) :
    exec (.cipherJobSubmit d input) s = .next ((s.cphPut { j with phase := 0 }).pmuEvent 0x901 0xFF 1).cphDerive := by
  subst hj
  exact (if_neg hgood).trans ((if_neg hkey).trans (if_neg hmiss))

end

/-- Settles O19: a submission by its four outcomes; the other events act on the derivation under way and on the job of the core. -/
theorem cipherCommandsTakeEffect : Obligations.CipherCommandsTakeEffect := by
  refine ⟨?submit, ?derived, ?complete, ?noProgress⟩
  case submit =>
    intro d input s
    refine ⟨.submitted d input s, rfl, rfl, rfl, rfl, rfl, ?_⟩
    by_cases hbad : CipherDesc.bad d (CphJob.submitted d input s).input (cphAreas d (CphJob.submitted d input s).input) = true
    · exact (exec_cipherJobSubmit_bad rfl hbad).trans (congrArg Host.Outcome.next (if_pos hbad).symm)
    by_cases hkey : s.keyNow.isNone = true
    · exact (exec_cipherJobSubmit_noKey rfl hbad hkey).trans
        (congrArg Host.Outcome.next ((if_neg hbad).trans (if_pos hkey)).symm)
    by_cases hhit : s.cph.cache.contains (CphJob.submitted d input s).keyCtx = true
    · exact (exec_cipherJobSubmit_cached rfl hbad hkey hhit).trans
        (congrArg Host.Outcome.next ((if_neg hbad).trans ((if_neg hkey).trans (if_pos hhit))).symm)
    · exact (exec_cipherJobSubmit_missed rfl hbad hkey hhit).trans
        (congrArg Host.Outcome.next ((if_neg hbad).trans ((if_neg hkey).trans (if_neg hhit))).symm)
  case derived =>
    intro k s u hk hu
    simp only [exec, execKeyDerivationComplete, hk, hu]
  case complete =>
    intro core j s hj
    simp only [exec, execCipherJobComplete, hj]
  case noProgress =>
    intro core s hj
    exact if_pos hj

end Sys2Proof.Machine
end

section
/-! Network ports and Basin: frames and pauses, links and the ring (O20, O21). -/

section
/-! SUPPORT. An expiry leaves the ports and the fields of the registers as they are; a port written is the port read. -/

namespace Sys2Proof.Machine

@[simp] theorem State.at_nport (s : State) (d n : Nat) : (s.at d).nport n = s.nport n := by simp [State.nport]

@[simp] theorem State.setNet_nport_same (s : State) (n : Nat) (p : NetPort) : (s.setNet n p).nport n = p := by
  simp [State.nport, State.setNet]

end Sys2Proof.Machine
end

section
/-! O20. Frames on the network ports: received, sent, paused (R164, R166, R167, R170, R210). -/

namespace Sys2Proof.Machine

/-! ### What becomes of a frame that a port has taken -/

section
variable {n cls : Nat} {f : Frame} {s : State}

/-- A PFC frame that is neither of a wrong length nor broken pauses its port's queues (R166). -/
theorem State.takeFrame_pfc {ts : List (Nat × Nat)} (hk : f.kind = .pfc ts) (hgood : s.storedBad n f = none) :
    s.takeFrame n cls f = s.pauseBy n ts := by
  simp only [State.takeFrame, hk, hgood]

variable (hk : ∀ ts, f.kind ≠ .pfc ts)
include hk

/-- Any other frame is judged by the ring, then by its address, then by its port (R164). -/
theorem State.takeFrame_notPfc :
    s.takeFrame n cls f =
      if n < 2 && s.ringBlocks n f && !s.ringFrame f then s.dropIn n f cls 0xFF ((s.storedBad n f).getD 8)
      else if s.isLocal f.dmac f.vid then s.localFrame n cls f
      else if n < 2 then
        (if (f.multicast || s.ringFrame f) && (s.storedBad n f).isNone then s.toControl n cls f else s).transit n (ringPeer n) cls f
      else s.dropIn n f cls 0xFF ((s.storedBad n f).getD 9) := by
  unfold State.takeFrame
  split
  case h_1 ts hpfc => exact absurd hpfc (hk ts)
  case h_2 => rfl

theorem State.takeFrame_local (hring : s.ringBlocks n f = false) (hloc : s.isLocal f.dmac f.vid = true) :
    s.takeFrame n cls f = s.localFrame n cls f := by
  rw [State.takeFrame_notPfc hk, if_neg (by simp [hring]), if_pos hloc]

theorem State.takeFrame_transit (hn : n < 2) (hring : s.ringBlocks n f = false) (hloc : s.isLocal f.dmac f.vid = false) :
    s.takeFrame n cls f =
      (if (f.multicast || s.ringFrame f) && (s.storedBad n f).isNone then s.toControl n cls f else s).transit n (ringPeer n) cls f := by
  rw [State.takeFrame_notPfc hk, if_neg (by simp [hring]), if_neg (by simp [hloc]), if_pos hn]

theorem State.takeFrame_rear (hn : 2 ≤ n) (hloc : s.isLocal f.dmac f.vid = false) :
    s.takeFrame n cls f = s.dropIn n f cls 0xFF ((s.storedBad n f).getD 9) := by
  have hrear : ¬ n < 2 := Nat.not_lt.2 hn
  rw [State.takeFrame_notPfc hk, if_neg (by simp [hrear]), if_neg (by simp [hloc]), if_neg hrear]

end

/-! ### A frame received -/

/-- A port that is not powered, not up or not enabled takes no frame (R172). -/
theorem exec_frameReceive_notTaken {n : Nat} {f : Frame} {s : State}
    (h : s.netPowered n = false ∨ (s.nport n).link = false ∨ s.flag (F.NET_CTRL_ENABLE n) = false) :
    exec (.frameReceive n f) s = .next s :=
  if_pos (by rcases h with h | h | h <;> simp [h])

/-- A frame that a port takes is counted with its bytes; where taking it has overrun the headroom, Thimble hears of it (R166). -/
theorem exec_frameReceive_taken {n : Nat} {f : Frame} {s u v : State} (hpow : s.netPowered n = true) (hlink : (s.nport n).link = true)
    (hen : s.flag (F.NET_CTRL_ENABLE n) = true) (hloop : s.flag (F.NET_CTRL_LOOPBACK n) = false)
    (hu : u = State.applyFld ((s.pmuEvent 0x300 n 1).pmuEvent 0x301 n f.length) F.BSN_CFG_CT_EN)
    (hv : u.takeFrame n (u.frameClass n f) f = v) :
    exec (.frameReceive n f) s =
      .next (if v.fld (F.NET_CNT_COUNT n 4) ≠ u.fld (F.NET_CNT_COUNT n 4) then v.raise (0x300 + n) 2 0x05000000 [] else v) := by
  subst hu hv
  simp only [exec, execFrameReceive, hpow, hlink, hen, hloop, Bool.not_true, Bool.false_and, Bool.or_self, Bool.false_eq_true, if_false]

/-! ### Pauses -/

section
variable {n c d : Nat} {s : State}

/-- A pause ends at its time; a tripped queue is lossless again 100 ms later (R167). -/
theorem exec_pauseExpiry (hto : (s.egq n c).pausedTo = some d) :
    exec (.pauseExpiry n c) s =
      .next (((s.at d).setQueue n c { s.egq n c with
        pausedTo := none, pausedFrom := none,
        restoreAt := if (s.egq n c).tripped then some (max s.now d + 100000000) else (s.egq n c).restoreAt }).startNext n) := by
  simp only [exec, execPauseExpiry, hto, State.at_now]; rfl

/-- The watchdog treats a lossless queue as lossy that its partner has kept paused for PAUSE_WD (R167). -/
theorem exec_pauseWatchdogExpiry (hfrom : (s.egq n c).pausedFrom = some d) (hwd : (s.egq n c).wd ≠ 0)
    (htrip : (s.egq n c).tripped = false) (hloss : s.losslessOn n c = true) :
    exec (.pauseWatchdogExpiry n c) s =
      .next (((((s.at (d + msec (10 * (s.egq n c).wd))).setQueue n c { s.egq n c with tripped := true }).flushQueue
        n c 0xC 5 (fun _ => true)).bump (F.NET_CNT_COUNT n 7) 1).raise (0x300 + n) 2 0x03000000 []) := by
  simp only [exec, execPauseWatchdogExpiry, hfrom]
  exact if_neg (by simp [hwd, htrip, hloss])

end

/-- Settles O20: a frame by whether its port takes it and by what it is; each end of a pause or a frame by what the port holds. -/
theorem framesAndPausesTakeEffect : Obligations.FramesAndPausesTakeEffect := by
  refine ⟨?pfc, ?notTaken, ?localAddress, ?transit, ?rear, ?frameEnd, ?refresh, ?pauseEnds, ?trippedPauseEnds, ?watchdog, ?restored⟩
  case pfc =>
    intro n f ts s hpow hlink hen hloop hk u hu hgood
    exact exec_frameReceive_taken hpow hlink hen hloop hu (State.takeFrame_pfc hk hgood)
  case notTaken =>
    intro n f s h
    exact exec_frameReceive_notTaken h
  case localAddress =>
    intro n f s u hpow hlink hen hloop hk hu hring hloc
    exact exec_frameReceive_taken hpow hlink hen hloop hu (State.takeFrame_local hk hring hloc)
  case transit =>
    intro n f s u hn hpow hlink hen hloop hk hu hring hloc
    exact exec_frameReceive_taken hpow hlink hen hloop hu (State.takeFrame_transit hk hn hring hloc)
  case rear =>
    intro n f s u hn hpow hlink hen hloop hk hu hloc
    exact exec_frameReceive_taken hpow hlink hen hloop hu (State.takeFrame_rear hk hn hloc)
  case frameEnd =>
    intro n q cut s hsend
    simp only [exec, execEgressFrameEnd, hsend]
  case refresh =>
    intro n c d s hat
    simp only [exec, execPfcRefresh, hat, State.at_nport]; rfl
  case pauseEnds =>
    intro n c d s hto htrip
    rw [exec_pauseExpiry hto, htrip]; rfl
  case trippedPauseEnds =>
    intro n c d s hto htrip
    rw [exec_pauseExpiry hto, htrip]; rfl
  case watchdog =>
    intro n c d s hfrom hwd htrip hloss
    exact exec_pauseWatchdogExpiry hfrom hwd htrip hloss
  case restored =>
    intro n c d s hat
    simp only [exec, execLosslessRestoreExpiry, hat]

end Sys2Proof.Machine
end

section
/-! O21. Links and the ring: losses, holds, the drain of the banks, R-APS messages and the ring's timers (R172–R177). -/

namespace Sys2Proof.Machine

/-! ### R-APS messages -/

/-- The node state that a message of the ring asks for (R176; G.8032 as in log entry 17). An event asks for none. -/
def rapsNode : RapsReq → Option Nat
  | .nrRb => some 0
  | .sf => some 1
  | .ms => some 2
  | .fs => some 3
  | .nr => some 4
  | .event => none

section
variable {n v : Nat} {q : RapsReq} {h : RapsHdr} {s : State} (hw : s.ctlWaits = false)
include hw

/-- A message that is not the ring's own, or reaches a node that is off, changes nothing. -/
theorem exec_rapsMessage_ignored (hign : s.flag F.BSN_RING_ENABLE = false ∨ h ≠ s.rapsHdr) :
    exec (.rapsMessage n ⟨q, h⟩) s = .next s :=
  (if_neg (by simp [hw])).trans (if_pos (by rcases hign with h | h <;> simp [h]))

variable (hn : n < 2) (hen : s.flag F.BSN_RING_ENABLE = true)
include hn hen

/-- A flush request is acknowledged on its port, whether or not the guard timer runs. -/
theorem exec_rapsMessage_event : exec (.rapsMessage n ⟨.event, s.rapsHdr⟩) s = .next (s.raps .event [n]) :=
  (if_neg (by simp [hw])).trans ((if_neg (by simp [hen, hn])).trans (if_neg (by simp)))

/-- A message that asks for a node state moves a node to it whose ports forward and whose guard timer does not run. -/
theorem exec_rapsMessage_node (hguard : s.net.guardAt = none) (hring0 : (s.nport 0).ring = 0) (hring1 : (s.nport 1).ring = 0)
    (hq : rapsNode q = some v) : exec (.rapsMessage n ⟨q, s.rapsHdr⟩) s = .next { s with net := { s.net with node := v } } := by
  have hports : ∀ k, State.nport { s with net := { s.net with node := v } } k = s.nport k := fun _ => rfl
  refine (if_neg (by simp [hw])).trans ((if_neg (by simp [hen, hn])).trans ((if_neg (by simp [hguard])).trans ?_))
  cases q with
  | event => cases hq
  | _ =>
    obtain rfl := Option.some.inj hq
    simp [hring0, hring1, hports]

end

/-- Settles O21: each event by the link, the timer or the ring state that it acts on. -/
theorem linksAndRingEventsTakeEffect : Obligations.LinksAndRingEventsTakeEffect := by
  refine ⟨?lost, ?up, ?holdEnds, ?ringHoldEnds, ?drained, ?raps, ?rapsEvent, ?rapsIgnored, ?holdoffUp, ?holdoffDown, ?guardEnds⟩
  case lost =>
    intro n fec s hlink
    simp only [exec, execLinkDown, hlink, Bool.and_true]
  case up =>
    intro n s hpow hen hlink
    exact if_neg (by simp [hpow, hen, hlink])
  case holdEnds =>
    intro n d s hn hat
    simp only [exec, execLinkHoldExpiry, hat, if_neg (Nat.not_lt.2 hn)]
  case ringHoldEnds =>
    intro n d s hn hat
    simp only [exec, execLinkHoldExpiry, hat, if_pos hn]
  case drained =>
    intro d s hat
    simp only [exec, execBankDrainExpiry, hat]
  case raps =>
    intro n v q s hn hw hen hguard hring0 hring1 hq
    refine exec_rapsMessage_node hw hn hen hguard hring0 hring1 ?_
    rcases hq with ⟨rfl, rfl⟩ | ⟨rfl, rfl⟩ | ⟨rfl, rfl⟩ | ⟨rfl, rfl⟩ | ⟨rfl, rfl⟩ <;> rfl
  case rapsEvent =>
    intro n s hn hw hen
    exact exec_rapsMessage_event hw hn hen
  case rapsIgnored =>
    intro n q h s hw hign
    exact exec_rapsMessage_ignored hw hign
  case holdoffUp =>
    intro n d s hat hlink
    simp only [exec, execRingHoldoffExpiry, hat, State.setNet_nport_same, hlink, if_true]
  case holdoffDown =>
    intro n d s hat hlink
    simp only [exec, execRingHoldoffExpiry, hat, State.setNet_nport_same, hlink, Bool.false_eq_true, if_false]
  case guardEnds =>
    intro d s hat
    simp only [exec, execRingGuardExpiry, hat]

end Sys2Proof.Machine
end

end

section
/-! Sluice: the timers and answers of an open queue pair, and triggered work requests (O25, O26). -/

section
/-! SUPPORT. A queue pair that is changed is read back changed, and two changes of it are one. -/

namespace Sys2Proof.Machine

theorem Tab.modify_modify_same {α : Type} (t : Tab α) (k : Nat) (f g : α → α) :
    (t.modify k f).modify k g = t.modify k (fun v => g (f v)) := by
  cases h : t.get? k with
  | none => simp only [Tab.modify, h]
  | some v => simp only [Tab.modify, h, Tab.get?_put_same, Tab.put_put_same]

@[simp] theorem State.modQp_modQp_same (s : State) (i : Nat) (f g : Qp → Qp) :
    (s.modQp i f).modQp i g = s.modQp i (fun q => g (f q)) := by
  simp only [State.modQp, Tab.modify_modify_same]

theorem State.modQp_get {s : State} {i : Nat} {q : Qp} (f : Qp → Qp) (hq : s.slu.qps.get? i = some q) :
    (s.modQp i f).slu.qps.get? i = some (f q) := by
  simp only [State.modQp, Tab.get?_modify_same, hq, Option.map_some]

end Sys2Proof.Machine
end

section
/-! O25. Acknowledgements, gaps, congestion, the return of an index, the end of a drain, answers to requests, and retries
(R181, R184, R186–R189, R192, R199). -/

namespace Sys2Proof.Machine

section
variable {s : State} {i d psn : Nat} {q : Qp} {r : TxReq}

variable (hq : s.slu.qps.get? i = some q)
include hq

/-- A gap that has drawn no NAK yet draws it after four round trips, or at its least age where that is later (R192). -/
theorem exec_gapTimeout_open (hat : q.gapAt = some d) (hst : q.st = 1) (hnak : q.nakSent = false) (hon : s.sluOn = true) :
    exec (.gapTimeout i) s =
      .next (let u := s.at (d + max (4 * q.rtt) (1000 * q.gapMin))
             let v := (u.modQp i (fun q => { q with nakSent := true })).bump (F.SLU_CNT_COUNT 1) 1
             (v.pmuEvent 0x603 (v.halfOf i) 1).putNak i q.ePsn .sequence) := by
  simp [exec, execGapTimeout, State.qp?, hq, hat, hst, hnak, hon, usec, Nat.mul_comm]

/-- A CNP changes the rate and starts the wait for the next increase (R189). -/
theorem exec_cnpReceived_open (hst : q.st = 1) (hin : s.sluIn = true) :
    exec (.cnpReceived i) s =
      .next (s.modQp i (fun q => { q with rate := max 1000 (q.rate / 2), rateAt := some (s.now + 55000) })) := by
  simp [exec, execCnpReceived, State.qp?, hq, hst, hin, usec]

/-- The step of an increase is the one in force: no other value waits for its boundary (R189, R374). -/
theorem exec_ccRateIncrease_open (hat : q.rateAt = some d) (hst : q.st = 1) (hon : s.sluOn = true) (hpend : s.regs.pend = .empty) :
    ∃ f : Qp → Qp, exec (.ccRateIncrease i) s = .next ((s.at d).modQp i f) ∧
      (f q).rate = min 400000 (q.rate + 1000 * max 1 (s.fld F.SLU_CFG_CC_STEP)) := by
  have hstep : (s.at d).applyFld F.SLU_CFG_CC_STEP = s.at d := State.applyFld_of_noPend (by simp [hpend])
  simp only [exec, execCcRateIncrease, State.qp?, hq, hat, hst, hon, hstep, State.at_fld, ne_eq, not_true_eq_false, decide_false,
    Bool.not_true, Bool.or_self, Bool.false_eq_true, if_false]
  exact ⟨_, rfl, rfl⟩

theorem exec_qpnIndexReturn_destroyed (hat : q.freeAt = some d) (hst : q.st = 3) :
    exec (.qpnIndexReturn i) s = .next { s.at d with slu := { (s.at d).slu with qps := (s.at d).slu.qps.del i } } := by
  simp [exec, execQpnIndexReturn, State.qp?, hq, hat, hst]

/-- The acknowledgement of the only request that is out, no READ and of no counter: none is left, so the retries start anew and no
timer runs, and nothing but what waits in this send queue can go on (R186, R187, R192). -/
theorem exec_requestAckReceived_only (hst : q.st = 1) (hin : s.sluIn = true) (hprobe : q.probe = none) (hsent : q.sent = [r])
    (hcov : r.covered psn = true) (hkind : r.kind ≠ 4) (hcount : r.counter = none) :
    exec (.requestAckReceived i psn) s =
      .next ((s.modQp i (fun q => { q with
        rtt := (7 * q.rtt + (s.now - r.sentAt)) / 8, sampled := true, sent := [], retries := 0, rnrLeft := q.rnrCnt
        ackAt := none })).txPump i) := by
  have hended : q.sent.filter (fun r => r.covered psn) = [r] := by simp [hsent, hcov]
  have hleft : q.sent.filter (fun r => !r.covered psn) = [] := by simp [hsent, hcov]
  have hreads : [r].filter (fun r => decide (r.kind = 4)) = [] := by simp [hkind]
  simp [exec, execRequestAckReceived, State.qp?, hq, hst, hin, hprobe, hended, hleft, hreads, hkind, hcount]

end

/-- Settles O25: each timer of the queue pair that runs, and each answer by what the queue pair has out. -/
theorem transportTimersAndAnswersTakeEffect : Obligations.TransportTimersAndAnswersTakeEffect := by
  refine ⟨?ackTimer, ?gap, ?cnp, ?rateIncrease, ?indexReturn, ?drainPending, ?drained, ?acked, ?sequence, ?invalidRequest,
    ?remoteAccess, ?rnrUsedUp, ?rnrWaits, ?retriesUsedUp, ?retry, ?rnrEnds⟩
  case ackTimer =>
    intro i d q s hq hat hst hon
    simp [exec, execAckTimerExpiry, State.qp?, hq, hat, hst, hon]
  case gap =>
    intro i d q s hq hat hst hnak hon
    exact exec_gapTimeout_open hq hat hst hnak hon
  case cnp =>
    intro i q s hq hst hin
    exact ⟨_, exec_cnpReceived_open hq hst hin, State.modQp_get _ hq⟩
  case rateIncrease =>
    intro i d q s hq hat hst hon hpend
    obtain ⟨f, hexec, hrate⟩ := exec_ccRateIncrease_open hq hat hst hon hpend
    exact ⟨_, f q, hexec, State.modQp_get f (by rw [State.at_slu, hq]), hrate⟩
  case indexReturn =>
    intro i d q s hq hat hst
    refine ⟨_, exec_qpnIndexReturn_destroyed hq hat hst, Tab.get?_del_same _ _, fun j hj => ?_⟩
    exact (Tab.get?_del_other _ _ _ hj).trans (by rw [State.at_slu])
  case drainPending =>
    intro w d x s hx hat hrev hthere
    simp only [exec, execWindowDrainEnd, hx, hat, hrev, hthere, Bool.not_true, Bool.false_eq_true, if_false, if_true]
  case drained =>
    intro w d x s hx hat hrev hgone
    simp only [exec, execWindowDrainEnd, hx, hat, hrev, hgone, Bool.not_true, Bool.false_eq_true, if_false]
  case acked =>
    intro i psn q r s hq hst hin hprobe hsent hcov hkind hcount
    exact exec_requestAckReceived_only hq hst hin hprobe hsent hcov hkind hcount
  case sequence =>
    intro i psn q s hq hst hin hprobe
    simp only [exec, execNakReceived, State.qp?, hq, hst, hin, hprobe, ne_eq, not_true_eq_false, decide_false, Bool.not_true,
      Bool.or_self, Option.isSome_none, Bool.false_eq_true, if_false]
    exact (apply_ite Host.Outcome.next _ _ _).symm
  case invalidRequest =>
    intro i q s hq hst hin
    simp [exec, execNakReceived, State.qp?, hq, hst, hin]
  case remoteAccess =>
    intro i q r l s hq hst hin hsent
    simp [exec, execNakReceived, State.qp?, hq, hst, hin, hsent]
  case rnrUsedUp =>
    intro i delay q s hq hst hin hcnt hleft
    simp [exec, execNakReceived, State.qp?, hq, hst, hin, hcnt, hleft]
  case rnrWaits =>
    intro i delay q s hq hst hin htries
    have hgoes : ¬(q.rnrCnt ≠ 7 ∧ q.rnrLeft = 0) := fun ⟨hcnt, hleft⟩ => htries.elim (· hleft) hcnt
    refine ⟨s.modQp i (fun q => { q with rnrAt := some (s.now + delay), ackAt := none, rnrLeft := q.rnrLeft - 1 }), ?_,
      State.modQp_get _ hq⟩
    simp [exec, execNakReceived, State.qp?, hq, hst, hin, hgoes]
  case retriesUsedUp =>
    intro i d q s hq hat hst hsent hon hused
    simp [exec, execLocalAckTimeout, State.qp?, hq, hat, hst, hsent, hon, hused]
  case retry =>
    intro i d q s hq hat hst hsent hon hleft
    simp [exec, execLocalAckTimeout, State.qp?, hq, hat, hst, hsent, hon, Nat.not_le.2 hleft]
  case rnrEnds =>
    intro i d q s hq hat hst hon
    simp [exec, execRnrRetryExpiry, State.qp?, hq, hat, hst, hon]

end Sys2Proof.Machine
end

section
/-! O26. Triggered work requests and their counters (R201, R202). -/

namespace Sys2Proof.Machine

/-- In an empty table entry 0 is the lowest that is free (R201). -/
theorem exec_triggeredWrPost_first {i counter threshold : Nat} {wr : WorkReq} {q : Qp} {s : State} (hon : s.sluOn = true)
    (h40 : s.is36 = false) (hq : s.slu.qps.get? i = some q) (hst : q.st = 1) (hfree : s.slu.trigs = []) :
    exec (.triggeredWrPost i counter threshold wr) s =
      .next (let u : State := { s with slu := { s.slu with trigs := [⟨0, i, counter % 1024, threshold, wr⟩] } }
             let v := match u.qpBed q with | some b => u.delta b (.trigPost 0 i (counter % 1024) threshold wr) | none => u
             v.fireTrigs (counter % 1024)) := by
  have hentry : (List.range (([] : List Trig).length + 1)).find?
      (fun e => e < trigEntries && ([] : List Trig).all (fun t => t.entry ≠ e)) = some 0 := by decide
  simp only [exec, execTriggeredWrPost, State.qp?, hon, h40, hq, hst, hentry, hfree, List.nil_append, decide_true, Bool.not_true,
    Bool.false_eq_true, if_false] <;> rfl

/-- Settles O26: a post by the part it is on and by its queue pair; a completion counts in every state that has the counter. -/
theorem triggeredWritesTakeEffect : Obligations.TriggeredWritesTakeEffect := by
  refine ⟨?entered, ?postedAtOnce, ?flushed, ?counted⟩
  case entered =>
    intro i counter threshold wr q s hon h40 hq hst hfree
    exact exec_triggeredWrPost_first hon h40 hq hst hfree
  case postedAtOnce =>
    intro i counter threshold wr q s hon h36 hq hst
    simp [exec, execTriggeredWrPost, State.qp?, hon, h36, hq, hst]
  case flushed =>
    intro i counter threshold wr s hon hq
    simp [exec, execTriggeredWrPost, State.qp?, hon, hq]
  case counted =>
    intro counter s h40 hon hlt
    simp [exec, execLocalWrComplete, h40, hon, Nat.not_le.2 hlt]

end Sys2Proof.Machine
end

end

section
/-! Weir: refills, gate lists and samples (O22). -/

section
/-! SUPPORT. What an expiry, a port written and a value counted leave of the registers and the ports. -/

namespace Sys2Proof.Machine

@[simp] theorem State.at_flag (s : State) (d : Nat) (f : Fld) : (s.at d).flag f = s.flag f := by simp [State.flag]

@[simp] theorem State.setNet_flag (s : State) (n : Nat) (p : NetPort) (f : Fld) : (s.setNet n p).flag f = s.flag f := rfl

@[simp] theorem State.at_netPowered (s : State) (d n : Nat) : (s.at d).netPowered n = s.netPowered n := by
  simp [State.netPowered, State.nNet, State.is36, State.domOn]

@[simp] theorem State.setNet_netPowered (s : State) (n m : Nat) (p : NetPort) : (s.setNet n p).netPowered m = s.netPowered m := rfl

@[simp] theorem State.histAdd_fld (s : State) (src inst v : Nat) (keep : Nat → Bool) (f : Fld) :
    (s.histAdd src inst v keep).fld f = s.fld f := by
  simp [State.fld, State.reg]

theorem State.setFld_fld_other (s : State) (f g : Fld) (v : Nat) (h : g.addr ≠ f.addr) : (s.setFld f v).fld g = s.fld g := by
  rw [State.fld, State.setFld_reg_other s f v h, State.fld]

theorem State.setNet_nport_other (s : State) {n m : Nat} (p : NetPort) (h : m ≠ n) : (s.setNet n p).nport m = s.nport m :=
  Tab.getD_put_other _ _ _ _ _ h

end Sys2Proof.Machine
end

section
/-! SUPPORT. What starts the next frame of a port or refills a bucket takes no time. -/

namespace Sys2Proof.Machine

/-- A fold of steps that take no time takes none. -/
theorem State.foldl_now {α : Type} {f : State → α → State} (h : ∀ s a, (f s a).now = s.now) (l : List α) (s : State) :
    (l.foldl f s).now = s.now := by
  induction l generalizing s with
  | nil => rfl
  | cons a l ih => exact (ih (f s a)).trans (h s a)

@[simp] theorem State.setNet_now (s : State) (n : Nat) (p : NetPort) : (s.setNet n p).now = s.now := rfl

@[simp] theorem State.setQueue_now (s : State) (n c : Nat) (q : EgQueue) : (s.setQueue n c q).now = s.now := rfl

@[simp] theorem State.applyRwl_now (s : State) (a : Nat) : (s.applyRwl a).now = s.now := by
  unfold State.applyRwl
  split <;> rfl

@[simp] theorem State.applyRwls_now (s : State) (l : List Nat) : (s.applyRwls l).now = s.now :=
  State.foldl_now State.applyRwl_now l s

@[simp] theorem State.shpCharge_now (s : State) (n c len : Nat) : (s.shpCharge n c len).now = s.now := by
  unfold State.shpCharge
  split <;> rfl

theorem capPick_now (s : State) (x : CapInfo) (n f : Nat) : (capPick s x n f).1.now = s.now := by
  induction n generalizing s f with
  | zero => rfl
  | succ n ih =>
    unfold capPick
    split
    · dsimp only
      split
      · rfl
      · exact ih _ _
    · exact ih _ _

@[simp] theorem State.capture_now (s : State) (x : CapInfo) : (s.capture x).now = s.now := by
  have hpick : ∀ {u v : State} {o : Option Nat}, capPick u x 8 0 = (v, o) → v.now = u.now :=
    fun {u _ _} h => by rw [← capPick_now u x 8 0, h]
  unfold State.capture
  extract_lets was u _ v
  have hu : u.now = s.now := s.applyRwls_now _
  clear_value u
  have hv : v.now = s.now := Eq.trans (by unfold v; split <;> rfl) hu
  clear_value v
  split
  · exact hv
  · split
    · next hnone => exact (hpick hnone).trans hv
    · next w _ hsome =>
      have hw : w.now = s.now := (hpick hsome).trans hv
      dsimp only
      split
      · split <;> exact hw
      · split <;> exact hw

@[simp] theorem State.sendFrame_now (s : State) (n : Nat) (f : QFrame) (cut : Bool) : (s.sendFrame n f cut).now = s.now := by
  simp [State.sendFrame, apply_ite State.now]

/-- Each turn of the round robin writes its port only (R210). -/
theorem wrrPick_now {n fuel c : Nat} {s t : State} (h : wrrPick n fuel s = some (c, t)) : t.now = s.now := by
  induction fuel generalizing s with
  | zero => cases h
  | succ fuel ih =>
    simp only [wrrPick] at h
    split at h
    · refine (ih h).trans ?_
      split
      · rfl
      · split <;> rfl
    · split at h
      · cases h; rfl
      · refine (ih h).trans ?_
        split
        · rfl
        · split <;> rfl

theorem State.pickClass_now {n c : Nat} {s t : State} (h : s.pickClass n = some (c, t)) : t.now = s.now := by
  unfold State.pickClass at h
  split at h
  · cases h; rfl
  · exact wrrPick_now (Option.ite_none_right_eq_some.mp h).2

@[simp] theorem State.startNext_now (s : State) (n : Nat) : (s.startNext n).now = s.now := by
  unfold State.startNext
  split
  · rfl
  · dsimp only
    split
    · exact s.applyRwls_now _
    · next c t hpick =>
      have ht : t.now = s.now := (State.pickClass_now hpick).trans (s.applyRwls_now _)
      split
      · exact ht
      · exact (State.sendFrame_now ..).trans ht

@[simp] theorem State.refillOne_now (s : State) (t : Nat) : (s.refillOne t).now = s.now := s.applyRwls_now _

@[simp] theorem State.refillShp_now (s : State) (n c : Nat) : (s.refillShp n c).now = s.now := s.applyRwls_now _

end Sys2Proof.Machine
end

section
/-! O22. Refills, gate lists and samples (R206, R212, R213, R215). -/

namespace Sys2Proof.Machine

/-! ### The refill -/

/-- A refill ends at the next multiple of 8.192 µs: all it does there takes no time (R206). -/
theorem exec_refillBoundary (s : State) : ∃ t, exec .refillBoundary s = .next t ∧ t.now = (s.now / 8192 + 1) * 8192 := by
  refine ⟨_, rfl, ?_⟩
  rw [State.foldl_now State.startNext_now, State.foldl_now, State.foldl_now State.refillOne_now, State.applyRwl_now, State.at_now]
  · exact Nat.max_eq_right (by omega)
  · intro u n
    refine State.foldl_now (fun v c => ?_) _ u
    split
    · exact v.refillShp_now n c
    · rfl

/-! ### A sample of a port's queues -/

/-- A sample of class `c`'s queue: its depth and the delay of its head, as the last ones and as the largest where they are, and in
the histograms that select them (R215). -/
def State.sampleQueue (n : Nat) (s : State) (c : Nat) : State :=
  let q := s.egq n c
  let d := q.depth
  let dly := match q.frames with | f :: _ => s.now - f.at_ | [] => 0
  let d' := min 0xFFFF d
  let y := min 0xFFFF (dly / 100)
  let s := (s.setFld (F.WEIR_QDEP_LAST n c) d').setFld (F.WEIR_QDEP_MAX n c) (max d' (s.fld (F.WEIR_QDEP_MAX n c)))
  let s := (s.setFld (F.WEIR_QDLY_LAST n c) y).setFld (F.WEIR_QDLY_MAX n c) (max y (s.fld (F.WEIR_QDLY_MAX n c)))
  (s.histAdd 0x20 (8 * n + c) dly (fun _ => true)).histAdd 0x21 (8 * n + c) d (fun _ => true)

section
variable (n c : Nat) (s : State)

@[simp] theorem State.sampleQueue_egq (k : Nat) : (s.sampleQueue n c).egq n k = s.egq n k := by
  simp [State.sampleQueue, State.egq, State.nport]

/-- A queue's sample is its depth, held to the 16 bits of the field. -/
theorem State.sampleQueue_last_same : (s.sampleQueue n c).fld (F.WEIR_QDEP_LAST n c) = min 0xFFFF (s.egq n c).depth := by
  have hmax : (F.WEIR_QDEP_LAST n c).addr ≠ (F.WEIR_QDLY_MAX n c).addr := by simp only [F.WEIR_QDEP_LAST, F.WEIR_QDLY_MAX]; omega
  have hlast : (F.WEIR_QDEP_LAST n c).addr ≠ (F.WEIR_QDLY_LAST n c).addr := hmax
  simp only [State.sampleQueue, State.histAdd_fld, State.setFld_fld_other _ _ _ _ hmax, State.setFld_fld_other _ _ _ _ hlast]
  rw [State.setFld_fld_disjoint _ (F.WEIR_QDEP_MAX n c) (F.WEIR_QDEP_LAST n c) _ rfl (show 16 ≤ 31 by decide)
    (.inl (show 15 < 16 by decide)), State.setFld_fld_same _ _ _ (show 0 ≤ 15 by decide) (show 15 ≤ 31 by decide)]
  exact Nat.mod_eq_of_lt (show min 0xFFFF _ < 2 ^ 16 by omega)

/-- It leaves every other queue's. -/
theorem State.sampleQueue_last_other {k : Nat} (h : k ≠ c) :
    (s.sampleQueue n c).fld (F.WEIR_QDEP_LAST n k) = s.fld (F.WEIR_QDEP_LAST n k) := by
  have hdep : (F.WEIR_QDEP_LAST n k).addr ≠ (F.WEIR_QDEP_LAST n c).addr := by simp only [F.WEIR_QDEP_LAST]; omega
  have hdly : (F.WEIR_QDEP_LAST n k).addr ≠ (F.WEIR_QDLY_LAST n c).addr := by
    simp only [F.WEIR_QDEP_LAST, F.WEIR_QDLY_LAST]; omega
  have hdepMax : (F.WEIR_QDEP_LAST n k).addr ≠ (F.WEIR_QDEP_MAX n c).addr := hdep
  have hdlyMax : (F.WEIR_QDEP_LAST n k).addr ≠ (F.WEIR_QDLY_MAX n c).addr := hdly
  simp only [State.sampleQueue, State.histAdd_fld, State.setFld_fld_other _ _ _ _ hdep, State.setFld_fld_other _ _ _ _ hdepMax,
    State.setFld_fld_other _ _ _ _ hdly, State.setFld_fld_other _ _ _ _ hdlyMax]

end

/-- After a sample of the classes listed, those among them hold their depths, and those that held theirs before still do. -/
theorem State.foldl_sampleQueue_last {n c : Nat} (l : List Nat) (s : State)
    (h : c ∈ l ∨ s.fld (F.WEIR_QDEP_LAST n c) = min 0xFFFF (s.egq n c).depth) :
    (l.foldl (State.sampleQueue n) s).fld (F.WEIR_QDEP_LAST n c) = min 0xFFFF (s.egq n c).depth := by
  induction l generalizing s with
  | nil => exact h.resolve_left List.not_mem_nil
  | cons k l ih =>
    rw [List.foldl_cons, ← s.sampleQueue_egq n k c]
    refine ih _ ?_
    rw [State.sampleQueue_egq]
    by_cases hk : c = k
    · subst hk
      exact .inr (s.sampleQueue_last_same n c)
    · refine h.imp (fun hc => (List.mem_cons.mp hc).resolve_left hk) fun hs => ?_
      rw [s.sampleQueue_last_other n k hk, hs]

/-- A port that is sampled and powered has its eight queues sampled, at the time of the sample. -/
theorem exec_queueSample_on {n : Nat} {s : State} (hpend : s.regs.pend.get? 0x1C0004 = none) (hen : s.flag F.WEIR_SMP_CFG_EN = true)
    (hpow : s.netPowered n = true) :
    exec (.queueSample n) s =
      .next ((List.range 8).foldl (State.sampleQueue n)
        (let u := s.at ((s.nport n).smpAt + usec (max 1 (s.fld F.WEIR_SMP_CFG_PERIOD_US)))
         u.setNet n { s.nport n with smpAt := u.now })) := by
  simp only [exec, execQueueSample, State.applyRwl_of_noPend hpend, State.at_nport]
  exact if_neg (by simp [hen, hpow])

/-- Settles O22: a refill takes no time at its boundary, a list starts by what its port is sending, and a sample writes each queue's
field once. -/
theorem weirEventsTakeEffect : Obligations.WeirEventsTakeEffect := by
  refine ⟨?refill, ?commit, ?cancel, ?start, ?startSending, ?entryEnd, ?sample⟩
  case refill => exact exec_refillBoundary
  case commit =>
    intro n s
    rfl
  case cancel =>
    intro n s
    refine ⟨s.gclCancel n, rfl, State.setNet_nport_same .., fun m hm => ?_⟩
    exact State.setNet_nport_other _ _ hm
  case start =>
    intro n g s hg hsend
    simp only [exec, execGclStart, hg, State.at_nport, State.setNet_nport_same, hsend]
  case startSending =>
    intro n g q cut s hg hsend
    simp only [exec, execGclStart, hg, State.at_nport, State.setNet_nport_same, hsend]
  case entryEnd =>
    intro n g s u hg hu
    simp only [exec, execGclEntryEnd, hg, hu]
  case sample =>
    intro n s hpend hen hpow _ c hc
    refine ⟨_, exec_queueSample_on hpend hen hpow, ?_⟩
    rw [State.foldl_sampleQueue_last _ _ (.inl (List.mem_range.mpr hc))]
    simp [State.egq, NetPort.queue]

end Sys2Proof.Machine
end

end

section
/-! The Gusset link, what a standby takes, and the copy tick (O37, O38, O39). -/

section
/-! O37. The Gusset link (R217, R218, R221, R229). -/

namespace Sys2Proof.Machine

/-! ### Frames of good form -/

section
variable {f : GussetFrame} (hcrc : f.crcOk = true) (hlen : f.length ≤ 9152) (hzero : f.zeroFields = 0)
include hcrc hlen hzero

/-- The test of a frame's form lets it in (R219). -/
theorem gussetFrame_formGood : (!f.crcOk || decide (9152 < f.length) || decide (f.zeroFields ≠ 0)) = false := by
  simp [hcrc, hlen, hzero]

variable {s u : State} (hlink : s.gus.link = true)
  (hu : u = (s.gusFrames false [(20 + 4 * cdiv f.length 4, s.gussetHead f)]).linkAcked f.ack)
include hlink hu

/-- A link's own frame acknowledges; a NAK that names a frame has the frames from that one on sent again (R221). -/
theorem exec_gussetFrameReceive_own (hkind : f.kind = 8 ∨ f.kind = 9) :
    exec (.gussetFrameReceive f) s = .next (if f.kind = 8 ∨ f.nak = 0 then u else u.resendFrom f.nak) := by
  subst hu
  have hform := gussetFrame_formGood hcrc hlen hzero
  rcases hkind with hk | hk <;>
    simp only [exec, execGussetFrameReceive, hlink, hform, hk, Bool.not_true, Bool.false_eq_true, Nat.reduceEqDiff, true_or, false_or,
      if_false, if_true]

/-- A message's frame is taken where it is the next one, acknowledged again where it was taken, and asked for past a gap (R221). -/
theorem exec_gussetFrameReceive_message (h8 : f.kind ≠ 8) (h9 : f.kind ≠ 9)
    (hknown : f.kind ≠ 0xB ∨ f.first = false ∨ f.message ≠ 0 ∧ f.message ≤ 0xE) :
    exec (.gussetFrameReceive f) s = .next (
      if f.seq = u.gus.rxSeq + 1 then
        { u with gus := { u.gus with rxSeq := f.seq, ackAt := some (u.gus.ackAt.getD (u.now + 2000)) } }
      else if f.seq ≤ u.gus.rxSeq then { u with gus := { u.gus with ackAt := some (u.gus.ackAt.getD (u.now + 2000)) } }
      else u.putGusset 0 0xFF (.linkAck (u.gus.rxSeq + 1)) false) := by
  subst hu
  have hctl : (decide (f.kind = 0xB) && f.first && (decide (f.message = 0) || decide (0xE < f.message))) = false := by
    rcases hknown with hk | hk | ⟨hk, hk'⟩ <;> simp [*]
  simp only [exec, execGussetFrameReceive, hlink, gussetFrame_formGood hcrc hlen hzero, h8, h9, hctl, usec,
    Bool.not_true, Bool.false_eq_true, if_false]
  split
  · rfl
  · split <;> rfl

end

/-- A frame of bad form is counted and goes no further (R219). -/
theorem exec_gussetFrameReceive_bad {f : GussetFrame} {s : State} (hlink : s.gus.link = true)
    (hbad : f.crcOk = false ∨ 9152 < f.length ∨ f.zeroFields ≠ 0) :
    exec (.gussetFrameReceive f) s = .next (s.bump (F.GUS_CNT_COUNT 1) 1) := by
  have hform : (!f.crcOk || decide (9152 < f.length) || decide (f.zeroFields ≠ 0)) = true := by
    rcases hbad with h | h | h <;> simp [h]
  simp only [exec, execGussetFrameReceive, hlink, hform, Bool.not_true, Bool.false_eq_true, if_false, if_true]

/-- Settles O37: a timer of the link by its deadline, a frame by its form, its kind and its place in the sequence. -/
theorem gussetLinkTakesEffect : Obligations.GussetLinkTakesEffect := by
  refine ⟨?up, ?down, ?retrain, ?detach, ?message, ?own, ?bad, ?ack, ?ackTimer, ?resend, ?giveUp⟩
  case up =>
    intro s hdom hlink
    simp only [exec, execGussetLinkUp, hdom, hlink, Bool.not_true, Bool.or_self, Bool.false_eq_true, if_false]
  case down => exact fun _ => rfl
  case retrain =>
    intro d s hat
    simp only [exec, execGussetRetrainTimeout, hat, State.at_gus]
  case detach =>
    intro d s hat hlink hpath hask
    simp only [exec, execGussetDownDetach, hat, hlink, hpath, hask, ne_eq, not_true_eq_false, decide_false, Bool.not_true,
      Bool.or_self, Bool.false_eq_true, if_false]
  case message =>
    intro f s u hlink hcrc hlen hzero h8 h9 hknown hu
    rw [exec_gussetFrameReceive_message hcrc hlen hzero hlink hu h8 h9 hknown]
    refine ⟨fun hnext => ?_, fun hold => ?_, fun hgap => ?_⟩
    · rw [if_pos hnext]
    · rw [if_neg (by omega), if_pos hold]
    · rw [if_neg (by omega), if_neg (by omega)]
  case own =>
    intro f s u hlink hcrc hlen hzero hu
    have hown := exec_gussetFrameReceive_own hcrc hlen hzero hlink hu
    refine ⟨fun h8 => ?_, fun h9 => ?_⟩
    · rw [hown (.inl h8), if_pos (.inl h8)]
    · simp [hown (.inr h9), h9]
  case bad => exact fun _ _ => exec_gussetFrameReceive_bad
  case ack => exact fun _ _ => rfl
  case ackTimer =>
    intro d s hat hlink
    simp only [exec, execGussetAckTimer, hat, State.at_gus, hlink, if_true]
  case resend =>
    intro g l s hun hlink htries
    simp only [exec, execGussetRetransmitTimer, hun, hlink, Nat.not_le.2 htries, Bool.not_true, Bool.false_eq_true, if_false]
  case giveUp =>
    intro g l s hun hlink htries
    simp only [exec, execGussetRetransmitTimer, hun, hlink, htries, Bool.not_true, Bool.false_eq_true, if_false, if_true]

end Sys2Proof.Machine
end

section
/-! O38. What a standby takes from the owner (R92, R196, R222–R226, R242, R243). -/

namespace Sys2Proof.Machine

/-- A message for a bed this controller stands by for acts on it. -/
theorem State.onStandby_of_standsBy {s : State} {b : Nat} {x : Bed} (hx : s.beds.get? b = some x) (hs : x.stands_by = true)
    (f : State → Bed → State) : s.onStandby b f = f s x := by
  simp only [State.onStandby, State.bed?, hx, hs, if_true]

/-- A copy that is changed is read back changed. -/
theorem State.modCopy_get {s : State} {b : Nat} {x : Bed} (hx : s.beds.get? b = some x) (f : StandbyCopy → StandbyCopy) :
    (s.modCopy b f).beds.get? b = some { x with standby := f x.standby } := by
  rw [State.modCopy, State.modBed_beds, Tab.get?_modify_same, hx, Option.map_some]

/-- Settles O38: each message acts on the bed that stands by. -/
theorem standbyMessagesTakeEffect : Obligations.StandbyMessagesTakeEffect := by
  refine ⟨?record, ?write, ?window, ?transport, ?foldNumber, ?foldRecord, ?delta, ?join⟩
  case record =>
    intro id head bytes x s hx hs
    simp only [exec, execRecordMirror, State.onStandby_of_standsBy hx hs]
  case write =>
    intro head x s hx hs
    simp only [exec, execWriteNotice, State.onStandby_of_standsBy hx hs]
  case window =>
    intro b i off key bytes x s hx hs
    refine ⟨_, _, congrArg Host.Outcome.next (State.onStandby_of_standsBy hx hs _), State.modCopy_get hx _, _,
      Tab.get?_put_same .., rfl, ?_, fun j hj => Tab.get?_put_other _ _ _ _ hj⟩
    cases hw : x.standby.windows.get? i <;> simp only [Tab.getD, hw, Option.getD]
  case transport =>
    intro b n x s hx hs
    simp only [exec, execTransportNotice, State.onStandby_of_standsBy hx hs]
  case foldNumber =>
    intro b fold x s hx hs
    have hnone : x.standby.mirrored.find? (fun m => decide (m.id = 0) && !m.folded && decide ((0 : Nat) ≠ 0)) = none := by simp
    simp only [exec, execFoldNotice, State.onStandby_of_standsBy hx hs, hnone]
  case foldRecord =>
    intro b id fold m x s hx hs hid hfind
    simp only [exec, execFoldNotice, State.onStandby_of_standsBy hx hs, hfind]
  case delta =>
    intro b tick es x s hx hs htick
    have hold : (!x.joined && decide (tick < x.standby.joinTick)) = false := by
      rcases htick with h | h <;> simp [h]
    simp only [exec, execTickDelta, State.onStandby_of_standsBy hx hs, hold, Bool.false_eq_true, if_false]
  case join =>
    intro b k f l x s hx hs
    simp only [exec, execJoinData, execAccData, State.onStandby_of_standsBy hx hs, implies_true, and_self]

end Sys2Proof.Machine
end

section
/-! O39. The copy tick (R226, R228, R229, R390). -/

namespace Sys2Proof.Machine

/-- An acknowledgement noted stands for its bed, where it is not older than one before. -/
theorem State.noteAck_ackedBed (s : State) (b tick : Nat) :
    (s.noteAck b tick).gus.ackedBed = s.gus.ackedBed.put b (max tick (s.gus.ackedBed.getD b 0)) := by
  simp only [State.noteAck]
  split <;> simp

/-- Where no tick waits for an acknowledgement, noting one takes no latency. -/
theorem State.noteAck_of_noEnds {s : State} (hends : s.gus.ends = []) (b tick : Nat) :
    (s.noteAck b tick).gus.ends = [] ∧ (s.noteAck b tick).regs = s.regs := by
  simp [State.noteAck, hends]

/-- Settles O39: the end of a tick by the shelf's state, an acknowledgement by whether its bed is copied, a late one by the first tick
that waits. -/
theorem ticksTakeEffect : Obligations.TicksTakeEffect := by
  refine ⟨?tickEnd, ?noTick, ?acknowledged, ?notCopied, ?late⟩
  case tickEnd =>
    intro d s hat hst
    simp only [exec, execTickEnd, hat, hst, ne_eq, not_true_eq_false, if_false]
  case noTick =>
    intro d s hat hst
    simp only [exec, execTickEnd, hat, hst, ne_eq, not_false_eq_true, if_true]
  case acknowledged =>
    intro b tick s hc
    refine ⟨?_, ?_, fun hends => State.noteAck_of_noEnds hends b tick⟩
    · simp only [exec, execTickAcknowledgement, hc, Bool.not_true, Bool.false_eq_true, if_false]
    · rw [State.noteAck_ackedBed, Tab.getD_put_same]
  case notCopied =>
    intro b tick s hc
    simp only [exec, execTickAcknowledgement, hc, Bool.not_false, if_true]
  case late =>
    intro k d l s hends hstandby hask
    simp only [exec, execTickAckTimeout, hends, hstandby, hask, ne_eq, not_true_eq_false, decide_false, Bool.or_self,
      Bool.false_eq_true, if_false]

end Sys2Proof.Machine
end

end

section
/-! SUPPORT. Every command but two answers a next state, and keeps what `Keeps` says: one lemma a command. The two are SECVER_ADVANCE,
which writes a fuse, and IMAGE_DATA, which writes the service NOR. -/

namespace Sys2Proof.Machine

/-- The command answers a next state, and that state keeps what `Keeps` says of `s`. -/
def Answers (s : State) (o : Outcome) : Prop := ∃ t, o = .next t ∧ Keeps s t

theorem Answers.next {s t : State} (h : Keeps s t) : Answers s (.next t) := ⟨t, rfl, h⟩

theorem Answers.ite {s : State} {a b : Outcome} {c : Prop} [Decidable c] (ha : c → Answers s a) (hb : ¬c → Answers s b) :
    Answers s (if c then a else b) := by
  split
  · exact ha ‹_›
  · exact hb ‹_›

theorem Answers.of_keepsO {s t : State} {o : Outcome} (ho : o = .next t) (h : KeepsO s o) : Answers s o := ⟨t, ho, h t ho⟩

theorem State.admin_next (s : State) (cap : Cap) (op : Nat) (f : State → Nat → Assoc → State) : ∃ t, s.admin cap op f = .next t := by
  unfold State.admin
  split
  · exact ⟨_, rfl⟩
  · exact ⟨_, rfl⟩

theorem State.admin_answers {s0 : State} (s : State) (cap : Cap) (op : Nat) (f : State → Nat → Assoc → State)
    (hf : ∀ t n a, Keeps s0 t → Keeps s0 (f t n a)) (h0 : Keeps s0 s) : Answers s0 (s.admin cap op f) :=
  .of_keepsO (s.admin_next cap op f).choose_spec (State.admin_keeps s cap op f hf h0)

theorem State.adminMember_answers {s0 : State} (s : State) (cap : Cap) (op : Nat) (f : State → Nat → Assoc → State)
    (hf : ∀ t n a, Keeps s0 t → Keeps s0 (f t n a)) (h0 : Keeps s0 s) : Answers s0 (s.adminMember cap op f) := by
  have hk := State.adminMember_keeps s cap op f hf h0
  unfold State.adminMember at hk ⊢
  split
  · next ht => exact .of_keepsO rfl (by simpa only [ht] using hk)
  · next ht => exact .of_keepsO rfl (by simpa only [ht] using hk)

theorem State.fabrics_answers {s0 : State} (s : State) (cap : Cap) (f : State → Nat → Assoc → State)
    (hf : ∀ t n a, Keeps s0 t → Keeps s0 (f t n a)) (h0 : Keeps s0 s) : Answers s0 (s.fabrics cap f) :=
  .of_keepsO (s.admin_next cap 0x7F _).choose_spec (State.fabrics_keeps s cap f hf h0)

theorem State.queueCmd_answers {s0 : State} (s : State) (cap : Cap) (op : Nat) (f : State → Nat → State)
    (hf : ∀ t n, Keeps s0 t → Keeps s0 (f t n)) (h0 : Keeps s0 s) : Answers s0 (s.queueCmd cap op f) :=
  .of_keepsO (s.admin_next cap op _).choose_spec (State.queueCmd_keeps s cap op f hf h0)

theorem State.startTest_answers {s0 : State} (s : State) (cap : Cap) (kind nsid : Nat) (h0 : Keeps s0 s) :
    Answers s0 (s.startTest cap kind nsid) :=
  .of_keepsO (s.admin_next cap 0x14 _).choose_spec (State.startTest_keeps s cap kind nsid h0)

theorem State.winUnset_keeps {s0 : State} (s : State) (assoc : Nat) (a : Assoc) (h0 : Keeps s0 s) : Keeps s0 (s.winUnset assoc a) := by
  unfold State.winUnset
  with_reducible repeat' first
    | assumption | apply State.modAssoc_keeps | apply State.delta_keeps | apply State.winRevoke_keeps | split

/-! ### Power.lean -/

theorem execRailFault_answers (info : RailInfo) (s : State) : Answers s (execRailFault info s) := by
  unfold execRailFault
  with_reducible repeat' first
    | exact .refl _ | assumption | apply State.railLow_keeps | split | refine .next ?_ | dsimp only | apply Keeps.upd

theorem execPwrfailAssert_answers (s : State) : Answers s (execPwrfailAssert s) := by
  unfold execPwrfailAssert
  with_reducible repeat' first
    | exact .refl _ | assumption | apply State.at_keeps | apply State.bump_keeps | apply State.supplyEvent_keeps
    | split | refine .next ?_ | dsimp only | apply Keeps.upd

theorem execPwrfailStep_answers (s : State) : Answers s (execPwrfailStep s) := by
  unfold execPwrfailStep
  with_reducible repeat' first | exact .refl _ | assumption | apply State.pfStep_keeps | split | refine .next ?_

theorem execPwrfailRelease_answers (s : State) : Answers s (execPwrfailRelease s) := by
  unfold execPwrfailRelease
  with_reducible repeat' first
    | exact .refl _ | assumption | apply State.releaseSource_keeps | split | refine .next ?_ | dsimp only
    | apply Keeps.upd

theorem execDomainSwitchOnDone_answers (rise : DomainOn) (s : State) : Answers s (execDomainSwitchOnDone rise s) := by
  unfold execDomainSwitchOnDone
  with_reducible repeat' first
    | exact .refl _ | assumption | apply State.at_keeps | apply State.coreTested_keeps | apply State.domUsable_keeps
    | split | refine .next ?_

theorem execRefclkLoss_answers (s : State) : Answers s (execRefclkLoss s) := by
  unfold execRefclkLoss
  with_reducible repeat' first
    | exact .refl _ | assumption | apply State.bump_keeps | apply State.supplyEvent_keeps | split | refine .next ?_
    | dsimp only | apply Keeps.upd

theorem execRefclkReturn_answers (s : State) : Answers s (execRefclkReturn s) := by
  unfold execRefclkReturn
  with_reducible repeat' first | exact .refl _ | assumption | split | refine .next ?_ | dsimp only | apply Keeps.upd

theorem execHoldoverExpiry_answers (s : State) : Answers s (execHoldoverExpiry s) := by
  unfold execHoldoverExpiry
  with_reducible repeat' first
    | exact .refl _ | assumption | apply State.at_keeps | apply State.resetAssert_keeps | split | refine .next ?_
    | dsimp only | apply Keeps.upd

theorem execSerdesRefclkLoss_answers (ref : Nat) (s : State) : Answers s (execSerdesRefclkLoss ref s) := by
  unfold execSerdesRefclkLoss
  with_reducible repeat' first
    | exact .refl _ | assumption | apply State.bump_keeps | apply State.refDown_keeps | apply State.supplyEvent_keeps
    | split | refine .next ?_ | dsimp only | apply Keeps.upd

theorem execSerdesRefclkReturn_answers (ref : Nat) (s : State) : Answers s (execSerdesRefclkReturn ref s) := by
  unfold execSerdesRefclkReturn
  with_reducible repeat' first | exact .refl _ | assumption | split | refine .next ?_ | dsimp only | apply Keeps.upd

theorem execPtpSync_answers (port : Nat) (times : PtpTimes) (s : State) : Answers s (execPtpSync port times s) := by
  unfold execPtpSync
  with_reducible repeat' first
    | exact .refl _ | assumption | apply State.applyRwl_keeps | apply State.sample_keeps | apply State.setNet_keeps
    | apply State.waitFrameAt_keeps | split | refine .next ?_ | dsimp only | apply Keeps.upd

theorem execPtpSampleTimeout_answers (s : State) : Answers s (execPtpSampleTimeout s) := by
  unfold execPtpSampleTimeout
  with_reducible repeat' first
    | exact .refl _ | assumption | apply State.at_keeps | split | refine .next ?_ | dsimp only | apply Keeps.upd

theorem execPpsInPulse_answers (s : State) : Answers s (execPpsInPulse s) := by
  unfold execPpsInPulse
  with_reducible repeat' first
    | exact .refl _ | assumption | apply State.applyRwl_keeps | apply State.sample_keeps | apply State.stepTime_keeps
    | split | refine .next ?_ | dsimp only | apply Keeps.upd

theorem execPpsOutSecond_answers (s : State) : Answers s (execPpsOutSecond s) := by
  unfold execPpsOutSecond
  with_reducible repeat' first
    | exact .refl _ | assumption | apply State.applyRwl_keeps | apply State.emit_keeps | split | refine .next ?_
    | dsimp only | apply Keeps.upd

/-! ### ResetCmds.lean -/

theorem execStrapReadRound_answers (readings : List Nat) (s : State) : Answers s (execStrapReadRound readings s) := by
  unfold execStrapReadRound
  with_reducible repeat' first
    | exact .refl _ | assumption | apply State.strapEnd_keeps | split | refine .next ?_ | dsimp only
    | apply Keeps.upd

theorem execResetSourceAssert_answers (src reach : Nat) (s : State) : Answers s (execResetSourceAssert src reach s) :=
    by
  unfold execResetSourceAssert
  with_reducible repeat' first | exact .refl _ | assumption | apply State.resetAssert_keeps | split | refine .next ?_

theorem execResetSourceRelease_answers (src : Nat) (s : State) : Answers s (execResetSourceRelease src s) := by
  unfold execResetSourceRelease
  with_reducible repeat' first
    | exact .refl _ | assumption | apply State.at_keeps | apply State.releaseSource_keeps | split | refine .next ?_

theorem execStretchExpiry_answers (lineLow : Bool) (s : State) : Answers s (execStretchExpiry lineLow s) := by
  unfold execStretchExpiry
  with_reducible repeat' first
    | exact .refl _ | assumption | apply State.at_keeps | apply State.causeBit_keeps | apply State.tryEnd_keeps
    | split | refine .next ?_ | dsimp only | apply Keeps.upd

theorem execSysrstHighConfirm_answers (s : State) : Answers s (execSysrstHighConfirm s) := by
  unfold execSysrstHighConfirm
  with_reducible repeat' first
    | exact .refl _ | assumption | apply State.releaseSource_keeps | split | refine .next ?_

theorem execCoreEpisodeTimeout_answers (s : State) : Answers s (execCoreEpisodeTimeout s) := by
  unfold execCoreEpisodeTimeout
  with_reducible repeat' first
    | exact .refl _ | assumption | apply State.at_keeps | apply State.selfFenceBed_keeps | split | refine .next ?_
    | (apply Keeps.foldl; intro _ _ _) | dsimp only | apply Keeps.upd

theorem execWatchdogExpiry_answers (core0 : Bool) (s : State) : Answers s (execWatchdogExpiry core0 s) := by
  unfold execWatchdogExpiry
  with_reducible repeat' first
    | exact .refl _ | assumption | apply State.at_keeps | apply State.resetAssert_keeps | split | refine .next ?_
    | dsimp only | apply Keeps.upd

theorem execWatchdogKick_answers (value : Word) (s : State) : Answers s (execWatchdogKick value s) := by
  unfold execWatchdogKick
  with_reducible repeat' first | exact .refl _ | assumption | apply State.kick_keeps | split | refine .next ?_

theorem execRstCtrlCore_answers (s : State) : Answers s (execRstCtrlCore s) := by
  unfold execRstCtrlCore
  with_reducible repeat' first | exact .refl _ | assumption | apply State.resetAssert_keeps | split | refine .next ?_

theorem execRstCtrlSystem_answers (s : State) : Answers s (execRstCtrlSystem s) := by
  unfold execRstCtrlSystem
  with_reducible repeat' first | exact .refl _ | assumption | apply State.resetAssert_keeps | split | refine .next ?_

theorem execStartUpStep_answers (info : StartInfo) (s : State) : Answers s (execStartUpStep info s) := by
  unfold execStartUpStep
  with_reducible repeat' first | exact .refl _ | assumption | apply State.bootStep_keeps | split | refine .next ?_

/-! ### IoCmds.lean -/

theorem execWrite_answers (cap : Cap) (nsid slba nlb : Nat) (dptr : DataPtr) (data : Bytes) (media : List MediaRead)
    (s : State) : Answers s (execWrite cap nsid slba nlb dptr data media s) := by
  unfold execWrite
  with_reducible repeat' first
    | exact .refl _ | assumption | apply State.runWrite_keeps | refine State.takeR_keepsS (by assumption) ?_
    | refine State.takeR_keepsG (by assumption) ?_ | split | refine .next ?_

theorem execRead_answers (cap : Cap) (nsid slba nlb : Nat) (dptr : DataPtr) (media : List MediaRead) (s : State) :
    Answers s (execRead cap nsid slba nlb dptr media s) := by
  unfold execRead
  with_reducible repeat' first
    | exact .refl _ | assumption | apply State.runRead_keeps | refine State.takeR_keepsS (by assumption) ?_
    | refine State.takeR_keepsG (by assumption) ?_ | split | refine .next ?_

theorem execVerify_answers (cap : Cap) (nsid slba nlb : Nat) (media : List MediaRead) (s : State) : Answers s
    (execVerify cap nsid slba nlb media s) := by
  unfold execVerify
  with_reducible repeat' first
    | exact .refl _ | assumption | apply State.runRead_keeps | refine State.takeR_keepsS (by assumption) ?_
    | refine State.takeR_keepsG (by assumption) ?_ | split | refine .next ?_

theorem execWriteZeroes_answers (cap : Cap) (nsid slba nlb : Nat) (media : List MediaRead) (s : State) : Answers s
    (execWriteZeroes cap nsid slba nlb media s) := by
  unfold execWriteZeroes
  with_reducible repeat' first
    | exact .refl _ | assumption | apply State.runZero_keeps | refine State.takeR_keepsS (by assumption) ?_
    | refine State.takeR_keepsG (by assumption) ?_ | split | refine .next ?_

theorem execDatasetManagement_answers (cap : Cap) (nsid : Nat) (deallocate : Bool) (req : DsmReq) (s : State) :
    Answers s (execDatasetManagement cap nsid deallocate req s) := by
  unfold execDatasetManagement
  with_reducible repeat' first
    | exact .refl _ | assumption | apply State.effect_keeps | apply State.runZero_keeps
    | refine State.takeR_keepsS (by assumption) ?_ | refine State.takeR_keepsG (by assumption) ?_ | split
    | refine .next ?_ | dsimp only

theorem execFlush_answers (cap : Cap) (nsid : Nat) (s : State) : Answers s (execFlush cap nsid s) := by
  unfold execFlush
  dsimp only
  with_reducible repeat' first
    | exact .refl _ | assumption | refine State.arrive_keepsE (by assumption) ?_ | apply State.arrive_keeps
    | apply State.darkCapsule_keeps | apply State.finish_keeps | split | refine .next ?_
    | (apply Keeps.foldl; intro _ _ _) | dsimp only | apply Keeps.upd

theorem execIoOpcodeUnsupported_answers (cap : Cap) (nsid opcode : Nat) (s : State) : Answers s
    (execIoOpcodeUnsupported cap nsid opcode s) := by
  unfold execIoOpcodeUnsupported
  with_reducible repeat' first | exact .refl _ | assumption | apply State.unsupported_keeps | split | refine .next ?_

theorem execKvOpcodeUnsupported_answers (cap : Cap) (nsid opcode : Nat) (s : State) : Answers s
    (execKvOpcodeUnsupported cap nsid opcode s) := by
  unfold execKvOpcodeUnsupported
  with_reducible repeat' first | exact .refl _ | assumption | apply State.unsupported_keeps | split | refine .next ?_

theorem execStore_answers (cap : Cap) (nsid : Nat) (key : KvKey) (size : Nat) (mustExist mustNotExist : Bool) (dptr :
    DataPtr) (data : Bytes) (media : List MediaRead) (s : State) : Answers s (execStore cap nsid key size mustExist
    mustNotExist dptr data media s) := by
  unfold execStore
  with_reducible repeat' first
    | exact .refl _ | assumption | apply State.advance_keeps | refine State.chunksOf_keepsE (by assumption) ?_
    | apply State.chunksOf_keeps | apply State.fromHost_keeps | refine State.indexLook_keepsE (by assumption) ?_
    | apply State.indexLook_keeps | refine State.ingestTurn_keepsE (by assumption) ?_ | apply State.ingestTurn_keeps
    | apply State.noKey_keeps | apply State.refuse_keeps | apply State.storeValue_keeps
    | refine State.takeR_keepsS (by assumption) ?_ | refine State.takeR_keepsG (by assumption) ?_ | split
    | refine .next ?_ | dsimp only

theorem execRetrieve_answers (cap : Cap) (nsid : Nat) (key : KvKey) (bufLen : Nat) (dptr : DataPtr) (media : List
    MediaRead) (s : State) : Answers s (execRetrieve cap nsid key bufLen dptr media s) := by
  unfold execRetrieve
  with_reducible repeat' first
    | exact .refl _ | assumption | apply State.advanceAll_keeps | apply State.afterRead_keeps
    | apply State.beginWork_keeps | apply State.effect_keeps | apply State.finish_keeps | apply State.noteRead_keeps
    | refine State.readTurn_keepsE (by assumption) ?_ | apply State.readTurn_keeps
    | refine State.takeR_keepsS (by assumption) ?_ | refine State.takeR_keepsG (by assumption) ?_
    | apply State.toHost_keeps | (apply State.withEntry_keeps; intro _ _ _ _) | split | refine .next ?_

theorem execList_answers (cap : Cap) (nsid : Nat) (key : KvKey) (bufLen : Nat) (dptr : DataPtr) (media : List
    MediaRead) (s : State) : Answers s (execList cap nsid key bufLen dptr media s) := by
  unfold execList
  with_reducible repeat' first
    | exact .refl _ | assumption | apply State.advanceAll_keeps | apply State.beginWork_keeps
    | apply State.effect_keeps | apply State.finish_keeps | refine State.indexLooks_keepsE (by assumption) ?_
    | apply State.indexLooks_keeps | refine State.takeR_keepsS (by assumption) ?_
    | refine State.takeR_keepsG (by assumption) ?_ | apply State.toHost_keeps | split | refine .next ?_ | dsimp only

theorem execDelete_answers (cap : Cap) (nsid : Nat) (key : KvKey) (media : List MediaRead) (s : State) : Answers s
    (execDelete cap nsid key media s) := by
  unfold execDelete
  with_reducible repeat' first
    | exact .refl _ | assumption | apply State.runRecord_keeps | refine State.takeR_keepsS (by assumption) ?_
    | refine State.takeR_keepsG (by assumption) ?_ | split | refine .next ?_

theorem execExist_answers (cap : Cap) (nsid : Nat) (key : KvKey) (media : List MediaRead) (s : State) : Answers s
    (execExist cap nsid key media s) := by
  unfold execExist
  with_reducible repeat' first
    | exact .refl _ | assumption | apply State.beginWork_keeps | apply State.effect_keeps
    | refine State.takeR_keepsS (by assumption) ?_ | refine State.takeR_keepsG (by assumption) ?_
    | (apply State.withEntry_keeps; intro _ _ _ _) | split | refine .next ?_

theorem execSetLegalHold_answers (cap : Cap) (nsid : Nat) (key : KvKey) (media : List MediaRead) (s : State) : Answers
    s (execSetLegalHold cap nsid key media s) := by
  unfold execSetLegalHold
  with_reducible repeat' first | exact .refl _ | assumption | apply State.runHold_keeps | split | refine .next ?_

theorem execClearLegalHold_answers (cap : Cap) (nsid : Nat) (key : KvKey) (media : List MediaRead) (s : State) :
    Answers s (execClearLegalHold cap nsid key media s) := by
  unfold execClearLegalHold
  with_reducible repeat' first | exact .refl _ | assumption | apply State.runHold_keeps | split | refine .next ?_

theorem execSetRetainUntil_answers (cap : Cap) (nsid : Nat) (key : KvKey) (until_ : Nat) (media : List MediaRead) (s :
    State) : Answers s (execSetRetainUntil cap nsid key until_ media s) := by
  unfold execSetRetainUntil
  with_reducible repeat' first | exact .refl _ | assumption | apply State.runHold_keeps | split | refine .next ?_

theorem execImportRecord_answers (cap : Cap) (nsid : Nat) (key : KvKey) (bufLen origLen entries : Nat) (dptr :
    DataPtr) (data : Bytes) (media : List MediaRead) (s : State) : Answers s (execImportRecord cap nsid key bufLen
    origLen entries dptr data media s) := by
  unfold execImportRecord
  with_reducible repeat' first
    | exact .refl _ | assumption | apply State.advance_keeps | apply State.fromHost_keeps
    | apply State.importRun_keeps | refine State.ingestTurn_keepsE (by assumption) ?_ | apply State.ingestTurn_keeps
    | apply State.refuse_keeps | refine State.takeR_keepsS (by assumption) ?_
    | refine State.takeR_keepsG (by assumption) ?_ | split | refine .next ?_ | dsimp only

theorem execObjectInfo_answers (cap : Cap) (nsid : Nat) (key : KvKey) (bufLen : Nat) (dptr : DataPtr) (media : List
    MediaRead) (s : State) : Answers s (execObjectInfo cap nsid key bufLen dptr media s) := by
  unfold execObjectInfo
  with_reducible repeat' first
    | exact .refl _ | assumption | apply State.beginWork_keeps | apply State.effect_keeps
    | refine State.takeR_keepsS (by assumption) ?_ | refine State.takeR_keepsG (by assumption) ?_
    | apply State.toHost_keeps | (apply State.withEntry_keeps; intro _ _ _ _) | split | refine .next ?_ | dsimp only

theorem execMapDeltaApply_answers (arrival : Nat) (s : State) : Answers s (execMapDeltaApply arrival s) := by
  unfold execMapDeltaApply
  with_reducible repeat' first | exact .refl _ | assumption | apply State.applyMap_keeps | split | refine .next ?_

theorem execIndexDeltaApply_answers (arrival : Nat) (s : State) : Answers s (execIndexDeltaApply arrival s) := by
  unfold execIndexDeltaApply
  with_reducible repeat' first | exact .refl _ | assumption | apply State.applyIndex_keeps | split | refine .next ?_

/-! ### BedCmds.lean -/

theorem execDriveCommandCompletion_answers (id : Nat) (status : DriveStatus) (data : Bytes) (s : State) : Answers s
    (execDriveCommandCompletion id status data s) := by
  unfold execDriveCommandCompletion
  with_reducible repeat' first
    | exact .refl _ | assumption | apply State.countUre_keeps | apply State.driveDone_keeps
    | apply State.fencedOut_keeps | apply State.gusSend_keeps | apply State.histAdd_keeps
    | apply State.issueDrive_keeps | apply State.joinAsk_keeps | apply State.memberFail_keeps
    | apply State.noteIdle_keeps | apply State.waitCores_keeps | split | refine .next ?_ | dsimp only
    | apply Keeps.upd

theorem execDriveCommandTimeout_answers (id : Nat) (s : State) : Answers s (execDriveCommandTimeout id s) := by
  unfold execDriveCommandTimeout
  with_reducible repeat' first
    | exact .refl _ | assumption | apply State.at_keeps | apply State.bump_keeps | apply State.emit_keeps
    | apply State.gusSend_keeps | apply State.joinAsk_keeps | apply State.setPort_keeps | split | refine .next ?_

theorem execDriveReadyTimeout_answers (slot : Nat) (s : State) : Answers s (execDriveReadyTimeout slot s) := by
  unfold execDriveReadyTimeout
  with_reducible repeat' first
    | exact .refl _ | assumption | apply State.at_keeps | apply State.memberFail_keeps | apply State.setPort_keeps
    | split | refine .next ?_ | dsimp only

theorem execDriveReady_answers (slot : Nat) (info : DriveInfo) (s : State) : Answers s (execDriveReady slot info s) :=
    by
  unfold execDriveReady
  with_reducible repeat' first
    | exact .refl _ | assumption | apply State.consider_keeps | apply State.dropReq_keeps
    | apply State.issueDrive_keeps | apply State.issueStaged_keeps | apply State.memberFail_keeps
    | apply State.noteIdle_keeps | apply State.setPort_keeps | apply State.writeDesc_keeps | split | refine .next ?_
    | (apply Keeps.foldl; intro _ _ _) | dsimp only

theorem execMemberUnreachableTimeout_answers (slot : Nat) (s : State) : Answers s (execMemberUnreachableTimeout slot
    s) := by
  unfold execMemberUnreachableTimeout
  with_reducible repeat' first
    | exact .refl _ | assumption | apply State.at_keeps | apply State.memberFail_keeps | apply State.setPort_keeps
    | split | refine .next ?_ | dsimp only

theorem execProxyCommand_answers (id : Nat) (op : DriveOp) (slot sector count : Nat) (data : Bytes) (s : State) :
    Answers s (execProxyCommand id op slot sector count data s) := by
  unfold execProxyCommand
  with_reducible repeat' first
    | exact .refl _ | assumption | apply State.issueDrive_keeps | split | refine .next ?_ | dsimp only
    | apply Keeps.upd

theorem execDrivePortLinkDown_answers (slot : Nat) (peerReaches : Bool) (s : State) : Answers s (execDrivePortLinkDown
    slot peerReaches s) := by
  unfold execDrivePortLinkDown
  with_reducible repeat' first
    | exact .refl _ | assumption | apply State.driveLinkDown_keeps | split | refine .next ?_

theorem execDrivePortLinkUp_answers (slot speed width : Nat) (s : State) : Answers s (execDrivePortLinkUp slot speed
    width s) := by
  unfold execDrivePortLinkUp
  with_reducible repeat' first
    | exact .refl _ | assumption | apply State.issueStaged_keeps | apply State.modBed_keeps
    | apply State.setPort_keeps | split | refine .next ?_

theorem execMemberIdleTimeout_answers (b m : Nat) (s : State) : Answers s (execMemberIdleTimeout b m s) := by
  unfold execMemberIdleTimeout
  with_reducible repeat' first
    | exact .refl _ | assumption | apply State.applyFld_keeps | apply State.at_keeps | apply State.emit_keeps
    | apply State.memberOff_keeps | apply State.setBed_keeps | apply State.setPort_keeps
    | refine .ite (fun _ => ?_) (fun _ => ?_) | refine .next ?_ | split

theorem execRecordFold_answers (b : Nat) (media : List MediaRead) (s : State) : Answers s (execRecordFold b media s)
    := by
  unfold execRecordFold
  with_reducible repeat' first
    | exact .refl _ | assumption | apply State.checkCompact_keeps | apply State.countReads_keeps
    | apply State.foldNext_keeps | apply relieveF_keeps | split | refine .next ?_

theorem execFoldWaitExpiry_answers (b : Nat) (media : List MediaRead) (s : State) : Answers s (execFoldWaitExpiry b
    media s) := by
  unfold execFoldWaitExpiry
  with_reducible repeat' first
    | exact .refl _ | assumption | apply State.at_keeps | apply State.countReads_keeps | apply State.foldNext_keeps
    | split | refine .next ?_

theorem execCheckpointIntervalExpiry_answers (b k : Nat) (s : State) : Answers s (execCheckpointIntervalExpiry b k s)
    := by
  unfold execCheckpointIntervalExpiry
  with_reducible repeat' first
    | exact .refl _ | assumption | apply State.applyFld_keeps | apply State.at_keeps | apply State.modBed_keeps
    | apply State.startCkpt_keeps | split | refine .next ?_

theorem execCkptNow_answers (b : Nat) (s : State) : Answers s (execCkptNow b s) := by
  unfold execCkptNow
  with_reducible repeat' first | exact .refl _ | assumption | apply State.ckptNow_keeps | split | refine .next ?_

theorem execCheckpointPhaseComplete_answers (b k : Nat) (ok : Bool) (s : State) : Answers s
    (execCheckpointPhaseComplete b k ok s) := by
  unfold execCheckpointPhaseComplete
  with_reducible repeat' first | exact .refl _ | assumption | apply State.ckptNext_keeps | split | refine .next ?_

theorem execRebuildSliceComplete_answers (b : Nat) (media : List MediaRead) (s : State) : Answers s
    (execRebuildSliceComplete b media s) := by
  unfold execRebuildSliceComplete
  with_reducible repeat' first
    | exact .refl _ | assumption | apply State.applyFld_keeps | apply State.at_keeps | apply State.countReads_keeps
    | apply State.mendIndex_keeps | apply State.passOver_keeps | apply State.rebuildDone_keeps
    | apply State.rebuildMeta_keeps | apply State.rebuildSlice_keeps | apply State.wakeAll_keeps | split
    | refine .next ?_ | dsimp only

theorem execRebuildFlushComplete_answers (b : Nat) (s : State) : Answers s (execRebuildFlushComplete b s) := by
  unfold execRebuildFlushComplete
  with_reducible repeat' first
    | exact .refl _ | assumption | apply State.actEndAny_keeps | apply State.delta_keeps | apply State.modBed_keeps
    | apply State.rebuildDone_keeps | apply State.setActs_keeps | split | refine .next ?_ | dsimp only
    | apply Keeps.upd

theorem execResyncBandComplete_answers (b : Nat) (media : List MediaRead) (s : State) : Answers s
    (execResyncBandComplete b media s) := by
  unfold execResyncBandComplete
  with_reducible repeat' first
    | exact .refl _ | assumption | apply State.countReads_keeps | apply State.offline_keeps
    | apply State.resyncBand_keeps | apply State.wakeAll_keeps | split | refine .next ?_ | dsimp only

theorem execReclaim_answers (b : Nat) (media : List MediaRead) (s : State) : Answers s (execReclaim b media s) := by
  unfold execReclaim
  with_reducible repeat' first
    | exact .refl _ | assumption | apply State.compactStep_keeps | apply State.countReads_keeps
    | apply State.rewrapGo_keeps | refine .ite (fun _ => ?_) (fun _ => ?_) | refine .next ?_

/-! ### Slot.lean -/

theorem execRaiseRequest_answers (slot : Nat) (s : State) : Answers s (execRaiseRequest slot s) := by
  unfold execRaiseRequest
  with_reducible repeat' first | exact .refl _ | assumption | apply State.raiseReq_keeps | split | refine .next ?_

theorem execDropRequest_answers (slot : Nat) (s : State) : Answers s (execDropRequest slot s) := by
  unfold execDropRequest
  with_reducible repeat' first | exact .refl _ | assumption | apply State.dropReq_keeps | split | refine .next ?_

theorem execClearFault_answers (slot : Nat) (s : State) : Answers s (execClearFault slot s) := by
  unfold execClearFault
  with_reducible repeat' first | exact .refl _ | assumption | apply State.clearFault_keeps | split | refine .next ?_

theorem execSlotTest_answers (slot : Nat) (s : State) : Answers s (execSlotTest slot s) := by
  unfold execSlotTest
  with_reducible repeat' first
    | exact .refl _ | assumption | refine State.slotTest_keepsE (by assumption) ?_ | apply State.slotTest_keeps
    | split | refine .next ?_

theorem execSlotTestHoldEnd_answers (slot vout iout : Nat) (s : State) : Answers s (execSlotTestHoldEnd slot vout iout
    s) := by
  unfold execSlotTestHoldEnd
  with_reducible repeat' first
    | exact .refl _ | assumption | apply State.at_keeps | apply State.gateOff_keeps | apply State.setChan_keeps
    | apply State.wait_keeps | split | refine .next ?_

theorem execAssertPwrdis_answers (slot : Nat) (s : State) : Answers s (execAssertPwrdis slot s) := by
  unfold execAssertPwrdis
  with_reducible repeat' first | exact .refl _ | assumption | apply State.pwrdis_keeps | split | refine .next ?_

theorem execPwrdisEnd_answers (slot : Nat) (s : State) : Answers s (execPwrdisEnd slot s) := by
  unfold execPwrdisEnd
  with_reducible repeat' first
    | exact .refl _ | assumption | apply State.at_keeps | apply State.setChan_keeps | split | refine .next ?_

theorem execSlotEnableWrite_answers (slot : Nat) (en : Bool) (s : State) : Answers s (execSlotEnableWrite slot en s)
    := by
  unfold execSlotEnableWrite
  with_reducible repeat' first | exact .refl _ | assumption | apply State.slotEnable_keeps | split | refine .next ?_

theorem execPresentPinEdge_answers (slot : Nat) (level : Bool) (s : State) : Answers s (execPresentPinEdge slot level
    s) := by
  unfold execPresentPinEdge
  with_reducible repeat' first
    | exact .refl _ | assumption | apply State.applyFld_keeps | apply State.setChan_keeps | split | refine .next ?_

theorem execPresentDebounceExpiry_answers (slot : Nat) (s : State) : Answers s (execPresentDebounceExpiry slot s) :=
    by
  unfold execPresentDebounceExpiry
  with_reducible repeat' first
    | exact .refl _ | assumption | apply State.at_keeps | apply State.inserted_keeps | apply State.removed_keeps
    | split | refine .next ?_

theorem execPresentLost_answers (slot : Nat) (s : State) : Answers s (execPresentLost slot s) := by
  unfold execPresentLost
  with_reducible repeat' first
    | exact .refl _ | assumption | apply State.at_keeps | apply State.softOff_keeps | split | refine .next ?_

theorem execInsertionDelayExpiry_answers (slot : Nat) (s : State) : Answers s (execInsertionDelayExpiry slot s) := by
  unfold execInsertionDelayExpiry
  with_reducible repeat' first
    | exact .refl _ | assumption | apply State.at_keeps | apply State.chanMet_keeps | split | refine .next ?_

theorem execRampStart_answers (slot vout : Nat) (s : State) : Answers s (execRampStart slot vout s) := by
  unfold execRampStart
  with_reducible repeat' first
    | exact .refl _ | assumption | apply State.look_keeps | apply State.rampRwl_keeps
    | refine .ite (fun _ => ?_) (fun _ => ?_) | refine .next ?_

theorem execJoinWaitExpiry_answers (slot vout : Nat) (s : State) : Answers s (execJoinWaitExpiry slot vout s) := by
  unfold execJoinWaitExpiry
  with_reducible repeat' first
    | exact .refl _ | assumption | apply State.at_keeps | apply State.look_keeps | apply State.rampRwl_keeps
    | apply State.setChan_keeps | refine .ite (fun _ => ?_) (fun _ => ?_) | refine .next ?_ | split

theorem execRampFaultTimerExpiry_answers (slot : Nat) (peerLatched : Bool) (s : State) : Answers s
    (execRampFaultTimerExpiry slot peerLatched s) := by
  unfold execRampFaultTimerExpiry
  with_reducible repeat' first | exact .refl _ | assumption | apply State.trip_keeps | split | refine .next ?_

theorem execRampMaxExpiry_answers (slot : Nat) (peerLatched : Bool) (s : State) : Answers s (execRampMaxExpiry slot
    peerLatched s) := by
  unfold execRampMaxExpiry
  with_reducible repeat' first
    | exact .refl _ | assumption | apply State.at_keeps | apply State.trip_keeps | split | refine .next ?_

theorem execPowerGood_answers (slot vout : Nat) (s : State) : Answers s (execPowerGood slot vout s) := by
  unfold execPowerGood
  with_reducible repeat' first
    | exact .refl _ | assumption | apply State.setChan_keeps | apply State.swapDone_keeps
    | apply State.syncDomains_keeps | refine .ite (fun _ => ?_) (fun _ => ?_) | refine .next ?_

theorem execBreakerTrip_answers (slot : Nat) (peerLatched : Bool) (s : State) : Answers s (execBreakerTrip slot
    peerLatched s) := by
  unfold execBreakerTrip
  with_reducible repeat' first | exact .refl _ | assumption | apply State.trip_keeps | split | refine .next ?_

theorem execFastTrip_answers (slot : Nat) (peerLatched : Bool) (s : State) : Answers s (execFastTrip slot peerLatched
    s) := by
  unfold execFastTrip
  with_reducible repeat' first | exact .refl _ | assumption | apply State.trip_keeps | split | refine .next ?_

theorem execModelStep_answers (slot vin vout iout dieC : Nat) (limiting peerLatched : Bool) (s : State) : Answers s
    (execModelStep slot vin vout iout dieC limiting peerLatched s) := by
  unfold execModelStep
  with_reducible repeat' first
    | exact .refl _ | assumption | apply State.applyFld_keeps | apply State.setChan_keeps | apply State.trip_keeps
    | apply State.vinBack_keeps | apply State.vinOut_keeps | split | refine .next ?_
    | (apply Keeps.foldl; intro _ _ _) | dsimp only | apply Keeps.upd

theorem execGateFault_answers (slot : Nat) (peerLatched : Bool) (s : State) : Answers s (execGateFault slot
    peerLatched s) := by
  unfold execGateFault
  with_reducible repeat' first
    | exact .refl _ | assumption | apply State.dieFault_keeps | apply State.trip_keeps | split | refine .next ?_

theorem execVinUndervoltage_answers (vin : Nat) (s : State) : Answers s (execVinUndervoltage vin s) := by
  unfold execVinUndervoltage
  with_reducible repeat' first
    | exact .refl _ | assumption | apply State.allSoftOff_keeps | apply State.vinOut_keeps | split | refine .next ?_
    | dsimp only | apply Keeps.upd

theorem execVinOvervoltage_answers (vin : Nat) (s : State) : Answers s (execVinOvervoltage vin s) := by
  unfold execVinOvervoltage
  with_reducible repeat' first
    | exact .refl _ | assumption | apply State.allSoftOff_keeps | apply State.vinOut_keeps | split | refine .next ?_
    | dsimp only | apply Keeps.upd

theorem execVinReturn_answers (vin : Nat) (s : State) : Answers s (execVinReturn vin s) := by
  unfold execVinReturn
  with_reducible repeat' first
    | exact .refl _ | assumption | apply State.vinBack_keeps | split | refine .next ?_ | dsimp only | apply Keeps.upd

theorem execReverseBlock_answers (slot vout : Nat) (s : State) : Answers s (execReverseBlock slot vout s) := by
  unfold execReverseBlock
  with_reducible repeat' first
    | exact .refl _ | assumption | apply State.setChan_keeps | apply State.setFld_keeps | split | refine .next ?_

theorem execReverseBlockClear_answers (slot : Nat) (s : State) : Answers s (execReverseBlockClear slot s) := by
  unfold execReverseBlockClear
  with_reducible repeat' first | exact .refl _ | assumption | apply State.setChan_keeps | split | refine .next ?_

theorem execRetryTimerExpiry_answers (slot : Nat) (s : State) : Answers s (execRetryTimerExpiry slot s) := by
  unfold execRetryTimerExpiry
  with_reducible repeat' first
    | exact .refl _ | assumption | apply State.at_keeps | apply State.setChan_keeps | apply State.unlatch_keeps
    | split | refine .next ?_

theorem execRepeatResetExpiry_answers (slot : Nat) (s : State) : Answers s (execRepeatResetExpiry slot s) := by
  unfold execRepeatResetExpiry
  with_reducible repeat' first
    | exact .refl _ | assumption | apply State.at_keeps | apply State.setChan_keeps | split | refine .next ?_

/-! ### Jobs.lean -/

theorem execRillJobSubmit_answers (d : RillDesc) (input : Bytes) (host : Bool) (s : State) : Answers s
    (execRillJobSubmit d input host s) := by
  unfold execRillJobSubmit
  with_reducible repeat' first | exact .refl _ | assumption | apply State.rillSubmit_keeps | split | refine .next ?_

theorem execRillJobComplete_answers (core bad : Nat) (s : State) : Answers s (execRillJobComplete core bad s) := by
  unfold execRillJobComplete
  with_reducible repeat' first
    | exact .refl _ | assumption | apply State.bump_keeps | apply State.coresSynced_keeps | apply State.histAdd_keeps
    | apply State.pmuEvent_keeps | apply State.raise_keeps | apply State.rillAnswer_keeps
    | apply State.rillDispatch_keeps | apply State.rillError_keeps | apply State.rillIdle_keeps
    | apply State.rillOn_keeps | split | refine .next ?_ | dsimp only | apply Keeps.upd

theorem execRillCoreNoProgress_answers (core : Nat) (s : State) : Answers s (execRillCoreNoProgress core s) := by
  unfold execRillCoreNoProgress
  with_reducible repeat' first
    | exact .refl _ | assumption | apply State.coresSynced_keeps | apply State.raise_keeps
    | apply State.rillLoseCore_keeps | apply State.rillOn_keeps | split | refine .next ?_ | dsimp only

theorem execRillPairIdle_answers (pair : Nat) (s : State) : Answers s (execRillPairIdle pair s) := by
  unfold execRillPairIdle
  with_reducible repeat' first
    | exact .refl _ | assumption | apply State.at_keeps | split | refine .next ?_ | dsimp only | apply Keeps.upd

theorem execCipherJobSubmit_answers (d : CipherDesc) (input : Bytes) (s : State) : Answers s (execCipherJobSubmit d
    input s) := by
  unfold execCipherJobSubmit
  with_reducible repeat' first
    | exact .refl _ | assumption | refine State.cacheKey_keeps (by assumption) ?_ | apply State.coresSynced_keeps
    | apply State.cphDerive_keeps | apply State.cphDispatch_keeps | apply State.cphFail_keeps
    | apply State.cphRelease_keeps | apply State.pmuEvent_keeps | apply State.raise_keeps
    | refine Keeps.getD (fun _ _ => ?_) ?_ | split | refine .next ?_ | dsimp only | apply Keeps.upd

theorem execKeyDerivationComplete_answers (s : State) : Answers s (execKeyDerivationComplete s) := by
  unfold execKeyDerivationComplete
  with_reducible repeat' first
    | exact .refl _ | assumption | apply State.bump_keeps | refine State.cacheKey_keeps (by assumption) ?_
    | apply State.coresSynced_keeps | apply State.cphDerive_keeps | apply State.cphDispatch_keeps
    | apply State.histAdd_keeps | split | refine .next ?_ | (apply Keeps.foldl; intro _ _ _) | dsimp only
    | apply Keeps.upd

theorem execCipherJobComplete_answers (core : Nat) (s : State) : Answers s (execCipherJobComplete core s) := by
  unfold execCipherJobComplete
  with_reducible repeat' first
    | exact .refl _ | assumption | apply State.coresSynced_keeps | apply State.cphDispatch_keeps
    | apply State.cphFail_keeps | apply State.cphJob_keeps | apply State.cphRelease_keeps | apply State.histAdd_keeps
    | apply State.pmuEvent_keeps | apply State.retireAnswers_keeps | split | refine .next ?_

theorem execCipherCoreNoProgress_answers (core : Nat) (s : State) : Answers s (execCipherCoreNoProgress core s) := by
  unfold execCipherCoreNoProgress
  with_reducible repeat' first
    | exact .refl _ | assumption | apply State.coresSynced_keeps | apply State.cphLoseCore_keeps
    | apply State.raise_keeps | split | refine .next ?_

/-! ### Faults.lean -/

theorem execFaultEvent_answers (src sev group detail : Nat) (unit : Bytes) (s : State) : Answers s (execFaultEvent src
    sev group detail unit s) := by
  unfold execFaultEvent
  with_reducible repeat' first
    | exact .refl _ | assumption | apply State.coresSynced_keeps | apply State.faultUnit_keeps
    | apply State.raise_keeps | split | refine .next ?_

theorem execRecordRateSecondEnd_answers (src : Nat) (s : State) : Answers s (execRecordRateSecondEnd src s) := by
  unfold execRecordRateSecondEnd
  with_reducible repeat' first
    | exact .refl _ | assumption | apply State.at_keeps | apply State.summary_keeps | split | refine .next ?_

theorem execQuietPeriodExpiry_answers (src : Nat) (s : State) : Answers s (execQuietPeriodExpiry src s) := by
  unfold execQuietPeriodExpiry
  with_reducible repeat' first
    | exact .refl _ | assumption | apply State.at_keeps | apply State.startCheck_keeps | split | refine .next ?_

theorem execAdmissionCheckComplete_answers (src : Nat) (passed : Bool) (s : State) : Answers s
    (execAdmissionCheckComplete src passed s) := by
  unfold execAdmissionCheckComplete
  with_reducible repeat' first | exact .refl _ | assumption | apply State.endCheck_keeps | split | refine .next ?_

theorem execThmFence_answers (src : Nat) (s : State) : Answers s (execThmFence src s) := by
  unfold execThmFence
  with_reducible repeat' first
    | exact .refl _ | assumption | refine State.thmFence_keepsE (by assumption) ?_ | apply State.thmFence_keeps
    | split | refine .next ?_

theorem execThmReadmit_answers (src : Nat) (s : State) : Answers s (execThmReadmit src s) := by
  unfold execThmReadmit
  with_reducible repeat' first
    | exact .refl _ | assumption | apply State.serviceReadmit_keeps | split | refine .next ?_

theorem execThmClearPermanent_answers (src : Nat) (path : AccessPath) (s : State) : Answers s (execThmClearPermanent
    src path s) := by
  unfold execThmClearPermanent
  with_reducible repeat' first | exact .refl _ | assumption | apply State.thmClear_keeps | split | refine .next ?_

theorem execBbxReadStart_answers (hi : Nat) (s : State) : Answers s (execBbxReadStart hi s) := by
  unfold execBbxReadStart
  with_reducible repeat' first | exact .refl _ | assumption | apply State.bbxStart_keeps | split | refine .next ?_

theorem execMramPortRetrained_answers (s : State) : Answers s (execMramPortRetrained s) := by
  unfold execMramPortRetrained
  with_reducible repeat' first
    | exact .refl _ | assumption | apply State.bbxDrain_keeps | split | refine .next ?_ | dsimp only
    | apply Keeps.upd

theorem execPmuSnap_answers (s : State) : Answers s (execPmuSnap s) := by
  unfold execPmuSnap
  with_reducible repeat' first
    | exact .refl _ | assumption | apply State.pmuSnap_keeps | (apply State.pmuWrite_keeps; intro _ _) | split
    | refine .next ?_

theorem execPmuClrAll_answers (s : State) : Answers s (execPmuClrAll s) := by
  unfold execPmuClrAll
  with_reducible repeat' first
    | exact .refl _ | assumption | apply State.pmuClearAll_keeps | (apply State.pmuWrite_keeps; intro _ _) | split
    | refine .next ?_

theorem execPmuFreezeWrite_answers (freeze : Bool) (s : State) : Answers s (execPmuFreezeWrite freeze s) := by
  unfold execPmuFreezeWrite
  with_reducible repeat' first
    | exact .refl _ | assumption | (apply State.pmuWrite_keeps; intro _ _) | apply State.setFld_keeps | split
    | refine .next ?_

theorem execPmuHistClr_answers (h : Nat) (s : State) : Answers s (execPmuHistClr h s) := by
  unfold execPmuHistClr
  with_reducible repeat' first
    | exact .refl _ | assumption | apply State.pmuHistClr_keeps | (apply State.pmuWrite_keeps; intro _ _) | split
    | refine .next ?_

theorem execPmuSampleReadStart_answers (q : Nat) (s : State) : Answers s (execPmuSampleReadStart q s) := by
  unfold execPmuSampleReadStart
  with_reducible repeat' first
    | exact .refl _ | assumption | (apply State.pmuWrite_keeps; intro _ _) | apply State.smpStart_keeps | split
    | refine .next ?_

theorem execPmuCounterWrap_answers (n : Nat) (s : State) : Answers s (execPmuCounterWrap n s) := by
  unfold execPmuCounterWrap
  with_reducible repeat' first | exact .refl _ | assumption | apply State.pmuAdd_keeps | split | refine .next ?_

/-! ### NetCmds.lean -/

theorem execFrameReceive_answers (n : Nat) (f : Frame) (s : State) : Answers s (execFrameReceive n f s) := by
  unfold execFrameReceive
  with_reducible repeat' first
    | exact .refl _ | assumption | apply State.applyFld_keeps | apply State.pmuEvent_keeps | apply State.raise_keeps
    | apply State.setNet_keeps | apply State.takeFrame_keeps | refine .ite (fun _ => ?_) (fun _ => ?_)
    | refine .next ?_

theorem execPfcRefresh_answers (n c : Nat) (s : State) : Answers s (execPfcRefresh n c s) := by
  unfold execPfcRefresh
  with_reducible repeat' first
    | exact .refl _ | assumption | apply State.at_keeps | apply State.sendPfc_keeps | apply State.setNet_keeps
    | split | refine .next ?_

theorem execPauseExpiry_answers (n c : Nat) (s : State) : Answers s (execPauseExpiry n c s) := by
  unfold execPauseExpiry
  with_reducible repeat' first
    | exact .refl _ | assumption | apply State.at_keeps | apply State.setQueue_keeps | apply State.startNext_keeps
    | split | refine .next ?_ | dsimp only

theorem execPauseWatchdogExpiry_answers (n c : Nat) (s : State) : Answers s (execPauseWatchdogExpiry n c s) := by
  unfold execPauseWatchdogExpiry
  with_reducible repeat' first
    | exact .refl _ | assumption | apply State.at_keeps | apply State.bump_keeps | apply State.flushQueue_keeps
    | apply State.raise_keeps | apply State.setQueue_keeps | split | refine .next ?_ | dsimp only

theorem execLosslessRestoreExpiry_answers (n c : Nat) (s : State) : Answers s (execLosslessRestoreExpiry n c s) := by
  unfold execLosslessRestoreExpiry
  with_reducible repeat' first
    | exact .refl _ | assumption | apply State.at_keeps | apply State.setQueue_keeps | split | refine .next ?_
    | dsimp only

theorem execEgressFrameEnd_answers (n : Nat) (s : State) : Answers s (execEgressFrameEnd n s) := by
  unfold execEgressFrameEnd
  with_reducible repeat' first
    | exact .refl _ | assumption | apply State.at_keeps | apply State.freeFrame_keeps | apply State.setNet_keeps
    | apply State.startNext_keeps | apply State.syncDomains_keeps | apply State.takeCredits_keeps | split
    | refine .next ?_

theorem execLinkDown_answers (n : Nat) (fec : Bool) (s : State) : Answers s (execLinkDown n fec s) := by
  unfold execLinkDown
  with_reducible repeat' first
    | exact .refl _ | assumption | apply State.linkLost_keeps | apply State.raise_keeps | split | refine .next ?_

theorem execLinkUp_answers (n : Nat) (s : State) : Answers s (execLinkUp n s) := by
  unfold execLinkUp
  with_reducible repeat' first | exact .refl _ | assumption | apply State.setNet_keeps | split | refine .next ?_

theorem execLinkHoldExpiry_answers (n : Nat) (s : State) : Answers s (execLinkHoldExpiry n s) := by
  unfold execLinkHoldExpiry
  with_reducible repeat' first
    | exact .refl _ | assumption | apply State.at_keeps | apply State.ringClear_keeps | apply State.setNet_keeps
    | apply State.startNext_keeps | split | refine .next ?_

theorem execBankDrainExpiry_answers (s : State) : Answers s (execBankDrainExpiry s) := by
  unfold execBankDrainExpiry
  with_reducible repeat' first
    | exact .refl _ | assumption | apply State.at_keeps | apply State.flushQueue_keeps
    | apply State.syncDomains_keeps | apply State.takeCredits_keeps | split | refine .next ?_
    | (apply Keeps.foldl; intro _ _ _) | dsimp only | apply Keeps.upd

theorem execRapsMessage_answers (n : Nat) (m : RapsMsg) (s : State) : Answers s (execRapsMessage n m s) := by
  unfold execRapsMessage
  with_reducible repeat' first
    | exact .refl _ | assumption | apply State.raps_keeps | apply State.ringSt_keeps | apply State.startNext_keeps
    | apply State.waitFrameAt_keeps | split | refine .next ?_ | (apply Keeps.foldl; intro _ _ _) | dsimp only
    | apply Keeps.upd

theorem execRingHoldoffExpiry_answers (n : Nat) (s : State) : Answers s (execRingHoldoffExpiry n s) := by
  unfold execRingHoldoffExpiry
  with_reducible repeat' first
    | exact .refl _ | assumption | apply State.at_keeps | apply State.ringFail_keeps | apply State.setNet_keeps
    | split | refine .next ?_

theorem execRingGuardExpiry_answers (s : State) : Answers s (execRingGuardExpiry s) := by
  unfold execRingGuardExpiry
  with_reducible repeat' first
    | exact .refl _ | assumption | apply State.at_keeps | split | refine .next ?_ | dsimp only | apply Keeps.upd

theorem execRefillBoundary_answers (s : State) : Answers s (execRefillBoundary s) := by
  unfold execRefillBoundary
  with_reducible repeat' first
    | exact .refl _ | assumption | apply State.applyRwl_keeps | apply State.at_keeps | apply State.refillOne_keeps
    | apply State.refillShp_keeps | apply State.startNext_keeps | split | refine .next ?_
    | (apply Keeps.foldl; intro _ _ _)

theorem execGclCommit_answers (n : Nat) (s : State) : Answers s (execGclCommit n s) := by
  unfold execGclCommit
  with_reducible repeat' first | exact .refl _ | assumption | apply State.gclCommit_keeps | split | refine .next ?_

theorem execGclCommitCancel_answers (n : Nat) (s : State) : Answers s (execGclCommitCancel n s) := by
  unfold execGclCommitCancel
  with_reducible repeat' first | exact .refl _ | assumption | apply State.gclCancel_keeps | split | refine .next ?_

theorem execGclStart_answers (n : Nat) (s : State) : Answers s (execGclStart n s) := by
  unfold execGclStart
  with_reducible repeat' first
    | exact .refl _ | assumption | apply State.at_keeps | apply State.bump_keeps | apply State.setNet_keeps
    | apply State.startNext_keeps | split | refine .next ?_

theorem execGclEntryEnd_answers (n : Nat) (s : State) : Answers s (execGclEntryEnd n s) := by
  unfold execGclEntryEnd
  with_reducible repeat' first
    | exact .refl _ | assumption | apply State.at_keeps | apply State.setNet_keeps | apply State.startNext_keeps
    | split | refine .next ?_

theorem execQueueSample_answers (n : Nat) (s : State) : Answers s (execQueueSample n s) := by
  unfold execQueueSample
  with_reducible repeat' first
    | exact .refl _ | assumption | apply State.applyRwl_keeps | apply State.at_keeps | apply State.histAdd_keeps
    | apply State.setFld_keeps | apply State.setNet_keeps | refine .ite (fun _ => ?_) (fun _ => ?_) | refine .next ?_
    | (apply Keeps.foldl; intro _ _ _)

/-! ### SluCmds.lean -/

theorem execCmReq_answers (req : CmReq) (s : State) : Answers s (execCmReq req s) := by
  unfold execCmReq
  with_reducible repeat' first
    | exact .refl _ | assumption | apply State.applyFld_keeps | apply State.applyRwl_keeps | apply State.drawn_keeps
    | apply State.putCm_keeps | apply State.waitFrame_keeps | split | refine .next ?_ | dsimp only | apply Keeps.upd

theorem execCmRtu_answers (i : Nat) (s : State) : Answers s (execCmRtu i s) := by
  unfold execCmRtu
  with_reducible repeat' first
    | exact .refl _ | assumption | apply State.modQp_keeps | apply State.qpTell_keeps | apply State.waitFrame_keeps
    | split | refine .next ?_

theorem execCmRej_answers (i : Nat) (s : State) : Answers s (execCmRej i s) := by
  unfold execCmRej
  with_reducible repeat' first
    | exact .refl _ | assumption | apply State.qpDestroy_keeps | apply State.waitFrame_keeps | split
    | refine .next ?_

theorem execCmDreq_answers (i : Nat) (s : State) : Answers s (execCmDreq i s) := by
  unfold execCmDreq
  with_reducible repeat' first
    | exact .refl _ | assumption | apply State.disconnect_keeps | apply State.putCm_keeps
    | apply State.waitFrame_keeps | split | refine .next ?_

theorem execCmDrep_answers (i : Nat) (s : State) : Answers s (execCmDrep i s) := by
  unfold execCmDrep
  with_reducible repeat' first | exact .refl _ | assumption | apply State.disconnect_keeps | split | refine .next ?_

theorem execPacketReceive_answers (p : Packet) (s : State) : Answers s (execPacketReceive p s) := by
  unfold execPacketReceive
  with_reducible repeat' first
    | exact .refl _ | assumption | apply State.admitPacket_keeps | apply State.again_keeps
    | apply State.answerCe_keeps | apply State.bump_keeps | apply State.hold_keeps | apply State.moveQp_keeps
    | apply State.passPsn_keeps | apply State.pmuEvent_keeps | apply State.refuseRdma_keeps
    | apply State.sendAck_keeps | apply State.syncDomains_keeps | apply deliverF_keeps | apply releaseHeldF_keeps
    | refine .ite (fun _ => ?_) (fun _ => ?_) | refine .next ?_ | split | dsimp only

theorem execAckTimerExpiry_answers (i : Nat) (s : State) : Answers s (execAckTimerExpiry i s) := by
  unfold execAckTimerExpiry
  with_reducible repeat' first
    | exact .refl _ | assumption | apply State.at_keeps | apply State.sendAck_keeps | split | refine .next ?_

theorem execGapTimeout_answers (i : Nat) (s : State) : Answers s (execGapTimeout i s) := by
  unfold execGapTimeout
  with_reducible repeat' first
    | exact .refl _ | assumption | apply State.at_keeps | apply State.bump_keeps | apply State.modQp_keeps
    | apply State.pmuEvent_keeps | apply State.putNak_keeps | split | refine .next ?_

theorem execCnpReceived_answers (i : Nat) (s : State) : Answers s (execCnpReceived i s) := by
  unfold execCnpReceived
  with_reducible repeat' first | exact .refl _ | assumption | apply State.modQp_keeps | split | refine .next ?_

theorem execCcRateIncrease_answers (i : Nat) (s : State) : Answers s (execCcRateIncrease i s) := by
  unfold execCcRateIncrease
  with_reducible repeat' first
    | exact .refl _ | assumption | apply State.applyFld_keeps | apply State.at_keeps | apply State.modQp_keeps
    | split | refine .next ?_

theorem execRequestAckReceived_answers (i psn : Nat) (s : State) : Answers s (execRequestAckReceived i psn s) := by
  unfold execRequestAckReceived
  with_reducible repeat' first
    | exact .refl _ | assumption | apply State.countUp_keeps | apply State.histAdd_keeps | apply State.modQp_keeps
    | apply State.probeEnd_keeps | apply State.txPump_keeps | apply State.txPumpAll_keeps
    | refine .ite (fun _ => ?_) (fun _ => ?_) | refine .next ?_ | (apply Keeps.foldl; intro _ _ _) | split

theorem execNakReceived_answers (i : Nat) (nak : HostNak) (s : State) : Answers s (execNakReceived i nak s) := by
  unfold execNakReceived
  with_reducible repeat' first
    | exact .refl _ | assumption | apply State.modQp_keeps | apply State.probeEnd_keeps | apply State.qpError_keeps
    | apply State.reportRdma_keeps | apply State.resend_keeps | apply State.resendPacket_keeps
    | apply State.txPump_keeps | split | refine .next ?_

theorem execLocalAckTimeout_answers (i : Nat) (s : State) : Answers s (execLocalAckTimeout i s) := by
  unfold execLocalAckTimeout
  with_reducible repeat' first
    | exact .refl _ | assumption | apply State.at_keeps | apply State.modQp_keeps | apply State.qpError_keeps
    | apply State.resend_keeps | split | refine .next ?_

theorem execRnrRetryExpiry_answers (i : Nat) (s : State) : Answers s (execRnrRetryExpiry i s) := by
  unfold execRnrRetryExpiry
  with_reducible repeat' first
    | exact .refl _ | assumption | apply State.at_keeps | apply State.modQp_keeps | apply State.resend_keeps
    | apply State.txPump_keeps | split | refine .next ?_

theorem execQpnIndexReturn_answers (i : Nat) (s : State) : Answers s (execQpnIndexReturn i s) := by
  unfold execQpnIndexReturn
  with_reducible repeat' first
    | exact .refl _ | assumption | apply State.at_keeps | split | refine .next ?_ | dsimp only | apply Keeps.upd

theorem execWindowDrainEnd_answers (w : Nat) (s : State) : Answers s (execWindowDrainEnd w s) := by
  unfold execWindowDrainEnd
  with_reducible repeat' first
    | exact .refl _ | assumption | apply State.at_keeps | apply State.bump_keeps | apply State.drainCheck_keeps
    | apply State.winFinish_keeps | refine .ite (fun _ => ?_) (fun _ => ?_) | refine .next ?_ | split

theorem execTriggeredWrPost_answers (qp counter threshold : Nat) (wr : WorkReq) (s : State) : Answers s
    (execTriggeredWrPost qp counter threshold wr s) := by
  unfold execTriggeredWrPost
  with_reducible repeat' first
    | exact .refl _ | assumption | apply State.delta_keeps | apply State.emit_keeps | apply State.fireTrigs_keeps
    | apply State.post_keeps | split | refine .next ?_ | dsimp only | apply Keeps.upd

theorem execLocalWrComplete_answers (counter : Nat) (s : State) : Answers s (execLocalWrComplete counter s) := by
  unfold execLocalWrComplete
  with_reducible repeat' first | exact .refl _ | assumption | apply State.countUp_keeps | split | refine .next ?_

/-! ### AdminCmds.lean -/

theorem execConnect_answers (cap : Cap) (req : ConnectReq) (s : State) : Answers s (execConnect cap req s) := by
  unfold execConnect
  with_reducible repeat' first
    | exact .refl _ | assumption | apply State.addQueue_keeps | apply State.answer_keeps
    | apply State.darkCapsule_keeps | apply State.detachOthers_keeps | apply State.refuseConnect_keeps
    | apply State.waitCores_keeps | split | refine .next ?_ | dsimp only | apply Keeps.upd

theorem execPropertyGet_answers (cap : Cap) (offset : Nat) (s : State) : Answers s (execPropertyGet cap offset s) :=
    by
  unfold execPropertyGet
  with_reducible repeat' first
    | exact .refl _ | assumption | (apply State.fabrics_answers; intro _ _ _ _) | apply State.finish_keeps | split
    | refine .next ?_

theorem execWindowRegister_answers (cap : Cap) (s : State) : Answers s (execWindowRegister cap s) := by
  unfold execWindowRegister
  with_reducible repeat' first
    | exact .refl _ | assumption | (apply State.fabrics_answers; intro _ _ _ _) | apply State.finish_keeps
    | apply State.winRegister_keeps

theorem execWindowRevokeProperty_answers (cap : Cap) (s : State) : Answers s (execWindowRevokeProperty cap s) := by
  unfold execWindowRevokeProperty
  with_reducible repeat' first
    | exact .refl _ | assumption | (apply State.fabrics_answers; intro _ _ _ _) | apply State.finish_keeps
    | apply State.winUnset_keeps

theorem execPropertySet_answers (cap : Cap) (offset value : Nat) (s : State) : Answers s (execPropertySet cap offset
    value s) := by
  unfold execPropertySet
  with_reducible repeat' first
    | exact .refl _ | assumption | (apply State.fabrics_answers; intro _ _ _ _) | apply State.finish_keeps
    | apply State.modAssoc_keeps | apply State.testOfReset_keeps | apply State.winRegister_keeps
    | apply State.winUnset_keeps | split | refine .next ?_

theorem execDisconnect_answers (cap : Cap) (s : State) : Answers s (execDisconnect cap s) := by
  unfold execDisconnect
  with_reducible repeat' first
    | exact .refl _ | assumption | apply State.endAssoc_keeps | (apply State.fabrics_answers; intro _ _ _ _)
    | apply State.finish_keeps | apply State.mod_keeps

theorem execKeepAlive_answers (cap : Cap) (s : State) : Answers s (execKeepAlive cap s) := by
  unfold execKeepAlive
  with_reducible repeat' first
    | exact .refl _ | assumption | (apply State.admin_answers; intro _ _ _ _) | apply State.finish_keeps
    | apply State.keepAlive_keeps

theorem execKeepAliveExpiry_answers (assoc : Nat) (s : State) : Answers s (execKeepAliveExpiry assoc s) := by
  unfold execKeepAliveExpiry
  with_reducible repeat' first
    | exact .refl _ | assumption | apply State.at_keeps | apply State.endAssoc_keeps | split | refine .next ?_

theorem execSlotGrant_answers (s : State) : Answers s (execSlotGrant s) := by
  unfold execSlotGrant
  with_reducible repeat' first | exact .refl _ | assumption | apply State.grant_keeps | split | refine .next ?_

theorem execGetLogPage_answers (cap : Cap) (lid offset len : Nat) (dptr : DataPtr) (s : State) : Answers s
    (execGetLogPage cap lid offset len dptr s) := by
  unfold execGetLogPage
  with_reducible repeat' first
    | exact .refl _ | assumption | (apply State.admin_answers; intro _ _ _ _) | apply State.finish_keeps
    | apply State.modAssoc_keeps | apply State.sendPage_keeps | refine .ite (fun _ => ?_) (fun _ => ?_)
    | refine .next ?_ | split

theorem execIdentify_answers (cap : Cap) (cns nsid : Nat) (dptr : DataPtr) (s : State) : Answers s (execIdentify cap
    cns nsid dptr s) := by
  unfold execIdentify
  with_reducible repeat' first
    | exact .refl _ | assumption | (apply State.admin_answers; intro _ _ _ _) | apply State.finish_keeps
    | apply State.sendPage_keeps | split | refine .next ?_

theorem execSetFeatures_answers (cap : Cap) (fid : Nat) (v : FeatureVal) (s : State) : Answers s (execSetFeatures cap
    fid v s) := by
  unfold execSetFeatures
  with_reducible repeat' first
    | exact .refl _ | assumption | (apply State.admin_answers; intro _ _ _ _) | apply State.finish_keeps
    | apply State.modAssoc_keeps | split | refine .next ?_

theorem execGetFeatures_answers (cap : Cap) (fid : Nat) (dptr : DataPtr) (s : State) : Answers s (execGetFeatures cap
    fid dptr s) := by
  unfold execGetFeatures
  with_reducible repeat' first
    | exact .refl _ | assumption | (apply State.admin_answers; intro _ _ _ _) | apply State.finish_keeps
    | apply State.sendPage_keeps | split | refine .next ?_

theorem execAsynchronousEventRequest_answers (cap : Cap) (s : State) : Answers s (execAsynchronousEventRequest cap s)
    := by
  unfold execAsynchronousEventRequest
  with_reducible repeat' first
    | exact .refl _ | assumption | (apply State.admin_answers; intro _ _ _ _) | apply State.finish_keeps
    | apply State.modAssoc_keeps | split | refine .next ?_

theorem execAdminOpcodeUnsupported_answers (cap : Cap) (opcode : Nat) (s : State) : Answers s
    (execAdminOpcodeUnsupported cap opcode s) := by
  unfold execAdminOpcodeUnsupported
  with_reducible repeat' first
    | exact .refl _ | assumption | (apply State.admin_answers; intro _ _ _ _) | apply State.finish_keeps

theorem execAbort_answers (cap : Cap) (tqid tcid : Nat) (s : State) : Answers s (execAbort cap tqid tcid s) := by
  unfold execAbort
  with_reducible repeat' first
    | exact .refl _ | assumption | (apply State.admin_answers; intro _ _ _ _) | apply State.advanceAll_keeps
    | apply State.bump_keeps | apply State.finish_keeps | apply State.modAssoc_keeps | apply State.refuse_keeps
    | split | refine .next ?_

theorem execNamespaceCreate_answers (cap : Cap) (kv fourK : Bool) (lbas : Nat) (vendor : NsVendor) (dptr : DataPtr) (s
    : State) : Answers s (execNamespaceCreate cap kv fourK lbas vendor dptr s) := by
  unfold execNamespaceCreate
  with_reducible repeat' first
    | exact .refl _ | assumption | (apply State.adminMember_answers; intro _ _ _ _)
    | refine State.commitData_keeps (by assumption) ?_ | apply State.delta_keeps | apply State.finish_keeps
    | apply State.putEpochs_keeps | split | refine .next ?_ | dsimp only

theorem execNamespaceDelete_answers (cap : Cap) (nsid : Nat) (s : State) : Answers s (execNamespaceDelete cap nsid s)
    := by
  unfold execNamespaceDelete
  with_reducible repeat' first
    | exact .refl _ | assumption | (apply State.adminMember_answers; intro _ _ _ _) | apply State.commitOr_keeps
    | apply State.dropNs_keeps | apply State.endTest_keeps | apply State.finish_keeps | apply State.nsChanged_keeps
    | split | refine .next ?_

theorem execNamespaceAttachment_answers (cap : Cap) (nsid : Nat) (attach : Bool) (ctrls : CtrlList) (s : State) :
    Answers s (execNamespaceAttachment cap nsid attach ctrls s) := by
  unfold execNamespaceAttachment
  with_reducible repeat' first
    | exact .refl _ | assumption | (apply State.admin_answers; intro _ _ _ _) | apply State.finish_keeps
    | apply State.nsChanged_keeps | split | refine .next ?_ | dsimp only | apply Keeps.upd

theorem execShortSelfTest_answers (cap : Cap) (nsid : Nat) (s : State) : Answers s (execShortSelfTest cap nsid s) :=
    by
  unfold execShortSelfTest
  with_reducible repeat' first | exact .refl _ | assumption | apply State.startTest_answers

theorem execExtendedSelfTest_answers (cap : Cap) (nsid : Nat) (s : State) : Answers s (execExtendedSelfTest cap nsid
    s) := by
  unfold execExtendedSelfTest
  with_reducible repeat' first | exact .refl _ | assumption | apply State.startTest_answers

theorem execSelfTestAbort_answers (cap : Cap) (s : State) : Answers s (execSelfTestAbort cap s) := by
  unfold execSelfTestAbort
  with_reducible repeat' first
    | exact .refl _ | assumption | (apply State.admin_answers; intro _ _ _ _) | apply State.endTest_keeps
    | apply State.finish_keeps

theorem execSelfTestSlice_answers (took : Nat) (last passed : Bool) (s : State) : Answers s (execSelfTestSlice took
    last passed s) := by
  unfold execSelfTestSlice
  with_reducible repeat' first
    | exact .refl _ | assumption | apply State.applyFld_keeps | apply State.at_keeps | apply State.endTest_keeps
    | apply State.katRound_keeps | split | refine .next ?_ | dsimp only | apply Keeps.upd

theorem execSelfTestPauseLimit_answers (s : State) : Answers s (execSelfTestPauseLimit s) := by
  unfold execSelfTestPauseLimit
  with_reducible repeat' first
    | exact .refl _ | assumption | apply State.at_keeps | apply State.endTest_keeps | split | refine .next ?_

theorem execCreateIoSubmissionQueue_answers (cap : Cap) (qid size cqid : Nat) (s : State) : Answers s
    (execCreateIoSubmissionQueue cap qid size cqid s) := by
  unfold execCreateIoSubmissionQueue
  with_reducible repeat' first
    | exact .refl _ | assumption | apply State.finish_keeps | (apply State.queueCmd_answers; intro _ _ _) | split
    | refine .next ?_ | dsimp only | apply Keeps.upd

theorem execDeleteIoSubmissionQueue_answers (cap : Cap) (qid : Nat) (s : State) : Answers s
    (execDeleteIoSubmissionQueue cap qid s) := by
  unfold execDeleteIoSubmissionQueue
  with_reducible repeat' first
    | exact .refl _ | assumption | apply State.dropCmd_keeps | apply State.finish_keeps | apply State.mod_keeps
    | apply State.pmuCommand_keeps | (apply State.queueCmd_answers; intro _ _ _) | split | refine .next ?_
    | (apply Keeps.foldl; intro _ _ _) | dsimp only | apply Keeps.upd

theorem execCreateIoCompletionQueue_answers (cap : Cap) (qid size : Nat) (vec : Option Nat) (s : State) : Answers s
    (execCreateIoCompletionQueue cap qid size vec s) := by
  unfold execCreateIoCompletionQueue
  with_reducible repeat' first
    | exact .refl _ | assumption | apply State.finish_keeps | (apply State.queueCmd_answers; intro _ _ _) | split
    | refine .next ?_ | dsimp only | apply Keeps.upd

theorem execDeleteIoCompletionQueue_answers (cap : Cap) (qid : Nat) (s : State) : Answers s
    (execDeleteIoCompletionQueue cap qid s) := by
  unfold execDeleteIoCompletionQueue
  with_reducible repeat' first
    | exact .refl _ | assumption | apply State.finish_keeps | (apply State.queueCmd_answers; intro _ _ _) | split
    | refine .next ?_ | dsimp only | apply Keeps.upd

theorem execWakeRequestRepeat_answers (s : State) : Answers s (execWakeRequestRepeat s) := by
  unfold execWakeRequestRepeat
  with_reducible repeat' first
    | exact .refl _ | assumption | apply State.at_keeps | apply State.sendWake_keeps | split | refine .next ?_
    | dsimp only | apply Keeps.upd

theorem execParkTimeout_answers (arrival : Nat) (s : State) : Answers s (execParkTimeout arrival s) := by
  unfold execParkTimeout
  with_reducible repeat' first
    | exact .refl _ | assumption | apply State.at_keeps | apply State.finish_keeps | split | refine .next ?_

theorem execDarkCapsuleResponse_answers (n : Nat) (cap : Cap) (keepAlive : Bool) (s : State) : Answers s
    (execDarkCapsuleResponse n cap keepAlive s) := by
  unfold execDarkCapsuleResponse
  with_reducible repeat' first
    | exact .refl _ | assumption | apply State.darkCapsule_keeps | apply State.waitFrameAt_keeps | split
    | refine .next ?_

/-! ### GusCmds.lean -/

theorem execGussetLinkUp_answers (s : State) : Answers s (execGussetLinkUp s) := by
  unfold execGussetLinkUp
  with_reducible repeat' first
    | exact .refl _ | assumption | apply State.gusControl_keeps | apply State.proxyBack_keeps
    | apply State.resendFrom_keeps | split | refine .next ?_ | dsimp only | apply Keeps.upd

theorem execGussetLinkDown_answers (s : State) : Answers s (execGussetLinkDown s) := by
  unfold execGussetLinkDown
  with_reducible repeat' first | exact .refl _ | assumption | apply State.gusRetrain_keeps | split | refine .next ?_

theorem execGussetRetrainTimeout_answers (s : State) : Answers s (execGussetRetrainTimeout s) := by
  unfold execGussetRetrainTimeout
  with_reducible repeat' first
    | exact .refl _ | assumption | apply State.at_keeps | apply State.gusEvent_keeps | split | refine .next ?_
    | dsimp only | apply Keeps.upd

theorem execGussetDownDetach_answers (s : State) : Answers s (execGussetDownDetach s) := by
  unfold execGussetDownDetach
  with_reducible repeat' first
    | exact .refl _ | assumption | apply State.askDetach_keeps | apply State.at_keeps | split | refine .next ?_

theorem execGussetFrameReceive_answers (f : GussetFrame) (s : State) : Answers s (execGussetFrameReceive f s) := by
  unfold execGussetFrameReceive
  with_reducible repeat' first
    | exact .refl _ | assumption | apply State.bump_keeps | apply State.gusFrames_keeps | apply State.linkAcked_keeps
    | apply State.putGusset_keeps | apply State.resendFrom_keeps | split | refine .next ?_ | dsimp only
    | apply Keeps.upd

theorem execGussetLinkAck_answers (seq : Nat) (s : State) : Answers s (execGussetLinkAck seq s) := by
  unfold execGussetLinkAck
  with_reducible repeat' first | exact .refl _ | assumption | apply State.linkAcked_keeps | split | refine .next ?_

theorem execGussetAckTimer_answers (s : State) : Answers s (execGussetAckTimer s) := by
  unfold execGussetAckTimer
  with_reducible repeat' first
    | exact .refl _ | assumption | apply State.at_keeps | apply State.putGusset_keeps | split | refine .next ?_
    | dsimp only | apply Keeps.upd

theorem execGussetRetransmitTimer_answers (s : State) : Answers s (execGussetRetransmitTimer s) := by
  unfold execGussetRetransmitTimer
  with_reducible repeat' first
    | exact .refl _ | assumption | apply State.at_keeps | apply State.gusRetrain_keeps | apply State.resendFrom_keeps
    | split | refine .next ?_

theorem execRecordMirror_answers (id : Nat) (head : MirrorHead) (bytes : Bytes) (s : State) : Answers s
    (execRecordMirror id head bytes s) := by
  unfold execRecordMirror
  with_reducible repeat' first
    | exact .refl _ | assumption | apply State.modCopy_keeps | (apply State.onStandby_keeps; intro _ _ _)
    | apply State.setDirty_keeps | split | refine .next ?_

theorem execWriteNotice_answers (head : MirrorHead) (s : State) : Answers s (execWriteNotice head s) := by
  unfold execWriteNotice
  with_reducible repeat' first
    | exact .refl _ | assumption | apply State.modBed_keeps | apply State.modCopy_keeps
    | (apply State.onStandby_keeps; intro _ _ _) | split | refine .next ?_

theorem execWindowMirror_answers (b index offset key : Nat) (bytes : Bytes) (s : State) : Answers s (execWindowMirror
    b index offset key bytes s) := by
  unfold execWindowMirror
  with_reducible repeat' first
    | exact .refl _ | assumption | apply State.modCopy_keeps | (apply State.onStandby_keeps; intro _ _ _) | split
    | refine .next ?_

theorem execTransportNotice_answers (b : Nat) (n : Notice) (s : State) : Answers s (execTransportNotice b n s) := by
  unfold execTransportNotice
  with_reducible repeat' first
    | exact .refl _ | assumption | apply State.modCopy_keeps | (apply State.onStandby_keeps; intro _ _ _) | split
    | refine .next ?_

theorem execFoldNotice_answers (b id fold : Nat) (s : State) : Answers s (execFoldNotice b id fold s) := by
  unfold execFoldNotice
  with_reducible repeat' first
    | exact .refl _ | assumption | apply State.modBed_keeps | (apply State.onStandby_keeps; intro _ _ _)
    | apply State.setBed_keeps | split | refine .next ?_

theorem execTickEnd_answers (s : State) : Answers s (execTickEnd s) := by
  unfold execTickEnd
  with_reducible repeat' first
    | exact .refl _ | assumption | apply State.applyRwls_keeps | apply State.at_keeps | apply State.gusSend_keeps
    | apply State.putTickStates_keeps | apply State.qpChanges_keeps | apply State.setFld_keeps
    | apply State.trimCache_keeps | split | refine .next ?_ | (apply Keeps.foldl; intro _ _ _) | dsimp only
    | apply Keeps.upd

theorem execTickDelta_answers (b tick : Nat) (entries : List DeltaEntry) (s : State) : Answers s (execTickDelta b tick
    entries s) := by
  unfold execTickDelta
  with_reducible repeat' first
    | exact .refl _ | assumption | apply State.applyEntry_keeps | apply State.gusSend_keeps
    | apply State.modCopy_keeps | (apply State.onStandby_keeps; intro _ _ _) | split | refine .next ?_
    | (apply Keeps.foldl; intro _ _ _) | dsimp only | apply Keeps.upd

theorem execTickAcknowledgement_answers (b tick : Nat) (s : State) : Answers s (execTickAcknowledgement b tick s) :=
    by
  unfold execTickAcknowledgement
  with_reducible repeat' first
    | exact .refl _ | assumption | apply State.ackAll_keeps | apply State.handOver_keeps | apply State.noteAck_keeps
    | apply State.releaseAll_keeps | split | refine .next ?_

theorem execTickAckTimeout_answers (s : State) : Answers s (execTickAckTimeout s) := by
  unfold execTickAckTimeout
  with_reducible repeat' first
    | exact .refl _ | assumption | apply State.askDetach_keeps | apply State.at_keeps | apply State.bump_keeps
    | apply State.gusEvent_keeps | split | refine .next ?_

theorem execDetachDone_answers (mask : Nat) (s : State) : Answers s (execDetachDone mask s) := by
  unfold execDetachDone
  with_reducible repeat' first | exact .refl _ | assumption | apply State.detachDone_keeps | split | refine .next ?_

theorem execDetachRequest_answers (msgId mask : Nat) (s : State) : Answers s (execDetachRequest msgId mask s) := by
  unfold execDetachRequest
  with_reducible repeat' first
    | exact .refl _ | assumption | apply State.detachStandby_keeps | apply State.gusAnswer_keeps
    | apply State.rejoin_keeps | split | refine .next ?_ | (apply Keeps.foldl; intro _ _ _)

theorem execKeyCheck_answers (kcv : Bytes) (keyState : Nat) (found : List BedGeom) (s : State) : Answers s
    (execKeyCheck kcv keyState found s) := by
  unfold execKeyCheck
  with_reducible repeat' first
    | exact .refl _ | assumption | apply State.keyNote_keeps | apply State.keysApart_keeps
    | apply State.startJoin_keeps | split | refine .next ?_ | (apply Keeps.foldl; intro _ _ _) | dsimp only
    | apply Keeps.upd

theorem execPairing_answers (msgId sender : Nat) (iv wrapped tag kcv : Bytes) (s : State) : Answers s (execPairing
    msgId sender iv wrapped tag kcv s) := by
  unfold execPairing
  with_reducible repeat' first
    | exact .refl _ | assumption | apply State.gusAnswer_keeps | apply State.installKey_keeps
    | apply State.keyNote_keeps | split | refine .next ?_ | dsimp only | apply Keeps.upd

theorem execPairingDone_answers (result : Nat) (s : State) : Answers s (execPairingDone result s) := by
  unfold execPairingDone
  with_reducible repeat' first
    | exact .refl _ | assumption | apply State.keyNote_keeps | split | refine .next ?_ | dsimp only | apply Keeps.upd

theorem execJoinRequest_answers (b msgId serial : Nat) (kcv : Bytes) (s : State) : Answers s (execJoinRequest b msgId
    serial kcv s) := by
  unfold execJoinRequest
  with_reducible repeat' first
    | exact .refl _ | assumption | apply State.gusAnswer_keeps | apply State.gusPiece_keeps
    | apply State.joinDelta_keeps | apply State.mirrorStaged_keeps | apply State.setBed_keeps
    | refine .ite (fun _ => ?_) (fun _ => ?_) | refine .next ?_ | (apply Keeps.foldl; intro _ _ _) | split

theorem execJoinData_answers (b : Nat) (piece : JoinPiece) (s : State) : Answers s (execJoinData b piece s) := by
  unfold execJoinData
  with_reducible repeat' first
    | exact .refl _ | assumption | apply State.applyEntry_keeps | apply State.modBed_keeps
    | (apply State.onStandby_keeps; intro _ _ _) | apply State.putAcc_keeps | apply State.setDirty_keeps | split
    | refine .next ?_ | (apply Keeps.foldl; intro _ _ _)

theorem execJoinDone_answers (b msgId tick fold : Nat) (s : State) : Answers s (execJoinDone b msgId tick fold s) :=
    by
  unfold execJoinDone
  with_reducible repeat' first
    | exact .refl _ | assumption | apply State.gusAnswer_keeps | apply State.setBed_keeps
    | apply State.shelfNote_keeps | split | refine .next ?_ | dsimp only | apply Keeps.upd

theorem execJoinAck_answers (b : Nat) (s : State) : Answers s (execJoinAck b s) := by
  unfold execJoinAck
  with_reducible repeat' first
    | exact .refl _ | assumption | apply State.setBed_keeps | apply State.shelfNote_keeps | split | refine .next ?_
    | dsimp only | apply Keeps.upd

theorem execAccRequest_answers (b : Nat) (ask : AccAsk) (s : State) : Answers s (execAccRequest b ask s) := by
  unfold execAccRequest
  with_reducible repeat' first | exact .refl _ | assumption | apply State.gusSend_keeps | split | refine .next ?_

theorem execAccData_answers (b band fold : Nat) (sectors : List (Nat × Bytes × Bytes)) (s : State) : Answers s
    (execAccData b band fold sectors s) := by
  unfold execAccData
  with_reducible repeat' first
    | exact .refl _ | assumption | (apply State.onStandby_keeps; intro _ _ _) | apply State.putAcc_keeps | split
    | refine .next ?_

theorem execSlotRequest_answers (raises drops : Nat) (s : State) : Answers s (execSlotRequest raises drops s) := by
  unfold execSlotRequest
  with_reducible repeat' first
    | exact .refl _ | assumption | apply State.dropReq_keeps | apply State.raiseReq_keeps | split | refine .next ?_
    | (apply Keeps.foldl; intro _ _ _)

/-! ### PeerCmds.lean -/

theorem execHeartbeatSend_answers (s : State) : Answers s (execHeartbeatSend s) := by
  unfold execHeartbeatSend
  with_reducible repeat' first
    | exact .refl _ | assumption | apply State.at_keeps | apply State.sendWord_keeps | split | refine .next ?_
    | dsimp only | apply Keeps.upd

theorem execHeartbeatWord_answers (path : Nat) (w : HbWord) (s : State) : Answers s (execHeartbeatWord path w s) := by
  unfold execHeartbeatWord
  with_reducible repeat' first
    | exact .refl _ | assumption | apply State.askJoins_keeps | apply State.declare_keeps
    | apply State.noteConflict_keeps | apply State.takeWord_keeps | split | refine .next ?_ | dsimp only
    | apply Keeps.upd

theorem execHeartbeatMissTick_answers (s : State) : Answers s (execHeartbeatMissTick s) := by
  unfold execHeartbeatMissTick
  with_reducible repeat' first
    | exact .refl _ | assumption | apply State.at_keeps | apply State.bump_keeps | apply State.declare_keeps | split
    | refine .next ?_ | dsimp only | apply Keeps.upd

theorem execSelfFence_answers (s : State) : Answers s (execSelfFence s) := by
  unfold execSelfFence
  with_reducible repeat' first
    | exact .refl _ | assumption | apply State.at_keeps | apply State.modBed_keeps | apply State.selfFenceBed_keeps
    | split | refine .next ?_ | (apply Keeps.foldl; intro _ _ _)

theorem execTakeoverStart_answers (info : PeerInfo) (mounts : List MountAnswer) (s : State) : Answers s
    (execTakeoverStart info mounts s) := by
  unfold execTakeoverStart
  with_reducible repeat' first
    | exact .refl _ | assumption | apply State.at_keeps | apply State.modBed_keeps | apply State.mountBed_keeps
    | apply State.setBed_keeps | apply State.setDirty_keeps | apply State.takeAddrs_keeps
    | apply State.takeJoined_keeps | split | refine .next ?_ | (apply Keeps.foldl; intro _ _ _) | dsimp only
    | apply Keeps.upd

theorem execAddressAnnounce_answers (s : State) : Answers s (execAddressAnnounce s) := by
  unfold execAddressAnnounce
  with_reducible repeat' first
    | exact .refl _ | assumption | apply State.announceTaken_keeps | apply State.at_keeps
    | apply State.probeAll_keeps | split | refine .next ?_ | dsimp only | apply Keeps.upd

theorem execTakeoverPreempt_answers (b : Nat) (s : State) : Answers s (execTakeoverPreempt b s) := by
  unfold execTakeoverPreempt
  with_reducible repeat' first
    | exact .refl _ | assumption | apply State.at_keeps | apply State.preemptBed_keeps
    | apply State.rewriteInFlight_keeps | split | refine .next ?_

theorem execReclaimCheck_answers (b : Nat) (keyThere : Bool) (s : State) : Answers s (execReclaimCheck b keyThere s)
    := by
  unfold execReclaimCheck
  with_reducible repeat' first
    | exact .refl _ | assumption | apply State.at_keeps | apply State.driveCmd_keeps | apply State.fencedOut_keeps
    | apply State.ledSync_keeps | apply State.modBed_keeps | apply State.preemptBed_keeps
    | apply State.putOwnAddrs_keeps | apply State.resumeBed_keeps | split | refine .next ?_

theorem execStandbySelfTest_answers (passed : Bool) (s : State) : Answers s (execStandbySelfTest passed s) := by
  unfold execStandbySelfTest
  with_reducible repeat' first
    | exact .refl _ | assumption | apply State.actEnd_keeps | refine State.arrivalOf_keepsE (by assumption) ?_
    | apply State.arrivalOf_keeps | apply State.katRound_keeps | apply State.setActs_keeps
    | apply State.testReads_keeps | refine .ite (fun _ => ?_) (fun _ => ?_) | refine .next ?_ | split | dsimp only
    | apply Keeps.upd

theorem execHandover_answers (b msgId tick : Nat) (info : PeerInfo) (s : State) : Answers s (execHandover b msgId tick
    info s) := by
  unfold execHandover
  with_reducible repeat' first
    | exact .refl _ | assumption | apply State.addLaddr_keeps | apply State.announceTaken_keeps
    | apply State.gusAnswer_keeps | apply State.preemptBed_keeps | apply State.probeAll_keeps
    | apply State.rewriteInFlight_keeps | apply State.shelfNote_keeps | apply State.takeJoined_keeps | split
    | refine .next ?_ | (apply Keeps.foldl; intro _ _ _) | dsimp only | apply Keeps.upd

theorem execHandoverAck_answers (b : Nat) (s : State) : Answers s (execHandoverAck b s) := by
  unfold execHandoverAck
  with_reducible repeat' first
    | exact .refl _ | assumption | apply State.endAssoc_keeps | apply State.fencedOut_keeps
    | apply State.ledSync_keeps | apply State.modBed_keeps | apply State.shelfNote_keeps
    | apply State.startJoin_keeps | split | refine .next ?_ | (apply Keeps.foldl; intro _ _ _)

/-! ### RackCmds.lean -/

theorem execClaim_answers (h : RackHead) (expiry : Nat) (s : State) : Answers s (execClaim h expiry s) := by
  unfold execClaim
  with_reducible repeat' first
    | exact .refl _ | assumption | apply State.bump_keeps | refine State.rackIn_keepsE (by assumption) ?_
    | apply State.rackIn_keeps | apply State.rackSend_keeps | apply State.takeEpoch_keeps
    | apply State.waitFrame_keeps | split | refine .next ?_ | dsimp only | apply Keeps.upd

theorem execAccept_answers (h : RackHead) (candidate : Nat) (s : State) : Answers s (execAccept h candidate s) := by
  unfold execAccept
  with_reducible repeat' first
    | exact .refl _ | assumption | refine State.rackIn_keepsE (by assumption) ?_ | apply State.rackIn_keeps
    | apply State.waitFrame_keeps | split | refine .next ?_ | dsimp only | apply Keeps.upd

theorem execRefuse_answers (h : RackHead) (candidate reason highest : Nat) (s : State) : Answers s (execRefuse h
    candidate reason highest s) := by
  unfold execRefuse
  with_reducible repeat' first
    | exact .refl _ | assumption | refine State.rackIn_keepsE (by assumption) ?_ | apply State.rackIn_keeps
    | apply State.waitFrame_keeps | split | refine .next ?_

theorem execRenew_answers (h : RackHead) (expiry planGen : Nat) (s : State) : Answers s (execRenew h expiry planGen s)
    := by
  unfold execRenew
  with_reducible repeat' first
    | exact .refl _ | assumption | refine State.rackIn_keepsE (by assumption) ?_ | apply State.rackIn_keeps
    | apply State.sendStatus_keeps | apply State.waitFrame_keeps | split | refine .next ?_ | dsimp only
    | apply Keeps.upd

theorem execRelease_answers (h : RackHead) (s : State) : Answers s (execRelease h s) := by
  unfold execRelease
  with_reducible repeat' first
    | exact .refl _ | assumption | refine State.rackIn_keepsE (by assumption) ?_ | apply State.rackIn_keeps
    | apply State.waitFrame_keeps | split | refine .next ?_ | dsimp only | apply Keeps.upd

theorem execClaimTimer_answers (s : State) : Answers s (execClaimTimer s) := by
  unfold execClaimTimer
  with_reducible repeat' first
    | exact .refl _ | assumption | apply State.at_keeps | apply State.claim_keeps | apply State.drawn_keeps | split
    | refine .next ?_ | dsimp only | apply Keeps.upd

theorem execClaimCountEnd_answers (s : State) : Answers s (execClaimCountEnd s) := by
  unfold execClaimCountEnd
  with_reducible repeat' first
    | exact .refl _ | assumption | apply State.at_keeps | apply State.drawn_keeps | apply State.renew_keeps | split
    | refine .next ?_ | dsimp only | apply Keeps.upd

theorem execRenewTimer_answers (s : State) : Answers s (execRenewTimer s) := by
  unfold execRenewTimer
  with_reducible repeat' first
    | exact .refl _ | assumption | apply State.at_keeps | apply State.renew_keeps | split | refine .next ?_

theorem execRenewConfirmEnd_answers (s : State) : Answers s (execRenewConfirmEnd s) := by
  unfold execRenewConfirmEnd
  with_reducible repeat' first
    | exact .refl _ | assumption | apply State.at_keeps | apply State.bump_keeps | apply State.evalPlan_keeps | split
    | refine .next ?_ | dsimp only | apply Keeps.upd

theorem execLeaseOrderLimit_answers (s : State) : Answers s (execLeaseOrderLimit s) := by
  unfold execLeaseOrderLimit
  with_reducible repeat' first
    | exact .refl _ | assumption | apply State.at_keeps | apply State.rackStop_keeps | split | refine .next ?_

theorem execStatus_answers (h : RackHead) (b : StatusBody) (s : State) : Answers s (execStatus h b s) := by
  unfold execStatus
  with_reducible repeat' first
    | exact .refl _ | assumption | apply State.bump_keeps | refine State.rackIn_keepsE (by assumption) ?_
    | apply State.rackIn_keeps | apply State.waitFrame_keeps | split | refine .next ?_ | dsimp only | apply Keeps.upd

theorem execWake_answers (h : RackHead) (reason parked oldest : Nat) (s : State) : Answers s (execWake h reason parked
    oldest s) := by
  unfold execWake
  with_reducible repeat' first
    | exact .refl _ | assumption | apply State.evalPlan_keeps | refine State.rackIn_keepsE (by assumption) ?_
    | apply State.rackIn_keeps | apply State.waitFrame_keeps | split | refine .next ?_ | dsimp only | apply Keeps.upd

theorem execOrder_answers (h : RackHead) (id target : Nat) (flag0 : Bool) (planGen : Nat) (s : State) : Answers s
    (execOrder h id target flag0 planGen s) := by
  unfold execOrder
  with_reducible repeat' first
    | exact .refl _ | assumption | apply State.orderIn_keeps | refine State.rackIn_keepsE (by assumption) ?_
    | apply State.rackIn_keeps | apply State.refuseOrder_keeps | apply State.waitFrame_keeps
    | refine .ite (fun _ => ?_) (fun _ => ?_) | refine .next ?_

theorem execDone_answers (h : RackHead) (id result state : Nat) (s : State) : Answers s (execDone h id result state s)
    := by
  unfold execDone
  with_reducible repeat' first
    | exact .refl _ | assumption | apply State.doneIn_keeps | apply State.evalPlan_keeps
    | refine State.rackIn_keepsE (by assumption) ?_ | apply State.rackIn_keeps | apply State.waitFrame_keeps | split
    | refine .next ?_

theorem execOrderRepeat_answers (i : Nat) (s : State) : Answers s (execOrderRepeat i s) := by
  unfold execOrderRepeat
  with_reducible repeat' first
    | exact .refl _ | assumption | apply State.at_keeps | apply State.rackSend_keeps
    | refine .ite (fun _ => ?_) (fun _ => ?_) | refine .next ?_ | split

theorem execOrderTimeout_answers (i : Nat) (s : State) : Answers s (execOrderTimeout i s) := by
  unfold execOrderTimeout
  with_reducible repeat' first
    | exact .refl _ | assumption | apply State.at_keeps | apply State.raise_keeps | split | refine .next ?_
    | dsimp only | apply Keeps.upd

theorem execStateChangeComplete_answers (found : List BedGeom) (mounts : List MountAnswer) (info : PeerInfo) (s :
    State) : Answers s (execStateChangeComplete found mounts info s) := by
  unfold execStateChangeComplete
  with_reducible repeat' first
    | exact .refl _ | assumption | apply State.endMove_keeps | apply State.orderDone_keeps
    | refine State.stepDown_keepsE (by assumption) ?_ | apply State.stepDown_keeps | split | refine .next ?_
    | dsimp only | apply Keeps.upd

/-! ### EptCmds.lean -/

theorem execPepPerstEdge_answers (high : Bool) (s : State) : Answers s (execPepPerstEdge high s) := by
  unfold execPepPerstEdge
  with_reducible repeat' first
    | exact .refl _ | assumption | apply State.eptDown_keeps | apply State.syncDomains_keeps | split
    | refine .next ?_ | dsimp only | apply Keeps.upd

theorem execEndpointLinkUp_answers (speed width : Nat) (s : State) : Answers s (execEndpointLinkUp speed width s) :=
    by
  unfold execEndpointLinkUp
  with_reducible repeat' first
    | exact .refl _ | assumption | apply State.drawn_keeps | split | refine .next ?_ | dsimp only | apply Keeps.upd

theorem execEndpointLinkDown_answers (s : State) : Answers s (execEndpointLinkDown s) := by
  unfold execEndpointLinkDown
  with_reducible repeat' first
    | exact .refl _ | assumption | apply State.bump_keeps | apply State.eptDown_keeps | apply State.raise_keeps
    | split | refine .next ?_ | dsimp only | apply Keeps.upd

theorem execHotReset_answers (s : State) : Answers s (execHotReset s) := by
  unfold execHotReset
  with_reducible repeat' first | exact .refl _ | assumption | apply State.eptReset_keeps | split | refine .next ?_

theorem execFunctionLevelReset_answers (fn : Nat) (s : State) : Answers s (execFunctionLevelReset fn s) := by
  unfold execFunctionLevelReset
  with_reducible repeat' first | exact .refl _ | assumption | apply State.flr_keeps | split | refine .next ?_

theorem execControllerReset_answers (s : State) : Answers s (execControllerReset s) := by
  unfold execControllerReset
  with_reducible repeat' first
    | exact .refl _ | assumption | apply State.fn0Dropped_keeps | apply State.fn0Reset_keeps | split
    | refine .next ?_

theorem execControllerEnable_answers (sqSize cqSize : Nat) (s : State) : Answers s (execControllerEnable sqSize cqSize
    s) := by
  unfold execControllerEnable
  with_reducible repeat' first
    | exact .refl _ | assumption | apply State.addQueue_keeps | apply State.detachOthers_keeps
    | apply State.fn0Dropped_keeps | split | refine .next ?_ | dsimp only | apply Keeps.upd

theorem execConfigRequest_answers (r : CfgReq) (s : State) : Answers s (execConfigRequest r s) := by
  unfold execConfigRequest
  with_reducible repeat' first
    | exact .refl _ | assumption | apply State.cfgEffect_keeps | apply State.cfgWrite_keeps | apply State.emit_keeps
    | apply State.flr_keeps | split | refine .next ?_

theorem execDoorbellWrite_answers (qid : Nat) (isCq : Bool) (value : Nat) (s : State) : Answers s (execDoorbellWrite
    qid isCq value s) := by
  unfold execDoorbellWrite
  with_reducible repeat' first
    | exact .refl _ | assumption | apply State.eptFetch_keeps | apply State.fn0Dropped_keeps
    | apply State.releaseAll_keeps | split | refine .next ?_ | (apply Keeps.foldl; intro _ _ _) | dsimp only
    | apply Keeps.upd

theorem execEndpointCompletionArrive_answers (tag completer : Nat) (poisoned : Bool) (s : State) : Answers s
    (execEndpointCompletionArrive tag completer poisoned s) := by
  unfold execEndpointCompletionArrive
  with_reducible repeat' first
    | exact .refl _ | assumption | apply State.advance_keeps | apply State.aerSet_keeps | apply State.bump_keeps
    | apply State.eptPump_keeps | apply State.eptTimedOut_keeps | apply State.raise_keeps | apply State.setFld_keeps
    | split | refine .next ?_ | dsimp only | apply Keeps.upd

theorem execEndpointCompletionTimeout_answers (tag : Nat) (s : State) : Answers s (execEndpointCompletionTimeout tag
    s) := by
  unfold execEndpointCompletionTimeout
  with_reducible repeat' first
    | exact .refl _ | assumption | apply State.at_keeps | apply State.eptTimedOut_keeps | split | refine .next ?_

theorem execTagQuarantineExpiry_answers (tag : Nat) (s : State) : Answers s (execTagQuarantineExpiry tag s) := by
  unfold execTagQuarantineExpiry
  with_reducible repeat' first
    | exact .refl _ | assumption | apply State.at_keeps | apply State.eptPump_keeps | split | refine .next ?_
    | dsimp only | apply Keeps.upd

theorem execBar2Request_answers (r : Bar2Req) (s : State) : Answers s (execBar2Request r s) := by
  unfold execBar2Request
  with_reducible repeat' first
    | exact .refl _ | assumption | apply State.aerSet_keeps | apply State.bar2Refuse_keeps | apply State.bump_keeps
    | apply State.emit_keeps | split | refine .next ?_ | dsimp only | apply Keeps.upd

theorem execPwinEnableWrite_answers (w : Nat) (en : Bool) (s : State) : Answers s (execPwinEnableWrite w en s) := by
  unfold execPwinEnableWrite
  with_reducible repeat' first | exact .refl _ | assumption | apply State.pwinEnable_keeps | split | refine .next ?_

theorem execPwinMapWrite_answers (w : Nat) (rdonly : Bool) (offset : Nat) (s : State) : Answers s (execPwinMapWrite w
    rdonly offset s) := by
  unfold execPwinMapWrite
  with_reducible repeat' first
    | exact .refl _ | assumption | refine State.pwinMap_keepsE (by assumption) ?_ | apply State.pwinMap_keeps | split
    | refine .next ?_

/-! ### RegAccess.lean -/

theorem execRegisterWrite_answers (path : AccessPath) (addr be : Nat) (value : Word) (s : State) : Answers s
    (execRegisterWrite path addr be value s) := by
  unfold execRegisterWrite
  with_reducible repeat' first
    | exact .refl _ | assumption | apply State.aerSet_keeps | apply State.busWrite_keeps | split | refine .next ?_

theorem execReadClearAccess_answers (path : AccessPath) (addr be : Nat) (s : State) : Answers s (execReadClearAccess
    path addr be s) := by
  unfold execReadClearAccess
  with_reducible repeat' first | exact .refl _ | assumption | apply State.busRead_keeps | split | refine .next ?_

theorem execLoReadLatch_answers (path : AccessPath) (addr : Nat) (s : State) : Answers s (execLoReadLatch path addr s)
    := by
  unfold execLoReadLatch
  with_reducible repeat' first | exact .refl _ | assumption | apply State.busRead_keeps | split | refine .next ?_

/-! ### SvcCmds.lean -/

theorem execHello_answers (client : Bytes) (request : Nat) (tagOk bodyOk : Bool) (s : State) : Answers s (execHello
    client request tagOk bodyOk s) := by
  unfold execHello
  with_reducible repeat' first
    | exact .refl _ | assumption | apply State.badTag_keeps | apply State.note_keeps | apply State.svcSend_keeps
    | split | refine .next ?_ | dsimp only | apply Keeps.upd

theorem execIdentifyMessage_answers (request : Nat) (bodyOk : Bool) (s : State) : Answers s (execIdentifyMessage
    request bodyOk s) := by
  unfold execIdentifyMessage
  with_reducible repeat' first | exact .refl _ | assumption | apply State.svcSend_keeps | split | refine .next ?_

theorem execServiceSessionTimeout_answers (session : Nat) (s : State) : Answers s (execServiceSessionTimeout session
    s) := by
  unfold execServiceSessionTimeout
  with_reducible repeat' first
    | exact .refl _ | assumption | apply State.at_keeps | apply State.endSession_keeps | split | refine .next ?_

theorem execRegRead_answers (head : SvcHead) (addr count : Nat) (s : State) : Answers s (execRegRead head addr count
    s) := by
  unfold execRegRead
  with_reducible repeat' first
    | exact .refl _ | assumption | apply State.respond_keeps | (apply State.svc_keeps; intro _ _)
    | refine readDwords_keepsE (by assumption) ?_ | apply readDwords_keeps | split | refine .next ?_

theorem execRegWrite_answers (head : SvcHead) (addr : Nat) (value : Word) (s : State) : Answers s (execRegWrite head
    addr value s) := by
  unfold execRegWrite
  with_reducible repeat' first
    | exact .refl _ | assumption | apply RegWr.refuse_keeps | apply State.busWrite_keeps | apply State.refuse_keeps
    | refine State.regRead_keepsE (by assumption) ?_ | apply State.regRead_keeps | apply State.respond_keeps
    | (apply State.svc_keeps; intro _ _) | refine .ite (fun _ => ?_) (fun _ => ?_) | refine .next ?_ | split

theorem execServiceResetCore_answers (head : SvcHead) (s : State) : Answers s (execServiceResetCore head s) := by
  unfold execServiceResetCore
  with_reducible repeat' first
    | exact .refl _ | assumption | apply State.resetAssert_keeps | apply State.respond_keeps
    | (apply State.svc_keeps; intro _ _) | split | refine .next ?_

theorem execServiceResetSystem_answers (head : SvcHead) (s : State) : Answers s (execServiceResetSystem head s) := by
  unfold execServiceResetSystem
  with_reducible repeat' first
    | exact .refl _ | assumption | apply State.resetAssert_keeps | apply State.respond_keeps
    | (apply State.svc_keeps; intro _ _) | split | refine .next ?_

theorem execCfgCommit_answers (head : SvcHead) (s : State) : Answers s (execCfgCommit head s) := by
  unfold execCfgCommit
  with_reducible repeat' first
    | exact .refl _ | assumption | refine State.cfgCommit_keeps (by assumption) ?_ | apply State.respond_keeps
    | (apply State.svc_keeps; intro _ _) | split | refine .next ?_

theorem execCfgRecordRead_answers (head : SvcHead) (field offset len : Nat) (s : State) : Answers s (execCfgRecordRead
    head field offset len s) := by
  unfold execCfgRecordRead
  with_reducible repeat' first
    | exact .refl _ | assumption | apply State.drawn_keeps | apply State.respond_keeps
    | (apply State.svc_keeps; intro _ _) | split | refine .next ?_

theorem execCfgRecordWrite_answers (head : SvcHead) (field offset : Nat) (piece : Bytes) (last : Bool) (addrs : List
    Nat) (table : List RackEntry) (budget allow : Word) (s : State) : Answers s (execCfgRecordWrite head field offset
    piece last addrs table budget allow s) := by
  unfold execCfgRecordWrite
  with_reducible repeat' first
    | exact .refl _ | assumption | refine State.commitData_keeps (by assumption) ?_ | apply State.putBudgets_keeps
    | apply State.putOwnAddrs_keeps | apply State.respond_keeps | apply State.sendOwed_keeps
    | (apply State.svc_keeps; intro _ _) | split | refine .next ?_ | dsimp only | apply Keeps.upd

theorem execTimeSet_answers (head : SvcHead) (ns : Nat) (s : State) : Answers s (execTimeSet head ns s) := by
  unfold execTimeSet
  with_reducible repeat' first
    | exact .refl _ | assumption | apply State.respond_keeps | (apply State.svc_keeps; intro _ _) | split
    | refine .next ?_ | dsimp only | apply Keeps.upd

theorem execReadRing_answers (head : SvcHead) (ring first count : Nat) (s : State) : Answers s (execReadRing head ring
    first count s) := by
  unfold execReadRing
  with_reducible repeat' first
    | exact .refl _ | assumption | apply State.respond_keeps | (apply State.svc_keeps; intro _ _) | split
    | refine .next ?_ | dsimp only | apply Keeps.upd

theorem execBbxFormat_answers (head : SvcHead) (confirm : Nat) (s : State) : Answers s (execBbxFormat head confirm s)
    := by
  unfold execBbxFormat
  with_reducible repeat' first
    | exact .refl _ | assumption | apply State.respond_keeps | (apply State.svc_keeps; intro _ _)
    | refine Keeps.updMram (fun hw => Mem.wf_writeN _ _ _ (Mem.wf_zero _ _ _ hw)) ?_ | split | refine .next ?_

theorem execUartConfirmation_answers (codeOk : Bool) (s : State) : Answers s (execUartConfirmation codeOk s) := by
  unfold execUartConfirmation
  with_reducible repeat' first | exact .refl _ | assumption | split | refine .next ?_ | dsimp only | apply Keeps.upd

theorem execServiceKeyFirstInstall_answers (key : Bytes) (request : Nat) (codeOk tagOk bodyOk : Bool) (s : State) :
    Answers s (execServiceKeyFirstInstall key request codeOk tagOk bodyOk s) := by
  unfold execServiceKeyFirstInstall
  with_reducible repeat' first
    | exact .refl _ | assumption | apply State.badTag_keeps | refine State.commitData_keeps (by assumption) ?_
    | apply State.note_keeps | apply State.svcSend_keeps | split | refine .next ?_ | dsimp only | apply Keeps.upd

theorem execServiceKeyReplace_answers (head : SvcHead) (key : Bytes) (s : State) : Answers s (execServiceKeyReplace
    head key s) := by
  unfold execServiceKeyReplace
  with_reducible repeat' first
    | exact .refl _ | assumption | refine State.commitData_keeps (by assumption) ?_ | apply State.respond_keeps
    | (apply State.svc_keeps; intro _ _) | apply State.svcSend_keeps | split | refine .next ?_ | dsimp only
    | apply Keeps.upd

/-! ### ImgCmds.lean -/

theorem execImageBegin_answers (head : SvcHead) (length : Nat) (s : State) : Answers s (execImageBegin head length s)
    := by
  unfold execImageBegin
  with_reducible repeat' first
    | exact .refl _ | assumption | apply State.respond_keeps | (apply State.svc_keeps; intro _ _) | split
    | refine .next ?_ | dsimp only | apply Keeps.upd

theorem execImageEnd_answers (head : SvcHead) (s : State) : Answers s (execImageEnd head s) := by
  unfold execImageEnd
  with_reducible repeat' first
    | exact .refl _ | assumption | apply State.respond_keeps | (apply State.svc_keeps; intro _ _) | split
    | refine .next ?_ | dsimp only | apply Keeps.upd

theorem execActivate_answers (head : SvcHead) (target : Nat) (s : State) : Answers s (execActivate head target s) :=
    by
  unfold execActivate
  with_reducible repeat' first
    | exact .refl _ | assumption | apply State.actBegin_keeps | refine State.arrivalOf_keepsE (by assumption) ?_
    | apply State.arrivalOf_keeps | apply State.respond_keeps | apply State.setFld_keeps
    | (apply State.svc_keeps; intro _ _) | split | refine .next ?_ | dsimp only | apply Keeps.upd

theorem execActivationHealthEnd_answers (passed previousOk : Bool) (s : State) : Answers s (execActivationHealthEnd
    passed previousOk s) := by
  unfold execActivationHealthEnd
  with_reducible repeat' first
    | exact .refl _ | assumption | apply State.actBegin_keeps | apply State.at_keeps | apply State.raise_keeps
    | apply State.setFld_keeps | apply State.wantPause_keeps | split | refine .next ?_ | dsimp only | apply Keeps.upd

/-! ### BedSvc.lean -/

theorem execBedCreate_answers (head : SvcHead) (c : BedCreate) (s : State) : Answers s (execBedCreate head c s) := by
  unfold execBedCreate
  with_reducible repeat' first
    | exact .refl _ | assumption | apply State.bedEvent_keeps | refine State.commitData_keeps (by assumption) ?_
    | apply State.driveCmd_keeps | apply State.fixFill_keeps | apply State.putSuper_keeps
    | apply State.reserveBed_keeps | apply State.respond_keeps | apply State.setBed_keeps
    | (apply State.svc_keeps; intro _ _) | apply State.syncDomains_keeps | apply State.writeDesc_keeps
    | refine Keeps.updMram (Mem.wf_zero _ _ _) ?_ | refine .ite (fun _ => ?_) (fun _ => ?_) | refine .next ?_
    | (apply Keeps.foldl; intro _ _ _) | split

theorem execBedDelete_answers (head : SvcHead) (b : Nat) (s : State) : Answers s (execBedDelete head b s) := by
  unfold execBedDelete
  with_reducible repeat' first
    | exact .refl _ | assumption | refine State.commitData_keeps (by assumption) ?_ | apply State.dropReq_keeps
    | apply State.ledSync_keeps | apply State.respond_keeps | apply State.setActs_keeps
    | (apply State.svc_keeps; intro _ _) | apply State.syncDomains_keeps
    | refine Keeps.updMram (Mem.wf_zero _ _ _) ?_ | split | refine .next ?_ | (apply Keeps.foldl; intro _ _ _)

theorem execBedAdmitMember_answers (head : SvcHead) (b m slot : Nat) (s : State) : Answers s (execBedAdmitMember head
    b m slot s) := by
  unfold execBedAdmitMember
  with_reducible repeat' first
    | exact .refl _ | assumption | refine State.admitDrive_keepsE (by assumption) ?_ | apply State.admitDrive_keeps
    | apply State.bedEvent_keeps | apply State.respond_keeps | (apply State.svc_keeps; intro _ _)
    | refine .ite (fun _ => ?_) (fun _ => ?_) | refine .next ?_ | split

theorem execBedReadmitReadOnly_answers (head : SvcHead) (b : Nat) (s : State) : Answers s (execBedReadmitReadOnly head
    b s) := by
  unfold execBedReadmitReadOnly
  with_reducible repeat' first
    | exact .refl _ | assumption | apply State.bedState_keeps | apply State.respond_keeps
    | apply State.resumeRebuild_keeps | (apply State.svc_keeps; intro _ _) | split | refine .next ?_

theorem execBedRebuildIndex_answers (head : SvcHead) (b : Nat) (media : List MediaRead) (s : State) : Answers s
    (execBedRebuildIndex head b media s) := by
  unfold execBedRebuildIndex
  with_reducible repeat' first
    | exact .refl _ | assumption | apply State.countReads_keeps | apply State.pinIndex_keeps
    | apply State.respond_keeps | apply State.setIndex_keeps | (apply State.svc_keeps; intro _ _)
    | apply State.walkJobs_keeps | split | refine .next ?_

theorem execBedHandover_answers (head : SvcHead) (b : Nat) (s : State) : Answers s (execBedHandover head b s) := by
  unfold execBedHandover
  with_reducible repeat' first
    | exact .refl _ | assumption | apply State.respond_keeps | (apply State.svc_keeps; intro _ _) | split
    | refine .next ?_ | dsimp only | apply Keeps.upd

theorem execEpochAdvance_answers (head : SvcHead) (nsid : Nat) (s : State) : Answers s (execEpochAdvance head nsid s)
    := by
  unfold execEpochAdvance
  with_reducible repeat' first
    | exact .refl _ | assumption | apply State.respond_keeps | refine State.setEpochs_keeps (by assumption) ?_
    | (apply State.svc_keeps; intro _ _) | split | refine .next ?_

theorem execEpochRewrap_answers (head : SvcHead) (nsid : Nat) (s : State) : Answers s (execEpochRewrap head nsid s) :=
    by
  unfold execEpochRewrap
  with_reducible repeat' first
    | exact .refl _ | assumption | refine State.arrivalOf_keepsE (by assumption) ?_ | apply State.arrivalOf_keeps
    | apply State.modBed_keeps | apply State.respond_keeps | (apply State.svc_keeps; intro _ _) | split
    | refine .next ?_

theorem execEpochRetire_answers (head : SvcHead) (nsid e blocks : Nat) (s : State) : Answers s (execEpochRetire head
    nsid e blocks s) := by
  unfold execEpochRetire
  with_reducible repeat' first
    | exact .refl _ | assumption | apply State.respond_keeps | apply State.retireAnswers_keeps
    | refine State.setEpochs_keeps (by assumption) ?_ | (apply State.svc_keeps; intro _ _) | split | refine .next ?_
    | dsimp only | apply Keeps.upd

theorem execKeyPairingSecret_answers (head : SvcHead) (secret : Bytes) (s : State) : Answers s (execKeyPairingSecret
    head secret s) := by
  unfold execKeyPairingSecret
  with_reducible repeat' first
    | exact .refl _ | assumption | apply State.keyNote_keeps | apply State.respond_keeps
    | (apply State.svc_keeps; intro _ _) | split | refine .next ?_ | dsimp only | apply Keeps.upd

theorem execPairingSecretExpiry_answers (s : State) : Answers s (execPairingSecretExpiry s) := by
  unfold execPairingSecretExpiry
  with_reducible repeat' first
    | exact .refl _ | assumption | apply State.at_keeps | split | refine .next ?_ | dsimp only | apply Keeps.upd

theorem execKeyGenerate_answers (head : SvcHead) (s : State) : Answers s (execKeyGenerate head s) := by
  unfold execKeyGenerate
  with_reducible repeat' first
    | exact .refl _ | assumption | apply State.installKey_keeps | apply State.keyNote_keeps
    | apply State.respond_keeps | (apply State.svc_keeps; intro _ _) | split | refine .next ?_ | dsimp only
    | apply Keeps.upd

theorem execKeyTransfer_answers (head : SvcHead) (receiver : Nat) (s : State) : Answers s (execKeyTransfer head
    receiver s) := by
  unfold execKeyTransfer
  with_reducible repeat' first
    | exact .refl _ | assumption | apply State.gusControl_keeps | apply State.respond_keeps
    | (apply State.svc_keeps; intro _ _) | split | refine .next ?_ | dsimp only | apply Keeps.upd

theorem execKeyEscrowSend_answers (head : SvcHead) (iv sealed tag kcv : Bytes) (s : State) : Answers s
    (execKeyEscrowSend head iv sealed tag kcv s) := by
  unfold execKeyEscrowSend
  with_reducible repeat' first
    | exact .refl _ | assumption | apply State.installKey_keeps | apply State.keyNote_keeps
    | apply State.respond_keeps | (apply State.svc_keeps; intro _ _) | split | refine .next ?_ | dsimp only
    | apply Keeps.upd

theorem execKeyZeroize_answers (head : SvcHead) (confirm : Nat) (s : State) : Answers s (execKeyZeroize head confirm
    s) := by
  unfold execKeyZeroize
  with_reducible repeat' first
    | exact .refl _ | assumption | apply State.eraseKey_keeps | apply State.keyNote_keeps | apply State.respond_keeps
    | (apply State.svc_keeps; intro _ _) | split | refine .next ?_

theorem execKeyStoreReset_answers (head : SvcHead) (confirm : Nat) (s : State) : Answers s (execKeyStoreReset head
    confirm s) := by
  unfold execKeyStoreReset
  with_reducible repeat' first
    | exact .refl _ | assumption | apply State.eraseKey_keeps | apply State.keyNote_keeps | apply State.respond_keeps
    | (apply State.svc_keeps; intro _ _) | split | refine .next ?_

/-! ### FleetSvc.lean -/

theorem execRackRecordPiece_answers (head : SvcHead) (offset : Nat) (piece : Bytes) (last : Bool) (table : List
    RackEntry) (budget allow : Word) (s : State) : Answers s (execRackRecordPiece head offset piece last table budget
    allow s) := by
  unfold execRackRecordPiece
  with_reducible repeat' first
    | exact .refl _ | assumption | refine State.commitData_keeps (by assumption) ?_ | apply State.putBudgets_keeps
    | apply State.respond_keeps | apply State.sendOwed_keeps | (apply State.svc_keeps; intro _ _) | split
    | refine .next ?_ | dsimp only | apply Keeps.upd

theorem execRackKey_answers (head : SvcHead) (key : Bytes) (s : State) : Answers s (execRackKey head key s) := by
  unfold execRackKey
  with_reducible repeat' first
    | exact .refl _ | assumption | refine State.commitData_keeps (by assumption) ?_ | apply State.respond_keeps
    | (apply State.svc_keeps; intro _ _) | split | refine .next ?_

theorem execRackRelease_answers (head : SvcHead) (s : State) : Answers s (execRackRelease head s) := by
  unfold execRackRelease
  with_reducible repeat' first
    | exact .refl _ | assumption | apply State.rackSend_keeps | apply State.rackStop_keeps
    | apply State.respond_keeps | (apply State.svc_keeps; intro _ _) | split | refine .next ?_ | dsimp only
    | apply Keeps.upd

theorem execRackWake_answers (head : SvcHead) (s : State) : Answers s (execRackWake head s) := by
  unfold execRackWake
  with_reducible repeat' first
    | exact .refl _ | assumption | apply State.respond_keeps | apply State.sendWake_keeps
    | (apply State.svc_keeps; intro _ _) | split | refine .next ?_

theorem execTenantWriteEntry_answers (head : SvcHead) (pos id : Nat) (name : Bytes) (s : State) : Answers s
    (execTenantWriteEntry head pos id name s) := by
  unfold execTenantWriteEntry
  with_reducible repeat' first
    | exact .refl _ | assumption | (apply State.putTenants_keeps; intro _ _) | apply State.respond_keeps
    | (apply State.svc_keeps; intro _ _) | split | refine .next ?_

theorem execTenantDeleteEntry_answers (head : SvcHead) (pos : Nat) (s : State) : Answers s (execTenantDeleteEntry head
    pos s) := by
  unfold execTenantDeleteEntry
  with_reducible repeat' first
    | exact .refl _ | assumption | (apply State.putTenants_keeps; intro _ _) | apply State.respond_keeps
    | (apply State.svc_keeps; intro _ _) | split | refine .next ?_

theorem execTenantSuspend_answers (head : SvcHead) (pos : Nat) (s : State) : Answers s (execTenantSuspend head pos s)
    := by
  unfold execTenantSuspend
  with_reducible repeat' first
    | exact .refl _ | assumption | (apply State.onTenant_keeps; intro _ _) | apply State.revokeTenant_keeps
    | (apply State.svc_keeps; intro _ _) | split | refine .next ?_

theorem execTenantResume_answers (head : SvcHead) (pos : Nat) (s : State) : Answers s (execTenantResume head pos s) :=
    by
  unfold execTenantResume
  with_reducible repeat' first
    | exact .refl _ | assumption | (apply State.onTenant_keeps; intro _ _) | (apply State.svc_keeps; intro _ _)
    | split | refine .next ?_

theorem execTenantAddPrefix_answers (head : SvcHead) (pos : Nat) (pre : Bytes) (s : State) : Answers s
    (execTenantAddPrefix head pos pre s) := by
  unfold execTenantAddPrefix
  with_reducible repeat' first
    | exact .refl _ | assumption | (apply State.onTenant_keeps; intro _ _) | apply State.respond_keeps
    | (apply State.svc_keeps; intro _ _) | split | refine .next ?_

theorem execTenantClearPrefixes_answers (head : SvcHead) (pos : Nat) (s : State) : Answers s (execTenantClearPrefixes
    head pos s) := by
  unfold execTenantClearPrefixes
  with_reducible repeat' first
    | exact .refl _ | assumption | (apply State.onTenant_keeps; intro _ _) | (apply State.svc_keeps; intro _ _)
    | split | refine .next ?_

theorem execTenantRevokeWindow_answers (head : SvcHead) (pos window : Nat) (s : State) : Answers s
    (execTenantRevokeWindow head pos window s) := by
  unfold execTenantRevokeWindow
  with_reducible repeat' first
    | exact .refl _ | assumption | apply State.respond_keeps | (apply State.svc_keeps; intro _ _)
    | apply State.winRevoke_keeps | refine .ite (fun _ => ?_) (fun _ => ?_) | refine .next ?_

theorem execUnitFence_answers (head : SvcHead) (src : Nat) (s : State) : Answers s (execUnitFence head src s) := by
  unfold execUnitFence
  with_reducible repeat' first
    | exact .refl _ | assumption | apply State.respond_keeps | (apply State.svc_keeps; intro _ _)
    | refine State.thmFence_keepsE (by assumption) ?_ | apply State.thmFence_keeps | split | refine .next ?_

theorem execUnitReadmit_answers (head : SvcHead) (src : Nat) (s : State) : Answers s (execUnitReadmit head src s) :=
    by
  unfold execUnitReadmit
  with_reducible repeat' first
    | exact .refl _ | assumption | apply State.respond_keeps | apply State.serviceReadmit_keeps
    | (apply State.svc_keeps; intro _ _) | split | refine .next ?_

theorem execUnitClearPermanent_answers (head : SvcHead) (src : Nat) (s : State) : Answers s (execUnitClearPermanent
    head src s) := by
  unfold execUnitClearPermanent
  with_reducible repeat' first
    | exact .refl _ | assumption | apply State.clearPermanent_keeps | apply State.respond_keeps
    | (apply State.svc_keeps; intro _ _) | split | refine .next ?_

theorem execLaneRecalibration_answers (head : SvcHead) (port : Nat) (s : State) : Answers s (execLaneRecalibration
    head port s) := by
  unfold execLaneRecalibration
  with_reducible repeat' first
    | exact .refl _ | assumption | apply State.driveLinkDown_keeps | apply State.gusRetrain_keeps
    | apply State.linkLost_keeps | apply State.respond_keeps | (apply State.svc_keeps; intro _ _) | split
    | refine .next ?_

theorem execDdrRetirement_answers (head : SvcHead) (chan : Nat) (s : State) : Answers s (execDdrRetirement head chan
    s) := by
  unfold execDdrRetirement
  with_reducible repeat' first
    | exact .refl _ | assumption | apply State.forceClose_keeps | apply State.respond_keeps
    | apply State.setFld_keeps | (apply State.svc_keeps; intro _ _) | apply State.syncDomains_keeps | split
    | refine .next ?_ | (apply Keeps.foldl; intro _ _ _)

theorem execRillJobBegin_answers (head : SvcHead) (d : RillDesc) (s : State) : Answers s (execRillJobBegin head d s)
    := by
  unfold execRillJobBegin
  with_reducible repeat' first
    | exact .refl _ | assumption | apply State.respond_keeps | (apply State.svc_keeps; intro _ _) | split
    | refine .next ?_ | dsimp only | apply Keeps.upd

theorem execRillJobInputPiece_answers (head : SvcHead) (offset : Nat) (piece : Bytes) (s : State) : Answers s
    (execRillJobInputPiece head offset piece s) := by
  unfold execRillJobInputPiece
  with_reducible repeat' first
    | exact .refl _ | assumption | (apply State.onJob_keeps; intro _) | apply State.respond_keeps
    | (apply State.svc_keeps; intro _ _) | split | refine .next ?_ | dsimp only | apply Keeps.upd

theorem execRillJobRun_answers (head : SvcHead) (s : State) : Answers s (execRillJobRun head s) := by
  unfold execRillJobRun
  with_reducible repeat' first
    | exact .refl _ | assumption | (apply State.onJob_keeps; intro _) | apply State.rillSubmit_keeps
    | (apply State.svc_keeps; intro _ _) | split | refine .next ?_

theorem execRillJobReadOutput_answers (head : SvcHead) (offset len : Nat) (s : State) : Answers s
    (execRillJobReadOutput head offset len s) := by
  unfold execRillJobReadOutput
  with_reducible repeat' first
    | exact .refl _ | assumption | (apply State.onJob_keeps; intro _) | apply State.respond_keeps
    | (apply State.svc_keeps; intro _ _) | split | refine .next ?_

theorem execRillJobEnd_answers (head : SvcHead) (s : State) : Answers s (execRillJobEnd head s) := by
  unfold execRillJobEnd
  with_reducible repeat' first
    | exact .refl _ | assumption | (apply State.onJob_keeps; intro _) | apply State.respond_keeps
    | (apply State.svc_keeps; intro _ _) | split | refine .next ?_ | dsimp only | apply Keeps.upd

/-! ### ActCmds.lean -/

theorem execActivityStart_answers (head : SvcHead) (code bed : Nat) (s : State) : Answers s (execActivityStart head
    code bed s) := by
  unfold execActivityStart
  with_reducible repeat' first
    | exact .refl _ | assumption | refine State.actCkpt_keepsE (by assumption) ?_ | apply State.actCkpt_keeps
    | apply State.actEndAny_keeps | refine State.arrivalOf_keepsE (by assumption) ?_ | apply State.arrivalOf_keeps
    | apply State.beginCompact_keeps | apply State.goTest_keeps | apply State.respond_keeps
    | (apply State.svc_keeps; intro _ _) | split | refine .next ?_

theorem execActivityWithdraw_answers (head : SvcHead) (handle : Nat) (s : State) : Answers s (execActivityWithdraw
    head handle s) := by
  unfold execActivityWithdraw
  with_reducible repeat' first
    | exact .refl _ | assumption | apply State.respond_keeps | apply State.setActs_keeps
    | (apply State.svc_keeps; intro _ _) | split | refine .next ?_ | dsimp only | apply Keeps.upd

theorem execActivityReport_answers (head : SvcHead) (s : State) : Answers s (execActivityReport head s) := by
  unfold execActivityReport
  with_reducible repeat' first
    | exact .refl _ | assumption | apply State.respond_keeps | (apply State.svc_keeps; intro _ _) | split
    | refine .next ?_

theorem execDeferredActivityStart_answers (handle : Nat) (s : State) : Answers s (execDeferredActivityStart handle s)
    := by
  unfold execDeferredActivityStart
  with_reducible repeat' first
    | exact .refl _ | assumption | apply State.noteVerdict_keeps | apply State.pauseTests_keeps
    | apply State.secondResponse_keeps | apply State.setActs_keeps | apply State.startDeferred_keeps | split
    | refine .next ?_ | dsimp only | apply Keeps.upd

/-! ### MiscCmds.lean -/

theorem execTemperatureSensorRead_answers (readings : List Nat) (s : State) : Answers s (execTemperatureSensorRead
    readings s) := by
  unfold execTemperatureSensorRead
  with_reducible repeat' first
    | exact .refl _ | assumption | apply State.aer_keeps | apply State.note_keeps | split | refine .next ?_
    | (apply Keeps.foldl; intro _ _ _) | dsimp only | apply Keeps.upd

theorem execBmcManagementCommand_answers (s : State) : Answers s (execBmcManagementCommand s) := by
  unfold execBmcManagementCommand
  with_reducible repeat' first | exact .refl _ | assumption | apply State.emit_keeps | split | refine .next ?_

theorem execConsoleReset_answers (level : Nat) (s : State) : Answers s (execConsoleReset level s) := by
  unfold execConsoleReset
  with_reducible repeat' first | exact .refl _ | assumption | apply State.resetAssert_keeps | split | refine .next ?_

/-- Every command but the two that write the fuses or the service NOR answers a next state that keeps them. -/
theorem exec_answers (c : Instr) (s : State) (hsec : ∀ h, c ≠ .secverAdvance h) (himg : ∀ h o p, c ≠ .imageData h o p) :
    Answers s (exec c s) := by
  cases c <;> dsimp only [exec]
  case registerWrite => exact execRegisterWrite_answers ..
  case readClearAccess => exact execReadClearAccess_answers ..
  case loReadLatch => exact execLoReadLatch_answers ..
  case connect => exact execConnect_answers ..
  case propertyGet => exact execPropertyGet_answers ..
  case windowRegister => exact execWindowRegister_answers ..
  case windowRevokeProperty => exact execWindowRevokeProperty_answers ..
  case propertySet => exact execPropertySet_answers ..
  case disconnect => exact execDisconnect_answers ..
  case keepAlive => exact execKeepAlive_answers ..
  case keepAliveExpiry => exact execKeepAliveExpiry_answers ..
  case slotGrant => exact execSlotGrant_answers ..
  case getLogPage => exact execGetLogPage_answers ..
  case identify => exact execIdentify_answers ..
  case abort => exact execAbort_answers ..
  case setFeatures => exact execSetFeatures_answers ..
  case getFeatures => exact execGetFeatures_answers ..
  case asynchronousEventRequest => exact execAsynchronousEventRequest_answers ..
  case namespaceCreate => exact execNamespaceCreate_answers ..
  case namespaceDelete => exact execNamespaceDelete_answers ..
  case namespaceAttachment => exact execNamespaceAttachment_answers ..
  case shortSelfTest => exact execShortSelfTest_answers ..
  case extendedSelfTest => exact execExtendedSelfTest_answers ..
  case selfTestAbort => exact execSelfTestAbort_answers ..
  case selfTestSlice => exact execSelfTestSlice_answers ..
  case adminOpcodeUnsupported => exact execAdminOpcodeUnsupported_answers ..
  case createIoSubmissionQueue => exact execCreateIoSubmissionQueue_answers ..
  case deleteIoSubmissionQueue => exact execDeleteIoSubmissionQueue_answers ..
  case createIoCompletionQueue => exact execCreateIoCompletionQueue_answers ..
  case deleteIoCompletionQueue => exact execDeleteIoCompletionQueue_answers ..
  case flush => exact execFlush_answers ..
  case write => exact execWrite_answers ..
  case read => exact execRead_answers ..
  case writeZeroes => exact execWriteZeroes_answers ..
  case datasetManagement => exact execDatasetManagement_answers ..
  case verify => exact execVerify_answers ..
  case ioOpcodeUnsupported => exact execIoOpcodeUnsupported_answers ..
  case wakeRequestRepeat => exact execWakeRequestRepeat_answers ..
  case parkTimeout => exact execParkTimeout_answers ..
  case darkCapsuleResponse => exact execDarkCapsuleResponse_answers ..
  case store => exact execStore_answers ..
  case retrieve => exact execRetrieve_answers ..
  case list => exact execList_answers ..
  case delete => exact execDelete_answers ..
  case exist => exact execExist_answers ..
  case setLegalHold => exact execSetLegalHold_answers ..
  case clearLegalHold => exact execClearLegalHold_answers ..
  case setRetainUntil => exact execSetRetainUntil_answers ..
  case importRecord => exact execImportRecord_answers ..
  case objectInfo => exact execObjectInfo_answers ..
  case kvOpcodeUnsupported => exact execKvOpcodeUnsupported_answers ..
  case mapDeltaApply => exact execMapDeltaApply_answers ..
  case indexDeltaApply => exact execIndexDeltaApply_answers ..
  case driveCommandCompletion => exact execDriveCommandCompletion_answers ..
  case driveCommandTimeout => exact execDriveCommandTimeout_answers ..
  case driveReadyTimeout => exact execDriveReadyTimeout_answers ..
  case driveReady => exact execDriveReady_answers ..
  case memberUnreachableTimeout => exact execMemberUnreachableTimeout_answers ..
  case proxyCommand => exact execProxyCommand_answers ..
  case rebuildFlushComplete => exact execRebuildFlushComplete_answers ..
  case rebuildSliceComplete => exact execRebuildSliceComplete_answers ..
  case recordFold => exact execRecordFold_answers ..
  case foldWaitExpiry => exact execFoldWaitExpiry_answers ..
  case memberIdleTimeout => exact execMemberIdleTimeout_answers ..
  case checkpointIntervalExpiry => exact execCheckpointIntervalExpiry_answers ..
  case ckptNow => exact execCkptNow_answers ..
  case checkpointPhaseComplete => exact execCheckpointPhaseComplete_answers ..
  case resyncBandComplete => exact execResyncBandComplete_answers ..
  case reclaim => exact execReclaim_answers ..
  case rillJobSubmit => exact execRillJobSubmit_answers ..
  case rillJobComplete => exact execRillJobComplete_answers ..
  case rillCoreNoProgress => exact execRillCoreNoProgress_answers ..
  case rillPairIdle => exact execRillPairIdle_answers ..
  case cipherJobSubmit => exact execCipherJobSubmit_answers ..
  case keyDerivationComplete => exact execKeyDerivationComplete_answers ..
  case cipherJobComplete => exact execCipherJobComplete_answers ..
  case cipherCoreNoProgress => exact execCipherCoreNoProgress_answers ..
  case frameReceive => exact execFrameReceive_answers ..
  case pfcRefresh => exact execPfcRefresh_answers ..
  case pauseExpiry => exact execPauseExpiry_answers ..
  case pauseWatchdogExpiry => exact execPauseWatchdogExpiry_answers ..
  case losslessRestoreExpiry => exact execLosslessRestoreExpiry_answers ..
  case egressFrameEnd => exact execEgressFrameEnd_answers ..
  case linkDown => exact execLinkDown_answers ..
  case linkUp => exact execLinkUp_answers ..
  case linkHoldExpiry => exact execLinkHoldExpiry_answers ..
  case bankDrainExpiry => exact execBankDrainExpiry_answers ..
  case rapsMessage => exact execRapsMessage_answers ..
  case ringHoldoffExpiry => exact execRingHoldoffExpiry_answers ..
  case ringGuardExpiry => exact execRingGuardExpiry_answers ..
  case cmReq => exact execCmReq_answers ..
  case cmRtu => exact execCmRtu_answers ..
  case cmRej => exact execCmRej_answers ..
  case cmDreq => exact execCmDreq_answers ..
  case packetReceive => exact execPacketReceive_answers ..
  case ackTimerExpiry => exact execAckTimerExpiry_answers ..
  case gapTimeout => exact execGapTimeout_answers ..
  case cnpReceived => exact execCnpReceived_answers ..
  case ccRateIncrease => exact execCcRateIncrease_answers ..
  case requestAckReceived => exact execRequestAckReceived_answers ..
  case nakReceived => exact execNakReceived_answers ..
  case localAckTimeout => exact execLocalAckTimeout_answers ..
  case rnrRetryExpiry => exact execRnrRetryExpiry_answers ..
  case qpnIndexReturn => exact execQpnIndexReturn_answers ..
  case windowDrainEnd => exact execWindowDrainEnd_answers ..
  case triggeredWrPost => exact execTriggeredWrPost_answers ..
  case localWrComplete => exact execLocalWrComplete_answers ..
  case refillBoundary => exact execRefillBoundary_answers ..
  case gclCommit => exact execGclCommit_answers ..
  case gclCommitCancel => exact execGclCommitCancel_answers ..
  case gclStart => exact execGclStart_answers ..
  case gclEntryEnd => exact execGclEntryEnd_answers ..
  case queueSample => exact execQueueSample_answers ..
  case gussetLinkUp => exact execGussetLinkUp_answers ..
  case gussetLinkDown => exact execGussetLinkDown_answers ..
  case gussetRetrainTimeout => exact execGussetRetrainTimeout_answers ..
  case gussetDownDetach => exact execGussetDownDetach_answers ..
  case gussetFrameReceive => exact execGussetFrameReceive_answers ..
  case gussetLinkAck => exact execGussetLinkAck_answers ..
  case gussetAckTimer => exact execGussetAckTimer_answers ..
  case gussetRetransmitTimer => exact execGussetRetransmitTimer_answers ..
  case recordMirror => exact execRecordMirror_answers ..
  case windowMirror => exact execWindowMirror_answers ..
  case writeNotice => exact execWriteNotice_answers ..
  case transportNotice => exact execTransportNotice_answers ..
  case foldNotice => exact execFoldNotice_answers ..
  case tickEnd => exact execTickEnd_answers ..
  case tickDelta => exact execTickDelta_answers ..
  case tickAcknowledgement => exact execTickAcknowledgement_answers ..
  case tickAckTimeout => exact execTickAckTimeout_answers ..
  case joinRequest => exact execJoinRequest_answers ..
  case joinData => exact execJoinData_answers ..
  case joinDone => exact execJoinDone_answers ..
  case joinAck => exact execJoinAck_answers ..
  case detachRequest => exact execDetachRequest_answers ..
  case detachDone => exact execDetachDone_answers ..
  case keyCheck => exact execKeyCheck_answers ..
  case pairing => exact execPairing_answers ..
  case pairingDone => exact execPairingDone_answers ..
  case handover => exact execHandover_answers ..
  case handoverAck => exact execHandoverAck_answers ..
  case accRequest => exact execAccRequest_answers ..
  case accData => exact execAccData_answers ..
  case slotRequest => exact execSlotRequest_answers ..
  case heartbeatSend => exact execHeartbeatSend_answers ..
  case heartbeatWord => exact execHeartbeatWord_answers ..
  case heartbeatMissTick => exact execHeartbeatMissTick_answers ..
  case selfFence => exact execSelfFence_answers ..
  case takeoverStart => exact execTakeoverStart_answers ..
  case addressAnnounce => exact execAddressAnnounce_answers ..
  case takeoverPreempt => exact execTakeoverPreempt_answers ..
  case reclaimCheck => exact execReclaimCheck_answers ..
  case standbySelfTest => exact execStandbySelfTest_answers ..
  case claim => exact execClaim_answers ..
  case accept => exact execAccept_answers ..
  case refuse => exact execRefuse_answers ..
  case renew => exact execRenew_answers ..
  case status => exact execStatus_answers ..
  case order => exact execOrder_answers ..
  case stateChangeComplete => exact execStateChangeComplete_answers ..
  case done => exact execDone_answers ..
  case wake => exact execWake_answers ..
  case release => exact execRelease_answers ..
  case claimTimer => exact execClaimTimer_answers ..
  case claimCountEnd => exact execClaimCountEnd_answers ..
  case renewTimer => exact execRenewTimer_answers ..
  case renewConfirmEnd => exact execRenewConfirmEnd_answers ..
  case leaseOrderLimit => exact execLeaseOrderLimit_answers ..
  case orderRepeat => exact execOrderRepeat_answers ..
  case orderTimeout => exact execOrderTimeout_answers ..
  case raiseRequest => exact execRaiseRequest_answers ..
  case dropRequest => exact execDropRequest_answers ..
  case clearFault => exact execClearFault_answers ..
  case slotTest => exact execSlotTest_answers ..
  case slotTestHoldEnd => exact execSlotTestHoldEnd_answers ..
  case assertPwrdis => exact execAssertPwrdis_answers ..
  case pwrdisEnd => exact execPwrdisEnd_answers ..
  case slotEnableWrite => exact execSlotEnableWrite_answers ..
  case presentPinEdge => exact execPresentPinEdge_answers ..
  case presentDebounceExpiry => exact execPresentDebounceExpiry_answers ..
  case presentLost => exact execPresentLost_answers ..
  case insertionDelayExpiry => exact execInsertionDelayExpiry_answers ..
  case rampStart => exact execRampStart_answers ..
  case joinWaitExpiry => exact execJoinWaitExpiry_answers ..
  case rampFaultTimerExpiry => exact execRampFaultTimerExpiry_answers ..
  case rampMaxExpiry => exact execRampMaxExpiry_answers ..
  case powerGood => exact execPowerGood_answers ..
  case breakerTrip => exact execBreakerTrip_answers ..
  case fastTrip => exact execFastTrip_answers ..
  case modelStep => exact execModelStep_answers ..
  case gateFault => exact execGateFault_answers ..
  case vinUndervoltage => exact execVinUndervoltage_answers ..
  case vinOvervoltage => exact execVinOvervoltage_answers ..
  case vinReturn => exact execVinReturn_answers ..
  case reverseBlock => exact execReverseBlock_answers ..
  case reverseBlockClear => exact execReverseBlockClear_answers ..
  case retryTimerExpiry => exact execRetryTimerExpiry_answers ..
  case repeatResetExpiry => exact execRepeatResetExpiry_answers ..
  case strapReadRound => exact execStrapReadRound_answers ..
  case railFault => exact execRailFault_answers ..
  case pwrfailAssert => exact execPwrfailAssert_answers ..
  case pwrfailStep => exact execPwrfailStep_answers ..
  case pwrfailRelease => exact execPwrfailRelease_answers ..
  case domainSwitchOnDone => exact execDomainSwitchOnDone_answers ..
  case refclkLoss => exact execRefclkLoss_answers ..
  case refclkReturn => exact execRefclkReturn_answers ..
  case holdoverExpiry => exact execHoldoverExpiry_answers ..
  case ptpSync => exact execPtpSync_answers ..
  case ptpSampleTimeout => exact execPtpSampleTimeout_answers ..
  case ppsInPulse => exact execPpsInPulse_answers ..
  case ppsOutSecond => exact execPpsOutSecond_answers ..
  case resetSourceAssert => exact execResetSourceAssert_answers ..
  case resetSourceRelease => exact execResetSourceRelease_answers ..
  case stretchExpiry => exact execStretchExpiry_answers ..
  case sysrstHighConfirm => exact execSysrstHighConfirm_answers ..
  case coreEpisodeTimeout => exact execCoreEpisodeTimeout_answers ..
  case watchdogExpiry => exact execWatchdogExpiry_answers ..
  case watchdogKick => exact execWatchdogKick_answers ..
  case rstCtrlCore => exact execRstCtrlCore_answers ..
  case rstCtrlSystem => exact execRstCtrlSystem_answers ..
  case startUpStep => exact execStartUpStep_answers ..
  case pepPerstEdge => exact execPepPerstEdge_answers ..
  case endpointLinkDown => exact execEndpointLinkDown_answers ..
  case hotReset => exact execHotReset_answers ..
  case configRequest => exact execConfigRequest_answers ..
  case functionLevelReset => exact execFunctionLevelReset_answers ..
  case controllerReset => exact execControllerReset_answers ..
  case controllerEnable => exact execControllerEnable_answers ..
  case doorbellWrite => exact execDoorbellWrite_answers ..
  case bar2Request => exact execBar2Request_answers ..
  case pwinEnableWrite => exact execPwinEnableWrite_answers ..
  case pwinMapWrite => exact execPwinMapWrite_answers ..
  case endpointCompletionArrive => exact execEndpointCompletionArrive_answers ..
  case endpointCompletionTimeout => exact execEndpointCompletionTimeout_answers ..
  case tagQuarantineExpiry => exact execTagQuarantineExpiry_answers ..
  case faultEvent => exact execFaultEvent_answers ..
  case recordRateSecondEnd => exact execRecordRateSecondEnd_answers ..
  case quietPeriodExpiry => exact execQuietPeriodExpiry_answers ..
  case admissionCheckComplete => exact execAdmissionCheckComplete_answers ..
  case thmFence => exact execThmFence_answers ..
  case thmReadmit => exact execThmReadmit_answers ..
  case thmClearPermanent => exact execThmClearPermanent_answers ..
  case bbxReadStart => exact execBbxReadStart_answers ..
  case pmuSnap => exact execPmuSnap_answers ..
  case pmuClrAll => exact execPmuClrAll_answers ..
  case pmuFreezeWrite => exact execPmuFreezeWrite_answers ..
  case pmuHistClr => exact execPmuHistClr_answers ..
  case pmuSampleReadStart => exact execPmuSampleReadStart_answers ..
  case hello => exact execHello_answers ..
  case identifyMessage => exact execIdentifyMessage_answers ..
  case regRead => exact execRegRead_answers ..
  case regWrite => exact execRegWrite_answers ..
  case serviceResetCore => exact execServiceResetCore_answers ..
  case serviceResetSystem => exact execServiceResetSystem_answers ..
  case cfgCommit => exact execCfgCommit_answers ..
  case cfgRecordRead => exact execCfgRecordRead_answers ..
  case cfgRecordWrite => exact execCfgRecordWrite_answers ..
  case timeSet => exact execTimeSet_answers ..
  case imageBegin => exact execImageBegin_answers ..
  case imageData head offset piece => exact absurd rfl (himg head offset piece)
  case imageEnd => exact execImageEnd_answers ..
  case activate => exact execActivate_answers ..
  case activationHealthEnd => exact execActivationHealthEnd_answers ..
  case secverAdvance head => exact absurd rfl (hsec head)
  case activityStart => exact execActivityStart_answers ..
  case activityWithdraw => exact execActivityWithdraw_answers ..
  case activityReport => exact execActivityReport_answers ..
  case deferredActivityStart => exact execDeferredActivityStart_answers ..
  case bedCreate => exact execBedCreate_answers ..
  case bedDelete => exact execBedDelete_answers ..
  case bedAdmitMember => exact execBedAdmitMember_answers ..
  case bedReadmitReadOnly => exact execBedReadmitReadOnly_answers ..
  case bedRebuildIndex => exact execBedRebuildIndex_answers ..
  case bedHandover => exact execBedHandover_answers ..
  case epochAdvance => exact execEpochAdvance_answers ..
  case epochRewrap => exact execEpochRewrap_answers ..
  case epochRetire => exact execEpochRetire_answers ..
  case keyPairingSecret => exact execKeyPairingSecret_answers ..
  case pairingSecretExpiry => exact execPairingSecretExpiry_answers ..
  case keyGenerate => exact execKeyGenerate_answers ..
  case keyTransfer => exact execKeyTransfer_answers ..
  case keyEscrowSend => exact execKeyEscrowSend_answers ..
  case keyZeroize => exact execKeyZeroize_answers ..
  case keyStoreReset => exact execKeyStoreReset_answers ..
  case rackRecordPiece => exact execRackRecordPiece_answers ..
  case rackKey => exact execRackKey_answers ..
  case rackRelease => exact execRackRelease_answers ..
  case rackWake => exact execRackWake_answers ..
  case tenantWriteEntry => exact execTenantWriteEntry_answers ..
  case tenantDeleteEntry => exact execTenantDeleteEntry_answers ..
  case tenantSuspend => exact execTenantSuspend_answers ..
  case tenantResume => exact execTenantResume_answers ..
  case tenantAddPrefix => exact execTenantAddPrefix_answers ..
  case tenantClearPrefixes => exact execTenantClearPrefixes_answers ..
  case tenantRevokeWindow => exact execTenantRevokeWindow_answers ..
  case unitFence => exact execUnitFence_answers ..
  case unitReadmit => exact execUnitReadmit_answers ..
  case unitClearPermanent => exact execUnitClearPermanent_answers ..
  case laneRecalibration => exact execLaneRecalibration_answers ..
  case ddrRetirement => exact execDdrRetirement_answers ..
  case rillJobBegin => exact execRillJobBegin_answers ..
  case rillJobInputPiece => exact execRillJobInputPiece_answers ..
  case rillJobRun => exact execRillJobRun_answers ..
  case rillJobReadOutput => exact execRillJobReadOutput_answers ..
  case rillJobEnd => exact execRillJobEnd_answers ..
  case readRing => exact execReadRing_answers ..
  case bbxFormat => exact execBbxFormat_answers ..
  case serviceKeyFirstInstall => exact execServiceKeyFirstInstall_answers ..
  case serviceKeyReplace => exact execServiceKeyReplace_answers ..
  case uartConfirmation => exact execUartConfirmation_answers ..
  case serviceSessionTimeout => exact execServiceSessionTimeout_answers ..
  case drivePortLinkDown => exact execDrivePortLinkDown_answers ..
  case drivePortLinkUp => exact execDrivePortLinkUp_answers ..
  case endpointLinkUp => exact execEndpointLinkUp_answers ..
  case mramPortRetrained => exact execMramPortRetrained_answers ..
  case selfTestPauseLimit => exact execSelfTestPauseLimit_answers ..
  case temperatureSensorRead => exact execTemperatureSensorRead_answers ..
  case bmcManagementCommand => exact execBmcManagementCommand_answers ..
  case consoleReset => exact execConsoleReset_answers ..
  case cmDrep => exact execCmDrep_answers ..
  case serdesRefclkLoss => exact execSerdesRefclkLoss_answers ..
  case serdesRefclkReturn => exact execSerdesRefclkReturn_answers ..
  case pmuCounterWrap => exact execPmuCounterWrap_answers ..

end Sys2Proof.Machine
end

section
/-! O50, O51, O53. What every step keeps: the queue's order, time, the fuses, the canonical form of the memories. -/

namespace Sys2Proof.Machine

/-- A request of the service port that is carried out runs in a state that keeps; any other answers one. -/
theorem State.svc_cases (s : State) (h : SvcHead) (type : Nat) (run : State → State) :
    Keeps s (s.svc h type run) ∨ ∃ u, Keeps s u ∧ s.svc h type run = run u := by
  unfold State.svc
  split
  · exact .inl (.refl _)
  split
  · exact .inl (.refl _)
  split
  · exact .inl (State.badTag_keeps _ (.refl _))
  dsimp only
  split
  · exact .inl (State.svcEmit_keeps _ _ (.upd (.refl _)))
  split
  · exact .inl (.upd (.refl _))
  split
  · exact .inl (State.respond_keeps _ _ _ _ _ (.upd (.refl _)))
  split
  · exact .inl (State.respond_keeps _ _ _ _ _ (.upd (.refl _)))
  · exact .inr ⟨_, State.note_keeps _ _ _ (.upd (.refl _)), rfl⟩

/-- What every command keeps: the queue, all the fuses hold but the security version, time, and the canonical form of the
memories. The security version never falls and stays at 32 or below (R389). -/
structure Preserves (s t : State) : Prop where
  pending : t.pending = s.pending
  now : s.now ≤ t.now
  fuses : t.fuses = { s.fuses with secVer := t.fuses.secVer }
  rises : s.fuses.secVer ≤ t.fuses.secVer
  bounded : s.fuses.secVer ≤ 32 → t.fuses.secVer ≤ 32
  memory : s.memoryOk = true → t.memoryOk = true

theorem Keeps.memoryOk {s t : State} (h : Keeps s t) (hs : s.memoryOk = true) : t.memoryOk = true := by
  simp only [State.memoryOk, Bool.and_eq_true] at hs ⊢
  exact ⟨h.all.mem hs.1, h.all.nor ▸ hs.2⟩

theorem Keeps.preserves {s t : State} (h : Keeps s t) : Preserves s t where
  pending := h.all.pending
  now := h.all.now
  fuses := by rw [h.all.fuses]
  rises := by rw [h.all.fuses]
  bounded := by rw [h.all.fuses]; exact id
  memory := h.memoryOk

theorem Preserves.trans {s t u : State} (h : Preserves s t) (k : Preserves t u) : Preserves s u where
  pending := k.pending.trans h.pending
  now := Nat.le_trans h.now k.now
  fuses := by rw [k.fuses, h.fuses]
  rises := Nat.le_trans h.rises k.rises
  bounded := k.bounded ∘ h.bounded
  memory := k.memory ∘ h.memory

/-- SECVER_ADVANCE writes a security version that is not below the one in force, and not above 32 (R389). -/
theorem execSecverAdvance_preserves (head : SvcHead) (s : State) : ∃ t, execSecverAdvance head s = .next t ∧ Preserves s t := by
  refine ⟨_, rfl, ?_⟩
  rcases s.svc_cases head 0x14 _ with h | ⟨u, hu, h⟩
  · exact h.preserves
  rw [h]
  refine hu.preserves.trans ?_
  dsimp only
  split
  · exact (State.respond_keeps _ _ _ _ _ (.refl _)).preserves
  split
  · exact (State.respond_keeps _ _ _ _ _ (.refl _)).preserves
  next hv =>
    simp only [Bool.or_eq_true, decide_eq_true_eq, not_or, Nat.not_lt] at hv
    refine Preserves.trans (t := { u with fuses := { u.fuses with secVer := u.slotSecVer (u.mnt.active % 2) } }) ?_
      (State.respond_keeps _ _ _ _ _ (.refl _)).preserves
    exact ⟨rfl, Nat.le_refl _, rfl, hv.2, fun _ => hv.1, id⟩

/-- IMAGE_DATA writes the service NOR, and of the rest keeps what every other command keeps (R386). -/
theorem execImageData_preserves (head : SvcHead) (offset : Nat) (piece : Bytes) (s : State) :
    ∃ t, execImageData head offset piece s = .next t ∧ t.fuses = s.fuses ∧ Preserves s t := by
  have answered : ∀ {u v : State}, Keeps s u → ∀ h type st body, v.fuses = u.fuses → Preserves u v →
      (v.respond h type st body).fuses = s.fuses ∧ Preserves s (v.respond h type st body) := fun hu h type st body hf hv =>
    have hk := State.respond_keeps _ h type st body (.refl _)
    ⟨hk.all.fuses.trans (hf.trans hu.all.fuses), hu.preserves.trans (hv.trans hk.preserves)⟩
  refine ⟨_, rfl, ?_⟩
  rcases s.svc_cases head 0x11 _ with h | ⟨u, hu, h⟩
  · exact ⟨h.all.fuses, h.preserves⟩
  rw [h]
  dsimp only
  split
  · exact answered hu _ _ _ _ rfl (Keeps.refl _).preserves
  split
  · exact answered hu _ _ _ _ rfl (Keeps.refl _).preserves
  split
  · exact answered hu _ _ _ _ rfl (Keeps.refl _).preserves
  split
  · exact answered hu _ _ _ _ rfl (Keeps.upd (.refl _)).preserves
  split
  · exact answered hu _ _ _ _ rfl (Keeps.upd (.refl _)).preserves
  · refine answered hu _ _ _ _ rfl ⟨rfl, Nat.le_refl _, rfl, Nat.le_refl _, id, fun hm => ?_⟩
    simp only [State.memoryOk, Bool.and_eq_true] at hm ⊢
    exact ⟨hm.1, Mem.wf_writeN _ _ _ hm.2⟩

theorem exec_preserves (c : Instr) (s : State) : ∃ t, exec c s = .next t ∧ Preserves s t := by
  by_cases hsec : ∃ h, c = .secverAdvance h
  · obtain ⟨h, rfl⟩ := hsec
    exact execSecverAdvance_preserves h s
  by_cases himg : ∃ h o p, c = .imageData h o p
  · obtain ⟨h, o, p, rfl⟩ := himg
    obtain ⟨t, ht, -, hp⟩ := execImageData_preserves h o p s
    exact ⟨t, ht, hp⟩
  · obtain ⟨t, ht, hk⟩ := exec_answers c s (fun h e => hsec ⟨h, e⟩) (fun h o p e => himg ⟨h, o, p, e⟩)
    exact ⟨t, ht, hk.preserves⟩

theorem exec_fuses {c : Instr} {s t : State} (hsec : ∀ h, c ≠ .secverAdvance h) (he : exec c s = .next t) : t.fuses = s.fuses := by
  by_cases himg : ∃ h o p, c = .imageData h o p
  · obtain ⟨h, o, p, rfl⟩ := himg
    obtain ⟨u, hu, hf, -⟩ := execImageData_preserves h o p s
    cases he.symm.trans hu
    exact hf
  · obtain ⟨u, hu, hk⟩ := exec_answers c s hsec (fun h o p e => himg ⟨h, o, p, e⟩)
    cases he.symm.trans hu
    exact hk.all.fuses

/-- A step runs one command on the state without it, or takes up what waited for the cores, or lets a cycle pass. -/
theorem step_preserves (s : State) : ∃ t, step s = .next t ∧ Preserves { s with pending := s.pending.tail } t := by
  unfold step
  split
  next c rest hp =>
    rw [hp]
    exact exec_preserves c _
  next hp =>
    have htick : Preserves { s with pending := s.pending.tail } s.tick100MHz := by
      rw [show { s with pending := s.pending.tail } = s by rw [hp, List.tail_nil, ← hp]]
      exact (State.tick100MHz_keeps s (.refl s)).preserves
    split
    next c rest _ =>
      split
      · exact ⟨_, rfl, htick⟩
      · obtain ⟨t, ht, hk⟩ := exec_preserves c { s with net := { s.net with ctl := rest, serving := true } }
        rw [ht]
        exact ⟨_, rfl, by simpa only [hp, List.tail_nil] using hk.pending, hk.now, hk.fuses, hk.rises, hk.bounded, hk.memory⟩
    next => exact ⟨_, rfl, htick⟩

theorem step_next {s t : State} (he : step s = .next t) : Preserves { s with pending := s.pending.tail } t := by
  obtain ⟨u, hu, hk⟩ := step_preserves s
  cases he.symm.trans hu
  exact hk

/-- Settles O50: every command answers a next state that keeps the queue and does not turn time back. -/
theorem everyStepGoesOn : Obligations.EveryStepGoesOn := by
  refine ⟨fun s => ?goesOn, fun c rest s t hp he => ?queue, fun s t he => (step_next he).now⟩
  case goesOn =>
    obtain ⟨t, ht, -⟩ := step_preserves s
    exact ⟨t, ht⟩
  case queue => simpa only [hp, List.tail_cons] using (step_next he).pending

/-- Settles O51: the canonical form of the memories is kept by every command, and by a cycle of the clock. -/
theorem memoriesStayCanonical : Obligations.MemoriesStayCanonical :=
  fun _ _ hs he => (step_next he).memory hs

/-- Settles O53: SECVER_ADVANCE takes no version below the one in force and none above 32; no other command writes a fuse. -/
theorem securityVersionNeverFalls : Obligations.SecurityVersionNeverFalls :=
  ⟨fun _ _ he => ⟨(step_next he).fuses, (step_next he).rises, (step_next he).bounded⟩, fun _ _ _ hsec he => exec_fuses hsec he⟩

end Sys2Proof.Machine
end

section
/-! O27. The taking up of an admin command (R34, R35, R40, R45, R46). -/

namespace Sys2Proof.Machine

/-- The command as it stands in its slot is taken up where the cores run and the shelf takes admin commands of its kind. -/
theorem State.takeAdmin_held {s : State} {cap : Cap} {op arr : Nat} {m : Bool} {a : Assoc} {r : CmdRec}
    (ha : s.cmd.assocs.get? cap.assoc = some a) (hend : a.ended = false) (hfree : s.capFenced cap = false)
    (hf : s.findCap cap = some (arr, r)) (hr : s.cmd.cmds.get? arr = some r) (hslot : r.slot.isSome = true)
    (heff : r.phase ≠ .effect) (hdone : r.phase ≠ .done) (hrun : s.coreStop = false)
    (hsh : s.shelf.st = .awake ∨ s.shelf.st = .dormant ∧ m = false) (hmove : s.shelf.move = none) :
    s.takeAdmin cap op m = .go (s.mod arr (fun r => { r with cmd := some (.admin op) })) arr a := by
  obtain ⟨hheld, hdark⟩ := ShelfSt.ne_held_dark (hsh.imp_right And.left)
  have hfound : (s.mod arr (fun r => { r with cmd := some (.admin op) })).cmd? arr = some { r with cmd := some (.admin op) } := by
    simp [State.cmd?, State.mod, Tab.get?_modify_same, hr]
  have hstop : (s.mod arr (fun r => { r with cmd := some (.admin op) })).coreStop = false := hrun
  have hslot' : r.slot.isNone = false := by simpa [Option.isSome_iff_ne_none] using hslot
  have hmember : (m && (s.shelf.st = .dormant || s.movingTo .dormant || s.movingTo .dark)) = false := by
    rcases hsh with h | ⟨-, rfl⟩
    · simp [h, State.movingTo, hmove]
    · rfl
  simp only [State.takeAdmin, State.assoc?, ha, hend, hfree, hheld, hdark, hf, hfound, hstop, hslot', heff, hdone, decide_false,
    Bool.or_self, Bool.false_and, Bool.false_eq_true, if_false]
  exact (if_neg (by simpa using hdark)).trans (if_neg (Bool.eq_false_iff.1 hmember))

/-- A capsule that gets its slot as it arrives is taken up as an admin command. -/
theorem State.takeAdmin_new {s u : State} {cap : Cap} {op : Nat} {m : Bool} {a : Assoc} {r : CmdRec}
    (ha : s.cmd.assocs.get? cap.assoc = some a) (hend : a.ended = false) (hfree : s.capFenced cap = false)
    (hsh : s.shelf.st = .awake) (hf : s.findCap cap = none) (hu : u = (s.arrive cap 0 (some (.admin op)) [] true).1)
    (hr : u.cmd.cmds.get? (s.cmd.arrival + 1) = some r) (hslot : r.slot.isSome = true) (hphase : r.phase = .held)
    (hush : u.shelf.st = .awake) (hrun : u.coreStop = false) (hmove : u.shelf.move = none) :
    s.takeAdmin cap op m = .go u (s.cmd.arrival + 1) a := by
  have harr : s.arrive cap 0 (some (.admin op)) [] true = (u, s.cmd.arrival + 1) := hu ▸ rfl
  have hslot' : r.slot.isNone = false := by simpa [Option.isSome_iff_ne_none] using hslot
  simp [State.takeAdmin, State.assoc?, State.cmd?, ha, hend, hfree, hsh, hf, harr, hr, hslot', hphase, hush, hrun, State.movingTo, hmove]

/-- Settles O27: a command that holds its slot, and one whose capsule gets it as it arrives, meet no check that turns them away. -/
theorem adminCommandsAreTakenUp : Obligations.AdminCommandsAreTakenUp :=
  ⟨fun _ _ _ _ _ _ _ ha hend hfree hf hr hslot heff hdone hrun hsh hmove =>
      State.takeAdmin_held ha hend hfree hf hr hslot heff hdone hrun hsh hmove,
    fun _ _ _ _ _ _ _ ha hend hfree hsh hf hu hr hslot hphase hush hrun hmove =>
      State.takeAdmin_new ha hend hfree hsh hf hu hr hslot hphase hush hrun hmove⟩

end Sys2Proof.Machine
end

section
/-! O6. The pairs of registers that are read LO first, and their latches (R397). -/

namespace Sys2Proof.Machine

/-- `n` pairs of registers, 8 bytes apart from `lo` on: LO, then HI 4 bytes above it, and no other register among them. -/
def PairArray (lo n : Nat) : Prop :=
  (∀ b ∈ [lo, lo + 4], ∃ r ∈ regTable, r.base = b ∧ 0 < r.s1 ∧ (n = 1 ∨ r.s1 = 8) ∧ r.d1 = n ∧ 0 < r.d2) ∧
  ∀ r ∈ regTable, lo ≤ r.last → r.base ≤ lo + 8 * n - 4 → r.base ∈ [lo, lo + 4] ∧ (r.d1 = 1 ∨ r.s1 = 8) ∧ r.d2 = 1

theorem PairArray.findReg {lo n b k : Nat} (h : PairArray lo n) (hb : b ∈ [lo, lo + 4]) (hk : k < n) :
    ∃ r i j, findReg (b + 8 * k) = some (r, i, j) ∧ r.base = b := by
  obtain ⟨r₀, hr₀, hb₀, hs₀, hn₀, hd₀, he₀⟩ := h.1 b hb
  have haddr : r₀.base + r₀.s1 * k = b + 8 * k := by
    rcases hn₀ with rfl | hn₀
    · obtain rfl : k = 0 := by omega
      simpa using hb₀
    · rw [hb₀, hn₀]
  obtain ⟨r, i, j, hf⟩ := findReg_isSome (addr := b + 8 * k) hr₀ (by rw [← haddr, RegDesc.inst_first hs₀ (by omega) he₀]; rfl)
  simp only [List.mem_cons, List.not_mem_nil, or_false] at hb
  obtain ⟨hmem, hs, hd⟩ := findReg_range hf (lo := lo) (hi := lo + 8 * n - 4) (by omega) (by omega) h.2
  simp only [List.mem_cons, List.not_mem_nil, or_false] at hmem
  obtain ⟨hat, hi, hj⟩ := RegDesc.inst_eq_some (findReg_eq_some hf).2
  obtain rfl : j = 0 := by omega
  refine ⟨r, i, 0, hf, ?_⟩
  rcases hs with hs | hs
  · obtain rfl : i = 0 := by omega
    omega
  · rw [hs] at hat
    omega

theorem pairArray_objLive : PairArray 0x380010 4 := by unfold PairArray; decide +kernel
theorem pairArray_rackEpoch : PairArray 0x680010 1 := by unfold PairArray; decide +kernel
theorem pairArray_clkTime : PairArray 0x20030 1 := by unfold PairArray; decide +kernel
theorem pairArray_bbxNext : PairArray 0x50000 1 := by unfold PairArray; decide +kernel
theorem pairArray_pmuCtr : PairArray 0x62000 256 := by unfold PairArray; decide +kernel

/-- The LO registers of the pairs of R397: the array each stands in, and that it answers. -/
theorem pairArray_of_lo {addr : Nat} {s : State} (h : (∃ b, b < 4 ∧ addr = 0x380010 + 8 * b) ∨ addr = 0x680010 ∨ addr = 0x20030 ∨
    addr = 0x50000 ∨ ∃ n, n < 256 ∧ s.pmuOn = true ∧ addr = 0x62000 + 8 * n) :
    ∃ lo n k, PairArray lo n ∧ k < n ∧ addr = lo + 8 * k ∧ hiOf lo = some 4 ∧ isHi lo = false ∧ isHi (lo + 4) = true ∧ addr % 4 = 0 ∧
      addr + 4 < 2 ^ 24 ∧ ∀ a ∈ [addr, addr + 4], s.absentReg a = false ∧ s.pmuDeaf a = false ∧ ¬(0x708000 ≤ a ∧ a < 0x709008) := by
  have there : (addr + 4 < 0x120000 ∨ 0x1C5000 ≤ addr ∧ addr + 4 < 0x708000) ∧ (addr + 4 < 0x60000 ∨ 0x70000 ≤ addr ∨ s.pmuOn = true) := by
    rcases h with ⟨k, hk, rfl⟩ | rfl | rfl | rfl | ⟨k, hk, hon, rfl⟩
    · omega
    · omega
    · omega
    · omega
    · exact ⟨by omega, .inr (.inr hon)⟩
  have answers : ∀ a ∈ [addr, addr + 4], s.absentReg a = false ∧ s.pmuDeaf a = false ∧ ¬(0x708000 ≤ a ∧ a < 0x709008) := by
    intro a ha
    simp only [List.mem_cons, List.not_mem_nil, or_false] at ha
    obtain ⟨hhere, hout⟩ := there
    refine ⟨s.absentReg_elsewhere (by omega), ?_, by omega⟩
    rcases hout with hout | hout | hon
    · exact s.pmuDeaf_outside (by omega)
    · exact s.pmuDeaf_outside (by omega)
    · simp [State.pmuDeaf, hon]
  rcases h with ⟨k, hk, rfl⟩ | rfl | rfl | rfl | ⟨k, hk, -, rfl⟩
  · exact ⟨_, 4, k, pairArray_objLive, hk, rfl, rfl, rfl, rfl, by omega, by omega, answers⟩
  · exact ⟨_, 1, 0, pairArray_rackEpoch, by decide, rfl, rfl, rfl, rfl, rfl, by decide, answers⟩
  · exact ⟨_, 1, 0, pairArray_clkTime, by decide, rfl, rfl, rfl, rfl, rfl, by decide, answers⟩
  · exact ⟨_, 1, 0, pairArray_bbxNext, by decide, rfl, rfl, rfl, rfl, rfl, by decide, answers⟩
  · exact ⟨_, 256, k, pairArray_pmuCtr, hk, rfl, rfl, rfl, rfl, by omega, by omega, answers⟩

section
variable {s : State} {addr i j : Nat} {r : RegDesc}

/-- A read of the LO register of a pair latches HI for the path. -/
theorem State.regRead_lo (path : AccessPath) (be : Nat) {h : RegDesc} {c i' j' : Nat} (ha : s.absentReg addr = false)
    (hd : s.pmuDeaf addr = false) (hm : ¬(0x708000 ≤ addr ∧ addr < 0x709008)) (hf : findReg addr = some (r, i, j))
    (hhi : isHi r.base = false) (hlo : hiOf r.base = some c) (hf' : findReg (addr + 4) = some (h, i', j')) :
    s.regRead path addr be =
      ({ s with regs := s.regs.setLatch path (addr + 4) (s.classRead h i' j' (addr + 4)) },
        s.classRead r i j addr &&& BitVec.ofNat 32 (beMask be)) := by
  simp only [State.regRead, ha, hd, hf, hhi, hlo, hf', Bool.or_self, Bool.false_eq_true, if_false, Bool.and_eq_true, decide_eq_true_eq]
  rw [if_neg (by omega), if_neg (by omega)]

/-- A read of the HI register of a pair returns what the path last latched. -/
theorem State.regRead_hi (path : AccessPath) (be : Nat) (ha : s.absentReg addr = false)
    (hd : s.pmuDeaf addr = false) (hm : ¬(0x708000 ≤ addr ∧ addr < 0x709008)) (hf : findReg addr = some (r, i, j))
    (hhi : isHi r.base = true) :
    s.regRead path addr be = (s, s.regs.latched path addr &&& BitVec.ofNat 32 (beMask be)) := by
  simp only [State.regRead, ha, hd, hf, hhi, Bool.or_self, Bool.false_eq_true, if_false, if_true, Bool.and_eq_true, decide_eq_true_eq]
  rw [if_neg (by omega), if_neg (by omega)]

end

theorem RegFile.latched_setLatch_same (r : RegFile) (path : AccessPath) (addr : Nat) (w : Word) :
    (r.setLatch path addr w).latched path addr = w := by
  simp [RegFile.latched, RegFile.setLatch]

/-- A latch is kept apart for each path and each pair. -/
theorem RegFile.latched_setLatch_other (r : RegFile) {path q : AccessPath} {addr a : Nat} (w : Word) (h : q ≠ path ∨ a ≠ addr) :
    (r.setLatch path addr w).latched q a = r.latched q a := by
  have hne : ∀ x : AccessPath × Nat × Word, (x.1 = q && x.2.1 = a) = true → (!(x.1 = path && x.2.1 = addr)) = true := by
    rintro ⟨p, b, v⟩ hx
    simp only [Bool.and_eq_true, decide_eq_true_eq] at hx
    obtain ⟨rfl, rfl⟩ := hx
    simpa [← not_and_or] using h
  have hhead : ((path, addr, w) :: r.latch.filter (fun x => !(x.1 = path && x.2.1 = addr))).find? (fun x => x.1 = q && x.2.1 = a) =
      r.latch.find? (fun x => x.1 = q && x.2.1 = a) := by
    rw [List.find?_cons_of_neg (by intro hx; simpa using hne _ hx), List.find?_filter]
    congr 1
    funext x
    by_cases hx : (x.1 = q && x.2.1 = a) = true
    · simp [hx, hne x hx]
    · simp [hx]
  simp only [RegFile.latched, RegFile.setLatch, hhead]

/-- Settles O6: a LO register is followed by its HI register in the table, and a latch is read back by its own path and pair only. -/
theorem loReadLatchesHiForItsPath : Obligations.LoReadLatchesHiForItsPath := by
  have whole : ∀ w : Word, w &&& BitVec.ofNat 32 (beMask 15) = w := fun w => by
    rw [show BitVec.ofNat 32 (beMask 15) = BitVec.allOnes 32 by decide]; exact BitVec.and_allOnes
  refine ⟨fun _ _ _ => rfl, ?pair, ?latch, ?unlatched, ?deaf⟩
  case pair =>
    intro path addr s ho haddr
    obtain ⟨lo, n, k, harr, hk, rfl, hhi, hnot, his, h4, hlt, hans⟩ := pairArray_of_lo haddr
    obtain ⟨r, i, j, hf, hb⟩ := harr.findReg (b := lo) (by simp) hk
    obtain ⟨h, i', j', hf', hb'⟩ := harr.findReg (b := lo + 4) (by simp) hk
    rw [show lo + 4 + 8 * k = lo + 8 * k + 4 by omega] at hf'
    obtain ⟨ha, hd, hm⟩ := hans (lo + 8 * k) (by simp)
    obtain ⟨ha', hd', hm'⟩ := hans (lo + 8 * k + 4) (by simp)
    have hread : ∀ be, exec (.readClearAccess path (lo + 8 * k) be) s = _ := fun be => by
      rw [exec_readClearAccess_dword ho be h4 (by omega), State.regRead_lo path be ha hd hm hf (hb ▸ hnot) (hb ▸ hhi) hf']
    refine ⟨r, i, j, h, i', j', hf, hf', ?_, hread, fun be => ?_⟩
    · rw [show exec (.loReadLatch path (lo + 8 * k)) s = exec (.readClearAccess path (lo + 8 * k) 15) s from rfl, hread, whole]
    · rw [exec_readClearAccess_dword ho be (by omega) hlt, State.regRead_hi path be ha' hd' hm' hf' (hb' ▸ his)]
  case latch =>
    intro path addr w r
    exact ⟨rfl, rfl, r.latched_setLatch_same path addr w, fun q a hne => r.latched_setLatch_other w hne⟩
  case unlatched =>
    intro path addr s hnone
    rw [RegFile.latched, hnone]
  case deaf =>
    intro path n be s ho hn hoff
    have deaf : ∀ a, a % 4 = 0 → 0x62000 ≤ a → a < 0x63000 → exec (.readClearAccess path a be) s = .next (s.emit (.regData path a 0)) :=
      fun a h4 h1 h2 => by
        rw [exec_readClearAccess_dword ho be h4 (by omega), State.regRead_deaf path be (State.pmuDeaf_off hoff (by omega) (by omega))]
    exact ⟨deaf _ (by omega) (by omega) (by omega), deaf _ (by omega) (by omega) (by omega)⟩

end Sys2Proof.Machine
end

section
/-! O16. Writes through a window of BAR2 (R331). -/

namespace Sys2Proof.Machine

/-- A byte of a string written is read back. -/
theorem Mem.read_writeN_inside (m : Mem) (a i : Nat) (bs : Bytes) (h : m.wf = true) (hi : i < bs.length) :
    (m.writeN a bs).read (a + i) = bs[i] := by
  induction bs generalizing m a i with
  | nil => exact absurd hi (Nat.not_lt_zero _)
  | cons b bs ih =>
    have hw := Mem.wf_write m a b h
    cases i with
    | zero =>
      rw [Mem.writeN, Mem.read_writeN_other _ _ _ _ hw (.inl (by omega)), Mem.read_write m a _ b h, if_pos (by omega)]
      rfl
    | succ i =>
      rw [Mem.writeN, show a + (i + 1) = a + 1 + i by omega, ih _ _ _ hw (by simpa using hi)]
      rfl

theorem bbxHeader_length (serial next fmtTime : Nat) : (bbxHeader serial next fmtTime).length = 4096 := by
  simp only [bbxHeader, zeros, List.length_append, List.length_cons, List.length_nil, List.length_replicate, length_le]

theorem bbxBytes_length (r : BbRec) (q : Nat) : (bbxBytes r q).length = 64 := by
  simp [bbxBytes, fitTo, zeros]
  omega

theorem bbxBytes_severity (r : BbRec) (q : Nat) : (bbxBytes r q)[10]'(by simp [bbxBytes_length]) = BitVec.ofNat 8 r.severity := by
  simp [bbxBytes]

/-- The severity of a record stands in byte 10 of its place in the ring of the black box (R349). -/
theorem State.bbxCommit_severity {s : State} (hwf : s.mram.wf = true) (r : BbRec) :
    (s.bbxCommit r).mram.read (bbxAddr s.thm.next + 10) = BitVec.ofNat 8 r.severity := by
  have past : 4096 ≤ bbxAddr s.thm.next := by unfold bbxAddr; omega
  simp only [State.bbxCommit, State.bbxWriteHeader]
  rw [Mem.read_writeN_other _ _ _ _ (Mem.wf_writeN _ _ _ hwf) (.inr (by rw [bbxHeader_length]; omega)),
    Mem.read_writeN_inside _ _ _ _ hwf (by rw [bbxBytes_length]; decide), bbxBytes_severity]

/-- An event whose source no entry routes is recorded, and its quiet period starts again. -/
theorem State.raise_unrouted {s : State} {src sev : Nat} (code : Nat) (ctx : Bytes) (hl : s.listed src = true)
    (hr : s.thm.refill = false) (he : (s.thmBoundary src).entryOf src = none) (h0 : sev ≠ 0) (h3 : sev < 3) :
    s.raise src sev code ctx =
      ((s.thmBoundary src).record src sev 0 code ((s.thmBoundary src).evCtx src code ctx)).requiet src := by
  simp only [State.raise, hl, hr, he, h0, Nat.not_le.2 h3, Bool.not_true, Bool.false_eq_true, if_false]

theorem State.requiet_mram (s : State) (src : Nat) : (s.requiet src).mram = s.mram := by
  unfold State.requiet
  dsimp only
  split
  · rfl
  · rfl

@[simp] theorem State.setFld_srcSt (s : State) (f : Fld) (v src : Nat) : (s.setFld f v).srcSt src = s.srcSt src := rfl

@[simp] theorem State.setFld_dev (s : State) (f : Fld) (v : Nat) : (s.setFld f v).dev = s.dev := rfl

@[simp] theorem State.setFld_recFlags (s : State) (f : Fld) (v react : Nat) : (s.setFld f v).recFlags react = s.recFlags react := rfl

/-- The first record of source 0xE05 in a second is committed to the black box. -/
theorem State.record_windowRefusal {s : State} {sev : Nat} (code : Nat) (ctx : Bytes) (h0 : sev ≠ 0) (h3 : sev < 3)
    (hsec : (s.srcSt 0xE05).recSec = s.dev / sec 1) (hn : (s.srcSt 0xE05).recN = 0) (hm : s.thm.mramOk = true) :
    ∃ (u : State) (r : BbRec), u.mram = s.mram ∧ u.thm.next = s.thm.next ∧ r.severity = sev ∧
      s.record 0xE05 sev 0 code ctx = u.bbxCommit r := by
  refine ⟨(((s.setFld F.THM_LAST_SOURCE 0xE05).setFld F.THM_LAST_SEVERITY sev).setFld F.THM_LAST_REACTION 0).setSrc 0xE05
    { s.srcSt 0xE05 with recN := 1 }, ⟨s.dev, 0xE05, s.recFlags 0, sev, 0, code, ctx⟩, rfl, rfl, rfl, ?_⟩
  simp [State.record, h0, Nat.not_le.2 h3, hsec, hn, State.recRate, State.bbxPut, State.setSrc, hm]

/-- The MRAM's port trained, the endpoint's link up, a pool of 1 GiB, and function 1 held back: its windows refuse. -/
def windowsRefuse : State :=
  let s := State.reset.setFld F.EPT_CFG_POOL_GIB 1
  { s with ept := { s.ept with link := true, wedge1 := true }, thm := { s.thm with mramOk := true } }

/-- The state in which the first refused write of a second raises event 0xE05. -/
def windowRefused : State :=
  let s := (windowsRefuse.aerSet 1 20).bump (F.EPT_CNT_COUNT 3) 1
  { s with ept := { s.ept with refusedAt := s.ept.refusedAt.put 0 s.now } }

/-- Event 0xE05 has no entry of its own in the state it is raised in, and no record was made of it before. -/
theorem windowRefused_unrouted : windowRefused.listed 0xE05 = true ∧ windowRefused.thm.refill = false ∧
    (windowRefused.thmBoundary 0xE05).entryOf 0xE05 = none ∧
    ((windowRefused.thmBoundary 0xE05).srcSt 0xE05).recSec = (windowRefused.thmBoundary 0xE05).dev / sec 1 ∧
    ((windowRefused.thmBoundary 0xE05).srcSt 0xE05).recN = 0 ∧ (windowRefused.thmBoundary 0xE05).thm.mramOk = true ∧
    bbxAddr (windowRefused.thmBoundary 0xE05).thm.next + 10 = 4106 ∧ (windowRefused.thmBoundary 0xE05).mram = .empty ∧
    ((windowsRefuse.aerSet 1 20).bump (F.EPT_CNT_COUNT 3) 1).ept.refusedAt.get? 0 = none := by
  decide +kernel

/-- The first write refused at a window in a second raises event 0xE05, whose record the black box puts into the MRAM (R331, R349):
its byte 10 is the severity, 2. -/
theorem windowsRefuse_records : (windowsRefuse.bar2Refuse 0 true).mram.read 4106 = 2#8 := by
  obtain ⟨listed, filled, unrouted, hsec, hn, hm, place, hempty, due⟩ := windowRefused_unrouted
  have raised : windowsRefuse.bar2Refuse 0 true = windowRefused.raise 0xE05 2 0x40000000 (zeros 12 ++ [0]) := by
    simp only [State.bar2Refuse, if_true, due]
    rfl
  obtain ⟨u, r, hmem, hnext, hsev, hrec⟩ := State.record_windowRefusal 0x40000000
    ((windowRefused.thmBoundary 0xE05).evCtx 0xE05 0x40000000 (zeros 12 ++ [0])) (sev := 2) (by decide) (by decide) hsec hn hm
  have hwf : u.mram.wf = true := by rw [hmem, hempty, Mem.wf_empty]
  rw [← hnext] at place
  rw [raised, State.raise_unrouted _ _ listed filled unrouted (by decide) (by decide), State.requiet_mram, hrec, ← place,
    State.bbxCommit_severity hwf, hsev]

/-- Refutes O16: a write that a window refuses can raise an event, and the event's record is written into the MRAM, which the
statement has stay as it was. -/
theorem not_peerWindowWritesStoreOnlyTheirBytes : ¬ Obligations.PeerWindowWritesStoreOnlyTheirBytes := by
  intro h
  have refused : exec (.bar2Request ⟨true, 0, 1, false, [0]⟩) windowsRefuse = .next (windowsRefuse.bar2Refuse 0 true) := by
    have hlink : windowsRefuse.ept.link = true := rfl
    have hwedge : windowsRefuse.ept.wedge1 = true := rfl
    have hpool : windowsRefuse.poolGib ≠ 0 := by decide +kernel
    have hwin : 0 / 2 ^ windowsRefuse.winLog2 = 0 := Nat.zero_div _
    simp [exec, execBar2Request, hlink, hwedge, hpool, hwin]
  obtain ⟨-, hmram, -, -⟩ := h ⟨true, 0, 1, false, [0]⟩ windowsRefuse _ 1 rfl rfl refused (.inr (by decide +kernel))
  have recorded := windowsRefuse_records
  rw [hmram] at recorded
  exact absurd recorded (by decide +kernel)

end Sys2Proof.Machine
end

section
/-! PROOF. The slot channels: the requests, timers and events of a slot's power path (R262–R277). -/

namespace Sys2Proof.Machine

/-! ### Rules of the channel -/

@[simp] theorem State.applyFld_spc (s : State) (f : Fld) : (s.applyFld f).spc = s.spc := by
  unfold State.applyFld
  split <;> simp

@[simp] theorem State.applyFld_chan (s : State) (f : Fld) (k : Nat) : (s.applyFld f).chan k = s.chan k := by
  simp [State.chan]

@[simp] theorem State.setFld_chan (s : State) (f : Fld) (v k : Nat) : (s.setFld f v).chan k = s.chan k := rfl

theorem State.applyFlds_spc (l : List Fld) (s : State) : (l.foldl State.applyFld s).spc = s.spc := by
  induction l generalizing s with
  | nil => rfl
  | cons f l ih => rw [List.foldl_cons, ih, State.applyFld_spc]

@[simp] theorem State.chanMet_chan_same (s : State) (k : Nat) :
    (s.chanMet k).chan k = { s.chan k with met := some (s.now * 32 + k), insAt := none } := by
  simp [State.chanMet]

@[simp] theorem State.startIns_chan_same (s : State) (k : Nat) :
    (s.startIns k).chan k = { s.chan k with
      met := none, insAt := if (s.chan k).present && s.spc.vinIn then some (s.now + msec s.insDelayMs) else none } := by
  simp [State.startIns]

/-- What the insertion delay's start leaves of every channel (R263). -/
theorem State.startIns_chan_st (s : State) (k j : Nat) : ((s.startIns k).chan j).st = (s.chan j).st := by
  by_cases hj : j = k
  · subst hj; simp
  · simp [State.startIns, State.setChan_chan_other _ _ _ _ hj]

/-- A path that waits under another rule than the normal one is Waiting, its insertion delay to run (R263). -/
theorem State.wait_chan_of_ne_normal (s : State) (k : Nat) (ctx : RampCtx) (h : ctx ≠ .normal) :
    ((s.wait k ctx).chan k).st = .waiting ∧ ((s.wait k ctx).chan k).ctx = ctx ∧
      ((s.wait k ctx).chan k).testing = (s.chan k).testing := by
  simp [State.wait, h]

theorem State.raiseReq_of_not_off {s : State} {k : Nat} (auto : Bool) (hk : k < 24) (hr : (s.chan k).request = false)
    (hst : (s.chan k).st ≠ .off) : s.raiseReq k auto = s.setChan k { s.chan k with request := true, auto := auto } := by
  simp [State.raiseReq, hr, hst, Nat.not_le.2 hk]

/-- A dropped request turns the path off, unless a fault or the enable bit holds it off (R275). -/
theorem State.dropReq_of_held {s : State} {k : Nat} (h : (s.chan k).request = true ∨ (s.chan k).testing = false) :
    s.dropReq k =
      if (s.chan k).st = .fault ∨ (s.chan k).st = .disabled then s.setChan k { s.chan k with request := false, auto := false }
      else (s.setChan k { s.chan k with request := false, auto := false }).gateOff k .off := by
  have hc : (!(s.chan k).request && (s.chan k).testing) = false := by
    rcases h with h | h <;> simp [h]
  simp [State.dropReq, hc]

theorem State.unlatch_of_fault {s : State} {k : Nat} (hst : (s.chan k).st = .fault) (hr : (s.chan k).request = false) :
    s.unlatch k = s.setChan k { s.chan k with st := .off } := by
  simp [State.unlatch, hst, hr]

theorem State.clearFault_of_fault {s : State} {k : Nat} (hst : (s.chan k).st = .fault) (hr : (s.chan k).request = false) :
    (s.clearFault k).chan k = { s.chan k with retryAt := none, cause := 0, st := .off } := by
  simp [State.clearFault, hst, State.unlatch_of_fault, hr]

theorem State.slotTest_of_off {s : State} {k : Nat} (hk : k < 24) (hst : (s.chan k).st = .off) :
    (s.slotTest k).1 = (s.setChan k { s.chan k with testing := true }).wait k .test := by
  simp [State.slotTest, hst, Nat.not_le.2 hk]

/-! ### SPC_SLOT_CMD, the present pin and the timers -/

/-- Settles O7: each command or timer of a slot writes its own channel, and the path's state as the rules above say. -/
theorem slotCommandsAndTimersTakeEffect : Obligations.SlotCommandsAndTimersTakeEffect := by
  unfold Obligations.SlotCommandsAndTimersTakeEffect
  refine ⟨?raise, ?drop, ?dropOff, ?clear, ?test, ?pwrdis, ?pwrdisEnd, ?hold, ?enable, ?edge, ?debounce, ?lost, ?ins, ?retry,
    ?repeated⟩
  case raise =>
    intro k s hk hr hst
    exact ⟨_, rfl, by simp [State.raiseReq_of_not_off false hk hr hst]⟩
  case drop =>
    intro k s hk hr hf hd
    simp [exec, execDropRequest, hk, State.dropReq_of_held (Or.inl hr), hf, hd]
  case dropOff =>
    intro k s hk hr hst
    exact ⟨_, rfl, by simp [hk, State.dropReq_of_held hr, hst]⟩
  case clear =>
    intro k s hk hst hr
    exact ⟨_, rfl, by simp [hk, State.clearFault_of_fault hst hr]⟩
  case test =>
    intro k s hk hst
    obtain ⟨hw, hc, ht⟩ := State.wait_chan_of_ne_normal (s.setChan k { s.chan k with testing := true }) k .test (by decide)
    refine ⟨_, rfl, ?_⟩
    rw [State.slotTest_of_off hk hst]
    exact ⟨hw, by simp [ht], hc⟩
  case pwrdis =>
    intro k s hk
    exact ⟨_, rfl, by simp [State.pwrdis, hk, sec]⟩
  case pwrdisEnd =>
    intro k d s hd hn
    refine ⟨_, by simp only [exec, execPwrdisEnd, hd]; rfl, by simp, ?_⟩
    simpa using hn
  case hold =>
    intro k d vout iout s hd
    simp only [exec, execSlotTestHoldEnd, hd]
  case enable =>
    intro k en s hk
    simp [exec, execSlotEnableWrite, hk]
  case edge =>
    intro k level s hk
    refine ⟨_, by simp only [exec, execPresentPinEdge, Nat.not_le.2 hk, if_false]; rfl, by simp, by simp, ?_⟩
    intro hl
    simp [hl]
  case debounce =>
    intro k d s hd
    simp only [exec, execPresentDebounceExpiry, hd]
  case lost =>
    intro k d s hd
    simp only [exec, execPresentLost, hd]
  case ins =>
    intro k d s hd hv hp
    refine ⟨_, by simp only [exec, execInsertionDelayExpiry, hd]; rfl, ?_⟩
    simp [hv, hp]
  case retry =>
    intro k d s hd hst hr
    refine ⟨_, by simp only [exec, execRetryTimerExpiry, hd]; rfl, ?_⟩
    rw [State.unlatch_of_fault (by simpa using hst) (by simpa using hr)]
    simp
  case repeated =>
    intro k d s hd
    exact ⟨_, by simp only [exec, execRepeatResetExpiry, hd]; rfl, by simp⟩

/-! ### The events of a path -/

theorem Tab.getL_map {α β : Type} (k : Nat) (f : Nat → α → β) (l : List (Nat × α)) :
    Tab.getL k (l.map fun e => (e.1, f e.1 e.2)) = (Tab.getL k l).map (f k) := by
  induction l with
  | nil => rfl
  | cons e l ih =>
    by_cases he : e.1 = k
    · simp [Tab.getL, he]
    · simp [Tab.getL, he, ih]

theorem Tab.get?_mapV {α β : Type} (t : Tab α) (k : Nat) (f : Nat → α → β) : (t.mapV f).get? k = (t.get? k).map (f k) :=
  Tab.getL_map k f t.entries

/-- VIN out of its window leaves what each channel does with its gates (R270). -/
theorem State.vinOut_chan_st (s : State) (k : Nat) : (s.vinOut.chan k).st = (s.chan k).st := by
  simp only [State.vinOut, State.chan, Tab.getD, Tab.get?_mapV]
  cases s.spc.chans.get? k <;> rfl

@[simp] theorem State.startIns_spc_vin (s : State) (k : Nat) : (s.startIns k).spc.vin = s.spc.vin := by
  simp [State.startIns]

@[simp] theorem State.startIns_spc_dieC (s : State) (k : Nat) : (s.startIns k).spc.dieC = s.spc.dieC := by
  simp [State.startIns]

/-- VIN back in its window restarts delays only: VIN, the die's temperature and each channel's path stay (R263). -/
theorem State.vinBack_keeps_path (s : State) (k : Nat) :
    s.vinBack.spc.vin = s.spc.vin ∧ s.vinBack.spc.dieC = s.spc.dieC ∧ (s.vinBack.chan k).st = (s.chan k).st := by
  unfold State.vinBack
  split
  · exact ⟨rfl, rfl, rfl⟩
  · generalize List.range 24 = slots
    refine List.foldlRecOn slots _
      (motive := fun t : State => t.spc.vin = s.spc.vin ∧ t.spc.dieC = s.spc.dieC ∧ (t.chan k).st = (s.chan k).st)
      ⟨rfl, rfl, rfl⟩ ?_
    intro t ht j _
    obtain ⟨hvin, hdie, hst⟩ := ht
    dsimp only
    split
    · simp [hvin, hdie, State.startIns_chan_st, hst]
    · exact ⟨hvin, hdie, hst⟩

@[simp] theorem State.at_mayPower (s : State) (d : Nat) : (s.at d).mayPower = s.mayPower := by
  simp only [State.mayPower, State.powerSt, State.at_shelf, State.at_spc]
  rfl

@[simp] theorem State.setChan_mayPower (s : State) (k : Nat) (c : Chan) : (s.setChan k c).mayPower = s.mayPower := rfl

/-- Looking at VOUT once more heats no model of the channel (R268). -/
theorem State.cool_join_at (s : State) (d k : Nat) :
    ((s.at d).setChan k { s.chan k with joinAt := none, joinLooked := true }).cool k = s.cool k := by
  have hfld (f : Fld) : ((s.at d).setChan k { s.chan k with joinAt := none, joinLooked := true }).fld f = s.fld f :=
    s.at_fld d f
  rw [Bool.eq_iff_iff]
  simp only [State.cool, Bool.and_eq_true, decide_eq_true_eq]
  simp [State.tjHs, State.tjRb, State.tambC, State.resumeC, State.tripC, hfld]

theorem Chan.not_driving {c : Chan} (h : c.driving = false) : c.st ≠ .on ∧ c.st ≠ .ramping := by
  simpa [Chan.driving] using h

/-- The state in which a sample of slot `k` finds its path: the settings of the sample applied, VIN judged (R269, R277). -/
def State.sampled (s : State) (k vin dieC : Nat) : State :=
  let s := [F.SPC_SLOT_CFG_BREAKER k, F.SPC_WIN_VMIN_MV, F.SPC_WIN_VMAX_MV, F.SPC_CFG_TAMB_C].foldl State.applyFld s
  let s := { s with spc := { s.spc with vin := vin, dieC := dieC } }
  if s.vminMv ≤ vin && vin ≤ s.vmaxMv then s.vinBack else s.vinOut

theorem State.sampled_path (s : State) (k vin dieC : Nat) :
    (s.sampled k vin dieC).spc.vin = vin ∧ (s.sampled k vin dieC).spc.dieC = dieC ∧
      ((s.sampled k vin dieC).chan k).st = (s.chan k).st := by
  have hchan (vin dieC : Nat) (t : State) : ({ t with spc := { t.spc with vin := vin, dieC := dieC } } : State).chan k = t.chan k :=
    rfl
  unfold State.sampled
  dsimp only
  split
  · obtain ⟨hvin, hdie, hst⟩ := State.vinBack_keeps_path _ k
    exact ⟨hvin, hdie, by rw [hst, hchan]; simp [State.chan]⟩
  · exact ⟨rfl, rfl, by rw [State.vinOut_chan_st, hchan]; simp [State.chan]⟩

/-- What the sample of a slot then does in that state: the step of its models, and the trips (R266, R272). -/
def State.judged (s : State) (k vin vout iout : Nat) (limiting peerLatched : Bool) : Outcome :=
  let c := s.stepModel k vin vout iout
  let lim := if limiting && c.st = .ramping then c.limitUs + 10 else c.limitUs
  let s := s.setChan k { c with limitUs := lim }
  let hot := s.tripC * 1000000000 ≤ s.tjHs (s.chan k) || s.tripC * 1000000000 ≤ s.tjRb (s.chan k)
  if c.st = .ramping && 20000 ≤ lim then .next (s.trip k 1 peerLatched)
  else if hot && c.driving then .next (s.trip k (if c.st = .ramping then 2 else 6) peerLatched)
  else .next s

theorem exec_modelStep (k vin vout iout dieC : Nat) (limiting p : Bool) (s : State) :
    exec (.modelStep k vin vout iout dieC limiting p) s = (s.sampled k vin dieC).judged k vin vout iout limiting p := rfl

/-- A step of a channel's models that limits nothing and drives nothing ends without a trip (R266, R272). -/
theorem State.judged_of_not_driving {s : State} {k : Nat} (vin vout iout : Nat) (p : Bool) (hd : (s.chan k).driving = false) :
    s.judged k vin vout iout false p = .next (s.setChan k (s.stepModel k vin vout iout)) := by
  have hst : (s.stepModel k vin vout iout).st = (s.chan k).st := rfl
  have hdrive : (s.stepModel k vin vout iout).driving = false := hd
  obtain ⟨-, hramp⟩ := Chan.not_driving hd
  simp [State.judged, hst, hdrive, hramp]
  rfl

/-- Settles O8: where an event acts, the meaning's guard holds and what it then does is the statement's right side; the
sample of a channel that drives nothing reaches none of the trips. -/
theorem slotPathEventsTakeEffect : Obligations.SlotPathEventsTakeEffect := by
  unfold Obligations.SlotPathEventsTakeEffect
  refine ⟨?start, ?join, ?good, ?timer, ?max, ?breaker, ?fast, ?gate, ?rev, ?clear, ?low, ?high, ?back, ?sample⟩
  case start =>
    intro k vout s hst hmet hp hh hc hr hj
    rw [Option.isSome_iff_ne_none] at hmet
    simp [exec, execRampStart, hst, hmet, hp, hh, hc, hr, hj]
  case join =>
    intro k d vout s hj hp hh hc
    simp [exec, execJoinWaitExpiry, hj, State.cool_join_at, hp, hh, hc]
  case good =>
    intro k vout s hst
    simp [exec, execPowerGood, hst]
  case timer =>
    intro k p s hst
    simp [exec, execRampFaultTimerExpiry, hst]
  case max =>
    intro k d p s hd hst
    simp [exec, execRampMaxExpiry, hd, hst]
  case breaker =>
    intro k p s hst
    simp [exec, execBreakerTrip, hst]
  case fast =>
    intro k p s hst
    simp [exec, execFastTrip, hst]
  case gate =>
    intro k p s hd
    simp [exec, execGateFault, hd]
  case rev =>
    intro k vout s hst
    exact ⟨_, rfl, by simp [hst]⟩
  case clear =>
    intro k s
    exact ⟨_, rfl, by simp⟩
  case low => exact fun _ _ => rfl
  case high => exact fun _ _ => rfl
  case back => exact fun _ _ => rfl
  case sample =>
    intro k vin vout iout dieC p s hd
    obtain ⟨hvin, hdie, hst⟩ := s.sampled_path k vin dieC
    refine ⟨_, (exec_modelStep ..).trans (State.judged_of_not_driving vin vout iout p ?_), hvin, hdie⟩
    simpa [Chan.driving, hst] using hd

end Sys2Proof.Machine
end

section
/-! PROOF. The supplies and clocks (R293–R308), the resets and the start-up (R311–R322). -/

namespace Sys2Proof.Machine

/-! ### Supplies and clocks -/

@[simp] theorem State.applyRwl_out (s : State) (a : Nat) : (s.applyRwl a).out = s.out := by
  unfold State.applyRwl
  split <;> rfl

/-- Settles O9: each event passes the guards of its meaning, and what that meaning writes is the statement's right side. -/
theorem suppliesAndClocksTakeEffect : Obligations.SuppliesAndClocksTakeEffect := by
  unfold Obligations.SuppliesAndClocksTakeEffect
  refine ⟨?railBack, ?railLost, ?pfAssert, ?pfStep, ?pfRelease, ?domain, ?loss, ?back, ?holdover, ?serdesLoss, ?serdesBack,
    ?sync, ?unlock, ?pulse, ?second⟩
  case railBack =>
    intro info s hr ho
    exact ⟨_, by simp only [exec, execRailFault, Nat.not_lt.2 hr, ho, if_true, if_false]; rfl, rfl⟩
  case railLost =>
    intro info s hr ho
    simp [exec, execRailFault, Nat.not_lt.2 hr, ho]
  case pfAssert =>
    intro s he hs hp
    exact ⟨_, by simp only [exec, execPwrfailAssert, he, hp, hs, Option.isSome_none, decide_false, Bool.or_self, if_false,
      Bool.false_eq_true]; rfl, by simp⟩
  case pfStep =>
    intro p s hp
    simp only [exec, execPwrfailStep, hp]
  case pfRelease => exact fun _ => rfl
  case domain =>
    intro d u s hf passed
    simp only [exec, execDomainSwitchOnDone, hf]
  case loss =>
    intro s hr
    simp [exec, execRefclkLoss, hr]
  case back => exact fun s => ⟨_, rfl, rfl, rfl, rfl⟩
  case holdover =>
    intro d s hd
    simp only [exec, execHoldoverExpiry, hd, State.at_clk]
  case serdesLoss =>
    intro r s h1 h3 hr
    simp [exec, execSerdesRefclkLoss, Nat.ne_of_gt h1, Nat.not_lt.2 h3, hr]
  case serdesBack =>
    intro r s h1 h3
    exact ⟨_, by simp only [exec, execSerdesRefclkReturn, Nat.ne_of_gt h1, Nat.not_lt.2 h3, decide_false, Bool.or_self, if_false,
      Bool.false_eq_true]; rfl, rfl⟩
  case sync =>
    intro port t1 t4 s u hw hu hen hsrc hport hup
    subst hu
    simp [exec, execPtpSync, hw, hen, hsrc, hport, hup]
  case unlock =>
    intro d s hd
    exact ⟨_, by simp only [exec, execPtpSampleTimeout, hd]; rfl, rfl, rfl, rfl⟩
  case pulse =>
    intro s hen hsrc htod hset
    simp [exec, execPpsInPulse, hen, hsrc, htod, hset]
  case second =>
    intro s hl hen
    refine ⟨_, by simp only [exec, execPpsOutSecond, hl, hen, Bool.and_self, if_true]; rfl, ?_⟩
    simp

/-! ### Resets and start-up -/

/-- The episode that a reset starts where none is under way (R311, R312). -/
def Episode.started (src reach now : Nat) : Episode :=
  { reach := reach, first := src, joined := setBit 0 src true, asserted := if momentary src then 0 else setBit 0 src true
    began := now, stretchAt := now + msec 2, stretched := false, lineAt := none
    deadline5 := if reach = 1 then some (now + msec 5) else none }

theorem State.resetAssert_starts {s : State} (src : Nat) {reach : Nat} (he : s.rst.episode = none) (hr : 2 ≤ reach) :
    (s.resetAssert src reach).rst.episode = some (Episode.started src reach s.now) := by
  have hreach : s.reachOf reach = reach := by simp [State.reachOf, Nat.not_lt.2 hr]
  have hne : reach ≠ 1 := by omega
  simp [State.resetAssert, hreach, he, Episode.started, hne]

/-- Settles O11: the episode started, its fields read. -/
theorem resetStartsAnEpisode : Obligations.ResetStartsAnEpisode := by
  unfold Obligations.ResetStartsAnEpisode
  intro s he
  exact ⟨_, Episode.started 9 2 s.now, rfl, State.resetAssert_starts 9 he (Nat.le_refl 2), rfl, rfl, rfl, rfl,
    (by decide : setBit 0 9 true = 512)⟩

/-- An episode with the straps still to be read goes on (R313). -/
theorem State.tryEnd_of_unstrapped {s : State} (he : ∃ ep, s.rst.episode = some ep ∧ 2 ≤ ep.reach)
    (hs : s.shelf.strapDone = false) : s.tryEnd = s := by
  obtain ⟨ep, he, hr⟩ := he
  simp [State.tryEnd, he, hr, hs]

theorem State.nextGrant_of_coreStop {s : State} (h : s.coreStop = true) : s.nextGrant = none := by
  have hmay (k : Nat) : s.mayTake k = false := by simp [State.mayTake, h]
  simp [State.nextGrant, hmay]

theorem State.held_of_coreStop {s : State} (h : s.coreStop = true) (r : CmdRec) : s.held r = true := by
  simp [State.held, h]

/-- Settles O10: each command passes the guards of its meaning; what waits for the cores meets their guard first (R317). -/
theorem resetCommandsTakeEffect : Obligations.ResetCommandsTakeEffect := by
  unfold Obligations.ResetCommandsTakeEffect
  refine ⟨?assert, ?release, ?refGood, ?stretch, ?line, ?core, ?wd0, ?wdx, ?kick, fun _ => rfl, fun _ => rfl, ?start, ?straps,
    ?console, ?grants, ?frames, ?waits⟩
  case assert =>
    intro src reach s h11 h3
    simp [exec, execResetSourceAssert, Nat.not_lt.2 h11, h3]
  case release =>
    intro src s h5
    simp [exec, execResetSourceRelease, h5]
  case refGood =>
    intro d s hd
    simp [exec, execResetSourceRelease, hd]
  case stretch =>
    intro ep s he hst hr ha hs
    refine ⟨_, by simp only [exec, execStretchExpiry, he, hst, Bool.false_eq_true, if_false, Bool.and_false]; rfl, ?_⟩
    rw [State.tryEnd_of_unstrapped ⟨_, rfl, by exact hr⟩ (by simpa using hs)]
    simp [hr, usec]
  case line =>
    intro s h
    simp [exec, execSysrstHighConfirm, h]
  case core =>
    intro ep d s he hd
    exact ⟨_, by simp only [exec, execCoreEpisodeTimeout, he, hd]; rfl, rfl, rfl⟩
  case wd0 =>
    intro d s hd
    simp [exec, execWatchdogExpiry, hd]
  case wdx =>
    intro d s hd
    simp [exec, execWatchdogExpiry, hd]
  case kick => exact fun v s => ⟨_, rfl, rfl, rfl⟩
  case start =>
    intro info d s hd hw he hp
    simp [exec, execStartUpStep, hd, hw, he, Nat.not_le.2 hp]
  case straps =>
    intro readings ep c s he hr hl hs hc
    simp [exec, execStrapReadRound, he, hr, hl, hs, hc]
  case console =>
    intro level s hp hl
    simp [exec, execConsoleReset, hp, hl]
  case grants => exact fun s h => ⟨State.nextGrant_of_coreStop h, State.held_of_coreStop h⟩
  case frames =>
    intro s h
    refine ⟨?_, ?_, ?_, ?_, ?_, ?_, ?_, ?_, ?_, ?_, ?_, ?_, ?_, ?_, ?_⟩
    · intros; simp [exec, execClaim, h]
    · intros; simp [exec, execAccept, h]
    · intros; simp [exec, execRefuse, h]
    · intros; simp [exec, execRenew, h]
    · intros; simp [exec, execRelease, h]
    · intros; simp [exec, execStatus, h]
    · intros; simp [exec, execWake, h]
    · intros; simp [exec, execOrder, h]
    · intros; simp [exec, execDone, h]
    · intros; simp [exec, execRapsMessage, h]
    · intros; simp [exec, execPtpSync, h]
    · intros; simp [exec, execCmReq, h]
    · intros; simp [exec, execCmRtu, h]
    · intros; simp [exec, execCmRej, h]
    · intros; simp [exec, execCmDreq, h]
  case waits =>
    intro s h
    refine ⟨?_, ?_, ?_, ?_, ?_, ?_, ?_, ?_⟩
    · intros; simp [exec, execConnect, State.connectWaits, h]
    · intros; simp [exec, execDriveCommandCompletion, h]
    · intros; simp [exec, execMapDeltaApply, h]
    · intros; simp [exec, execIndexDeltaApply, h]
    · intros; simp [exec, execRecordFold, h]
    · intros; simp [exec, execRebuildSliceComplete, h]
    · intros; simp [exec, execResyncBandComplete, h]
    · intros; simp [exec, execReclaim, h]

end Sys2Proof.Machine
end

section
/-! PROOF. What reset leaves (O52). -/

namespace Sys2Proof.Machine

/-- The reset values of the fields named, each read from the register table. -/
theorem State.reset_fields :
    State.reset.fld F.RST_WDT_C0_MS = 0x3E8 ∧ State.reset.fld F.RST_WDT_CX_MS = 0xFA ∧
      State.reset.flag F.TOP_CFGERR_VALID = false ∧ State.reset.fld F.TOP_CFGERR_REASON = 0 := by
  decide +kernel

/-- Every slot comes up enabled, with the insertion of its drives taken up (R273). -/
theorem State.reset_slots :
    ∀ k, k < 24 → State.reset.flag (F.SPC_SLOT_CFG_EN k) = true ∧ State.reset.flag (F.SPC_SLOT_CFG_AUTO_INS k) = true := by
  decide +kernel

/-- Settles O52: the state of reset, evaluated. -/
theorem resetLeavesTheStatedValues : Obligations.ResetLeavesTheStatedValues := by
  unfold Obligations.ResetLeavesTheStatedValues
  obtain ⟨hc0, hcx, hvalid, hreason⟩ := State.reset_fields
  exact ⟨hc0, hcx, State.reset_slots, hvalid, hreason, ⟨_, rfl, rfl, rfl⟩, rfl, rfl, rfl⟩

end Sys2Proof.Machine
end

section
/-! PROOF. Thimble, the black box and the performance monitor (R340–R368). -/

namespace Sys2Proof.Machine

/-! ### Bits -/

theorem bit_setBit_true (m i : Nat) : bit (setBit m i true) i = true := by
  simp [bit, setBit, Nat.testBit_or, Nat.testBit_two_pow_self]

theorem bit_setBit_false (m i : Nat) : bit (setBit m i false) i = false := by
  by_cases h : m.testBit i
  · have hodd : m / 2 ^ i % 2 = 1 := by simpa [Nat.testBit_eq_decide_div_mod_eq] using h
    have hdiv : (m - 2 ^ i) / 2 ^ i = m / 2 ^ i - 1 := by simpa using Nat.sub_mul_div m (2 ^ i) 1
    simp only [bit, setBit, Bool.false_eq_true, if_false, h, if_true, Nat.testBit_eq_decide_div_mod_eq, hdiv]
    simp only [decide_eq_false_iff_not]
    omega
  · simp [bit, setBit, h]

theorem Tab.getL_filter {α : Type} (p : Nat → Bool) (k : Nat) (l : List (Nat × α)) :
    Tab.getL k (l.filter fun e => p e.1) = if p k then Tab.getL k l else none := by
  induction l with
  | nil => simp [Tab.getL]
  | cons e l ih =>
    by_cases he : p e.1 <;> by_cases hk : e.1 = k
    · subst hk; simp [Tab.getL, he]
    · simp [Tab.getL, he, hk, ih]
    · subst hk; simp [he, ih]
    · simp [Tab.getL, he, hk, ih]

/-- The entries that a filter on the keys keeps. -/
theorem Tab.getD_filterKeys {α : Type} (t : Tab α) (p : Nat → Bool) (k : Nat) (d : α) :
    (t.filterT fun k _ => p k).getD k d = if p k then t.getD k d else d := by
  simp only [Tab.getD, Tab.get?, Tab.filterT, Tab.getL_filter]
  split <;> rfl

/-! ### Thimble and the black box -/

@[simp] theorem State.cfgErr_thm (s : State) (reason addr : Nat) : (s.cfgErr reason addr).thm = s.thm := by
  unfold State.cfgErr
  split <;> rfl

/-- Settles O12: each event is its meaning; a source with nothing left out has no summary, an empty staging area nothing to drain. -/
theorem faultCommandsTakeEffect : Obligations.FaultCommandsTakeEffect := by
  unfold Obligations.FaultCommandsTakeEffect
  refine ⟨fun _ _ _ _ _ _ => rfl, fun _ _ => rfl, ?noSummary, ?quiet, fun _ _ _ => rfl, ?fence, fun _ _ => rfl,
    fun _ _ _ => rfl, fun hi s => ⟨_, rfl, rfl, rfl, rfl⟩, fun _ => rfl, ?drained⟩
  case noSummary =>
    intro src s h
    simp only [exec, execRecordRateSecondEnd, State.summary, h, if_true]
  case quiet =>
    intro src d s h
    simp only [exec, execQuietPeriodExpiry, h]
  case fence =>
    intro src s u h
    simp only [exec, execThmFence, State.thmFence, h]
  case drained =>
    intro s h
    refine ⟨_, rfl, ?_⟩
    simp [State.bbxDrain, h]

theorem State.thmClear_of_not_service (s : State) (src : Nat) {path : AccessPath} (h : path = .bar0 ∨ path = .cores) :
    s.thmClear src path = s.cfgErr 5 thmCmdAddr := by
  rcases h with rfl | rfl <;> rfl

/-- Settles O13: operation 3 is a refused write of reason 5 on both paths. -/
theorem permanentFenceIsClearedByServiceOnly : Obligations.PermanentFenceIsClearedByServiceOnly := by
  unfold Obligations.PermanentFenceIsClearedByServiceOnly
  intro src path s hp
  refine ⟨_, rfl, ?_⟩
  rw [s.thmClear_of_not_service src hp]
  exact ⟨s.cfgErr_thm _ _, fun h => ⟨s.cfgErr_valid h _ _, s.cfgErr_reason h _ _ (by decide)⟩⟩

/-! ### The monitor -/

theorem State.pmuWrite_of_on {s : State} (h : s.pmuOn = true) (f : State → State) : s.pmuWrite f = f s := if_pos h

theorem State.pmuWrite_of_off {s : State} (h : s.pmuOn = false) (f : State → State) : s.pmuWrite f = s := by
  simp [State.pmuWrite, h]

@[simp] theorem State.msix_pmu (s : State) (fn v : Nat) : (s.msix fn v).pmu = s.pmu := by
  unfold State.msix
  split
  · rfl
  · split
    · unfold State.setPba; split <;> rfl
    · rfl

@[simp] theorem State.pmuOvf_ctr (s : State) (n : Nat) : (s.pmuOvf n).pmu.ctr = s.pmu.ctr := by
  simp [State.pmuOvf, apply_ite State.pmu]

theorem State.bit_pmuOvf (s : State) (n : Nat) : bit (s.pmuOvf n).pmu.ovf n = true := by
  simp [State.pmuOvf, apply_ite State.pmu, bit_setBit_true]

/-- An odd counter that reaches 2^48 wraps to 0 and overflows (R358). -/
theorem State.pmuAdd_wraps {s : State} {n k : Nat} (hsum : s.pmu.ctr.getD n 0 + k = 2 ^ 48) (hk : k ≠ 0) (hodd : n % 2 = 1) :
    s.pmuAdd n k = State.pmuOvf { s with pmu := { s.pmu with ctr := s.pmu.ctr.put n 0 } } n := by
  simp [State.pmuAdd, hk, State.ctrAdd, hsum, hodd]

/-- Readings that nothing finds hot store the temperature and take the warning back (R408). -/
theorem exec_temperatureSensorRead_cool {readings : List Nat} {s : State} (hlt : readings.foldl max 0 < 105)
    (hcool : s.tooHot (readings.foldl max 0) = false) :
    exec (.temperatureSensorRead readings) s = .next { s with cmd := { s.cmd with
      temp := readings.foldl max 0, smartWarn := setBit s.cmd.smartWarn 1 false } } := by
  have hcool' (u : State) (hu : u.cmd.assocs = s.cmd.assocs) : u.tooHot (readings.foldl max 0) = false := by
    rw [← hcool, State.tooHot, hu, State.tooHot]
  simp [exec, execTemperatureSensorRead, Nat.not_le.2 hlt, hcool']

theorem State.flag_setFld_b2n (s : State) (b : Bool) :
    (s.setFld F.PMU_CTL_FREEZE (b2n b)).flag F.PMU_CTL_FREEZE = b := by
  rw [State.flag, State.setFld_fld_same _ _ _ (by decide) (by decide)]
  cases b <;> rfl

/-- Settles O14. -/
theorem monitorCommandsTakeEffect : Obligations.MonitorCommandsTakeEffect := by
  unfold Obligations.MonitorCommandsTakeEffect
  refine ⟨?snap, ?clear, ?freeze, ?hist, ?sample, ?off, ?wrap, ?temp, ?bmc⟩
  case snap =>
    intro s h
    exact ⟨_, rfl, by simp [State.pmuWrite_of_on h, State.pmuSnap]⟩
  case clear =>
    intro s n h
    exact ⟨_, rfl, by simp [State.pmuWrite_of_on h, State.pmuClearAll, Tab.getD]⟩
  case freeze =>
    intro b s h
    exact ⟨_, rfl, by simp [State.pmuWrite_of_on h, State.flag_setFld_b2n]⟩
  case hist =>
    intro h k s hon
    refine ⟨_, rfl, ?_⟩
    simp only [State.pmuWrite_of_on hon, State.pmuHistClr]
    rw [Tab.getD_filterKeys s.pmu.bins (fun k => decide (k / 32 ≠ h))]
    simp +contextual
  case sample =>
    intro q s h
    exact ⟨_, rfl, by simp [State.pmuWrite_of_on h, State.smpStart]⟩
  case off =>
    intro b h q s hoff
    simp [exec, execPmuSnap, execPmuClrAll, execPmuFreezeWrite, execPmuHistClr, execPmuSampleReadStart,
      State.pmuWrite_of_off hoff]
  case wrap =>
    intro n s hlive hlt hodd
    have hsum : s.pmu.ctr.getD n 0 + (2 ^ 48 - s.pmu.ctr.getD n 0) = 2 ^ 48 := by omega
    refine ⟨_, by simp only [exec, execPmuCounterWrap, hlive, if_true]; rfl, ?_⟩
    rw [State.pmuAdd_wraps hsum (by omega) hodd]
    simp [State.bit_pmuOvf]
  case temp =>
    intro readings s hlt hcool
    exact ⟨_, exec_temperatureSensorRead_cool hlt hcool, rfl, bit_setBit_false _ _⟩
  case bmc =>
    intro s h
    exact ⟨_, _, by simp only [exec, execBmcManagementCommand, h, Bool.not_true, Bool.false_eq_true, if_false]; rfl, rfl, by simp⟩

end Sys2Proof.Machine
end

section
/-! PROOF. One step of the queue (O1, O2). -/

namespace Sys2Proof.Machine

/-- Settles O1: the definition's first case. -/
theorem stepRunsTheFrontCommand : Obligations.StepRunsTheFrontCommand := by
  unfold Obligations.StepRunsTheFrontCommand
  intro c rest s h
  simp only [step, h]

theorem step_idle {s : State} (hp : s.pending = []) (hw : s.net.ctl = [] ∨ s.coreStop = true) : step s = .next s.tick100MHz := by
  rcases hw with hw | hw
  · simp only [step, hp, hw]
  · cases hc : s.net.ctl <;> simp only [step, hp, hc, hw, if_true]

/-- Settles O2: the idle cycle, or the oldest of what waited, which every command answers with a next state. -/
theorem emptyQueueStepTakesTenNanoseconds : Obligations.EmptyQueueStepTakesTenNanoseconds := by
  unfold Obligations.EmptyQueueStepTakesTenNanoseconds
  constructor
  · intro s hp hw
    exact ⟨_, step_idle hp hw, rfl, by simp [State.tick100MHz, hp], by simp [State.tick100MHz], by simp [State.tick100MHz]⟩
  · intro c rest s hp hs hc
    obtain ⟨t, ht, -⟩ := exec_preserves c { s with net := { s.net with ctl := rest, serving := true } }
    refine ⟨t, ht, ?_⟩
    simp only [hp] at ht
    simp only [step, hp, hc, hs, Bool.false_eq_true, if_false, ht]

end Sys2Proof.Machine
end

section
/-! PROOF. The host endpoint (R323–R338). -/

namespace Sys2Proof.Machine

/-- The association that CC.EN starts in function 0 (R326). -/
theorem exec_controllerEnable {s : State} {n : Nat} (sq cq : Nat) (hm : s.fnMemory 0 = true) (ha : s.fn0Assoc = none)
    (hs : s.cmd.assocs.size < s.half 1024) (hf : s.cmd.assocs.freeKey 65536 = some n) :
    ∃ t a, exec (.controllerEnable sq cq) s = .next t ∧ t.cmd.assocs.get? n = some a ∧ a.fn0 = true ∧ a.ready = true ∧
      t.ept.cqs.get? 0 = some { size := cq, head := 0, tail := 0, vec := some 0 } := by
  refine ⟨_, _, by
    simp only [exec, execControllerEnable, hm, ha, Nat.not_le.2 hs, hf, Bool.not_true, Bool.false_eq_true, if_false,
      Option.isSome_none, decide_false, Bool.or_self]
    rfl, Tab.get?_put_same _ _ _, rfl, rfl, Tab.get?_put_same _ _ _⟩

/-- Settles O15: each request passes the guards of its meaning, and what that meaning writes is the statement's right side. -/
theorem endpointCommandsTakeEffect : Obligations.EndpointCommandsTakeEffect := by
  unfold Obligations.EndpointCommandsTakeEffect
  refine ⟨fun _ => rfl, fun _ => rfl, ?up, ?down, ?hot, ?flr, ?reset, ?dropped, ?enable, ?cfgRead, ?cfgWrite, ?doorbell,
    ?arrive, ?timeout, ?quarantine, ?window, ?winEnable, ?winMap⟩
  case up =>
    intro speed width s hd hp hl
    refine ⟨_, by simp only [exec, execEndpointLinkUp, hd, hp, hl, Bool.not_true, Bool.or_self, Bool.false_eq_true, if_false]; rfl,
      rfl, rfl, _, rfl, Nat.le_add_right _ _, ?_⟩
    exact Nat.add_le_add_left (Nat.le_of_lt_succ (Nat.mod_lt _ (Nat.succ_pos _))) _
  case down =>
    intro s hl
    exact ⟨_, by simp only [exec, execEndpointLinkDown, hl, Bool.not_true, Bool.false_eq_true, if_false], rfl⟩
  case hot =>
    intro s hl
    simp only [exec, execHotReset, hl, if_true]
  case flr =>
    intro fn s hl hf
    simp [exec, execFunctionLevelReset, hl, hf]
  case reset =>
    intro s hm
    simp only [exec, execControllerReset, hm, if_true]
  case dropped =>
    intro s hm
    refine ⟨?_, ?_, ?_⟩
    · simp [exec, execControllerReset, hm]
    · intros; simp [exec, execControllerEnable, hm]
    · intros; simp [exec, execDoorbellWrite, hm]
  case enable => exact fun sq cq n s => exec_controllerEnable sq cq
  case cfgRead =>
    intro r s hl hc hf ho hw
    simp [exec, execConfigRequest, hl, hc, Nat.not_le.2 hf, Nat.not_le.2 ho, hw]
  case cfgWrite =>
    intro r s hl hc hf ho hw
    simp [exec, execConfigRequest, hl, hc, Nat.not_le.2 hf, Nat.not_le.2 ho, hw]
  case doorbell =>
    intro qid a v q s ha hm hq hv
    simp [exec, execDoorbellWrite, ha, hm, hq, Nat.not_le.2 hv]
  case arrive =>
    intro tag completer r q s ht hf
    simp [exec, execEndpointCompletionArrive, ht, hf]
  case timeout =>
    intro tag d r s ht hd
    simp only [exec, execEndpointCompletionTimeout, ht, hd]
  case quarantine =>
    intro tag d s ht
    simp only [exec, execTagQuarantineExpiry, ht]
  case window =>
    intro r s hl hp hg hw hm hwd hen hro
    constructor
    · intro hr
      simp [exec, execBar2Request, hl, hp, hg, Nat.not_le.2 hw, hm, hwd, hen, hr]
    · intro hr
      refine ⟨_, by
        simp only [exec, execBar2Request, hl, hp, hg, Nat.not_le.2 hw, hm, hwd, hen, hro, hr, Bool.not_true, Bool.and_false,
          Bool.false_eq_true, Bool.or_false, decide_false, if_false, if_true]
        rfl, ?_⟩
      exact ⟨rfl, rfl⟩
  case winEnable =>
    intro w en s hw
    simp [exec, execPwinEnableWrite, hw]
  case winMap =>
    intro w off ro s hw
    simp [exec, execPwinMapWrite, hw]

end Sys2Proof.Machine
end

section
/-! SUPPORT. What a command writes of the state: its frame, a list of the state's parts. -/

namespace Sys2Proof.Machine

/-- The parts of the state. -/
inductive Part where
  | now | frac | toff | fuses | regs | shelf | rst | pwr | clk | thm | spc | cmd | cfg | beds | drv
  | rill | cph | gus | mnt | net | slu | rack | ept | pmu | mram | nor | out | free | pending
  deriving DecidableEq

/-- A part is the same in both states. -/
def Part.same (s t : State) : Part → Prop
  | .now => t.now = s.now
  | .frac => t.frac = s.frac
  | .toff => t.toff = s.toff
  | .fuses => t.fuses = s.fuses
  | .regs => t.regs = s.regs
  | .shelf => t.shelf = s.shelf
  | .rst => t.rst = s.rst
  | .pwr => t.pwr = s.pwr
  | .clk => t.clk = s.clk
  | .thm => t.thm = s.thm
  | .spc => t.spc = s.spc
  | .cmd => t.cmd = s.cmd
  | .cfg => t.cfg = s.cfg
  | .beds => t.beds = s.beds
  | .drv => t.drv = s.drv
  | .rill => t.rill = s.rill
  | .cph => t.cph = s.cph
  | .gus => t.gus = s.gus
  | .mnt => t.mnt = s.mnt
  | .net => t.net = s.net
  | .slu => t.slu = s.slu
  | .rack => t.rack = s.rack
  | .ept => t.ept = s.ept
  | .pmu => t.pmu = s.pmu
  | .mram => t.mram = s.mram
  | .nor => t.nor = s.nor
  | .out => t.out = s.out
  | .free => t.free = s.free
  | .pending => t.pending = s.pending

/-- Of the state only the parts listed may differ. -/
structure Writes (ps : List Part) (s t : State) : Prop where
  rest : ∀ p, ps.contains p = false → p.same s t

theorem Part.same_refl (s : State) (p : Part) : p.same s s := by
  cases p <;> rfl

theorem Part.same_trans {s t u : State} {p : Part} (h : p.same s t) (h' : p.same t u) : p.same s u := by
  cases p <;> exact Eq.trans h' h

theorem Writes.refl (ps : List Part) (s : State) : Writes ps s s := ⟨fun p _ => p.same_refl s⟩

/-- A frame within a wider one, after a frame. -/
theorem Writes.step {ps qs : List Part} {s t u : State} (h' : Writes qs t u) (hsub : qs.all ps.contains = true) (h : Writes ps s t) :
    Writes ps s u := by
  refine ⟨fun p hp => Part.same_trans (h.rest p hp) (h'.rest p ?_)⟩
  rw [Bool.eq_false_iff]
  intro hq
  rw [List.all_eq_true.1 hsub p (List.contains_iff_mem.1 hq)] at hp
  exact Bool.noConfusion hp

theorem Writes.ite {ps : List Part} {s a b : State} {c : Prop} [Decidable c] (ha : c → Writes ps s a) (hb : ¬c → Writes ps s b) :
    Writes ps s (if c then a else b) := by
  split
  · exact ha ‹_›
  · exact hb ‹_›

theorem Writes.foldl {α : Type} {ps : List Part} {f : State → α → State} (hf : ∀ s a, Writes ps s (f s a)) (l : List α) (s : State) :
    Writes ps s (l.foldl f s) := by
  induction l generalizing s with
  | nil => exact .refl ps s
  | cons a l ih => exact (ih (f s a)).step (List.all_eq_true.2 fun _ h => List.contains_iff_mem.2 h) (hf s a)

/-- A state put together from the parts of one in the frame and from new ones of the parts listed. -/
theorem Writes.upd {ps : List Part} {s t : State}
    {now' frac' toff' fuses' regs' shelf' rst' pwr' clk' thm' spc' cmd' cfg' beds' drv' rill' cph' gus' mnt' net' slu' rack' ept' pmu' mram' nor' out' free' pending'}
    (hpending : pending' = t.pending ∨ ps.contains .pending = true)
    (hfuses : fuses' = t.fuses ∨ ps.contains .fuses = true)
    (hnor : nor' = t.nor ∨ ps.contains .nor = true)
    (hnow : now' = t.now ∨ ps.contains .now = true)
    (hfrac : frac' = t.frac ∨ ps.contains .frac = true)
    (htoff : toff' = t.toff ∨ ps.contains .toff = true)
    (hregs : regs' = t.regs ∨ ps.contains .regs = true)
    (hshelf : shelf' = t.shelf ∨ ps.contains .shelf = true)
    (hrst : rst' = t.rst ∨ ps.contains .rst = true)
    (hpwr : pwr' = t.pwr ∨ ps.contains .pwr = true)
    (hclk : clk' = t.clk ∨ ps.contains .clk = true)
    (hthm : thm' = t.thm ∨ ps.contains .thm = true)
    (hspc : spc' = t.spc ∨ ps.contains .spc = true)
    (hcmd : cmd' = t.cmd ∨ ps.contains .cmd = true)
    (hcfg : cfg' = t.cfg ∨ ps.contains .cfg = true)
    (hbeds : beds' = t.beds ∨ ps.contains .beds = true)
    (hdrv : drv' = t.drv ∨ ps.contains .drv = true)
    (hrill : rill' = t.rill ∨ ps.contains .rill = true)
    (hcph : cph' = t.cph ∨ ps.contains .cph = true)
    (hgus : gus' = t.gus ∨ ps.contains .gus = true)
    (hmnt : mnt' = t.mnt ∨ ps.contains .mnt = true)
    (hnet : net' = t.net ∨ ps.contains .net = true)
    (hslu : slu' = t.slu ∨ ps.contains .slu = true)
    (hrack : rack' = t.rack ∨ ps.contains .rack = true)
    (hept : ept' = t.ept ∨ ps.contains .ept = true)
    (hpmu : pmu' = t.pmu ∨ ps.contains .pmu = true)
    (hmram : mram' = t.mram ∨ ps.contains .mram = true)
    (hout : out' = t.out ∨ ps.contains .out = true)
    (hfree : free' = t.free ∨ ps.contains .free = true)
    (h : Writes ps s t) :
    Writes ps s ⟨now', frac', toff', fuses', regs', shelf', rst', pwr', clk', thm', spc', cmd', cfg', beds', drv', rill', cph', gus', mnt', net', slu', rack', ept', pmu', mram', nor', out', free', pending'⟩ := by
  refine ⟨fun p hp => Part.same_trans (h.rest p hp) ?_⟩
  have key {α : Type} {x y : α} {p : Part} (hp : ps.contains p = false) (hx : x = y ∨ ps.contains p = true) : x = y :=
    hx.resolve_right (by rw [hp]; exact Bool.false_ne_true)
  cases p

  case now => exact key hp hnow
  case frac => exact key hp hfrac
  case toff => exact key hp htoff
  case fuses => exact key hp hfuses
  case regs => exact key hp hregs
  case shelf => exact key hp hshelf
  case rst => exact key hp hrst
  case pwr => exact key hp hpwr
  case clk => exact key hp hclk
  case thm => exact key hp hthm
  case spc => exact key hp hspc
  case cmd => exact key hp hcmd
  case cfg => exact key hp hcfg
  case beds => exact key hp hbeds
  case drv => exact key hp hdrv
  case rill => exact key hp hrill
  case cph => exact key hp hcph
  case gus => exact key hp hgus
  case mnt => exact key hp hmnt
  case net => exact key hp hnet
  case slu => exact key hp hslu
  case rack => exact key hp hrack
  case ept => exact key hp hept
  case pmu => exact key hp hpmu
  case mram => exact key hp hmram
  case nor => exact key hp hnor
  case out => exact key hp hout
  case free => exact key hp hfree
  case pending => exact key hp hpending

/-! ### The registers -/

theorem State.setReg_writes (s : State) (a : Nat) (w : Word) : Writes [.regs] s (s.setReg a w) := by
  unfold State.setReg
  apply Writes.upd (h := .refl _ s)
  all_goals with_reducible first | exact Or.inr rfl | exact Or.inl rfl

theorem State.setFld_writes (s : State) (f : Fld) (v : Nat) : Writes [.regs] s (s.setFld f v) := s.setReg_writes _ _

theorem State.bump_writes (s : State) (f : Fld) (n : Nat) : Writes [.regs] s (s.bump f n) := s.setFld_writes _ _

theorem State.applyRwl_writes (s : State) (a : Nat) : Writes [.regs] s (s.applyRwl a) := by
  unfold State.applyRwl
  split
  · exact s.setReg_writes _ _
  · exact .refl _ s

theorem State.applyRwls_writes (s : State) (l : List Nat) : Writes [.regs] s (s.applyRwls l) :=
  Writes.foldl State.applyRwl_writes l s

theorem State.applyFld_writes (s : State) (f : Fld) : Writes [.regs] s (s.applyFld f) := by
  unfold State.applyFld
  split
  · exact s.setFld_writes _ _
  · exact .refl _ s

/-! ### Records of Thimble that call for no reaction (R341, R349) -/

theorem State.setSrc_writes (s : State) (src : Nat) (x : SrcSt) : Writes [.thm] s (s.setSrc src x) := by
  unfold State.setSrc
  apply Writes.upd (h := .refl _ s)
  all_goals with_reducible first | exact Or.inr rfl | exact Or.inl rfl

theorem State.bbxCommit_writes (s : State) (r : BbRec) : Writes [.regs, .thm, .mram] s (s.bbxCommit r) := by
  unfold State.bbxCommit State.bbxWriteHeader
  apply Writes.upd (h := .refl _ s)
  all_goals with_reducible first | exact Or.inr rfl | exact Or.inl rfl

theorem State.bbxPut_writes (s : State) (r : BbRec) : Writes [.regs, .thm, .mram] s (s.bbxPut r) := by
  have hstaged (l : List BbRec) : Writes [.regs, .thm, .mram] s { s with thm := { s.thm with staged := l } } := by
    apply Writes.upd (h := .refl _ s)
    all_goals with_reducible first | exact Or.inr rfl | exact Or.inl rfl
  unfold State.bbxPut
  split
  · exact s.bbxCommit_writes r
  · dsimp only
    split
    · exact hstaged _
    · exact (State.bump_writes _ _ _).step rfl (hstaged _)

theorem State.summary_writes (s : State) (src : Nat) : Writes [.regs, .thm, .mram] s (s.summary src) := by
  unfold State.summary
  refine Writes.ite (fun _ => .refl _ s) (fun _ => ?_)
  exact (State.bbxPut_writes _ _).step rfl ((s.setSrc_writes _ _).step rfl (.refl _ s))

theorem State.record_writes (s : State) (src sev react code : Nat) (ctx : Bytes) :
    Writes [.regs, .thm, .mram] s (s.record src sev react code ctx) := by
  have hlast (s : State) : Writes [.regs, .thm, .mram] s (if sev = 0 then s else
      ((s.setFld F.THM_LAST_SOURCE src).setFld F.THM_LAST_SEVERITY sev).setFld F.THM_LAST_REACTION react) :=
    .ite (fun _ => .refl _ s) fun _ =>
      (State.setFld_writes _ _ _).step rfl ((State.setFld_writes _ _ _).step rfl ((s.setFld_writes _ _).step rfl (.refl _ s)))
  have hsecond (s : State) (x : SrcSt) (n : Nat) : Writes [.regs, .thm, .mram] s
      (if (s.srcSt src).recSec = n then s else (s.summary src).setSrc src x) :=
    .ite (fun _ => .refl _ s) fun _ => (State.setSrc_writes _ _ _).step rfl (s.summary_writes src)
  unfold State.record
  dsimp only
  refine .ite (fun _ => (State.bbxPut_writes _ _).step rfl (hlast s)) fun _ => .ite (fun _ => ?_) fun _ => ?_
  · exact (State.bump_writes _ _ _).step rfl ((State.setSrc_writes _ _ _).step rfl ((hsecond _ _ _).step rfl (hlast s)))
  · exact (State.bbxPut_writes _ _).step rfl ((State.setSrc_writes _ _ _).step rfl ((hsecond _ _ _).step rfl (hlast s)))

theorem State.putEntry_writes (s : State) (e : Nat) (d : Nat × Nat × Nat × Nat × Nat × Nat) : Writes [.regs] s (s.putEntry e d) :=
  (State.setFld_writes _ _ _).step rfl ((State.setFld_writes _ _ _).step rfl ((State.setFld_writes _ _ _).step rfl
    ((State.setFld_writes _ _ _).step rfl ((State.setFld_writes _ _ _).step rfl (s.setFld_writes _ _)))))

theorem State.putDefaults_writes (s : State) : Writes [.regs, .thm, .mram] s s.putDefaults := by
  have hrefill : Writes [.regs, .thm, .mram] s { s with thm := { s.thm with refill := false } } := by
    apply Writes.upd (h := .refl _ s)
    all_goals with_reducible first | exact Or.inr rfl | exact Or.inl rfl
  exact (Writes.foldl (ps := [.regs]) (fun s e => .ite (fun _ => .refl _ s) fun _ => s.putEntry_writes e _) _ _).step rfl hrefill

theorem State.thmBoundary_writes (s : State) (src : Nat) : Writes [.regs] s (s.thmBoundary src) :=
  (State.applyRwls_writes _ _).step rfl (s.applyRwl_writes _)

/-- A note calls for no reaction: it writes its record, and Thimble's table and counts. -/
theorem State.note_writes (s : State) (group : Nat) (ctx : Bytes) : Writes [.regs, .thm, .mram] s (s.note group ctx) := by
  have hready (s : State) : Writes [.regs, .thm, .mram] s ((if s.thm.refill then s.putDefaults else s).thmBoundary 3) :=
    (State.thmBoundary_writes _ _).step rfl (.ite (fun _ => s.putDefaults_writes) fun _ => .refl _ s)
  unfold State.note State.raise
  refine .ite (fun _ => .refl _ s) fun _ => ?_
  dsimp only
  split <;> rw [if_pos rfl] <;> exact (State.record_writes _ _ _ _ _ _).step rfl (hready s)

@[simp] theorem State.note_mnt (s : State) (group : Nat) (ctx : Bytes) : (s.note group ctx).mnt = s.mnt :=
  (s.note_writes group ctx).rest .mnt rfl

@[simp] theorem State.note_fuses (s : State) (group : Nat) (ctx : Bytes) : (s.note group ctx).fuses = s.fuses :=
  (s.note_writes group ctx).rest .fuses rfl

@[simp] theorem State.note_openKey (s : State) (group : Nat) (ctx : Bytes) (which : Nat) (k : WrappedKey) :
    (s.note group ctx).openKey which k = s.openKey which k := by
  simp [State.openKey]

end Sys2Proof.Machine
end

section
/-! PROOF. The service protocol (R376–R382): requests of a session, and what its messages do. -/

namespace Sys2Proof.Machine

/-- Settles O42: the cases of a request, taken apart by its session, its tag, its number and its body. -/
theorem serviceRequestsAreCarriedOut : Obligations.ServiceRequestsAreCarriedOut := by
  unfold Obligations.ServiceRequestsAreCarriedOut
  refine ⟨fun h type run s ho => State.svc_open ho run, ?repeated, ?older, ?closed, ?badTag⟩
  case repeated =>
    intro h type run x r s hp ht hx hr
    simp only [State.svc, hp, ht, hx, hr, Bool.not_true, Bool.false_eq_true, if_false]
  case older =>
    intro h type run x s hp ht hx hr hold
    simp only [State.svc, hp, ht, hx, hr, hold, Bool.not_true, Bool.false_eq_true, if_false, if_true]
  case closed =>
    rintro h type run s (hp | hx)
    · simp [State.svc, hp]
    · simp [State.svc, hx]
  case badTag =>
    intro h type run x s hp ht hx
    simp [State.svc, hp, ht, hx]

/-! ### Messages of the service port -/

/-- The answer of a step that carries a new request out. -/
theorem next_svc_open {s : State} {h : SvcHead} {type : Nat} (ho : s.svcOpen h type = true) (run : State → State) :
    (.next (s.svc h type run) : Outcome) = .next (run (s.svcNoted h type)) :=
  congrArg _ (State.svc_open ho run)

/-- Settles O43: outside a session each message passes its guards; in one, `State.svc_open` gives the state in which the
request is carried out, and its guards are the statement's hypotheses. -/
theorem serviceMessagesTakeEffect : Obligations.ServiceMessagesTakeEffect := by
  unfold Obligations.ServiceMessagesTakeEffect
  refine ⟨?hello, ?full, ?identify, ?timeout, ?regRead, ?regWrite, ?refused, ?reset, ?commit, ?recordRead, ?piece, ?lastPiece,
    ?time, ?ring, ?format, ?confirm, ?install, ?replace⟩
  case hello =>
    intro client key request s hp hk hs
    refine ⟨_, { key := sessionKey (s.openKey 2 key) client (randomBytes s.mnt.randoms), lastReq := 0, responses := []
                 at_ := (s.note 0x70 (le 2 1)).now }, by
      simp only [exec, execHello, hp, hk, Nat.not_le.2 hs, Bool.not_true, Bool.false_eq_true, if_false]
      rfl, ?_, rfl, rfl, ?_⟩
    · simp [State.svcSend]
    · simp [State.svcSend]
  case full =>
    intro client key request s hp hk hs
    simp [exec, execHello, hp, hk, hs]
  case identify =>
    intro request s hp
    simp [exec, execIdentifyMessage, hp]
  case timeout =>
    intro k x s hx
    simp only [exec, execServiceSessionTimeout, hx]
    rfl
  case regRead =>
    intro h addr count b s u v ho hu ha hc hc' hr
    subst hu
    simp [exec, execRegRead, State.svc_open ho, ha, hc, Nat.not_lt.2 hc', hr]
  case regWrite =>
    intro h addr value w s u v x ho hu ha hw hr
    subst hu
    have hin : ¬16777216 ≤ addr := Nat.not_le.2 ha
    simp [exec, execRegWrite, State.svc_open ho, hin, hw, hr]
  case refused =>
    intro h addr n value s u v ho hu ha hw hn
    subst hu
    have hin : ¬16777216 ≤ addr := Nat.not_le.2 ha
    by_cases h1 : n = 1 <;> simp [exec, execRegWrite, State.svc_open ho, hin, hw, hn, h1]
  case reset =>
    intro h s u ho hu
    subst hu
    exact ⟨next_svc_open ho _, next_svc_open ho _⟩
  case commit =>
    intro h s u ho hu
    subst hu
    exact next_svc_open ho _
  case recordRead =>
    intro h f off len s u ho hu hf hl
    subst hu
    simp [exec, execCfgRecordRead, State.svc_open ho, hf, Nat.not_lt.2 hl]
  case piece =>
    intro h f off piece v al table budget allow s u ho hu hf hp hv hl
    subst hu hv
    rcases hf with rfl | rfl | rfl <;>
      simp [exec, execCfgRecordWrite, State.svc_open ho, Nat.not_lt.2 hp, Nat.not_lt.2 hl]
  case lastPiece =>
    intro h f off piece v al table budget allow s u w x ho hu hf hp hv hl hne hw hx
    subst hu hw
    rw [hv] at hl hne hx ⊢
    rcases hf with rfl | ⟨rfl, ht⟩ | rfl
    · simp [exec, execCfgRecordWrite, State.svc_open ho, Nat.not_lt.2 hp, Nat.not_lt.2 hl, hne, hx]
    · simp [exec, execCfgRecordWrite, State.svc_open ho, Nat.not_lt.2 hp, Nat.not_lt.2 hl, hne, hx, ht]
    · simp [exec, execCfgRecordWrite, State.svc_open ho, Nat.not_lt.2 hp, Nat.not_lt.2 hl, hne, hx]
  case time =>
    intro h ns s u ho hu
    subst hu
    exact next_svc_open ho _
  case ring =>
    intro h r first count k e b s u ho hu h1 h3 hc hc' hrom hr
    subst hu
    have hring : ¬(r = 0) := by omega
    rcases hrom with rfl | hrom
    · have h20 : ¬20 < count := Nat.not_lt.2 hc'
      simp [exec, execReadRing, State.svc_open ho, hc, h20, hr]
    · simp [exec, execReadRing, State.svc_open ho, hring, Nat.not_lt.2 h3, hc, Nat.not_lt.2 hc', hrom, hr]
  case format =>
    intro h s u ho hu
    subst hu
    simp [exec, execBbxFormat, State.svc_open ho]
  case confirm =>
    intro s hp hk
    simp [exec, execUartConfirmation, hp, hk]
  case install =>
    intro key request s u v hp hw hk hc hu hv
    subst hu
    simp [exec, execServiceKeyFirstInstall, hp, hw, hk, hc, hv]
  case replace =>
    intro h key s u v ho hu hv
    subst hu
    simp [exec, execServiceKeyReplace, State.svc_open ho, hv]

end Sys2Proof.Machine
end

section
/-! PROOF. Images and their activation (R383–R389), and the activities of the arbiter (R371–R373). -/

namespace Sys2Proof.Machine

/-! ### The pieces of an image -/

/-- An install goes on, and the answer says how many of its blocks are written. -/
def State.pieceAnswer (s : State) (h : SvcHead) (off : Nat) (j : Install) : State :=
  State.respond { s with mnt := { s.mnt with install := some j } } h 0x11 .ok (be 4 off ++ be 4 j.blocks.length)

/-- What a piece that was taken into the install `j` leads to (R386): its block, once complete, is written or ends the install. -/
def State.pieceIn (s : State) (h : SvcHead) (off : Nat) (j : Install) : State :=
  if !j.complete (off / 4096) || j.blocks.contains (off / 4096) then s.pieceAnswer h off j
  else
    let b := j.got.readN (4096 * (off / 4096)) 4096
    if leNat (b.drop 4092) ≠ crc32c (b.take 4092) then
      State.respond { s with mnt := { s.mnt with install := none } } h 0x11 .imageInvalid []
    else State.pieceAnswer { s with nor := s.nor.writeN (slotBase j.slot + 4096 * (off / 4096)) b } h off
      { j with got := j.got.zero (4096 * (off / 4096)) 4096, blocks := j.blocks ++ [off / 4096] }

theorem exec_imageData {h : SvcHead} {off : Nat} {piece : Bytes} {i : Install} {s : State} (ho : s.svcOpen h 0x11 = true)
    (hi : (s.svcNoted h 0x11).mnt.install = some i) (hs : i.session = h.session) (ha : off % 1024 = 0)
    (hp : piece.length = 1024) (hl : off + 1024 ≤ i.length) :
    exec (.imageData h off piece) s = .next ((s.svcNoted h 0x11).pieceIn h off
      { i with got := i.got.writeN off piece, have_ := (off :: i.have_).eraseDups }) := by
  have hguard : (off % 1024 ≠ 0 || piece.length ≠ 1024 || i.length < off + 1024) = false := by
    simp [ha, hp, Nat.not_lt.2 hl]
  refine (next_svc_open ho _).trans ?_
  simp only [hi, hs, ne_eq, not_true_eq_false, if_false, hguard, Bool.false_eq_true, State.pieceIn,
    State.pieceAnswer]

/-- Settles O44: the pieces of an image by the two lemmas above; the other messages pass their guards. -/
theorem imageMessagesTakeEffect : Obligations.ImageMessagesTakeEffect := by
  unfold Obligations.ImageMessagesTakeEffect
  refine ⟨?begun, ?data, ?ended, ?activate, ?health, ?advance⟩
  case begun =>
    intro h len s u ho hu h0 hm hl ha hi
    subst hu
    have hl' : ¬50331648 < len := Nat.not_lt.2 hl
    cases hinst : (s.svcNoted h 0x10).mnt.install with
    | none => simp [exec, execImageBegin, State.svc_open ho, h0, hm, hl', ha, hinst]
    | some i =>
      rw [hinst] at hi
      simp [exec, execImageBegin, State.svc_open ho, h0, hm, hl', ha, hinst, show i.session = h.session from hi]
  case data =>
    intro h off piece i j s u ho hu hi hs ha hp hl hj
    subst hu
    subst hj
    rw [exec_imageData ho hi hs ha hp hl]
    generalize ({ i with got := i.got.writeN off piece, have_ := (off :: i.have_).eraseDups } : Install) = j
    constructor
    · intro hb
      have hkept : (!j.complete (off / 4096) || j.blocks.contains (off / 4096)) = true := by
        rcases hb with hb | hb
        · rw [hb]; rfl
        · rw [hb, Bool.or_true]
      rw [State.pieceIn, if_pos hkept, State.pieceAnswer]
    · intro b hc hn hb
      have hfull : ¬(!j.complete (off / 4096) || j.blocks.contains (off / 4096)) = true := by
        rw [hc, hn]; exact Bool.false_ne_true
      rw [State.pieceIn, if_neg hfull, hb]
      constructor
      · intro hcrc
        simp only [State.pieceAnswer, ne_eq, hcrc, not_true_eq_false, if_false]
      · intro hcrc
        simp only [ne_eq, hcrc, not_false_eq_true, if_true]
  case ended =>
    intro h i s u v ho hu hi hs hv
    subst hu hv
    simp only [exec, execImageEnd, State.svc_open ho, hi, hs, ne_eq, not_true_eq_false, if_false]
  case activate =>
    intro h g n k x s u v ho hu hg hx hsv ha har
    subst hu
    rcases hg with rfl | ⟨h1, h9, hw, hhas, hmaj⟩
    · simp [exec, execActivate, State.svc_open ho, hx, Nat.not_lt.2 hsv, ha, har]
    · simp [exec, execActivate, State.svc_open ho, h1, h9, hw, hhas, hmaj, hx, Nat.not_lt.2 hsv, ha, har]
  case health =>
    intro d ok a s ha hd hp
    refine ⟨?_, ?_, ?_⟩
    · intro hf
      refine ⟨_, by simp only [exec, execActivationHealthEnd, ha, hd, hp, hf]; rfl, ?_⟩
      simp
    · intro p u hpf hu hok hsv
      subst hu hok
      have hno : (p && !a.failed) = false := by rcases hpf with h | h <;> simp [h]
      simp [exec, execActivationHealthEnd, ha, hd, hp, hno, hsv]
    · intro p u hpf hu hok
      subst hu hok
      have hno : (p && !a.failed) = false := by rcases hpf with h | h <;> simp [h]
      simp [exec, execActivationHealthEnd, ha, hd, hp, hno]
  case advance =>
    intro h s u ho hu ht ha hact hmin hmax
    subst hu
    have hstate : ((s.svcNoted h 0x14).mnt.active ≠ 0 && (s.svcNoted h 0x14).mnt.active ≠ 0x1FF) = false := by
      rcases hact with hact | hact <;> simp [hact]
    have hver : (32 < (s.svcNoted h 0x14).slotSecVer ((s.svcNoted h 0x14).mnt.active % 2) ||
        (s.svcNoted h 0x14).slotSecVer ((s.svcNoted h 0x14).mnt.active % 2) < (s.svcNoted h 0x14).fuses.secVer) = false := by
      simp [Nat.not_lt.2 hmin, Nat.not_lt.2 hmax]
    refine (next_svc_open ho _).trans ?_
    simp only [ht, ha, hstate, hver, ne_eq, not_true_eq_false, decide_false, Option.isSome_none, Bool.or_self, Bool.false_eq_true,
      if_false]

end Sys2Proof.Machine
end

section
/-! PROOF. The activities of the arbiter (R371–R373). -/

namespace Sys2Proof.Machine

/-- Settles O45: a start is carried out on the arbiter's answer; what waited goes on by its judgement. -/
theorem activitiesTakeEffect : Obligations.ActivitiesTakeEffect := by
  unfold Obligations.ActivitiesTakeEffect
  refine ⟨?test, ?standby, ?bed, ?withdraw, ?report, ?deferred, ?lapsed⟩
  case test =>
    intro h c bed n k s u v ho hu hc ha
    subst hu
    rcases hc with rfl | rfl <;> simp [exec, execActivityStart, State.svc_open ho, ha]
  case standby =>
    intro h bed n k s u v ho hu hs ha
    subst hu
    simp [exec, execActivityStart, State.svc_open ho, ha, hs]
  case bed =>
    intro h bed n k x s u v ho hu hx hown hmnt h3 h4
    subst hu
    have hbed : (s.svcNoted h 0x20).bed? bed = some x := hx
    constructor
    · intro ha
      simp [exec, execActivityStart, State.svc_open ho, hbed, hown, hmnt, h3, h4, ha]
    · intro ha
      simp [exec, execActivityStart, State.svc_open ho, hbed, hown, hmnt, h3, h4, ha]
  case withdraw =>
    intro h k a s u ho hu hf hst
    subst hu
    refine (next_svc_open ho _).trans ?_
    simp only [hf, hst, ne_eq, not_true_eq_false, if_false]
  case report =>
    intro h s u ho hu
    subst hu
    exact next_svc_open ho _
  case deferred =>
    intro k o a s u hf hu hl
    subst hu
    refine ⟨fun hj he => ?_, fun hj he => ?_, ?_⟩
    · simp only [exec, execDeferredActivityStart, hf, hl, hj, he, Bool.false_eq_true, if_false, OfNat.zero_ne_ofNat, zero_ne_one,
        decide_false, Bool.or_self]
    · simp only [exec, execDeferredActivityStart, hf, hl, hj, he, Bool.false_eq_true, if_false, if_true,
        OfNat.ofNat_ne_one, Nat.reduceEqDiff, decide_false, Bool.or_self]
    · rintro (hj | he)
      · simp only [exec, execDeferredActivityStart, hf, hl, hj, decide_true, Bool.true_or, Bool.false_eq_true, if_false, if_true]
      · simp only [exec, execDeferredActivityStart, hf, hl, he, Bool.or_true, Bool.false_eq_true, if_false, if_true]
  case lapsed =>
    intro k a s u hf hu hl
    subst hu
    simp [exec, execDeferredActivityStart, hf, hl]

end Sys2Proof.Machine
end

section
/-! PROOF. The service protocol on beds, namespaces, tenants, the rack and the units (R382, R390–R393). -/

namespace Sys2Proof.Machine

/-! ### Beds and namespaces -/

/-- A request to create a bed that nothing refuses (R390). -/
theorem exec_bedCreate {h : SvcHead} {c : BedCreate} {k : Nat} {s v : State} (ho : s.svcOpen h 0x21 = true)
    (hfit : createFits c = true) (hnew : (s.svcNoted h 0x21).beds.get? c.bed = none)
    (haw : (s.svcNoted h 0x21).shelf.st = .awake) (hdrv : ∀ m, m < c.members → (s.svcNoted h 0x21).createRefusal c m = 0)
    (hk : bedBands c.hMib (createE c) (c.drives.map (·.sectors)) = some k)
    (hv : (s.svcNoted h 0x21).commitData { (s.svcNoted h 0x21).cfg.data with
      beds := (s.svcNoted h 0x21).cfg.data.beds.put c.bed ⟨c.bedId, (s.svcNoted h 0x21).fuses.serial, [], false⟩ } = some v) :
    exec (.bedCreate h c) s =
      .next (let w := v.setBed c.bed (createBed c k v.dev)
             let x := State.reserveBed { w with mram := w.mram.zero (0x1000000 + 0x200000 * c.bed) 0x200000 } c.bed
             let y := (List.range c.members).foldl (fun s m =>
               ((s.driveCmd c.bed m .dealloc 0 (match c.drives[m]? with | some d => d.sectors | none => 0) [] .dealloc).putSuper c.bed m
                 false id).writeDesc c.bed m) x
             ((y.fixFill c.bed).syncDomains).respond h 0x21 .ok (bedBody 1 c.bed c.bedId)) := by
  have hbed : (s.svcNoted h 0x21).bed? c.bed = none := hnew
  have hgood : (List.range c.members).filter (fun m => (s.svcNoted h 0x21).createRefusal c m ≠ 0) = [] := by
    rw [List.filter_eq_nil_iff]
    intro m hm
    simp [hdrv m (List.mem_range.1 hm)]
  refine (next_svc_open ho _).trans ?_
  simp only [hfit, hbed, haw, hgood, hk, hv, Bool.not_true, Bool.false_eq_true, if_false, Option.isSome_none, ne_eq,
    not_true_eq_false, decide_false, Bool.or_self, List.isEmpty_nil] <;> rfl

/-- Settles O46: in the state in which the request is carried out, the guards are the hypotheses. -/
theorem bedMessagesTakeEffect : Obligations.BedMessagesTakeEffect := by
  unfold Obligations.BedMessagesTakeEffect
  refine ⟨?create, ?delete, ?member, ?readOnly, ?index, ?handover, ?advance, ?rewrap, ?retire⟩
  case create =>
    intro h c k s u v ho hu hfit hnew haw hdrv hk hv
    subst hu
    exact exec_bedCreate ho hfit hnew haw hdrv hk hv
  case delete =>
    intro h b x s u v ho hu hx hown hns hv
    subst hu
    have hbed : (s.svcNoted h 0x21).bed? b = some x := hx
    refine (next_svc_open ho _).trans ?_
    simp only [hbed, hown, hns, hv, Bool.not_true, Bool.or_self, Bool.false_eq_true, if_false]
  case member =>
    intro h b m slot n k x d s u v ho hu hx hd hm hslot hown haw hdown hfree href ha
    subst hu
    have hbed : (s.svcNoted h 0x21).bed? b = some x := hx
    have hplace : (decide (slot = x.slotOf m) ||
        (s.svcNoted h 0x21).beds.vals.all (fun y => y.members.vals.all (fun z => z.slot ≠ slot))) = true :=
      Bool.or_eq_true_iff.2 (hfree.imp_left decide_eq_true)
    refine (next_svc_open ho _).trans ?_
    simp only [hbed, hd, Nat.not_le.2 hm, Nat.not_le.2 hslot, hown, haw, hdown, hplace, href, ha, decide_false, Bool.or_self,
      Bool.not_true, Bool.false_eq_true, ne_eq, not_true_eq_false, if_false, if_true]
  case readOnly =>
    intro h b x s u ho hu hx hown hst hfull
    subst hu
    have hbed : (s.svcNoted h 0x21).bed? b = some x := hx
    simp [exec, execBedReadmitReadOnly, State.svc_open ho, hbed, hown, hst, hfull]
  case index =>
    intro h b media x s u ho hu hx hown hmnt haw
    subst hu
    have hbed : (s.svcNoted h 0x21).bed? b = some x := hx
    simp [exec, execBedRebuildIndex, State.svc_open ho, hbed, hown, hmnt, haw]
  case handover =>
    intro h b x s u ho hu hx hown hjoin hdet haw hpeer hnone
    subst hu
    have hbed : (s.svcNoted h 0x21).bed? b = some x := hx
    simp [exec, execBedHandover, State.svc_open ho, hbed, hown, hjoin, hdet, haw, hpeer, hnone]
  case advance =>
    intro h nsid floor high n s u v ho hu hn he hh hv
    subst hu
    simp [exec, execEpochAdvance, State.svc_open ho, hn, he, Nat.not_le.2 hh, hv]
  case rewrap =>
    intro h nsid r k n s u v ho hu hn he ha
    subst hu
    simp [exec, execEpochRewrap, State.svc_open ho, hn, he, ha]
  case retire =>
    intro h nsid e blocks floor high n x s u v ho hu hn he hlt hx hheld hv
    subst hu
    have hbed : (s.svcNoted h 0x22).bed? n.bed = some x := hx
    refine (next_svc_open ho _).trans ?_
    simp only [hn, hbed, he, Nat.not_le.2 hlt, hheld, hv, Bool.false_eq_true, if_false]

/-! ### The rack and the tenants -/

/-- A change of the tenants' table that is committed (R54). -/
theorem State.putTenants_of_commit {s v : State} {t : Tab Tenant} (hv : s.commitData { s.cfg.data with tenants := t } = some v)
    (h : SvcHead) (op pos : Nat) (after : State → State) :
    s.putTenants h op pos t after = (after v).respond h 0x25 .ok ((after v).tenantBody op pos) := by
  simp only [State.putTenants, hv]

/-- A change of one tenant's entry that is committed. -/
theorem State.onTenant_of_commit {s v : State} {pos : Nat} {x y : Tenant} {f : Tenant → Option Tenant}
    (hx : s.cfg.data.tenants.get? pos = some x) (hf : f x = some y)
    (hv : s.commitData { s.cfg.data with tenants := s.cfg.data.tenants.put pos y } = some v) (h : SvcHead) (op : Nat)
    (after : State → State) : s.onTenant h op pos f after = (after v).respond h 0x25 .ok ((after v).tenantBody op pos) := by
  simp only [State.onTenant, hx, hf, State.putTenants_of_commit hv]

/-- Settles O48: a commit that succeeds, of the record, the key or a tenant's entry. -/
theorem fleetMessagesTakeEffect : Obligations.FleetMessagesTakeEffect := by
  unfold Obligations.FleetMessagesTakeEffect
  refine ⟨?piece, ?last, ?key, ?release, ?wake, ?write, ?entry, ?window⟩
  case piece =>
    intro h off piece v s u ho hu hp hv hl
    subst hu hv
    simp [exec, execRackRecordPiece, State.svc_open ho, Nat.not_lt.2 hp, Nat.not_lt.2 hl]
  case last =>
    intro h off piece v table budget allow s u w x ho hu hp hv hl ht hw hx
    subst hu hw
    rw [hv] at hl hx
    simp [exec, execRackRecordPiece, State.svc_open ho, Nat.not_lt.2 hp, Nat.not_lt.2 hl, ht, hx]
  case key =>
    intro h key s u v ho hu hv
    subst hu
    simp [exec, execRackKey, State.svc_open ho, hv]
  case release =>
    intro h s u ho hu hr
    subst hu
    simp [exec, execRackRelease, State.svc_open ho, hr]
  case wake =>
    intro h s u ho hu
    subst hu
    exact next_svc_open ho _
  case write =>
    intro h pos id name s u v ho hu hp hid hn hother hv
    subst hu
    refine (next_svc_open ho _).trans ?_
    simp only [Nat.not_le.2 hp, hid, Nat.not_lt.2 hn, hother, decide_false, Bool.or_self, Bool.false_eq_true, if_false]
    rw [State.putTenants_of_commit hv]
  case entry =>
    intro h pos x s u v ho hu hx
    subst hu
    refine ⟨fun hns hv => ?_, fun hv => ?_, fun hv => ?_, fun pre hne hlen hroom hv => ?_, fun hv => ?_⟩
    · refine (next_svc_open ho _).trans ?_
      simp only [hx, hns, Bool.false_eq_true, if_false]
      rw [State.putTenants_of_commit hv]
    · exact (next_svc_open ho _).trans (congrArg _ (State.onTenant_of_commit hx (by rfl) hv h 3 _))
    · exact (next_svc_open ho _).trans (congrArg _ (State.onTenant_of_commit hx (by rfl) hv h 4 _))
    · refine (next_svc_open ho _).trans ?_
      have hlen0 : ¬pre.length = 0 := by simpa using hne
      simp only [hlen0, Nat.not_lt.2 hlen, decide_false, Bool.or_self, Bool.false_eq_true, if_false]
      rw [State.onTenant_of_commit hx (if_neg (Nat.not_le.2 hroom)) hv]
    · exact (next_svc_open ho _).trans (congrArg _ (State.onTenant_of_commit hx (by rfl) hv h 6 _))
  case window =>
    intro h pos w x y a s u ho hu hx hy ha hpos
    subst hu
    have hassoc : (s.svcNoted h 0x25).assoc? y.assoc = some a := ha
    simp [exec, execTenantRevokeWindow, State.svc_open ho, Tab.has, hx, hy, hassoc, hpos]

/-! ### Units and Rill jobs -/

/-- What a session's own Rill job is asked (R382). -/
theorem State.onJob_of_own {s : State} {h : SvcHead} {j : SvcJob} (hj : s.mnt.svcJob = some j) (hs : j.session = h.session)
    (f : SvcJob → State) : s.onJob h f = f j := by
  simp only [State.onJob, hj, hs, if_true]

/-- Settles O49: the units' messages pass their guards; a job's are asked of the session's own job. -/
theorem unitMessagesTakeEffect : Obligations.UnitMessagesTakeEffect := by
  unfold Obligations.UnitMessagesTakeEffect
  refine ⟨?unit, ?lane, ?ddr, ?jobBegin, ?job⟩
  case unit =>
    intro h src s u v ho hu hl
    subst hu
    refine ⟨fun hv => ?_, fun hv => ?_, fun hv => ?_, fun hv => ?_⟩
    · simp [exec, execUnitFence, State.svc_open ho, hl, hv]
    · simp [exec, execUnitFence, State.svc_open ho, hl, hv]
    · simp [exec, execUnitReadmit, State.svc_open ho, hl, hv]
    · simp [exec, execUnitClearPermanent, State.svc_open ho, hl, hv]
  case lane =>
    intro h port s u ho hu
    subst hu
    refine ⟨fun hp => ?_, fun hn hp => ?_, fun hn hlo hhi hpeer => ?_, fun hn hlo hhi hpeer => ?_⟩
    · simp [exec, execLaneRecalibration, State.svc_open ho, hp]
    · subst hp
      simp [exec, execLaneRecalibration, State.svc_open ho, Nat.not_lt.2 hn]
    · have hnet : ¬port < (s.svcNoted h 0x26).nNet := by omega
      have hgus : ¬port = 0x10 := by omega
      simp [exec, execLaneRecalibration, State.svc_open ho, hnet, hgus, hlo, hhi, hpeer]
    · have hnet : ¬port < (s.svcNoted h 0x26).nNet := by omega
      have hgus : ¬port = 0x10 := by omega
      simp [exec, execLaneRecalibration, State.svc_open ho, hnet, hgus, hlo, hhi, hpeer]
  case ddr =>
    intro h c s u ho hu hc hin hfit
    subst hu
    refine (next_svc_open ho _).trans ?_
    simp only [hc, hin, hfit, Bool.not_true, Bool.false_eq_true, if_false]
  case jobBegin =>
    intro h d s u ho hu hs hi hout hil hol
    subst hu
    cases hj : (s.svcNoted h 0x27).mnt.svcJob with
    | none => simp [exec, execRillJobBegin, State.svc_open ho, hj, hi, hout, Nat.not_lt.2 hil, Nat.not_lt.2 hol]
    | some j =>
      rw [hj] at hs
      simp [exec, execRillJobBegin, State.svc_open ho, hj, show j.session = h.session from hs, hi, hout, Nat.not_lt.2 hil,
        Nat.not_lt.2 hol]
  case job =>
    intro h off len piece j s u ho hu hj hs
    subst hu
    refine ⟨fun hne hlen hroom => ?_, ?_, fun hlen => ?_, ?_⟩
    · simp [exec, execRillJobInputPiece, State.svc_open ho, State.onJob_of_own hj hs, hne, Nat.not_lt.2 hlen, Nat.not_lt.2 hroom]
    · simp [exec, execRillJobRun, State.svc_open ho, State.onJob_of_own hj hs]
    · simp [exec, execRillJobReadOutput, State.svc_open ho, State.onJob_of_own hj hs, Nat.not_lt.2 hlen]
    · simp [exec, execRillJobEnd, State.svc_open ho, State.onJob_of_own hj hs]

end Sys2Proof.Machine
end

section
/-! PROOF. The rack's messages and the lease's timers (R245–R261). -/

namespace Sys2Proof.Machine

@[simp] theorem State.at_rackAll (s : State) (d : Nat) : (s.at d).rackAll = s.rackAll := by
  simp [State.rackAll, State.rackC]

@[simp] theorem State.at_myIdx (s : State) (d : Nat) : (s.at d).myIdx = s.myIdx := by
  simp [State.myIdx, State.rackIdx]

/-- The rack's majority is that of its table (R251). -/
theorem State.majority_of_cfg {s u : State} (h : u.cfg = s.cfg) (n : Nat) : u.majority n = s.majority n := by
  rw [State.majority, State.majority, State.rackC, h, State.rackC]

/-- Settles O17: a message that its receiver takes, and each timer, passes the guards of its meaning. -/
theorem rackMessagesAndTimersTakeEffect : Obligations.RackMessagesAndTimersTakeEffect := by
  unfold Obligations.RackMessagesAndTimersTakeEffect
  refine ⟨?claim, ?accept, ?refuse, ?renew, ?release, ?status, ?wake, ?order, ?done, ?claimTimer, ?countEnd, ?renewTimer,
    ?confirm, ?limit, ?repeated, ?timeout, ?change⟩
  case claim =>
    intro h expiry s u hw hin hme hr
    have hme' : u.rackMe.isNone = false := by rw [Option.isNone_eq_false_iff]; exact hme
    simp only [exec, execClaim, hw, hin, hme', hr, Bool.not_true, Bool.or_self, Bool.false_eq_true, if_false, if_true]
    rfl
  case accept =>
    intro h cand s u hw hin hc he hs
    refine ⟨_, by
      simp only [exec, execAccept, hw, hin, hc, he, hs, Bool.false_eq_true, if_false, Bool.true_and, decide_true, if_true]
      rfl, rfl⟩
  case refuse =>
    intro h c r n s hw
    simp [exec, execRefuse, hw]
  case renew =>
    intro h expiry g s u hw hin he hv
    simp [exec, execRenew, hw, hin, he, hv]
  case release =>
    intro h e s u hw hin hv he
    refine ⟨_, by
      simp only [exec, execRelease, hw, hin, hv, he, Bool.false_eq_true, if_false, Bool.true_and, decide_true, if_true]
      rfl, ?_⟩
    exact ⟨rfl, rfl⟩
  case status =>
    intro h b i s u hw hin hrole hi
    simp [exec, execStatus, hw, hin, hrole, hi]
  case wake =>
    intro h reason oldest e s u hw hin hrole he hnone
    simp [exec, execWake, hw, hin, hrole, he, hnone]
  case order =>
    intro h id target g x fl s u hw hin hv he hcur
    simp [exec, execOrder, hw, hin, hv, he, hcur]
  case done =>
    intro h id result st i s u hw hin hrole hi
    simp [exec, execDone, hw, hin, hrole, hi]
  case claimTimer =>
    intro d s hm hrole hc hd
    simp [exec, execClaimTimer, hm, hrole, hc, hd]
  case countEnd =>
    intro d s hd hm
    have hlost (r : RackSt) : ¬State.majority { s.at d with rack := r } s.rack.accepts.length = true :=
      Bool.eq_false_iff.1 ((State.majority_of_cfg (s.at_cfg d) _).trans hm)
    refine ⟨_, _, by
      simp only [exec, execClaimCountEnd, hd, State.at_rack]
      rw [if_neg (hlost _)], rfl, rfl, ?_⟩
    exact ⟨Nat.le_add_right _ _, rfl⟩
  case renewTimer =>
    intro d s hd hrole
    simp only [exec, execRenewTimer, hd, hrole, if_true]
  case confirm =>
    intro d s hd hm
    have hwon (r : RackSt) : State.majority { s.at d with rack := r } s.rack.replies.length = true :=
      (State.majority_of_cfg (s.at_cfg d) _).trans hm
    simp only [exec, execRenewConfirmEnd, hd, State.at_rack, State.at_rackAll, State.at_myIdx]
    rw [if_pos (hwon _)]
  case limit =>
    intro s hrole
    simp [exec, execLeaseOrderLimit, hrole]
  case repeated =>
    intro i o s ho hi hmay
    simp [exec, execOrderRepeat, ho, hi, hmay]
  case timeout =>
    intro i d o s ho hd
    simp only [exec, execOrderTimeout, ho, hd, State.at_rack]
  case change =>
    intro m found mounts info s hm he ht hup
    simp [exec, execStateChangeComplete, hm, he, ht, hup]

end Sys2Proof.Machine
end

section
/-! PROOF. Heartbeats, takeover and handover (R230–R243). -/

namespace Sys2Proof.Machine

/-- Settles O41: each event passes the guards of its meaning, and what that meaning does is the statement's right side. -/
theorem takeoverTakesEffect : Obligations.TakeoverTakesEffect := by
  unfold Obligations.TakeoverTakesEffect
  refine ⟨?send, ?word, ?tick, ?fence, ?start, ?announce, ?preempt, ?check, ?selfTest, ?handover, ?acked⟩
  case send =>
    intro s hon
    have hon' (g : GusSt) : State.hbOn { s.at s.gus.hbAt with gus := g } = true := by
      rw [← hon, State.hbOn, State.hbOn, State.at_shelf, State.at_rst]
    simp only [exec, execHeartbeatSend, State.at_gus]
    rw [if_pos (hon' _)]
    rfl
  case word =>
    intro path w s hon hcrc hpath
    have hcount : (!s.hbOn || !w.crcOk || (path = 1 && !s.gus.link) || (path ≠ 1 && path ≠ 2)) = false := by
      rcases hpath with rfl | ⟨rfl, hlink⟩ <;> simp [*]
    simp only [exec, execHeartbeatWord, hcount, Bool.false_eq_true, if_false, Bool.and_eq_true, decide_eq_true_eq]
  case tick =>
    intro s u v hu hon hv
    have hoff : ¬(!u.hbOn) = true := by rw [hon]; exact Bool.false_ne_true
    subst hu hv
    simp only [exec, execHeartbeatMissTick, State.at_gus]
    refine (if_neg hoff).trans ?_
    rfl
  case fence =>
    intro l s u hl hd hu
    subst hu
    simp only [exec, execSelfFence, hl, hd, Bool.false_eq_true, if_false]
  case start =>
    intro t0 info mounts s u ht hd ha hs hu hnone
    subst hu
    simp only [exec, execTakeoverStart, ht, hd, ha, hs, hnone, Bool.not_true, ne_eq, not_true_eq_false, decide_false, Bool.or_self,
      Bool.false_eq_true, if_false, List.foldl_nil]
    rfl
  case announce =>
    intro t0 k s ht hk h0 h4
    subst hk
    simp [exec, execAddressAnnounce, ht, h0, Nat.not_le.2 h4]
  case preempt =>
    intro b d x s hx hd
    simp only [exec, execTakeoverPreempt, State.bed?, hx, hd]
  case check =>
    intro b d x s hx hd hf hr
    constructor <;> simp [exec, execReclaimCheck, State.bed?, hx, hd, hf, hr]
  case selfTest =>
    intro passed h k s u v hm hs hj hnone ha hk hu hcore
    have hgo : ¬(decide (k < 2) && (u.roundCore k).isNone) = true := by
      rcases hcore with hc | hc
      · simp [Nat.not_lt.2 hc]
      · rw [Option.isNone_eq_false_iff.2 hc, Bool.and_false]
        exact Bool.false_ne_true
    subst hk hu
    simp only [exec, execStandbySelfTest, hm, hs, hj, hnone, ha, List.any_nil, Bool.not_true, ne_eq, not_true_eq_false, decide_false,
      Bool.or_self, Bool.false_eq_true, if_false, Bool.false_and]
    exact if_neg hgo
  case handover =>
    intro b msgId tick info x s u hx hown hj ht hs hu
    subst hu
    simp only [exec, execHandover, State.bed?, hx, hown, hj, ht, hs, Bool.not_true, ne_eq, not_true_eq_false, decide_false, Bool.or_self,
      Bool.false_eq_true, if_false]
  case acked =>
    intro b x s u v hx hown hf hu hv
    subst hu hv
    simp [exec, execHandoverAck, State.bed?, hx, hown, hf]

end Sys2Proof.Machine
end

section
/-! SUPPORT. The rules of frames for folds and for what a command's taking answers, and the frame of each operation that the
groups' commands use. -/

namespace Sys2Proof.Machine

/-- What a count of the monitor writes. -/
abbrev Part.count : List Part := [.ept, .pmu, .out]

/-- What a frame sent from the controller writes. -/
abbrev Part.sent : List Part := [.regs, .net, .ept, .pmu, .out, .free]

/-- What a message on the Gusset link writes. -/
abbrev Part.gusset : List Part := [.regs, .gus, .net, .ept, .pmu, .out]

/-- What a packet of a queue pair writes, with the word of it to the standby. -/
abbrev Part.wire : List Part := [.regs, .gus, .net, .slu, .ept, .pmu, .out, .free]

/-- What an answer to a host writes. -/
abbrev Part.host : List Part := [.regs, .cmd, .gus, .net, .slu, .ept, .pmu, .out, .free]

/-- What the taking of an admin command writes. -/
abbrev Part.admin : List Part := [.regs, .cmd, .gus, .net, .slu, .rack, .ept, .pmu, .out, .free]

/-- What the taking of a command on a bed writes. -/
abbrev Part.block : List Part := [.regs, .cmd, .beds, .gus, .net, .slu, .rack, .ept, .pmu, .out, .free]

theorem Part.all_contains (ps : List Part) : ps.all ps.contains = true :=
  List.all_eq_true.2 fun _ h => List.contains_iff_mem.2 h

theorem Writes.trans {ps : List Part} {s t u : State} (h' : Writes ps t u) (h : Writes ps s t) : Writes ps s u :=
  h'.step (Part.all_contains ps) h

theorem Writes.fold {α : Type} {ps : List Part} {f : State → α → State} {l : List α} {s t : State}
    (hf : ∀ t a, Writes ps t (f t a)) (h : Writes ps s t) : Writes ps s (l.foldl f t) :=
  (Writes.foldl hf l t).trans h

theorem Writes.fold1 {α β : Type} {ps : List Part} {f : State × β → α → State × β} {l : List α} {s : State} {x : State × β}
    (hf : ∀ x a, Writes ps x.1 (f x a).1) (h : Writes ps s x.1) : Writes ps s (l.foldl f x).1 := by
  induction l generalizing x with
  | nil => exact h
  | cons a l ih => exact ih ((hf x a).trans h)

theorem Writes.ite1 {β : Type} {ps : List Part} {s : State} {a b : State × β} {c : Prop} [Decidable c]
    (ha : c → Writes ps s a.1) (hb : ¬c → Writes ps s b.1) : Writes ps s (if c then a else b).1 := by
  split
  · exact ha ‹_›
  · exact hb ‹_›

/-- The next state an outcome gives, where it gives one, is within the frame. -/
def WritesO (ps : List Part) (s : State) (o : Outcome) : Prop := ∀ t, o = .next t → Writes ps s t

theorem WritesO.next {ps : List Part} {s t : State} (h : Writes ps s t) : WritesO ps s (.next t) :=
  fun _ e => by injection e with e; exact e ▸ h

theorem WritesO.ite {ps : List Part} {s : State} {a b : Outcome} {c : Prop} [Decidable c]
    (ha : c → WritesO ps s a) (hb : ¬c → WritesO ps s b) : WritesO ps s (if c then a else b) := by
  split
  · exact ha ‹_›
  · exact hb ‹_›

/-- The state in which a command's taking ends is within the frame. -/
def WritesT (ps : List Part) (s : State) : Taken → Prop
  | .stop t => Writes ps s t
  | .go t _ _ _ => Writes ps s t

theorem WritesT.stop {ps : List Part} {s t : State} (h : Writes ps s t) : WritesT ps s (.stop t) := h

theorem WritesT.go {ps : List Part} {s t : State} {arr b n} (h : Writes ps s t) : WritesT ps s (.go t arr b n) := h

theorem WritesT.ite {ps : List Part} {s : State} {a b : Taken} {c : Prop} [Decidable c]
    (ha : c → WritesT ps s a) (hb : ¬c → WritesT ps s b) : WritesT ps s (if c then a else b) := by
  split
  · exact ha ‹_›
  · exact hb ‹_›

/-- The state in which an admin command's taking ends is within the frame. -/
def WritesA (ps : List Part) (s : State) : AdminTaken → Prop
  | .stop t => Writes ps s t
  | .go t _ _ => Writes ps s t

theorem WritesA.stop {ps : List Part} {s t : State} (h : Writes ps s t) : WritesA ps s (.stop t) := h

theorem WritesA.go {ps : List Part} {s t : State} {arr a} (h : Writes ps s t) : WritesA ps s (.go t arr a) := h

/-! ### The monitor, time and the units' setters -/

theorem State.setPba_writes (s : State) (fn v : Nat) (on : Bool) : Writes [.ept] s (s.setPba fn v on) := by
  unfold State.setPba
  with_reducible repeat' first
    | exact .refl _ _ | refine Writes.ite (fun _ => ?_) (fun _ => ?_) | apply Writes.upd | exact Or.inr rfl | exact Or.inl rfl

theorem State.msix_writes (s : State) (fn v : Nat) : Writes [.ept, .out] s (s.msix fn v) := by
  unfold State.msix
  with_reducible repeat' first
    | exact .refl _ _ | apply Writes.step (State.setPba_writes ..) | refine Writes.ite (fun _ => ?_) (fun _ => ?_)
    | apply Writes.upd | exact Or.inr rfl | exact Or.inl rfl | with_unfolding_all exact rfl

theorem State.pmuOvf_writes (s : State) (n : Nat) : Writes Part.count s (s.pmuOvf n) := by
  unfold State.pmuOvf
  with_reducible repeat' first
    | exact .refl _ _ | apply Writes.step (State.msix_writes ..) | refine Writes.ite (fun _ => ?_) (fun _ => ?_)
    | apply Writes.upd | exact Or.inr rfl | exact Or.inl rfl | with_unfolding_all exact rfl

theorem State.ctrAdd_writes (s : State) (n k : Nat) : Writes [.pmu] s (s.ctrAdd n k).1 := by
  unfold State.ctrAdd
  with_reducible repeat' first | exact .refl _ _ | apply Writes.upd | exact Or.inr rfl | exact Or.inl rfl

theorem State.pmuAdd_writes (s : State) (n k : Nat) : Writes Part.count s (s.pmuAdd n k) := by
  unfold State.pmuAdd
  with_reducible repeat' first
    | exact .refl _ _ | apply Writes.step (State.pmuOvf_writes ..) | apply Writes.step (State.ctrAdd_writes ..)
    | refine Writes.ite (fun _ => ?_) (fun _ => ?_) | with_unfolding_all exact rfl

theorem State.pmuEvent_writes (s : State) (code inst k : Nat) : Writes Part.count s (s.pmuEvent code inst k) := by
  unfold State.pmuEvent
  with_reducible repeat' first
    | exact .refl _ _ | apply Writes.step (State.pmuAdd_writes ..) | refine Writes.fold (fun _ _ => ?_) ?_
    | refine Writes.ite (fun _ => ?_) (fun _ => ?_) | with_unfolding_all exact rfl

theorem State.pmuCycles_writes (s : State) (k : Nat) : Writes Part.count s (s.pmuCycles k) := by
  unfold State.pmuCycles
  with_reducible repeat' first
    | exact .refl _ _ | apply Writes.step (State.pmuAdd_writes ..) | refine Writes.fold (fun _ _ => ?_) ?_
    | refine Writes.ite (fun _ => ?_) (fun _ => ?_) | apply Writes.upd | exact Or.inr rfl | exact Or.inl rfl
    | with_unfolding_all exact rfl

theorem State.binAdd_writes (s : State) (h b : Nat) : Writes [.pmu] s (s.binAdd h b) := by
  unfold State.binAdd
  with_reducible repeat' first | exact .refl _ _ | apply Writes.upd | exact Or.inr rfl | exact Or.inl rfl

theorem State.histAdd_writes (s : State) (src inst v : Nat) (keep : Nat → Bool) :
    Writes [.pmu] s (s.histAdd src inst v keep) := by
  unfold State.histAdd
  with_reducible repeat' first
    | exact .refl _ _ | apply Writes.step (State.binAdd_writes ..) | refine Writes.fold (fun _ _ => ?_) ?_
    | refine Writes.ite (fun _ => ?_) (fun _ => ?_) | with_unfolding_all exact rfl

theorem State.emit_writes (s : State) (o : Out) : Writes [.out] s (s.emit o) := by
  unfold State.emit
  with_reducible repeat' first | exact .refl _ _ | apply Writes.upd | exact Or.inr rfl | exact Or.inl rfl

theorem State.at_writes (s : State) (t : Nat) : Writes [.now, .ept, .pmu, .out] s (s.at t) := by
  unfold State.at
  apply Writes.upd (h := (s.pmuCycles_writes (t - s.now)).step rfl (.refl _ s))
  all_goals with_reducible first | exact Or.inr rfl | exact Or.inl rfl

theorem State.drawn_writes (s : State) : Writes [.free] s s.drawn := by
  unfold State.drawn
  with_reducible repeat' first | exact .refl _ _ | apply Writes.upd | exact Or.inr rfl | exact Or.inl rfl

theorem State.waitFrame_writes (s : State) (c : Instr) : Writes [.net] s (s.waitFrame c) := by
  unfold State.waitFrame
  with_reducible repeat' first
    | exact .refl _ _ | refine Writes.ite (fun _ => ?_) (fun _ => ?_) | apply Writes.upd | exact Or.inr rfl | exact Or.inl rfl

theorem State.waitCores_writes (s : State) (c : Instr) : Writes [.net] s (s.waitCores c) := by
  unfold State.waitCores
  with_reducible repeat' first | exact .refl _ _ | apply Writes.upd | exact Or.inr rfl | exact Or.inl rfl

theorem State.setDirty_writes (s : State) (b k : Nat) (v : Bool) : Writes [.mram] s (s.setDirty b k v) := by
  unfold State.setDirty
  with_reducible repeat' first | exact .refl _ _ | apply Writes.upd | exact Or.inr rfl | exact Or.inl rfl

theorem State.setBed_writes (s : State) (b : Nat) (x : Bed) : Writes [.beds] s (s.setBed b x) := by
  unfold State.setBed
  with_reducible repeat' first | exact .refl _ _ | apply Writes.upd | exact Or.inr rfl | exact Or.inl rfl

theorem State.modBed_writes (s : State) (b : Nat) (f : Bed → Bed) : Writes [.beds] s (s.modBed b f) := by
  unfold State.modBed
  with_reducible repeat' first | exact .refl _ _ | apply Writes.upd | exact Or.inr rfl | exact Or.inl rfl

theorem State.mod_writes (s : State) (arr : Nat) (f : CmdRec → CmdRec) : Writes [.cmd] s (s.mod arr f) := by
  unfold State.mod
  with_reducible repeat' first | exact .refl _ _ | apply Writes.upd | exact Or.inr rfl | exact Or.inl rfl

theorem State.resumeTest_writes (s : State) : Writes [.cmd] s s.resumeTest := by
  unfold State.resumeTest
  with_reducible repeat' first | exact .refl _ _ | apply Writes.upd | exact Or.inr rfl | exact Or.inl rfl

theorem State.setActs_writes (s : State) (l : List Activity) : Writes [.mnt] s (s.setActs l) := by
  unfold State.setActs
  with_reducible repeat' first | exact .refl _ _ | apply Writes.upd | exact Or.inr rfl | exact Or.inl rfl

theorem State.resumeTests_writes (s : State) : Writes [.cmd, .mnt] s s.resumeTests := by
  unfold State.resumeTests
  with_reducible repeat' first
    | exact .refl _ _ | apply Writes.step (State.resumeTest_writes ..) | apply Writes.step (State.setActs_writes ..)
    | refine Writes.ite (fun _ => ?_) (fun _ => ?_) | with_unfolding_all exact rfl

theorem State.actEndAny_writes (s : State) (code : Nat) (bed : Option Nat) : Writes [.cmd, .mnt] s (s.actEndAny code bed) := by
  unfold State.actEndAny
  with_reducible repeat' first
    | exact .refl _ _ | apply Writes.step (State.setActs_writes ..) | apply Writes.step (State.resumeTests_writes ..)
    | with_unfolding_all exact rfl

/-! ### The endpoint -/

theorem State.setCfgTab_writes (s : State) (fn : Nat) (t : Tab Word) : Writes [.ept] s (s.setCfgTab fn t) := by
  unfold State.setCfgTab
  with_reducible repeat' first
    | exact .refl _ _ | refine Writes.ite (fun _ => ?_) (fun _ => ?_) | apply Writes.upd | exact Or.inr rfl | exact Or.inl rfl

theorem State.cfgSet_writes (s : State) (fn o m : Nat) : Writes [.ept] s (s.cfgSet fn o m) := by
  unfold State.cfgSet
  with_reducible repeat' first
    | exact .refl _ _ | apply Writes.step (State.setCfgTab_writes ..) | with_unfolding_all exact rfl

theorem State.errMsg_writes (s : State) (fn sev : Nat) : Writes [.ept, .out] s (s.errMsg fn sev) := by
  unfold State.errMsg
  with_reducible repeat' first
    | exact .refl _ _ | apply Writes.step (State.emit_writes ..) | apply Writes.step (State.cfgSet_writes ..)
    | refine Writes.ite (fun _ => ?_) (fun _ => ?_) | with_unfolding_all exact rfl

theorem State.aerSet_writes (s : State) (fn b : Nat) : Writes [.ept, .out] s (s.aerSet fn b) := by
  unfold State.aerSet
  with_reducible repeat' first
    | exact .refl _ _ | apply Writes.step (State.cfgSet_writes ..) | apply Writes.step (State.errMsg_writes ..)
    | refine Writes.ite (fun _ => ?_) (fun _ => ?_) | with_unfolding_all exact rfl

theorem eptPumpF_writes (n : Nat) (s : State) : Writes [.ept, .out] s (eptPumpF n s) := by
  induction n generalizing s with
  | zero => exact .refl _ s
  | succ n ih =>
    unfold eptPumpF
    dsimp only
    with_reducible repeat' first
      | exact .refl _ _ | with_unfolding_all exact rfl | apply Writes.trans (ih ..) | apply Writes.step (State.emit_writes ..)
      | refine Writes.ite (fun _ => ?_) (fun _ => ?_) | split | apply Writes.upd | exact Or.inr rfl | exact Or.inl rfl

theorem State.eptPump_writes (s : State) : Writes [.ept, .out] s s.eptPump := by
  unfold State.eptPump
  with_reducible repeat' first | exact .refl _ _ | apply Writes.step (eptPumpF_writes ..) | with_unfolding_all exact rfl

theorem State.eptFetch_writes (s : State) (f : EptFetch) (len : Nat) : Writes [.ept, .out] s (s.eptFetch f len) := by
  unfold State.eptFetch
  with_reducible repeat' first
    | exact .refl _ _ | apply Writes.step (State.eptPump_writes ..) | apply Writes.upd | exact Or.inr rfl | exact Or.inl rfl
    | with_unfolding_all exact rfl

theorem State.eptPost_writes (s : State) (cq : Nat) : Writes [.ept, .out] s (s.eptPost cq) := by
  unfold State.eptPost
  with_reducible repeat' first
    | exact .refl _ _ | apply Writes.step (State.msix_writes ..) | split | dsimp only | apply Writes.upd | exact Or.inr rfl
    | exact Or.inl rfl | with_unfolding_all exact rfl

/-! ### The network -/

theorem State.setNet_writes (s : State) (n : Nat) (p : NetPort) : Writes [.net] s (s.setNet n p) := by
  unfold State.setNet
  with_reducible repeat' first | exact .refl _ _ | apply Writes.upd | exact Or.inr rfl | exact Or.inl rfl

theorem State.setQueue_writes (s : State) (n c : Nat) (q : EgQueue) : Writes [.net] s (s.setQueue n c q) := by
  unfold State.setQueue
  with_reducible repeat' first | exact .refl _ _ | apply Writes.step (State.setNet_writes ..) | with_unfolding_all exact rfl

theorem capPick_writes (s : State) (x : CapInfo) (n f : Nat) : Writes [.net] s (capPick s x n f).1 := by
  induction n generalizing s f with
  | zero => exact .refl _ s
  | succ n ih =>
    unfold capPick
    dsimp only
    with_reducible repeat' first
      | exact .refl _ _ | apply Writes.trans (ih ..) | refine Writes.ite1 (fun _ => ?_) (fun _ => ?_)
      | apply Writes.upd | exact Or.inr rfl | exact Or.inl rfl

theorem capPick_writesE {s : State} {x : CapInfo} {n f : Nat} {t q} (e : capPick s x n f = (t, q)) :
    Writes [.net] s t := by
  have := capPick_writes s x n f
  rwa [e] at this

theorem State.capture_writes (s : State) (x : CapInfo) : Writes [.regs, .net] s (s.capture x) := by
  unfold State.capture
  with_reducible repeat' first
    | exact .refl _ _ | apply Writes.step (State.bump_writes ..) | apply Writes.step (State.applyRwls_writes ..)
    | apply Writes.step (capPick_writesE (by assumption)) | split | dsimp only | apply Writes.upd | exact Or.inr rfl
    | exact Or.inl rfl | with_unfolding_all exact rfl

theorem State.dropIn_writes (s : State) (n : Nat) (f : Frame) (cls out reason : Nat) :
    Writes [.regs, .net] s (s.dropIn n f cls out reason) := by
  unfold State.dropIn
  with_reducible repeat' first
    | exact .refl _ _ | apply Writes.step (State.bump_writes ..) | apply Writes.step (State.capture_writes ..) | split
    | with_unfolding_all exact rfl

theorem State.sendPfc_writes (s : State) (n c quanta : Nat) : Writes Part.count s (s.sendPfc n c quanta) := by
  unfold State.sendPfc
  with_reducible repeat' first
    | exact .refl _ _ | apply Writes.step (State.pmuEvent_writes ..) | apply Writes.step (State.emit_writes ..)
    | refine Writes.ite (fun _ => ?_) (fun _ => ?_) | with_unfolding_all exact rfl

theorem State.holdCells_writes (s : State) (n c k : Nat) : Writes [.net, .ept, .pmu, .out] s (s.holdCells n c k) := by
  unfold State.holdCells
  with_reducible repeat' first
    | exact .refl _ _ | apply Writes.step (State.setNet_writes ..) | apply Writes.step (State.sendPfc_writes ..)
    | refine Writes.ite (fun _ => ?_) (fun _ => ?_) | with_unfolding_all exact rfl

theorem State.shpCharge_writes (s : State) (n c len : Nat) : Writes [.net] s (s.shpCharge n c len) := by
  unfold State.shpCharge
  with_reducible repeat' first
    | exact .refl _ _ | apply Writes.step (State.setQueue_writes ..) | refine Writes.ite (fun _ => ?_) (fun _ => ?_)
    | with_unfolding_all exact rfl

theorem wrrPick_writes {n fuel : Nat} {s r : State} {q : Nat} (e : wrrPick n fuel s = some (q, r)) : Writes [.net] s r := by
  induction fuel generalizing s with
  | zero => cases e
  | succ fuel ih =>
    unfold wrrPick at e
    dsimp only at e
    split at e
    · refine (ih e).trans ?_
      with_reducible repeat' first
        | exact .refl _ _ | apply Writes.trans (State.setQueue_writes ..) | apply Writes.trans (State.setNet_writes ..) | split
    · split at e
      · injection e with e
        injection e with _ e
        exact e ▸ State.setQueue_writes ..
      · refine (ih e).trans ?_
        with_reducible repeat' first
          | exact .refl _ _ | apply Writes.trans (State.setQueue_writes ..) | apply Writes.trans (State.setNet_writes ..)
          | split

theorem State.pickClass_writesE {s : State} {n : Nat} {r : State} {q : Nat} (e : s.pickClass n = some (q, r)) :
    Writes [.net] s r := by
  unfold State.pickClass at e
  split at e
  · injection e with e
    injection e with _ e
    exact e ▸ .refl _ s
  · split at e
    · exact wrrPick_writes e
    · cases e

theorem State.sendFrame_writes (s : State) (n : Nat) (f : QFrame) (cut : Bool) :
    Writes [.regs, .net, .ept, .pmu, .out] s (s.sendFrame n f cut) := by
  unfold State.sendFrame
  with_reducible repeat' first
    | exact .refl _ _ | apply Writes.step (State.pmuEvent_writes ..) | apply Writes.step (State.emit_writes ..)
    | apply Writes.step (State.setNet_writes ..) | apply Writes.step (State.capture_writes ..)
    | apply Writes.step (State.shpCharge_writes ..) | refine Writes.ite (fun _ => ?_) (fun _ => ?_)
    | with_unfolding_all exact rfl

theorem State.startNext_writes (s : State) (n : Nat) : Writes [.regs, .net, .ept, .pmu, .out] s (s.startNext n) := by
  unfold State.startNext
  with_reducible repeat' first
    | exact .refl _ _ | apply Writes.step (State.applyRwls_writes ..) | apply Writes.step (State.setQueue_writes ..)
    | apply Writes.step (State.pickClass_writesE (by assumption)) | apply Writes.step (State.sendFrame_writes ..) | split
    | dsimp only | apply Writes.upd | exact Or.inr rfl | exact Or.inl rfl | with_unfolding_all exact rfl

theorem State.placeFrame_writes (s : State) (x : QFrame) : Writes [.free] s (s.placeFrame x).1 := by
  unfold State.placeFrame
  with_reducible repeat' first
    | exact .refl _ _ | apply Writes.step (State.drawn_writes ..) | split | with_unfolding_all exact rfl

theorem State.putQueue_writes (s : State) (out : Nat) (x : QFrame) : Writes Part.sent s (s.putQueue out x) := by
  unfold State.putQueue
  with_reducible repeat' first
    | exact .refl _ _ | apply Writes.step (State.applyRwl_writes ..) | apply Writes.step (State.setQueue_writes ..)
    | apply Writes.step (State.capture_writes ..) | apply Writes.step (State.holdCells_writes ..)
    | apply Writes.step (State.startNext_writes ..) | apply Writes.step (State.placeFrame_writes ..)
    | refine Writes.ite (fun _ => ?_) (fun _ => ?_) | with_unfolding_all exact rfl

theorem State.offer_writes (s : State) (out : Nat) (x : QFrame) : Writes Part.sent s (s.offer out x) := by
  unfold State.offer
  with_reducible repeat' first
    | exact .refl _ _ | apply Writes.step (State.setNet_writes ..) | apply Writes.step (State.putQueue_writes ..)
    | refine Writes.ite (fun _ => ?_) (fun _ => ?_) | with_unfolding_all exact rfl

theorem State.sendInternal_writes (s : State) (inPort out cls : Nat) (f : Frame) :
    Writes Part.sent s (s.sendInternal inPort out cls f) := by
  unfold State.sendInternal
  with_reducible repeat' first
    | exact .refl _ _ | apply Writes.step (State.dropIn_writes ..) | apply Writes.step (State.offer_writes ..)
    | refine Writes.ite (fun _ => ?_) (fun _ => ?_) | apply Writes.upd | exact Or.inr rfl | exact Or.inl rfl
    | with_unfolding_all exact rfl

theorem State.sendCtl_writes (s : State) (out cls : Nat) (f : Frame) (o : Out) :
    Writes Part.sent s (s.sendCtl out cls f o) := by
  unfold State.sendCtl
  with_reducible repeat' first
    | exact .refl _ _ | apply Writes.step (State.emit_writes ..) | apply Writes.step (State.sendInternal_writes ..)
    | refine Writes.ite (fun _ => ?_) (fun _ => ?_) | with_unfolding_all exact rfl

theorem State.rackSend_writes (s : State) (dest type : Nat) (body : Bytes) :
    Writes Part.sent s (s.rackSend dest type body) := by
  unfold State.rackSend
  with_reducible repeat' first
    | exact .refl _ _ | apply Writes.step (State.emit_writes ..) | apply Writes.step (State.drawn_writes ..)
    | apply Writes.step (State.sendInternal_writes ..) | refine Writes.fold (fun _ _ => ?_) ?_
    | refine Writes.ite (fun _ => ?_) (fun _ => ?_) | with_unfolding_all exact rfl

/-! ### The Gusset link -/

theorem State.gusFrames_writes (s : State) (egress : Bool) (frames : List (Nat × Bytes)) :
    Writes [.regs, .net] s (s.gusFrames egress frames) := by
  unfold State.gusFrames
  with_reducible repeat' first
    | exact .refl _ _ | apply Writes.step (State.capture_writes ..) | refine Writes.fold (fun _ _ => ?_) ?_
    | with_unfolding_all exact rfl

theorem State.putGusset_writes (s : State) (seq bed : Nat) (m : GMsg) (again : Bool) :
    Writes [.regs, .net, .out] s (s.putGusset seq bed m again) := by
  unfold State.putGusset
  with_reducible repeat' first
    | exact .refl _ _ | apply Writes.step (State.emit_writes ..) | apply Writes.step (State.gusFrames_writes ..)
    | with_unfolding_all exact rfl

theorem State.gusSend_writes (s : State) (bed : Nat) (m : GMsg) (rel : OnDelivery) :
    Writes Part.gusset s (s.gusSend bed m rel) := by
  unfold State.gusSend
  with_reducible repeat' first
    | exact .refl _ _ | apply Writes.step (State.pmuEvent_writes ..) | apply Writes.step (State.putGusset_writes ..)
    | refine Writes.ite (fun _ => ?_) (fun _ => ?_) | apply Writes.upd | exact Or.inr rfl | exact Or.inl rfl
    | with_unfolding_all exact rfl

theorem State.proxyLost_writes (s : State) : Writes [.drv] s s.proxyLost := by
  unfold State.proxyLost
  with_reducible repeat' first | exact .refl _ _ | apply Writes.upd | exact Or.inr rfl | exact Or.inl rfl

theorem State.proxyBack_writes (s : State) : Writes [.drv] s s.proxyBack := by
  unfold State.proxyBack
  with_reducible repeat' first | exact .refl _ _ | apply Writes.upd | exact Or.inr rfl | exact Or.inl rfl

theorem State.gusRetrain_writes (s : State) : Writes [.regs, .drv, .gus] s s.gusRetrain := by
  unfold State.gusRetrain
  with_reducible repeat' first
    | exact .refl _ _ | apply Writes.step (State.bump_writes ..) | apply Writes.step (State.proxyLost_writes ..)
    | refine Writes.ite (fun _ => ?_) (fun _ => ?_) | apply Writes.upd | exact Or.inr rfl | exact Or.inl rfl
    | with_unfolding_all exact rfl

theorem State.gusControl_writes (s : State) (bed kind : Nat) (body : Bytes) :
    Writes Part.gusset s (s.gusControl bed kind body) := by
  unfold State.gusControl
  with_reducible repeat' first
    | exact .refl _ _ | apply Writes.step (State.gusSend_writes ..) | apply Writes.upd | exact Or.inr rfl | exact Or.inl rfl
    | with_unfolding_all exact rfl

theorem State.gusAnswer_writes (s : State) (bed kind msgId : Nat) (body : Bytes) :
    Writes Part.gusset s (s.gusAnswer bed kind msgId body) := by
  unfold State.gusAnswer
  with_reducible repeat' first | exact .refl _ _ | apply Writes.step (State.gusSend_writes ..) | with_unfolding_all exact rfl

theorem State.gusPiece_writes (s : State) (bed sectors : Nat) (p : JoinPiece) :
    Writes Part.gusset s (s.gusPiece bed sectors p) := by
  unfold State.gusPiece
  with_reducible repeat' first
    | exact .refl _ _ | apply Writes.step (State.gusSend_writes ..) | apply Writes.upd | exact Or.inr rfl | exact Or.inl rfl
    | with_unfolding_all exact rfl

theorem State.delta_writes (s : State) (b : Nat) (e : DeltaEntry) : Writes [.gus] s (s.delta b e) := by
  unfold State.delta
  with_reducible repeat' first
    | exact .refl _ _ | refine Writes.ite (fun _ => ?_) (fun _ => ?_) | apply Writes.upd | exact Or.inr rfl | exact Or.inl rfl

/-! ### Commands and their slots -/

theorem State.modAssoc_writes (s : State) (a : Nat) (f : Assoc → Assoc) : Writes [.cmd] s (s.modAssoc a f) := by
  unfold State.modAssoc
  with_reducible repeat' first | exact .refl _ _ | apply Writes.upd | exact Or.inr rfl | exact Or.inl rfl

theorem State.setPhase_writes (s : State) (arr : Nat) (p : CmdPhase) : Writes [.cmd] s (s.setPhase arr p) := by
  unfold State.setPhase
  with_reducible repeat' first | exact .refl _ _ | apply Writes.step (State.mod_writes ..) | with_unfolding_all exact rfl

theorem State.cmdDelta_writes (s : State) (arr : Nat) : Writes [.gus] s (s.cmdDelta arr) := by
  unfold State.cmdDelta
  with_reducible repeat' first
    | exact .refl _ _ | apply Writes.step (State.delta_writes ..) | split | with_unfolding_all exact rfl

theorem State.grant_writes (s : State) (arr : Nat) : Writes [.cmd, .gus, .ept, .pmu, .out] s (s.grant arr) := by
  unfold State.grant
  with_reducible repeat' first
    | exact .refl _ _ | apply Writes.step (State.pmuEvent_writes ..) | apply Writes.step (State.mod_writes ..)
    | apply Writes.step (State.setPhase_writes ..) | apply Writes.step (State.cmdDelta_writes ..)
    | with_unfolding_all exact rfl

theorem State.grantsF_writes (n : Nat) (s : State) : Writes [.cmd, .gus, .ept, .pmu, .out] s (State.grantsF n s) := by
  induction n generalizing s with
  | zero => exact .refl _ s
  | succ n ih =>
    unfold State.grantsF
    split
    · exact (ih _).trans (s.grant_writes _)
    · exact .refl _ s

theorem State.grants_writes (s : State) : Writes [.cmd, .gus, .ept, .pmu, .out] s s.grants := by
  unfold State.grants
  with_reducible repeat' first | exact .refl _ _ | apply Writes.step (State.grantsF_writes ..) | with_unfolding_all exact rfl

theorem State.samplePick_writes (s : State) (arr : Nat) (r : CmdRec) : Writes [.pmu] s (s.samplePick arr r) := by
  unfold State.samplePick
  with_reducible repeat' first
    | exact .refl _ _ | refine Writes.ite (fun _ => ?_) (fun _ => ?_) | apply Writes.upd | exact Or.inr rfl | exact Or.inl rfl

theorem State.arrive_writes (s : State) (cap : Cap) (nsid : Nat) (cmd : Option NvmeCmd) (capsule : Bytes) (isAdmin : Bool) :
    Writes [.cmd, .gus, .ept, .pmu, .out] s (s.arrive cap nsid cmd capsule isAdmin).1 := by
  unfold State.arrive
  with_reducible repeat' first
    | exact .refl _ _ | apply Writes.step (State.grants_writes ..) | apply Writes.step (State.samplePick_writes ..)
    | apply Writes.upd | exact Or.inr rfl | exact Or.inl rfl | with_unfolding_all exact rfl

theorem State.arrive_writesE {s : State} {cap : Cap} {nsid : Nat} {cmd : Option NvmeCmd} {capsule : Bytes} {isAdmin : Bool} {t
    q} (e : s.arrive cap nsid cmd capsule isAdmin = (t, q)) :
    Writes [.cmd, .gus, .ept, .pmu, .out] s t := by
  have := s.arrive_writes cap nsid cmd capsule isAdmin
  rwa [e] at this

theorem State.sampleWrite_writes (s : State) (arr : Nat) (r : CmdRec) (times : List Nat) (ended : Bool) :
    Writes [.regs, .pmu] s (s.sampleWrite arr r times ended) := by
  unfold State.sampleWrite
  with_reducible repeat' first
    | exact .refl _ _ | apply Writes.step (State.bump_writes ..) | refine Writes.ite (fun _ => ?_) (fun _ => ?_)
    | apply Writes.upd | exact Or.inr rfl | exact Or.inl rfl | with_unfolding_all exact rfl

theorem State.pmuCommand_writes (s : State) (arr : Nat) (r : CmdRec) (ended : Bool) :
    Writes [.regs, .pmu] s (s.pmuCommand arr r ended) := by
  unfold State.pmuCommand
  with_reducible repeat' first
    | exact .refl _ _ | apply Writes.step (State.histAdd_writes ..) | apply Writes.step (State.sampleWrite_writes ..)
    | refine Writes.fold (fun _ _ => ?_) ?_ | refine Writes.ite (fun _ => ?_) (fun _ => ?_) | with_unfolding_all exact rfl

theorem State.assocSweep_writes (s : State) (a : Nat) : Writes [.cmd] s (s.assocSweep a) := by
  unfold State.assocSweep
  with_reducible repeat' first | exact .refl _ _ | split | dsimp only | apply Writes.upd | exact Or.inr rfl | exact Or.inl rfl

theorem State.dropCmd_writes (s : State) (arr : Nat) : Writes [.cmd, .gus, .ept, .pmu, .out] s (s.dropCmd arr) := by
  unfold State.dropCmd
  with_reducible repeat' first
    | exact .refl _ _ | apply Writes.step (State.delta_writes ..) | apply Writes.step (State.grants_writes ..)
    | apply Writes.step (State.assocSweep_writes ..) | refine Writes.fold (fun _ _ => ?_) ?_ | split | dsimp only
    | apply Writes.upd | exact Or.inr rfl | exact Or.inl rfl | with_unfolding_all exact rfl

/-! ### The Sluice -/

theorem State.modQp_writes (s : State) (i : Nat) (f : Qp → Qp) : Writes [.slu] s (s.modQp i f) := by
  unfold State.modQp
  with_reducible repeat' first | exact .refl _ _ | apply Writes.upd | exact Or.inr rfl | exact Or.inl rfl

theorem State.qpTell_writes (s : State) (b i : Nat) (q : Qp) : Writes [.gus, .slu] s (s.qpTell b i q) := by
  unfold State.qpTell
  with_reducible repeat' first
    | exact .refl _ _ | apply Writes.step (State.delta_writes ..) | apply Writes.step (State.modQp_writes ..)
    | with_unfolding_all exact rfl

theorem State.qpChanges_writes (s : State) (b : Nat) : Writes [.gus, .slu] s (s.qpChanges b) := by
  unfold State.qpChanges
  with_reducible repeat' first
    | exact .refl _ _ | apply Writes.step (State.delta_writes ..) | apply Writes.step (State.modQp_writes ..)
    | refine Writes.fold (fun _ _ => ?_) ?_ | refine Writes.ite (fun _ => ?_) (fun _ => ?_) | with_unfolding_all exact rfl

theorem State.sendQp_writes (s : State) (i p ext payload : Nat) (o : Out) :
    Writes Part.sent s (s.sendQp i p ext payload o) := by
  unfold State.sendQp
  with_reducible repeat' first
    | exact .refl _ _ | apply Writes.step (State.emit_writes ..) | apply Writes.step (State.sendInternal_writes ..) | split
    | with_unfolding_all exact rfl

theorem State.putAck_writes (s : State) (i psn : Nat) : Writes Part.sent s (s.putAck i psn) := by
  unfold State.putAck
  with_reducible repeat' first | exact .refl _ _ | apply Writes.step (State.sendQp_writes ..) | with_unfolding_all exact rfl

theorem State.putNak_writes (s : State) (i psn : Nat) (k : RdmaNak) : Writes Part.sent s (s.putNak i psn k) := by
  unfold State.putNak
  with_reducible repeat' first | exact .refl _ _ | apply Writes.step (State.sendQp_writes ..) | with_unfolding_all exact rfl

theorem State.putPacket_writes (s : State) (i : Nat) (r : TxReq) (sel : Bool) (k : Nat) :
    Writes Part.sent s (s.putPacket i r sel k) := by
  unfold State.putPacket
  with_reducible repeat' first
    | exact .refl _ _ | apply Writes.step (State.sendQp_writes ..) | split | with_unfolding_all exact rfl

theorem State.putRequest_writes (s : State) (i : Nat) (r : TxReq) : Writes Part.sent s (s.putRequest i r) := by
  unfold State.putRequest
  with_reducible repeat' first
    | exact .refl _ _ | apply Writes.step (State.putPacket_writes ..) | refine Writes.fold (fun _ _ => ?_) ?_
    | refine Writes.ite (fun _ => ?_) (fun _ => ?_) | with_unfolding_all exact rfl

theorem State.putCm_writes (s : State) (mac vlan gid : Nat) (o : Out) : Writes Part.sent s (s.putCm mac vlan gid o) := by
  unfold State.putCm
  with_reducible repeat' first
    | exact .refl _ _ | apply Writes.step (State.emit_writes ..) | apply Writes.step (State.sendInternal_writes ..)
    | refine Writes.ite (fun _ => ?_) (fun _ => ?_) | with_unfolding_all exact rfl

theorem State.sendAck_writes (s : State) (i : Nat) : Writes Part.wire s (s.sendAck i) := by
  unfold State.sendAck
  with_reducible repeat' first
    | exact .refl _ _ | apply Writes.step (State.gusSend_writes ..) | apply Writes.step (State.modQp_writes ..)
    | apply Writes.step (State.putAck_writes ..) | split | dsimp only | apply Writes.upd | exact Or.inr rfl | exact Or.inl rfl
    | with_unfolding_all exact rfl

theorem txPumpF_writes (n i : Nat) (s : State) :
    Writes Part.wire s (txPumpF n i s) := by
  induction n generalizing s i with
  | zero => exact .refl _ s
  | succ n ih =>
    unfold txPumpF
    dsimp only
    with_reducible repeat' first
      | exact .refl _ _ | with_unfolding_all exact rfl | apply Writes.trans (ih ..)
      | apply Writes.step (State.gusSend_writes ..) | apply Writes.step (State.modQp_writes ..)
      | apply Writes.step (State.putRequest_writes ..)
      | refine Writes.ite (fun _ => ?_) (fun _ => ?_) | split

theorem State.txPump_writes (s : State) (i : Nat) : Writes Part.wire s (s.txPump i) := by
  unfold State.txPump
  with_reducible repeat' first
    | exact .refl _ _ | apply Writes.step (txPumpF_writes ..) | split | with_unfolding_all exact rfl

theorem State.post_writes (s : State) (i : Nat) (r : TxReq) : Writes Part.wire s (s.post i r) := by
  unfold State.post
  with_reducible repeat' first
    | exact .refl _ _ | apply Writes.step (State.modQp_writes ..) | apply Writes.step (State.txPump_writes ..)
    | with_unfolding_all exact rfl

/-! ### Answers to a host -/

theorem State.noteHost_writes (s : State) (c : Cap) (n : Nat) : Writes [.cmd] s (s.noteHost c n) := by
  unfold State.noteHost
  with_reducible repeat' first
    | exact .refl _ _ | apply Writes.step (State.mod_writes ..) | split | with_unfolding_all exact rfl

theorem State.toHost_writes (s : State) (c : Cap) (d : DataPtr) (bytes : Bytes) : Writes Part.host s (s.toHost c d bytes) := by
  unfold State.toHost
  with_reducible repeat' first
    | exact .refl _ _ | apply Writes.step (State.emit_writes ..) | apply Writes.step (State.post_writes ..)
    | apply Writes.step (State.noteHost_writes ..) | split | dsimp only | apply Writes.upd | exact Or.inr rfl
    | exact Or.inl rfl | with_unfolding_all exact rfl

theorem State.fireTrigs_writes (s : State) (n : Nat) : Writes Part.wire s (s.fireTrigs n) := by
  unfold State.fireTrigs
  with_reducible repeat' first
    | exact .refl _ _ | apply Writes.step (State.bump_writes ..) | apply Writes.step (State.delta_writes ..)
    | apply Writes.step (State.post_writes ..) | refine Writes.fold (fun _ _ => ?_) ?_ | split | dsimp only | apply Writes.upd
    | exact Or.inr rfl | exact Or.inl rfl | with_unfolding_all exact rfl

theorem State.countUp_writes (s : State) (n : Nat) (imm : Option Nat) : Writes Part.wire s (s.countUp n imm) := by
  unfold State.countUp
  with_reducible repeat' first
    | exact .refl _ _ | apply Writes.step (State.delta_writes ..) | apply Writes.step (State.fireTrigs_writes ..) | split
    | dsimp only | apply Writes.upd | exact Or.inr rfl | exact Or.inl rfl | with_unfolding_all exact rfl

theorem State.flushTrigs_writes (s : State) (p : Trig → Bool) : Writes [.slu, .out] s (s.flushTrigs p) := by
  unfold State.flushTrigs
  with_reducible repeat' first
    | exact .refl _ _ | apply Writes.step (State.emit_writes ..) | refine Writes.fold (fun _ _ => ?_) ?_ | apply Writes.upd
    | exact Or.inr rfl | exact Or.inl rfl | with_unfolding_all exact rfl

theorem State.winFinish_writes (s : State) (i : Nat) : Writes [.cmd, .gus, .slu, .out] s (s.winFinish i) := by
  unfold State.winFinish
  with_reducible repeat' first
    | exact .refl _ _ | apply Writes.step (State.delta_writes ..) | apply Writes.step (State.modAssoc_writes ..)
    | apply Writes.step (State.flushTrigs_writes ..) | split | dsimp only | apply Writes.upd | exact Or.inr rfl
    | exact Or.inl rfl | with_unfolding_all exact rfl

theorem State.winRevoke_writes (s : State) (i : Nat) : Writes [.cmd, .gus, .slu, .out] s (s.winRevoke i) := by
  unfold State.winRevoke
  with_reducible repeat' first
    | exact .refl _ _ | apply Writes.step (State.winFinish_writes ..) | split | dsimp only | apply Writes.upd
    | exact Or.inr rfl | exact Or.inl rfl | with_unfolding_all exact rfl

theorem State.qpDestroy_writes (s : State) (i : Nat) : Writes [.gus, .slu, .out] s (s.qpDestroy i) := by
  unfold State.qpDestroy
  with_reducible repeat' first
    | exact .refl _ _ | apply Writes.step (State.delta_writes ..) | apply Writes.step (State.modQp_writes ..)
    | apply Writes.step (State.flushTrigs_writes ..) | split | dsimp only | apply Writes.upd | exact Or.inr rfl
    | exact Or.inl rfl | with_unfolding_all exact rfl

theorem State.endAssoc_writes (s : State) (a : Nat) : Writes [.regs, .cmd, .gus, .slu, .ept, .pmu, .out] s (s.endAssoc a) := by
  unfold State.endAssoc
  with_reducible repeat' first
    | exact .refl _ _ | apply Writes.step (State.mod_writes ..) | apply Writes.step (State.modAssoc_writes ..)
    | apply Writes.step (State.pmuCommand_writes ..) | apply Writes.step (State.assocSweep_writes ..)
    | apply Writes.step (State.dropCmd_writes ..) | apply Writes.step (State.winRevoke_writes ..)
    | apply Writes.step (State.qpDestroy_writes ..) | refine Writes.fold (fun _ _ => ?_) ?_ | split
    | with_unfolding_all exact rfl

theorem State.sendResponse_writes (s : State) (r : CmdRec) : Writes Part.wire s (s.sendResponse r) := by
  unfold State.sendResponse
  with_reducible repeat' first
    | exact .refl _ _ | apply Writes.step (State.post_writes ..) | split | with_unfolding_all exact rfl

theorem State.endBare_writes (s : State) (r : CmdRec) : Writes [.gus, .slu, .out] s (s.endBare r) := by
  unfold State.endBare
  with_reducible repeat' first
    | exact .refl _ _ | apply Writes.step (State.qpDestroy_writes ..) | split | with_unfolding_all exact rfl

theorem State.release_writes (s : State) (arr : Nat) : Writes Part.host s (s.release arr) := by
  unfold State.release
  with_reducible repeat' first
    | exact .refl _ _ | apply Writes.step (State.pmuEvent_writes ..) | apply Writes.step (State.emit_writes ..)
    | apply Writes.step (State.eptPost_writes ..) | apply Writes.step (State.pmuCommand_writes ..)
    | apply Writes.step (State.dropCmd_writes ..) | apply Writes.step (State.endBare_writes ..)
    | apply Writes.step (State.sendResponse_writes ..) | split | dsimp only | apply Writes.upd | exact Or.inr rfl
    | exact Or.inl rfl | with_unfolding_all exact rfl

theorem State.finish_writes (s : State) (arr status dw0 dw1 : Nat) : Writes Part.host s (s.finish arr status dw0 dw1) := by
  unfold State.finish
  with_reducible repeat' first
    | exact .refl _ _ | apply Writes.step (State.mod_writes ..) | apply Writes.step (State.setPhase_writes ..)
    | apply Writes.step (State.release_writes ..) | split | dsimp only | apply Writes.upd | exact Or.inr rfl
    | exact Or.inl rfl | with_unfolding_all exact rfl

theorem State.releaseAll_writes (s : State) : Writes Part.host s s.releaseAll := by
  unfold State.releaseAll
  with_reducible repeat' first
    | exact .refl _ _ | apply Writes.step (State.release_writes ..) | refine Writes.fold (fun _ _ => ?_) ?_ | split
    | with_unfolding_all exact rfl

theorem State.answer_writes (s : State) (cap : Cap) (nsid : Nat) (cmd : NvmeCmd) (isAdmin : Bool) (status dw0 dw1 : Nat) :
    Writes Part.host s (s.answer cap nsid cmd isAdmin status dw0 dw1) := by
  unfold State.answer
  with_reducible repeat' first
    | exact .refl _ _ | apply Writes.step (State.mod_writes ..) | apply Writes.step (State.arrive_writesE (by assumption))
    | apply Writes.step (State.finish_writes ..) | split | with_unfolding_all exact rfl

theorem State.aer_writes (s : State) (a dw0 : Nat) : Writes Part.host s (s.aer a dw0) := by
  unfold State.aer
  with_reducible repeat' first
    | exact .refl _ _ | apply Writes.step (State.modAssoc_writes ..) | apply Writes.step (State.finish_writes ..) | split
    | dsimp only | apply Writes.upd | exact Or.inr rfl | exact Or.inl rfl | with_unfolding_all exact rfl

/-! ### The tick -/

theorem State.twoCopies_writes (s : State) (base n : Nat) (body : Bytes) (genOff : Nat) :
    Writes [.mram] s (s.twoCopies base n body genOff) := by
  unfold State.twoCopies
  with_reducible repeat' first | exact .refl _ _ | apply Writes.upd | exact Or.inr rfl | exact Or.inl rfl

theorem State.sendWord_writes (s : State) : Writes [.regs, .gus, .net, .out] s s.sendWord := by
  unfold State.sendWord
  with_reducible repeat' first
    | exact .refl _ _ | apply Writes.step (State.emit_writes ..) | apply Writes.step (State.gusFrames_writes ..)
    | refine Writes.ite (fun _ => ?_) (fun _ => ?_) | apply Writes.upd | exact Or.inr rfl | exact Or.inl rfl
    | with_unfolding_all exact rfl

theorem State.putTickStates_writes (s : State) : Writes [.mram] s s.putTickStates := by
  unfold State.putTickStates
  with_reducible repeat' first
    | exact .refl _ _ | apply Writes.step (State.twoCopies_writes ..) | refine Writes.fold (fun _ _ => ?_) ?_ | split
    | with_unfolding_all exact rfl

/-! ### The taking of a command -/

theorem State.trimCache_writes (s : State) (b : Nat) : Writes [.beds] s (s.trimCache b) := by
  unfold State.trimCache
  with_reducible repeat' first
    | exact .refl _ _ | apply Writes.step (State.setBed_writes ..) | refine Writes.fold1 (fun _ _ => ?_) ?_ | split
    | with_unfolding_all exact rfl

theorem State.judgeSpill_writes (s : State) (b arr : Nat) (c : NvmeCmd) : Writes [.regs, .cmd] s (s.judgeSpill b arr c) := by
  unfold State.judgeSpill
  with_reducible repeat' first
    | exact .refl _ _ | apply Writes.step (State.applyFld_writes ..) | apply Writes.step (State.mod_writes ..)
    | refine Writes.ite (fun _ => ?_) (fun _ => ?_) | with_unfolding_all exact rfl

theorem State.enterBoard_writes (s : State) (arr : Nat) : Writes [.regs, .cmd, .beds, .gus] s (s.enterBoard arr) := by
  unfold State.enterBoard
  with_reducible repeat' first
    | exact .refl _ _ | apply Writes.step (State.setBed_writes ..) | apply Writes.step (State.mod_writes ..)
    | apply Writes.step (State.delta_writes ..) | apply Writes.step (State.setPhase_writes ..)
    | apply Writes.step (State.judgeSpill_writes ..) | refine Writes.fold (fun _ _ => ?_) ?_
    | refine Writes.ite (fun _ => ?_) (fun _ => ?_) | split | with_unfolding_all exact rfl

theorem State.sendWake_writes (s : State) (reason : Nat) : Writes Part.sent s (s.sendWake reason) := by
  unfold State.sendWake
  with_reducible repeat' first
    | exact .refl _ _ | apply Writes.step (State.bump_writes ..) | apply Writes.step (State.rackSend_writes ..)
    | with_unfolding_all exact rfl

theorem State.keepAlive_writes (s : State) (a : Nat) : Writes [.cmd] s (s.keepAlive a) := by
  unfold State.keepAlive
  with_reducible repeat' first | exact .refl _ _ | apply Writes.step (State.modAssoc_writes ..) | with_unfolding_all exact rfl

theorem State.darkWake_writes (s : State) : Writes [.regs, .net, .rack, .ept, .pmu, .out, .free] s s.darkWake := by
  unfold State.darkWake
  with_reducible repeat' first
    | exact .refl _ _ | apply Writes.step (State.applyFld_writes ..) | apply Writes.step (State.sendWake_writes ..)
    | refine Writes.ite (fun _ => ?_) (fun _ => ?_) | apply Writes.upd | exact Or.inr rfl | exact Or.inl rfl
    | with_unfolding_all exact rfl

theorem State.darkAnswer_writes (s : State) (n : Nat) (cap : Cap) (status : Nat) :
    Writes Part.sent s (s.darkAnswer n cap status) := by
  unfold State.darkAnswer
  with_reducible repeat' first
    | exact .refl _ _ | apply Writes.step (State.drawn_writes ..) | apply Writes.step (State.sendCtl_writes ..)
    | with_unfolding_all exact rfl

theorem State.darkCapsule_writes (s : State) (n : Nat) (cap : Cap) (keepAlive : Bool) :
    Writes [.regs, .cmd, .net, .rack, .ept, .pmu, .out, .free] s (s.darkCapsule n cap keepAlive) := by
  unfold State.darkCapsule
  with_reducible repeat' first
    | exact .refl _ _ | apply Writes.step (State.bump_writes ..) | apply Writes.step (State.keepAlive_writes ..)
    | apply Writes.step (State.darkWake_writes ..) | apply Writes.step (State.darkAnswer_writes ..)
    | refine Writes.ite (fun _ => ?_) (fun _ => ?_) | apply Writes.upd | exact Or.inr rfl | exact Or.inl rfl
    | with_unfolding_all exact rfl

theorem State.park_writes (s : State) (arr : Nat) : Writes [.regs, .cmd, .net, .ept, .pmu, .out, .free] s (s.park arr) := by
  unfold State.park
  with_reducible repeat' first
    | exact .refl _ _ | apply Writes.step (State.setPhase_writes ..) | apply Writes.step (State.sendWake_writes ..)
    | refine Writes.ite (fun _ => ?_) (fun _ => ?_) | apply Writes.upd | exact Or.inr rfl | exact Or.inl rfl
    | with_unfolding_all exact rfl

theorem State.take_writes (s : State) (cap : Cap) (nsid : Nat) (c : NvmeCmd) (bad : Nat) :
    WritesT Part.block s (s.take cap nsid c bad) := by
  unfold State.take
  dsimp only
  with_reducible repeat' first
    | exact .refl _ _ | with_unfolding_all exact rfl | apply Writes.step (State.setBed_writes ..)
    | apply Writes.step (State.mod_writes ..)
    | apply Writes.step (State.arrive_writes ..) | apply Writes.step (State.finish_writes ..)
    | apply Writes.step (State.enterBoard_writes ..) | apply Writes.step (State.darkCapsule_writes ..)
    | apply Writes.step (State.park_writes ..) | refine WritesT.ite (fun _ => ?_) (fun _ => ?_)
    | apply WritesT.stop | apply WritesT.go | split

theorem State.take_writesS {s : State} {cap : Cap} {nsid : Nat} {c : NvmeCmd} {bad : Nat} {t : State}
    (e : s.take cap nsid c bad = .stop t) : Writes Part.block s t := by
  have := s.take_writes cap nsid c bad
  rwa [e] at this

theorem State.take_writesG {s : State} {cap : Cap} {nsid : Nat} {c : NvmeCmd} {bad : Nat} {t : State} {arr b n}
    (e : s.take cap nsid c bad = .go t arr b n) : Writes Part.block s t := by
  have := s.take_writes cap nsid c bad
  rwa [e] at this

theorem State.unsupported_writes (s : State) (cap : Cap) (nsid opcode : Nat) :
    Writes Part.block s (s.unsupported cap nsid opcode) := by
  unfold State.unsupported
  split
  next e => exact State.take_writesS e
  next e => exact State.take_writesG e

theorem State.disconnect_writes (s : State) (i : Nat) :
    Writes [.regs, .cmd, .gus, .slu, .ept, .pmu, .out] s (s.disconnect i) := by
  unfold State.disconnect
  with_reducible repeat' first
    | exact .refl _ _ | apply Writes.step (State.qpDestroy_writes ..) | apply Writes.step (State.endAssoc_writes ..) | split
    | with_unfolding_all exact rfl

theorem State.putAgain_writes (s : State) (i psn : Nat) (r : TxReq) : Writes Part.sent s (s.putAgain i psn r) := by
  unfold State.putAgain
  with_reducible repeat' first
    | exact .refl _ _ | apply Writes.step (State.putRequest_writes ..) | apply Writes.step (State.putPacket_writes ..)
    | refine Writes.fold (fun _ _ => ?_) ?_ | refine Writes.ite (fun _ => ?_) (fun _ => ?_) | with_unfolding_all exact rfl

theorem State.resend_writes (s : State) (i psn : Nat) :
    Writes [.regs, .net, .slu, .ept, .pmu, .out, .free] s (s.resend i psn) := by
  unfold State.resend
  with_reducible repeat' first
    | exact .refl _ _ | apply Writes.step (State.bump_writes ..) | apply Writes.step (State.modQp_writes ..)
    | apply Writes.step (State.putAgain_writes ..) | refine Writes.fold (fun _ _ => ?_) ?_ | split
    | with_unfolding_all exact rfl

/-! ### Admin and Fabrics commands -/

theorem State.takeAdmin_writes (s : State) (cap : Cap) (op : Nat) (member : Bool) :
    WritesA Part.admin s (s.takeAdmin cap op member) := by
  unfold State.takeAdmin
  dsimp only
  with_reducible repeat' first
    | exact .refl _ _ | with_unfolding_all exact rfl | apply Writes.step (State.mod_writes ..)
    | apply Writes.step (State.arrive_writes ..)
    | apply Writes.step (State.finish_writes ..) | apply Writes.step (State.darkCapsule_writes ..)
    | apply Writes.step (State.park_writes ..) | apply WritesA.stop | apply WritesA.go | split

theorem State.takeAdmin_writesS {s : State} {cap : Cap} {op : Nat} {member : Bool} {t : State}
    (e : s.takeAdmin cap op member = .stop t) : Writes Part.admin s t := by
  have := s.takeAdmin_writes cap op member
  rwa [e] at this

theorem State.takeAdmin_writesG {s : State} {cap : Cap} {op : Nat} {member : Bool} {t : State} {arr a}
    (e : s.takeAdmin cap op member = .go t arr a) : Writes Part.admin s t := by
  have := s.takeAdmin_writes cap op member
  rwa [e] at this

/-- What an admin command writes: what its taking writes, and what its meaning `f` does. -/
theorem State.admin_writes {ps : List Part} (hsub : Part.admin.all ps.contains = true)
    (s : State) (cap : Cap) (op : Nat) (f : State → Nat → Assoc → State) (hf : ∀ t arr a, Writes ps t (f t arr a)) :
    WritesO ps s (s.admin cap op f) := by
  unfold State.admin
  split
  next e => exact .next ((State.takeAdmin_writesS e).step hsub (.refl _ s))
  next e => exact .next ((hf _ _ _).trans ((State.takeAdmin_writesG e).step hsub (.refl _ s)))

theorem State.nsChanged_writes (s : State) (nsid : Nat) (l : List Nat) : Writes Part.host s (s.nsChanged nsid l) := by
  unfold State.nsChanged
  with_reducible repeat' first
    | exact .refl _ _ | apply Writes.step (State.modAssoc_writes ..) | apply Writes.step (State.aer_writes ..)
    | refine Writes.fold (fun _ _ => ?_) ?_ | split | dsimp only | apply Writes.upd | exact Or.inr rfl | exact Or.inl rfl
    | with_unfolding_all exact rfl

theorem State.endTest_writes (s : State) (result : Nat) : Writes [.cmd, .mnt] s (s.endTest result) := by
  unfold State.endTest
  with_reducible repeat' first
    | exact .refl _ _ | apply Writes.step (State.actEndAny_writes ..) | split | dsimp only | apply Writes.upd
    | exact Or.inr rfl | exact Or.inl rfl | with_unfolding_all exact rfl

theorem State.refuseConnect_writes (s : State) (cap : Cap) (status dw0 : Nat) :
    Writes Part.host s (s.refuseConnect cap status dw0) := by
  unfold State.refuseConnect
  with_reducible repeat' first
    | exact .refl _ _ | apply Writes.step (State.release_writes ..) | refine Writes.ite (fun _ => ?_) (fun _ => ?_)
    | apply Writes.upd | exact Or.inr rfl | exact Or.inl rfl | with_unfolding_all exact rfl

theorem State.addQueue_writes (s : State) (a qid size : Nat) : Writes [.cmd] s (s.addQueue a qid size) := by
  unfold State.addQueue
  with_reducible repeat' first | exact .refl _ _ | apply Writes.upd | exact Or.inr rfl | exact Or.inl rfl

theorem State.detachOthers_writes (s : State) (a tenantId : Nat) : Writes [.cfg] s (s.detachOthers a tenantId) := by
  unfold State.detachOthers
  with_reducible repeat' first | exact .refl _ _ | apply Writes.upd | exact Or.inr rfl | exact Or.inl rfl

theorem State.fabrics_writes {ps : List Part} (hsub : Part.admin.all ps.contains = true)
    (s : State) (cap : Cap) (f : State → Nat → Assoc → State) (hf : ∀ t arr a, Writes ps t (f t arr a)) :
    WritesO ps s (s.fabrics cap f) := by
  refine State.admin_writes hsub _ _ _ _ fun t arr a => .ite (fun _ => ?_) (fun _ => hf t arr a)
  exact ((State.finish_writes ..).step rfl (.refl _ t)).step hsub (.refl _ t)

theorem State.winRegister_writes (s : State) (assoc : Nat) (a : Assoc) :
    Writes [.regs, .cmd, .gus, .slu] s (s.winRegister assoc a) := by
  unfold State.winRegister
  with_reducible repeat' first
    | exact .refl _ _ | apply Writes.step (State.applyFld_writes ..) | apply Writes.step (State.delta_writes ..)
    | apply Writes.step (State.modAssoc_writes ..) | split | dsimp only | apply Writes.upd | exact Or.inr rfl
    | exact Or.inl rfl | with_unfolding_all exact rfl

theorem State.winUnset_writes (s : State) (assoc : Nat) (a : Assoc) :
    Writes [.cmd, .gus, .slu, .out] s (s.winUnset assoc a) := by
  unfold State.winUnset
  with_reducible repeat' first
    | exact .refl _ _ | with_unfolding_all exact rfl | apply Writes.step (State.winRevoke_writes ..)
    | apply Writes.step (State.modAssoc_writes ..) | split

theorem State.testOfReset_writes (s : State) (assoc : Nat) : Writes [.cmd, .mnt] s (s.testOfReset assoc) := by
  unfold State.testOfReset
  with_reducible repeat' first
    | exact .refl _ _ | apply Writes.step (State.endTest_writes ..) | split | with_unfolding_all exact rfl

theorem State.sendPage_writes (s : State) (cap : Cap) (arr : Nat) (page : Bytes) (off len : Nat) (d : DataPtr) :
    Writes Part.host s (s.sendPage cap arr page off len d) := by
  unfold State.sendPage
  with_reducible repeat' first
    | exact .refl _ _ | apply Writes.step (State.toHost_writes ..) | apply Writes.step (State.finish_writes ..)
    | refine Writes.ite (fun _ => ?_) (fun _ => ?_) | with_unfolding_all exact rfl

theorem State.queueCmd_writes {ps : List Part} (hsub : Part.admin.all ps.contains = true)
    (s : State) (cap : Cap) (op : Nat) (f : State → Nat → State) (hf : ∀ t arr, Writes ps t (f t arr)) :
    WritesO ps s (s.queueCmd cap op f) := by
  refine State.admin_writes hsub _ _ _ _ fun t arr a => .ite (fun _ => hf t arr) (fun _ => ?_)
  exact ((State.finish_writes ..).step rfl (.refl _ t)).step hsub (.refl _ t)

/-! ### The Gusset link, sent again -/

theorem State.resendFrame_writes (s : State) (g : GTx) : Writes [.regs, .net, .ept, .pmu, .out] s (s.resendFrame g) := by
  unfold State.resendFrame
  with_reducible repeat' first
    | exact .refl _ _ | apply Writes.step (State.bump_writes ..) | apply Writes.step (State.pmuEvent_writes ..)
    | apply Writes.step (State.putGusset_writes ..) | refine Writes.ite (fun _ => ?_) (fun _ => ?_)
    | with_unfolding_all exact rfl

theorem State.resendFrom_writes (s : State) (q : Nat) : Writes Part.gusset s (s.resendFrom q) := by
  unfold State.resendFrom
  with_reducible repeat' first
    | exact .refl _ _ | apply Writes.step (State.resendFrame_writes ..) | refine Writes.fold (fun _ _ => ?_) ?_
    | apply Writes.upd | exact Or.inr rfl | exact Or.inl rfl | with_unfolding_all exact rfl

theorem State.askDetach_writes (s : State) : Writes Part.gusset s s.askDetach := by
  unfold State.askDetach
  with_reducible repeat' first
    | exact .refl _ _ | apply Writes.step (State.gusControl_writes ..) | refine Writes.ite (fun _ => ?_) (fun _ => ?_)
    | apply Writes.upd | exact Or.inr rfl | exact Or.inl rfl | with_unfolding_all exact rfl

/-! ### The standby -/

theorem State.modCopy_writes (s : State) (b : Nat) (f : StandbyCopy → StandbyCopy) : Writes [.beds] s (s.modCopy b f) := by
  unfold State.modCopy
  with_reducible repeat' first | exact .refl _ _ | apply Writes.step (State.modBed_writes ..) | with_unfolding_all exact rfl

theorem State.onStandby_writes {ps : List Part} (s : State) (b : Nat) (f : State → Bed → State)
    (hf : ∀ t x, Writes ps t (f t x)) : Writes ps s (s.onStandby b f) := by
  unfold State.onStandby
  split
  · exact .ite (fun _ => hf _ _) (fun _ => .refl ps s)
  · exact .refl ps s

theorem State.joinDelta_writes (s : State) (b : Nat) (x : Bed) : Writes [.gus, .slu] s (s.joinDelta b x) := by
  unfold State.joinDelta
  with_reducible repeat' first
    | exact .refl _ _ | apply Writes.step (State.delta_writes ..) | apply Writes.step (State.cmdDelta_writes ..)
    | apply Writes.step (State.qpTell_writes ..) | refine Writes.fold (fun _ _ => ?_) ?_ | split | dsimp only
    | apply Writes.upd | exact Or.inr rfl | exact Or.inl rfl | with_unfolding_all exact rfl

theorem State.mirrorStaged_writes (s : State) (b : Nat) :
    Writes [.regs, .beds, .gus, .net, .ept, .pmu, .out] s (s.mirrorStaged b) := by
  unfold State.mirrorStaged
  with_reducible repeat' first
    | exact .refl _ _ | apply Writes.step (State.modBed_writes ..) | apply Writes.step (State.gusSend_writes ..)
    | refine Writes.fold (fun _ _ => ?_) ?_ | split | with_unfolding_all exact rfl

theorem State.putAcc_writes (s : State) (b k fold : Nat) (l : List (Nat × Bytes × Bytes)) :
    Writes [.beds] s (s.putAcc b k fold l) := by
  unfold State.putAcc
  with_reducible repeat' first
    | exact .refl _ _ | apply Writes.step (State.modBed_writes ..) | apply Writes.step (State.modCopy_writes ..)
    | with_unfolding_all exact rfl

theorem State.probeAll_writes (s : State) : Writes Part.wire s s.probeAll := by
  unfold State.probeAll
  with_reducible repeat' first
    | exact .refl _ _ | apply Writes.step (State.modQp_writes ..) | apply Writes.step (State.txPump_writes ..)
    | refine Writes.fold (fun _ _ => ?_) ?_ | refine Writes.ite (fun _ => ?_) (fun _ => ?_) | with_unfolding_all exact rfl

theorem State.announceTaken_writes (s : State) : Writes Part.sent s s.announceTaken := by
  unfold State.announceTaken
  with_reducible repeat' first
    | exact .refl _ _ | apply Writes.step (State.sendCtl_writes ..) | refine Writes.fold (fun _ _ => ?_) ?_
    | refine Writes.ite (fun _ => ?_) (fun _ => ?_) | with_unfolding_all exact rfl

/-! ### The rack -/

theorem State.takeEpoch_writes (s : State) (e : Nat) : Writes [.rack, .mram] s (s.takeEpoch e) := by
  unfold State.takeEpoch
  with_reducible repeat' first
    | exact .refl _ _ | apply Writes.step (State.twoCopies_writes ..) | apply Writes.upd | exact Or.inr rfl | exact Or.inl rfl
    | with_unfolding_all exact rfl

theorem State.rackStop_writes (s : State) : Writes [.rack] s s.rackStop := by
  unfold State.rackStop
  with_reducible repeat' first | exact .refl _ _ | apply Writes.upd | exact Or.inr rfl | exact Or.inl rfl

theorem State.rackIn_writes (s : State) (h : RackHead) (isStatus : Bool) :
    Writes [.regs, .rack] s (s.rackIn h isStatus).1 := by
  unfold State.rackIn
  with_reducible repeat' first
    | exact .refl _ _ | apply Writes.step (State.bump_writes ..) | apply Writes.step (State.rackStop_writes ..)
    | refine Writes.ite (fun _ => ?_) (fun _ => ?_) | refine Writes.ite1 (fun _ => ?_) (fun _ => ?_) | apply Writes.upd
    | exact Or.inr rfl | exact Or.inl rfl | with_unfolding_all exact rfl

theorem State.rackIn_writesE {s : State} {h : RackHead} {isStatus : Bool} {t q} (e : s.rackIn h isStatus = (t, q)) :
    Writes [.regs, .rack] s t := by
  have := s.rackIn_writes h isStatus
  rwa [e] at this

theorem State.sendStatus_writes (s : State) (dest : Nat) : Writes Part.sent s (s.sendStatus dest) := by
  unfold State.sendStatus
  with_reducible repeat' first
    | exact .refl _ _ | apply Writes.step (State.drawn_writes ..) | apply Writes.step (State.rackSend_writes ..)
    | with_unfolding_all exact rfl

theorem State.claim_writes (s : State) : Writes [.regs, .net, .rack, .ept, .pmu, .mram, .out, .free] s s.claim := by
  unfold State.claim
  with_reducible repeat' first
    | exact .refl _ _ | apply Writes.step (State.bump_writes ..) | apply Writes.step (State.rackSend_writes ..)
    | apply Writes.step (State.takeEpoch_writes ..) | apply Writes.upd | exact Or.inr rfl | exact Or.inl rfl
    | with_unfolding_all exact rfl

theorem State.renew_writes (s : State) : Writes [.regs, .net, .rack, .ept, .pmu, .out, .free] s s.renew := by
  unfold State.renew
  with_reducible repeat' first
    | exact .refl _ _ | apply Writes.step (State.rackSend_writes ..) | apply Writes.upd | exact Or.inr rfl | exact Or.inl rfl
    | with_unfolding_all exact rfl

/-! ### Function 0 -/

theorem State.fn0Dropped_writes (s : State) : Writes [.ept, .out] s s.fn0Dropped := by
  unfold State.fn0Dropped
  with_reducible repeat' first
    | exact .refl _ _ | apply Writes.step (State.aerSet_writes ..) | refine Writes.ite (fun _ => ?_) (fun _ => ?_)
    | with_unfolding_all exact rfl

end Sys2Proof.Machine
end

section
/-! SUPPORT. What each command of a group writes: within the group's frame. -/

namespace Sys2Proof.Machine

/-- The frame of the Sluice commands that run no host command. -/
abbrev Part.transport : List Part := [.now, .regs, .cmd, .slu, .gus, .ept, .pmu, .net, .out, .free]

/-- The frame of the Gusset link's events. -/
abbrev Part.link : List Part := [.now, .regs, .cmd, .drv, .gus, .net, .ept, .pmu, .out]

/-- The frame of what a standby takes from its owner. -/
abbrev Part.standby : List Part := [.now, .regs, .beds, .gus, .net, .slu, .ept, .pmu, .mram, .out]

/-- The frame of Fabrics, property and admin commands. -/
abbrev Part.fabrics : List Part := [.now, .regs, .cmd, .cfg, .gus, .mnt, .net, .slu, .rack, .ept, .pmu, .out, .free]

/-- The frame of an I/O command whose opcode is not supported. -/
abbrev Part.unknown : List Part := [.now, .regs, .cmd, .beds, .gus, .net, .slu, .rack, .ept, .pmu, .out, .free]

/-- The frame of the rack's messages and timers. -/
abbrev Part.fleet : List Part := [.now, .regs, .net, .rack, .ept, .pmu, .mram, .out, .free]

/-- The frame of the reference clocks' events. -/
abbrev Part.clocks : List Part := [.now, .regs, .clk, .ept, .pmu, .out]

theorem execCmReq_writes (req : CmReq) (s : State) : WritesO Part.transport s (execCmReq req s) := by
  unfold execCmReq
  with_reducible repeat' first
    | exact .refl _ _ | apply Writes.step (State.applyFld_writes ..) | apply Writes.step (State.applyRwl_writes ..)
    | apply Writes.step (State.drawn_writes ..) | apply Writes.step (State.putCm_writes ..)
    | apply Writes.step (State.waitFrame_writes ..) | split | apply WritesO.next | dsimp only | apply Writes.upd
    | exact Or.inr rfl | exact Or.inl rfl | with_unfolding_all exact rfl

theorem execCmRtu_writes (i : Nat) (s : State) : WritesO Part.transport s (execCmRtu i s) := by
  unfold execCmRtu
  with_reducible repeat' first
    | exact .refl _ _ | apply Writes.step (State.modQp_writes ..) | apply Writes.step (State.qpTell_writes ..)
    | apply Writes.step (State.waitFrame_writes ..) | split | apply WritesO.next | with_unfolding_all exact rfl

theorem execCmRej_writes (i : Nat) (s : State) : WritesO Part.transport s (execCmRej i s) := by
  unfold execCmRej
  with_reducible repeat' first
    | exact .refl _ _ | apply Writes.step (State.qpDestroy_writes ..) | apply Writes.step (State.waitFrame_writes ..) | split
    | apply WritesO.next | with_unfolding_all exact rfl

theorem execCmDreq_writes (i : Nat) (s : State) : WritesO Part.transport s (execCmDreq i s) := by
  unfold execCmDreq
  with_reducible repeat' first
    | exact .refl _ _ | apply Writes.step (State.disconnect_writes ..) | apply Writes.step (State.putCm_writes ..)
    | apply Writes.step (State.waitFrame_writes ..) | split | apply WritesO.next | with_unfolding_all exact rfl

theorem execCmDrep_writes (i : Nat) (s : State) : WritesO Part.transport s (execCmDrep i s) := by
  unfold execCmDrep
  with_reducible repeat' first
    | exact .refl _ _ | apply Writes.step (State.disconnect_writes ..) | split | apply WritesO.next
    | with_unfolding_all exact rfl

theorem execCnpReceived_writes (i : Nat) (s : State) : WritesO Part.transport s (execCnpReceived i s) := by
  unfold execCnpReceived
  with_reducible repeat' first
    | exact .refl _ _ | apply Writes.step (State.modQp_writes ..) | split | apply WritesO.next | with_unfolding_all exact rfl

theorem execGapTimeout_writes (i : Nat) (s : State) : WritesO Part.transport s (execGapTimeout i s) := by
  unfold execGapTimeout
  with_reducible repeat' first
    | exact .refl _ _ | apply Writes.step (State.at_writes ..) | apply Writes.step (State.bump_writes ..)
    | apply Writes.step (State.modQp_writes ..) | apply Writes.step (State.pmuEvent_writes ..)
    | apply Writes.step (State.putNak_writes ..) | split | apply WritesO.next | with_unfolding_all exact rfl

theorem execAckTimerExpiry_writes (i : Nat) (s : State) : WritesO Part.transport s (execAckTimerExpiry i s) := by
  unfold execAckTimerExpiry
  with_reducible repeat' first
    | exact .refl _ _ | apply Writes.step (State.at_writes ..) | apply Writes.step (State.sendAck_writes ..) | split
    | apply WritesO.next | with_unfolding_all exact rfl

theorem execCcRateIncrease_writes (i : Nat) (s : State) : WritesO Part.transport s (execCcRateIncrease i s) := by
  unfold execCcRateIncrease
  with_reducible repeat' first
    | exact .refl _ _ | apply Writes.step (State.applyFld_writes ..) | apply Writes.step (State.at_writes ..)
    | apply Writes.step (State.modQp_writes ..) | split | apply WritesO.next | with_unfolding_all exact rfl

theorem execRnrRetryExpiry_writes (i : Nat) (s : State) : WritesO Part.transport s (execRnrRetryExpiry i s) := by
  unfold execRnrRetryExpiry
  with_reducible repeat' first
    | exact .refl _ _ | apply Writes.step (State.at_writes ..) | apply Writes.step (State.modQp_writes ..)
    | apply Writes.step (State.resend_writes ..) | apply Writes.step (State.txPump_writes ..) | split | apply WritesO.next
    | with_unfolding_all exact rfl

theorem execTriggeredWrPost_writes (qp counter threshold : Nat) (wr : WorkReq) (s : State) :
    WritesO Part.transport s (execTriggeredWrPost qp counter threshold wr s) := by
  unfold execTriggeredWrPost
  with_reducible repeat' first
    | exact .refl _ _ | apply Writes.step (State.delta_writes ..) | apply Writes.step (State.emit_writes ..)
    | apply Writes.step (State.fireTrigs_writes ..) | apply Writes.step (State.post_writes ..) | split | apply WritesO.next
    | dsimp only | apply Writes.upd | exact Or.inr rfl | exact Or.inl rfl | with_unfolding_all exact rfl

theorem execLocalWrComplete_writes (counter : Nat) (s : State) : WritesO Part.transport s (execLocalWrComplete counter s) := by
  unfold execLocalWrComplete
  with_reducible repeat' first
    | exact .refl _ _ | apply Writes.step (State.countUp_writes ..) | split | apply WritesO.next
    | with_unfolding_all exact rfl

theorem execQpnIndexReturn_writes (i : Nat) (s : State) : WritesO Part.transport s (execQpnIndexReturn i s) := by
  unfold execQpnIndexReturn
  with_reducible repeat' first
    | exact .refl _ _ | apply Writes.step (State.at_writes ..) | split | apply WritesO.next | dsimp only | apply Writes.upd
    | exact Or.inr rfl | exact Or.inl rfl | with_unfolding_all exact rfl

theorem execAddressAnnounce_writes (s : State) : WritesO Part.transport s (execAddressAnnounce s) := by
  unfold execAddressAnnounce
  with_reducible repeat' first
    | exact .refl _ _ | apply Writes.step (State.announceTaken_writes ..) | apply Writes.step (State.at_writes ..)
    | apply Writes.step (State.probeAll_writes ..) | split | apply WritesO.next | dsimp only | apply Writes.upd
    | exact Or.inr rfl | exact Or.inl rfl | with_unfolding_all exact rfl

theorem execGussetLinkDown_writes (s : State) : WritesO Part.link s (execGussetLinkDown s) := by
  unfold execGussetLinkDown
  with_reducible repeat' first
    | exact .refl _ _ | apply Writes.step (State.gusRetrain_writes ..) | split | apply WritesO.next
    | with_unfolding_all exact rfl

theorem execGussetLinkUp_writes (s : State) : WritesO Part.link s (execGussetLinkUp s) := by
  unfold execGussetLinkUp
  with_reducible repeat' first
    | exact .refl _ _ | apply Writes.step (State.gusControl_writes ..) | apply Writes.step (State.proxyBack_writes ..)
    | apply Writes.step (State.resendFrom_writes ..) | split | apply WritesO.next | dsimp only | apply Writes.upd
    | exact Or.inr rfl | exact Or.inl rfl | with_unfolding_all exact rfl

theorem execGussetRetransmitTimer_writes (s : State) : WritesO Part.link s (execGussetRetransmitTimer s) := by
  unfold execGussetRetransmitTimer
  with_reducible repeat' first
    | exact .refl _ _ | apply Writes.step (State.at_writes ..) | apply Writes.step (State.gusRetrain_writes ..)
    | apply Writes.step (State.resendFrom_writes ..) | split | apply WritesO.next | with_unfolding_all exact rfl

theorem execGussetDownDetach_writes (s : State) : WritesO Part.link s (execGussetDownDetach s) := by
  unfold execGussetDownDetach
  with_reducible repeat' first
    | exact .refl _ _ | apply Writes.step (State.askDetach_writes ..) | apply Writes.step (State.at_writes ..) | split
    | apply WritesO.next | with_unfolding_all exact rfl

theorem execGussetAckTimer_writes (s : State) : WritesO Part.link s (execGussetAckTimer s) := by
  unfold execGussetAckTimer
  with_reducible repeat' first
    | exact .refl _ _ | apply Writes.step (State.at_writes ..) | apply Writes.step (State.putGusset_writes ..) | split
    | apply WritesO.next | dsimp only | apply Writes.upd | exact Or.inr rfl | exact Or.inl rfl | with_unfolding_all exact rfl

theorem execAccRequest_writes (b : Nat) (ask : AccAsk) (s : State) : WritesO Part.link s (execAccRequest b ask s) := by
  unfold execAccRequest
  with_reducible repeat' first
    | exact .refl _ _ | apply Writes.step (State.gusSend_writes ..) | split | apply WritesO.next
    | with_unfolding_all exact rfl

theorem execHeartbeatSend_writes (s : State) : WritesO Part.link s (execHeartbeatSend s) := by
  unfold execHeartbeatSend
  with_reducible repeat' first
    | exact .refl _ _ | apply Writes.step (State.at_writes ..) | apply Writes.step (State.sendWord_writes ..) | split
    | apply WritesO.next | dsimp only | apply Writes.upd | exact Or.inr rfl | exact Or.inl rfl | with_unfolding_all exact rfl

theorem execSlotGrant_writes (s : State) : WritesO Part.link s (execSlotGrant s) := by
  unfold execSlotGrant
  with_reducible repeat' first
    | exact .refl _ _ | apply Writes.step (State.grant_writes ..) | split | apply WritesO.next | with_unfolding_all exact rfl

theorem execWindowMirror_writes (b index offset key : Nat) (bytes : Bytes) (s : State) :
    WritesO Part.standby s (execWindowMirror b index offset key bytes s) := by
  unfold execWindowMirror
  with_reducible repeat' first
    | exact .refl _ _ | apply Writes.step (State.modCopy_writes ..) | apply State.onStandby_writes | intro _ | split
    | apply WritesO.next | with_unfolding_all exact rfl

theorem execWriteNotice_writes (head : MirrorHead) (s : State) : WritesO Part.standby s (execWriteNotice head s) := by
  unfold execWriteNotice
  with_reducible repeat' first
    | exact .refl _ _ | apply Writes.step (State.modBed_writes ..) | apply Writes.step (State.modCopy_writes ..)
    | apply State.onStandby_writes | intro _ | split | apply WritesO.next | with_unfolding_all exact rfl

theorem execTransportNotice_writes (b : Nat) (n : Notice) (s : State) :
    WritesO Part.standby s (execTransportNotice b n s) := by
  unfold execTransportNotice
  with_reducible repeat' first
    | exact .refl _ _ | apply Writes.step (State.modCopy_writes ..) | apply State.onStandby_writes | intro _ | split
    | apply WritesO.next | with_unfolding_all exact rfl

theorem execFoldNotice_writes (b id fold : Nat) (s : State) : WritesO Part.standby s (execFoldNotice b id fold s) := by
  unfold execFoldNotice
  with_reducible repeat' first
    | exact .refl _ _ | apply Writes.step (State.modBed_writes ..) | apply State.onStandby_writes | intro _
    | apply Writes.step (State.setBed_writes ..) | split | apply WritesO.next | with_unfolding_all exact rfl

theorem execAccData_writes (b band fold : Nat) (sectors : List (Nat × Bytes × Bytes)) (s : State) :
    WritesO Part.standby s (execAccData b band fold sectors s) := by
  unfold execAccData
  with_reducible repeat' first
    | exact .refl _ _ | apply State.onStandby_writes | intro _ | apply Writes.step (State.putAcc_writes ..) | split
    | apply WritesO.next | with_unfolding_all exact rfl

theorem execRecordMirror_writes (id : Nat) (head : MirrorHead) (bytes : Bytes) (s : State) :
    WritesO Part.standby s (execRecordMirror id head bytes s) := by
  unfold execRecordMirror
  with_reducible repeat' first
    | exact .refl _ _ | apply Writes.step (State.modCopy_writes ..) | apply State.onStandby_writes | intro _
    | apply Writes.step (State.setDirty_writes ..) | split | apply WritesO.next | with_unfolding_all exact rfl

theorem execJoinRequest_writes (b msgId serial : Nat) (kcv : Bytes) (s : State) :
    WritesO Part.standby s (execJoinRequest b msgId serial kcv s) := by
  unfold execJoinRequest
  with_reducible repeat' first
    | exact .refl _ _ | apply Writes.step (State.gusAnswer_writes ..) | apply Writes.step (State.gusPiece_writes ..)
    | apply Writes.step (State.joinDelta_writes ..) | apply Writes.step (State.mirrorStaged_writes ..)
    | apply Writes.step (State.setBed_writes ..) | refine .ite (fun _ => ?_) (fun _ => ?_) | apply WritesO.next
    | refine Writes.fold (fun _ _ => ?_) ?_ | split | with_unfolding_all exact rfl

theorem execTickEnd_writes (s : State) : WritesO Part.standby s (execTickEnd s) := by
  unfold execTickEnd
  with_reducible repeat' first
    | exact .refl _ _ | apply Writes.step (State.applyRwls_writes ..) | apply Writes.step (State.at_writes ..)
    | apply Writes.step (State.gusSend_writes ..) | apply Writes.step (State.putTickStates_writes ..)
    | apply Writes.step (State.qpChanges_writes ..) | apply Writes.step (State.setFld_writes ..)
    | apply Writes.step (State.trimCache_writes ..) | split | apply WritesO.next | refine Writes.fold (fun _ _ => ?_) ?_
    | dsimp only | apply Writes.upd | exact Or.inr rfl | exact Or.inl rfl | with_unfolding_all exact rfl

theorem execConnect_writes (cap : Cap) (req : ConnectReq) (s : State) : WritesO Part.fabrics s (execConnect cap req s) := by
  unfold execConnect
  with_reducible repeat' first
    | exact .refl _ _ | apply Writes.step (State.addQueue_writes ..) | apply Writes.step (State.answer_writes ..)
    | apply Writes.step (State.darkCapsule_writes ..) | apply Writes.step (State.detachOthers_writes ..)
    | apply Writes.step (State.refuseConnect_writes ..) | apply Writes.step (State.waitCores_writes ..) | split
    | apply WritesO.next | dsimp only | apply Writes.upd | exact Or.inr rfl | exact Or.inl rfl | with_unfolding_all exact rfl

theorem execPropertyGet_writes (cap : Cap) (offset : Nat) (s : State) :
    WritesO Part.fabrics s (execPropertyGet cap offset s) := by
  unfold execPropertyGet
  with_reducible repeat' first
    | exact .refl _ _ | apply State.fabrics_writes | intro _ | apply Writes.step (State.finish_writes ..) | split
    | apply WritesO.next | with_unfolding_all exact rfl

theorem execPropertySet_writes (cap : Cap) (offset value : Nat) (s : State) :
    WritesO Part.fabrics s (execPropertySet cap offset value s) := by
  unfold execPropertySet
  with_reducible repeat' first
    | exact .refl _ _ | apply State.fabrics_writes | intro _ | apply Writes.step (State.finish_writes ..)
    | apply Writes.step (State.modAssoc_writes ..) | apply Writes.step (State.testOfReset_writes ..)
    | apply Writes.step (State.winRegister_writes ..) | apply Writes.step (State.winUnset_writes ..) | split
    | apply WritesO.next | with_unfolding_all exact rfl

theorem execDisconnect_writes (cap : Cap) (s : State) : WritesO Part.fabrics s (execDisconnect cap s) := by
  unfold execDisconnect
  with_reducible repeat' first
    | exact .refl _ _ | apply Writes.step (State.endAssoc_writes ..) | apply State.fabrics_writes | intro _
    | apply Writes.step (State.finish_writes ..) | apply Writes.step (State.mod_writes ..) | with_unfolding_all exact rfl

theorem execKeepAlive_writes (cap : Cap) (s : State) : WritesO Part.fabrics s (execKeepAlive cap s) := by
  unfold execKeepAlive
  with_reducible repeat' first
    | exact .refl _ _ | apply State.admin_writes | intro _ | apply Writes.step (State.finish_writes ..)
    | apply Writes.step (State.keepAlive_writes ..) | with_unfolding_all exact rfl

theorem execKeepAliveExpiry_writes (assoc : Nat) (s : State) : WritesO Part.fabrics s (execKeepAliveExpiry assoc s) := by
  unfold execKeepAliveExpiry
  with_reducible repeat' first
    | exact .refl _ _ | apply Writes.step (State.at_writes ..) | apply Writes.step (State.endAssoc_writes ..) | split
    | apply WritesO.next | with_unfolding_all exact rfl

theorem execGetLogPage_writes (cap : Cap) (lid offset len : Nat) (dptr : DataPtr) (s : State) :
    WritesO Part.fabrics s (execGetLogPage cap lid offset len dptr s) := by
  unfold execGetLogPage
  with_reducible repeat' first
    | exact .refl _ _ | apply State.admin_writes | intro _ | apply Writes.step (State.finish_writes ..)
    | apply Writes.step (State.modAssoc_writes ..) | apply Writes.step (State.sendPage_writes ..)
    | refine .ite (fun _ => ?_) (fun _ => ?_) | apply WritesO.next | split | with_unfolding_all exact rfl

theorem execIdentify_writes (cap : Cap) (cns nsid : Nat) (dptr : DataPtr) (s : State) :
    WritesO Part.fabrics s (execIdentify cap cns nsid dptr s) := by
  unfold execIdentify
  with_reducible repeat' first
    | exact .refl _ _ | apply State.admin_writes | intro _ | apply Writes.step (State.finish_writes ..)
    | apply Writes.step (State.sendPage_writes ..) | split | apply WritesO.next | with_unfolding_all exact rfl

theorem execSetFeatures_writes (cap : Cap) (fid : Nat) (v : FeatureVal) (s : State) :
    WritesO Part.fabrics s (execSetFeatures cap fid v s) := by
  unfold execSetFeatures
  with_reducible repeat' first
    | exact .refl _ _ | apply State.admin_writes | intro _ | apply Writes.step (State.finish_writes ..)
    | apply Writes.step (State.modAssoc_writes ..) | split | apply WritesO.next | with_unfolding_all exact rfl

theorem execGetFeatures_writes (cap : Cap) (fid : Nat) (dptr : DataPtr) (s : State) :
    WritesO Part.fabrics s (execGetFeatures cap fid dptr s) := by
  unfold execGetFeatures
  with_reducible repeat' first
    | exact .refl _ _ | apply State.admin_writes | intro _ | apply Writes.step (State.finish_writes ..)
    | apply Writes.step (State.sendPage_writes ..) | split | apply WritesO.next | with_unfolding_all exact rfl

theorem execAsynchronousEventRequest_writes (cap : Cap) (s : State) :
    WritesO Part.fabrics s (execAsynchronousEventRequest cap s) := by
  unfold execAsynchronousEventRequest
  with_reducible repeat' first
    | exact .refl _ _ | apply State.admin_writes | intro _ | apply Writes.step (State.finish_writes ..)
    | apply Writes.step (State.modAssoc_writes ..) | split | apply WritesO.next | with_unfolding_all exact rfl

theorem execAdminOpcodeUnsupported_writes (cap : Cap) (opcode : Nat) (s : State) :
    WritesO Part.fabrics s (execAdminOpcodeUnsupported cap opcode s) := by
  unfold execAdminOpcodeUnsupported
  with_reducible repeat' first
    | exact .refl _ _ | apply State.admin_writes | intro _ | apply Writes.step (State.finish_writes ..)
    | with_unfolding_all exact rfl

theorem execNamespaceAttachment_writes (cap : Cap) (nsid : Nat) (attach : Bool) (ctrls : CtrlList) (s : State) :
    WritesO Part.fabrics s (execNamespaceAttachment cap nsid attach ctrls s) := by
  unfold execNamespaceAttachment
  with_reducible repeat' first
    | exact .refl _ _ | apply State.admin_writes | intro _ | apply Writes.step (State.finish_writes ..)
    | apply Writes.step (State.nsChanged_writes ..) | split | apply WritesO.next | dsimp only | apply Writes.upd
    | exact Or.inr rfl | exact Or.inl rfl | with_unfolding_all exact rfl

theorem execCreateIoSubmissionQueue_writes (cap : Cap) (qid size cqid : Nat) (s : State) :
    WritesO Part.fabrics s (execCreateIoSubmissionQueue cap qid size cqid s) := by
  unfold execCreateIoSubmissionQueue
  with_reducible repeat' first
    | exact .refl _ _ | apply Writes.step (State.finish_writes ..) | apply State.queueCmd_writes | intro _ | split
    | apply WritesO.next | dsimp only | apply Writes.upd | exact Or.inr rfl | exact Or.inl rfl | with_unfolding_all exact rfl

theorem execDeleteIoSubmissionQueue_writes (cap : Cap) (qid : Nat) (s : State) :
    WritesO Part.fabrics s (execDeleteIoSubmissionQueue cap qid s) := by
  unfold execDeleteIoSubmissionQueue
  with_reducible repeat' first
    | exact .refl _ _ | apply Writes.step (State.dropCmd_writes ..) | apply Writes.step (State.finish_writes ..)
    | apply Writes.step (State.mod_writes ..) | apply Writes.step (State.pmuCommand_writes ..) | apply State.queueCmd_writes
    | intro _ | split | apply WritesO.next | refine Writes.fold (fun _ _ => ?_) ?_ | dsimp only | apply Writes.upd
    | exact Or.inr rfl | exact Or.inl rfl | with_unfolding_all exact rfl

theorem execCreateIoCompletionQueue_writes (cap : Cap) (qid size : Nat) (vec : Option Nat) (s : State) :
    WritesO Part.fabrics s (execCreateIoCompletionQueue cap qid size vec s) := by
  unfold execCreateIoCompletionQueue
  with_reducible repeat' first
    | exact .refl _ _ | apply Writes.step (State.finish_writes ..) | apply State.queueCmd_writes | intro _ | split
    | apply WritesO.next | dsimp only | apply Writes.upd | exact Or.inr rfl | exact Or.inl rfl | with_unfolding_all exact rfl

theorem execDeleteIoCompletionQueue_writes (cap : Cap) (qid : Nat) (s : State) :
    WritesO Part.fabrics s (execDeleteIoCompletionQueue cap qid s) := by
  unfold execDeleteIoCompletionQueue
  with_reducible repeat' first
    | exact .refl _ _ | apply Writes.step (State.finish_writes ..) | apply State.queueCmd_writes | intro _ | split
    | apply WritesO.next | dsimp only | apply Writes.upd | exact Or.inr rfl | exact Or.inl rfl | with_unfolding_all exact rfl

theorem execDoorbellWrite_writes (qid : Nat) (isCq : Bool) (value : Nat) (s : State) :
    WritesO Part.fabrics s (execDoorbellWrite qid isCq value s) := by
  unfold execDoorbellWrite
  with_reducible repeat' first
    | exact .refl _ _ | apply Writes.step (State.eptFetch_writes ..) | apply Writes.step (State.fn0Dropped_writes ..)
    | apply Writes.step (State.releaseAll_writes ..) | split | apply WritesO.next | refine Writes.fold (fun _ _ => ?_) ?_
    | dsimp only | apply Writes.upd | exact Or.inr rfl | exact Or.inl rfl | with_unfolding_all exact rfl

theorem execWindowRegister_writes (cap : Cap) (s : State) : WritesO Part.fabrics s (execWindowRegister cap s) := by
  unfold execWindowRegister
  with_reducible repeat' first
    | exact .refl _ _ | apply State.fabrics_writes | intro _ | apply Writes.step (State.finish_writes ..)
    | apply Writes.step (State.winRegister_writes ..) | with_unfolding_all exact rfl

theorem execWindowRevokeProperty_writes (cap : Cap) (s : State) : WritesO Part.fabrics s (execWindowRevokeProperty cap s) := by
  unfold execWindowRevokeProperty
  with_reducible repeat' first
    | exact .refl _ _ | apply State.fabrics_writes | intro _ | apply Writes.step (State.finish_writes ..)
    | apply Writes.step (State.winUnset_writes ..) | with_unfolding_all exact rfl

theorem execFlush_writes (cap : Cap) (nsid : Nat) (s : State) : WritesO Part.fabrics s (execFlush cap nsid s) := by
  unfold execFlush
  dsimp only
  with_reducible repeat' first
    | exact .refl _ _ | apply Writes.step (State.arrive_writesE (by assumption)) | apply Writes.step (State.arrive_writes ..)
    | apply Writes.step (State.darkCapsule_writes ..) | apply Writes.step (State.finish_writes ..) | split
    | apply WritesO.next | refine Writes.fold (fun _ _ => ?_) ?_ | dsimp only | apply Writes.upd | exact Or.inr rfl
    | exact Or.inl rfl | with_unfolding_all exact rfl

theorem execParkTimeout_writes (arrival : Nat) (s : State) : WritesO Part.fabrics s (execParkTimeout arrival s) := by
  unfold execParkTimeout
  with_reducible repeat' first
    | exact .refl _ _ | apply Writes.step (State.at_writes ..) | apply Writes.step (State.finish_writes ..) | split
    | apply WritesO.next | with_unfolding_all exact rfl

theorem execSelfTestAbort_writes (cap : Cap) (s : State) : WritesO Part.fabrics s (execSelfTestAbort cap s) := by
  unfold execSelfTestAbort
  with_reducible repeat' first
    | exact .refl _ _ | apply State.admin_writes | intro _ | apply Writes.step (State.endTest_writes ..)
    | apply Writes.step (State.finish_writes ..) | with_unfolding_all exact rfl

theorem execSelfTestPauseLimit_writes (s : State) : WritesO Part.fabrics s (execSelfTestPauseLimit s) := by
  unfold execSelfTestPauseLimit
  with_reducible repeat' first
    | exact .refl _ _ | apply Writes.step (State.at_writes ..) | apply Writes.step (State.endTest_writes ..) | split
    | apply WritesO.next | with_unfolding_all exact rfl

theorem execControllerEnable_writes (sqSize cqSize : Nat) (s : State) :
    WritesO Part.fabrics s (execControllerEnable sqSize cqSize s) := by
  unfold execControllerEnable
  with_reducible repeat' first
    | exact .refl _ _ | apply Writes.step (State.addQueue_writes ..) | apply Writes.step (State.detachOthers_writes ..)
    | apply Writes.step (State.fn0Dropped_writes ..) | split | apply WritesO.next | dsimp only | apply Writes.upd
    | exact Or.inr rfl | exact Or.inl rfl | with_unfolding_all exact rfl

theorem execIoOpcodeUnsupported_writes (cap : Cap) (nsid opcode : Nat) (s : State) :
    WritesO Part.unknown s (execIoOpcodeUnsupported cap nsid opcode s) := by
  unfold execIoOpcodeUnsupported
  with_reducible repeat' first
    | exact .refl _ _ | apply Writes.step (State.unsupported_writes ..) | split | apply WritesO.next
    | with_unfolding_all exact rfl

theorem execKvOpcodeUnsupported_writes (cap : Cap) (nsid opcode : Nat) (s : State) :
    WritesO Part.unknown s (execKvOpcodeUnsupported cap nsid opcode s) := by
  unfold execKvOpcodeUnsupported
  with_reducible repeat' first
    | exact .refl _ _ | apply Writes.step (State.unsupported_writes ..) | split | apply WritesO.next
    | with_unfolding_all exact rfl

theorem execAccept_writes (h : RackHead) (candidate : Nat) (s : State) : WritesO Part.fleet s (execAccept h candidate s) := by
  unfold execAccept
  with_reducible repeat' first
    | exact .refl _ _ | apply Writes.step (State.rackIn_writesE (by assumption)) | apply Writes.step (State.rackIn_writes ..)
    | apply Writes.step (State.waitFrame_writes ..) | split | apply WritesO.next | dsimp only | apply Writes.upd
    | exact Or.inr rfl | exact Or.inl rfl | with_unfolding_all exact rfl

theorem execRefuse_writes (h : RackHead) (candidate reason highest : Nat) (s : State) :
    WritesO Part.fleet s (execRefuse h candidate reason highest s) := by
  unfold execRefuse
  with_reducible repeat' first
    | exact .refl _ _ | apply Writes.step (State.rackIn_writesE (by assumption)) | apply Writes.step (State.rackIn_writes ..)
    | apply Writes.step (State.waitFrame_writes ..) | split | apply WritesO.next | with_unfolding_all exact rfl

theorem execRelease_writes (h : RackHead) (s : State) : WritesO Part.fleet s (execRelease h s) := by
  unfold execRelease
  with_reducible repeat' first
    | exact .refl _ _ | apply Writes.step (State.rackIn_writesE (by assumption)) | apply Writes.step (State.rackIn_writes ..)
    | apply Writes.step (State.waitFrame_writes ..) | split | apply WritesO.next | dsimp only | apply Writes.upd
    | exact Or.inr rfl | exact Or.inl rfl | with_unfolding_all exact rfl

theorem execClaim_writes (h : RackHead) (expiry : Nat) (s : State) : WritesO Part.fleet s (execClaim h expiry s) := by
  unfold execClaim
  with_reducible repeat' first
    | exact .refl _ _ | apply Writes.step (State.bump_writes ..) | apply Writes.step (State.rackIn_writesE (by assumption))
    | apply Writes.step (State.rackIn_writes ..) | apply Writes.step (State.rackSend_writes ..)
    | apply Writes.step (State.takeEpoch_writes ..) | apply Writes.step (State.waitFrame_writes ..) | split
    | apply WritesO.next | dsimp only | apply Writes.upd | exact Or.inr rfl | exact Or.inl rfl | with_unfolding_all exact rfl

theorem execRenew_writes (h : RackHead) (expiry planGen : Nat) (s : State) :
    WritesO Part.fleet s (execRenew h expiry planGen s) := by
  unfold execRenew
  with_reducible repeat' first
    | exact .refl _ _ | apply Writes.step (State.rackIn_writesE (by assumption)) | apply Writes.step (State.rackIn_writes ..)
    | apply Writes.step (State.sendStatus_writes ..) | apply Writes.step (State.waitFrame_writes ..) | split
    | apply WritesO.next | dsimp only | apply Writes.upd | exact Or.inr rfl | exact Or.inl rfl | with_unfolding_all exact rfl

theorem execRenewTimer_writes (s : State) : WritesO Part.fleet s (execRenewTimer s) := by
  unfold execRenewTimer
  with_reducible repeat' first
    | exact .refl _ _ | apply Writes.step (State.at_writes ..) | apply Writes.step (State.renew_writes ..) | split
    | apply WritesO.next | with_unfolding_all exact rfl

theorem execLeaseOrderLimit_writes (s : State) : WritesO Part.fleet s (execLeaseOrderLimit s) := by
  unfold execLeaseOrderLimit
  with_reducible repeat' first
    | exact .refl _ _ | apply Writes.step (State.at_writes ..) | apply Writes.step (State.rackStop_writes ..) | split
    | apply WritesO.next | with_unfolding_all exact rfl

theorem execClaimCountEnd_writes (s : State) : WritesO Part.fleet s (execClaimCountEnd s) := by
  unfold execClaimCountEnd
  with_reducible repeat' first
    | exact .refl _ _ | apply Writes.step (State.at_writes ..) | apply Writes.step (State.drawn_writes ..)
    | apply Writes.step (State.renew_writes ..) | split | apply WritesO.next | dsimp only | apply Writes.upd
    | exact Or.inr rfl | exact Or.inl rfl | with_unfolding_all exact rfl

theorem execClaimTimer_writes (s : State) : WritesO Part.fleet s (execClaimTimer s) := by
  unfold execClaimTimer
  with_reducible repeat' first
    | exact .refl _ _ | apply Writes.step (State.at_writes ..) | apply Writes.step (State.claim_writes ..)
    | apply Writes.step (State.drawn_writes ..) | split | apply WritesO.next | dsimp only | apply Writes.upd
    | exact Or.inr rfl | exact Or.inl rfl | with_unfolding_all exact rfl

theorem execRefclkReturn_writes (s : State) : WritesO Part.clocks s (execRefclkReturn s) := by
  unfold execRefclkReturn
  with_reducible repeat' first
    | exact .refl _ _ | split | apply WritesO.next | dsimp only | apply Writes.upd | exact Or.inr rfl | exact Or.inl rfl

theorem execSerdesRefclkReturn_writes (ref : Nat) (s : State) : WritesO Part.clocks s (execSerdesRefclkReturn ref s) := by
  unfold execSerdesRefclkReturn
  with_reducible repeat' first
    | exact .refl _ _ | split | apply WritesO.next | dsimp only | apply Writes.upd | exact Or.inr rfl | exact Or.inl rfl

theorem execPtpSampleTimeout_writes (s : State) : WritesO Part.clocks s (execPtpSampleTimeout s) := by
  unfold execPtpSampleTimeout
  with_reducible repeat' first
    | exact .refl _ _ | apply Writes.step (State.at_writes ..) | split | apply WritesO.next | dsimp only | apply Writes.upd
    | exact Or.inr rfl | exact Or.inl rfl | with_unfolding_all exact rfl

theorem execPpsOutSecond_writes (s : State) : WritesO Part.clocks s (execPpsOutSecond s) := by
  unfold execPpsOutSecond
  with_reducible repeat' first
    | exact .refl _ _ | apply Writes.step (State.applyRwl_writes ..) | apply Writes.step (State.emit_writes ..) | split
    | apply WritesO.next | dsimp only | apply Writes.upd | exact Or.inr rfl | exact Or.inl rfl | with_unfolding_all exact rfl

end Sys2Proof.Machine
end

section
/-! What a group of commands leaves as it was, said of the whole state. -/

namespace Sys2Proof.Machine

/-- The state `s` with the parts listed as they are in `t`. -/
def State.patch (ps : List Part) (s t : State) : State where
  now := if ps.contains .now then t.now else s.now
  frac := if ps.contains .frac then t.frac else s.frac
  toff := if ps.contains .toff then t.toff else s.toff
  fuses := if ps.contains .fuses then t.fuses else s.fuses
  regs := if ps.contains .regs then t.regs else s.regs
  shelf := if ps.contains .shelf then t.shelf else s.shelf
  rst := if ps.contains .rst then t.rst else s.rst
  pwr := if ps.contains .pwr then t.pwr else s.pwr
  clk := if ps.contains .clk then t.clk else s.clk
  thm := if ps.contains .thm then t.thm else s.thm
  spc := if ps.contains .spc then t.spc else s.spc
  cmd := if ps.contains .cmd then t.cmd else s.cmd
  cfg := if ps.contains .cfg then t.cfg else s.cfg
  beds := if ps.contains .beds then t.beds else s.beds
  drv := if ps.contains .drv then t.drv else s.drv
  rill := if ps.contains .rill then t.rill else s.rill
  cph := if ps.contains .cph then t.cph else s.cph
  gus := if ps.contains .gus then t.gus else s.gus
  mnt := if ps.contains .mnt then t.mnt else s.mnt
  net := if ps.contains .net then t.net else s.net
  slu := if ps.contains .slu then t.slu else s.slu
  rack := if ps.contains .rack then t.rack else s.rack
  ept := if ps.contains .ept then t.ept else s.ept
  pmu := if ps.contains .pmu then t.pmu else s.pmu
  mram := if ps.contains .mram then t.mram else s.mram
  nor := if ps.contains .nor then t.nor else s.nor
  out := if ps.contains .out then t.out else s.out
  free := if ps.contains .free then t.free else s.free
  pending := if ps.contains .pending then t.pending else s.pending

theorem Writes.part_eq {ps : List Part} {s t : State} (h : Writes ps s t) (p : Part) {α : Type} (g : State → α)
    (hg : p.same s t → g t = g s) : g t = if ps.contains p then g t else g s := by
  cases hp : ps.contains p
  · exact hg (h.rest p hp)
  · rfl

theorem Writes.eq_patch {ps : List Part} {s t : State} (h : Writes ps s t) : t = s.patch ps t := by
  cases t
  simp only [State.patch, State.mk.injEq]
  refine ⟨?_, ?_, ?_, ?_, ?_, ?_, ?_, ?_, ?_, ?_, ?_, ?_, ?_, ?_, ?_, ?_, ?_, ?_, ?_, ?_, ?_, ?_, ?_, ?_, ?_, ?_, ?_, ?_, ?_⟩
  · exact h.part_eq .now State.now id
  · exact h.part_eq .frac State.frac id
  · exact h.part_eq .toff State.toff id
  · exact h.part_eq .fuses State.fuses id
  · exact h.part_eq .regs State.regs id
  · exact h.part_eq .shelf State.shelf id
  · exact h.part_eq .rst State.rst id
  · exact h.part_eq .pwr State.pwr id
  · exact h.part_eq .clk State.clk id
  · exact h.part_eq .thm State.thm id
  · exact h.part_eq .spc State.spc id
  · exact h.part_eq .cmd State.cmd id
  · exact h.part_eq .cfg State.cfg id
  · exact h.part_eq .beds State.beds id
  · exact h.part_eq .drv State.drv id
  · exact h.part_eq .rill State.rill id
  · exact h.part_eq .cph State.cph id
  · exact h.part_eq .gus State.gus id
  · exact h.part_eq .mnt State.mnt id
  · exact h.part_eq .net State.net id
  · exact h.part_eq .slu State.slu id
  · exact h.part_eq .rack State.rack id
  · exact h.part_eq .ept State.ept id
  · exact h.part_eq .pmu State.pmu id
  · exact h.part_eq .mram State.mram id
  · exact h.part_eq .nor State.nor id
  · exact h.part_eq .out State.out id
  · exact h.part_eq .free State.free id
  · exact h.part_eq .pending State.pending id

theorem exec_writes_of_transport {c : Instr} (s : State) (hc : c.ofTransport = true) : WritesO Part.transport s (exec c s) := by
  cases c
  case cmReq req => exact execCmReq_writes req s
  case cmRtu i => exact execCmRtu_writes i s
  case cmRej i => exact execCmRej_writes i s
  case cmDreq i => exact execCmDreq_writes i s
  case cmDrep i => exact execCmDrep_writes i s
  case cnpReceived i => exact execCnpReceived_writes i s
  case gapTimeout i => exact execGapTimeout_writes i s
  case ackTimerExpiry i => exact execAckTimerExpiry_writes i s
  case ccRateIncrease i => exact execCcRateIncrease_writes i s
  case rnrRetryExpiry i => exact execRnrRetryExpiry_writes i s
  case triggeredWrPost qp counter threshold wr => exact execTriggeredWrPost_writes qp counter threshold wr s
  case localWrComplete counter => exact execLocalWrComplete_writes counter s
  case qpnIndexReturn i => exact execQpnIndexReturn_writes i s
  case addressAnnounce => exact execAddressAnnounce_writes s
  all_goals exact absurd hc Bool.false_ne_true

theorem exec_writes_of_link {c : Instr} (s : State) (hc : c.ofLink = true) : WritesO Part.link s (exec c s) := by
  cases c
  case gussetLinkDown => exact execGussetLinkDown_writes s
  case gussetLinkUp => exact execGussetLinkUp_writes s
  case gussetRetransmitTimer => exact execGussetRetransmitTimer_writes s
  case gussetDownDetach => exact execGussetDownDetach_writes s
  case gussetAckTimer => exact execGussetAckTimer_writes s
  case accRequest b ask => exact execAccRequest_writes b ask s
  case heartbeatSend => exact execHeartbeatSend_writes s
  case slotGrant => exact execSlotGrant_writes s
  all_goals exact absurd hc Bool.false_ne_true

theorem exec_writes_of_standby {c : Instr} (s : State) (hc : c.ofStandby = true) : WritesO Part.standby s (exec c s) := by
  cases c
  case windowMirror b index offset key bytes => exact execWindowMirror_writes b index offset key bytes s
  case writeNotice head => exact execWriteNotice_writes head s
  case transportNotice b n => exact execTransportNotice_writes b n s
  case foldNotice b id fold => exact execFoldNotice_writes b id fold s
  case accData b band fold sectors => exact execAccData_writes b band fold sectors s
  case recordMirror id head bytes => exact execRecordMirror_writes id head bytes s
  case joinRequest b msgId serial kcv => exact execJoinRequest_writes b msgId serial kcv s
  case tickEnd => exact execTickEnd_writes s
  all_goals exact absurd hc Bool.false_ne_true

theorem exec_writes_of_fabrics {c : Instr} (s : State) (hc : c.ofFabrics = true) : WritesO Part.fabrics s (exec c s) := by
  cases c
  case connect cap req => exact execConnect_writes cap req s
  case propertyGet cap offset => exact execPropertyGet_writes cap offset s
  case propertySet cap offset value => exact execPropertySet_writes cap offset value s
  case disconnect cap => exact execDisconnect_writes cap s
  case keepAlive cap => exact execKeepAlive_writes cap s
  case keepAliveExpiry assoc => exact execKeepAliveExpiry_writes assoc s
  case getLogPage cap lid offset len dptr => exact execGetLogPage_writes cap lid offset len dptr s
  case identify cap cns nsid dptr => exact execIdentify_writes cap cns nsid dptr s
  case setFeatures cap fid v => exact execSetFeatures_writes cap fid v s
  case getFeatures cap fid dptr => exact execGetFeatures_writes cap fid dptr s
  case asynchronousEventRequest cap => exact execAsynchronousEventRequest_writes cap s
  case adminOpcodeUnsupported cap opcode => exact execAdminOpcodeUnsupported_writes cap opcode s
  case namespaceAttachment cap nsid attach ctrls => exact execNamespaceAttachment_writes cap nsid attach ctrls s
  case createIoSubmissionQueue cap qid size cqid => exact execCreateIoSubmissionQueue_writes cap qid size cqid s
  case deleteIoSubmissionQueue cap qid => exact execDeleteIoSubmissionQueue_writes cap qid s
  case createIoCompletionQueue cap qid size vec => exact execCreateIoCompletionQueue_writes cap qid size vec s
  case deleteIoCompletionQueue cap qid => exact execDeleteIoCompletionQueue_writes cap qid s
  case doorbellWrite qid isCq value => exact execDoorbellWrite_writes qid isCq value s
  case windowRegister cap => exact execWindowRegister_writes cap s
  case windowRevokeProperty cap => exact execWindowRevokeProperty_writes cap s
  case flush cap nsid => exact execFlush_writes cap nsid s
  case parkTimeout arrival => exact execParkTimeout_writes arrival s
  case selfTestAbort cap => exact execSelfTestAbort_writes cap s
  case selfTestPauseLimit => exact execSelfTestPauseLimit_writes s
  case controllerEnable sqSize cqSize => exact execControllerEnable_writes sqSize cqSize s
  all_goals exact absurd hc Bool.false_ne_true

theorem exec_writes_of_unknown {c : Instr} (s : State) (hc : c.ofUnknown = true) : WritesO Part.unknown s (exec c s) := by
  cases c
  case ioOpcodeUnsupported cap nsid opcode => exact execIoOpcodeUnsupported_writes cap nsid opcode s
  case kvOpcodeUnsupported cap nsid opcode => exact execKvOpcodeUnsupported_writes cap nsid opcode s
  all_goals exact absurd hc Bool.false_ne_true

theorem exec_writes_of_fleet {c : Instr} (s : State) (hc : c.ofRack = true) : WritesO Part.fleet s (exec c s) := by
  cases c
  case accept h candidate => exact execAccept_writes h candidate s
  case refuse h candidate reason highest => exact execRefuse_writes h candidate reason highest s
  case release h => exact execRelease_writes h s
  case claim h expiry => exact execClaim_writes h expiry s
  case renew h expiry planGen => exact execRenew_writes h expiry planGen s
  case renewTimer => exact execRenewTimer_writes s
  case leaseOrderLimit => exact execLeaseOrderLimit_writes s
  case claimCountEnd => exact execClaimCountEnd_writes s
  case claimTimer => exact execClaimTimer_writes s
  all_goals exact absurd hc Bool.false_ne_true

theorem exec_writes_of_clocks {c : Instr} (s : State) (hc : c.ofClocks = true) : WritesO Part.clocks s (exec c s) := by
  cases c
  case refclkReturn => exact execRefclkReturn_writes s
  case serdesRefclkReturn ref => exact execSerdesRefclkReturn_writes ref s
  case ptpSampleTimeout => exact execPtpSampleTimeout_writes s
  case ppsOutSecond => exact execPpsOutSecond_writes s
  all_goals exact absurd hc Bool.false_ne_true

/-- Settles O58: each command of the three groups writes within its group's frame. -/
theorem transportAndStandbyCommandsLeaveTheRest : Obligations.TransportAndStandbyCommandsLeaveTheRest := by
  unfold Obligations.TransportAndStandbyCommandsLeaveTheRest
  refine ⟨fun c s t hc e => ?_, fun c s t hc e => ?_, fun c s t hc e => ?_⟩
  · exact (exec_writes_of_transport s hc t e).eq_patch
  · exact (exec_writes_of_link s hc t e).eq_patch
  · exact (exec_writes_of_standby s hc t e).eq_patch

/-- Settles O59: each command of the four groups writes within its group's frame. -/
theorem fabricsRackAndClockCommandsLeaveTheRest : Obligations.FabricsRackAndClockCommandsLeaveTheRest := by
  unfold Obligations.FabricsRackAndClockCommandsLeaveTheRest
  refine ⟨fun c s t hc e => ?_, fun c s t hc e => ?_, fun c s t hc e => ?_, fun c s t hc e => ?_⟩
  · exact (exec_writes_of_fabrics s hc t e).eq_patch
  · exact (exec_writes_of_unknown s hc t e).eq_patch
  · exact (exec_writes_of_fleet s hc t e).eq_patch
  · exact (exec_writes_of_clocks s hc t e).eq_patch

end Sys2Proof.Machine
end
